-- ==== Sys2Proof/Word.lean ====
section
/-! DEFINITION. The word types of the block and the plain-data map that every sparse part of the state is kept in. -/

namespace Sys2Proof

/-- A Plasis general register or a 64-bit register word. -/
abbrev Word := BitVec 64

/-- One byte. -/
abbrev Byte := BitVec 8

/-- One line of 64 bytes, byte 0 in the low bits (R1). -/
abbrev Line := BitVec 512

/-- A byte mask of one line, bit k for byte k. -/
abbrev LineMask := BitVec 64

/-- A sparse map: key and value pairs, keys strictly rising, no entry equal to what an unlisted key reads as. -/
abbrev SMap (α : Type) := List (Nat × α)

/-- Bit errors found in one line of a cache array (R192): for a byte, the flipped positions of its 12-bit codeword
(bit k for position k + 1), and the flipped bits of the line's CRC. A physical fact that a command carries. -/
structure Flips where
  bytes : List (Nat × BitVec 12)
  crc : BitVec 16
  deriving DecidableEq, Repr

/-- No bit error. -/
def Flips.none : Flips := ⟨[], 0⟩

/-- Who makes a request at a home slice: a host port (0), a curator context (1), a job of a context (2), or the device
itself (3); its number and its tag or job slot. -/
structure Master where
  kind : Fin 4
  id : Fin 256
  tag : Nat
  deriving DecidableEq, Repr

end Sys2Proof
end

