-- ==== Sys2Proof/Syntax.lean ====
section
/-! DEFINITION. The commands: one constructor per row of the table of operations and events, with the operands
its rule gives it. A physical fact that only the outside knows (a sensed voltage, an error pattern, a byte on a
wire) is an operand of the command that carries it. -/

namespace Sys2Proof

inductive Instr where
  /-- REGISTER_WRITE, R3. -/
  | registerWrite (port : Fin 4) (bar2 : Bool) (off : BitVec 25) (size : BitVec 8) (value : Word) (libOk : Bool)
  /-- READ_LOW_HALF, R4. -/
  | readLowHalf (port : Fin 4) (bar2 : Bool) (off : BitVec 25) (size : BitVec 8)
  /-- DEVICE_RESET, R25. -/
  | deviceReset (port : Fin 4)
  /-- CLAMP_CLEAR, R24. -/
  | clampClear (port : Fin 4) (value : BitVec 32)
  /-- WING_RESET, R26. -/
  | wingReset (port : Fin 4) (wings : BitVec 8)
  /-- WING_RESET_RELEASE, R26. -/
  | wingResetRelease (wing : Fin 8)
  /-- RING_RETRY, R16. -/
  | ringRetry (ga : BitVec 50)
  /-- RING_REQUEST_TIMEOUT, R206. -/
  | ringRequestTimeout (m : Master) (load : Bool) (ga : BitVec 50)
  /-- CXL_MEM_READ, R35. -/
  | cxlMemRead (port : Fin 4) (tag : Nat) (hpa : BitVec 52)
  /-- CXL_MEM_WRITE, R56. -/
  | cxlMemWrite (port : Fin 4) (tag : Nat) (hpa : BitVec 52) (data : Line) (mask : LineMask) (poison : Bool)
      (fl : Flips)
  /-- EARLY_ACK_DELIVER, R229. -/
  | earlyAckDeliver (port : Fin 4) (fl : Flips)
  /-- GPF_PHASE1, R97. -/
  | gpfPhase1 (port : Fin 4)
  /-- GPF_PHASE2, R97. -/
  | gpfPhase2 (port : Fin 4)
  /-- HDM_COMMIT, R36. -/
  | hdmCommit (port : Fin 4) (n : Fin 8) (hpa size ways gran : Nat) (lock commit : Bool)
  /-- PERST_DEASSERT, R304. -/
  | perstDeassert (port : Fin 4)
  /-- PORT_CONFIG_LOADED, R304. -/
  | portConfigLoaded (port : Fin 4)
  /-- HOST_LINK_TRAINED, R303. -/
  | hostLinkTrained (port : Fin 4) (speed : Fin 6) (width : Fin 6) (cxl : Bool)
  /-- PERST_ASSERT, R306. -/
  | perstAssert (port : Fin 4)
  /-- HOT_RESET, R306. -/
  | hotReset (port : Fin 4)
  /-- PORT_LINK_DOWN, R306. -/
  | portLinkDown (port : Fin 4)
  /-- GET_EVENT_RECORDS, R314. -/
  | getEventRecords (port : Fin 4) (log : BitVec 8)
  /-- CLEAR_EVENT_RECORDS, R314. -/
  | clearEventRecords (port : Fin 4) (log : BitVec 8) (all : Bool) (handles : List (BitVec 16))
  /-- GET_EVENT_INTERRUPT_POLICY, R312. -/
  | getEventInterruptPolicy (port : Fin 4)
  /-- SET_EVENT_INTERRUPT_POLICY, R328. -/
  | setEventInterruptPolicy (port : Fin 4) (modes : BitVec 2 × BitVec 2 × BitVec 2 × BitVec 2)
  /-- GET_FW_INFO, R511. -/
  | getFwInfo (port : Fin 4)
  /-- TRANSFER_FW_INITIATE, R500. -/
  | transferFwInitiate (port : Fin 4) (data : List (BitVec 8)) (full : Option (Fin 256))
  /-- TRANSFER_FW_CONTINUE, R500. -/
  | transferFwContinue (port : Fin 4) (off : BitVec 32) (data : List (BitVec 8))
  /-- TRANSFER_FW_END, R501. -/
  | transferFwEnd (port : Fin 4) (off : BitVec 32) (data : List (BitVec 8)) (slot : Fin 256)
  /-- TRANSFER_FW_ABORT, R502. -/
  | transferFwAbort (port : Fin 4)
  /-- FW_TRANSFER_CHECK_DONE, R501. -/
  | fwTransferCheckDone
  /-- TRANSFER_IDLE_TIMEOUT, R502. -/
  | transferIdleTimeout
  /-- ACTIVATE_FW_ONLINE, R503. -/
  | activateFwOnline (port : Fin 4) (slot : Fin 256) (libOk : Bool)
  /-- ACTIVATE_FW_OFFLINE, R507. -/
  | activateFwOffline (port : Fin 4) (slot : Fin 256)
  /-- GET_TIMESTAMP, R312. -/
  | getTimestamp (port : Fin 4)
  /-- GET_SUPPORTED_LOGS, R312. -/
  | getSupportedLogs (port : Fin 4)
  /-- GET_LOG, R312. -/
  | getLog (port : Fin 4) (effects : Bool) (off len : BitVec 32)
  /-- IDENTIFY_MEMORY_DEVICE, R312. -/
  | identifyMemoryDevice (port : Fin 4)
  /-- GET_PARTITION_INFO, R312. -/
  | getPartitionInfo (port : Fin 4)
  /-- GET_LSA, R311. -/
  | getLsa (port : Fin 4) (off len : BitVec 32)
  /-- SET_LSA, R311. -/
  | setLsa (port : Fin 4) (off : BitVec 32) (data : List (BitVec 8))
  /-- GET_HEALTH_INFO, R313. -/
  | getHealthInfo (port : Fin 4)
  /-- GET_ALERT_CONFIGURATION, R312. -/
  | getAlertConfiguration (port : Fin 4)
  /-- SET_ALERT_CONFIGURATION, R312. -/
  | setAlertConfiguration (port : Fin 4) (life : Option (BitVec 8)) (overC underC : Option (BitVec 16))
  /-- GET_SHUTDOWN_STATE, R312. -/
  | getShutdownState (port : Fin 4)
  /-- SET_SHUTDOWN_STATE, R312. -/
  | setShutdownState (port : Fin 4) (v : BitVec 8)
  /-- GET_POISON_LIST, R172. -/
  | getPoisonList (port : Fin 4) (dpa lines : Word)
  /-- INJECT_POISON, R312. -/
  | injectPoison (port : Fin 4) (dpa : Word)
  /-- CLEAR_POISON, R312. -/
  | clearPoison (port : Fin 4) (dpa : Word) (data : Line)
  /-- SVAPEL_REGISTER_READ, R312. -/
  | svapelRegisterRead (port : Fin 4) (off : BitVec 25) (size : BitVec 8)
  /-- SVAPEL_REGISTER_WRITE, R312. -/
  | svapelRegisterWrite (port : Fin 4) (off : BitVec 25) (size : BitVec 8) (value : Word) (libOk : Bool)
  /-- SVAPEL_GET_BREACH_LIST, R312. -/
  | svapelGetBreachList (port : Fin 4) (index : BitVec 16)
  /-- SVAPEL_ACKNOWLEDGE_BREACH, R95. -/
  | svapelAcknowledgeBreach (port : Fin 4)
  /-- MAILBOX_UNSUPPORTED, R312. -/
  | mailboxUnsupported (port : Fin 4) (opcode : BitVec 16)
  /-- PUSH, R319. -/
  | push (port : Fin 4) (queue : Fin 4096) (off : Fin 64) (size : Nat) (data : Line)
  /-- PUSHMORE, R320. -/
  | pushmore (port : Fin 4) (queue : Fin 4096) (off : Fin 64) (size : Nat) (data : Line)
  /-- POP, R323. -/
  | pop (port : Fin 4) (queue : Fin 4096) (off : Fin 64) (size : Nat) (corr : Fin 9) (unc : Bool)
  /-- ATQ_ENABLE, R317. -/
  | atqEnable (port : Fin 4) (queue : Fin 4096) (cfg : BitVec 63)
  /-- ATQ_DISABLE, R317. -/
  | atqDisable (port : Fin 4) (queue : Fin 4096) (cfg : BitVec 63)
  /-- ATQ_RESET, R326. -/
  | atqReset (port : Fin 4) (queue : Fin 4096)
  /-- ATQ_CLOSE, R320. -/
  | atqClose (port : Fin 4) (queue : Fin 4096)
  /-- ATQ_ARM, R327. -/
  | atqArm (port : Fin 4) (queue : Fin 4096)
  /-- MSIX_UNMASK, R327. -/
  | msixUnmask (port : Fin 4) (vector : Fin 2048)
  /-- CALL_DISPATCH, R291. -/
  | callDispatch (corr : Fin 9) (unc : Bool)
  /-- COMPLETION_QUEUE_ROOM, R294. -/
  | completionQueueRoom (c : Fin 256)
  /-- PROGRAM_LOAD, R287. -/
  | programLoad (port : Fin 4)
  /-- PROGRAM_LOAD_DONE, R287. `ext` holds the source lines of other devices. -/
  | programLoadDone (ext : List (Nat × Line × Bool))
  /-- PROGRAM_UNLOAD, R289. -/
  | programUnload (port : Fin 4) (id : Fin 1024)
  /-- CALL_ABORT, R295. -/
  | callAbort (port : Fin 4) (ctx : Fin 256)
  /-- ILLEGAL_INSTRUCTION, R242. -/
  | illegalInstruction (c : Fin 256) (w : BitVec 32)
  /-- ADD, R243. -/
  | add (c : Fin 256) (d a b : BitVec 5)
  /-- SUB, R243. -/
  | sub (c : Fin 256) (d a b : BitVec 5)
  /-- AND, R243. -/
  | and (c : Fin 256) (d a b : BitVec 5)
  /-- OR, R243. -/
  | or (c : Fin 256) (d a b : BitVec 5)
  /-- XOR, R243. -/
  | xor (c : Fin 256) (d a b : BitVec 5)
  /-- SLL, R243. -/
  | sll (c : Fin 256) (d a b : BitVec 5)
  /-- SRL, R243. -/
  | srl (c : Fin 256) (d a b : BitVec 5)
  /-- SRA, R243. -/
  | sra (c : Fin 256) (d a b : BitVec 5)
  /-- SLT, R243. -/
  | slt (c : Fin 256) (d a b : BitVec 5)
  /-- SLTU, R243. -/
  | sltu (c : Fin 256) (d a b : BitVec 5)
  /-- MIN, R243. -/
  | min (c : Fin 256) (d a b : BitVec 5)
  /-- MAX, R243. -/
  | max (c : Fin 256) (d a b : BitVec 5)
  /-- MINU, R243. -/
  | minu (c : Fin 256) (d a b : BitVec 5)
  /-- MAXU, R243. -/
  | maxu (c : Fin 256) (d a b : BitVec 5)
  /-- MUL, R243. -/
  | mul (c : Fin 256) (d a b : BitVec 5)
  /-- MULH, R243. -/
  | mulh (c : Fin 256) (d a b : BitVec 5)
  /-- MULHU, R243. -/
  | mulhu (c : Fin 256) (d a b : BitVec 5)
  /-- DIV, R244. -/
  | div (c : Fin 256) (d a b : BitVec 5)
  /-- DIVU, R244. -/
  | divu (c : Fin 256) (d a b : BitVec 5)
  /-- REM, R244. -/
  | rem (c : Fin 256) (d a b : BitVec 5)
  /-- REMU, R244. -/
  | remu (c : Fin 256) (d a b : BitVec 5)
  /-- CLZ, R243. -/
  | clz (c : Fin 256) (d a : BitVec 5)
  /-- CTZ, R243. -/
  | ctz (c : Fin 256) (d a : BitVec 5)
  /-- POPC, R243. -/
  | popc (c : Fin 256) (d a : BitVec 5)
  /-- SEXTB, R243. -/
  | sextb (c : Fin 256) (d a : BitVec 5)
  /-- SEXTH, R243. -/
  | sexth (c : Fin 256) (d a : BitVec 5)
  /-- SEXTW, R243. -/
  | sextw (c : Fin 256) (d a : BitVec 5)
  /-- ZEXTW, R243. -/
  | zextw (c : Fin 256) (d a : BitVec 5)
  /-- BSWAP, R243. -/
  | bswap (c : Fin 256) (d a : BitVec 5)
  /-- ADDI, R243. -/
  | addi (c : Fin 256) (d a : BitVec 5) (imm : BitVec 16)
  /-- ANDI, R243. -/
  | andi (c : Fin 256) (d a : BitVec 5) (imm : BitVec 16)
  /-- ORI, R243. -/
  | ori (c : Fin 256) (d a : BitVec 5) (imm : BitVec 16)
  /-- XORI, R243. -/
  | xori (c : Fin 256) (d a : BitVec 5) (imm : BitVec 16)
  /-- SLTI, R243. -/
  | slti (c : Fin 256) (d a : BitVec 5) (imm : BitVec 16)
  /-- SLTIU, R243. -/
  | sltiu (c : Fin 256) (d a : BitVec 5) (imm : BitVec 16)
  /-- LUI, R243. -/
  | lui (c : Fin 256) (d : BitVec 5) (imm : BitVec 16)
  /-- SLLI, R243. -/
  | slli (c : Fin 256) (d a : BitVec 5) (sh : BitVec 6)
  /-- SRLI, R243. -/
  | srli (c : Fin 256) (d a : BitVec 5) (sh : BitVec 6)
  /-- SRAI, R243. -/
  | srai (c : Fin 256) (d a : BitVec 5) (sh : BitVec 6)
  /-- SHORI, R243. -/
  | shori (c : Fin 256) (d a : BitVec 5) (imm : BitVec 16)
  /-- LB, R245. -/
  | lb (c : Fin 256) (d a : BitVec 5) (imm : BitVec 16) (fl : Flips)
  /-- LH, R245. -/
  | lh (c : Fin 256) (d a : BitVec 5) (imm : BitVec 16) (fl : Flips)
  /-- LW, R245. -/
  | lw (c : Fin 256) (d a : BitVec 5) (imm : BitVec 16) (fl : Flips)
  /-- LD, R245. -/
  | ld (c : Fin 256) (d a : BitVec 5) (imm : BitVec 16) (fl : Flips)
  /-- LBU, R245. -/
  | lbu (c : Fin 256) (d a : BitVec 5) (imm : BitVec 16) (fl : Flips)
  /-- LHU, R245. -/
  | lhu (c : Fin 256) (d a : BitVec 5) (imm : BitVec 16) (fl : Flips)
  /-- LWU, R245. -/
  | lwu (c : Fin 256) (d a : BitVec 5) (imm : BitVec 16) (fl : Flips)
  /-- SB, R246. -/
  | sb (c : Fin 256) (d a : BitVec 5) (imm : BitVec 16)
  /-- SH, R246. -/
  | sh (c : Fin 256) (d a : BitVec 5) (imm : BitVec 16)
  /-- SW, R246. -/
  | sw (c : Fin 256) (d a : BitVec 5) (imm : BitVec 16)
  /-- SD, R246. -/
  | sd (c : Fin 256) (d a : BitVec 5) (imm : BitVec 16)
  /-- ASWAP, R247. -/
  | aswap (c : Fin 256) (wide : Bool) (d a b : BitVec 5) (fl : Flips)
  /-- AADD, R247. -/
  | aadd (c : Fin 256) (wide : Bool) (d a b : BitVec 5) (fl : Flips)
  /-- AAND, R247. -/
  | aand (c : Fin 256) (wide : Bool) (d a b : BitVec 5) (fl : Flips)
  /-- AOR, R247. -/
  | aor (c : Fin 256) (wide : Bool) (d a b : BitVec 5) (fl : Flips)
  /-- AXOR, R247. -/
  | axor (c : Fin 256) (wide : Bool) (d a b : BitVec 5) (fl : Flips)
  /-- AMIN, R247. -/
  | amin (c : Fin 256) (wide : Bool) (d a b : BitVec 5) (fl : Flips)
  /-- AMAX, R247. -/
  | amax (c : Fin 256) (wide : Bool) (d a b : BitVec 5) (fl : Flips)
  /-- AMINU, R247. -/
  | aminu (c : Fin 256) (wide : Bool) (d a b : BitVec 5) (fl : Flips)
  /-- AMAXU, R247. -/
  | amaxu (c : Fin 256) (wide : Bool) (d a b : BitVec 5) (fl : Flips)
  /-- ACAS, R247. -/
  | acas (c : Fin 256) (wide : Bool) (d a b : BitVec 5) (fl : Flips)
  /-- BEQ, R243. -/
  | beq (c : Fin 256) (d a : BitVec 5) (imm : BitVec 16)
  /-- BNE, R243. -/
  | bne (c : Fin 256) (d a : BitVec 5) (imm : BitVec 16)
  /-- BLT, R243. -/
  | blt (c : Fin 256) (d a : BitVec 5) (imm : BitVec 16)
  /-- BGE, R243. -/
  | bge (c : Fin 256) (d a : BitVec 5) (imm : BitVec 16)
  /-- BLTU, R243. -/
  | bltu (c : Fin 256) (d a : BitVec 5) (imm : BitVec 16)
  /-- BGEU, R243. -/
  | bgeu (c : Fin 256) (d a : BitVec 5) (imm : BitVec 16)
  /-- JAL, R243. -/
  | jal (c : Fin 256) (d : BitVec 5) (imm : BitVec 16)
  /-- JALR, R248. -/
  | jalr (c : Fin 256) (d a : BitVec 5) (imm : BitVec 16)
  /-- FENCE, R225. -/
  | fence (c : Fin 256)
  /-- FENCE_G, R226. -/
  | fenceG (c : Fin 256) (d : BitVec 5)
  /-- FENCE_I, R227. -/
  | fenceI (c : Fin 256)
  /-- CWRD, R251. -/
  | cwrd (c : Fin 256) (d : BitVec 5) (cw : BitVec 6)
  /-- CWWR, R251. -/
  | cwwr (c : Fin 256) (d : BitVec 5) (cw : BitVec 6)
  /-- TRAP, R253. -/
  | trap (c : Fin 256) (imm : BitVec 16)
  /-- PAUSE, R249. -/
  | pause (c : Fin 256) (imm : BitVec 16)
  /-- PAUSE_END, R249. -/
  | pauseEnd (c : Fin 256)
  /-- PSYNC, R263. -/
  | psync (c : Fin 256) (d : BitVec 5)
  /-- ZLINE, R264. -/
  | zline (c : Fin 256) (a : BitVec 5)
  /-- JSUB_C, R266. -/
  | jsubC (c : Fin 256) (d a : BitVec 5) (ext : List (Nat × Line × Bool))
  /-- JSUB_M, R266. -/
  | jsubM (c : Fin 256) (d a : BitVec 5) (ext : List (Nat × Line × Bool))
  /-- JSUB_S, R266. -/
  | jsubS (c : Fin 256) (d a : BitVec 5) (ext : List (Nat × Line × Bool))
  /-- JWAIT, R272. -/
  | jwait (c : Fin 256) (d a : BitVec 5) (ext : List (Nat × Line × Bool))
  /-- JPOLL, R272. -/
  | jpoll (c : Fin 256) (d a : BitVec 5) (ext : List (Nat × Line × Bool))
  /-- QGET, R281. -/
  | qget (c : Fin 256) (d a b : BitVec 5) (corr : Fin 9) (unc : Bool)
  /-- QGETW, R281. -/
  | qgetw (c : Fin 256) (d a b : BitVec 5) (corr : Fin 9) (unc : Bool)
  /-- QPUT, R281. -/
  | qput (c : Fin 256) (d a b : BitVec 5) (ext : List (Nat × Line × Bool))
  /-- ACCREATE, R274. -/
  | accreate (c : Fin 256) (d a : BitVec 5) (ext : List (Nat × Line × Bool))
  /-- ACINFO, R275. -/
  | acinfo (c : Fin 256) (d a b : BitVec 5)
  /-- ACDELETE, R275. -/
  | acdelete (c : Fin 256) (d a : BitVec 5)
  /-- RGNCREATE, R45. -/
  | rgncreate (c : Fin 256) (d a : BitVec 5) (ext : List (Nat × Line × Bool))
  /-- RGNCHANGE, R47. -/
  | rgnchange (c : Fin 256) (d a : BitVec 5) (ext : List (Nat × Line × Bool))
  /-- RGNDELETE, R52. -/
  | rgndelete (c : Fin 256) (d a : BitVec 5)
  /-- KEYSET, R375. -/
  | keyset (c : Fin 256) (d a b : BitVec 5) (ext : List (Nat × Line × Bool))
  /-- KEYCLR, R376. -/
  | keyclr (c : Fin 256) (d a : BitVec 5)
  /-- ADMRD, R284. -/
  | admrd (c : Fin 256) (d a : BitVec 5)
  /-- ADMWR, R284. -/
  | admwr (c : Fin 256) (a b : BitVec 5) (libOk : Bool)
  /-- DONE, R294. -/
  | done (c : Fin 256)
  /-- SRET, R290. -/
  | sret (c : Fin 256)
  /-- SCALL, R290. -/
  | scall (c : Fin 256) (imm : BitVec 16)
  /-- LOAD_RESPONSE, R245. -/
  | loadResponse (c : Fin 256) (fl : Flips)
  /-- STORE_BUFFER_LEAVE, R201. -/
  | storeBufferLeave (c : Fin 256) (loan : Bool) (fl : Flips)
  /-- STORE_REFUSAL, R255. -/
  | storeRefusal (c : Fin 256)
  /-- DEADLINE_REACHED, R252. -/
  | deadlineReached (c : Fin 256)
  /-- FAULT_DELIVERY, R257. `giveUp`: the drain of its store buffer cannot complete. -/
  | faultDelivery (c : Fin 256) (giveUp : Bool)
  /-- JOB_START, R266. -/
  | jobStart (c : Fin 256) (engine : Fin 8)
  /-- CIPHER_JOB_COMPLETE, R383. `ext` carries remote lines read with their bytes, `lost` those that came as poison, `wrote` the
  output lines a poisoned job had written; `dup` counts the duplicate comparisons that differed -/
  | cipherJobComplete (c : Fin 256) (desc : Nat) (ext : List (Nat × Line)) (wrote lost : List Nat) (dup : Fin 3)
  /-- MOVER_JOB_COMPLETE, R268. `ext` carries remote lines read with their bytes, `lost` those that came as poison, `wrote` the
  output lines a poisoned job had written -/
  | moverJobComplete (c : Fin 256) (desc : Nat) (ext : List (Nat × Line)) (wrote lost : List Nat)
  /-- SEAL_PATH_SWITCHED, R277. -/
  | sealPathSwitched (acc : Fin 65536)
  /-- SEAL_STRIPES_ON_MEDIA, R277. -/
  | sealStripesOnMedia (acc : Fin 65536)
  /-- SEAL_HASH_DONE, R277. -/
  | sealHashDone (acc : Fin 65536) (dup : Fin 3)
  /-- SEAL_COMMIT, R277. -/
  | sealCommit (acc : Fin 65536)
  /-- SEAL_RECORD_WRITTEN, R277. -/
  | sealRecordWritten (acc : Fin 65536)
  /-- REGION_SLICE_SWITCH, R49. -/
  | regionSliceSwitch (region : Fin 4096) (slice : Fin 16)
  /-- REGION_OP_STATUS, R50. -/
  | regionOpStatus (region : Fin 4096)
  /-- REGION_DELETE_FREE, R53. -/
  | regionDeleteFree (region : Fin 4096)
  /-- READ, R202. -/
  | read (c : Fin 256) (ga : BitVec 50) (fetch : Bool) (fl : Flips)
  /-- OWN, R201. -/
  | own (c : Fin 256) (fl : Flips)
  /-- PEEK, R202. -/
  | peek (port : Fin 4) (tag : Nat) (ga : BitVec 50) (fl : Flips)
  /-- WRITE, R193. -/
  | write (m : Master) (ga : BitVec 50) (data : Line) (mask : LineMask) (poison : Bool) (fl : Flips)
  /-- ATOMIC, R219. -/
  | atomic (m : Master) (ga : BitVec 50) (op : Fin 10) (wide : Bool) (off : Fin 64) (a b : Word) (fl : Flips)
  /-- ZERO, R187. -/
  | zero (m : Master) (ga : BitVec 50) (fl : Flips)
  /-- WRITEBACK, R205. -/
  | writeback (wing : Fin 8)
  /-- HOME_REQUEST_START, R203. -/
  | homeRequestStart (slice : Fin 16) (fl : Flips)
  /-- SNOOP_RESPONSE, R204. -/
  | snoopResponse (ga : BitVec 50) (fl : Flips)
  /-- ALLOCATION_RETRY, R183. -/
  | allocationRetry (ga : BitVec 50) (fl : Flips)
  /-- EVICTION_WRITEBACK, R184. -/
  | evictionWriteback (pos : Nat) (fl : Flips)
  /-- GOVERNOR_EVICT, R185. -/
  | governorEvict (slice : Fin 16) (set : Fin 3072)
  /-- WING_INVALIDATE_ALL, R188. -/
  | wingInvalidateAll (port : Fin 4) (wings : BitVec 8)
  /-- WING_INVALIDATE_DONE, R188. -/
  | wingInvalidateDone
  /-- LOAN_WAYS_CHANGE, R190. -/
  | loanWaysChange (port : Fin 4) (ways : BitVec 4)
  /-- LOAN_WAYS_DONE, R190. -/
  | loanWaysDone
  /-- WAY_DISABLE_DONE, R195. -/
  | wayDisableDone (slice : Fin 16) (way : Fin 16)
  /-- WAY_COUNT_WINDOW, R195. -/
  | wayCountWindow
  /-- WAY_ENABLE, R197. -/
  | wayEnable (port : Fin 4) (slice : Fin 16) (way : Fin 16)
  /-- VIT_LOOKUP_WRITE, R182. -/
  | vitLookupWrite (port : Fin 4) (addr : Word)
  /-- LREAD, R207. -/
  | lread (seat : Fin 64) (tag : Fin 4096) (gen : Bool) (ga : BitVec 50) (fl : Flips)
  /-- LOWN, R209. -/
  | lown (seat : Fin 64) (tag : Fin 4096) (gen : Bool) (ga : BitVec 50) (fl : Flips)
  /-- FREAD, R207. -/
  | fread (seat : Fin 64) (tag : Fin 4096) (gen : Bool) (ga : BitVec 50) (fl : Flips)
  /-- FWRITE, R230. -/
  | fwrite (seat : Fin 64) (tag : Fin 4096) (gen : Bool) (ga : BitVec 50) (data : Line) (mask : LineMask)
      (poison : Bool) (fl : Flips)
  /-- FABRIC_OWN, R211. -/
  | fabricOwn (seat : Fin 64) (tag : Fin 4096) (gen : Bool) (ga : BitVec 50) (fl : Flips)
  /-- DLV, R211. -/
  | dlv (seat : Fin 64) (tag : Fin 4096) (gen : Bool) (ga : BitVec 50) (data : Line) (mask : LineMask)
      (poison : Bool) (fl : Flips)
  /-- RELEASE, R211. -/
  | release (seat : Fin 64) (tag : Fin 4096) (gen : Bool) (ga : BitVec 50) (fl : Flips)
  /-- RECALL, R210. -/
  | recall (seat : Fin 64) (tag : Fin 4096) (gen : Bool) (ga : BitVec 50)
  /-- INV, R210. -/
  | inv (seat : Fin 64) (tag : Fin 4096) (gen : Bool) (ga : BitVec 50)
  /-- FATOMIC, R219. -/
  | fatomic (seat : Fin 64) (tag : Fin 4096) (gen : Bool) (ga : BitVec 50) (op : Fin 10) (wide : Bool)
      (off : Fin 64) (a b : Word) (fl : Flips)
  /-- FABRIC_DATA, R231. -/
  | fabricData (seat : Fin 64) (tag : Fin 4096) (gen : Bool) (data : Line) (poison granted : Bool)
  /-- FABRIC_DONE, R211. -/
  | fabricDone (seat : Fin 64) (tag : Fin 4096) (gen : Bool) (granted : Bool)
  /-- GRANTED, R211. -/
  | granted (seat : Fin 64) (tag : Fin 4096) (gen : Bool) (ewa granted : Bool)
  /-- INVACK, R210. -/
  | invack (seat : Fin 64) (tag : Fin 4096) (gen : Bool) (fl : Flips)
  /-- FATOMIC_RESULT, R219. -/
  | fatomicResult (seat : Fin 64) (tag : Fin 4096) (gen : Bool) (data : Line) (poison : Bool)
  /-- HOMEDOWN, R357. -/
  | homedown (seat : Fin 64) (tag : Fin 4096) (gen : Bool)
  /-- FABRIC_ATTEMPT_TIMEOUT, R213. -/
  | fabricAttemptTimeout (seat : Fin 64) (tag : Fin 4096)
  /-- FABRIC_REQUEST_LOST, R213. -/
  | fabricRequestLost (seat : Fin 64) (tag : Fin 4096) (fl : Flips)
  /-- OUTBOUND_LINGER_EXPIRE, R211. -/
  | outboundLingerExpire (ga : BitVec 50) (fl : Flips)
  /-- START_ANNOUNCEMENT, R215. -/
  | startAnnouncement (seat : Fin 64)
  /-- GRANT_SWEEP, R215. -/
  | grantSweep (seat : Fin 64)
  /-- AWAY_RELEASE, R216. -/
  | awayRelease (port : Fin 4) (seat : Fin 64)
  /-- CONFIG_EXCHANGE, R333. -/
  | configExchange (port : Fin 16) (uid : Word) (nport : Fin 16) (seated : Bool) (fabid : Word) (crypt : Bool)
      (nonce : BitVec 128) (kcv : BitVec 32)
  /-- FABRIC_PORT_TRAIN_TIMEOUT, R333. -/
  | fabricPortTrainTimeout (port : Fin 16)
  /-- FABRIC_PORT_DOWN_RETRY, R333. -/
  | fabricPortDownRetry (port : Fin 16)
  /-- FABRIC_RETRAIN, R334. -/
  | fabricRetrain (port : Fin 16)
  /-- LANE_LOCK_LOSS, R334. -/
  | laneLockLoss (port : Fin 16)
  /-- FABRIC_RETRAIN_TIMEOUT, R334. -/
  | fabricRetrainTimeout (port : Fin 16)
  /-- FAB_PCTL_WRITE, R341. -/
  | fabPctlWrite (port : Fin 4) (fport : Fin 16) (value : BitVec 32)
  /-- FLIT_PAYLOAD, R337. -/
  | flitPayload (port : Fin 16) (seq ack : Fin 1024) (chan : Fin 64) (credits : Fin 16) (payload : BitVec 480)
      (crc : BitVec 32)
  /-- FLIT_TAG, R342. -/
  | flitTag (port : Fin 16) (seq ack : Fin 1024) (chan : Fin 64) (credits : Fin 16) (payload : BitVec 480)
      (crc : BitVec 32)
  /-- FLIT_NAK, R337. -/
  | flitNak (port : Fin 16) (seq ack : Fin 1024) (chan : Fin 64) (credits : Fin 16) (expected : Fin 1024)
      (payload : BitVec 480) (crc : BitVec 32)
  /-- FLIT_IDLE, R335. -/
  | flitIdle (port : Fin 16) (seq ack : Fin 1024) (chan : Fin 64) (credits : Fin 16) (payload : BitVec 480)
      (crc : BitVec 32)
  /-- DELAY_PROBE, R363. -/
  | delayProbe (port : Fin 16) (roundTrip turnaround : Nat)
  /-- LINK_REKEY, R343. -/
  | linkRekey (port : Fin 16)
  /-- MESSAGE_FORWARD, R338. -/
  | messageForward (port : Fin 16) (dest : Fin 64) (hops : Fin 16) (words : Nat)
  /-- LINK_RECORD, R353. -/
  | linkRecord (port : Fin 16) (uid : Word) (seat : Option (Fin 64)) (seq : Nat) (kprio : BitVec 8)
      (links : List (Fin 16 × Word × Fin 16))
  /-- LINK_RECORD_TIMER, R353. -/
  | linkRecordTimer
  /-- JOIN_QUIET_END, R360. -/
  | joinQuietEnd
  /-- CLAIM, R346. -/
  | claim (uid : Word) (held : Bool) (fabid epoch : Word) (seat : Option (Fin 64 × BitVec 48))
      (record : List (Fin 64 × Word × BitVec 48)) (time : Word)
  /-- MEMBERSHIP_COMMIT, R348. -/
  | membershipCommit (fabid epoch : Word) (record : List (Fin 64 × Word × BitVec 48))
  /-- JOIN_COMPLETE, R360. -/
  | joinComplete
  /-- LATE_JOIN, R361. -/
  | lateJoin (uid : Word) (held : Bool) (fabid epoch : Word) (seat : Option (Fin 64 × BitVec 48))
      (record : List (Fin 64 × Word × BitVec 48)) (time : Word)
  /-- ASSIGN, R348. -/
  | assign (port : Option (Fin 4)) (seat : Fin 64) (uid origin : Word)
  /-- EVICT, R348. -/
  | evict (port : Option (Fin 4)) (seat : Fin 64) (uid origin : Word)
  /-- DROPFWD, R348. -/
  | dropfwd (port : Option (Fin 4)) (seat : Fin 64) (uid origin : Word)
  /-- TIME_BEACON, R363. -/
  | timeBeacon (time : Word) (delay depth : Nat)
  /-- VTSET, R365. -/
  | vtset (port : Option (Fin 4)) (t : Word)
  /-- VAULT_TIME_SAVE, R362. -/
  | vaultTimeSave
  /-- BROADCAST, R368. -/
  | broadcast (port : Option (Fin 4)) (arg origin : Word)
  /-- SNAPSHOT, R368. -/
  | snapshot (port : Option (Fin 4)) (arg origin t : Word)
  /-- RESET, R368. -/
  | reset (port : Option (Fin 4)) (arg origin : Word)
  /-- SNAPSHOT_TIME_REACHED, R368. -/
  | snapshotTimeReached
  /-- GOP_MEMBER_TIMEOUT, R369. -/
  | gopMemberTimeout (late : Nat)
  /-- BARRIER_ARRIVE, R367. -/
  | barrierArrive (port : Option (Fin 4)) (arrive : BitVec 16) (origin : Word)
  /-- BARRIER_COMPLETE, R367. -/
  | barrierComplete (n : Fin 16)
  /-- MEDIA_READ_REQUEST, R128. -/
  | mediaReadRequest (tile : Fin 536870912) (leaf : Fin 64) (left : List (Nat × Nat))
  /-- LEAF_READ_DONE, R105. -/
  | leafReadDone (tile : Fin 536870912) (leaf : Fin 64) (errs : BitVec 2560) (slow : Bool)
  /-- RECONSTRUCT_SOURCE_DONE, R129. -/
  | reconstructSourceDone (tile : Fin 536870912) (leaf : Fin 64) (member : Fin 16) (errs : List (BitVec 2560))
      (slow : Bool)
  /-- PAUSE_MISS, R130. -/
  | pauseMiss (tile : Fin 536870912) (leaf : Fin 64)
  /-- BESTWAIT_EXPIRE, R124. -/
  | bestwaitExpire (tile : Fin 536870912) (leaf : Fin 64)
  /-- ROW_TOKEN_GRANT, R126. -/
  | rowTokenGrant (part : Fin 2048)
  /-- LEAF_WRITE_DONE, R133. -/
  | leafWriteDone (part : Fin 2048) (ok : Bool)
  /-- INPLACE_WRITEBACK, R133. `pick` is the stripe chosen where no INUSE stripe serves, with the wrong bits of the read of the old
  data and of the old parity -/
  | inplaceWriteback (tile : Fin 536870912) (leaf : Fin 64) (pick : Fin 33554432 × BitVec 2560 × BitVec 2560)
  /-- MEDIA_READ, R537. -/
  | mediaRead (ch : Fin 32) (die part : Fin 8) (leaf : Fin 16777216) (vref : BitVec 8) (tsense : BitVec 4)
      (errs : BitVec 2560) (parity : Bool)
  /-- MEDIA_WRITE, R537. -/
  | mediaWrite (ch : Fin 32) (die part : Fin 8) (leaf : Fin 16777216) (parity : Bool)
  /-- MEDIA_SUSPEND, R537. -/
  | mediaSuspend (ch : Fin 32) (die part : Fin 8) (parity : Bool)
  /-- MEDIA_RESUME, R537. -/
  | mediaResume (ch : Fin 32) (die part : Fin 8) (parity : Bool)
  /-- MEDIA_STATUS, R537. -/
  | mediaStatus (ch : Fin 32) (die : Fin 8) (commit vfail : BitVec 8) (parity : Bool)
  /-- MEDIA_TEMP, R537. -/
  | mediaTemp (ch : Fin 32) (die : Fin 8) (t : BitVec 8) (parity : Bool)
  /-- MEDIA_IDENT, R537. -/
  | mediaIdent (ch : Fin 32) (die : Fin 8) (page : BitVec 2560) (parity : Bool)
  /-- MEDIA_DIERESET, R537. -/
  | mediaDiereset (ch : Fin 32) (die : Fin 8) (parity : Bool)
  /-- MEDIA_CMD_TIMEOUT, R538. -/
  | mediaCmdTimeout (die : Fin 256)
  /-- MALERT_N, R538. -/
  | malertN (ch : Fin 32) (die : Fin 8)
  /-- JOURNAL_WRITE, R113. -/
  | journalWrite
  /-- CHECKPOINT, R115. -/
  | checkpoint
  /-- CHECKPOINT_DONE, R115. -/
  | checkpointDone
  /-- BUILDER_LINE, R136. -/
  | builderLine (line : Fin 137438953472) (pick : Fin 33554432)
  /-- BUILDER_SPILL, R137. -/
  | builderSpill (builder : Nat) (slot : Fin 15) (leaf : Fin 64)
  /-- BUILDER_AGE_EXPIRE, R138. -/
  | builderAgeExpire (builder : Nat)
  /-- BUILDER_STRIPE_VERIFIED, R140. -/
  | builderStripeVerified (builder : Nat) (fails : List (Fin 16))
  /-- CHANNEL_PAUSE_REQUEST, R141. -/
  | channelPauseRequest (ch : Fin 32)
  /-- CHANNEL_PAUSE_ENTER, R141. -/
  | channelPauseEnter (ch : Fin 32)
  /-- CHANNEL_PAUSE_END, R141. -/
  | channelPauseEnd (ch : Fin 32)
  /-- CON_LOG_WRITE, R149. -/
  | conLogWrite
  /-- CON_CHECKPOINT_CHUNK, R148. -/
  | conCheckpointChunk
  /-- CON_METACKPT, R148. -/
  | conMetackpt
  /-- TILE_MOVE, R156. -/
  | tileMove (tile : Fin 536870912) (pick : Fin 33554432) (lost : List (Fin 64)) (fail : Bool)
  /-- TILE_MOVE_END, R156. -/
  | tileMoveEnd (tile : Fin 536870912)
  /-- EXCISION, R162. -/
  | excision (pick : Fin 33554432)
  /-- EXCISION_END, R162. -/
  | excisionEnd
  /-- WEAR_PASS, R164. -/
  | wearPass
  /-- DRIFT_PASS, R167. -/
  | driftPass (die : Fin 256) (errs : List (Nat × Nat × Nat))
  /-- SENTINEL_REWRITE, R165. -/
  | sentinelRewrite (die : Fin 256) (slot : Fin 16)
  /-- TILE_REFRESH, R170. -/
  | tileRefresh (phys : Fin 536870912) (pick : Fin 33554432)
  /-- SCRUB_POSITION, R171. -/
  | scrubPosition (errs : List (Nat × (BitVec 2560))) (late : Bool)
  /-- SCRUB_RESTART, R171. -/
  | scrubRestart
  /-- RECLAIM, R154. -/
  | reclaim (pick : Fin 33554432)
  /-- REBUILD_STRIPE, R175. -/
  | rebuildStripe (pick : Fin 33554432)
  /-- TEMP_HISTOGRAM, R177. -/
  | tempHistogram
  /-- HISTOGRAM_SAVE, R177. -/
  | histogramSave
  /-- STAGING_READ, R393. -/
  | stagingRead (line : Fin 4294967296) (kind : Fin 7) (a b : Nat) (ch : Fin 2) (miss bad : Fin 6)
      (tamper both : Bool) (corr : Fin 9) (uncorr : Fin 3) (ct : Line) (mac : Word) (evicted : List (Nat × Nat))
  /-- STAGING_WRITE, R390. -/
  | stagingWrite (line : Fin 4294967296) (kind : Fin 7) (a b : Nat) (data : Line) (miss : Fin 6)
      (evicted : List (Nat × Nat))
  /-- STAGING_MERGE, R394. -/
  | stagingMerge (line : Fin 4294967296) (kind : Fin 7) (a b : Nat) (data : Line) (mask : LineMask) (ch : Fin 2)
      (miss bad : Fin 6) (tamper : Bool) (corr : Fin 9) (uncorr : Fin 3) (ct : Line) (mac : Word)
      (evicted : List (Nat × Nat))
  /-- STAGING_REINIT_DONE, R395. -/
  | stagingReinitDone
  /-- TRNG_RESEED, R401. -/
  | trngReseed (rct apt : Bool)
  /-- TRNG_RESTART, R402. -/
  | trngRestart (port : Fin 4)
  /-- ONCHIP_SCRUB, R408. -/
  | onchipScrub (arr : Fin 10) (inst a b : Nat) (wrong : Fin 73) (fl : Flips)
  /-- DDR4_SCRUB, R408. -/
  | ddr4Scrub (line : Fin 4294967296) (ch : Fin 2) (corr : Bool) (uncorr : Fin 3)
  /-- INJ_ARM, R414. -/
  | injArm (port : Fin 4) (slot : Fin 8)
  /-- INJ_DISARM, R420. -/
  | injDisarm (port : Fin 4) (slot : Fin 8)
  /-- INJ_DISARM_ALL, R420. -/
  | injDisarmAll (port : Fin 4) (value : BitVec 32)
  /-- EVENT_ARRIVAL, R422. The n + 1 events from place pos of those under way reach the registrar in one registrar cycle. -/
  | eventArrival (pos n : Nat)
  /-- RATE_WINDOW_CLOSE, R427. The window of a source ends. -/
  | rateWindowClose (src : Fin 1280)
  /-- ANNAL_WRITE, R430. -/
  | annalWrite
  /-- ANNAL_WRITE_DONE, R432. -/
  | annalWriteDone
  /-- ANNAL_PERIODIC, R430. -/
  | annalPeriodic
  /-- REC_FLUSH, R430. -/
  | recFlush
  /-- RECORD_WINDOW_COPY, R434. Reader 0 to 3 for the host ports, 4 for admrd. -/
  | recordWindowCopy (reader : Fin 5) (seq : Word)
  /-- RECORD_WINDOW_READY, R434. -/
  | recordWindowReady (reader : Fin 5)
  /-- REC_IRQ_COALESCE, R436. -/
  | recIrqCoalesce (port : Fin 4)
  /-- PAGE_READ, R440. -/
  | pageRead (page : Fin 16384) (outcome : Fin 3)
  /-- PAGE_WRITE_START, R441. -/
  | pageWriteStart (page : Fin 16384) (supply reserve : Bool)
  /-- GUARD_RETRY, R443. -/
  | guardRetry (page : Fin 16384)
  /-- PAGE_WRITE_DONE, R445. -/
  | pageWriteDone (page : Fin 16384) (ok : Bool)
  /-- LDG_RAW_READ, R450. -/
  | ldgRawRead (port : Fin 4)
  /-- LDG_RAW_WRITE, R450. -/
  | ldgRawWrite (port : Fin 4)
  /-- TWO_COPY_READ, R452. -/
  | twoCopyRead (port : Fin 4) (pair : Fin 2048)
  /-- TWO_COPY_WRITE, R453. -/
  | twoCopyWrite (port : Fin 4) (pair : Fin 2048)
  /-- LEDGER_SCRUB, R445. -/
  | ledgerScrub (page : Fin 16384) (outcome : Fin 3)
  /-- PROGRESS_RECORD, R448. -/
  | progressRecord
  /-- VAUX_VALID, R527. -/
  | vauxValid (hpMode : Fin 4) (recovery ebOpen : Bool)
  /-- VAUX_LOST, R527. -/
  | vauxLost
  /-- SLED_RECORD_READ, R456. -/
  | sledRecordRead (ack : Bool) (bytes : BitVec 1280)
  /-- POWER_UP_START, R459. -/
  | powerUpStart
  /-- GATE_OFF_FAIL, R459. -/
  | gateOffFail (rail : Fin 12)
  /-- RAIL_ENABLE, R459. -/
  | railEnable (rail : Fin 12)
  /-- POWER_GOOD_CHANGE, R460. -/
  | powerGoodChange (rail : Fin 12) (high : Bool)
  /-- RAIL_QUALIFIED, R460. -/
  | railQualified (rail : Fin 12)
  /-- RAIL_PGWIN_EXPIRE, R461. -/
  | railPgwinExpire (rail : Fin 12)
  /-- POWER_UP_RETRY, R461. -/
  | powerUpRetry
  /-- RAIL_PG_LOSS, R464. -/
  | railPgLoss (rail : Fin 12)
  /-- RAIL_DISABLE, R462. -/
  | railDisable (rail : Fin 12)
  /-- RAIL_FALL_TIMEOUT, R462. -/
  | railFallTimeout (rail : Fin 12)
  /-- RESET_OUTPUT_RISE, R465. -/
  | resetOutputRise (k : Fin 4)
  /-- ADC_CONVERSION, R466. -/
  | adcConversion (input : Fin 14) (code : Fin 4096)
  /-- INOK_QUALIFIED, R468. -/
  | inokQualified
  /-- EB_N_OPEN, R529. -/
  | ebNOpen
  /-- EB_TRIGGER, R469. -/
  | ebTrigger
  /-- EB_ARM, R529. -/
  | ebArm
  /-- SENSOR_CONVERSION, R470. -/
  | sensorConversion (k : Fin 16) (t : BitVec 8)
  /-- THROTTLE_FALL, R472. -/
  | throttleFall
  /-- LOCKOUT_END, R473. -/
  | lockoutEnd
  /-- DIE_TEMP_READ, R475. -/
  | dieTempRead (die : Fin 256) (t : BitVec 8)
  /-- BACKOFF_END, R475. -/
  | backoffEnd (ch : Fin 32)
  /-- GOVERNOR_RECOMPUTE, R66. -/
  | governorRecompute
  /-- HOLD_RELEASE, R71. -/
  | holdRelease (gl : BitVec 44) (fl : Flips)
  /-- LOWENERGY_EXIT, R75. -/
  | lowenergyExit
  /-- MEASURE_REQUEST, R61. -/
  | measureRequest (port : Fin 4) (interval : BitVec 8)
  /-- MEASURE_INTERVAL, R61. -/
  | measureInterval
  /-- BANK_STABLE, R65. -/
  | bankStable
  /-- MEASURE_START_TIMEOUT, R65. -/
  | measureStartTimeout
  /-- MEASURE_SAMPLE_V0, R62. -/
  | measureSampleV0
  /-- MEASURE_LOAD_ON, R62. -/
  | measureLoadOn
  /-- MEASURE_SAMPLE_V1, R62. -/
  | measureSampleV1
  /-- MEASURE_SAMPLE_V2, R62. -/
  | measureSampleV2
  /-- MEASURE_END, R63. -/
  | measureEnd
  /-- MEASURE_RETRY, R63. -/
  | measureRetry
  /-- MEASURE_REPEAT, R76. -/
  | measureRepeat
  /-- BREACH_ACK, R95. -/
  | breachAck (port : Fin 4)
  /-- FLUSH_STORE_DRAIN_DONE, R78. -/
  | flushStoreDrainDone
  /-- FLUSH_WING_WRITEBACK_DONE, R78. -/
  | flushWingWritebackDone
  /-- FLUSH_STAGING_MOVE_DONE, R78. -/
  | flushStagingMoveDone
  /-- FLUSH_FORWARD_HOLD, R78. -/
  | flushForwardHold
  /-- FLUSH_DELIVERY_DONE, R78. -/
  | flushDeliveryDone
  /-- FLUSH_JOURNAL_TAIL_DONE, R78. -/
  | flushJournalTailDone
  /-- FLUSH_REGISTRAR_DONE, R433. -/
  | flushRegistrarDone
  /-- FLUSH_STAGING_WRITE_DONE, R82. -/
  | flushStagingWriteDone
  /-- FLUSH_JOURNAL_DONE, R78. -/
  | flushJournalDone
  /-- FLUSH_RECORD_DONE, R80. -/
  | flushRecordDone
  /-- FLUSH_ENERGY_CHECK, R81. -/
  | flushEnergyCheck
  /-- FLUSH_ABANDON, R81. -/
  | flushAbandon
  /-- RESET_HOLD_END, R479. -/
  | resetHoldEnd
  /-- WARDEN_ROM_DONE, R478. -/
  | wardenRomDone (recoveryLow okA okB : Bool) (lib : List (List (BitVec 8)))
  /-- SELFTEST_DONE, R410. -/
  | selftestDone (fails : List (Fin 11 × Fin 256 × BitVec 16 × Bool))
  /-- STAGING_INIT_DONE, R484. -/
  | stagingInitDone (gib0 gib1 : Option (Fin 3)) (trng : Bool) (absent : BitVec 256)
  /-- CATALOGUE_REBUILD_DONE, R117. -/
  | catalogueRebuildDone (readable : Bool)
  /-- CONSERVATOR_RESTORE_DONE, R150. -/
  | conservatorRestoreDone (readable : Bool)
  /-- DIE_ADMISSION_DONE, R151. -/
  | dieAdmissionDone (drift : List (Fin 256 × List (BitVec 16)))
  /-- RECOVERY_WORK_DONE, R478. -/
  | recoveryWorkDone
  /-- FLUSH_RECORD_EXAMINED, R483. -/
  | flushRecordExamined
  /-- JOIN_ENTER, R360. -/
  | joinEnter
  /-- START_OPEN, R478. -/
  | startOpen
  /-- ONLINE, R503. -/
  | online (port : Fin 4) (setB libOk : Bool)
  /-- OFFLINE, R507. -/
  | offline (port : Fin 4) (setB : Bool)
  /-- COMMIT_SVN, R509. -/
  | commitSvn (port : Fin 4) (setB : Bool)
  /-- CANCEL, R507. -/
  | cancel (port : Fin 4) (setB : Bool)
  /-- WFW_HANDOVER, R503. -/
  | wfwHandover
  /-- WFW_READY_TIMEOUT, R506. -/
  | wfwReadyTimeout
  /-- MCODE_SWITCH, R503. -/
  | mcodeSwitch (ch : Fin 32) (ok : Bool)
  /-- SERDES_RETRAIN, R503. -/
  | serdesRetrain (port : Fin 16) (ok : Bool)
  /-- RTL_DRAIN_EXPIRE, R503. -/
  | rtlDrainExpire
  /-- RTL_REPLACED, R503. -/
  | rtlReplaced (lib : List (List (BitVec 8))) (ok : Bool)
  /-- TALLY_CLEAR, R516. -/
  | tallyClear (port : Fin 4) (n : Fin 304) (cfg : Word)
  /-- TALLY_CLEAR_ALL, R516. -/
  | tallyClearAll (port : Fin 4)
  /-- TALLY_SNAP, R518. -/
  | tallySnap (port : Fin 4)
  /-- TALLY_PERIODIC, R518. -/
  | tallyPeriodic
  /-- TALLY_LATCH, R518. -/
  | tallyLatch
  /-- TALLY_GATHER_DONE, R518. -/
  | tallyGatherDone
  /-- EB_N_CLOSE, R529. -/
  | ebNClose
  /-- RECEIVER_DETECT, R333. -/
  | receiverDetect (port : Fin 16)
  /-- BIT_LOCK, R333. -/
  | bitLock (port : Fin 16) (speed width : Fin 4)
  /-- SNOOP, R204. -/
  | snoop (ga : BitVec 50) (stop : Fin 12) (fl : Flips)
  /-- SEQUENCER_FAULT, R173. -/
  | sequencerFault (ch : Fin 32)
  /-- TALLY_OVERFLOW, R515. -/
  | tallyOverflow (n : Fin 304) (v : Nat)
  /-- JTAG_INSTRUCTION, R532. -/
  | jtagInstruction (op : Fin 3)
  /-- DDR4_PARITY_ALERT, R541. -/
  | ddr4ParityAlert (line : Fin 4294967296)
  deriving DecidableEq, Repr

end Sys2Proof
end

