-- ==== Sys2Proof/Decode.lean ====
section
/-! DEFINITION. The words of the commands. The table of operations gives its rows no bits: a command is no word, so no word spells
one. -/

namespace Sys2Proof

/-- The command a word of the table spells: none, since no row has bits. -/
def decodeTableWord (_nbits _w : Nat) : Option Instr := none

end Sys2Proof
end

