-- ==== Sys2Proof/Machine/Store.lean ====
section
/-! DEFINITION. The operations of the sparse map: read with a default, write in canonical form. -/

namespace Sys2Proof.SMap

/-- What key `k` reads as: its entry, or `d` where none is listed. -/
def get {α : Type} (d : α) (m : SMap α) (k : Nat) : α :=
  match m with
  | [] => d
  | (k', v) :: t => if k' = k then v else get d t k

/-- Whether key `k` is listed. -/
def has {α : Type} (m : SMap α) (k : Nat) : Bool :=
  match m with
  | [] => false
  | (k', _) :: t => if k' = k then true else has t k

/-- The entry of key `k`, if one is listed. -/
def find {α : Type} (m : SMap α) (k : Nat) : Option α :=
  match m with
  | [] => none
  | (k', v) :: t => if k' = k then some v else find t k

/-- Drops every entry of `k`. -/
def del {α : Type} (m : SMap α) (k : Nat) : SMap α :=
  match m with
  | [] => []
  | (k', v) :: t => if k' = k then del t k else (k', v) :: del t k

/-- Lists `v` at `k`, in the place the rising order gives it. -/
def ins {α : Type} (m : SMap α) (k : Nat) (v : α) : SMap α :=
  match m with
  | [] => [(k, v)]
  | (k', v') :: t =>
    if k < k' then (k, v) :: (k', v') :: t
    else if k = k' then (k, v) :: t
    else (k', v') :: ins t k v

/-- Writes `v` at `k`, keeping the canonical form: the default is never listed. -/
def put {α : Type} [DecidableEq α] (d : α) (m : SMap α) (k : Nat) (v : α) : SMap α :=
  if v = d then del m k else ins m k v

/-- Every key at least `lo`, and the keys strictly rising. -/
def rising {α : Type} (lo : Nat) (m : SMap α) : Bool :=
  match m with
  | [] => true
  | (k, _) :: t => decide (lo ≤ k) && rising (k + 1) t

/-- The canonical form: keys strictly rising. -/
def wf {α : Type} (m : SMap α) : Bool := rising 0 m

/-- No entry equal to the default. -/
def noDefault {α : Type} [DecidableEq α] (d : α) (m : SMap α) : Bool :=
  m.all (fun e => decide (e.2 ≠ d))

/-- The listed keys. -/
def keys {α : Type} (m : SMap α) : List Nat := m.map Prod.fst

/-- The entries whose key and value pass `p`. -/
def keep {α : Type} (p : Nat → α → Bool) (m : SMap α) : SMap α := m.filter (fun e => p e.1 e.2)

/-- Rewrites every listed value. -/
def mapVal {α : Type} (f : Nat → α → α) (m : SMap α) : SMap α := m.map (fun e => (e.1, f e.1 e.2))

end Sys2Proof.SMap
end

