-- ==== Sys2Proof/Machine/Crypto.lean ====
section
/-! DEFINITION. The published algorithms that Chapter 12 names: AES, its modes, CMAC, the counter-mode KDF, key wrap,
SHA-256 and HMAC. Byte strings are lists, first byte first. PRESUMED from the standards the spec names. -/

namespace Sys2Proof.Machine

/-- A string of bytes. -/
abbrev Bytes := List (BitVec 8)

/-- Byte `k` of a number, little-endian, for `n` bytes. -/
def leBytes (v n : Nat) : Bytes := (List.range n).map (fun k => BitVec.ofNat 8 (v / 2 ^ (8 * k)))

/-- `n` bytes of a number, big-endian. -/
def beBytes (v n : Nat) : Bytes := (leBytes v n).reverse

/-- The number a little-endian string spells. -/
def ofLe (b : Bytes) : Nat := b.foldr (fun x a => x.toNat + 256 * a) 0

/-- The number a big-endian string spells. -/
def ofBe (b : Bytes) : Nat := b.foldl (fun a x => a * 256 + x.toNat) 0

/-- XOR of two strings, to the length of the shorter. -/
def xorB (a b : Bytes) : Bytes := List.zipWith (fun x y => x ^^^ y) a b

/-- `n` zero bytes. -/
def zeros (n : Nat) : Bytes := List.replicate n 0

/-- A string cut into pieces of `n` bytes; `fuel` bounds the number of pieces. -/
def chunksOf (n : Nat) : Nat → Bytes → List Bytes
  | 0, _ => []
  | fuel + 1, b => if b = [] then [] else b.take n :: chunksOf n fuel (b.drop n)

/-- The pieces of a string. -/
def pieces (n : Nat) (b : Bytes) : List Bytes := chunksOf n b.length b

/-! AES (FIPS 197). -/

/-- Multiplication by x in GF(2^8). -/
def xtime (b : BitVec 8) : BitVec 8 := if b.msb then (b <<< 1) ^^^ 0x1B#8 else b <<< 1

/-- Product in GF(2^8). -/
def gmul (a b : BitVec 8) : BitVec 8 :=
  ((List.range 8).foldl (fun (p : BitVec 8 × BitVec 8) k =>
    (if b.getLsbD k then p.1 ^^^ p.2 else p.1, xtime p.2)) (0, a)).1

/-- Inverse in GF(2^8), zero for zero: the 254th power. -/
def ginv (a : BitVec 8) : BitVec 8 := (List.range 253).foldl (fun p _ => gmul p a) a

/-- The S-box. -/
def sbox (a : BitVec 8) : BitVec 8 :=
  let i := ginv a
  i ^^^ i.rotateLeft 1 ^^^ i.rotateLeft 2 ^^^ i.rotateLeft 3 ^^^ i.rotateLeft 4 ^^^ 0x63#8

/-- The inverse S-box. -/
def invSbox (a : BitVec 8) : BitVec 8 := ginv (a.rotateLeft 1 ^^^ a.rotateLeft 3 ^^^ a.rotateLeft 6 ^^^ 0x05#8)

/-- Byte `k` of a string, zero beyond its end. -/
def byteAt (b : Bytes) (k : Nat) : BitVec 8 := (b[k]?).getD 0

/-- Rotates the rows of a state left by `d` times their number. -/
def shiftRows (d : Nat) (b : Bytes) : Bytes :=
  (List.range 16).map (fun k => byteAt b ((k % 4) + 4 * ((k / 4 + d * (k % 4)) % 4)))

/-- Multiplies each column by the circulant matrix with first row `m`. -/
def mixColumns (m : Bytes) (b : Bytes) : Bytes :=
  (List.range 16).map (fun k => (List.range 4).foldl (fun a j =>
    a ^^^ gmul (byteAt m ((j + 4 - k % 4) % 4)) (byteAt b (4 * (k / 4) + j))) 0)

/-- Next word of the key schedule: word `i` for a key of `nk` words. -/
def keyWord (nk i : Nat) (prev back : Bytes) (rcon : BitVec 8) : Bytes :=
  let t :=
    if i % nk = 0 then xorB ((prev.drop 1 ++ prev.take 1).map sbox) (rcon :: zeros 3)
    else if 6 < nk ∧ i % nk = 4 then prev.map sbox else prev
  xorB back t

/-- The round constants' powers of x. -/
def rconOf (n : Nat) : BitVec 8 := (List.range (n - 1)).foldl (fun a _ => xtime a) 1

/-- The key schedule: its words, for a key of 16 or 32 bytes. -/
def keySchedule (key : Bytes) : List Bytes :=
  let nk := key.length / 4
  (List.range (4 * (nk + 7) - nk)).foldl (fun ws j =>
    let i := nk + j
    ws ++ [keyWord nk i (ws.getLastD []) ((ws[i - nk]?).getD []) (rconOf (i / nk))]) (pieces 4 key)

/-- Round key `r`. -/
def roundKey (ws : List Bytes) (r : Nat) : Bytes := ((ws.drop (4 * r)).take 4).flatten

/-- AES encryption of one block. -/
def aesEnc (key blk : Bytes) : Bytes :=
  let ws := keySchedule key
  let nr := key.length / 4 + 6
  let mid := (List.range (nr - 1)).foldl (fun b r =>
    xorB (mixColumns [2, 3, 1, 1] (shiftRows 1 (b.map sbox))) (roundKey ws (r + 1))) (xorB blk (roundKey ws 0))
  xorB (shiftRows 1 (mid.map sbox)) (roundKey ws nr)

/-- AES decryption of one block. -/
def aesDec (key blk : Bytes) : Bytes :=
  let ws := keySchedule key
  let nr := key.length / 4 + 6
  let mid := (List.range (nr - 1)).foldl (fun b r =>
    mixColumns [14, 11, 13, 9] (xorB ((shiftRows 3 b).map invSbox) (roundKey ws (nr - 1 - r))))
    (xorB blk (roundKey ws nr))
  xorB ((shiftRows 3 mid).map invSbox) (roundKey ws 0)

/-! Modes. -/

/-- Doubling in GF(2^128), big-endian (CMAC). -/
def dblBe (b : Bytes) : Bytes :=
  let v := ofBe b
  beBytes ((2 * v) % 2 ^ 128 ^^^ (if 2 ^ 127 ≤ v then 0x87 else 0)) 16

/-- AES-CMAC (SP 800-38B). -/
def cmac (key msg : Bytes) : Bytes :=
  let k1 := dblBe (aesEnc key (zeros 16))
  let k2 := dblBe k1
  let full := msg.length % 16 = 0 ∧ msg ≠ []
  let n := if full then msg.length - 16 else msg.length / 16 * 16
  let last := msg.drop n
  let lastB := if full then xorB last k1 else xorB ((last ++ [0x80#8] ++ zeros 15).take 16) k2
  let c := (pieces 16 (msg.take n)).foldl (fun a b => aesEnc key (xorB a b)) (zeros 16)
  aesEnc key (xorB c lastB)

/-- The ASCII bytes of a label. -/
def ascii (s : String) : Bytes := s.toList.map (fun c => BitVec.ofNat 8 c.toNat)

/-- KDF(K, label, L) of R379. -/
def kdf (key : Bytes) (label : String) (bits : Nat) : Bytes :=
  ((List.range ((bits + 127) / 128)).flatMap (fun i =>
    cmac key (beBytes (i + 1) 1 ++ ascii label ++ [0] ++ beBytes bits 2))).take (bits / 8)

/-- Multiplication of an XTS tweak by x, little-endian. -/
def xtsMul (b : Bytes) : Bytes :=
  let v := ofLe b
  leBytes ((2 * v) % 2 ^ 128 ^^^ (if 2 ^ 127 ≤ v then 0x87 else 0)) 16

/-- The tweak of block `n`. -/
def xtsTweak (t : Bytes) (n : Nat) : Bytes := (List.range n).foldl (fun a _ => xtsMul a) t

/-- One XTS block with its tweak. -/
def xtsBlock (f : Bytes → Bytes) (t b : Bytes) : Bytes := xorB (f (xorB b t)) t

/-- XTS-AES encryption of one data unit, with ciphertext stealing (IEEE 1619). -/
def xtsEnc (k1 k2 tweak msg : Bytes) : Bytes :=
  let t := aesEnc k2 tweak
  let m := msg.length / 16
  let r := msg.length % 16
  let whole := fun n => ((pieces 16 (msg.take (16 * n))).zipIdx).flatMap
    (fun e => xtsBlock (aesEnc k1) (xtsTweak t e.2) e.1)
  if r = 0 then whole m
  else
    let cc := xtsBlock (aesEnc k1) (xtsTweak t (m - 1)) ((msg.drop (16 * (m - 1))).take 16)
    let pp := msg.drop (16 * m) ++ cc.drop r
    whole (m - 1) ++ xtsBlock (aesEnc k1) (xtsTweak t m) pp ++ cc.take r

/-- XTS-AES decryption of one data unit. -/
def xtsDec (k1 k2 tweak msg : Bytes) : Bytes :=
  let t := aesEnc k2 tweak
  let m := msg.length / 16
  let r := msg.length % 16
  let whole := fun n => ((pieces 16 (msg.take (16 * n))).zipIdx).flatMap
    (fun e => xtsBlock (aesDec k1) (xtsTweak t e.2) e.1)
  if r = 0 then whole m
  else
    let pp := xtsBlock (aesDec k1) (xtsTweak t m) ((msg.drop (16 * (m - 1))).take 16)
    let cc := msg.drop (16 * m) ++ pp.drop r
    whole (m - 1) ++ xtsBlock (aesDec k1) (xtsTweak t (m - 1)) cc ++ pp.take r

/-- CBC encryption with PKCS#7 padding. -/
def cbcEnc (key iv msg : Bytes) : Bytes :=
  let p := 16 - msg.length % 16
  ((pieces 16 (msg ++ List.replicate p (BitVec.ofNat 8 p))).foldl (fun (a : Bytes × Bytes) b =>
    let c := aesEnc key (xorB a.1 b)
    (c, a.2 ++ c)) (iv, [])).2

/-- CBC decryption without removing the padding. -/
def cbcDec (key iv msg : Bytes) : Bytes :=
  ((pieces 16 msg).foldl (fun (a : Bytes × Bytes) c => (c, a.2 ++ xorB (aesDec key c) a.1)) (iv, [])).2

/-- The length of a valid PKCS#7 padding, if it is valid. -/
def pkcsPad (b : Bytes) : Option Nat :=
  let p := (b.getLastD 0).toNat
  if 1 ≤ p ∧ p ≤ 16 ∧ (b.drop (b.length - p)).all (fun x => decide (x.toNat = p)) then some p else none

/-- CTR mode with a 128-bit big-endian counter block. -/
def ctrMode (key ctr msg : Bytes) : Bytes :=
  ((pieces 16 msg).zipIdx).flatMap (fun e => xorB e.1 (aesEnc key (beBytes ((ofBe ctr + e.2) % 2 ^ 128) 16)))

/-- Product in the GHASH field (SP 800-38D), on big-endian numbers. -/
def ghashMul (x y : Nat) : Nat :=
  ((List.range 128).foldl (fun (p : Nat × Nat) k =>
    (if x.testBit (127 - k) then p.1 ^^^ p.2 else p.1,
      if p.2 % 2 = 1 then (p.2 / 2) ^^^ (0xE1 * 2 ^ 120) else p.2 / 2)) (0, y)).1

/-- A string padded with zeros to whole blocks. -/
def pad16 (b : Bytes) : Bytes := b ++ zeros ((16 - b.length % 16) % 16)

/-- GHASH. -/
def ghash (h : Nat) (b : Bytes) : Nat := (pieces 16 b).foldl (fun a x => ghashMul (a ^^^ ofBe x) h) 0

/-- The tag of AES-GCM over associated data and ciphertext, 12-byte nonce. -/
def gcmTag (key nonce aad ct : Bytes) : Bytes :=
  let h := ofBe (aesEnc key (zeros 16))
  let s := ghash h (pad16 aad ++ pad16 ct ++ beBytes (8 * aad.length) 8 ++ beBytes (8 * ct.length) 8)
  xorB (beBytes s 16) (aesEnc key (nonce ++ beBytes 1 4))

/-- AES-GCM encryption or decryption of the text: 32-bit counter from 2. -/
def gcmText (key nonce msg : Bytes) : Bytes :=
  ((pieces 16 msg).zipIdx).flatMap (fun e => xorB e.1 (aesEnc key (nonce ++ beBytes ((e.2 + 2) % 2 ^ 32) 4)))

/-- RFC 3394 key wrap: one of the 6n steps. -/
def wrapStep (kek : Bytes) (n : Nat) (p : Bytes × List Bytes) (t : Nat) : Bytes × List Bytes :=
  let i := t % n
  let b := aesEnc kek (p.1 ++ (p.2[i]?).getD [])
  (xorB (b.take 8) (beBytes (t + 1) 8), p.2.set i (b.drop 8))

/-- RFC 3394 key wrap. -/
def keyWrap (kek key : Bytes) : Bytes :=
  let r := pieces 8 key
  let p := (List.range (6 * r.length)).foldl (wrapStep kek r.length) (List.replicate 8 0xA6#8, r)
  p.1 ++ p.2.flatten

/-- RFC 3394 unwrap: one of the 6n steps, backwards. -/
def unwrapStep (kek : Bytes) (n : Nat) (p : Bytes × List Bytes) (t : Nat) : Bytes × List Bytes :=
  let i := t % n
  let b := aesDec kek (xorB p.1 (beBytes (t + 1) 8) ++ (p.2[i]?).getD [])
  (b.take 8, p.2.set i (b.drop 8))

/-- RFC 3394 unwrap; none where the integrity check fails. -/
def keyUnwrap (kek c : Bytes) : Option Bytes :=
  let r := pieces 8 (c.drop 8)
  let p := ((List.range (6 * r.length)).reverse).foldl (unwrapStep kek r.length) (c.take 8, r)
  if p.1 = List.replicate 8 0xA6#8 then some p.2.flatten else none

/-! SHA-256 (FIPS 180-4) and HMAC. -/

/-- The first 32 fractional bits of the square root, or cube root, of a prime, by search on integers. -/
def rootFrac (p root : Nat) : Nat :=
  ((List.range 36).foldl (fun a k =>
    let b := a + 2 ^ (35 - k)
    if b ^ root ≤ p * 2 ^ (32 * root) then b else a) 0) % 2 ^ 32

/-- Primes below `n`. -/
def primesBelow (n : Nat) : List Nat :=
  (List.range n).filter (fun p => decide (2 ≤ p) && (List.range p).all (fun d => decide (d < 2) || decide (p % d ≠ 0)))

/-- The initial hash value. -/
def shaInit : List (BitVec 32) := ((primesBelow 20).map (fun p => BitVec.ofNat 32 (rootFrac p 2)))

/-- The round constants: cube roots of the first 64 primes. -/
def shaK : List (BitVec 32) := ((primesBelow 312).map (fun p => BitVec.ofNat 32 (rootFrac p 3)))

/-- Word `i` of a list, zero beyond its end. -/
def w32 (l : List (BitVec 32)) (i : Nat) : BitVec 32 := (l[i]?).getD 0

/-- The message schedule of a block. -/
def shaSched (blk : Bytes) : List (BitVec 32) :=
  (List.range 48).foldl (fun ws j =>
    let i := 16 + j
    let x := w32 ws (i - 15)
    let y := w32 ws (i - 2)
    let s0 := x.rotateRight 7 ^^^ x.rotateRight 18 ^^^ (x >>> 3)
    let s1 := y.rotateRight 17 ^^^ y.rotateRight 19 ^^^ (y >>> 10)
    ws ++ [w32 ws (i - 16) + s0 + w32 ws (i - 7) + s1])
    ((pieces 4 blk).map (fun b => BitVec.ofNat 32 (ofBe b)))

/-- One round. -/
def shaRound (ws : List (BitVec 32)) (h : List (BitVec 32)) (i : Nat) : List (BitVec 32) :=
  let a := w32 h 0
  let e := w32 h 4
  let t1 := w32 h 7 + (e.rotateRight 6 ^^^ e.rotateRight 11 ^^^ e.rotateRight 25) +
    ((e &&& w32 h 5) ^^^ (~~~e &&& w32 h 6)) + w32 shaK i + w32 ws i
  let t2 := (a.rotateRight 2 ^^^ a.rotateRight 13 ^^^ a.rotateRight 22) +
    ((a &&& w32 h 1) ^^^ (a &&& w32 h 2) ^^^ (w32 h 1 &&& w32 h 2))
  [t1 + t2, a, w32 h 1, w32 h 2, w32 h 3 + t1, e, w32 h 5, w32 h 6]

/-- SHA-256. -/
def sha256 (msg : Bytes) : Bytes :=
  let padded := msg ++ [0x80#8] ++ zeros ((119 - msg.length % 64) % 64) ++ beBytes (8 * msg.length) 8
  ((pieces 64 padded).foldl (fun h blk =>
    List.zipWith (· + ·) h ((List.range 64).foldl (shaRound (shaSched blk)) h)) shaInit).flatMap
    (fun x => beBytes x.toNat 4)

/-- HMAC-SHA-256. -/
def hmac (key msg : Bytes) : Bytes :=
  let k := ((if 64 < key.length then sha256 key else key) ++ zeros 64).take 64
  sha256 (k.map (· ^^^ 0x5C#8) ++ sha256 (k.map (· ^^^ 0x36#8) ++ msg))

end Sys2Proof.Machine
end

