-- ==== Sys2Proof/Config.lean ====
section
/-! DEFINITION. What one part fixes and what the spec leaves open: opaque constants with no body. -/

namespace Sys2Proof.Config

/-- The free values: the value number `n` that the spec leaves open (State's counter `free` gives `n`).
DESIGN CHOICE, log 5. -/
opaque freeValue : Nat → Word

/-- The 64-bit unique ID fused at manufacture (Table 1.6). DESIGN CHOICE, log 6. -/
opaque uid : Word

/-- Whether the part is an HT7620-E; else it is an HT7620-S (Tables 0.1 and 1.5). -/
opaque gradeE : Bool


/-- The 256-bit device root key fused at manufacture (Chapter 12); no command returns it. -/
opaque rootKey : BitVec 256

/-- The 336 BCH check bits of the STRONG code over bytes 0 to 277 of a leaf (R103); the spec fixes the code's field and
its t, not its polynomials. -/
opaque bchStrong : BitVec 2224 → BitVec 336

/-- The 40 BCH check bits of codeword `n` of the LIGHT code over its data and spare bytes (R103). -/
opaque bchLight : Nat → BitVec 560 → BitVec 40

/-- Whether an ECDSA P-256 signature verifies over a digest under the public key whose SHA-256 is given (R287); the image
carries no key, and the spec does not say where the device finds the key of that hash. -/
opaque guestSigValid : BitVec 256 → BitVec 256 → BitVec 512 → Bool

/-- Whether an ECDSA P-256 signature verifies over a digest under a firmware signing key fused at manufacture (Chapter
18). -/
opaque fwSigValid : BitVec 256 → BitVec 512 → Bool

/-- The transport key under which firmware images are encrypted (Chapter 18). -/
opaque transportKey : BitVec 256

/-- The 320 bytes the sentinel LFSR puts out for a seed (R165); the spec does not give the LFSR's polynomial. -/
opaque sentinelImage : Word → BitVec 2560

/-- The effect word of a mailbox command in the Command Effects Log, which the spec does not state. -/
opaque commandEffect : Nat → BitVec 16

end Sys2Proof.Config
end

