-- ==== Sys2Proof/Machine/Events.lean ====
section
/-! DEFINITION. The events of Table 14.2: their codes, severities, and whether they post a CXL event record. -/

namespace Sys2Proof.Machine

namespace E

def GBL_BAD_ACCESS : Nat := 0x000
def GBL_ADDR_RANGE : Nat := 0x001
def GBL_WRITE_DELETED : Nat := 0x002
def GBL_PORT_NOCXL : Nat := 0x003
def GBL_NOT_OPEN : Nat := 0x004
def GBL_LINK_DOWN : Nat := 0x005
def GBL_HDM_MISS : Nat := 0x006
def GBL_POISON_IN : Nat := 0x007
def GBL_SRAM_CORR : Nat := 0x008
def GBL_SRAM_UNCORR : Nat := 0x009
def PWR_PG_MEAS_FAIL : Nat := 0x100
def PWR_PG_ESR_HIGH : Nat := 0x101
def PWR_PG_HOLD : Nat := 0x102
def PWR_PG_LOWENERGY : Nat := 0x103
def PWR_PG_ABANDON : Nat := 0x104
def PWR_PG_FWD_DONE : Nat := 0x105
def PWR_PG_BREACH : Nat := 0x106
def PWR_PG_BREACH_ACK : Nat := 0x107
def PWR_PFAIL : Nat := 0x110
def PWR_RAIL_FAIL : Nat := 0x111
def PWR_RAIL_OFF_FAIL : Nat := 0x112
def PWR_PG_CHATTER : Nat := 0x113
def PWR_RESET_OUT : Nat := 0x114
def THM_THROTTLE : Nat := 0x200
def THM_THROTTLE_END : Nat := 0x201
def THM_CRITICAL : Nat := 0x202
def THM_SENSOR_DISAGREE : Nat := 0x203
def THM_MEDIA_DEFER : Nat := 0x204
def THM_BACKOFF : Nat := 0x205
def LDG_PAGE_CORR : Nat := 0x300
def LDG_PAGE_UNCORR : Nat := 0x301
def LDG_PROTECT_WRITE : Nat := 0x302
def LDG_GUARD_REFUSE : Nat := 0x303
def REC_OVERFLOW : Nat := 0x400
def REC_LOST : Nat := 0x401
def TAL_OVERFLOW : Nat := 0x500
def TAL_SNAPSHOT : Nat := 0x501
def FWU_TRANSFER_DONE : Nat := 0x600
def FWU_ACTIVATE : Nat := 0x601
def FWU_ACTIVATE_FAIL : Nat := 0x602
def FWU_ROLLBACK : Nat := 0x603
def FWU_IMAGE_BAD : Nat := 0x604
def INJ_FIRED : Nat := 0x700
def INJ_BIST_FAIL : Nat := 0x701
def CIP_MEDIA_MAC : Nat := 0x800
def CIP_DUP_MISMATCH : Nat := 0x801
def CIP_ENGINE_OUT : Nat := 0x802
def CIP_TRNG_FAIL : Nat := 0x803
def STG_DDR_CORR : Nat := 0x900
def STG_LINE_UNCORR : Nat := 0x901
def STG_TAG_FAIL : Nat := 0x902
def STG_NODE_UNCORR : Nat := 0x903
def STG_NODE_TAMPER : Nat := 0x904
def STG_MERGE_FAIL : Nat := 0x905
def STG_POISON_FULL : Nat := 0x906
def MED_TAG_MISMATCH : Nat := 0xA00
def MED_UNCORR : Nat := 0xA01
def MED_DRIFT_SKEW : Nat := 0xA02
def MED_PAUSE_MISS : Nat := 0xA03
def MED_BOUND_MISS : Nat := 0xA04
def MED_JRNL_FULL : Nat := 0xA05
def MED_JRNL_BADTYPE : Nat := 0xA06
def MED_RESYNC : Nat := 0xA07
def MED_BUILDER_SPILL : Nat := 0xA08
def MED_CH_PAUSE : Nat := 0xA09
def MED_CH_RESUME : Nat := 0xA0A
def CON_WV_FAIL : Nat := 0xB00
def CON_RETIRE_TILE : Nat := 0xB01
def CON_RETIRE_PART : Nat := 0xB02
def CON_RETIRE_DIE : Nat := 0xB03
def CON_RETIRE_CH : Nat := 0xB04
def CON_RETIRE_STRIPE : Nat := 0xB05
def CON_REBUILD_LOSS : Nat := 0xB06
def CON_SPARE_OK : Nat := 0xB07
def CON_SPARE_LOW : Nat := 0xB08
def CON_WPROT : Nat := 0xB09
def CON_DRIFT_CLAMP : Nat := 0xB0A
def CON_NOSUSP : Nat := 0xB0B
def CON_PARITY_FIX : Nat := 0xB0C
def CON_SCRUB_LATE : Nat := 0xB0D
def VIT_UNCORR : Nat := 0xC00
def VIT_WAY_DISABLE : Nat := 0xC01
def VIT_WAY_LIMIT : Nat := 0xC02
def VIT_WINGINV_BUSY : Nat := 0xC03
def CLO_TARGET_TIMEOUT : Nat := 0xD00
def CLO_STORE_LOST : Nat := 0xD01
def CLO_FENCE_INCOMPLETE : Nat := 0xD02
def CLO_LINE_AWAY : Nat := 0xD03
def CLO_STALE_DELIVERY : Nat := 0xD04
def CLO_GRANT_SWEPT : Nat := 0xD05
def FAB_LINK_UP : Nat := 0xE00
def FAB_LINK_DOWN : Nat := 0xE01
def FAB_LINK_CRYPT : Nat := 0xE02
def FAB_LINK_TAG : Nat := 0xE03
def FAB_LINK_FOREIGN : Nat := 0xE04
def FAB_HOP_DROP : Nat := 0xE05
def FAB_KEEPER : Nat := 0xE06
def FAB_JOIN_DONE : Nat := 0xE07
def FAB_UNSEATED : Nat := 0xE08
def FAB_SEAT_CONFLICT : Nat := 0xE09
def FAB_SEAT_EMPTY : Nat := 0xE0A
def FAB_FWD_DROPPED : Nat := 0xE0B
def FAB_VT_STEP : Nat := 0xE0C
def FAB_BARRIER_DONE : Nat := 0xE0D
def FAB_BCAST : Nat := 0xE0E
def FAB_GOP_PARTIAL : Nat := 0xE0F
def FAB_DIAMETER : Nat := 0xE10
def CUR_LOAD_DONE : Nat := 0xF00
def CUR_LOAD_BUSY : Nat := 0xF01
def CUR_UNLOAD_BAD : Nat := 0xF02
def CUR_SEAL_DISCARD : Nat := 0xF03
def CUR_Q_OVERRUN : Nat := 0xF04
def CUR_Q_UNCORR : Nat := 0xF05
def CUR_CQ_BAD : Nat := 0xF06

end E

/-- Severity of a defined event code (R424): 0 Informational, 1 Warning, 2 Failure, 3 Fatal. -/
def evSeverity (c : Nat) : Option Nat :=
  if ([0x000, 0x001, 0x002, 0x004, 0x008, 0x102, 0x105, 0x107, 0x114, 0x201, 0x300, 0x500,
    0x501, 0x600, 0x601, 0x700, 0x900, 0xA02, 0xA03, 0xA04, 0xA08, 0xA09, 0xA0A, 0xB01,
    0xB05, 0xB07, 0xC03, 0xE00, 0xE06, 0xE07, 0xE0A, 0xE0C, 0xE0D, 0xE0E, 0xF00, 0xF01,
    0xF02] : List Nat).contains c then some 0
  else if ([0x003, 0x005, 0x006, 0x007, 0x100, 0x101, 0x110, 0x113, 0x200, 0x203, 0x204, 0x205,
    0x302, 0x303, 0x400, 0x401, 0x603, 0x604, 0x801, 0x901, 0x903, 0xA00, 0xA01, 0xA05,
    0xA06, 0xA07, 0xB00, 0xB02, 0xB08, 0xB0A, 0xB0B, 0xB0C, 0xB0D, 0xC00, 0xC01, 0xC02,
    0xD00, 0xD02, 0xD03, 0xD04, 0xE01, 0xE03, 0xE04, 0xE05, 0xE08, 0xE09, 0xE0B, 0xE0F,
    0xE10, 0xF03, 0xF04, 0xF05, 0xF06] : List Nat).contains c then some 1
  else if ([0x009, 0x103, 0x106, 0x111, 0x112, 0x301, 0x602, 0x701, 0x800, 0x802, 0x803, 0x902,
    0x904, 0x905, 0xB03, 0xB04, 0xB06, 0xB09, 0xD01, 0xD05, 0xE02] : List Nat).contains c then some 2
  else if ([0x104, 0x202, 0x906] : List Nat).contains c then some 3
  else none

/-- Whether an event posts a CXL event record (R424, the asterisk of Table 14.2). -/
def evPosts (c : Nat) : Bool :=
  ([0x003, 0x005, 0x009, 0x100, 0x101, 0x103, 0x104, 0x106, 0x110, 0x111, 0x112, 0x200,
    0x202, 0x203, 0x205, 0x301, 0x303, 0x400, 0x401, 0x601, 0x602, 0x603, 0x701, 0x800,
    0x802, 0x803, 0x901, 0x902, 0x903, 0x904, 0x905, 0x906, 0xA01, 0xA05, 0xA07, 0xB02,
    0xB03, 0xB04, 0xB06, 0xB08, 0xB09, 0xC00, 0xC01, 0xD01, 0xD02, 0xD05, 0xE01, 0xE02,
    0xE04, 0xE07, 0xE08, 0xE09, 0xE0B, 0xE10, 0xF03] : List Nat).contains c

end Sys2Proof.Machine
end

