-- ==== Sys2Proof/Machine/PartsHost.lean ====
section
/-! DEFINITION. The records of the state that the registrar (Chapter 14), the region table (Chapter 2) and the host
ports and atrium queues (Chapter 10) hold. -/

namespace Sys2Proof.Machine

/-- One happening on its way to the registrar: the content of R421 that its source gives it. -/
structure Ev where
  code : Nat
  inst : Nat
  aux : Nat
  arg : Nat
  time : Nat
  inj : Bool
  deriving DecidableEq, Repr

/-- One registrar record (Table 14.1). -/
structure Rcd where
  seq : Nat
  time : Nat
  inst : Nat
  aux : Nat
  sev : Nat
  inj : Bool
  summary : Bool
  replay : Bool
  code : Nat
  arg : Nat
  deriving DecidableEq, Repr

/-- The open rate window of one source (R426): arrival of its first event, its length in ns, events recorded in it,
events suppressed in it, and the inst and aux of the last suppressed one. -/
structure RateWin where
  opened : Nat
  len : Nat
  seen : Nat
  supp : Nat
  inst : Nat
  aux : Nat
  deriving DecidableEq, Repr

/-- One reader's cursor and record window (R434): the four host ports and the copy that serves admrd. -/
structure RecReader where
  seq : Nat
  busy : Bool
  base : Nat
  entries : SMap Rcd
  deriving DecidableEq, Repr

/-- A reader at reset: Table 14.4 gives REC_RDSEQ = 1. -/
def RecReader.init : RecReader := ⟨1, false, 0, []⟩

/-- The registrar (R422 to R436). -/
structure Registrar where
  /-- the counter has been read from the ledger store (R422) -/
  running : Bool
  /-- events held in arrival order until then -/
  held : List Ev
  /-- records in the buffer, by number (R429) -/
  buf : SMap Rcd
  /-- records of the annal region, by number (R432) -/
  annal : SMap Rcd
  /-- open rate windows, by source (R426) -/
  wins : SMap RateWin
  /-- the newest number the running annal write holds -/
  writing : Option Nat
  /-- events dropped since the last REC_OVERFLOW record (R431) -/
  dropPend : Nat
  readers : SMap RecReader
  /-- ports inside a coalescing interval (R436), and ports with a send due after it -/
  irqBusy : BitVec 4
  irqDue : BitVec 4
  /-- during a flush: the newest number recorded before step 7 began (R433) -/
  step7 : Option Nat
  deriving DecidableEq, Repr

/-- A CXL event record (R425). -/
inductive CxlType where
  | media | dram | memModule | vendor
  deriving DecidableEq, Repr

/-- One posted CXL event record: its handle, type, DPA and the registrar record it carries. -/
structure CxlRec where
  handle : Nat
  type : CxlType
  dpa : Nat
  rcd : Rcd
  deriving DecidableEq, Repr

/-- One event log of a port: 256 records, oldest first, and its overflow indication (R314). -/
structure CxlLog where
  recs : List CxlRec
  overflow : Bool
  handle : Nat
  vector : Bool
  deriving DecidableEq, Repr

/-- A log at reset: empty, its MSI-X interrupt not selected. -/
def CxlLog.init : CxlLog := ⟨[], false, 1, false⟩

/-- One HDM decoder (R34 to R36): host base and size, ways and granularity as exponents, committed and locked. -/
structure Decoder where
  hpa : Nat
  size : Nat
  w : Nat
  g : Nat
  committed : Bool
  locked : Bool
  deriving DecidableEq, Repr

/-- A decoder at reset. -/
def Decoder.init : Decoder := ⟨0, 0, 0, 8, false, false⟩

/-- One MSI-X table entry: its mask and its pending bit. -/
structure MsixVec where
  masked : Bool
  pending : Bool
  deriving DecidableEq, Repr

/-- A table entry at reset: masked, as PCIe resets it. -/
def MsixVec.init : MsixVec := ⟨true, false⟩

/-- One write held in a port's early-acknowledgement buffer (R229): line address, bytes, mask, poison.
DEDUCED, log 51. -/
structure EabEntry where
  ga : Nat
  data : Line
  mask : LineMask
  poison : Bool
  deriving DecidableEq, Repr

/-- A read a port has sent on and not yet answered. -/
structure PortRead where
  tag : Nat
  ga : Nat
  deriving DecidableEq, Repr

/-- One host port. DEDUCED, log 16. -/
structure Port where
  /-- PERST# is asserted -/
  perst : Bool
  /-- the warden has loaded the port's configuration (R304) -/
  loaded : Bool
  decs : SMap Decoder
  /-- the half latch of R4: the register's offset and its latched high half -/
  latch : Option (Nat × Nat)
  reads : List PortRead
  eab : List EabEntry
  logs : SMap CxlLog
  msix : SMap MsixVec
  /-- gather buffers, keyed by queue and window (R319) -/
  gather : SMap Line
  /-- the pop latch (R323): the entry, or poison -/
  pop : Option Line
  /-- queues whose open packet this port opened -/
  packets : List Nat
  /-- background mailbox command whose result is due on this port -/
  bg : Option Nat
  /-- Global Persistent Flush phase 1 has been seen (R97) -/
  gpf1 : Bool
  /-- a Set LSA whose page writes are not complete (R311) -/
  lsaDue : Bool
  /-- a Get Poison List that has more records to return: its address, its length in lines and the next record's place -/
  poisonAt : Option (Nat × Nat × Nat)
  deriving DecidableEq, Repr

/-- A port at power-on. -/
def Port.init : Port := ⟨true, false, [], none, [], [], [], [], [], none, [], none, false, false, none⟩

/-- One entry of an atrium queue: its 64 bytes, and whether a word of it has become uncorrectable (R324). -/
structure QEntry where
  data : Line
  bad : Bool
  deriving DecidableEq, Repr

/-- One atrium queue's content: visible entries and held entries, oldest first, and whether a packet is open. -/
structure AQueue where
  vis : List QEntry
  held : List QEntry
  packet : Bool
  /-- the packet reached its cut-through threshold: later entries of it are visible on arrival (R320) -/
  cut : Bool
  deriving DecidableEq, Repr

/-- An empty queue. -/
def AQueue.init : AQueue := ⟨[], [], false, false⟩

/-- The write policies of Table 2.3. -/
inductive Wpol where
  | wb | wt | wa | uc
  deriving DecidableEq, Repr

/-- The region attributes of Table 2.3; `light`, `append`, `bounded`, `sealable`, `ewa` and `loan` are the values 1. -/
structure Attr where
  wpol : Wpol
  light : Bool
  append : Bool
  bounded : Bool
  sealable : Bool
  keyslot : Nat
  ewa : Bool
  loan : Bool
  deriving DecidableEq, Repr

/-- The defaults of Table 2.3. -/
def Attr.default : Attr := ⟨.wb, false, false, false, false, 127, false, false⟩

/-- The states of a region table entry (Table 2.5). -/
inductive RgnSt where
  | free | live | deleting
  deriving DecidableEq, Repr

/-- A region table entry (Table 2.5), base and size in granules. -/
structure Region where
  st : RgnSt
  base : Nat
  size : Nat
  gen : Nat
  attr : Attr
  created : Nat
  deriving DecidableEq, Repr

/-- The entry of region `n` at a device's first start (Table 2.5, Reset column). -/
def Region.init (n : Nat) : Region :=
  if n = 0 then ⟨.live, 0, 458752, 0, Attr.default, 0⟩ else ⟨.free, 0, 0, 0, Attr.default, 0⟩

/-- The kinds of region operation. -/
inductive RgnKind where
  | create | change | delete
  deriving DecidableEq, Repr

/-- A region operation under way (R46 to R53): who asked, the entry before and after, whether its page write has started,
the slices that have switched, the lines whose delivery it has recalled, and how far a create or delete has come. -/
structure RgnOp where
  kind : RgnKind
  region : Nat
  ctx : Option Nat
  old : Region
  new : Region
  adjusted : Bool
  committed : Bool
  switched : BitVec 16
  /-- lines granted before a create, whose delivery is discarded -/
  due : List Nat
  /-- the UNMAP entry of its tiles is on media -/
  unmapped : Bool
  /-- a delete's second page write, which sets FREE, has been queued, and has started -/
  freeing : Bool
  freed : Bool
  deriving DecidableEq, Repr

end Sys2Proof.Machine
end

