-- ==== Sys2Proof/Machine/PartsCoh.lean ====
section
/-! DEFINITION. The records of the state that the wing caches, the vitrine (Chapter 6), the line protocol and the
remote lines (Chapter 7) hold. A line is named by its gallery line number, the gallery address divided by 64. -/

namespace Sys2Proof.Machine

/-- The wing cache line states of Table 7.1; a line not listed is INVALID. -/
inductive WSt where
  | shared | owned | modified
  deriving DecidableEq, Repr

/-- One line of a wing's L2; its L1 copies hold the same bytes. -/
structure WLine where
  st : WSt
  data : Line
  poison : Bool
  deriving DecidableEq, Repr

/-- A MODIFIED line on its way from a wing to its home (R205). -/
structure WbEnt where
  wing : Nat
  gl : Nat
  data : Line
  poison : Bool
  deriving DecidableEq, Repr

/-- How a line of another device is lent to this device (R207). -/
inductive Lent where
  | local | shared | modified
  deriving DecidableEq, Repr

/-- A valid line in a way of a vitrine slice. -/
structure VLine where
  gl : Nat
  data : Line
  dirty : Bool
  poison : Bool
  lent : Lent
  deriving DecidableEq, Repr

/-- What an eviction buffer entry holds (R184). -/
inductive EvKind where
  | victim | write | atomic
  deriving DecidableEq, Repr

/-- One eviction buffer entry: its line, its bytes with their mask, poison. -/
structure EvEnt where
  gl : Nat
  kind : EvKind
  data : Line
  mask : LineMask
  poison : Bool
  deriving DecidableEq, Repr

/-- Corrected and uncorrectable counts of one way of one slice (R195), and whether it is being disabled. -/
structure WayCnt where
  corr : Nat
  uncorr : Nat
  disabling : Bool
  deriving DecidableEq, Repr

/-- Counts at the start of a window. -/
def WayCnt.init : WayCnt := ⟨0, 0, false⟩

/-- Atomic operations (R247). -/
inductive AtomOp where
  | swap | add | and | or | xor | min | max | minu | maxu | cas
  deriving DecidableEq, Repr

/-- An atomic: its operation, operand size in bytes, byte offset in the line, operand and comparand. -/
structure Atom where
  op : AtomOp
  size : Nat
  off : Nat
  a : Word
  b : Word
  deriving DecidableEq, Repr

/-- The requests of Table 7.2, and the invalidating snoop of a filter victim (R202). -/
inductive ReqKind where
  | read | own | peek | write | atomic | zero | writeback | inval
  deriving DecidableEq, Repr

/-- Who waits for a request. -/
inductive Src where
  /-- a CXL.mem request of a host port, by its tag -/
  | port (p tag : Nat)
  /-- an entry of a port's early-acknowledgement buffer -/
  | eab (p : Nat)
  /-- a load of a context -/
  | load (c : Nat)
  /-- an instruction fetch of a context -/
  | fetch (c : Nat)
  /-- the oldest store buffer entry of a context -/
  | store (c : Nat)
  /-- an atomic or zero-line instruction of a context -/
  | atom (c : Nat)
  /-- a job of a context's job table -/
  | job (c slot : Nat)
  /-- a request of another device -/
  | fabric (seat tag : Nat) (gen : Bool)
  /-- a wing's write-back -/
  | wing (w : Nat)
  /-- the device itself -/
  | dev
  deriving DecidableEq, Repr

/-- A request at a home slice. -/
structure Req where
  kind : ReqKind
  gl : Nat
  src : Src
  data : Line
  mask : LineMask
  poison : Bool
  atom : Option Atom
  deriving DecidableEq, Repr

/-- What a request in progress at its home waits for. -/
inductive Phase where
  /-- the two copies of its snoop -/
  | snoop
  /-- the end of conflicting loans (R210) -/
  | loan
  /-- the budget (R71) -/
  | hold
  /-- a staging read -/
  | stg
  /-- a media read -/
  | med
  /-- an eligible way or an eviction buffer entry (R183, R184), or room for its filter and directory entries (R202, R208) -/
  | alloc
  deriving DecidableEq, Repr

/-- A request in progress at its home slice (R203 to R205). -/
structure Txn where
  req : Req
  phase : Phase
  /-- copies of the snoop that have returned, 0 to 2 -/
  back : Nat
  /-- wing stops (bits 0 to 7) and agent stops (bits 8 to 11) that have answered -/
  answered : BitVec 12
  /-- a wing holds, or held, a copy -/
  found : Bool
  /-- a wing other than the requester's held one (R220) -/
  taken : Bool
  /-- data a MODIFIED or OWNED holder supplied, with its poison -/
  got : Option (Line × Bool)
  /-- a wing answered "write-back pending" -/
  wbPend : Bool
  /-- sharers whose INVACK is due, and the owner whose DLV or RELEASE is due -/
  invs : BitVec 64
  away : Option Nat
  /-- the line was fetched for this request -/
  line : Option (Line × Bool)
  /-- another request for the line waited or ran before it -/
  waited : Bool
  filterHit : Bool
  /-- an INV or RECALL was sent across the fabric for it (R218) -/
  remote : Bool
  deriving DecidableEq, Repr

/-- Loans of a local line: seats holding LENT_SHARED and the time of the last grant (R208). -/
structure Loan where
  sharers : BitVec 64
  stamp : Nat
  deriving DecidableEq, Repr

/-- A grant table entry: the seat with write ownership, whether the line is away (R209, R214), the time of the grant (R208) and
the entry's place in the table. -/
structure Grant where
  seat : Nat
  away : Bool
  stamp : Nat
  slot : Nat
  deriving DecidableEq, Repr

/-- The fabric line messages of Table 7.3 that a source sends as requests. -/
inductive FKind where
  | lread | lown | fread | fwrite | own | dlv | release | fatomic | recall | inv
  deriving DecidableEq, Repr

/-- A fabric request this device has sent and not had answered (R212, R213). -/
structure FReq where
  kind : FKind
  seat : Nat
  tag : Nat
  gen : Bool
  gl : Nat
  src : Src
  data : Line
  mask : LineMask
  poison : Bool
  atom : Option Atom
  /-- attempt under way, 1 to 3 -/
  attempt : Nat
  /-- the attempt under way has ended without an answer -/
  ended : Bool
  deriving DecidableEq, Repr

/-- What the home device keeps of the last request of a seat and tag (R212). -/
structure Dedup where
  gen : Bool
  done : Bool
  kind : FKind
  gl : Nat
  data : Line
  poison : Bool
  flag : Bool
  deriving DecidableEq, Repr

/-- The life of an owned outbound entry (R211). -/
inductive OutSt where
  | asked | owned | delivering
  deriving DecidableEq, Repr

/-- An outbound entry of a fabric agent: bytes held for a line of another device. -/
structure OutEnt where
  st : OutSt
  data : Line
  mask : LineMask
  poison : Bool
  ewa : Bool
  /-- contexts with a store in the entry, by number -/
  ctxs : List Nat
  deriving DecidableEq, Repr

/-- An entry of the forward hold area (R78): bytes, mask, home UID, whether it is a RELEASE, whether its delivery is under
way, and the contexts with a store in it (R226). -/
structure FwdEnt where
  data : Line
  mask : LineMask
  poison : Bool
  uid : Nat
  release : Bool
  sent : Bool
  ctxs : List Nat
  deriving DecidableEq, Repr

/-- The caches, the line protocol and the remote lines of the device. -/
structure Coh where
  /-- wing lines, keyed by wing × 2^44 + line -/
  wl : SMap WLine
  /-- L2 recency of a set, keyed by wing × 1024 + set: lines, most recent first -/
  l2 : SMap (List Nat)
  /-- L1 data recency of a set, keyed by core × 128 + set -/
  l1d : SMap (List Nat)
  /-- L1 instruction sets, keyed by core × 128 + set: lines with their bytes, most recent first -/
  l1i : SMap (List (Nat × Line))
  /-- write-backs on their way home, oldest first -/
  wbq : List WbEnt
  /-- vitrine ways, keyed by (slice × 3072 + set) × 16 + way -/
  vit : SMap VLine
  /-- vitrine recency of a set, keyed by slice × 3072 + set: ways, most recent first -/
  vrec : SMap (List Nat)
  /-- eviction buffers, oldest first -/
  evb : List EvEnt
  /-- way counts, keyed by slice × 16 + way -/
  ways : SMap WayCnt
  /-- ways that their slice has disabled by itself, as slice × 16 + way (R196) -/
  autoOff : List Nat
  /-- wing filter entries, oldest first (R202) -/
  filter : List Nat
  /-- conflict queues, oldest first -/
  conf : List Req
  /-- requests in progress, by line -/
  txns : SMap Txn
  loans : SMap Loan
  grants : SMap Grant
  /-- lines of the grant table that are written and not yet on media, four entries each (R209) -/
  gdirty : List Nat
  freqs : SMap FReq
  /-- generation of the last use of a seat and tag -/
  fgen : SMap Bool
  dedup : SMap Dedup
  outb : SMap OutEnt
  fwd : SMap FwdEnt
  /-- charge of a line in bytes (Table 3.3) -/
  chg : SMap Nat
  /-- contention predictor counters, keyed by wing × 1024 + index (R220) -/
  pred : SMap Nat
  /-- wings whose invalidate-all runs (R188), and those in a wing reset (R26) -/
  invBusy : BitVec 8
  rstBusy : BitVec 8
  /-- loan ways in effect (R190) -/
  loanWays : Nat
  /-- breach-listed lines rewritten whole since this start (R94) -/
  brkClean : List Nat
  /-- lines poisoned at this home by a sweep, a release or a poisoned write-back -/
  homePoison : List Nat
  /-- the sweep that follows the delivery of the forward hold area after this start is still to send (R215) -/
  sweepDue : Bool
  deriving DecidableEq, Repr

/-- The caches and the protocol of a device that has just started (R198). -/
def Coh.init : Coh :=
  { wl := [], l2 := [], l1d := [], l1i := [], wbq := [], vit := [], vrec := [], evb := [], ways := [], autoOff := [], filter := [],
    conf := [], txns := [], loans := [], grants := [], gdirty := [], freqs := [], fgen := [], dedup := [], outb := [], fwd := [],
    chg := [], pred := [], invBusy := 0, rstBusy := 0, loanWays := 2, brkClean := [], homePoison := [], sweepDue := true }

end Sys2Proof.Machine
end

