-- ==== Sys2Proof/Machine/PartsMedia.lean ====
section
/-! DEFINITION. The records of the state that staging, the media pipeline (Chapter 4) and the conservator (Chapter 5)
hold. Local lines are named by local address / 64, physical leaves by physical tile × 64 + leaf. -/

namespace Sys2Proof.Machine

/-- A physical leaf's 320 bytes, byte 0 in the low bits (Table 4.3). -/
abbrev Image := BitVec 2560

/-- The states of a catalogue entry (Table 4.5). -/
inductive CatSt where
  | unmapped | mapped | moving
  deriving DecidableEq, Repr

/-- A catalogue entry (Table 4.5). -/
structure CatEnt where
  st : CatSt
  lossy : Bool
  overflow : Bool
  dst : Nat
  phys : Nat
  written : BitVec 64
  deriving DecidableEq, Repr

/-- The Reset column of Table 4.5. -/
def CatEnt.init : CatEnt := ⟨.unmapped, false, false, 0, 0, 0⟩

/-- A journal entry (Table 4.6); `type` as Table 4.7 numbers it. -/
structure JEnt where
  seq : Nat
  type : Nat
  gcount : Nat
  gindex : Nat
  tile : Nat
  arg0 : Nat
  arg1 : Nat
  deriving DecidableEq, Repr

/-- One of the two checkpoint copies (R115). -/
structure CkptCopy where
  s : Nat
  complete : Bool
  cat : SMap CatEnt
  deriving DecidableEq, Repr

/-- What waits for a journal entry to reach media (R112, R140, R156). -/
inductive Release where
  /-- the staging copy of a leaf and its lines' charges -/
  | leaf (tile leaf : Nat)
  /-- a whole tile's staging copies and charges -/
  | tile (tile : Nat)
  /-- a physical tile returns to the free pool -/
  | phys (p : Nat)
  /-- a move ends and its hold is lifted -/
  | moveEnd (tile : Nat)
  /-- the tiles of a region operation are unmapped on media (R44) -/
  | region (n : Nat)
  deriving DecidableEq, Repr

/-- A line held in the staging window: its bytes, which of them it holds, poison, and whether it waits for media. -/
structure StLine where
  data : Line
  mask : LineMask
  poison : Bool
  dirty : Bool
  deriving DecidableEq, Repr

/-- How a media read is being served. -/
inductive MPath where
  | queued | direct | recon | waiting
  deriving DecidableEq, Repr

/-- A media read in progress (R119, R122, R128): the leaf, its class, the bins already tried, reconstruction state. -/
structure MRead where
  tile : Nat
  leaf : Nat
  bounded : Bool
  path : MPath
  tried : List Nat
  /-- partitions it is admitted to as a BOUNDED read or sub-read (R127) -/
  adm : List Nat
  /-- members still to return, and the XOR of those that have -/
  need : List Nat
  acc : Image
  /-- cause under which the read is late, as the n of MED_BNDMISSn -/
  late : Option Nat
  reconTried : Bool
  /-- an INV or RECALL preceded it (R218) -/
  remote : Bool
  deriving DecidableEq, Repr

/-- What a partition is doing (R100, R125). -/
inductive PartOp where
  | idle | writing | suspended
  deriving DecidableEq, Repr

/-- One die partition. -/
structure Part where
  op : PartOp
  /-- the read whose array read runs, as logical tile × 64 + leaf -/
  reader : Option Nat
  /-- inside the commit window, as the die's STATUS reports -/
  commit : Bool
  /-- holds its row's token as a locked write -/
  locked : Bool
  /-- suspensions of the write in progress -/
  susp : Nat
  retired : Bool
  /-- tiles retired for write-verify failure -/
  wvTiles : Nat
  /-- physical leaf of the write in progress and the image being written -/
  wleaf : Nat
  wimg : Image
  deriving DecidableEq, Repr

/-- An idle partition. -/
def Part.init : Part := ⟨.idle, none, false, false, 0, false, 0, 0, 0⟩

/-- A tile record (Table 5.1); states 0 FREE, 1 MAPPED, 2 RETIRED, 3 STRANDED, 4 SENTINEL. -/
structure TileRec where
  wcount : Nat
  rcount : Nat
  st : Nat
  worn : Bool
  refresh : Bool
  forced : Bool
  tnew : Nat
  told : Nat
  deriving DecidableEq, Repr

/-- The Reset column of Table 5.1, admission at vault time 0; the sentinel stripe's tiles are SENTINEL (R165). -/
def TileRec.init (p : Nat) : TileRec :=
  ⟨1, 0, if p % 262144 = 0x3FFFF then 4 else 0, false, false, false, 0, 0⟩

/-- A stripe record (Table 5.2); states 0 FREE, 1 CLEAN, 2 INUSE, 3 BUILDING, 4 CLOSED. -/
structure StripeRec where
  gone : BitVec 16
  ppos : Nat
  light : Bool
  st : Nat
  mapped : Nat
  /-- between EXCISE_BEGIN and EXCISE_END: the member leaving and the new ppos (R162) -/
  exposed : Option (Nat × Nat)
  deriving DecidableEq, Repr

/-- The Reset column of Table 5.2. -/
def StripeRec.init (n : Nat) : StripeRec := ⟨0, n % 16, false, 1, 0, none⟩

/-- An open in-place update (R133): the leaf written, the images on their way, and which have verified. -/
structure Update where
  stripe : Nat
  pos : Nat
  /-- logical tile, or none for a refresh or a copy -/
  tile : Option Nat
  member : Nat
  newData : Image
  newPar : Image
  dataDone : Bool
  parDone : Bool
  /-- journal entry the release of its leaf waits for, 0 for none -/
  seq : Nat
  deriving DecidableEq, Repr

/-- A stripe builder (R136 to R140). -/
structure Builder where
  id : Nat
  region : Nat
  stripe : Nat
  /-- logical tile of each data slot in use, in slot order, with the member it lies on -/
  slots : List (Nat × Nat)
  /-- lines present, keyed by slot × 256 + leaf × 4 + line -/
  lines : SMap Line
  /-- leaves written to their physical leaves, as slot × 64 + leaf -/
  written : List Nat
  /-- leaves spilled to staging, keyed by slot × 64 + leaf -/
  spilled : List Nat
  first : Nat
  closing : Bool
  deriving DecidableEq, Repr

/-- A tile move (R156, R157). -/
structure Move where
  src : Nat
  dst : Nat
  forced : Bool
  copied : BitVec 64
  recopy : BitVec 64
  /-- MOVE_END has been journalled -/
  ended : Bool
  /-- the time of the copy -/
  ctime : Nat
  /-- a builder has taken the tile: the move is over, and MOVE_ABORT joins the builder's journal group (R157) -/
  aborted : Bool
  deriving DecidableEq, Repr

/-- A conservator log record (Table 5.4). -/
structure LogEnt where
  seq : Nat
  type : Nat
  a : Nat
  b : Nat
  c : Nat
  deriving DecidableEq, Repr

/-- An entry of the lost-line list: a local line, or a whole tile (R172). -/
structure LostEnt where
  wide : Bool
  n : Nat
  deriving DecidableEq, Repr

/-- What the conservator counts of a die. -/
structure DieCnt where
  /-- the die was admitted at the first start (R151), and answered the census of this one -/
  admitted : Bool
  present : Bool
  retired : Bool
  /-- skews in this drift period, the times of the pause misses of the last hour, commands failed in a row -/
  skews : Nat
  misses : List Nat
  cmdErr : Nat
  /-- writes deferred for temperature (R475) -/
  defer : Bool
  deriving DecidableEq, Repr

/-- A present die. -/
def DieCnt.init : DieCnt := ⟨true, true, false, 0, [], 0, false⟩

/-- Rebuild of one member of one row (R175): row, member, next stripe index. -/
structure Rebuild where
  row : Nat
  member : Nat
  index : Nat
  deriving DecidableEq, Repr

/-- What a channel's pause is. -/
structure Chan where
  /-- a maintenance pause is wanted by MED_CHCTL.pause or by an activation -/
  want : Bool
  activation : Bool
  paused : Bool
  backoff : Bool
  /-- vault time at which the back-off pause began -/
  since : Nat
  gone : Bool
  /-- sequencer microcode was reloaded once for a fault (Table 5.8) -/
  reloaded : Bool
  /-- what writes are owed of the bus slots, in percent (R124) -/
  share : Nat
  deriving DecidableEq, Repr

/-- A running channel. -/
def Chan.init : Chan := ⟨false, false, false, false, 0, false, false, 0⟩

/-- The media engine and the conservator. -/
structure Media where
  cat : SMap CatEnt
  /-- journal on media, by sequence number -/
  jrnl : SMap JEnt
  /-- entries created and not yet on media, oldest first -/
  jpend : List JEnt
  jnext : Nat
  /-- what waits for the entry of that sequence number -/
  rels : List (Nat × Release)
  copies : SMap CkptCopy
  /-- the checkpoint running: its copy and its S -/
  ckpt : Option (Nat × Nat)
  stg : SMap StLine
  img : SMap Image
  /-- when a physical leaf was last written: vault time bits [61:30] plus one (Table 5.1) -/
  ltime : SMap Nat
  reads : List MRead
  parts : SMap Part
  chans : SMap Chan
  dies : SMap DieCnt
  tiles : SMap TileRec
  stripes : SMap StripeRec
  /-- rows whose token a locked write holds: row to partition -/
  tokens : SMap Nat
  updates : List Update
  builders : List Builder
  bnext : Nat
  moves : SMap Move
  /-- conservator log on media and pending records -/
  clog : SMap LogEnt
  cpend : List LogEnt
  cnext : Nat
  /-- next chunk of the rotation, and chunks stored: log sequence number when stored -/
  chunk : Nat
  chunks : SMap Nat
  /-- checkpointed records of the chunks -/
  ctiles : SMap TileRec
  /-- what a tile that is not listed holds, and what the last complete checkpoint holds of it (R150) -/
  base : TileRec
  cbase : TileRec
  lost : List LostEnt
  /-- lines the host injected that are still listed (Table 10.6) -/
  injected : List Nat
  overflowed : List Nat
  sentinels : SMap Nat
  /-- vault time at which a physical leaf was last rewritten after a recovered read (Table 5.8) -/
  recov : SMap Nat
  rebuilds : List Rebuild
  /-- the stripe that takes the tiles a rebuild moves (R175) -/
  reb : Option Nat
  /-- tiles whose move starts anew after a verify failure on its destination (R157) -/
  again : List Nat
  /-- drift table entries as the census gave them at admission, keyed by die × 16 + bin (R166) -/
  census : SMap Nat
  /-- tiles waiting for an excision: stripe and member -/
  excise : List (Nat × Nat)
  /-- rows of which a member is gone in every stripe below an index: keyed by row × 16 + member (R175) -/
  rowGone : SMap Nat
  /-- next leaf position of the patrol scrub (R171) -/
  scrubLeaf : Nat
  /-- reclaim runs (R154) -/
  reclaim : Bool
  /-- positions whose parity is to be recomputed at this start (R135) -/
  resync : List (Nat × Nat)
  driftDue : List Nat
  deriving DecidableEq, Repr

/-- Media at a device's first start, its dies admitted: nothing mapped, every stripe CLEAN, every leaf the zero image. -/
def Media.init : Media :=
  { cat := [], jrnl := [], jpend := [], jnext := 1, rels := [], copies := [], ckpt := none, stg := [], img := [], ltime := [],
    reads := [], parts := [], chans := [], dies := [], tiles := [], stripes := [], tokens := [], updates := [],
    builders := [], bnext := 0, moves := [], clog := [], cpend := [], cnext := 1, chunk := 0, chunks := [],
    ctiles := [], base := TileRec.init 0, cbase := TileRec.init 0, lost := [], injected := [], overflowed := [], sentinels := [], recov := [], rebuilds := [], reb := none, again := [], census := [], excise := [], rowGone := [],
    scrubLeaf := 0, reclaim := false, resync := [],
    driftDue := [] }

end Sys2Proof.Machine
end

