-- ==== Sys2Proof/Machine/PartsOut.lean ====
section
/-! DEFINITION. What leaves the device: answers to hosts, interrupts, fabric messages, pin and bus actions. -/

namespace Sys2Proof.Machine

/-- One thing that has left the device. DESIGN CHOICE, log 109. -/
inductive Out where
  /-- answer to a register read: 4 or 8 bytes -/
  | regData (port : Nat) (v : Nat)
  /-- CXL.mem read data of a request, with its poison indication (R309) -/
  | hostData (port tag : Nat) (data : Line) (poison : Bool)
  /-- CXL.mem write completion -/
  | hostDone (port tag : Nat)
  /-- GPF phase response -/
  | gpf (port phase : Nat)
  /-- answer of an HDM decoder commit: committed, or commit error -/
  | hdm (port n : Nat) (ok : Bool)
  /-- MSI-X vector sent -/
  | msix (port vector : Nat)
  /-- mailbox result: return code (0 Success, 2 Invalid Input, 3 Unsupported, 4 Internal Error, 6 Busy) and words -/
  | mbox (port : Nat) (code : Nat) (words : List Nat)
  /-- bytes answered to a read of a POP window, poisoned or not -/
  | pop (port queue : Nat) (data : Line) (poison : Bool)
  /-- fabric request sent to a seat -/
  | fabReq (seat tag : Nat) (gen : Bool) (kind : FKind) (gl : Nat) (data : Line) (mask : LineMask) (poison : Bool)
      (route : Nat)
  /-- fabric reply sent to a seat: DATA, DONE, GRANTED or a result; the flag is the reply's own bit -/
  | fabReply (seat tag : Nat) (gen : Bool) (kind : FKind) (data : Line) (poison flag : Bool)
  /-- other fabric message, by kind, with its words, to a seat or to all -/
  | fabMsg (kind : Nat) (dest : Option Nat) (words : List Nat)
  /-- a media command sent on a channel: channel, die, partition, command of Table 20.8, physical leaf -/
  | media (ch die part cmd leaf : Nat)
  /-- bytes a media read or the census returned -/
  | mediaData (ch : Nat) (data : Image)
  /-- the 8 bytes of STATUS or the 2 of TEMP -/
  | mediaBytes (ch n v : Nat)
  /-- MALERT_N asserted by a die of a channel -/
  | malert (ch : Nat)
  /-- what the JTAG port shifts out: IDCODE -/
  | jtag (v : Nat)
  deriving DecidableEq, Repr

end Sys2Proof.Machine
end

