-- ==== Sys2Proof/Machine/PartsCur.lean ====
section
/-! DEFINITION. The records of the state that the curator contexts (Chapter 8), jobs, accessions, programs and calls
(Chapter 9) hold. -/

namespace Sys2Proof.Machine

/-- The states of a context (R235). -/
inductive CtxSt where
  | idle | running | stopped
  deriving DecidableEq, Repr

/-- Privilege levels (R237). -/
inductive Priv where
  | guest | steward | warden
  deriving DecidableEq, Repr

/-- A store buffer entry (R201): line, bytes, mask, pc of its youngest store, whether it is a zero-line operation,
and whether it has been handed on and waits for its home (OWN, LOWN, WRITE or FWRITE). DEDUCED, log 120. -/
structure SbEnt where
  gl : Nat
  data : Line
  mask : LineMask
  pc : Nat
  zline : Bool
  asked : Bool
  deriving DecidableEq, Repr

/-- One line unit of a load or atomic: line, first byte in it, bytes, the buffered store bytes it takes (R245), and the
data returned with its poison. -/
structure LdUnit where
  gl : Nat
  off : Nat
  n : Nat
  own : Line
  mask : LineMask
  got : Option (Line × Bool)
  deriving DecidableEq, Repr

/-- The load or atomic a context waits for: major opcode, destination, width, sign extension, effective address, units,
the atomic if it is one, and whether it executes near (R219). -/
structure LdEnt where
  major : Nat
  rd : BitVec 5
  n : Nat
  signed : Bool
  ea : Nat
  units : List LdUnit
  atom : Option Atom
  near : Bool
  deriving DecidableEq, Repr

/-- What holds a context not ready (R236, R262). DESIGN CHOICE, log 119. -/
inductive Hold where
  | none
  | pause (n : Nat)
  | load (l : LdEnt)
  /-- an operation of R262 whose status is due in the register -/
  | op (major : Nat) (rd : BitVec 5)
  /-- a full completion queue (R294) -/
  | cq
  deriving DecidableEq, Repr

/-- A link stack entry (R290). -/
structure Link where
  pc : Nat
  prog : Nat
  priv : Priv
  deriving DecidableEq, Repr

/-- A fault taken (R253, R257): code, address reported, pc of the stopping instruction, pc of the refused store. -/
structure FaultRec where
  code : Nat
  addr : Nat
  pc : Nat
  spc : Nat
  priv : Priv
  deriving DecidableEq, Repr

/-- The kinds of job (Table 9.2). -/
inductive JobKind where
  | cipher | mover | seal
  deriving DecidableEq, Repr

/-- What a running job still has to write (R268 to R271): its output lines with their bytes and masks, whether whole ones are
zero-line operations, the lines its homes have discarded and those declared lost, the offset of a poisoned source line, and the
value it ends with otherwise. -/
structure JobOut where
  lines : List (Nat × Line × LineMask)
  zero : Bool
  discarded : Nat
  lost : Nat
  poison : Option Nat
  ok : Nat
  deriving DecidableEq, Repr

/-- An outstanding job of a context: its descriptor's address, the descriptor as read, whether it has started, the keys
latched at its start, the engine or mover it runs on, whether R272 cancels it, and what it still has to write. -/
structure Job where
  desc : Nat
  kind : JobKind
  words : Line
  started : Bool
  keys : List (Option (Nat × BitVec 256))
  engine : Nat
  cancelled : Bool
  out : Option JobOut
  deriving DecidableEq, Repr

/-- The global fence a context waits in (R226): whether its store buffer has drained and its outbound entries were made to
deliver, stores still to perform, and whether one was lost. -/
structure GFence where
  sent : Bool
  lines : List Nat
  lost : Bool
  deriving DecidableEq, Repr

/-- One curator context (R233). -/
structure Ctx where
  st : CtxSt
  x : SMap Word
  pc : Nat
  priv : Priv
  /-- program whose image bounds apply, and program, entry, completion queue and tag of the call -/
  prog : Nat
  callProg : Nat
  entry : Nat
  cq : Nat
  tag : Nat
  /-- vault time at which the call started -/
  start : Nat
  instret : Nat
  lost : Nat
  deadline : Nat
  /-- SCR0 to SCR7 and WSCR0 to WSCR15, by control word number -/
  scr : SMap Word
  links : List Link
  sb : List SbEnt
  hold : Hold
  gfence : Option GFence
  /-- pending boundary faults: ABORTED, STORE_DISCARD with pc and address, LIMIT -/
  pendAbort : Bool
  pendDiscard : Option (Nat × Nat)
  pendLimit : Bool
  fault : Option FaultRec
  jobs : List Job
  /-- status words kept for jwait and jpoll, oldest first: descriptor address and word -/
  kept : List (Nat × Word)
  /-- lines written by the context's stores since its last fence.i -/
  wrote : List Nat
  /-- DONE record waits for room in the completion queue -/
  donePend : Bool
  deriving DecidableEq, Repr

/-- A context at power-on (R235). -/
def Ctx.init : Ctx :=
  { st := .idle, x := [], pc := 0, priv := .guest, prog := 0, callProg := 0, entry := 0, cq := 0, tag := 0, start := 0,
    instret := 0, lost := 0, deadline := 0, scr := [], links := [], sb := [], hold := .none, gfence := none,
    pendAbort := false, pendDiscard := none, pendLimit := false, fault := none, jobs := [], kept := [], wrote := [],
    donePend := false }

/-- A loaded program (R285 to R289): hall span, code, tables. -/
structure Program where
  priv : Priv
  guestExports : Bool
  /-- first 4 KiB page of its hall span and number of pages -/
  page : Nat
  pages : Nat
  /-- hall offset of its code and code size -/
  code : Nat
  size : Nat
  entries : List Nat
  /-- resolved imports: exporting program and code offset -/
  imports : List (Nat × Nat)
  exports : List Nat
  lib : Nat
  version : Nat
  draining : Bool
  deriving DecidableEq, Repr

/-- The states of an accession (Table 9.5). -/
inductive AccSt where
  | free | open | sealing
  deriving DecidableEq, Repr

/-- An accession table entry (Table 9.5). -/
structure Acc where
  st : AccSt
  region : Nat
  provkey : Nat
  base : Nat
  limit : Nat
  sealed : Nat
  pending : Nat
  segments : Nat
  discarded : Nat
  maxsegs : Nat
  created : Nat
  link : BitVec 256
  deriving DecidableEq, Repr

/-- A FREE entry. -/
def Acc.init : Acc := ⟨.free, 0, 0, 0, 0, 0, 0, 0, 0, 0, 0, 0⟩

/-- A seal under way (Table 9.6): its step, who asked, metadata, digest, link and record time. -/
structure Seal where
  acc : Nat
  ctx : Option Nat
  desc : Nat
  metaWord : Word
  endOff : Nat
  step : Nat
  digest : BitVec 256
  link : BitVec 256
  time : Nat
  /-- its commit record's page write has started (R88, R441) -/
  committed : Bool
  deriving DecidableEq, Repr

/-- An image load under way (R287). -/
structure LoadOp where
  src : Nat
  len : Nat
  deriving DecidableEq, Repr

/-- The curator side of the device. -/
structure Cur where
  ctxs : SMap Ctx
  progs : SMap Program
  /-- hall bytes by 64-byte line number -/
  hall : SMap Line
  load : Option LoadOp
  accs : SMap Acc
  seals : List Seal
  /-- next call queue in rotation (R291) -/
  rot : Nat
  /-- calls to complete with POWER_INTERRUPTED at the next start (R87): completion queue, program, tag, lost, privilege -/
  interrupted : List (Nat × Nat × Nat × Nat × Nat)
  /-- accession operations waiting for their page write: context, destination, entry, new entry -/
  accOps : List (Nat × Nat × Nat × Acc)
  /-- refusals of retired stores on their way: context, pc of the store, address (R255) -/
  refusals : List (Nat × Nat × Nat)
  deriving DecidableEq, Repr

/-- No program loaded, every context IDLE, no accession. -/
def Cur.init : Cur :=
  { ctxs := [], progs := [], hall := [], load := none, accs := [], seals := [], rot := 0, interrupted := [],
    accOps := [], refusals := [] }

end Sys2Proof.Machine
end

