-- ==== Sys2Proof/Machine/PartsSec.lean ====
section
/-! DEFINITION. The records of the state that the cipher complex (Chapter 12) holds. -/

namespace Sys2Proof.Machine

/-- The types of a key (R373). -/
inductive KeyType where
  | aes128 | aes256 | hmac
  deriving DecidableEq, Repr

/-- A key slot that holds a key: its type, the source it came from (Table of R283) and its bytes, byte 0 lowest. -/
structure KeySlot where
  type : KeyType
  source : Nat
  key : BitVec 256
  deriving DecidableEq, Repr

/-- A keyset or keyclr waiting for its page write: context, destination register, slot, new content. -/
structure KeyOp where
  ctx : Nat
  rd : Nat
  slot : Nat
  new : Option KeySlot
  deriving DecidableEq, Repr

end Sys2Proof.Machine
end

