-- ==== Sys2Proof/Machine/PartsPower.lean ====
section
/-! DEFINITION. The records of the state that the persistence governor and the flush (Chapter 3) hold. -/

namespace Sys2Proof.Machine

/-- A breach list entry (Table 3.12). -/
structure Breach where
  seat : Nat
  region : Nat
  tile : Nat
  start : Nat
  count : Nat
  deriving DecidableEq, Repr

/-- A bank measurement under way (Table 3.2): the last step taken, samples in mV, and the results. -/
structure Meas where
  step : Nat
  v0 : Nat
  v1 : Nat
  v2 : Nat
  esr : Nat
  c : Nat
  deriving DecidableEq, Repr

/-- A flush under way (Table 3.5): the step running, its trigger, whether energy is watched (R81, R84), whether it has
abandoned, t0, and D when step 8 began. -/
structure Flush where
  step : Nat
  cause : Nat
  watch : Bool
  abandonDue : Bool
  abandoned : Bool
  t0 : Nat
  dflush : Nat
  /-- queues that held an entry or a held packet at its beginning (R326) -/
  queues : List Nat
  /-- what an abandonment has recorded: ranges, open updates (R81, R135), records of the registrar lost (R433) -/
  ranges : List Breach
  updates : List (Nat × Nat)
  regLost : Nat
  deriving DecidableEq, Repr

/-- What a flush record holds beyond registers (R88, R90, R93, R135). -/
structure FlushRec where
  valid : Bool
  abandoned : Bool
  /-- cause, vault time at step 10, start count and newest record number (Table 15.4, page 0) -/
  cause : Nat
  time : Nat
  start : Nat
  head : Nat
  ranges : List Breach
  seals : List Seal
  updates : List (Nat × Nat)
  records : SMap Rcd
  /-- queues that held an entry or a held packet (R326) -/
  queues : List Nat
  regLost : Nat
  /-- PWR_PGFLUSH as it was then, and whether the ranges were merged (R96, R447) -/
  bytes : Nat
  us : Nat
  coarse : Bool
  deriving DecidableEq, Repr

/-- An empty flush record. -/
def FlushRec.init : FlushRec := ⟨false, false, 0, 0, 0, 0, [], [], [], [], [], 0, 0, 0, false⟩

/-- The persistence governor. -/
structure Gov where
  breach : List Breach
  meas : Option Meas
  /-- implausible results of the running series (R63) -/
  tries : Nat
  /-- c and esr last measured and stored in the ledger store -/
  stored : Option (Nat × Nat)
  /-- vault time at which it was measured -/
  mtime : Nat
  /-- the first measurement of this start has ended (R65) -/
  measured : Bool
  /-- vault time since which eu_mj has stayed at or above 27,500 in LOWENERGY (R75) -/
  goodSince : Option Nat
  flush : Option Flush
  rec0 : FlushRec
  /-- the copy that holds it, 0 or 1 (R446) -/
  recCopy : Nat
  deriving DecidableEq, Repr

/-- The governor of a device that has never measured. -/
def Gov.init : Gov := ⟨[], none, 0, none, 0, false, none, none, FlushRec.init, 0⟩

end Sys2Proof.Machine
end

