-- ==== Sys2Proof/Machine/PartsLedger.lean ====
section
/-! DEFINITION. The records of the state that the ledger store (Chapter 15) and error injection and staging (Chapters 12
and 13) hold beyond their registers. -/

namespace Sys2Proof.Machine

/-- The 256 data bytes of a ledger page, byte 0 in the low bits. -/
abbrev Page := BitVec 2048

/-- Who issued a page write, and what commits when it starts or completes (Table 15.1). -/
inductive PgOwner where
  /-- a raw command (R450) -/
  | raw
  /-- a two-copy command (R453) -/
  | twoCopy
  /-- a corrected page written back, or a mapped record whose bytes are in the write (R445) -/
  | bytes
  /-- the entry of a region operation (R44) -/
  | region (n : Nat)
  /-- the FREE entry of a deleted region (R53) -/
  | regionFree (n : Nat)
  /-- a key operation: the slot (R375) -/
  | key (slot : Nat)
  /-- an accession operation of a context (R273) -/
  | acc (ctx : Nat)
  /-- a seal's commit record (R277) -/
  | sealOf (acc : Nat)
  /-- the governor's measurement (R62) -/
  | meas
  /-- the disabled-way map (R197) -/
  | ways
  /-- the temperature histogram (R177) -/
  | hist
  /-- the alert configuration, shutdown state and dirty shutdown count, as the page then holds them -/
  | alert (life overC underC shutdown dirty : Nat)
  /-- one page of the label storage area for a port's Set LSA (R311) -/
  | lsa (port : Nat)
  /-- a page of the membership record: copy and page in it (R446) -/
  | member (copy page : Nat)
  /-- a page of the breach list (R93) -/
  | breach
  /-- a page of a firmware set (Chapter 18) -/
  | fw (set page : Nat)
  deriving DecidableEq, Repr

/-- A page write accepted by the die (R441). -/
structure PgWrite where
  page : Nat
  /-- the bytes, where the page's layout is stated -/
  data : Option Page
  owner : PgOwner
  started : Bool
  /-- the guard refused it and it is retried (R443) -/
  refused : Bool
  /-- it belongs to the flush (R442) -/
  flush : Bool
  deriving DecidableEq, Repr

/-- A page read for a two-copy command: not yet read, or its bytes where the copy is valid. -/
inductive Copy where
  | due
  | invalid
  | valid (p : Page)
  deriving DecidableEq, Repr

/-- The raw or two-copy command under way (R450, R452, R453). -/
inductive LdgCmd where
  | read (page : Nat)
  | write (page : Nat)
  | tcRead (pair : Nat) (a b : Copy)
  | tcWrite (pair : Nat) (a b : Copy)
  /-- the write of a two-copy write is under way -/
  | tcDone
  deriving DecidableEq, Repr

/-- Page 2: alert thresholds, shutdown state and dirty shutdown count (Tables 10.5 and 10.7). -/
structure Alerts where
  life : Nat
  overC : Nat
  underC : Nat
  shutdown : Nat
  dirty : Nat
  deriving DecidableEq, Repr

/-- Page 2 of a device that has never stored it. -/
def Alerts.init : Alerts := ⟨0, 0, 0, 0, 0⟩

/-- The ledger store. -/
structure Ledger where
  /-- bytes of the pages whose layout is stated and that differ from what an unwritten page reads as -/
  pages : SMap Page
  /-- pages that read as uncorrectable -/
  bad : List Nat
  /-- page writes accepted and not complete, oldest first -/
  queue : List PgWrite
  cmd : Option LdgCmd
  /-- sequence number of the newest progress record (R448) -/
  progSeq : Nat
  /-- vault time of the last progress record -/
  progAt : Nat
  /-- commits written to the accession commit ring (R273) -/
  accSeq : Nat
  alerts : Alerts
  deriving DecidableEq, Repr

/-- The die as it is shipped. -/
def Ledger.init : Ledger := ⟨[], [], [], none, 0, 0, 0, Alerts.init⟩

/-- What a protected DDR4 line holds (Tables 12.5 and 12.6). -/
inductive StgUse where
  /-- a line of the dirty window, of a stripe builder or a clean copy of media -/
  | data (ll : Nat)
  /-- catalogue entries of a tile -/
  | cat (tile : Nat)
  | tileRec (p : Nat)
  | stripeRec (st : Nat)
  | queue (n pos : Nat)
  | request (seat tag : Nat)
  | directory
  deriving DecidableEq, Repr

/-- A protected line as DDR4 stores it (R391). -/
structure DdrLine where
  ctr : Nat
  ct : Line
  mac : Word
  deriving DecidableEq, Repr

/-- A poisoned range (R395, R396): level, first line, and the counter R. -/
structure StgRange where
  level : Nat
  first : Nat
  r : Nat
  deriving DecidableEq, Repr

/-- The staging encryption engine. -/
structure Stg where
  /-- Ke, Km and H, once drawn (R388) -/
  keys : Option (BitVec 256 × BitVec 256 × BitVec 128)
  lines : SMap DdrLine
  uses : SMap StgUse
  /-- counters of counter blocks in their parents, keyed by level × 2^32 + block -/
  nodes : SMap Nat
  ranges : List StgRange
  /-- ranges whose counter blocks are still to be rewritten -/
  reinit : List StgRange
  /-- seats and tags that receive HOMEDOWN (R397), with the vault time at which it ends -/
  blocked : List (Nat × Nat × Nat)
  /-- parity alerts of the command under way for a line (R541) -/
  alerts : SMap Nat
  deriving DecidableEq, Repr

/-- The engine before its keys are drawn. -/
def Stg.init : Stg := ⟨none, [], [], [], [], [], [], []⟩

end Sys2Proof.Machine
end

