-- ==== Sys2Proof/Machine/PartsBoot.lean ====
section
/-! DEFINITION. The records of the state that the always-on island (Chapter 16) and a start (Chapter 17) hold beyond
their registers. -/

namespace Sys2Proof.Machine

/-- The always-on island. -/
structure Aon where
  /-- VAUX is valid -/
  vaux : Bool
  /-- events held while the registrar does not run, oldest first (R458) -/
  held : List Ev
  /-- straps as last sampled: HP_MODE, and whether RECOVERY_N was low (R302, R528) -/
  hpMode : Nat
  recovery : Bool
  /-- vault time at which the sequencer entered GATE, and whether a power-up waits for its 1 s (R461) -/
  gateAt : Nat
  retryWait : Bool
  /-- rails already logged as not off in this GATE (R459) -/
  gateLogged : BitVec 12
  /-- power-good inputs, as levels -/
  pg : BitVec 12
  /-- rails treated as fallen in a power-down (R463) -/
  fallen : BitVec 12
  /-- bounces of each rail in its present qualification, or in the present second once qualified (R460) -/
  bounce : SMap Nat
  /-- start of that second, by rail -/
  bounceAt : SMap Nat
  /-- rails whose chatter has been logged in that qualification or second -/
  chatLogged : BitVec 12
  /-- consecutive VIN conversions below vinth and above vinhi (R467) -/
  vinLow : Nat
  vinHigh : Nat
  /-- every VIN conversion since the last one out of range has been between vinok and vinhi (R468) -/
  vinGood : Bool
  /-- bank conversions since the last recomputation, in mV, and the last 64, newest first (R62, R66) -/
  bankSum : Nat
  bankNum : Nat
  bankLast : List Nat
  /-- early-break pin: closed, closed for 10 ms, opened and not yet debounced (R469, R529) -/
  ebClosed : Bool
  ebArmed : Bool
  ebOpened : Bool
  /-- outputs HUB_LOAD and HUB_CHGEN (R62) -/
  hubLoad : Bool
  hubChg : Bool
  /-- consecutive conversions outside and within delta, by sensor (R471) -/
  out : SMap Nat
  within : SMap Nat
  /-- sensors converted at least once -/
  converted : BitVec 16
  /-- vault time of the last rise of the throttle level and of the thermal lockout (R472, R473) -/
  riseAt : Nat
  lockAt : Nat
  /-- vault time since which every control value has been below tlimit − hyst -/
  coolAt : Option Nat
  /-- the governor takes eu_mj as the reserve after a rail loss (Table 16.3) -/
  euFloor : Bool
  /-- a fabric or host SERDES rail is lost while on (Table 16.3) -/
  serdesOff : BitVec 2
  /-- the JTAG instruction in effect: 0 BYPASS, 1 IDCODE, 2 one that drives or captures balls (R532) -/
  jtag : Nat
  deriving DecidableEq, Repr

/-- The island at the state a first start shows: VAUX valid, rails on. -/
def Aon.init : Aon :=
  { vaux := true, held := [], hpMode := 0, recovery := false, gateAt := 0, retryWait := false, gateLogged := 0,
    pg := 0xFFF, fallen := 0, bounce := [], bounceAt := [], chatLogged := 0, vinLow := 0, vinHigh := 0,
    vinGood := false, bankSum := 0, bankNum := 0, bankLast := [], ebClosed := true, ebArmed := false,
    ebOpened := false, hubLoad := false, hubChg := true, out := [], within := [], converted := 0, riseAt := 0,
    lockAt := 0, coolAt := none, euFloor := false, serdesOff := 0, jtag := 1 }

/-- A start (Table 17.1). -/
structure Boot where
  /-- step under way, 1 to 11; 12 once it has ended -/
  step : Nat
  /-- vault time of V -/
  v : Nat
  startCount : Nat
  /-- VAUX stayed valid, so that only RECOVERY_N is sampled anew (R479, R549) -/
  resample : Bool
  /-- a restart under R479: its islands left reset after 1 ms -/
  warm : Bool
  /-- the last step of a start that has ended since VAUX became valid: fields of Table 0.7 of later steps are not restored -/
  restored : Nat
  /-- step 11 has ended -/
  eleven : Bool
  /-- a first start (R481), and the admission of dies has ended -/
  first : Bool
  admitted : Bool
  /-- a device reset waits for the end of step 3 (R488) -/
  resetDue : Bool
  /-- the previous stop was unflushed (R483) -/
  unflushed : Bool
  /-- usable DDR4 in GiB by channel, and the dirty window in bytes (R484) -/
  ddr : SMap Nat
  window : Nat
  /-- DDR4 channels not used, wings held in reset, fabric ports held DISABLED, by self-test (Table 13.3) -/
  ddrOff : BitVec 2
  wingOff : BitVec 8
  portOff : BitVec 16
  chanOff : BitVec 32
  /-- general engines out of service -/
  engineOff : BitVec 4
  /-- the staging engine failed its known-answer tests -/
  kat : Bool
  /-- after a power-on: what the ledger store and media hold for the fields of Table 0.7, by field key -/
  saved : SMap Nat
  deriving DecidableEq, Repr

/-- The first start of a device, at W0: its warden has just left reset. -/
def Boot.init : Boot :=
  { step := 3, v := 0, startCount := 0, resample := false, warm := false, restored := 0, eleven := false, first := false, admitted := false,
    resetDue := false, unflushed := false, ddr := [], window := 0, ddrOff := 0, wingOff := 0, portOff := 0,
    chanOff := 0, engineOff := 0, kat := false, saved := [] }

end Sys2Proof.Machine
end

