-- ==== Sys2Proof/Machine/PartsFab.lean ====
section
/-! DEFINITION. The records of the state that the gallery fabric (Chapter 11), firmware update (Chapter 18) and the tally
(Chapter 19) hold beyond their registers. -/

namespace Sys2Proof.Machine

/-- The 60 payload bytes of a flit, byte 4 of the flit in the low bits (Table 11.2). -/
abbrev Payload := BitVec 480

/-- A fabric port beyond its registers (R333 to R343). -/
structure FPort where
  /-- width and speed settled in POLL -/
  width : Nat
  speed : Nat
  /-- a retrain has regained lock and is in CONFIG -/
  locked : Bool
  /-- next sequence number to send; unacknowledged numbers, oldest first; flits that wait for room -/
  tx : Nat
  replay : List Nat
  wait : Nat
  /-- consecutive replays of the oldest flit -/
  again : Nat
  /-- next sequence number expected; a NAK is outstanding -/
  rx : Nat
  nak : Bool
  /-- payloads of the batch whose TAG has not come, with the header bytes of each, and its first number -/
  batch : List (BitVec 32 × Payload)
  /-- payloads released to the messages -/
  stream : List Payload
  /-- own nonce, link key, rekey count and batch counts, when encrypted -/
  nonce : BitVec 128
  key : Option (BitVec 256)
  rekeys : Nat
  batches : Nat
  /-- vault times of the retrains and of the tag failures of the last second -/
  retrains : List Nat
  tagFails : List Nat
  /-- one-way delay in ns (R363) -/
  delay : Nat
  deriving DecidableEq, Repr

/-- A port that has not trained. -/
def FPort.init : FPort :=
  { width := 0, speed := 0, locked := false, tx := 0, replay := [], wait := 0, again := 0, rx := 0, nak := false,
    batch := [], stream := [], nonce := 0, key := none, rekeys := 0, batches := 0, retrains := [], tagFails := [],
    delay := 0 }

/-- A flooded link record (R353): for each ACTIVE port, the neighbour's UID and port. DEDUCED, log 138. -/
structure LinkRec where
  seat : Option Nat
  seq : Nat
  kprio : Nat
  links : List (Nat × Nat × Nat)
  deriving DecidableEq, Repr

/-- A seat claim (R346) and the vault time that comes with it. DEDUCED, log 143. -/
structure Claim where
  uid : Nat
  /-- fabric id and E of the claimant's record, seat claimed and its seating epoch; none where it holds no record -/
  record : Option (Nat × Nat)
  seat : Option (Nat × Nat)
  time : Nat
  deriving DecidableEq, Repr

/-- A global operation (R366): its code, argument, originator, and T of a snapshot. -/
structure Gop where
  op : Nat
  arg : Nat
  origin : Nat
  t : Nat
  deriving DecidableEq, Repr

/-- A seat command at the keeper (R348): who sent it, and the members whose ledger store holds the new record. -/
structure SeatOp where
  op : Nat
  seat : Nat
  uid : Nat
  origin : Nat
  deriving DecidableEq, Repr

/-- The fabric of this device. DEDUCED, log 157. -/
structure Fab where
  ports : SMap FPort
  /-- newest link record of each device, by UID -/
  recs : SMap LinkRec
  linkSeq : Nat
  /-- the device holds a membership record (R344) -/
  record : Bool
  /-- its own claim was void or lost (R346) -/
  refused : Bool
  /-- claims received as keeper, and whether the component has committed -/
  claims : List Claim
  committed : Bool
  /-- claims are being made: steps 4 and 5 of Table 11.6 -/
  resolving : Bool
  /-- keeper: seat command that commits, operations waiting and running with the members still to answer -/
  seatOp : Option SeatOp
  gops : List Gop
  gop : Option (Gop × List Nat)
  excluded : Nat
  /-- keeper: UIDs that have arrived, by barrier -/
  arrived : SMap (List Nat)
  /-- T of a snapshot to latch (R368) -/
  snapAt : Option Nat
  /-- nanoseconds that vault time, ahead of the keeper's, still has to fall behind (R363) -/
  ahead : Nat
  deriving DecidableEq, Repr

/-- The fabric of a device that has never joined. -/
def Fab.init : Fab :=
  { ports := [], recs := [], linkSeq := 0, record := false, refused := false, claims := [], committed := false,
    resolving := false, seatOp := none, gops := [], gop := none, excluded := 0, arrived := [], snapAt := none, ahead := 0 }

/-- An online activation (Table 18.3): its set, the step it is at, and the channels or ports done in it. -/
structure FwAct where
  set : Nat
  step : Nat
  done : Nat
  deriving DecidableEq, Repr

/-- Firmware update. -/
structure Fw where
  /-- headers of sets A and B, byte 0 in the low bits -/
  hdrA : BitVec 4096
  hdrB : BitVec 4096
  /-- sets that no transfer has written, bit 0 for A: the spec does not give what a device is shipped with -/
  shipped : BitVec 2
  /-- sets found to fail their checks at this start (R494, R510) -/
  bad : BitVec 2
  /-- set a session writes, its header as received, and the bytes of the page being filled -/
  target : Nat
  header : BitVec 4096
  fill : Page
  /-- an online activation under way (Table 18.3) -/
  act : Option FwAct
  /-- consecutive trial starts that have not reached step 12 -/
  trials : Nat
  /-- a trial start entered ROM_RECOVERY, so the next start falls back -/
  fallback : Bool
  /-- copy of the directory written last (R446) -/
  dirCopy : Nat
  /-- version of the warden firmware in control -/
  wfw : Nat
  deriving DecidableEq, Repr

/-- No transfer, no activation, both sets as shipped. -/
def Fw.init : Fw :=
  { hdrA := 0, hdrB := 0, shipped := 3, bad := 0, target := 0, header := 0, fill := 0, act := none,
    trials := 0, fallback := false, dirCopy := 0, wfw := 0 }

/-- The tally beyond its registers (R518 to R522). -/
structure Tally where
  /-- snapshot running: source and T -/
  snap : Option (Nat × Nat)
  /-- a fabric snapshot that waits for it -/
  next : Option Nat
  /-- latched values, counter by counter -/
  latched : Option (List Nat)
  /-- instructions left to the next tagged one, by core -/
  left : SMap Nat
  /-- sample records, by ring index: four words -/
  ring : SMap (List Nat)
  deriving DecidableEq, Repr

/-- The tally's counters (R513 to R516): the counts that are not 0, the sticky ovf bits, and the counters whose carry is not yet
logged. -/
structure TallyCnt where
  /-- the counts, by counter -/
  count : SMap Nat
  /-- the ovf bits -/
  ovf : BitVec 304
  /-- counters that have carried beyond bit 47 and whose TAL_OVERFLOW is not yet logged -/
  carry : List Nat
  deriving DecidableEq, Repr

/-- The counters at a start. -/
def TallyCnt.init : TallyCnt := ⟨[], 0, []⟩

/-- `d` is added to counter `n` (R515). -/
def TallyCnt.add (c : TallyCnt) (n d : Nat) : TallyCnt :=
  let v := SMap.get 0 c.count n + d
  let k := SMap.put 0 c.count n (v % 2 ^ 48)
  if v < 2 ^ 48 then { c with count := k }
  else ⟨k, c.ovf ||| BitVec.ofNat 304 (2 ^ n), c.carry ++ [n]⟩

/-- Clears a counter's ovf bit. -/
def TallyCnt.ovfClear (c : TallyCnt) (n : Nat) : TallyCnt := { c with ovf := c.ovf &&& ~~~(BitVec.ofNat 304 (2 ^ n)) }

/-- Clears a counter (R516). -/
def TallyCnt.clear (c : TallyCnt) (n : Nat) : TallyCnt :=
  ⟨SMap.put 0 c.count n 0, c.ovf &&& ~~~(BitVec.ofNat 304 (2 ^ n)), c.carry.filter (fun k => k ≠ n)⟩

/-- The tally at a start. -/
def Tally.init : Tally := ⟨none, none, none, [], []⟩

end Sys2Proof.Machine
end

