-- ==== Sys2Proof/Machine/Fields.lean ====
section
/-! DEFINITION. What a register table of the spec says of one named field and of one register (R2, R7, R9 to R12). -/

namespace Sys2Proof.Machine

/-- The access codes of Table 0.4. -/
inductive Access where
  | ro | rw | wo | rw1c | rc | rwl
  deriving DecidableEq, Repr

/-- One named field: offset of its register in the window, stride and number of the register's copies, bits, access
code, reset value (`resets` where the copies differ), limits, defined codes (empty: every code), preserved or not, and
the key of its lock bit. -/
structure FldDesc where
  off : Nat
  stride : Nat
  count : Nat
  hi : Nat
  lo : Nat
  acc : Access
  reset : Nat
  resets : List Nat
  mn : Nat
  mx : Nat
  enum : List Nat
  kept : Bool
  lock : Option Nat
  deriving DecidableEq, Repr

/-- One register: its name, offset, stride and number of copies, width in bits, and its named fields. -/
structure RegRow where
  name : String
  off : Nat
  stride : Nat
  count : Nat
  width : Nat
  fields : List FldDesc
  deriving DecidableEq, Repr

/-- The width of a field in bits. -/
def FldDesc.width (f : FldDesc) : Nat := f.hi + 1 - f.lo

/-- The number of values a field can hold. -/
def FldDesc.cap (f : FldDesc) : Nat := 2 ^ f.width

/-- The key a field's copy `i` is kept under. -/
def FldDesc.key (f : FldDesc) (i : Nat) : Nat := (f.off + i * f.stride) * 64 + f.lo

/-- The key of copy `i` of a field of the HST block of port `p` (R330): the four blocks are laid one after another. -/
def FldDesc.keyP (f : FldDesc) (p i : Nat) : Nat := (f.off + p * 0x1000 + i * f.stride) * 64 + f.lo

/-- The reset value of copy `i`. -/
def FldDesc.resetAt (f : FldDesc) (i : Nat) : Nat := (f.resets[i]?).getD f.reset

/-- The effective value of a written value: the nearest limit (R11), and the reset value for an undefined code (R12). -/
def FldDesc.effective (f : FldDesc) (i v : Nat) : Nat :=
  if f.enum.isEmpty then max f.mn (min f.mx v)
  else if f.enum.contains v then v else f.resetAt i

/-- Copy number of the register at window offset `off`, if the offset is one of the row's copies. -/
def RegRow.copy (r : RegRow) (off : Nat) : Option Nat :=
  if off < r.off then none
  else if r.stride = 0 then (if off = r.off then some 0 else none)
  else
    let d := off - r.off
    if d % r.stride = 0 ∧ d / r.stride < r.count then some (d / r.stride) else none

end Sys2Proof.Machine
end

