-- ==== Sys2Proof/Machine/RegTable.lean ====
section
/-! DEFINITION. The register map of the management window and of the HST blocks: one description per named field and
one row per register, as the register tables of the spec give them (offset, stride and number of copies, bits, access
code, reset value, limits, defined codes, preserved or not, lock bit). R7, R9 to R12 say what each column means. -/

namespace Sys2Proof.Machine

namespace D

def GBL_ID_vendor : FldDesc := ⟨0x0, 0x0, 1, 63, 48, .ro, 0x5e4a, [], 0, 0xffff, [], false, none⟩
def GBL_ID_device : FldDesc := ⟨0x0, 0x0, 1, 47, 32, .ro, 0x7620, [], 0, 0xffff, [], false, none⟩
def GBL_ID_stepping : FldDesc := ⟨0x0, 0x0, 1, 31, 24, .ro, 0x1, [], 0, 0xff, [], false, none⟩
def GBL_ID_grade : FldDesc := ⟨0x0, 0x0, 1, 23, 16, .ro, 0x53, [], 0, 0xff, [], false, none⟩
def GBL_UID_uid : FldDesc := ⟨0x8, 0x0, 1, 63, 0, .ro, 0x0, [], 0, 0xffffffffffffffff, [], false, none⟩
def GBL_CTL_scrlock : FldDesc := ⟨0x10, 0x0, 1, 9, 9, .rwl, 0x0, [], 0, 0x1, [], false, (some 0x409)⟩
def GBL_CTL_clampclr : FldDesc := ⟨0x10, 0x0, 1, 8, 8, .wo, 0x0, [], 0, 0x1, [], false, none⟩
def GBL_CTL_rstkey : FldDesc := ⟨0x10, 0x0, 1, 7, 0, .wo, 0x0, [], 0, 0xff, [0, 213], false, none⟩
def GBL_STAT_breach : FldDesc := ⟨0x14, 0x0, 1, 7, 7, .ro, 0x0, [], 0, 0x1, [], true, none⟩
def GBL_STAT_seated : FldDesc := ⟨0x14, 0x0, 1, 6, 6, .ro, 0x0, [], 0, 0x1, [], false, none⟩
def GBL_STAT_degraded : FldDesc := ⟨0x14, 0x0, 1, 5, 5, .ro, 0x0, [], 0, 0x1, [], false, none⟩
def GBL_STAT_pfail : FldDesc := ⟨0x14, 0x0, 1, 4, 4, .ro, 0x0, [], 0, 0x1, [], false, none⟩
def GBL_STAT_state : FldDesc := ⟨0x14, 0x0, 1, 3, 0, .ro, 0x0, [], 0, 0xf, [], false, none⟩
def GBL_ISLRST_held : FldDesc := ⟨0x18, 0x0, 1, 57, 0, .ro, 0x1ffffffffffffff, [], 0, 0x3ffffffffffffff, [], false, none⟩
def GBL_CLAMPCNT_count : FldDesc := ⟨0x20, 0x0, 1, 31, 0, .ro, 0x0, [], 0, 0xffffffff, [], false, none⟩
def GBL_CLAMPLAST_src : FldDesc := ⟨0x28, 0x0, 1, 27, 25, .ro, 0x0, [], 0, 0x7, [], false, none⟩
def GBL_CLAMPLAST_offset : FldDesc := ⟨0x28, 0x0, 1, 24, 0, .ro, 0x0, [], 0, 0x1ffffff, [], false, none⟩
def GBL_VTIME_ns : FldDesc := ⟨0x30, 0x0, 1, 63, 0, .ro, 0x0, [], 0, 0xffffffffffffffff, [], false, none⟩
def GBL_CAP_bytes : FldDesc := ⟨0x38, 0x0, 1, 63, 0, .ro, 0x70000000000, [], 0, 0xffffffffffffffff, [], false, none⟩
def GBL_SCRATCH_value : FldDesc := ⟨0x40, 0x0, 1, 63, 0, .rwl, 0x0, [], 0, 0xffffffffffffffff, [], true, (some 0x409)⟩
def GBL_WINGRST_busy : FldDesc := ⟨0x48, 0x0, 1, 15, 8, .ro, 0x0, [], 0, 0xff, [], false, none⟩
def GBL_WINGRST_wings : FldDesc := ⟨0x48, 0x0, 1, 7, 0, .wo, 0x0, [], 0, 0xff, [], false, none⟩
def PWR_PGCTL_interval : FldDesc := ⟨0x10800, 0x0, 1, 15, 8, .rw, 0x18, [], 1, 0xa8, [], true, none⟩
def PWR_PGCTL_measure : FldDesc := ⟨0x10800, 0x0, 1, 0, 0, .wo, 0x0, [], 0, 0x1, [], false, none⟩
def PWR_PGSTAT_cause : FldDesc := ⟨0x10804, 0x0, 1, 19, 16, .ro, 0x0, [], 0, 0xf, [], true, none⟩
def PWR_PGSTAT_meas : FldDesc := ⟨0x10804, 0x0, 1, 7, 4, .ro, 0x0, [], 0, 0xf, [], false, none⟩
def PWR_PGSTAT_mode : FldDesc := ⟨0x10804, 0x0, 1, 3, 0, .ro, 0x0, [], 0, 0xf, [], false, none⟩
def PWR_PGPARAM_eff : FldDesc := ⟨0x10808, 0x0, 1, 31, 24, .rw, 0x55, [], 50, 0x5f, [], true, none⟩
def PWR_PGPARAM_frate : FldDesc := ⟨0x10808, 0x0, 1, 23, 16, .rw, 0x28, [], 10, 0x28, [], true, none⟩
def PWR_PGPARAM_pflush : FldDesc := ⟨0x10808, 0x0, 1, 15, 8, .rw, 0x5a, [], 90, 0xfa, [], true, none⟩
def PWR_PGPARAM_ereserve : FldDesc := ⟨0x10808, 0x0, 1, 7, 0, .rw, 0xa, [], 10, 0x64, [], true, none⟩
def PWR_PGSLED_esrmax : FldDesc := ⟨0x10810, 0x0, 1, 47, 32, .rw, 0x64, [], 1, 0x3e8, [], true, none⟩
def PWR_PGSLED_iload : FldDesc := ⟨0x10810, 0x0, 1, 31, 16, .rw, 0x3e8, [], 100, 0xfa0, [], true, none⟩
def PWR_PGSLED_vmin : FldDesc := ⟨0x10810, 0x0, 1, 15, 0, .rw, 0x32c8, [], 5000, 0xea60, [], true, none⟩
def PWR_PGCAP_esr : FldDesc := ⟨0x10818, 0x0, 1, 47, 32, .ro, 0x0, [], 0, 0xffff, [], true, none⟩
def PWR_PGCAP_c : FldDesc := ⟨0x10818, 0x0, 1, 31, 0, .ro, 0x0, [], 0, 0xffffffff, [], true, none⟩
def PWR_PGEU_eu : FldDesc := ⟨0x10820, 0x0, 1, 31, 0, .ro, 0x0, [], 0, 0xffffffff, [], false, none⟩
def PWR_PGFWD_lines : FldDesc := ⟨0x10824, 0x0, 1, 31, 0, .ro, 0x0, [], 0, 0xffffffff, [], true, none⟩
def PWR_PGBUD_bytes : FldDesc := ⟨0x10828, 0x0, 1, 33, 0, .ro, 0x0, [], 0, 0x3ffffffff, [], false, none⟩
def PWR_PGDIRTY_bytes : FldDesc := ⟨0x10830, 0x0, 1, 33, 0, .ro, 0x0, [], 0, 0x3ffffffff, [], false, none⟩
def PWR_PGMTIME_ns : FldDesc := ⟨0x10838, 0x0, 1, 63, 0, .ro, 0x0, [], 0, 0xffffffffffffffff, [], true, none⟩
def PWR_PGFLUSH_bytes : FldDesc := ⟨0x10840, 0x0, 1, 63, 34, .ro, 0x0, [], 0, 0x3fffffff, [], true, none⟩
def PWR_PGFLUSH_us : FldDesc := ⟨0x10840, 0x0, 1, 19, 0, .ro, 0x0, [], 0, 0xfffff, [], true, none⟩
def PWR_PGBRK_coarse : FldDesc := ⟨0x10848, 0x0, 1, 12, 12, .ro, 0x0, [], 0, 0x1, [], true, none⟩
def PWR_PGBRK_count : FldDesc := ⟨0x10848, 0x0, 1, 10, 0, .ro, 0x0, [], 0, 0x7ff, [], true, none⟩
def PWR_PGBACK_key : FldDesc := ⟨0x1084c, 0x0, 1, 7, 0, .wo, 0x0, [], 0, 0xff, [0, 183], false, none⟩
def MED_CTL_bndlog : FldDesc := ⟨0xa0000, 0x0, 1, 8, 8, .rw, 0x1, [], 0, 0x1, [], false, none⟩
def MED_CTL_ckpt : FldDesc := ⟨0xa0000, 0x0, 1, 0, 0, .wo, 0x0, [], 0, 0x1, [], false, none⟩
def MED_STAT_paused : FldDesc := ⟨0xa0004, 0x0, 1, 23, 16, .ro, 0x0, [], 0, 0xff, [], false, none⟩
def MED_STAT_absent : FldDesc := ⟨0xa0004, 0x0, 1, 15, 8, .ro, 0x0, [], 0, 0xff, [], false, none⟩
def MED_STAT_state : FldDesc := ⟨0xa0004, 0x0, 1, 3, 0, .ro, 0x0, [], 0, 0xf, [], false, none⟩
def MED_SCHED_wsharemax : FldDesc := ⟨0xa0008, 0x0, 1, 39, 32, .rw, 0x4b, [], 25, 0x5a, [], false, none⟩
def MED_SCHED_wsharemin : FldDesc := ⟨0xa0008, 0x0, 1, 31, 24, .rw, 0x19, [], 5, 0x4b, [], false, none⟩
def MED_SCHED_bestwait : FldDesc := ⟨0xa0008, 0x0, 1, 23, 8, .rw, 0xfa0, [], 500, 0xffff, [], false, none⟩
def MED_SCHED_maxsusp : FldDesc := ⟨0xa0008, 0x0, 1, 3, 0, .rw, 0x4, [], 1, 0xf, [], false, none⟩
def MED_BNDCFG_partdepth : FldDesc := ⟨0xa0010, 0x0, 1, 9, 8, .rw, 0x2, [], 1, 0x2, [], false, none⟩
def MED_BNDCFG_chdepth : FldDesc := ⟨0xa0010, 0x0, 1, 4, 0, .rw, 0x10, [], 4, 0x10, [], false, none⟩
def MED_APPCFG_open : FldDesc := ⟨0xa0014, 0x0, 1, 23, 16, .rw, 0x40, [], 1, 0x80, [], false, none⟩
def MED_APPCFG_age : FldDesc := ⟨0xa0014, 0x0, 1, 15, 0, .rw, 0x64, [], 1, 0x2710, [], false, none⟩
def MED_ROWTOK0_held : FldDesc := ⟨0xa0018, 0x0, 1, 63, 0, .ro, 0x0, [], 0, 0xffffffffffffffff, [], false, none⟩
def MED_ROWTOK1_held : FldDesc := ⟨0xa0020, 0x0, 1, 63, 0, .ro, 0x0, [], 0, 0xffffffffffffffff, [], false, none⟩
def MED_ROWUNAV0_unav : FldDesc := ⟨0xa0028, 0x0, 1, 63, 0, .ro, 0x0, [], 0, 0xffffffffffffffff, [], false, none⟩
def MED_ROWUNAV1_unav : FldDesc := ⟨0xa0030, 0x0, 1, 63, 0, .ro, 0x0, [], 0, 0xffffffffffffffff, [], false, none⟩
def MED_JRNLSEQ_seq : FldDesc := ⟨0xa0038, 0x0, 1, 63, 0, .ro, 0x0, [], 0, 0xffffffffffffffff, [], false, none⟩
def MED_JRNLFILL_pct : FldDesc := ⟨0xa0040, 0x0, 1, 7, 0, .ro, 0x0, [], 0, 0xff, [], false, none⟩
def MED_CKPT_running : FldDesc := ⟨0xa0048, 0x0, 1, 63, 63, .ro, 0x0, [], 0, 0x1, [], false, none⟩
def MED_CKPT_copy : FldDesc := ⟨0xa0048, 0x0, 1, 62, 62, .ro, 0x0, [], 0, 0x1, [], false, none⟩
def MED_CKPT_s : FldDesc := ⟨0xa0048, 0x0, 1, 61, 0, .ro, 0x0, [], 0, 0x3fffffffffffffff, [], false, none⟩
def MED_RECON_count : FldDesc := ⟨0xa0050, 0x0, 1, 63, 0, .ro, 0x0, [], 0, 0xffffffffffffffff, [], false, none⟩
def MED_SUSP_count : FldDesc := ⟨0xa0058, 0x0, 1, 63, 0, .ro, 0x0, [], 0, 0xffffffffffffffff, [], false, none⟩
def MED_BNDMISS_count : FldDesc := ⟨0xa0080, 0x8, 8, 63, 0, .ro, 0x0, [], 0, 0xffffffffffffffff, [], false, none⟩
def MED_CHCTL_pause : FldDesc := ⟨0xa1000, 0x20, 32, 0, 0, .rw, 0x0, [], 0, 0x1, [], false, none⟩
def MED_CHSTAT_dies : FldDesc := ⟨0xa1004, 0x20, 32, 15, 8, .ro, 0x0, [], 0, 0xff, [], false, none⟩
def MED_CHSTAT_tdefer : FldDesc := ⟨0xa1004, 0x20, 32, 4, 4, .ro, 0x0, [], 0, 0x1, [], false, none⟩
def MED_CHSTAT_pstate : FldDesc := ⟨0xa1004, 0x20, 32, 3, 2, .ro, 0x0, [], 0, 0x3, [], false, none⟩
def MED_CHSTAT_busy : FldDesc := ⟨0xa1004, 0x20, 32, 0, 0, .ro, 0x0, [], 0, 0x1, [], false, none⟩
def MED_CHUCODE_version : FldDesc := ⟨0xa1008, 0x20, 32, 63, 32, .ro, 0x0, [], 0, 0xffffffff, [], false, none⟩
def MED_CHUCODE_check : FldDesc := ⟨0xa1008, 0x20, 32, 31, 0, .ro, 0x0, [], 0, 0xffffffff, [], false, none⟩
def MED_CHERR_uncorr : FldDesc := ⟨0xa1010, 0x20, 32, 63, 32, .ro, 0x0, [], 0, 0xffffffff, [], false, none⟩
def MED_CHERR_corr : FldDesc := ⟨0xa1010, 0x20, 32, 31, 0, .ro, 0x0, [], 0, 0xffffffff, [], false, none⟩
def CON_CTL_metackpt : FldDesc := ⟨0xb0000, 0x0, 1, 7, 7, .wo, 0x0, [], 0, 0x1, [], false, none⟩
def CON_CTL_scrubnow : FldDesc := ⟨0xb0000, 0x0, 1, 6, 6, .wo, 0x0, [], 0, 0x1, [], false, none⟩
def CON_CTL_scrub : FldDesc := ⟨0xb0000, 0x0, 1, 2, 2, .rw, 0x1, [], 0, 0x1, [], false, none⟩
def CON_CTL_drift : FldDesc := ⟨0xb0000, 0x0, 1, 1, 1, .rw, 0x1, [], 0, 0x1, [], false, none⟩
def CON_CTL_wear : FldDesc := ⟨0xb0000, 0x0, 1, 0, 0, .rw, 0x1, [], 0, 0x1, [], false, none⟩
def CON_STAT_scrubbing : FldDesc := ⟨0xb0004, 0x0, 1, 7, 7, .ro, 0x0, [], 0, 0x1, [], false, none⟩
def CON_STAT_ckpt : FldDesc := ⟨0xb0004, 0x0, 1, 6, 6, .ro, 0x0, [], 0, 0x1, [], false, none⟩
def CON_STAT_spare : FldDesc := ⟨0xb0004, 0x0, 1, 1, 0, .ro, 0x0, [], 0, 0x3, [], true, none⟩
def CON_SHARE_reb : FldDesc := ⟨0xb0008, 0x0, 1, 15, 8, .rw, 0x14, [], 5, 0x3c, [], true, none⟩
def CON_SHARE_bg : FldDesc := ⟨0xb0008, 0x0, 1, 7, 0, .rw, 0x5, [], 1, 0x19, [], true, none⟩
def CON_META_period : FldDesc := ⟨0xb000c, 0x0, 1, 11, 0, .rw, 0x258, [], 60, 0xe10, [], true, none⟩
def CON_WEAR_maxmoves : FldDesc := ⟨0xb0010, 0x0, 1, 63, 48, .rw, 0x1000, [], 16, 0xffff, [], true, none⟩
def CON_WEAR_coldage : FldDesc := ⟨0xb0010, 0x0, 1, 47, 40, .rw, 0x7, [], 1, 0x5a, [], true, none⟩
def CON_WEAR_period : FldDesc := ⟨0xb0010, 0x0, 1, 39, 28, .rw, 0x3c, [], 10, 0xe10, [], true, none⟩
def CON_WEAR_hotdelta : FldDesc := ⟨0xb0010, 0x0, 1, 23, 0, .rw, 0x10000, [], 4096, 0xffffff, [], true, none⟩
def CON_DRIFT_hyst : FldDesc := ⟨0xb0018, 0x0, 1, 15, 8, .rw, 0x14, [], 5, 0xc8, [], true, none⟩
def CON_DRIFT_period : FldDesc := ⟨0xb0018, 0x0, 1, 7, 0, .rw, 0xa, [], 1, 0xf0, [], true, none⟩
def CON_DISTURB_thresh : FldDesc := ⟨0xb001c, 0x0, 1, 23, 0, .rw, 0x3d0900, [], 250000, 0x3d0900, [], true, none⟩
def CON_SCRUB_cthresh : FldDesc := ⟨0xb0020, 0x0, 1, 23, 16, .rw, 0x32, [], 10, 0x5a, [], true, none⟩
def CON_SCRUB_retain : FldDesc := ⟨0xb0020, 0x0, 1, 15, 12, .rw, 0x5, [], 1, 0x8, [], true, none⟩
def CON_SCRUB_days : FldDesc := ⟨0xb0020, 0x0, 1, 7, 0, .rw, 0x7, [], 1, 0x5a, [], true, none⟩
def CON_RETIRE_minwidth : FldDesc := ⟨0xb0024, 0x0, 1, 31, 24, .rw, 0x8, [], 3, 0xf, [], true, none⟩
def CON_RETIRE_diepct : FldDesc := ⟨0xb0024, 0x0, 1, 23, 16, .rw, 0x32, [], 10, 0xc8, [], true, none⟩
def CON_RETIRE_parttiles : FldDesc := ⟨0xb0024, 0x0, 1, 10, 0, .rw, 0x40, [], 16, 0x400, [], true, none⟩
def CON_SPARE_free : FldDesc := ⟨0xb0028, 0x0, 1, 63, 32, .ro, 0x0, [], 0, 0xffffffff, [], false, none⟩
def CON_SPARE_headroom : FldDesc := ⟨0xb0028, 0x0, 1, 31, 7, .ro, 0x0, [], 0, 0x1ffffff, [], false, none⟩
def CON_SPARE_lowpct : FldDesc := ⟨0xb0028, 0x0, 1, 6, 0, .rw, 0xa, [], 2, 0x32, [], true, none⟩
def CON_HEALTH_spare : FldDesc := ⟨0xb0030, 0x0, 1, 23, 16, .ro, 0x64, [], 0, 0xff, [], false, none⟩
def CON_HEALTH_wear : FldDesc := ⟨0xb0030, 0x0, 1, 15, 8, .ro, 0x0, [], 0, 0xff, [], false, none⟩
def CON_HEALTH_maxwear : FldDesc := ⟨0xb0030, 0x0, 1, 7, 0, .ro, 0x0, [], 0, 0xff, [], false, none⟩
def CON_ERRCNT_recovered : FldDesc := ⟨0xb0038, 0x0, 1, 63, 40, .ro, 0x0, [], 0, 0xffffff, [], true, none⟩
def CON_ERRCNT_lost : FldDesc := ⟨0xb0038, 0x0, 1, 39, 16, .ro, 0x0, [], 0, 0xffffff, [], true, none⟩
def CON_ERRCNT_wvfail : FldDesc := ⟨0xb0038, 0x0, 1, 15, 0, .ro, 0x0, [], 0, 0xffff, [], true, none⟩
def CON_RETCNT_channels : FldDesc := ⟨0xb0040, 0x0, 1, 63, 56, .ro, 0x0, [], 0, 0xff, [], true, none⟩
def CON_RETCNT_dies : FldDesc := ⟨0xb0040, 0x0, 1, 55, 48, .ro, 0x0, [], 0, 0xff, [], true, none⟩
def CON_RETCNT_parts : FldDesc := ⟨0xb0040, 0x0, 1, 47, 36, .ro, 0x0, [], 0, 0xfff, [], true, none⟩
def CON_RETCNT_tiles : FldDesc := ⟨0xb0040, 0x0, 1, 31, 0, .ro, 0x0, [], 0, 0xffffffff, [], true, none⟩
def CON_REBUILD_state : FldDesc := ⟨0xb0048, 0x0, 1, 63, 62, .ro, 0x0, [], 0, 0x3, [], false, none⟩
def CON_REBUILD_rows : FldDesc := ⟨0xb0048, 0x0, 1, 39, 32, .ro, 0x0, [], 0, 0xff, [], false, none⟩
def CON_REBUILD_index : FldDesc := ⟨0xb0048, 0x0, 1, 17, 0, .ro, 0x0, [], 0, 0x3ffff, [], false, none⟩
def CON_SCRUBPOS_passes : FldDesc := ⟨0xb0050, 0x0, 1, 63, 32, .ro, 0x0, [], 0, 0xffffffff, [], true, none⟩
def CON_SCRUBPOS_pct : FldDesc := ⟨0xb0050, 0x0, 1, 31, 25, .ro, 0x0, [], 0, 0x7f, [], false, none⟩
def CON_SCRUBPOS_stripe : FldDesc := ⟨0xb0050, 0x0, 1, 24, 0, .ro, 0x0, [], 0, 0x1ffffff, [], false, none⟩
def CON_TSEL_tile : FldDesc := ⟨0xb0058, 0x0, 1, 28, 0, .rw, 0x0, [], 0, 0x1fffffff, [], false, none⟩
def CON_LOSTCNT_count : FldDesc := ⟨0xb005c, 0x0, 1, 31, 0, .ro, 0x0, [], 0, 0xffffffff, [], true, none⟩
def CON_TREC0_word0 : FldDesc := ⟨0xb0060, 0x0, 1, 63, 0, .ro, 0x0, [], 0, 0xffffffffffffffff, [], false, none⟩
def CON_TREC1_word1 : FldDesc := ⟨0xb0068, 0x0, 1, 63, 0, .ro, 0x0, [], 0, 0xffffffffffffffff, [], false, none⟩
def CON_LOSTSEL_page : FldDesc := ⟨0xb0070, 0x0, 1, 7, 0, .rw, 0x0, [], 0, 0xff, [], false, none⟩
def CON_THIST_dies : FldDesc := ⟨0xb0100, 0x8, 32, 63, 0, .ro, 0x0, [], 0, 0xffffffffffffffff, [], true, none⟩
def CON_DIE_state : FldDesc := ⟨0xb1000, 0x8, 256, 63, 62, .ro, 0x0, [], 0, 0x3, [], true, none⟩
def CON_DIE_nosusp : FldDesc := ⟨0xb1000, 0x8, 256, 61, 61, .ro, 0x0, [], 0, 0x1, [], true, none⟩
def CON_DIE_parts : FldDesc := ⟨0xb1000, 0x8, 256, 55, 48, .ro, 0x0, [], 0, 0xff, [], true, none⟩
def CON_DIE_temp : FldDesc := ⟨0xb1000, 0x8, 256, 47, 40, .ro, 0x0, [], 0, 0xff, [], false, none⟩
def CON_DIE_wear : FldDesc := ⟨0xb1000, 0x8, 256, 39, 32, .ro, 0x0, [], 0, 0xff, [], false, none⟩
def CON_DIE_tiles : FldDesc := ⟨0xb1000, 0x8, 256, 31, 0, .ro, 0x0, [], 0, 0xffffffff, [], true, none⟩
def CON_DTAB_bin3 : FldDesc := ⟨0xb2000, 0x8, 1024, 63, 48, .ro, 0x0, [], 0, 0xffff, [], false, none⟩
def CON_DTAB_bin2 : FldDesc := ⟨0xb2000, 0x8, 1024, 47, 32, .ro, 0x0, [], 0, 0xffff, [], false, none⟩
def CON_DTAB_bin1 : FldDesc := ⟨0xb2000, 0x8, 1024, 31, 16, .ro, 0x0, [], 0, 0xffff, [], false, none⟩
def CON_DTAB_bin0 : FldDesc := ⟨0xb2000, 0x8, 1024, 15, 0, .ro, 0x0, [], 0, 0xffff, [], false, none⟩
def CON_LOST_valid : FldDesc := ⟨0xb8000, 0x8, 4096, 63, 63, .ro, 0x0, [], 0, 0x1, [], false, none⟩
def CON_LOST_tile : FldDesc := ⟨0xb8000, 0x8, 4096, 62, 62, .ro, 0x0, [], 0, 0x1, [], false, none⟩
def CON_LOST_line : FldDesc := ⟨0xb8000, 0x8, 4096, 42, 6, .ro, 0x0, [], 0, 0x1fffffffff, [], false, none⟩
def VIT_CTL_autodis : FldDesc := ⟨0xc0000, 0x0, 1, 0, 0, .rw, 0x1, [], 0, 0x1, [], true, none⟩
def VIT_STAT_loanbusy : FldDesc := ⟨0xc0004, 0x0, 1, 16, 16, .ro, 0x0, [], 0, 0x1, [], false, none⟩
def VIT_STAT_disabled : FldDesc := ⟨0xc0004, 0x0, 1, 15, 8, .ro, 0x0, [], 0, 0xff, [], false, none⟩
def VIT_STAT_loanways : FldDesc := ⟨0xc0004, 0x0, 1, 7, 4, .ro, 0x2, [], 0, 0xf, [], false, none⟩
def VIT_WAYCFG_window : FldDesc := ⟨0xc0008, 0x0, 1, 31, 24, .rw, 0x18, [], 1, 0xa8, [], true, none⟩
def VIT_WAYCFG_cthresh : FldDesc := ⟨0xc0008, 0x0, 1, 23, 16, .rw, 0x20, [], 4, 0xff, [], true, none⟩
def VIT_WAYCFG_ucthresh : FldDesc := ⟨0xc0008, 0x0, 1, 15, 12, .rw, 0x1, [], 1, 0xf, [], true, none⟩
def VIT_WAYCFG_maxdis : FldDesc := ⟨0xc0008, 0x0, 1, 11, 8, .rw, 0x4, [], 0, 0x8, [], true, none⟩
def VIT_LOANCFG_ways : FldDesc := ⟨0xc000c, 0x0, 1, 3, 0, .rw, 0x2, [], 0, 0x8, [], true, none⟩
def VIT_WINGINV_busy : FldDesc := ⟨0xc0010, 0x0, 1, 8, 8, .ro, 0x0, [], 0, 0x1, [], false, none⟩
def VIT_WINGINV_wings : FldDesc := ⟨0xc0010, 0x0, 1, 7, 0, .wo, 0x0, [], 0, 0xff, [], false, none⟩
def VIT_LOOKRES_ring : FldDesc := ⟨0xc0014, 0x0, 1, 16, 16, .ro, 0x0, [], 0, 0x1, [], false, none⟩
def VIT_LOOKRES_slice : FldDesc := ⟨0xc0014, 0x0, 1, 15, 12, .ro, 0x0, [], 0, 0xf, [], false, none⟩
def VIT_LOOKRES_set : FldDesc := ⟨0xc0014, 0x0, 1, 11, 0, .ro, 0x0, [], 0, 0xfff, [], false, none⟩
def VIT_LOOKUP_addr : FldDesc := ⟨0xc0018, 0x0, 1, 49, 0, .rw, 0x0, [], 0, 0x3ffffffffffff, [], false, none⟩
def VIT_WAYDIS_slice4n3 : FldDesc := ⟨0xc0020, 0x8, 4, 63, 48, .rw1c, 0x0, [], 0, 0xffff, [], true, none⟩
def VIT_WAYDIS_slice4n2 : FldDesc := ⟨0xc0020, 0x8, 4, 47, 32, .rw1c, 0x0, [], 0, 0xffff, [], true, none⟩
def VIT_WAYDIS_slice4n1 : FldDesc := ⟨0xc0020, 0x8, 4, 31, 16, .rw1c, 0x0, [], 0, 0xffff, [], true, none⟩
def VIT_WAYDIS_slice4n0 : FldDesc := ⟨0xc0020, 0x8, 4, 15, 0, .rw1c, 0x0, [], 0, 0xffff, [], true, none⟩
def VIT_SERR_corr : FldDesc := ⟨0xc0100, 0x10, 16, 63, 32, .ro, 0x0, [], 0, 0xffffffff, [], true, none⟩
def VIT_SERR_uncorr : FldDesc := ⟨0xc0100, 0x10, 16, 31, 16, .ro, 0x0, [], 0, 0xffff, [], true, none⟩
def VIT_SERR_poisoned : FldDesc := ⟨0xc0100, 0x10, 16, 15, 0, .ro, 0x0, [], 0, 0xffff, [], false, none⟩
def VIT_SOCC_valid : FldDesc := ⟨0xc0108, 0x10, 16, 47, 32, .ro, 0x0, [], 0, 0xffff, [], false, none⟩
def VIT_SOCC_dirty : FldDesc := ⟨0xc0108, 0x10, 16, 31, 16, .ro, 0x0, [], 0, 0xffff, [], false, none⟩
def VIT_SOCC_loan : FldDesc := ⟨0xc0108, 0x10, 16, 15, 0, .ro, 0x0, [], 0, 0xffff, [], false, none⟩
def CLO_CTL_atompl : FldDesc := ⟨0xd0000, 0x0, 1, 1, 0, .rw, 0x0, [], 0, 0x3, [0, 1, 2], true, none⟩
def CLO_STAT_filtpct : FldDesc := ⟨0xd0004, 0x0, 1, 23, 16, .ro, 0x0, [], 0, 0xff, [], false, none⟩
def CLO_STAT_dirpct : FldDesc := ⟨0xd0004, 0x0, 1, 15, 8, .ro, 0x0, [], 0, 0xff, [], false, none⟩
def CLO_STAT_grantpct : FldDesc := ⟨0xd0004, 0x0, 1, 7, 0, .ro, 0x0, [], 0, 0xff, [], false, none⟩
def CLO_OBCFG_linger : FldDesc := ⟨0xd0008, 0x0, 1, 15, 0, .rw, 0x7d0, [], 0, 0xffff, [], true, none⟩
def CLO_AWAYREL_seat : FldDesc := ⟨0xd000c, 0x0, 1, 13, 8, .wo, 0x0, [], 0, 0x3f, [], false, none⟩
def CLO_AWAYREL_key : FldDesc := ⟨0xd000c, 0x0, 1, 7, 0, .wo, 0x0, [], 0, 0xff, [0, 169], false, none⟩
def CLO_GRANTS_away : FldDesc := ⟨0xd0010, 0x0, 1, 63, 32, .ro, 0x0, [], 0, 0xffffffff, [], false, none⟩
def CLO_GRANTS_entries : FldDesc := ⟨0xd0010, 0x0, 1, 31, 0, .ro, 0x0, [], 0, 0xffffffff, [], true, none⟩
def CLO_LOSS_fenceinc : FldDesc := ⟨0xd0018, 0x0, 1, 63, 32, .ro, 0x0, [], 0, 0xffffffff, [], true, none⟩
def CLO_LOSS_storelost : FldDesc := ⟨0xd0018, 0x0, 1, 31, 16, .ro, 0x0, [], 0, 0xffff, [], true, none⟩
def CLO_LOSS_swept : FldDesc := ⟨0xd0018, 0x0, 1, 15, 0, .ro, 0x0, [], 0, 0xffff, [], true, none⟩
def CLO_ATOM_near : FldDesc := ⟨0xd0020, 0x0, 1, 63, 32, .ro, 0x0, [], 0, 0xffffffff, [], false, none⟩
def CLO_ATOM_home : FldDesc := ⟨0xd0020, 0x0, 1, 31, 0, .ro, 0x0, [], 0, 0xffffffff, [], false, none⟩
def CLO_FILTER_backinv : FldDesc := ⟨0xd0028, 0x0, 1, 63, 32, .ro, 0x0, [], 0, 0xffffffff, [], false, none⟩
def CLO_FILTER_snoops : FldDesc := ⟨0xd0028, 0x0, 1, 31, 0, .ro, 0x0, [], 0, 0xffffffff, [], false, none⟩
def CUR_CTL_lock : FldDesc := ⟨0xf0000, 0x0, 1, 8, 8, .rwl, 0x0, [], 0, 0x1, [], true, (some 0x3c00008)⟩
def CUR_CTL_reqsig : FldDesc := ⟨0xf0000, 0x0, 1, 0, 0, .rwl, 0x0, [], 0, 0x1, [], true, (some 0x3c00008)⟩
def CUR_STAT_loadbusy : FldDesc := ⟨0xf0004, 0x0, 1, 31, 31, .ro, 0x0, [], 0, 0x1, [], false, none⟩
def CUR_STAT_programs : FldDesc := ⟨0xf0004, 0x0, 1, 25, 16, .ro, 0x0, [], 0, 0x3ff, [], false, none⟩
def CUR_STAT_cqwait : FldDesc := ⟨0xf0004, 0x0, 1, 15, 9, .ro, 0x0, [], 0, 0x7f, [], false, none⟩
def CUR_STAT_running : FldDesc := ⟨0xf0004, 0x0, 1, 8, 0, .ro, 0x0, [], 0, 0x1ff, [], false, none⟩
def CUR_LOADSRC_addr : FldDesc := ⟨0xf0008, 0x0, 1, 49, 6, .rw, 0x0, [], 0, 0xfffffffffff, [], false, none⟩
def CUR_LOADLEN_bytes : FldDesc := ⟨0xf0010, 0x0, 1, 31, 0, .rw, 0x80, [], 128, 0x4010c0, [], false, none⟩
def CUR_LOADCTL_go : FldDesc := ⟨0xf0014, 0x0, 1, 0, 0, .wo, 0x0, [], 0, 0x1, [], false, none⟩
def CUR_LOADRES_status : FldDesc := ⟨0xf0018, 0x0, 1, 31, 24, .ro, 0x0, [], 0, 0xff, [], false, none⟩
def CUR_LOADRES_id : FldDesc := ⟨0xf0018, 0x0, 1, 9, 0, .ro, 0x0, [], 0, 0x3ff, [], false, none⟩
def CUR_UNLOAD_id : FldDesc := ⟨0xf001c, 0x0, 1, 9, 0, .wo, 0x0, [], 0, 0x3ff, [], false, none⟩
def CUR_CALLCFG_deflimit : FldDesc := ⟨0xf0020, 0x0, 1, 15, 0, .rw, 0x0, [], 0, 0xffff, [], true, none⟩
def CUR_HALL_free : FldDesc := ⟨0xf0024, 0x0, 1, 12, 0, .ro, 0x0, [], 0, 0x1fff, [], false, none⟩
def CUR_RGNSEL_page : FldDesc := ⟨0xf0028, 0x0, 1, 1, 0, .rw, 0x0, [], 0, 0x3, [], false, none⟩
def CUR_ABORT_key : FldDesc := ⟨0xf002c, 0x0, 1, 31, 24, .wo, 0x0, [], 0, 0xff, [0, 171], false, none⟩
def CUR_ABORT_ctx : FldDesc := ⟨0xf002c, 0x0, 1, 7, 0, .wo, 0x0, [], 0, 0xff, [], false, none⟩
def CUR_GKEY_digest : FldDesc := ⟨0xf0040, 0x8, 4, 63, 0, .rwl, 0x0, [], 0, 0xffffffffffffffff, [], true, (some 0x3c00008)⟩
def HST_CTL_linkdis : FldDesc := ⟨0x2000000, 0x0, 1, 8, 8, .rw, 0x0, [], 0, 0x1, [], false, none⟩
def HST_CTL_ewa : FldDesc := ⟨0x2000000, 0x0, 1, 0, 0, .rw, 0x1, [], 0, 0x1, [], false, none⟩
def HST_STAT_width : FldDesc := ⟨0x2000004, 0x0, 1, 15, 12, .ro, 0x0, [], 0, 0xf, [], false, none⟩
def HST_STAT_speed : FldDesc := ⟨0x2000004, 0x0, 1, 11, 8, .ro, 0x0, [], 0, 0xf, [], false, none⟩
def HST_STAT_mode : FldDesc := ⟨0x2000004, 0x0, 1, 7, 6, .ro, 0x0, [], 0, 0x3, [], false, none⟩
def HST_STAT_memactive : FldDesc := ⟨0x2000004, 0x0, 1, 5, 5, .ro, 0x0, [], 0, 0x1, [], false, none⟩
def HST_STAT_hpmode : FldDesc := ⟨0x2000004, 0x0, 1, 4, 3, .ro, 0x0, [], 0, 0x3, [], false, none⟩
def HST_ERR_hdmmiss : FldDesc := ⟨0x2000008, 0x0, 1, 63, 48, .ro, 0x0, [], 0, 0xffff, [], false, none⟩
def HST_ERR_poisonin : FldDesc := ⟨0x2000008, 0x0, 1, 47, 32, .ro, 0x0, [], 0, 0xffff, [], false, none⟩
def HST_ERR_notopen : FldDesc := ⟨0x2000008, 0x0, 1, 31, 16, .ro, 0x0, [], 0, 0xffff, [], false, none⟩
def HST_ERR_linkdown : FldDesc := ⟨0x2000008, 0x0, 1, 15, 0, .ro, 0x0, [], 0, 0xffff, [], false, none⟩
def HST_EAB_used : FldDesc := ⟨0x2000010, 0x0, 1, 8, 0, .ro, 0x0, [], 0, 0x1ff, [], false, none⟩
def HST_GBASE_base : FldDesc := ⟨0x2000040, 0x8, 8, 49, 28, .rw, 0x0, [], 0, 0x3fffff, [], false, none⟩
def ATQ_CFG_enable : FldDesc := ⟨0x1000c0, 0x100, 4096, 63, 63, .rw, 0x0, [], 0, 0x1, [], true, none⟩
def ATQ_CFG_priv : FldDesc := ⟨0x1000c0, 0x100, 4096, 62, 61, .rw, 0x3, [], 0, 0x3, [], true, none⟩
def ATQ_CFG_type : FldDesc := ⟨0x1000c0, 0x100, 4096, 60, 59, .rw, 0x2, [], 0, 0x3, [0, 1, 2], true, none⟩
def ATQ_CFG_order : FldDesc := ⟨0x1000c0, 0x100, 4096, 56, 52, .rw, 0x8, [], 4, 0x10, [], true, none⟩
def ATQ_CFG_port : FldDesc := ⟨0x1000c0, 0x100, 4096, 51, 50, .rw, 0x0, [], 0, 0x3, [], true, none⟩
def ATQ_CFG_vector : FldDesc := ⟨0x1000c0, 0x100, 4096, 49, 39, .rw, 0x10, [], 16, 0x7ff, [], true, none⟩
def ATQ_CFG_ct : FldDesc := ⟨0x1000c0, 0x100, 4096, 31, 16, .rw, 0x0, [], 0, 0xffff, [], true, none⟩
def ATQ_STAT_flushed : FldDesc := ⟨0x1000c8, 0x100, 4096, 47, 47, .rw1c, 0x0, [], 0, 0x1, [], false, none⟩
def ATQ_STAT_overrun : FldDesc := ⟨0x1000c8, 0x100, 4096, 46, 46, .rw1c, 0x0, [], 0, 0x1, [], false, none⟩
def ATQ_STAT_full : FldDesc := ⟨0x1000c8, 0x100, 4096, 45, 45, .ro, 0x0, [], 0, 0x1, [], false, none⟩
def ATQ_STAT_packet : FldDesc := ⟨0x1000c8, 0x100, 4096, 44, 44, .ro, 0x0, [], 0, 0x1, [], false, none⟩
def ATQ_STAT_nospace : FldDesc := ⟨0x1000c8, 0x100, 4096, 43, 43, .ro, 0x0, [], 0, 0x1, [], false, none⟩
def ATQ_STAT_armed : FldDesc := ⟨0x1000c8, 0x100, 4096, 42, 42, .ro, 0x0, [], 0, 0x1, [], false, none⟩
def ATQ_STAT_held : FldDesc := ⟨0x1000c8, 0x100, 4096, 33, 17, .ro, 0x0, [], 0, 0x1ffff, [], false, none⟩
def ATQ_STAT_count : FldDesc := ⟨0x1000c8, 0x100, 4096, 16, 0, .ro, 0x0, [], 0, 0x1ffff, [], false, none⟩
def ATQ_ERR_corr : FldDesc := ⟨0x1000d0, 0x100, 4096, 63, 48, .ro, 0x0, [], 0, 0xffff, [], false, none⟩
def ATQ_ERR_uncorr : FldDesc := ⟨0x1000d0, 0x100, 4096, 47, 32, .ro, 0x0, [], 0, 0xffff, [], false, none⟩
def ATQ_ERR_dropped : FldDesc := ⟨0x1000d0, 0x100, 4096, 31, 0, .ro, 0x0, [], 0, 0xffffffff, [], false, none⟩
def ATQ_CTL_reset : FldDesc := ⟨0x1000d8, 0x100, 4096, 2, 2, .wo, 0x0, [], 0, 0x1, [], false, none⟩
def ATQ_CTL_close : FldDesc := ⟨0x1000d8, 0x100, 4096, 1, 1, .wo, 0x0, [], 0, 0x1, [], false, none⟩
def ATQ_CTL_arm : FldDesc := ⟨0x1000d8, 0x100, 4096, 0, 0, .wo, 0x0, [], 0, 0x1, [], false, none⟩
def FAB_CTL_enable : FldDesc := ⟨0xe0000, 0x0, 1, 0, 0, .rw, 0x1, [], 0, 0x1, [], true, none⟩
def FAB_STAT_join : FldDesc := ⟨0xe0004, 0x0, 1, 31, 28, .ro, 0x0, [], 0, 0xf, [], false, none⟩
def FAB_STAT_diam : FldDesc := ⟨0xe0004, 0x0, 1, 27, 24, .ro, 0x0, [], 0, 0xf, [], false, none⟩
def FAB_STAT_members : FldDesc := ⟨0xe0004, 0x0, 1, 23, 17, .ro, 0x0, [], 0, 0x7f, [], false, none⟩
def FAB_STAT_seat : FldDesc := ⟨0xe0004, 0x0, 1, 16, 11, .ro, 0x0, [], 0, 0x3f, [], false, none⟩
def FAB_STAT_keeper : FldDesc := ⟨0xe0004, 0x0, 1, 10, 10, .ro, 0x0, [], 0, 0x1, [], false, none⟩
def FAB_STAT_quorum : FldDesc := ⟨0xe0004, 0x0, 1, 9, 9, .ro, 0x0, [], 0, 0x1, [], false, none⟩
def FAB_STAT_vtsync : FldDesc := ⟨0xe0004, 0x0, 1, 8, 8, .ro, 0x0, [], 0, 0x1, [], false, none⟩
def FAB_CFG_kprio : FldDesc := ⟨0xe0008, 0x0, 1, 15, 8, .rw, 0x0, [], 0, 0xff, [], true, none⟩
def FAB_CFG_autoseat : FldDesc := ⟨0xe0008, 0x0, 1, 7, 7, .rw, 0x1, [], 0, 0x1, [], true, none⟩
def FAB_CFG_lkslot : FldDesc := ⟨0xe0008, 0x0, 1, 5, 0, .rw, 0x0, [], 0, 0x3f, [], true, none⟩
def FAB_SEATCMD_busy : FldDesc := ⟨0xe000c, 0x0, 1, 31, 31, .ro, 0x0, [], 0, 0x1, [], false, none⟩
def FAB_SEATCMD_op : FldDesc := ⟨0xe000c, 0x0, 1, 27, 24, .rw, 0x1, [], 0, 0xf, [1, 2, 3], false, none⟩
def FAB_SEATCMD_seat : FldDesc := ⟨0xe000c, 0x0, 1, 21, 16, .rw, 0x0, [], 0, 0x3f, [], false, none⟩
def FAB_SEATCMD_status : FldDesc := ⟨0xe000c, 0x0, 1, 15, 8, .ro, 0x0, [], 0, 0xff, [], false, none⟩
def FAB_SEATCMD_key : FldDesc := ⟨0xe000c, 0x0, 1, 7, 0, .wo, 0x0, [], 0, 0xff, [0, 90], false, none⟩
def FAB_SEATUID_uid : FldDesc := ⟨0xe0010, 0x0, 1, 63, 0, .rw, 0x0, [], 0, 0xffffffffffffffff, [], false, none⟩
def FAB_FABID_id : FldDesc := ⟨0xe0018, 0x0, 1, 63, 0, .ro, 0x0, [], 0, 0xffffffffffffffff, [], true, none⟩
def FAB_EPOCH_e : FldDesc := ⟨0xe0020, 0x0, 1, 63, 0, .ro, 0x0, [], 0, 0xffffffffffffffff, [], true, none⟩
def FAB_KEEPER_uid : FldDesc := ⟨0xe0028, 0x0, 1, 63, 0, .ro, 0x0, [], 0, 0xffffffffffffffff, [], false, none⟩
def FAB_VTSET_ns : FldDesc := ⟨0xe0030, 0x0, 1, 63, 0, .rw, 0x0, [], 0, 0xffffffffffffffff, [], false, none⟩
def FAB_VTSTAT_hostset : FldDesc := ⟨0xe0038, 0x0, 1, 31, 31, .ro, 0x0, [], 0, 0x1, [], false, none⟩
def FAB_VTSTAT_offset : FldDesc := ⟨0xe0038, 0x0, 1, 15, 0, .ro, 0x0, [], 0, 0xffff, [], false, none⟩
def FAB_GOPCTL_busy : FldDesc := ⟨0xe003c, 0x0, 1, 31, 31, .ro, 0x0, [], 0, 0x1, [], false, none⟩
def FAB_GOPCTL_result : FldDesc := ⟨0xe003c, 0x0, 1, 27, 24, .ro, 0x0, [], 0, 0xf, [], false, none⟩
def FAB_GOPCTL_op : FldDesc := ⟨0xe003c, 0x0, 1, 19, 16, .rw, 0x1, [], 0, 0xf, [1, 2, 3], false, none⟩
def FAB_GOPCTL_key : FldDesc := ⟨0xe003c, 0x0, 1, 7, 0, .wo, 0x0, [], 0, 0xff, [0, 228], false, none⟩
def FAB_BARRIER_waiting : FldDesc := ⟨0xe0040, 0x0, 1, 31, 16, .ro, 0x0, [], 0, 0xffff, [], false, none⟩
def FAB_BARRIER_arrive : FldDesc := ⟨0xe0040, 0x0, 1, 15, 0, .wo, 0x0, [], 0, 0xffff, [], false, none⟩
def FAB_ROUTESEL_seat : FldDesc := ⟨0xe0044, 0x0, 1, 5, 0, .rw, 0x0, [], 0, 0x3f, [], false, none⟩
def FAB_ROUTE_reach : FldDesc := ⟨0xe0048, 0x0, 1, 31, 31, .ro, 0x0, [], 0, 0x1, [], false, none⟩
def FAB_ROUTE_hops : FldDesc := ⟨0xe0048, 0x0, 1, 30, 27, .ro, 0x0, [], 0, 0xf, [], false, none⟩
def FAB_ROUTE_valid : FldDesc := ⟨0xe0048, 0x0, 1, 14, 12, .ro, 0x0, [], 0, 0x7, [], false, none⟩
def FAB_ROUTE_port2 : FldDesc := ⟨0xe0048, 0x0, 1, 11, 8, .ro, 0x0, [], 0, 0xf, [], false, none⟩
def FAB_ROUTE_port1 : FldDesc := ⟨0xe0048, 0x0, 1, 7, 4, .ro, 0x0, [], 0, 0xf, [], false, none⟩
def FAB_ROUTE_port0 : FldDesc := ⟨0xe0048, 0x0, 1, 3, 0, .ro, 0x0, [], 0, 0xf, [], false, none⟩
def FAB_GOPARG_value : FldDesc := ⟨0xe0050, 0x0, 1, 63, 0, .rw, 0x0, [], 0, 0xffffffffffffffff, [], false, none⟩
def FAB_GOPIN_value : FldDesc := ⟨0xe0058, 0x0, 1, 63, 0, .ro, 0x0, [], 0, 0xffffffffffffffff, [], false, none⟩
def FAB_SNAPT_ns : FldDesc := ⟨0xe0060, 0x0, 1, 63, 0, .ro, 0x0, [], 0, 0xffffffffffffffff, [], false, none⟩
def FAB_BARGEN_gen : FldDesc := ⟨0xe0068, 0x0, 1, 63, 0, .ro, 0x0, [], 0, 0xffffffffffffffff, [], false, none⟩
def FAB_MEMUID_uid : FldDesc := ⟨0xe0100, 0x10, 64, 63, 0, .ro, 0x0, [], 0, 0xffffffffffffffff, [], true, none⟩
def FAB_MEMST_state : FldDesc := ⟨0xe0108, 0x10, 64, 63, 62, .ro, 0x0, [], 0, 0x3, [], false, none⟩
def FAB_MEMST_hops : FldDesc := ⟨0xe0108, 0x10, 64, 61, 58, .ro, 0x0, [], 0, 0xf, [], false, none⟩
def FAB_MEMST_epoch : FldDesc := ⟨0xe0108, 0x10, 64, 47, 0, .ro, 0x0, [], 0, 0xffffffffffff, [], true, none⟩
def FAB_PCTL_crypt : FldDesc := ⟨0xe1000, 0x20, 16, 4, 4, .rw, 0x0, [], 0, 0x1, [], true, none⟩
def FAB_PCTL_maxrate : FldDesc := ⟨0xe1000, 0x20, 16, 3, 2, .rw, 0x3, [], 0, 0x3, [1, 2, 3], true, none⟩
def FAB_PCTL_dis : FldDesc := ⟨0xe1000, 0x20, 16, 0, 0, .rw, 0x0, [], 0, 0x1, [], true, none⟩
def FAB_PSTAT_state : FldDesc := ⟨0xe1004, 0x20, 16, 31, 28, .ro, 0x0, [], 0, 0xf, [], false, none⟩
def FAB_PSTAT_nport : FldDesc := ⟨0xe1004, 0x20, 16, 23, 20, .ro, 0x0, [], 0, 0xf, [], false, none⟩
def FAB_PSTAT_width : FldDesc := ⟨0xe1004, 0x20, 16, 19, 17, .ro, 0x0, [], 0, 0x7, [], false, none⟩
def FAB_PSTAT_speed : FldDesc := ⟨0xe1004, 0x20, 16, 16, 15, .ro, 0x0, [], 0, 0x3, [], false, none⟩
def FAB_PSTAT_enc : FldDesc := ⟨0xe1004, 0x20, 16, 14, 14, .ro, 0x0, [], 0, 0x1, [], false, none⟩
def FAB_PNBR_uid : FldDesc := ⟨0xe1008, 0x20, 16, 63, 0, .ro, 0x0, [], 0, 0xffffffffffffffff, [], false, none⟩
def FAB_PERR_crcerr : FldDesc := ⟨0xe1010, 0x20, 16, 63, 48, .ro, 0x0, [], 0, 0xffff, [], false, none⟩
def FAB_PERR_replays : FldDesc := ⟨0xe1010, 0x20, 16, 47, 32, .ro, 0x0, [], 0, 0xffff, [], false, none⟩
def FAB_PERR_retrains : FldDesc := ⟨0xe1010, 0x20, 16, 31, 16, .ro, 0x0, [], 0, 0xffff, [], false, none⟩
def FAB_PERR_tagfail : FldDesc := ⟨0xe1010, 0x20, 16, 15, 12, .ro, 0x0, [], 0, 0xf, [], false, none⟩
def FAB_PERR_loopdrop : FldDesc := ⟨0xe1010, 0x20, 16, 11, 8, .ro, 0x0, [], 0, 0xf, [], false, none⟩
def FAB_PERR_downs : FldDesc := ⟨0xe1010, 0x20, 16, 7, 0, .ro, 0x0, [], 0, 0xff, [], false, none⟩
def CIP_CTL_trngrst : FldDesc := ⟨0x80000, 0x0, 1, 0, 0, .wo, 0x0, [], 0, 0x1, [], false, none⟩
def CIP_STAT_trng : FldDesc := ⟨0x80004, 0x0, 1, 9, 8, .ro, 0x1, [], 0, 0x3, [], false, none⟩
def CIP_STAT_engines : FldDesc := ⟨0x80004, 0x0, 1, 3, 0, .ro, 0x0, [], 0, 0xf, [], false, none⟩
def CIP_ALARM_mediamac : FldDesc := ⟨0x80008, 0x0, 1, 4, 4, .rw1c, 0x0, [], 0, 0x1, [], true, none⟩
def CIP_ALARM_trng : FldDesc := ⟨0x80008, 0x0, 1, 3, 3, .rw1c, 0x0, [], 0, 0x1, [], true, none⟩
def CIP_ALARM_noengine : FldDesc := ⟨0x80008, 0x0, 1, 2, 2, .rw1c, 0x0, [], 0, 0x1, [], true, none⟩
def CIP_ALARM_engout : FldDesc := ⟨0x80008, 0x0, 1, 1, 1, .rw1c, 0x0, [], 0, 0x1, [], true, none⟩
def CIP_DUP_mismatch : FldDesc := ⟨0x80010, 0x0, 1, 63, 32, .ro, 0x0, [], 0, 0xffffffff, [], true, none⟩
def CIP_DUP_restarts : FldDesc := ⟨0x80010, 0x0, 1, 31, 0, .ro, 0x0, [], 0, 0xffffffff, [], true, none⟩
def CIP_MACFAIL_media : FldDesc := ⟨0x80018, 0x0, 1, 63, 32, .ro, 0x0, [], 0, 0xffffffff, [], true, none⟩
def CIP_MACFAIL_jobs : FldDesc := ⟨0x80018, 0x0, 1, 31, 0, .ro, 0x0, [], 0, 0xffffffff, [], false, none⟩
def CIP_TRNG_rct : FldDesc := ⟨0x80020, 0x0, 1, 63, 48, .ro, 0x0, [], 0, 0xffff, [], false, none⟩
def CIP_TRNG_apt : FldDesc := ⟨0x80020, 0x0, 1, 47, 32, .ro, 0x0, [], 0, 0xffff, [], false, none⟩
def CIP_TRNG_reseeds : FldDesc := ⟨0x80020, 0x0, 1, 31, 0, .ro, 0x0, [], 0, 0xffffffff, [], false, none⟩
def CIP_SLOT_state : FldDesc := ⟨0x80100, 0x8, 64, 63, 62, .ro, 0x0, [], 0, 0x3, [], true, none⟩
def CIP_SLOT_type : FldDesc := ⟨0x80100, 0x8, 64, 61, 60, .ro, 0x0, [], 0, 0x3, [], true, none⟩
def CIP_SLOT_source : FldDesc := ⟨0x80100, 0x8, 64, 59, 58, .ro, 0x0, [], 0, 0x3, [], true, none⟩
def CIP_SLOT_users : FldDesc := ⟨0x80100, 0x8, 64, 48, 32, .ro, 0x0, [], 0, 0x1ffff, [], false, none⟩
def CIP_SLOT_kcv : FldDesc := ⟨0x80100, 0x8, 64, 31, 0, .ro, 0x0, [], 0, 0xffffffff, [], true, none⟩
def STG_STAT_ranges : FldDesc := ⟨0x90000, 0x0, 1, 16, 4, .ro, 0x0, [], 0, 0x1fff, [], false, none⟩
def STG_STAT_reinit : FldDesc := ⟨0x90000, 0x0, 1, 3, 3, .ro, 0x0, [], 0, 0x1, [], false, none⟩
def STG_STAT_state : FldDesc := ⟨0x90000, 0x0, 1, 1, 0, .ro, 0x0, [], 0, 0x3, [], false, none⟩
def STG_ALARM_full : FldDesc := ⟨0x90004, 0x0, 1, 5, 5, .rw1c, 0x0, [], 0, 0x1, [], true, none⟩
def STG_ALARM_merge : FldDesc := ⟨0x90004, 0x0, 1, 4, 4, .rw1c, 0x0, [], 0, 0x1, [], true, none⟩
def STG_ALARM_tamper : FldDesc := ⟨0x90004, 0x0, 1, 3, 3, .rw1c, 0x0, [], 0, 0x1, [], true, none⟩
def STG_ALARM_nodeuc : FldDesc := ⟨0x90004, 0x0, 1, 2, 2, .rw1c, 0x0, [], 0, 0x1, [], true, none⟩
def STG_ALARM_tag : FldDesc := ⟨0x90004, 0x0, 1, 1, 1, .rw1c, 0x0, [], 0, 0x1, [], true, none⟩
def STG_ALARM_lineuc : FldDesc := ⟨0x90004, 0x0, 1, 0, 0, .rw1c, 0x0, [], 0, 0x1, [], true, none⟩
def STG_GEOM_lines : FldDesc := ⟨0x90008, 0x0, 1, 63, 32, .ro, 0x0, [], 0, 0xffffffff, [], false, none⟩
def STG_GEOM_mib : FldDesc := ⟨0x90008, 0x0, 1, 31, 0, .ro, 0x0, [], 0, 0xffffffff, [], false, none⟩
def STG_CNT_tag : FldDesc := ⟨0x90010, 0x0, 1, 63, 48, .ro, 0x0, [], 0, 0xffff, [], true, none⟩
def STG_CNT_node : FldDesc := ⟨0x90010, 0x0, 1, 47, 32, .ro, 0x0, [], 0, 0xffff, [], true, none⟩
def STG_CNT_merge : FldDesc := ⟨0x90010, 0x0, 1, 31, 16, .ro, 0x0, [], 0, 0xffff, [], true, none⟩
def STG_CNT_lineuc : FldDesc := ⟨0x90010, 0x0, 1, 15, 0, .ro, 0x0, [], 0, 0xffff, [], true, none⟩
def STG_WCOUNT_w : FldDesc := ⟨0x90018, 0x0, 1, 63, 0, .ro, 0x1, [], 0, 0xffffffffffffffff, [], false, none⟩
def STG_CCACHE_hits : FldDesc := ⟨0x90020, 0x0, 1, 63, 32, .ro, 0x0, [], 0, 0xffffffff, [], false, none⟩
def STG_CCACHE_misses : FldDesc := ⟨0x90020, 0x0, 1, 31, 0, .ro, 0x0, [], 0, 0xffffffff, [], false, none⟩
def STG_PSEL_page : FldDesc := ⟨0x90028, 0x0, 1, 3, 0, .rw, 0x0, [], 0, 0xf, [], false, none⟩
def STG_PRANGE_valid : FldDesc := ⟨0x91000, 0x8, 256, 63, 63, .ro, 0x0, [], 0, 0x1, [], false, none⟩
def STG_PRANGE_level : FldDesc := ⟨0x91000, 0x8, 256, 62, 59, .ro, 0x0, [], 0, 0xf, [], false, none⟩
def STG_PRANGE_first : FldDesc := ⟨0x91000, 0x8, 256, 31, 0, .ro, 0x0, [], 0, 0xffffffff, [], false, none⟩
def INJ_CTL_lock : FldDesc := ⟨0x70000, 0x0, 1, 9, 9, .rwl, 0x0, [], 0, 0x1, [], false, (some 0x1c00009)⟩
def INJ_CTL_enable : FldDesc := ⟨0x70000, 0x0, 1, 8, 8, .rwl, 0x1, [], 0, 0x1, [], false, (some 0x1c00009)⟩
def INJ_CTL_quar : FldDesc := ⟨0x70000, 0x0, 1, 1, 1, .rw, 0x1, [], 0, 0x1, [], false, none⟩
def INJ_CTL_disarm : FldDesc := ⟨0x70000, 0x0, 1, 0, 0, .wo, 0x0, [], 0, 0x1, [], false, none⟩
def INJ_STAT_armed : FldDesc := ⟨0x70004, 0x0, 1, 7, 0, .ro, 0x0, [], 0, 0xff, [], false, none⟩
def INJ_FIRED_count : FldDesc := ⟨0x70008, 0x0, 1, 63, 0, .ro, 0x0, [], 0, 0xffffffffffffffff, [], false, none⟩
def INJ_BIST_fail : FldDesc := ⟨0x70010, 0x0, 1, 10, 0, .ro, 0x0, [], 0, 0x7ff, [], false, none⟩
def INJ_BISTINST_class : FldDesc := ⟨0x70018, 0x0, 1, 63, 56, .ro, 0x0, [], 0, 0xff, [], false, none⟩
def INJ_BISTINST_sub : FldDesc := ⟨0x70018, 0x0, 1, 31, 16, .ro, 0x0, [], 0, 0xffff, [], false, none⟩
def INJ_BISTINST_inst : FldDesc := ⟨0x70018, 0x0, 1, 15, 0, .ro, 0x0, [], 0, 0xffff, [], false, none⟩
def INJ_DDRCORR_ch1 : FldDesc := ⟨0x70020, 0x0, 1, 63, 32, .ro, 0x0, [], 0, 0xffffffff, [], true, none⟩
def INJ_DDRCORR_ch0 : FldDesc := ⟨0x70020, 0x0, 1, 31, 0, .ro, 0x0, [], 0, 0xffffffff, [], true, none⟩
def INJ_SRAM_corr : FldDesc := ⟨0x70028, 0x0, 1, 63, 40, .ro, 0x0, [], 0, 0xffffff, [], true, none⟩
def INJ_SRAM_uncorr : FldDesc := ⟨0x70028, 0x0, 1, 39, 32, .ro, 0x0, [], 0, 0xff, [], true, none⟩
def INJ_SRAM_lcorr : FldDesc := ⟨0x70028, 0x0, 1, 31, 8, .ro, 0x0, [], 0, 0xffffff, [], true, none⟩
def INJ_SRAM_lucorr : FldDesc := ⟨0x70028, 0x0, 1, 7, 0, .ro, 0x0, [], 0, 0xff, [], true, none⟩
def INJ_PT_point : FldDesc := ⟨0x70100, 0x10, 8, 63, 56, .rw, 0x0, [], 0, 0xff, [0, 1, 2, 3, 4, 5, 6, 7, 8, 9, 10, 11, 12, 13, 14, 15, 16, 17, 18, 19, 20, 21, 22, 23], false, none⟩
def INJ_PT_sticky : FldDesc := ⟨0x70100, 0x10, 8, 55, 55, .rw, 0x0, [], 0, 0x1, [], false, none⟩
def INJ_PT_bits : FldDesc := ⟨0x70100, 0x10, 8, 54, 48, .rw, 0x1, [], 1, 0x7f, [], false, none⟩
def INJ_PT_target : FldDesc := ⟨0x70100, 0x10, 8, 47, 0, .rw, 0xffffffffffff, [], 0, 0xffffffffffff, [], false, none⟩
def INJ_POS_fixed : FldDesc := ⟨0x70108, 0x10, 8, 31, 31, .rw, 0x0, [], 0, 0x1, [], false, none⟩
def INJ_POS_pos : FldDesc := ⟨0x70108, 0x10, 8, 15, 0, .rw, 0x0, [], 0, 0xffff, [], false, none⟩
def INJ_PTCTL_fired : FldDesc := ⟨0x7010c, 0x10, 8, 31, 16, .ro, 0x0, [], 0, 0xffff, [], false, none⟩
def INJ_PTCTL_armed : FldDesc := ⟨0x7010c, 0x10, 8, 2, 2, .ro, 0x0, [], 0, 0x1, [], false, none⟩
def INJ_PTCTL_disarm : FldDesc := ⟨0x7010c, 0x10, 8, 1, 1, .wo, 0x0, [], 0, 0x1, [], false, none⟩
def INJ_PTCTL_arm : FldDesc := ⟨0x7010c, 0x10, 8, 0, 0, .wo, 0x0, [], 0, 0x1, [], false, none⟩
def REC_CTL_flush : FldDesc := ⟨0x40000, 0x0, 1, 0, 0, .wo, 0x0, [], 0, 0x1, [], false, none⟩
def REC_STAT_overflow : FldDesc := ⟨0x40004, 0x0, 1, 17, 17, .rw1c, 0x0, [], 0, 0x1, [], false, none⟩
def REC_STAT_writing : FldDesc := ⟨0x40004, 0x0, 1, 16, 16, .ro, 0x0, [], 0, 0x1, [], false, none⟩
def REC_STAT_unwritten : FldDesc := ⟨0x40004, 0x0, 1, 15, 0, .ro, 0x0, [], 0, 0xffff, [], false, none⟩
def REC_CFG_wmark : FldDesc := ⟨0x40008, 0x0, 1, 7, 0, .rw, 0x32, [], 10, 0x5a, [], true, none⟩
def REC_IRQ_ports : FldDesc := ⟨0x4000c, 0x0, 1, 19, 16, .rw, 0x0, [], 0, 0xf, [], true, none⟩
def REC_IRQ_sev : FldDesc := ⟨0x4000c, 0x0, 1, 15, 14, .rw, 0x1, [], 0, 0x3, [], true, none⟩
def REC_IRQ_coal : FldDesc := ⟨0x4000c, 0x0, 1, 13, 0, .rw, 0x64, [], 1, 0x3fff, [], true, none⟩
def REC_HEAD_seq : FldDesc := ⟨0x40010, 0x0, 1, 63, 0, .ro, 0x0, [], 0, 0xffffffffffffffff, [], true, none⟩
def REC_TAIL_seq : FldDesc := ⟨0x40018, 0x0, 1, 63, 0, .ro, 0x0, [], 0, 0xffffffffffffffff, [], true, none⟩
def REC_FLUSHED_seq : FldDesc := ⟨0x40020, 0x0, 1, 63, 0, .ro, 0x0, [], 0, 0xffffffffffffffff, [], true, none⟩
def REC_DROPPED_count : FldDesc := ⟨0x40028, 0x0, 1, 63, 0, .ro, 0x0, [], 0, 0xffffffffffffffff, [], true, none⟩
def REC_RDSEQ_seq : FldDesc := ⟨0x40030, 0x0, 1, 63, 0, .rw, 0x1, [], 0, 0xffffffffffffffff, [], false, none⟩
def REC_RDSTAT_busy : FldDesc := ⟨0x40038, 0x0, 1, 0, 0, .ro, 0x0, [], 0, 0x1, [], false, none⟩
def REC_SNAPSEQ_seq : FldDesc := ⟨0x40040, 0x0, 1, 63, 0, .ro, 0x0, [], 0, 0xffffffffffffffff, [], false, none⟩
def REC_SRC_count : FldDesc := ⟨0x41000, 0x4, 1280, 31, 16, .ro, 0x0, [], 0, 0xffff, [], false, none⟩
def REC_SRC_limit : FldDesc := ⟨0x41000, 0x4, 1280, 15, 8, .rw, 0x10, [], 0, 0xff, [], true, none⟩
def REC_SRC_win : FldDesc := ⟨0x41000, 0x4, 1280, 7, 4, .rw, 0xa, [], 0, 0xf, [], true, none⟩
def LDG_STAT_busy : FldDesc := ⟨0x30000, 0x0, 1, 7, 4, .ro, 0x0, [], 0, 0xf, [], false, none⟩
def LDG_STAT_reserve : FldDesc := ⟨0x30000, 0x0, 1, 2, 2, .ro, 0x0, [], 0, 0x1, [], false, none⟩
def LDG_STAT_supply : FldDesc := ⟨0x30000, 0x0, 1, 1, 1, .ro, 0x0, [], 0, 0x1, [], false, none⟩
def LDG_STAT_cmdbusy : FldDesc := ⟨0x30000, 0x0, 1, 0, 0, .ro, 0x0, [], 0, 0x1, [], false, none⟩
def LDG_PROT_lock : FldDesc := ⟨0x30004, 0x0, 1, 8, 8, .rwl, 0x0, [], 0, 0x1, [], false, (some 0xc00108)⟩
def LDG_PROT_level : FldDesc := ⟨0x30004, 0x0, 1, 1, 0, .rwl, 0x3, [], 0, 0x3, [], true, (some 0xc00108)⟩
def LDG_PGADDR_page : FldDesc := ⟨0x30008, 0x0, 1, 13, 0, .rw, 0x0, [], 0, 0x3fff, [], false, none⟩
def LDG_PGCMD_status : FldDesc := ⟨0x3000c, 0x0, 1, 15, 8, .ro, 0x0, [], 0, 0xff, [], false, none⟩
def LDG_PGCMD_cmd : FldDesc := ⟨0x3000c, 0x0, 1, 1, 0, .wo, 0x0, [], 0, 0x3, [0, 1, 2], false, none⟩
def LDG_TCCFG_count : FldDesc := ⟨0x30010, 0x0, 1, 27, 16, .rw, 0x0, [], 0, 0x800, [], true, none⟩
def LDG_TCCFG_base : FldDesc := ⟨0x30010, 0x0, 1, 13, 0, .rw, 0x2000, [], 8192, 0x2ffe, [], true, none⟩
def LDG_TCCMD_pair : FldDesc := ⟨0x30014, 0x0, 1, 26, 16, .rw, 0x0, [], 0, 0x7ff, [], false, none⟩
def LDG_TCCMD_cmd : FldDesc := ⟨0x30014, 0x0, 1, 1, 0, .wo, 0x0, [], 0, 0x3, [0, 1, 2], false, none⟩
def LDG_TCSTAT_seq : FldDesc := ⟨0x30018, 0x0, 1, 63, 32, .ro, 0x0, [], 0, 0xffffffff, [], false, none⟩
def LDG_TCSTAT_status : FldDesc := ⟨0x30018, 0x0, 1, 15, 8, .ro, 0x0, [], 0, 0xff, [], false, none⟩
def LDG_TCSTAT_equal : FldDesc := ⟨0x30018, 0x0, 1, 2, 2, .ro, 0x0, [], 0, 0x1, [], false, none⟩
def LDG_TCSTAT_both : FldDesc := ⟨0x30018, 0x0, 1, 1, 1, .ro, 0x0, [], 0, 0x1, [], false, none⟩
def LDG_TCSTAT_copy : FldDesc := ⟨0x30018, 0x0, 1, 0, 0, .ro, 0x0, [], 0, 0x1, [], false, none⟩
def LDG_ERR_corr : FldDesc := ⟨0x30020, 0x0, 1, 63, 32, .ro, 0x0, [], 0, 0xffffffff, [], true, none⟩
def LDG_ERR_uncorr : FldDesc := ⟨0x30020, 0x0, 1, 31, 16, .ro, 0x0, [], 0, 0xffff, [], true, none⟩
def LDG_ERR_guardref : FldDesc := ⟨0x30020, 0x0, 1, 15, 0, .ro, 0x0, [], 0, 0xffff, [], true, none⟩
def LDG_ERRPAGE_page : FldDesc := ⟨0x30028, 0x0, 1, 13, 0, .ro, 0x0, [], 0, 0x3fff, [], true, none⟩
def LDG_PGDATA_data : FldDesc := ⟨0x30100, 0x8, 32, 63, 0, .rw, 0x0, [], 0, 0xffffffffffffffff, [], false, none⟩
def PWR_SEQCTL_lock : FldDesc := ⟨0x10000, 0x0, 1, 8, 8, .rwl, 0x0, [], 0, 0x1, [], false, (some 0x400008)⟩
def PWR_SEQSTAT_state : FldDesc := ⟨0x10004, 0x0, 1, 31, 28, .ro, 0x3, [], 0, 0xf, [], false, none⟩
def PWR_SEQSTAT_attempts : FldDesc := ⟨0x10004, 0x0, 1, 27, 24, .ro, 0x0, [], 0, 0xf, [], false, none⟩
def PWR_SEQSTAT_en : FldDesc := ⟨0x10004, 0x0, 1, 23, 12, .ro, 0xfff, [], 0, 0xfff, [], false, none⟩
def PWR_SEQSTAT_good : FldDesc := ⟨0x10004, 0x0, 1, 11, 0, .ro, 0xfff, [], 0, 0xfff, [], false, none⟩
def PWR_SEQCFG_falltmo : FldDesc := ⟨0x10008, 0x0, 1, 31, 24, .rwl, 0x14, [], 1, 0xff, [], true, (some 0x400008)⟩
def PWR_SEQCFG_chatmax : FldDesc := ⟨0x10008, 0x0, 1, 23, 16, .rwl, 0x10, [], 2, 0xff, [], true, (some 0x400008)⟩
def PWR_SEQCFG_deglitch : FldDesc := ⟨0x10008, 0x0, 1, 15, 8, .rwl, 0x5, [], 1, 0x64, [], true, (some 0x400008)⟩
def PWR_SEQCFG_retries : FldDesc := ⟨0x10008, 0x0, 1, 7, 4, .rwl, 0x3, [], 1, 0xf, [], true, (some 0x400008)⟩
def PWR_SEQFAULT_offfail : FldDesc := ⟨0x1000c, 0x0, 1, 27, 16, .rw1c, 0x0, [], 0, 0xfff, [], true, none⟩
def PWR_SEQFAULT_railfail : FldDesc := ⟨0x1000c, 0x0, 1, 11, 0, .rw1c, 0x0, [], 0, 0xfff, [], true, none⟩
def PWR_PFCFG_vinhi : FldDesc := ⟨0x10010, 0x0, 1, 63, 48, .rwl, 0x35e8, [], 0, 0x3a98, [], true, (some 0x400008)⟩
def PWR_PFCFG_vinok : FldDesc := ⟨0x10010, 0x0, 1, 47, 32, .rwl, 0x2c88, [], 0, 0x32c8, [], true, (some 0x400008)⟩
def PWR_PFCFG_vinth : FldDesc := ⟨0x10010, 0x0, 1, 31, 16, .rwl, 0x2a30, [], 9000, 0x2e18, [], true, (some 0x400008)⟩
def PWR_PFCFG_deb : FldDesc := ⟨0x10010, 0x0, 1, 11, 8, .rwl, 0x2, [], 1, 0xf, [], true, (some 0x400008)⟩
def PWR_PFCFG_ebdeb : FldDesc := ⟨0x10010, 0x0, 1, 3, 0, .rwl, 0x1, [], 1, 0xf, [], true, (some 0x400008)⟩
def PWR_PFSTAT_cause : FldDesc := ⟨0x10018, 0x0, 1, 31, 28, .ro, 0x0, [], 0, 0xf, [], true, none⟩
def PWR_PFSTAT_rail : FldDesc := ⟨0x10018, 0x0, 1, 15, 12, .ro, 0x0, [], 0, 0xf, [], true, none⟩
def PWR_PFSTAT_lockout : FldDesc := ⟨0x10018, 0x0, 1, 3, 3, .ro, 0x0, [], 0, 0x1, [], false, none⟩
def PWR_PFSTAT_eb : FldDesc := ⟨0x10018, 0x0, 1, 2, 2, .ro, 0x0, [], 0, 0x1, [], false, none⟩
def PWR_PFSTAT_inok : FldDesc := ⟨0x10018, 0x0, 1, 1, 1, .ro, 0x0, [], 0, 0x1, [], false, none⟩
def PWR_PFSTAT_pfail : FldDesc := ⟨0x10018, 0x0, 1, 0, 0, .ro, 0x0, [], 0, 0x1, [], false, none⟩
def PWR_SENSCFG_hubscale : FldDesc := ⟨0x1001c, 0x0, 1, 31, 16, .rwl, 0xea60, [], 10000, 0xffff, [], true, (some 0x400008)⟩
def PWR_SENSCFG_vinscale : FldDesc := ⟨0x1001c, 0x0, 1, 15, 0, .rwl, 0x3a98, [], 13000, 0x4e20, [], true, (some 0x400008)⟩
def PWR_SENS_bank : FldDesc := ⟨0x10020, 0x0, 1, 31, 16, .ro, 0x0, [], 0, 0xffff, [], false, none⟩
def PWR_SENS_vin : FldDesc := ⟨0x10020, 0x0, 1, 15, 0, .ro, 0x0, [], 0, 0xffff, [], false, none⟩
def PWR_AONSTAT_fru : FldDesc := ⟨0x10028, 0x0, 1, 31, 31, .ro, 0x0, [], 0, 0x1, [], false, none⟩
def PWR_AONSTAT_dropped : FldDesc := ⟨0x10028, 0x0, 1, 15, 8, .ro, 0x0, [], 0, 0xff, [], true, none⟩
def PWR_AONSTAT_held : FldDesc := ⟨0x10028, 0x0, 1, 7, 0, .ro, 0x0, [], 0, 0xff, [], true, none⟩
def PWR_RAIL_ondly : FldDesc := ⟨0x10100, 0x8, 12, 63, 48, .rwl, 0x64, [100, 200, 1000, 1100, 500, 400, 600, 700, 800, 900, 300, 0], 0, 0xffff, [], true, (some 0x400008)⟩
def PWR_RAIL_offdly : FldDesc := ⟨0x10100, 0x8, 12, 47, 32, .rwl, 0x64, [100, 90, 10, 0, 60, 70, 50, 40, 30, 20, 80, 110], 0, 0xffff, [], true, (some 0x400008)⟩
def PWR_RAIL_pgwin : FldDesc := ⟨0x10100, 0x8, 12, 31, 24, .rwl, 0xa, [], 1, 0xff, [], true, (some 0x400008)⟩
def PWR_RAIL_qual : FldDesc := ⟨0x10100, 0x8, 12, 23, 16, .rwl, 0xa, [], 1, 0xff, [], true, (some 0x400008)⟩
def PWR_RAIL_offth : FldDesc := ⟨0x10100, 0x8, 12, 11, 0, .rwl, 0x4b, [75, 85, 90, 90, 120, 250, 60, 90, 120, 330, 180, 180], 10, 0xfff, [], true, (some 0x400008)⟩
def PWR_RAILST_chatter : FldDesc := ⟨0x10200, 0x8, 12, 63, 48, .ro, 0x0, [], 0, 0xffff, [], false, none⟩
def PWR_RAILST_mv : FldDesc := ⟨0x10200, 0x8, 12, 31, 16, .ro, 0x0, [], 0, 0xffff, [], false, none⟩
def PWR_RAILST_state : FldDesc := ⟨0x10200, 0x8, 12, 2, 1, .ro, 0x2, [], 0, 0x3, [], false, none⟩
def PWR_RAILST_en : FldDesc := ⟨0x10200, 0x8, 12, 0, 0, .ro, 0x1, [], 0, 0x1, [], false, none⟩
def PWR_RST_asserted : FldDesc := ⟨0x10300, 0x4, 4, 31, 31, .ro, 0x0, [], 0, 0x1, [], false, none⟩
def PWR_RST_devrst : FldDesc := ⟨0x10300, 0x4, 4, 30, 30, .rwl, 0x1, [1, 1, 0, 0], 0, 0x1, [], true, (some 0x400008)⟩
def PWR_RST_mask : FldDesc := ⟨0x10300, 0x4, 4, 27, 16, .rwl, 0x70, [112, 896, 12, 4095], 0, 0xfff, [], true, (some 0x400008)⟩
def PWR_RST_stretch : FldDesc := ⟨0x10300, 0x4, 4, 15, 0, .rwl, 0x14, [20, 100, 1000, 10000], 1, 0xffff, [], true, (some 0x400008)⟩
def THM_CTL_tlimit : FldDesc := ⟨0x20000, 0x0, 1, 7, 0, .rw, 0x64, [], 60, 0x69, [], true, none⟩
def THM_STAT_hot : FldDesc := ⟨0x20004, 0x0, 1, 31, 24, .ro, 0x0, [], 0, 0xff, [], false, none⟩
def THM_STAT_hotsens : FldDesc := ⟨0x20004, 0x0, 1, 23, 20, .ro, 0x0, [], 0, 0xf, [], false, none⟩
def THM_STAT_lockout : FldDesc := ⟨0x20004, 0x0, 1, 19, 19, .ro, 0x0, [], 0, 0x1, [], false, none⟩
def THM_STAT_level : FldDesc := ⟨0x20004, 0x0, 1, 18, 16, .ro, 0x0, [], 0, 0x7, [], false, none⟩
def THM_XCFG_delta : FldDesc := ⟨0x20008, 0x0, 1, 15, 8, .rw, 0xf, [], 5, 0x28, [], true, none⟩
def THM_XCFG_hyst : FldDesc := ⟨0x20008, 0x0, 1, 7, 0, .rw, 0x3, [], 1, 0xa, [], true, none⟩
def THM_MEDCFG_backoff : FldDesc := ⟨0x2000c, 0x0, 1, 15, 8, .rw, 0x5f, [], 70, 0x69, [], true, none⟩
def THM_MEDCFG_defer : FldDesc := ⟨0x2000c, 0x0, 1, 7, 0, .rw, 0x55, [], 60, 0xff, [], true, none⟩
def THM_SUSPECT_suspect : FldDesc := ⟨0x20010, 0x0, 1, 15, 0, .ro, 0x0, [], 0, 0xffff, [], false, none⟩
def THM_MEDSTAT_backoff : FldDesc := ⟨0x20014, 0x0, 1, 31, 0, .ro, 0x0, [], 0, 0xffffffff, [], false, none⟩
def THM_SENS_disagree : FldDesc := ⟨0x20100, 0x8, 16, 63, 48, .ro, 0x0, [], 0, 0xffff, [], true, none⟩
def THM_SENS_max : FldDesc := ⟨0x20100, 0x8, 16, 23, 16, .ro, 0x0, [], 0, 0xff, [], false, none⟩
def THM_SENS_ctl : FldDesc := ⟨0x20100, 0x8, 16, 15, 8, .ro, 0x0, [], 0, 0xff, [], false, none⟩
def THM_SENS_reading : FldDesc := ⟨0x20100, 0x8, 16, 7, 0, .ro, 0x0, [], 0, 0xff, [], false, none⟩
def FWU_CTL_op : FldDesc := ⟨0x60000, 0x0, 1, 15, 12, .rw, 0x1, [], 0, 0xf, [1, 2, 3, 4], false, none⟩
def FWU_CTL_set : FldDesc := ⟨0x60000, 0x0, 1, 8, 8, .rw, 0x0, [], 0, 0x1, [], false, none⟩
def FWU_CTL_key : FldDesc := ⟨0x60000, 0x0, 1, 7, 0, .wo, 0x0, [], 0, 0xff, [0, 107], false, none⟩
def FWU_STAT_state : FldDesc := ⟨0x60004, 0x0, 1, 31, 28, .ro, 0x0, [], 0, 0xf, [], false, none⟩
def FWU_STAT_trial : FldDesc := ⟨0x60004, 0x0, 1, 8, 8, .ro, 0x0, [], 0, 0x1, [], true, none⟩
def FWU_STAT_pending : FldDesc := ⟨0x60004, 0x0, 1, 7, 6, .ro, 0x0, [], 0, 0x3, [], true, none⟩
def FWU_STAT_active : FldDesc := ⟨0x60004, 0x0, 1, 5, 5, .ro, 0x0, [], 0, 0x1, [], true, none⟩
def FWU_STAT_validb : FldDesc := ⟨0x60004, 0x0, 1, 3, 3, .ro, 0x0, [], 0, 0x1, [], true, none⟩
def FWU_STAT_valida : FldDesc := ⟨0x60004, 0x0, 1, 2, 2, .ro, 0x0, [], 0, 0x1, [], true, none⟩
def FWU_CFG_rtldrain : FldDesc := ⟨0x60008, 0x0, 1, 31, 16, .rw, 0x3e8, [], 10, 0xea60, [], true, none⟩
def FWU_CFG_idle : FldDesc := ⟨0x60008, 0x0, 1, 15, 8, .rw, 0x1e, [], 5, 0xff, [], true, none⟩
def FWU_RESULT_status : FldDesc := ⟨0x6000c, 0x0, 1, 31, 24, .ro, 0x0, [], 0, 0xff, [], false, none⟩
def FWU_RESULT_part : FldDesc := ⟨0x6000c, 0x0, 1, 23, 20, .ro, 0xf, [], 0, 0xf, [], false, none⟩
def FWU_RESULT_inst : FldDesc := ⟨0x6000c, 0x0, 1, 7, 0, .ro, 0x0, [], 0, 0xff, [], false, none⟩
def FWU_XFER_port : FldDesc := ⟨0x60010, 0x0, 1, 63, 62, .ro, 0x0, [], 0, 0x3, [], false, none⟩
def FWU_XFER_open : FldDesc := ⟨0x60010, 0x0, 1, 61, 61, .ro, 0x0, [], 0, 0x1, [], false, none⟩
def FWU_XFER_next : FldDesc := ⟨0x60010, 0x0, 1, 31, 0, .ro, 0x0, [], 0, 0xffffffff, [], false, none⟩
def FWU_ARB_minsvn : FldDesc := ⟨0x60018, 0x0, 1, 31, 16, .ro, 0x0, [], 0, 0xffff, [], true, none⟩
def FWU_ARB_fmtcur : FldDesc := ⟨0x60018, 0x0, 1, 15, 8, .ro, 0x0, [], 0, 0xff, [], true, none⟩
def FWU_PARTS_fromb : FldDesc := ⟨0x6001c, 0x0, 1, 3, 0, .ro, 0x0, [], 0, 0xf, [], false, none⟩
def FWU_SETA_version : FldDesc := ⟨0x60020, 0x0, 1, 63, 32, .ro, 0x0, [], 0, 0xffffffff, [], true, none⟩
def FWU_SETA_svn : FldDesc := ⟨0x60020, 0x0, 1, 31, 16, .ro, 0x0, [], 0, 0xffff, [], true, none⟩
def FWU_SETA_fmtw : FldDesc := ⟨0x60020, 0x0, 1, 15, 8, .ro, 0x0, [], 0, 0xff, [], true, none⟩
def FWU_SETB_version : FldDesc := ⟨0x60028, 0x0, 1, 63, 32, .ro, 0x0, [], 0, 0xffffffff, [], true, none⟩
def FWU_SETB_svn : FldDesc := ⟨0x60028, 0x0, 1, 31, 16, .ro, 0x0, [], 0, 0xffff, [], true, none⟩
def FWU_SETB_fmtw : FldDesc := ⟨0x60028, 0x0, 1, 15, 8, .ro, 0x0, [], 0, 0xff, [], true, none⟩
def TAL_CTL_clrall : FldDesc := ⟨0x50000, 0x0, 1, 1, 1, .wo, 0x0, [], 0, 0x1, [], false, none⟩
def TAL_CTL_snap : FldDesc := ⟨0x50000, 0x0, 1, 0, 0, .wo, 0x0, [], 0, 0x1, [], false, none⟩
def TAL_STAT_anyovf : FldDesc := ⟨0x50004, 0x0, 1, 1, 1, .ro, 0x0, [], 0, 0x1, [], false, none⟩
def TAL_STAT_pending : FldDesc := ⟨0x50004, 0x0, 1, 0, 0, .ro, 0x0, [], 0, 0x1, [], false, none⟩
def TAL_SNAPCFG_period : FldDesc := ⟨0x50008, 0x0, 1, 15, 0, .rw, 0x0, [], 0, 0xffff, [], false, none⟩
def TAL_SNAPSTAT_gen : FldDesc := ⟨0x50010, 0x0, 1, 63, 32, .ro, 0x0, [], 0, 0xffffffff, [], false, none⟩
def TAL_SNAPSTAT_src : FldDesc := ⟨0x50010, 0x0, 1, 2, 1, .ro, 0x0, [], 0, 0x3, [], false, none⟩
def TAL_SNAPSTAT_buf : FldDesc := ⟨0x50010, 0x0, 1, 0, 0, .ro, 0x0, [], 0, 0x1, [], false, none⟩
def TAL_SNAPT_ns : FldDesc := ⟨0x50018, 0x8, 2, 63, 0, .ro, 0x0, [], 0, 0xffffffffffffffff, [], false, none⟩
def TAL_TAGCFG_wings : FldDesc := ⟨0x50028, 0x0, 1, 31, 24, .rw, 0x0, [], 0, 0xff, [], false, none⟩
def TAL_TAGCFG_period : FldDesc := ⟨0x50028, 0x0, 1, 20, 16, .rw, 0x10, [], 8, 0x18, [], false, none⟩
def TAL_TAGSTAT_dropped : FldDesc := ⟨0x5002c, 0x0, 1, 31, 16, .ro, 0x0, [], 0, 0xffff, [], false, none⟩
def TAL_TAGSTAT_skipped : FldDesc := ⟨0x5002c, 0x0, 1, 15, 0, .ro, 0x0, [], 0, 0xffff, [], false, none⟩
def TAL_TAGHEAD_index : FldDesc := ⟨0x50030, 0x0, 1, 31, 0, .ro, 0x0, [], 0, 0xffffffff, [], false, none⟩
def TAL_TAGTAIL_index : FldDesc := ⟨0x50034, 0x0, 1, 31, 0, .rw, 0x0, [], 0, 0xffffffff, [], false, none⟩
def TAL_CFG_mode : FldDesc := ⟨0x51000, 0x8, 304, 63, 62, .rw, 0x0, [], 0, 0x3, [0, 1, 2], false, none⟩
def TAL_CFG_clr : FldDesc := ⟨0x51000, 0x8, 304, 61, 61, .wo, 0x0, [], 0, 0x1, [], false, none⟩
def TAL_CFG_event : FldDesc := ⟨0x51000, 0x8, 304, 55, 48, .rw, 0x0, [], 0, 0xff, [], false, none⟩
def TAL_CFG_thresh : FldDesc := ⟨0x51000, 0x8, 304, 15, 0, .rw, 0x0, [], 0, 0xffff, [], false, none⟩
def TAL_CNT_ovf : FldDesc := ⟨0x52000, 0x8, 304, 63, 63, .rw1c, 0x0, [], 0, 0x1, [], false, none⟩
def TAL_CNT_count : FldDesc := ⟨0x52000, 0x8, 304, 47, 0, .ro, 0x0, [], 0, 0xffffffffffff, [], false, none⟩
def TAL_SNAPVAL_value : FldDesc := ⟨0x53000, 0x8, 1024, 63, 0, .ro, 0x0, [], 0, 0xffffffffffffffff, [], false, none⟩

end D

/-- The registers of block GBL, in the order of its offset table. -/
def regsGbl : List RegRow := [
  ⟨"GBL_ID", 0x0, 0x0, 1, 64, [D.GBL_ID_vendor, D.GBL_ID_device, D.GBL_ID_stepping, D.GBL_ID_grade]⟩,
  ⟨"GBL_UID", 0x8, 0x0, 1, 64, [D.GBL_UID_uid]⟩,
  ⟨"GBL_CTL", 0x10, 0x0, 1, 32, [D.GBL_CTL_scrlock, D.GBL_CTL_clampclr, D.GBL_CTL_rstkey]⟩,
  ⟨"GBL_STAT", 0x14, 0x0, 1, 32, [D.GBL_STAT_breach, D.GBL_STAT_seated, D.GBL_STAT_degraded, D.GBL_STAT_pfail, D.GBL_STAT_state]⟩,
  ⟨"GBL_ISLRST", 0x18, 0x0, 1, 64, [D.GBL_ISLRST_held]⟩,
  ⟨"GBL_CLAMPCNT", 0x20, 0x0, 1, 32, [D.GBL_CLAMPCNT_count]⟩,
  ⟨"GBL_CLAMPLAST", 0x28, 0x0, 1, 64, [D.GBL_CLAMPLAST_src, D.GBL_CLAMPLAST_offset]⟩,
  ⟨"GBL_VTIME", 0x30, 0x0, 1, 64, [D.GBL_VTIME_ns]⟩,
  ⟨"GBL_CAP", 0x38, 0x0, 1, 64, [D.GBL_CAP_bytes]⟩,
  ⟨"GBL_SCRATCH", 0x40, 0x0, 1, 64, [D.GBL_SCRATCH_value]⟩,
  ⟨"GBL_WINGRST", 0x48, 0x0, 1, 32, [D.GBL_WINGRST_busy, D.GBL_WINGRST_wings]⟩]

/-- The registers of block PWR, in the order of its offset table. -/
def regsPwr : List RegRow := [
  ⟨"PWR_PGCTL", 0x10800, 0x0, 1, 32, [D.PWR_PGCTL_interval, D.PWR_PGCTL_measure]⟩,
  ⟨"PWR_PGSTAT", 0x10804, 0x0, 1, 32, [D.PWR_PGSTAT_cause, D.PWR_PGSTAT_meas, D.PWR_PGSTAT_mode]⟩,
  ⟨"PWR_PGPARAM", 0x10808, 0x0, 1, 64, [D.PWR_PGPARAM_eff, D.PWR_PGPARAM_frate, D.PWR_PGPARAM_pflush, D.PWR_PGPARAM_ereserve]⟩,
  ⟨"PWR_PGSLED", 0x10810, 0x0, 1, 64, [D.PWR_PGSLED_esrmax, D.PWR_PGSLED_iload, D.PWR_PGSLED_vmin]⟩,
  ⟨"PWR_PGCAP", 0x10818, 0x0, 1, 64, [D.PWR_PGCAP_esr, D.PWR_PGCAP_c]⟩,
  ⟨"PWR_PGEU", 0x10820, 0x0, 1, 32, [D.PWR_PGEU_eu]⟩,
  ⟨"PWR_PGFWD", 0x10824, 0x0, 1, 32, [D.PWR_PGFWD_lines]⟩,
  ⟨"PWR_PGBUD", 0x10828, 0x0, 1, 64, [D.PWR_PGBUD_bytes]⟩,
  ⟨"PWR_PGDIRTY", 0x10830, 0x0, 1, 64, [D.PWR_PGDIRTY_bytes]⟩,
  ⟨"PWR_PGMTIME", 0x10838, 0x0, 1, 64, [D.PWR_PGMTIME_ns]⟩,
  ⟨"PWR_PGFLUSH", 0x10840, 0x0, 1, 64, [D.PWR_PGFLUSH_bytes, D.PWR_PGFLUSH_us]⟩,
  ⟨"PWR_PGBRK", 0x10848, 0x0, 1, 32, [D.PWR_PGBRK_coarse, D.PWR_PGBRK_count]⟩,
  ⟨"PWR_PGBACK", 0x1084c, 0x0, 1, 32, [D.PWR_PGBACK_key]⟩,
  ⟨"PWR_SEQCTL", 0x10000, 0x0, 1, 32, [D.PWR_SEQCTL_lock]⟩,
  ⟨"PWR_SEQSTAT", 0x10004, 0x0, 1, 32, [D.PWR_SEQSTAT_state, D.PWR_SEQSTAT_attempts, D.PWR_SEQSTAT_en, D.PWR_SEQSTAT_good]⟩,
  ⟨"PWR_SEQCFG", 0x10008, 0x0, 1, 32, [D.PWR_SEQCFG_falltmo, D.PWR_SEQCFG_chatmax, D.PWR_SEQCFG_deglitch, D.PWR_SEQCFG_retries]⟩,
  ⟨"PWR_SEQFAULT", 0x1000c, 0x0, 1, 32, [D.PWR_SEQFAULT_offfail, D.PWR_SEQFAULT_railfail]⟩,
  ⟨"PWR_PFCFG", 0x10010, 0x0, 1, 64, [D.PWR_PFCFG_vinhi, D.PWR_PFCFG_vinok, D.PWR_PFCFG_vinth, D.PWR_PFCFG_deb, D.PWR_PFCFG_ebdeb]⟩,
  ⟨"PWR_PFSTAT", 0x10018, 0x0, 1, 32, [D.PWR_PFSTAT_cause, D.PWR_PFSTAT_rail, D.PWR_PFSTAT_lockout, D.PWR_PFSTAT_eb, D.PWR_PFSTAT_inok, D.PWR_PFSTAT_pfail]⟩,
  ⟨"PWR_SENSCFG", 0x1001c, 0x0, 1, 32, [D.PWR_SENSCFG_hubscale, D.PWR_SENSCFG_vinscale]⟩,
  ⟨"PWR_SENS", 0x10020, 0x0, 1, 64, [D.PWR_SENS_bank, D.PWR_SENS_vin]⟩,
  ⟨"PWR_AONSTAT", 0x10028, 0x0, 1, 32, [D.PWR_AONSTAT_fru, D.PWR_AONSTAT_dropped, D.PWR_AONSTAT_held]⟩,
  ⟨"PWR_RAILr", 0x10100, 0x8, 12, 64, [D.PWR_RAIL_ondly, D.PWR_RAIL_offdly, D.PWR_RAIL_pgwin, D.PWR_RAIL_qual, D.PWR_RAIL_offth]⟩,
  ⟨"PWR_RAILSTr", 0x10200, 0x8, 12, 64, [D.PWR_RAILST_chatter, D.PWR_RAILST_mv, D.PWR_RAILST_state, D.PWR_RAILST_en]⟩,
  ⟨"PWR_RSTk", 0x10300, 0x4, 4, 32, [D.PWR_RST_asserted, D.PWR_RST_devrst, D.PWR_RST_mask, D.PWR_RST_stretch]⟩]

/-- The registers of block MED, in the order of its offset table. -/
def regsMed : List RegRow := [
  ⟨"MED_CTL", 0xa0000, 0x0, 1, 32, [D.MED_CTL_bndlog, D.MED_CTL_ckpt]⟩,
  ⟨"MED_STAT", 0xa0004, 0x0, 1, 32, [D.MED_STAT_paused, D.MED_STAT_absent, D.MED_STAT_state]⟩,
  ⟨"MED_SCHED", 0xa0008, 0x0, 1, 64, [D.MED_SCHED_wsharemax, D.MED_SCHED_wsharemin, D.MED_SCHED_bestwait, D.MED_SCHED_maxsusp]⟩,
  ⟨"MED_BNDCFG", 0xa0010, 0x0, 1, 32, [D.MED_BNDCFG_partdepth, D.MED_BNDCFG_chdepth]⟩,
  ⟨"MED_APPCFG", 0xa0014, 0x0, 1, 32, [D.MED_APPCFG_open, D.MED_APPCFG_age]⟩,
  ⟨"MED_ROWTOK0", 0xa0018, 0x0, 1, 64, [D.MED_ROWTOK0_held]⟩,
  ⟨"MED_ROWTOK1", 0xa0020, 0x0, 1, 64, [D.MED_ROWTOK1_held]⟩,
  ⟨"MED_ROWUNAV0", 0xa0028, 0x0, 1, 64, [D.MED_ROWUNAV0_unav]⟩,
  ⟨"MED_ROWUNAV1", 0xa0030, 0x0, 1, 64, [D.MED_ROWUNAV1_unav]⟩,
  ⟨"MED_JRNLSEQ", 0xa0038, 0x0, 1, 64, [D.MED_JRNLSEQ_seq]⟩,
  ⟨"MED_JRNLFILL", 0xa0040, 0x0, 1, 32, [D.MED_JRNLFILL_pct]⟩,
  ⟨"MED_CKPT", 0xa0048, 0x0, 1, 64, [D.MED_CKPT_running, D.MED_CKPT_copy, D.MED_CKPT_s]⟩,
  ⟨"MED_RECON", 0xa0050, 0x0, 1, 64, [D.MED_RECON_count]⟩,
  ⟨"MED_SUSP", 0xa0058, 0x0, 1, 64, [D.MED_SUSP_count]⟩,
  ⟨"MED_BNDMISSn", 0xa0080, 0x8, 8, 64, [D.MED_BNDMISS_count]⟩,
  ⟨"MED_CHCTL", 0xa1000, 0x20, 32, 32, [D.MED_CHCTL_pause]⟩,
  ⟨"MED_CHSTAT", 0xa1004, 0x20, 32, 32, [D.MED_CHSTAT_dies, D.MED_CHSTAT_tdefer, D.MED_CHSTAT_pstate, D.MED_CHSTAT_busy]⟩,
  ⟨"MED_CHUCODE", 0xa1008, 0x20, 32, 64, [D.MED_CHUCODE_version, D.MED_CHUCODE_check]⟩,
  ⟨"MED_CHERR", 0xa1010, 0x20, 32, 64, [D.MED_CHERR_uncorr, D.MED_CHERR_corr]⟩]

/-- The registers of block CON, in the order of its offset table. -/
def regsCon : List RegRow := [
  ⟨"CON_CTL", 0xb0000, 0x0, 1, 32, [D.CON_CTL_metackpt, D.CON_CTL_scrubnow, D.CON_CTL_scrub, D.CON_CTL_drift, D.CON_CTL_wear]⟩,
  ⟨"CON_STAT", 0xb0004, 0x0, 1, 32, [D.CON_STAT_scrubbing, D.CON_STAT_ckpt, D.CON_STAT_spare]⟩,
  ⟨"CON_SHARE", 0xb0008, 0x0, 1, 32, [D.CON_SHARE_reb, D.CON_SHARE_bg]⟩,
  ⟨"CON_META", 0xb000c, 0x0, 1, 32, [D.CON_META_period]⟩,
  ⟨"CON_WEAR", 0xb0010, 0x0, 1, 64, [D.CON_WEAR_maxmoves, D.CON_WEAR_coldage, D.CON_WEAR_period, D.CON_WEAR_hotdelta]⟩,
  ⟨"CON_DRIFT", 0xb0018, 0x0, 1, 32, [D.CON_DRIFT_hyst, D.CON_DRIFT_period]⟩,
  ⟨"CON_DISTURB", 0xb001c, 0x0, 1, 32, [D.CON_DISTURB_thresh]⟩,
  ⟨"CON_SCRUB", 0xb0020, 0x0, 1, 32, [D.CON_SCRUB_cthresh, D.CON_SCRUB_retain, D.CON_SCRUB_days]⟩,
  ⟨"CON_RETIRE", 0xb0024, 0x0, 1, 32, [D.CON_RETIRE_minwidth, D.CON_RETIRE_diepct, D.CON_RETIRE_parttiles]⟩,
  ⟨"CON_SPARE", 0xb0028, 0x0, 1, 64, [D.CON_SPARE_free, D.CON_SPARE_headroom, D.CON_SPARE_lowpct]⟩,
  ⟨"CON_HEALTH", 0xb0030, 0x0, 1, 64, [D.CON_HEALTH_spare, D.CON_HEALTH_wear, D.CON_HEALTH_maxwear]⟩,
  ⟨"CON_ERRCNT", 0xb0038, 0x0, 1, 64, [D.CON_ERRCNT_recovered, D.CON_ERRCNT_lost, D.CON_ERRCNT_wvfail]⟩,
  ⟨"CON_RETCNT", 0xb0040, 0x0, 1, 64, [D.CON_RETCNT_channels, D.CON_RETCNT_dies, D.CON_RETCNT_parts, D.CON_RETCNT_tiles]⟩,
  ⟨"CON_REBUILD", 0xb0048, 0x0, 1, 64, [D.CON_REBUILD_state, D.CON_REBUILD_rows, D.CON_REBUILD_index]⟩,
  ⟨"CON_SCRUBPOS", 0xb0050, 0x0, 1, 64, [D.CON_SCRUBPOS_passes, D.CON_SCRUBPOS_pct, D.CON_SCRUBPOS_stripe]⟩,
  ⟨"CON_TSEL", 0xb0058, 0x0, 1, 32, [D.CON_TSEL_tile]⟩,
  ⟨"CON_LOSTCNT", 0xb005c, 0x0, 1, 32, [D.CON_LOSTCNT_count]⟩,
  ⟨"CON_TREC0", 0xb0060, 0x0, 1, 64, [D.CON_TREC0_word0]⟩,
  ⟨"CON_TREC1", 0xb0068, 0x0, 1, 64, [D.CON_TREC1_word1]⟩,
  ⟨"CON_LOSTSEL", 0xb0070, 0x0, 1, 32, [D.CON_LOSTSEL_page]⟩,
  ⟨"CON_THISTk", 0xb0100, 0x8, 32, 64, [D.CON_THIST_dies]⟩,
  ⟨"CON_DIEd", 0xb1000, 0x8, 256, 64, [D.CON_DIE_state, D.CON_DIE_nosusp, D.CON_DIE_parts, D.CON_DIE_temp, D.CON_DIE_wear, D.CON_DIE_tiles]⟩,
  ⟨"CON_DTABd_w", 0xb2000, 0x8, 1024, 64, [D.CON_DTAB_bin3, D.CON_DTAB_bin2, D.CON_DTAB_bin1, D.CON_DTAB_bin0]⟩,
  ⟨"CON_LOSTn", 0xb8000, 0x8, 4096, 64, [D.CON_LOST_valid, D.CON_LOST_tile, D.CON_LOST_line]⟩]

/-- The registers of block VIT, in the order of its offset table. -/
def regsVit : List RegRow := [
  ⟨"VIT_CTL", 0xc0000, 0x0, 1, 32, [D.VIT_CTL_autodis]⟩,
  ⟨"VIT_STAT", 0xc0004, 0x0, 1, 32, [D.VIT_STAT_loanbusy, D.VIT_STAT_disabled, D.VIT_STAT_loanways]⟩,
  ⟨"VIT_WAYCFG", 0xc0008, 0x0, 1, 32, [D.VIT_WAYCFG_window, D.VIT_WAYCFG_cthresh, D.VIT_WAYCFG_ucthresh, D.VIT_WAYCFG_maxdis]⟩,
  ⟨"VIT_LOANCFG", 0xc000c, 0x0, 1, 32, [D.VIT_LOANCFG_ways]⟩,
  ⟨"VIT_WINGINV", 0xc0010, 0x0, 1, 32, [D.VIT_WINGINV_busy, D.VIT_WINGINV_wings]⟩,
  ⟨"VIT_LOOKRES", 0xc0014, 0x0, 1, 32, [D.VIT_LOOKRES_ring, D.VIT_LOOKRES_slice, D.VIT_LOOKRES_set]⟩,
  ⟨"VIT_LOOKUP", 0xc0018, 0x0, 1, 64, [D.VIT_LOOKUP_addr]⟩,
  ⟨"VIT_WAYDISn", 0xc0020, 0x8, 4, 64, [D.VIT_WAYDIS_slice4n3, D.VIT_WAYDIS_slice4n2, D.VIT_WAYDIS_slice4n1, D.VIT_WAYDIS_slice4n0]⟩,
  ⟨"VIT_SERRs", 0xc0100, 0x10, 16, 64, [D.VIT_SERR_corr, D.VIT_SERR_uncorr, D.VIT_SERR_poisoned]⟩,
  ⟨"VIT_SOCCs", 0xc0108, 0x10, 16, 64, [D.VIT_SOCC_valid, D.VIT_SOCC_dirty, D.VIT_SOCC_loan]⟩]

/-- The registers of block CLO, in the order of its offset table. -/
def regsClo : List RegRow := [
  ⟨"CLO_CTL", 0xd0000, 0x0, 1, 32, [D.CLO_CTL_atompl]⟩,
  ⟨"CLO_STAT", 0xd0004, 0x0, 1, 32, [D.CLO_STAT_filtpct, D.CLO_STAT_dirpct, D.CLO_STAT_grantpct]⟩,
  ⟨"CLO_OBCFG", 0xd0008, 0x0, 1, 32, [D.CLO_OBCFG_linger]⟩,
  ⟨"CLO_AWAYREL", 0xd000c, 0x0, 1, 32, [D.CLO_AWAYREL_seat, D.CLO_AWAYREL_key]⟩,
  ⟨"CLO_GRANTS", 0xd0010, 0x0, 1, 64, [D.CLO_GRANTS_away, D.CLO_GRANTS_entries]⟩,
  ⟨"CLO_LOSS", 0xd0018, 0x0, 1, 64, [D.CLO_LOSS_fenceinc, D.CLO_LOSS_storelost, D.CLO_LOSS_swept]⟩,
  ⟨"CLO_ATOM", 0xd0020, 0x0, 1, 64, [D.CLO_ATOM_near, D.CLO_ATOM_home]⟩,
  ⟨"CLO_FILTER", 0xd0028, 0x0, 1, 64, [D.CLO_FILTER_backinv, D.CLO_FILTER_snoops]⟩]

/-- The registers of block CUR, in the order of its offset table. -/
def regsCur : List RegRow := [
  ⟨"CUR_CTL", 0xf0000, 0x0, 1, 32, [D.CUR_CTL_lock, D.CUR_CTL_reqsig]⟩,
  ⟨"CUR_STAT", 0xf0004, 0x0, 1, 32, [D.CUR_STAT_loadbusy, D.CUR_STAT_programs, D.CUR_STAT_cqwait, D.CUR_STAT_running]⟩,
  ⟨"CUR_LOADSRC", 0xf0008, 0x0, 1, 64, [D.CUR_LOADSRC_addr]⟩,
  ⟨"CUR_LOADLEN", 0xf0010, 0x0, 1, 32, [D.CUR_LOADLEN_bytes]⟩,
  ⟨"CUR_LOADCTL", 0xf0014, 0x0, 1, 32, [D.CUR_LOADCTL_go]⟩,
  ⟨"CUR_LOADRES", 0xf0018, 0x0, 1, 32, [D.CUR_LOADRES_status, D.CUR_LOADRES_id]⟩,
  ⟨"CUR_UNLOAD", 0xf001c, 0x0, 1, 32, [D.CUR_UNLOAD_id]⟩,
  ⟨"CUR_CALLCFG", 0xf0020, 0x0, 1, 32, [D.CUR_CALLCFG_deflimit]⟩,
  ⟨"CUR_HALL", 0xf0024, 0x0, 1, 32, [D.CUR_HALL_free]⟩,
  ⟨"CUR_RGNSEL", 0xf0028, 0x0, 1, 32, [D.CUR_RGNSEL_page]⟩,
  ⟨"CUR_ABORT", 0xf002c, 0x0, 1, 32, [D.CUR_ABORT_key, D.CUR_ABORT_ctx]⟩,
  ⟨"CUR_GKEYn", 0xf0040, 0x8, 4, 64, [D.CUR_GKEY_digest]⟩]

/-- The registers of block HST, in the order of its offset table. -/
def regsHst : List RegRow := [
  ⟨"HST_CTL", 0x2000000, 0x0, 1, 32, [D.HST_CTL_linkdis, D.HST_CTL_ewa]⟩,
  ⟨"HST_STAT", 0x2000004, 0x0, 1, 32, [D.HST_STAT_width, D.HST_STAT_speed, D.HST_STAT_mode, D.HST_STAT_memactive, D.HST_STAT_hpmode]⟩,
  ⟨"HST_ERR", 0x2000008, 0x0, 1, 64, [D.HST_ERR_hdmmiss, D.HST_ERR_poisonin, D.HST_ERR_notopen, D.HST_ERR_linkdown]⟩,
  ⟨"HST_EAB", 0x2000010, 0x0, 1, 32, [D.HST_EAB_used]⟩,
  ⟨"HST_GBASEn", 0x2000040, 0x8, 8, 64, [D.HST_GBASE_base]⟩]

/-- The registers of block ATQ, in the order of its offset table. -/
def regsAtq : List RegRow := [
  ⟨"ATQ_CFG", 0x1000c0, 0x100, 4096, 64, [D.ATQ_CFG_enable, D.ATQ_CFG_priv, D.ATQ_CFG_type, D.ATQ_CFG_order, D.ATQ_CFG_port, D.ATQ_CFG_vector, D.ATQ_CFG_ct]⟩,
  ⟨"ATQ_STAT", 0x1000c8, 0x100, 4096, 64, [D.ATQ_STAT_flushed, D.ATQ_STAT_overrun, D.ATQ_STAT_full, D.ATQ_STAT_packet, D.ATQ_STAT_nospace, D.ATQ_STAT_armed, D.ATQ_STAT_held, D.ATQ_STAT_count]⟩,
  ⟨"ATQ_ERR", 0x1000d0, 0x100, 4096, 64, [D.ATQ_ERR_corr, D.ATQ_ERR_uncorr, D.ATQ_ERR_dropped]⟩,
  ⟨"ATQ_CTL", 0x1000d8, 0x100, 4096, 32, [D.ATQ_CTL_reset, D.ATQ_CTL_close, D.ATQ_CTL_arm]⟩]

/-- The registers of block FAB, in the order of its offset table. -/
def regsFab : List RegRow := [
  ⟨"FAB_CTL", 0xe0000, 0x0, 1, 32, [D.FAB_CTL_enable]⟩,
  ⟨"FAB_STAT", 0xe0004, 0x0, 1, 32, [D.FAB_STAT_join, D.FAB_STAT_diam, D.FAB_STAT_members, D.FAB_STAT_seat, D.FAB_STAT_keeper, D.FAB_STAT_quorum, D.FAB_STAT_vtsync]⟩,
  ⟨"FAB_CFG", 0xe0008, 0x0, 1, 32, [D.FAB_CFG_kprio, D.FAB_CFG_autoseat, D.FAB_CFG_lkslot]⟩,
  ⟨"FAB_SEATCMD", 0xe000c, 0x0, 1, 32, [D.FAB_SEATCMD_busy, D.FAB_SEATCMD_op, D.FAB_SEATCMD_seat, D.FAB_SEATCMD_status, D.FAB_SEATCMD_key]⟩,
  ⟨"FAB_SEATUID", 0xe0010, 0x0, 1, 64, [D.FAB_SEATUID_uid]⟩,
  ⟨"FAB_FABID", 0xe0018, 0x0, 1, 64, [D.FAB_FABID_id]⟩,
  ⟨"FAB_EPOCH", 0xe0020, 0x0, 1, 64, [D.FAB_EPOCH_e]⟩,
  ⟨"FAB_KEEPER", 0xe0028, 0x0, 1, 64, [D.FAB_KEEPER_uid]⟩,
  ⟨"FAB_VTSET", 0xe0030, 0x0, 1, 64, [D.FAB_VTSET_ns]⟩,
  ⟨"FAB_VTSTAT", 0xe0038, 0x0, 1, 32, [D.FAB_VTSTAT_hostset, D.FAB_VTSTAT_offset]⟩,
  ⟨"FAB_GOPCTL", 0xe003c, 0x0, 1, 32, [D.FAB_GOPCTL_busy, D.FAB_GOPCTL_result, D.FAB_GOPCTL_op, D.FAB_GOPCTL_key]⟩,
  ⟨"FAB_BARRIER", 0xe0040, 0x0, 1, 32, [D.FAB_BARRIER_waiting, D.FAB_BARRIER_arrive]⟩,
  ⟨"FAB_ROUTESEL", 0xe0044, 0x0, 1, 32, [D.FAB_ROUTESEL_seat]⟩,
  ⟨"FAB_ROUTE", 0xe0048, 0x0, 1, 32, [D.FAB_ROUTE_reach, D.FAB_ROUTE_hops, D.FAB_ROUTE_valid, D.FAB_ROUTE_port2, D.FAB_ROUTE_port1, D.FAB_ROUTE_port0]⟩,
  ⟨"FAB_GOPARG", 0xe0050, 0x0, 1, 64, [D.FAB_GOPARG_value]⟩,
  ⟨"FAB_GOPIN", 0xe0058, 0x0, 1, 64, [D.FAB_GOPIN_value]⟩,
  ⟨"FAB_SNAPT", 0xe0060, 0x0, 1, 64, [D.FAB_SNAPT_ns]⟩,
  ⟨"FAB_BARGEN", 0xe0068, 0x0, 1, 64, [D.FAB_BARGEN_gen]⟩,
  ⟨"FAB_MEMUIDs", 0xe0100, 0x10, 64, 64, [D.FAB_MEMUID_uid]⟩,
  ⟨"FAB_MEMSTs", 0xe0108, 0x10, 64, 64, [D.FAB_MEMST_state, D.FAB_MEMST_hops, D.FAB_MEMST_epoch]⟩,
  ⟨"FAB_PCTL", 0xe1000, 0x20, 16, 32, [D.FAB_PCTL_crypt, D.FAB_PCTL_maxrate, D.FAB_PCTL_dis]⟩,
  ⟨"FAB_PSTAT", 0xe1004, 0x20, 16, 32, [D.FAB_PSTAT_state, D.FAB_PSTAT_nport, D.FAB_PSTAT_width, D.FAB_PSTAT_speed, D.FAB_PSTAT_enc]⟩,
  ⟨"FAB_PNBR", 0xe1008, 0x20, 16, 64, [D.FAB_PNBR_uid]⟩,
  ⟨"FAB_PERR", 0xe1010, 0x20, 16, 64, [D.FAB_PERR_crcerr, D.FAB_PERR_replays, D.FAB_PERR_retrains, D.FAB_PERR_tagfail, D.FAB_PERR_loopdrop, D.FAB_PERR_downs]⟩]

/-- The registers of block CIP, in the order of its offset table. -/
def regsCip : List RegRow := [
  ⟨"CIP_CTL", 0x80000, 0x0, 1, 32, [D.CIP_CTL_trngrst]⟩,
  ⟨"CIP_STAT", 0x80004, 0x0, 1, 32, [D.CIP_STAT_trng, D.CIP_STAT_engines]⟩,
  ⟨"CIP_ALARM", 0x80008, 0x0, 1, 32, [D.CIP_ALARM_mediamac, D.CIP_ALARM_trng, D.CIP_ALARM_noengine, D.CIP_ALARM_engout]⟩,
  ⟨"CIP_DUP", 0x80010, 0x0, 1, 64, [D.CIP_DUP_mismatch, D.CIP_DUP_restarts]⟩,
  ⟨"CIP_MACFAIL", 0x80018, 0x0, 1, 64, [D.CIP_MACFAIL_media, D.CIP_MACFAIL_jobs]⟩,
  ⟨"CIP_TRNG", 0x80020, 0x0, 1, 64, [D.CIP_TRNG_rct, D.CIP_TRNG_apt, D.CIP_TRNG_reseeds]⟩,
  ⟨"CIP_SLOTs", 0x80100, 0x8, 64, 64, [D.CIP_SLOT_state, D.CIP_SLOT_type, D.CIP_SLOT_source, D.CIP_SLOT_users, D.CIP_SLOT_kcv]⟩]

/-- The registers of block STG, in the order of its offset table. -/
def regsStg : List RegRow := [
  ⟨"STG_STAT", 0x90000, 0x0, 1, 32, [D.STG_STAT_ranges, D.STG_STAT_reinit, D.STG_STAT_state]⟩,
  ⟨"STG_ALARM", 0x90004, 0x0, 1, 32, [D.STG_ALARM_full, D.STG_ALARM_merge, D.STG_ALARM_tamper, D.STG_ALARM_nodeuc, D.STG_ALARM_tag, D.STG_ALARM_lineuc]⟩,
  ⟨"STG_GEOM", 0x90008, 0x0, 1, 64, [D.STG_GEOM_lines, D.STG_GEOM_mib]⟩,
  ⟨"STG_CNT", 0x90010, 0x0, 1, 64, [D.STG_CNT_tag, D.STG_CNT_node, D.STG_CNT_merge, D.STG_CNT_lineuc]⟩,
  ⟨"STG_WCOUNT", 0x90018, 0x0, 1, 64, [D.STG_WCOUNT_w]⟩,
  ⟨"STG_CCACHE", 0x90020, 0x0, 1, 64, [D.STG_CCACHE_hits, D.STG_CCACHE_misses]⟩,
  ⟨"STG_PSEL", 0x90028, 0x0, 1, 32, [D.STG_PSEL_page]⟩,
  ⟨"STG_PRANGEn", 0x91000, 0x8, 256, 64, [D.STG_PRANGE_valid, D.STG_PRANGE_level, D.STG_PRANGE_first]⟩]

/-- The registers of block INJ, in the order of its offset table. -/
def regsInj : List RegRow := [
  ⟨"INJ_CTL", 0x70000, 0x0, 1, 32, [D.INJ_CTL_lock, D.INJ_CTL_enable, D.INJ_CTL_quar, D.INJ_CTL_disarm]⟩,
  ⟨"INJ_STAT", 0x70004, 0x0, 1, 32, [D.INJ_STAT_armed]⟩,
  ⟨"INJ_FIRED", 0x70008, 0x0, 1, 64, [D.INJ_FIRED_count]⟩,
  ⟨"INJ_BIST", 0x70010, 0x0, 1, 32, [D.INJ_BIST_fail]⟩,
  ⟨"INJ_BISTINST", 0x70018, 0x0, 1, 64, [D.INJ_BISTINST_class, D.INJ_BISTINST_sub, D.INJ_BISTINST_inst]⟩,
  ⟨"INJ_DDRCORR", 0x70020, 0x0, 1, 64, [D.INJ_DDRCORR_ch1, D.INJ_DDRCORR_ch0]⟩,
  ⟨"INJ_SRAM", 0x70028, 0x0, 1, 64, [D.INJ_SRAM_corr, D.INJ_SRAM_uncorr, D.INJ_SRAM_lcorr, D.INJ_SRAM_lucorr]⟩,
  ⟨"INJ_PTk", 0x70100, 0x10, 8, 64, [D.INJ_PT_point, D.INJ_PT_sticky, D.INJ_PT_bits, D.INJ_PT_target]⟩,
  ⟨"INJ_POSk", 0x70108, 0x10, 8, 32, [D.INJ_POS_fixed, D.INJ_POS_pos]⟩,
  ⟨"INJ_PTCTLk", 0x7010c, 0x10, 8, 32, [D.INJ_PTCTL_fired, D.INJ_PTCTL_armed, D.INJ_PTCTL_disarm, D.INJ_PTCTL_arm]⟩]

/-- The registers of block REC, in the order of its offset table. -/
def regsRec : List RegRow := [
  ⟨"REC_CTL", 0x40000, 0x0, 1, 32, [D.REC_CTL_flush]⟩,
  ⟨"REC_STAT", 0x40004, 0x0, 1, 32, [D.REC_STAT_overflow, D.REC_STAT_writing, D.REC_STAT_unwritten]⟩,
  ⟨"REC_CFG", 0x40008, 0x0, 1, 32, [D.REC_CFG_wmark]⟩,
  ⟨"REC_IRQ", 0x4000c, 0x0, 1, 32, [D.REC_IRQ_ports, D.REC_IRQ_sev, D.REC_IRQ_coal]⟩,
  ⟨"REC_HEAD", 0x40010, 0x0, 1, 64, [D.REC_HEAD_seq]⟩,
  ⟨"REC_TAIL", 0x40018, 0x0, 1, 64, [D.REC_TAIL_seq]⟩,
  ⟨"REC_FLUSHED", 0x40020, 0x0, 1, 64, [D.REC_FLUSHED_seq]⟩,
  ⟨"REC_DROPPED", 0x40028, 0x0, 1, 64, [D.REC_DROPPED_count]⟩,
  ⟨"REC_RDSEQ", 0x40030, 0x0, 1, 64, [D.REC_RDSEQ_seq]⟩,
  ⟨"REC_RDSTAT", 0x40038, 0x0, 1, 32, [D.REC_RDSTAT_busy]⟩,
  ⟨"REC_SNAPSEQ", 0x40040, 0x0, 1, 64, [D.REC_SNAPSEQ_seq]⟩,
  ⟨"REC_SRCs", 0x41000, 0x4, 1280, 32, [D.REC_SRC_count, D.REC_SRC_limit, D.REC_SRC_win]⟩]

/-- The registers of block LDG, in the order of its offset table. -/
def regsLdg : List RegRow := [
  ⟨"LDG_STAT", 0x30000, 0x0, 1, 32, [D.LDG_STAT_busy, D.LDG_STAT_reserve, D.LDG_STAT_supply, D.LDG_STAT_cmdbusy]⟩,
  ⟨"LDG_PROT", 0x30004, 0x0, 1, 32, [D.LDG_PROT_lock, D.LDG_PROT_level]⟩,
  ⟨"LDG_PGADDR", 0x30008, 0x0, 1, 32, [D.LDG_PGADDR_page]⟩,
  ⟨"LDG_PGCMD", 0x3000c, 0x0, 1, 32, [D.LDG_PGCMD_status, D.LDG_PGCMD_cmd]⟩,
  ⟨"LDG_TCCFG", 0x30010, 0x0, 1, 32, [D.LDG_TCCFG_count, D.LDG_TCCFG_base]⟩,
  ⟨"LDG_TCCMD", 0x30014, 0x0, 1, 32, [D.LDG_TCCMD_pair, D.LDG_TCCMD_cmd]⟩,
  ⟨"LDG_TCSTAT", 0x30018, 0x0, 1, 64, [D.LDG_TCSTAT_seq, D.LDG_TCSTAT_status, D.LDG_TCSTAT_equal, D.LDG_TCSTAT_both, D.LDG_TCSTAT_copy]⟩,
  ⟨"LDG_ERR", 0x30020, 0x0, 1, 64, [D.LDG_ERR_corr, D.LDG_ERR_uncorr, D.LDG_ERR_guardref]⟩,
  ⟨"LDG_ERRPAGE", 0x30028, 0x0, 1, 32, [D.LDG_ERRPAGE_page]⟩,
  ⟨"LDG_PGDATAw", 0x30100, 0x8, 32, 64, [D.LDG_PGDATA_data]⟩]

/-- The registers of block THM, in the order of its offset table. -/
def regsThm : List RegRow := [
  ⟨"THM_CTL", 0x20000, 0x0, 1, 32, [D.THM_CTL_tlimit]⟩,
  ⟨"THM_STAT", 0x20004, 0x0, 1, 32, [D.THM_STAT_hot, D.THM_STAT_hotsens, D.THM_STAT_lockout, D.THM_STAT_level]⟩,
  ⟨"THM_XCFG", 0x20008, 0x0, 1, 32, [D.THM_XCFG_delta, D.THM_XCFG_hyst]⟩,
  ⟨"THM_MEDCFG", 0x2000c, 0x0, 1, 32, [D.THM_MEDCFG_backoff, D.THM_MEDCFG_defer]⟩,
  ⟨"THM_SUSPECT", 0x20010, 0x0, 1, 32, [D.THM_SUSPECT_suspect]⟩,
  ⟨"THM_MEDSTAT", 0x20014, 0x0, 1, 32, [D.THM_MEDSTAT_backoff]⟩,
  ⟨"THM_SENSs", 0x20100, 0x8, 16, 64, [D.THM_SENS_disagree, D.THM_SENS_max, D.THM_SENS_ctl, D.THM_SENS_reading]⟩]

/-- The registers of block FWU, in the order of its offset table. -/
def regsFwu : List RegRow := [
  ⟨"FWU_CTL", 0x60000, 0x0, 1, 32, [D.FWU_CTL_op, D.FWU_CTL_set, D.FWU_CTL_key]⟩,
  ⟨"FWU_STAT", 0x60004, 0x0, 1, 32, [D.FWU_STAT_state, D.FWU_STAT_trial, D.FWU_STAT_pending, D.FWU_STAT_active, D.FWU_STAT_validb, D.FWU_STAT_valida]⟩,
  ⟨"FWU_CFG", 0x60008, 0x0, 1, 32, [D.FWU_CFG_rtldrain, D.FWU_CFG_idle]⟩,
  ⟨"FWU_RESULT", 0x6000c, 0x0, 1, 32, [D.FWU_RESULT_status, D.FWU_RESULT_part, D.FWU_RESULT_inst]⟩,
  ⟨"FWU_XFER", 0x60010, 0x0, 1, 64, [D.FWU_XFER_port, D.FWU_XFER_open, D.FWU_XFER_next]⟩,
  ⟨"FWU_ARB", 0x60018, 0x0, 1, 32, [D.FWU_ARB_minsvn, D.FWU_ARB_fmtcur]⟩,
  ⟨"FWU_PARTS", 0x6001c, 0x0, 1, 32, [D.FWU_PARTS_fromb]⟩,
  ⟨"FWU_SETA", 0x60020, 0x0, 1, 64, [D.FWU_SETA_version, D.FWU_SETA_svn, D.FWU_SETA_fmtw]⟩,
  ⟨"FWU_SETB", 0x60028, 0x0, 1, 64, [D.FWU_SETB_version, D.FWU_SETB_svn, D.FWU_SETB_fmtw]⟩]

/-- The registers of block TAL, in the order of its offset table. -/
def regsTal : List RegRow := [
  ⟨"TAL_CTL", 0x50000, 0x0, 1, 32, [D.TAL_CTL_clrall, D.TAL_CTL_snap]⟩,
  ⟨"TAL_STAT", 0x50004, 0x0, 1, 32, [D.TAL_STAT_anyovf, D.TAL_STAT_pending]⟩,
  ⟨"TAL_SNAPCFG", 0x50008, 0x0, 1, 32, [D.TAL_SNAPCFG_period]⟩,
  ⟨"TAL_SNAPSTAT", 0x50010, 0x0, 1, 64, [D.TAL_SNAPSTAT_gen, D.TAL_SNAPSTAT_src, D.TAL_SNAPSTAT_buf]⟩,
  ⟨"TAL_SNAPTb", 0x50018, 0x8, 2, 64, [D.TAL_SNAPT_ns]⟩,
  ⟨"TAL_TAGCFG", 0x50028, 0x0, 1, 32, [D.TAL_TAGCFG_wings, D.TAL_TAGCFG_period]⟩,
  ⟨"TAL_TAGSTAT", 0x5002c, 0x0, 1, 32, [D.TAL_TAGSTAT_dropped, D.TAL_TAGSTAT_skipped]⟩,
  ⟨"TAL_TAGHEAD", 0x50030, 0x0, 1, 32, [D.TAL_TAGHEAD_index]⟩,
  ⟨"TAL_TAGTAIL", 0x50034, 0x0, 1, 32, [D.TAL_TAGTAIL_index]⟩,
  ⟨"TAL_CFGn", 0x51000, 0x8, 304, 64, [D.TAL_CFG_mode, D.TAL_CFG_clr, D.TAL_CFG_event, D.TAL_CFG_thresh]⟩,
  ⟨"TAL_CNTn", 0x52000, 0x8, 304, 64, [D.TAL_CNT_ovf, D.TAL_CNT_count]⟩,
  ⟨"TAL_SNAPb_n", 0x53000, 0x8, 1024, 64, [D.TAL_SNAPVAL_value]⟩]

/-- The blocks of Table 10.8 by index of their 64 KiB page; block 16 and above are the queue pages, 256 the HST blocks (R315, R330). -/
def regBlock (off : Nat) : List RegRow :=
  if off < 0x100000 then
    match off / 0x10000 with
    | 0 => regsGbl | 1 => regsPwr | 2 => regsThm | 3 => regsLdg | 4 => regsRec | 5 => regsTal | 6 => regsFwu
    | 7 => regsInj | 8 => regsCip | 9 => regsStg | 10 => regsMed | 11 => regsCon | 12 => regsVit | 13 => regsClo
    | 14 => regsFab | _ => regsCur
  else if off < 0x200000 then regsAtq
  else if off < 0x2000000 then []
  else regsHst

end Sys2Proof.Machine
end

