-- ==== Sys2Proof/Machine/State.lean ====
section
/-! DEFINITION. The state of the device as plain data, its value at reset, and the reasons a step can stop. -/

namespace Sys2Proof.Machine

/-- Faults of the model itself. No command stops the model with a fault: every condition the spec names is an effect
on the state. The type is closed and empty. -/
inductive Fault where
  deriving DecidableEq, Repr

/-- Refusals. -/
inductive Refusal where
  /-- A command whose meaning is not written; raised by `exec` alone; safe. -/
  | notModelled (mnemonic : String)
  deriving DecidableEq, Repr

/-- The device. -/
structure State where
  /-- register fields of the management window and of the HST blocks, by key (`FldDesc.key`, `FldDesc.keyP`) -/
  regs : SMap Nat
  /-- events on their way to the registrar, oldest first (R422) -/
  evq : List Ev
  rgr : Registrar
  ports : SMap Port
  queues : SMap AQueue
  regions : SMap Region
  rops : List RgnOp
  coh : Coh
  med : Media
  cur : Cur
  /-- key slots that hold a key (R373) -/
  slots : SMap KeySlot
  keyOps : List KeyOp
  /-- requests the DRBG has served since its last reseed (R402) -/
  drbg : Nat
  gov : Gov
  led : Ledger
  stgE : Stg
  aon : Aon
  boot : Boot
  fab : Fab
  fw : Fw
  tal : Tally
  /-- the counters of the tally, which count whatever command runs (R514) -/
  tcnt : TallyCnt
  /-- what has left the device, newest first -/
  out : List Out
  /-- number of the next free value (MODEL) -/
  free : Nat
  /-- commands waiting, first in first out (MODEL) -/
  pending : List Instr
  deriving DecidableEq, Repr

/-- The registrar of a device that has never recorded (R422), waiting for its counter. -/
def Registrar.init : Registrar :=
  { running := false, held := [], buf := [], annal := [], wins := [], writing := none, dropPend := 0, readers := [],
    irqBusy := 0, irqDue := 0, step7 := none }

/-- The device right after power-on at its first start: every register at its Reset value, STARTING.
DESIGN CHOICE, log 1. DESIGN CHOICE, log 7. DESIGN CHOICE, log 8. DEDUCED, log 9. DESIGN CHOICE, log 10. -/
def State.reset : State :=
  { regs := [], evq := [], rgr := Registrar.init, ports := [], queues := [], regions := [], rops := [],
    coh := Coh.init, med := Media.init, cur := Cur.init, slots := [], keyOps := [], drbg := 0, gov := Gov.init,
    led := Ledger.init, stgE := Stg.init, aon := Aon.init, boot := Boot.init, fab := Fab.init,
    fw := Fw.init, tal := Tally.init, tcnt := TallyCnt.init, out := [], free := 0, pending := [] }

end Sys2Proof.Machine
end

