-- ==== Sys2Proof/Machine/Ops.lean ====
section
/-! DEFINITION. The shared operations: register fields, events, free values, what leaves the device, ports and MSI-X,
the seat of a line, counters that saturate. -/

namespace Sys2Proof.Machine

/-- What a step or a meaning answers. -/
abbrev Result := Host.Outcome State Fault Refusal

/-! Register fields: one home each, read and written here only. -/

/-- The value of copy `i` of a field. DESIGN CHOICE, log 13. -/
def State.rd (s : State) (f : FldDesc) (i : Nat := 0) : Nat := SMap.get (f.resetAt i) s.regs (f.key i)

/-- Sets copy `i` of a field, to its width. -/
def State.wr (s : State) (f : FldDesc) (v : Nat) (i : Nat := 0) : State :=
  { s with regs := SMap.put (f.resetAt i) s.regs (f.key i) (v % f.cap) }

/-- The value of a field of port `p`'s HST block. -/
def State.rdP (s : State) (f : FldDesc) (p : Nat) (i : Nat := 0) : Nat :=
  SMap.get (f.resetAt i) s.regs (f.keyP p i)

/-- Sets a field of port `p`'s HST block. -/
def State.wrP (s : State) (f : FldDesc) (p v : Nat) (i : Nat := 0) : State :=
  { s with regs := SMap.put (f.resetAt i) s.regs (f.keyP p i) (v % f.cap) }

/-- Adds to a counter that saturates at its field's maximum. -/
def State.addSat (s : State) (f : FldDesc) (n : Nat) (i : Nat := 0) : State :=
  s.wr f (min (f.cap - 1) (s.rd f i + n)) i

/-- Adds to a counter that wraps. -/
def State.addWrap (s : State) (f : FldDesc) (n : Nat) (i : Nat := 0) : State := s.wr f (s.rd f i + n) i

/-- Adds to a saturating counter of a port. -/
def State.addSatP (s : State) (f : FldDesc) (p n : Nat) : State :=
  s.wrP f p (min (f.cap - 1) (s.rdP f p + n))

/-- A one-bit field as a Bool. -/
def State.bit (s : State) (f : FldDesc) (i : Nat := 0) : Bool := decide (s.rd f i = 1)

/-- 1 for true. -/
def b2n (b : Bool) : Nat := if b then 1 else 0

/-- Vault time in ns (R362). -/
def State.now (s : State) : Nat := s.rd D.GBL_VTIME_ns

/-- The codes of GBL_STAT.state (Table 1.8). -/
def stStarting : Nat := 0
def stOpen : Nat := 1
def stFlushing : Nat := 2
def stResetting : Nat := 3
def stRomRecovery : Nat := 4

/-- GBL_STAT.state. -/
def State.phase (s : State) : Nat := s.rd D.GBL_STAT_state

/-- Whether the device is OPEN. -/
def State.isOpen (s : State) : Bool := decide (s.phase = stOpen)

/-- Whether a flush runs. -/
def State.isFlushing (s : State) : Bool := decide (s.phase = stFlushing)

/-- Whether a flush is at a step. -/
def State.atStep (s : State) (n : Nat) : Bool :=
  s.isFlushing && (match s.gov.flush with
    | some f => decide (f.step = n)
    | none => false)

/-- Whether the device accepts no store yet: the first measurement of the start has not ended (R65). -/
def State.storesClosed (s : State) : Bool := decide (s.phase = stStarting) && !s.gov.measured

/-- The last step of a start that has ended since VAUX became valid (R10). -/
def State.restoredTo (s : State) : Nat := max s.boot.restored (s.boot.step - 1)

/-! Routes and flits (R335 to R339, R353, R354). -/

/-- Fabric port `p`. -/
def State.fport (s : State) (p : Nat) : FPort := SMap.get FPort.init s.fab.ports p

/-- Replaces fabric port `p`. -/
def State.setFport (s : State) (p : Nat) (x : FPort) : State :=
  { s with fab := { s.fab with ports := SMap.put FPort.init s.fab.ports p x } }

/-- The ACTIVE ports with the neighbour of each. -/
def State.neighbours (s : State) : List (Nat × Nat) :=
  ((List.range 16).filter (fun p => decide (s.rd D.FAB_PSTAT_state p = 4))).map (fun p => (p, s.rd D.FAB_PNBR_uid p))

/-- One round of a breadth-first search: the devices first reached at distance `k + 1`. -/
def bfsRound (recs : SMap LinkRec) (k : Nat) (dist : SMap Nat) : SMap Nat :=
  recs.foldl (fun a e =>
    if SMap.has dist e.1 then a
    else if e.2.links.any (fun l => decide (SMap.find dist l.2.1 = some k)) then SMap.ins a e.1 (k + 1) else a) dist

/-- Distances from a device to the others, by paths that do not pass through this device. -/
def distancesFrom (recs : SMap LinkRec) (uid : Nat) : SMap Nat :=
  (List.range 64).foldl (fun a k => bfsRound recs k a) [(uid, 0)]

/-! Tally counters (R513 to R517). -/

/-- What a value `v` adds to counter `n` (R514). -/
def State.tallyStep (s : State) (n v : Nat) : Nat :=
  let m := s.rd D.TAL_CFG_mode n
  if m = 1 then v else if m = 2 then b2n (decide (s.rd D.TAL_CFG_thresh n < v)) else 0

/-- The counters once source `code` of a block delivers `v`: `first` and `k` are the block instance's counters (Table 19.1).
Counters stop at step 1 of a flush (R517). -/
def State.tallied (s : State) (first k code v : Nat) : TallyCnt :=
  if s.isFlushing then s.tcnt
  else (List.range k).foldl (fun c i =>
    if s.rd D.TAL_CFG_event (first + i) = code then c.add (first + i) (s.tallyStep (first + i) v) else c) s.tcnt

/-- A source delivers a value; nothing but the counters changes. -/
def State.tally (s : State) (first k code v : Nat) : State := { s with tcnt := s.tallied first k code v }

/-- Occurrences at a wing, a slice, a channel, a host port, a fabric agent, the warden, a DDR4 controller. -/
def State.tWing (s : State) (w code v : Nat) : State := s.tally (8 * w) 8 code v
def State.tSlice (s : State) (sl code v : Nat) : State := s.tally (64 + 4 * sl) 4 code v
def State.tChan (s : State) (c code v : Nat) : State := s.tally (128 + 4 * c) 4 code v
def State.tPort (s : State) (p code v : Nat) : State := s.tally (256 + 4 * p) 4 code v
def State.tAgent (s : State) (q code v : Nat) : State := s.tally (272 + 4 * q) 4 code v
def State.tWarden (s : State) (code v : Nat) : State := s.tally 288 8 code v
def State.tDdr (s : State) (n code v : Nat) : State := s.tally (296 + 4 * n) 4 code v

/-- Distance of this device to another, and the true distance of each neighbour to it; none where it is unreachable. -/
def State.distanceTo (s : State) (uid : Nat) : Option (Nat × List (Nat × Nat)) :=
  let dm := distancesFrom s.fab.recs uid
  let ns := s.neighbours
  match (ns.filterMap (fun e => SMap.find dm e.2)).min? with
  | none => none
  | some m => some (m + 1, ns.map (fun e => (e.1, min (m + 2) ((SMap.find dm e.2).getD (m + 2)))))

/-- The ports of routes 0 to 2 to a device (R354); none where a route would exceed 10 hops. -/
def State.routesTo (s : State) (uid : Nat) : List (Option Nat) :=
  match s.distanceTo uid with
  | none => []
  | some (d, ns) =>
    let at_ (k : Nat) : List (Nat × Nat) := ns.filter (fun e => decide (e.2 = k))
    ((at_ (d - 1) ++ at_ d ++ at_ (d + 1)).take 3).map (fun e => if e.2 + 1 ≤ 10 then some e.1 else none)

/-- Sends `n` flits that take sequence numbers: they wait where the replay buffer is full (R337). -/
def State.sendFlits (s : State) (p n : Nat) : State :=
  let x := s.fport p
  let k := min (256 - x.replay.length) (x.wait + n)
  s.setFport p { x with
    replay := x.replay ++ (List.range k).map (fun i => (x.tx + i) % 1024), tx := (x.tx + k) % 1024, wait := x.wait + n - k }

/-- A message of `w` words leaves on a port: 15 words a flit, and a TAG after each batch of an encrypted link (R342). -/
def State.sendWords (s : State) (p w : Nat) : State :=
  let n := (w + 14) / 15
  (s.tAgent (p / 4) 0x01 1).sendFlits p (if s.rd D.FAB_PSTAT_enc p = 1 then n + (n + 14) / 15 else n)

/-- The port an attempt toward a seat leaves on: where there are fewer routes, the last is used again (R213). -/
def State.routePort (s : State) (seat route : Nat) : Option Nat :=
  let rs := (s.routesTo (s.rd D.FAB_MEMUID_uid seat)).filterMap (fun x => x)
  rs[min (route - 1) (rs.length - 1)]?

/-- A message to a seat leaves on its route. -/
def State.sendTo (s : State) (seat route w : Nat) : State :=
  match s.routePort seat route with
  | some p => s.sendWords p w
  | none => s

/-- A message of a seat has come: it counts at the agent of the port that the first route to the seat leaves on.
DEDUCED, log 182. -/
def State.tHeard (s : State) (seat : Nat) : State := s.tAgent ((s.routePort seat 1).getD 0 / 4) 0x02 1

/-- A message leaves on every ACTIVE port. -/
def State.flood (s : State) (w : Nat) : State := s.neighbours.foldl (fun a e => a.sendWords e.1 w) s

/-- Words of a line message: a header of 4, 16 of data where it carries a line, 2 of mask for FWRITE (R339).
DESIGN CHOICE, log 141. -/
def fabWords (kind : FKind) (reply : Bool) : Nat :=
  if reply then (if kind = .lread ∨ kind = .lown ∨ kind = .fread ∨ kind = .fatomic then 20 else 4)
  else if kind = .fwrite then 22 else if kind = .dlv then 20 else 4

/-- A fabric message joins the flits of its port. -/
def State.frame (s : State) (o : Out) : State :=
  match o with
  | .fabReq seat _ _ kind _ _ _ _ route => s.sendTo seat route (fabWords kind false)
  | .fabReply seat _ _ kind _ _ _ => s.sendTo seat 1 (fabWords kind true)
  | .fabMsg _ (some seat) ws => s.sendTo seat 1 (4 + 2 * ws.length)
  | .fabMsg _ none ws => s.flood (4 + 2 * ws.length)
  | _ => s

/-! What leaves the device, events, free values. -/

/-- Poisoned read responses and completed mailbox commands are counted (Table 19.2); code 1 says that a background command has
only begun. -/
def State.outCount (s : State) (o : Out) : State :=
  match o with
  | .hostData p _ _ poison => s.tPort p 0x03 (b2n poison)
  | .mbox _ code _ => s.tWarden 0x01 (b2n (decide (code ≠ 1)))
  | _ => s

/-- Something leaves the device. -/
def State.emit (s : State) (o : Out) : State := (({ s with out := o :: s.out } : State).outCount o).frame o

/-- An event is held in the always-on queue, or dropped and counted where it is full (R458). -/
def State.holdAon (s : State) (e : Ev) : State :=
  if s.aon.held.length < 32 then
    ({ s with aon := { s.aon with held := s.aon.held ++ [e] } }).wr D.PWR_AONSTAT_held (s.aon.held.length + 1)
  else s.addSat D.PWR_AONSTAT_dropped 1

/-- A happening is sent to the registrar with its instance, secondary and principal values (R421, R548); in ROM_RECOVERY
the registrar does not run and the always-on queue holds it (R490). DEDUCED, log 12. -/
def State.log (s : State) (code inst aux arg : Nat) (inj : Bool := false) : State :=
  let e : Ev := ⟨code, inst % 65536, aux % 65536, arg % 2 ^ 64, s.now, inj⟩
  if s.phase = stRomRecovery then s.holdAon e else { s with evq := s.evq ++ [e] }

/-- Whether the registrar is not running for the always-on island (R458): the sequencer is not ON, the warden has not
started, the device is RESETTING, or a flush is in step 11. -/
def State.registrarDown (s : State) : Bool :=
  decide (s.rd D.PWR_SEQSTAT_state ≠ 3) || decide (s.boot.step < 3) || decide (s.phase = stResetting) ||
    (match s.gov.flush with
     | some f => decide (11 ≤ f.step)
     | none => false)

/-- A happening of the always-on island. -/
def State.logAon (s : State) (code inst aux arg : Nat) (inj : Bool := false) : State :=
  if s.registrarDown then s.holdAon ⟨code, inst % 65536, aux % 65536, arg % 2 ^ 64, s.now, inj⟩
  else s.log code inst aux arg inj

/-- A value the spec leaves open, never used before, and the state that has used it. -/
def State.fresh (s : State) : Word × State := (Config.freeValue s.free, { s with free := s.free + 1 })

/-! Ports and interrupts. -/

/-- Host port `p`. -/
def State.port (s : State) (p : Nat) : Port := SMap.get Port.init s.ports p

/-- Replaces host port `p`. -/
def State.setPort (s : State) (p : Nat) (x : Port) : State :=
  { s with ports := SMap.put Port.init s.ports p x }

/-- The mode of a port's link (Table 10.12): 0 down, 1 PCIe only, 2 CXL. -/
def State.portMode (s : State) (p : Nat) : Nat := s.rdP D.HST_STAT_mode p

/-- Whether a host port carries register accesses: its link is up and its configuration is loaded (R303, R304).
DEDUCED, log 49. -/
def State.regUp (s : State) (p : Nat) : Bool := decide (s.portMode p ≠ 0) && (s.port p).loaded

/-- Sends MSI-X vector `v` on port `p`: lost while the link is down, pending while masked (R327). -/
def State.sendMsix (s : State) (p v : Nat) : State :=
  if s.portMode p = 0 then s
  else
    let q := s.port p
    let e := SMap.get MsixVec.init q.msix v
    if e.masked then s.setPort p { q with msix := SMap.put MsixVec.init q.msix v { e with pending := true } }
    else s.emit (.msix p v)

/-- Atrium queue `n`. -/
def State.queue (s : State) (n : Nat) : AQueue := SMap.get AQueue.init s.queues n

/-- Replaces atrium queue `n`. -/
def State.setQueue (s : State) (n : Nat) (q : AQueue) : State :=
  { s with queues := SMap.put AQueue.init s.queues n q }

/-! Contexts. -/

/-- Context `c`. -/
def State.ctx (s : State) (c : Nat) : Ctx := SMap.get Ctx.init s.cur.ctxs c

/-- Replaces context `c`. -/
def State.setCtx (s : State) (c : Nat) (x : Ctx) : State :=
  { s with cur := { s.cur with ctxs := SMap.put Ctx.init s.cur.ctxs c x } }

/-! Lines and seats (R31). -/

/-- The line of a gallery address. -/
def lineOf (ga : Nat) : Nat := ga / 64

/-- The seat of a line. -/
def seatOf (gl : Nat) : Nat := gl / 2 ^ 38 % 64

/-- The local line number of a line: its local address divided by 64. -/
def llOf (gl : Nat) : Nat := gl % 2 ^ 37

/-- Logical tile, leaf in it and line in the leaf of a local line (Table 2.2). -/
def tileOf (ll : Nat) : Nat := ll / 256
def leafOf (ll : Nat) : Nat := ll / 4 % 64
def lineIn (ll : Nat) : Nat := ll % 4

/-- Granule of a local line. -/
def granuleOf (ll : Nat) : Nat := ll / 2 ^ 18

/-- User capacity in lines (R27). -/
def capLines : Nat := 0x70000000000 / 64

/-- Whether a gallery address is served: bit 43 clear and the local address in capacity (R32). -/
def gaValid (ga : Nat) : Bool := decide (ga < 2 ^ 50 ∧ ga / 2 ^ 43 % 2 = 0 ∧ ga % 2 ^ 43 < 0x70000000000)

/-- The device's own seat, when it holds one. DEDUCED, log 142. -/
def State.mySeat (s : State) : Option Nat :=
  if s.rd D.GBL_STAT_seated = 1 then some (s.rd D.FAB_STAT_seat) else none

/-- The seat part under which the device's own lines are named: its seat, or 64, no seat, while it holds none. -/
def State.ownSeat (s : State) : Nat := s.mySeat.getD 64

/-- Whether a line's home is this device. -/
def State.isLocal (s : State) (gl : Nat) : Bool := decide (gl / 2 ^ 38 = s.ownSeat)

/-- The gallery line of a local line of this device. -/
def State.glOf (s : State) (ll : Nat) : Nat := s.ownSeat * 2 ^ 38 + ll

/-! Bits and bytes. -/

/-- Merges the masked bytes of `new` over `old`. -/
def merge (old new : Line) (mask : LineMask) : Line :=
  (List.range 64).foldl (fun a k =>
    if mask.getLsbD k then
      (a &&& ~~~(0xFF#512 <<< (8 * k))) ||| ((new >>> (8 * k) &&& 0xFF#512) <<< (8 * k))
    else a) old

/-- Every byte of a line. -/
def fullMask : LineMask := BitVec.allOnes 64

/-- The mask of `n` bytes from byte `o`. -/
def maskOf (o n : Nat) : LineMask := BitVec.ofNat 64 ((2 ^ n - 1) * 2 ^ o)

/-- `n` bytes of a line from byte `o`, as a number (little-endian, R1). -/
def bytesAt (l : Line) (o n : Nat) : Nat := (l.toNat / 2 ^ (8 * o)) % 2 ^ (8 * n)

/-- A line that holds `v` in `n` bytes from byte `o` and zero elsewhere. -/
def lineOfBytes (v o n : Nat) : Line := BitVec.ofNat 512 ((v % 2 ^ (8 * n)) * 2 ^ (8 * o))

/-- Word `w` of a line. -/
def wordAt (l : Line) (w : Nat) : Nat := bytesAt l (8 * w) 8

/-- A line built from its eight words. -/
def lineOfWords (ws : List Nat) : Line :=
  BitVec.ofNat 512 (ws.zipIdx.foldl (fun a e => a + (e.1 % 2 ^ 64) * 2 ^ (64 * e.2)) 0)

/-- Bits [hi:lo] of a number. -/
def bitsOf (v hi lo : Nat) : Nat := v / 2 ^ lo % 2 ^ (hi + 1 - lo)

/-- Number of one bits below `n`. -/
def popBelow (v n : Nat) : Nat := (List.range n).foldl (fun a k => a + v / 2 ^ k % 2) 0

/-! The drift table (Table 5.7). -/

/-- The field of CON_DTABd_w that holds a bin, and its copy. -/
def dtabField (b : Nat) : FldDesc :=
  if b % 4 = 0 then D.CON_DTAB_bin0 else if b % 4 = 1 then D.CON_DTAB_bin1 else if b % 4 = 2 then D.CON_DTAB_bin2 else D.CON_DTAB_bin3

/-- A drift table entry of a die (Table 5.7). DEDUCED, log 69. -/
def State.dtab (s : State) (d b : Nat) : Nat := s.rd (dtabField b) (d * 4 + b / 4)
def State.setDtab (s : State) (d b v : Nat) : State := s.wr (dtabField b) v (d * 4 + b / 4)

end Sys2Proof.Machine
end

