-- ==== Sys2Proof/Machine/Injection.lean ====
section
/-! DEFINITION. Error injection (R414 to R419): which slots fire at a check, the bits they invert, arming and disarming,
and the counts of the structures of R407 and of the on-chip arrays. -/

namespace Sys2Proof.Machine

/-! Targets (R417). -/

/-- Class A: a line's local address bits [42:6]. -/
def hitLine (ll t : Nat) : Bool := decide (t % 2 ^ 37 = 2 ^ 37 - 1 ∨ t % 2 ^ 37 = ll)

/-- Class A, for a check that covers the four lines of a leaf. -/
def hitLeaf (tile leaf t : Nat) : Bool := decide (t % 2 ^ 37 = 2 ^ 37 - 1 ∨ t % 2 ^ 37 / 4 = tile * 64 + leaf)

/-- Class P: a protected DDR4 line. -/
def hitProt (i t : Nat) : Bool := decide (t % 2 ^ 32 = 2 ^ 32 - 1 ∨ t % 2 ^ 32 = i)

/-- Class I: an instance and its sub-instance. -/
def hitInst (inst sub t : Nat) : Bool :=
  decide (t % 65536 = 65535 ∨ t % 65536 = inst) && decide (t / 65536 % 65536 = 65535 ∨ t / 65536 % 65536 = sub)

/-- Class I, where the point names no sub-instance. -/
def hitInst1 (inst t : Nat) : Bool := decide (t % 65536 = 65535 ∨ t % 65536 = inst)

/-! Bits (R416). -/

/-- `n` distinct positions out of the list, each chosen by the DRBG (a free value). -/
def State.pick (s : State) (n : Nat) (l : List Nat) : List Nat × State :=
  match n with
  | 0 => ([], s)
  | m + 1 =>
    if l = [] then ([], s)
    else
      let f := s.fresh
      let k := f.1.toNat % l.length
      let r := f.2.pick m (l.eraseIdx k)
      (l[k]?.getD 0 :: r.1, r.2)

/-- The positions a slot inverts in a unit of `unit` bits. DESIGN CHOICE, log 137. -/
def State.injPositions (s : State) (k unit : Nat) : List Nat × State :=
  let n := min unit (s.rd D.INJ_PT_bits k)
  if s.bit D.INJ_POS_fixed k then ((List.range n).map (fun i => (s.rd D.INJ_POS_pos k + i) % unit), s)
  else s.pick n (List.range unit)

/-- The mask of a list of positions. -/
def maskOfPositions (l : List Nat) : Nat := l.foldl (fun a p => a ^^^ 2 ^ p) 0

/-! Firing (R414, R415, R419). -/

/-- The armed slots of a point whose target matches. -/
def State.injSlots (s : State) (point : Nat) (hit : Nat → Bool) : List Nat :=
  (List.range 8).filter (fun k => s.bit D.INJ_PTCTL_armed k && decide (s.rd D.INJ_PT_point k = point) &&
    hit (s.rd D.INJ_PT_target k))

/-- Disarms a slot. -/
def State.injDisarm (s : State) (k : Nat) : State :=
  (s.wr D.INJ_PTCTL_armed 0 k).wr D.INJ_STAT_armed (s.rd D.INJ_STAT_armed &&& (255 - 2 ^ k))

/-- Disarms every slot. -/
def State.injDisarmAll (s : State) : State := (List.range 8).foldl State.injDisarm s

/-- Arms a slot (R414): ignored while injection is off, the device is not OPEN or the point is undefined. -/
def State.injArm (s : State) (k : Nat) : State :=
  if s.bit D.INJ_CTL_enable = false ∨ s.isOpen = false ∨ s.rd D.INJ_PT_point k = 0 ∨ 0x17 < s.rd D.INJ_PT_point k then s
  else ((s.wr D.INJ_PTCTL_armed 1 k).wr D.INJ_PTCTL_fired 0 k).wr D.INJ_STAT_armed (s.rd D.INJ_STAT_armed ||| 2 ^ k)

/-- A slot fires: counted, logged with the slot, the point and the target, and disarmed when one-shot. -/
def State.injFired (s : State) (k : Nat) : State :=
  let s1 := ((s.addWrap D.INJ_FIRED_count 1).addSat D.INJ_PTCTL_fired 1 k).log E.INJ_FIRED k (s.rd D.INJ_PT_point k)
    (s.rd D.INJ_PT_target k)
  if s.bit D.INJ_PT_sticky k then s1 else s1.injDisarm k

/-- What injection does to one check: the inverted bits of the unit, and whether any slot fired. -/
structure Injected where
  mask : Nat
  fired : Bool
  deriving DecidableEq, Repr

/-- Injection at a check of a point over a unit of `unit` bits (0 for a forced event): inversions combine by XOR. -/
def State.inject (s : State) (point : Nat) (hit : Nat → Bool) (unit : Nat) : Injected × State :=
  (s.injSlots point hit).foldl (fun a k =>
    let p := a.2.injPositions k unit
    (⟨a.1.mask ^^^ maskOfPositions p.1, true⟩, p.2.injFired k)) (⟨0, false⟩, s)

/-- A packet received on a host link (injection point 0x14): PCIe replays a corrupted one. -/
def State.tlpIn (s : State) (p : Nat) : State := (s.inject 0x14 (hitInst1 p) 1).2

/-- Whether a detection is kept out of thresholds and retirement (R418). -/
def State.quarantined (s : State) (fired : Bool) : Bool := fired && s.bit D.INJ_CTL_quar

/-! The line code (R192, R416): one byte of 12 bits is the unit; further bits go to the following bytes. -/

/-- Adds an inversion of a byte's codeword. -/
def addByteFlip (l : List (Nat × BitVec 12)) (b : Nat) (m : BitVec 12) : List (Nat × BitVec 12) :=
  match l with
  | [] => if m = 0 then [] else [(b, m)]
  | (b', m') :: t => if b = b' then (b, m' ^^^ m) :: t else (b', m') :: addByteFlip t b m

/-- Two sets of flips together. -/
def Flips.join (f g : Flips) : Flips := ⟨g.bytes.foldl (fun a e => addByteFlip a e.1 e.2) f.bytes, f.crc ^^^ g.crc⟩

/-- The flips of one slot on a line: the first byte is open, and a free value chooses it. -/
def State.injByteFlips (s : State) (k : Nat) : Flips × State :=
  let f := s.fresh
  let b := f.1.toNat % 64
  let n := s.rd D.INJ_PT_bits k
  let pos := s.rd D.INJ_POS_pos k % 12
  if s.bit D.INJ_POS_fixed k then
    (⟨(List.range n).foldl (fun a i =>
      addByteFlip a ((b + (pos + i) / 12) % 64) (BitVec.ofNat 12 (2 ^ ((pos + i) % 12)))) [], 0⟩, f.2)
  else
    let p := f.2.pick (n % 12) (List.range 12)
    let whole := (List.range (n / 12)).foldl (fun a i => addByteFlip a ((b + i) % 64) 0xFFF#12) []
    (⟨addByteFlip whole ((b + n / 12) % 64) (BitVec.ofNat 12 (maskOfPositions p.1)), 0⟩, p.2)

/-- Injection at a check of the line code: the flips with the slots' own added. -/
def State.injectLine (s : State) (point : Nat) (hit : Nat → Bool) (fl : Flips) : Flips × Bool × State :=
  (s.injSlots point hit).foldl (fun a k =>
    let p := a.2.2.injByteFlips k
    (Flips.join a.1 p.1, true, p.2.injFired k)) (fl, false, s)

end Sys2Proof.Machine
end

