-- ==== Sys2Proof/Machine/Codes.lean ====
section
/-! DEFINITION. The check codes of a cached line (R192 to R194) and the placement of a line (R18, R182). -/

namespace Sys2Proof.Machine

/-- One byte of the CRC-16 of R192: generator 0x1021, most significant bit first. -/
def crcStep (c : BitVec 16) (b : BitVec 8) : BitVec 16 :=
  (List.range 8).foldl (fun a _ => if a.msb then (a <<< 1) ^^^ 0x1021#16 else a <<< 1)
    (c ^^^ ((b.setWidth 16) <<< 8))

/-- The CRC-16 of a line: initial value zero, bytes 0 to 63 (R192). -/
def crc16 (l : Line) : BitVec 16 :=
  (List.range 64).foldl (fun c k => crcStep c ((l >>> (8 * k)).setWidth 8)) 0

/-- One byte of the CRC-32 of R336, reflected. -/
def crc32Step (c : BitVec 32) (b : BitVec 8) : BitVec 32 :=
  (List.range 8).foldl (fun a _ => if a.getLsbD 0 then (a >>> 1) ^^^ 0xEDB88320#32 else a >>> 1) (c ^^^ b.setWidth 32)

/-- The CRC-32 of the low `n` bytes of a number, byte 0 first: generator 0x04C1_1DB7, reflected, initial value and final
XOR all ones (R336). -/
def crc32 (v n : Nat) : Nat :=
  (((List.range n).foldl (fun c k => crc32Step c (BitVec.ofNat 8 (v / 2 ^ (8 * k)))) 0xFFFFFFFF#32) ^^^ 0xFFFFFFFF#32).toNat

/-- The codeword positions of data bits 0 to 7 (R192). -/
def dataPos : List Nat := [3, 5, 6, 7, 9, 10, 11, 12]

/-- The four check bits of a byte, for codeword positions 1, 2, 4 and 8 (R192). -/
def hamming (b : BitVec 8) : BitVec 4 :=
  (dataPos.zipIdx).foldl (fun a e => if b.getLsbD e.2 then a ^^^ BitVec.ofNat 4 e.1 else a) 0

/-- Syndrome of the flipped positions of a codeword: the XOR of their numbers. -/
def syndrome (m : BitVec 12) : Nat :=
  (List.range 12).foldl (fun a k => if m.getLsbD k then a ^^^ (k + 1) else a) 0

/-- The positions still wrong after the correction the syndrome names. -/
def residual (m : BitVec 12) : BitVec 12 :=
  let y := syndrome m
  if 1 ≤ y ∧ y ≤ 12 then m ^^^ BitVec.ofNat 12 (2 ^ (y - 1)) else m

/-- The data bits of wrong positions. -/
def dataBits (m : BitVec 12) : BitVec 8 :=
  (dataPos.zipIdx).foldl (fun a e => if m.getLsbD (e.1 - 1) then a ||| BitVec.ofNat 8 (2 ^ e.2) else a) 0

/-- The outcomes of Table 6.4. -/
inductive Checked where
  | good (l : Line)
  | corrected (l : Line)
  | bad
  deriving DecidableEq, Repr

/-- The difference that stays in the line after every byte's correction. -/
def flipsLeft (f : Flips) : Line :=
  f.bytes.foldl (fun a e => a ^^^ ((dataBits (residual e.2)).setWidth 512 <<< (8 * e.1))) 0

/-- The read check of Table 6.4 on a line whose array shows the flips `f`; the CRC is linear (R192). -/
def readCheck (l : Line) (f : Flips) : Checked :=
  let ys := f.bytes.map (fun e => syndrome e.2)
  if ys.any (fun y => decide (13 ≤ y)) then .bad
  else if crc16 (flipsLeft f) ≠ f.crc then .bad
  else if ys.any (fun y => decide (y ≠ 0)) then .corrected (l ^^^ (flipsLeft f))
  else .good (l ^^^ (flipsLeft f))

/-- Home slice of a line (R182). -/
def sliceOf (gl : Nat) : Nat := (List.range 11).foldl (fun a k => a ^^^ (gl / 2 ^ (4 * k) % 16)) 0

/-- Vitrine set of a line (R182). -/
def vitSet (gl : Nat) : Nat := gl / 16 % 3072

/-- Cloister ring of a line: the parity of gallery address bits [17:6] (R18). -/
def ringOf (gl : Nat) : Nat := popBelow gl 12 % 2

/-- The quadrant a media request of a tile is first sent to (Chapter 4). -/
def quadOf (tile : Nat) : Nat := tile % 4

end Sys2Proof.Machine
end

