-- ==== Sys2Proof/Machine/Regions.lean ====
section
/-! DEFINITION. The region of an access (R38, R49), the attribute rules of R40 and R41, and the table entry's words. -/

namespace Sys2Proof.Machine

/-- Region table entry `n`, as committed. -/
def State.region (s : State) (n : Nat) : Region := SMap.get (Region.init n) s.regions n

/-- Replaces region table entry `n`. -/
def State.setRegion (s : State) (n : Nat) (r : Region) : State :=
  { s with regions := SMap.put (Region.init n) s.regions n r }

/-- The entry of region `n` as home slice `sl` sees it: the old one until the slice's switch point (R49). -/
def State.regionAt (s : State) (sl n : Nat) : Region :=
  match s.rops.find? (fun o => decide (o.region = n) && o.committed && !o.switched.getLsbD sl) with
  | some o => o.old
  | none => s.region n

/-- Whether an entry covers a granule (R38). -/
def Region.covers (r : Region) (g : Nat) : Bool :=
  decide (r.st ≠ .free) && decide (r.base ≤ g) && decide (g < r.base + r.size)

/-- Number of the region of a local line, resolved at its home slice (R38). -/
def State.regionNo (s : State) (gl : Nat) : Nat :=
  let sl := sliceOf gl
  let g := granuleOf (llOf gl)
  ((SMap.keys s.regions ++ s.rops.map RgnOp.region).find?
    (fun n => decide (n ≠ 0) && (s.regionAt sl n).covers g)).getD 0

/-- The region of a local line, resolved at its home slice. -/
def State.regionOf (s : State) (gl : Nat) : Region := s.regionAt (sliceOf gl) (s.regionNo gl)

/-- The attributes of a local line. -/
def State.attrOf (s : State) (gl : Nat) : Attr := (s.regionOf gl).attr

/-- Key slot encoding of a descriptor: 64 to 126 are undefined and become none (R40). -/
def fixKeyslot (k : Nat) : Nat := if 64 ≤ k ∧ k ≤ 126 then 127 else k

/-- Rule 1 of Table 2.4. -/
def Attr.rule1 (a : Attr) (n : Nat) : Attr :=
  if n = 0 then { a with append := false, sealable := false, light := false, keyslot := 127 } else a

/-- Rule 2 of Table 2.4. -/
def Attr.rule2 (a : Attr) : Attr := if a.sealable ∧ a.append = false then { a with sealable := false } else a

/-- Rule 3 of Table 2.4. -/
def Attr.rule3 (a : Attr) : Attr := if a.sealable ∧ a.light then { a with light := false } else a

/-- Rule 4 of Table 2.4. -/
def Attr.rule4 (a : Attr) : Attr := if a.loan ∧ a.wpol = .uc then { a with loan := false } else a

/-- The resolved attribute set of region `n` (R40, R41): each rule once, in order. -/
def Attr.resolve (a : Attr) (n : Nat) : Attr :=
  (((({ a with keyslot := fixKeyslot a.keyslot }).rule1 n).rule2).rule3).rule4

/-- The write policy of its encoding. -/
def wpolOf (v : Nat) : Wpol := if v = 0 then .wb else if v = 1 then .wt else if v = 2 then .wa else .uc

/-- The encoding of a write policy. -/
def Wpol.code : Wpol → Nat
  | .wb => 0
  | .wt => 1
  | .wa => 2
  | .uc => 3

/-- Attributes from word 2 of Table 2.5. -/
def attrOfWord (w : Nat) : Attr :=
  ⟨wpolOf (bitsOf w 15 14), w.testBit 13, w.testBit 12, w.testBit 11, w.testBit 10, bitsOf w 6 0, w.testBit 9,
    w.testBit 8⟩

/-- Attribute bits [15:0] of word 2. -/
def Attr.word (a : Attr) : Nat :=
  a.wpol.code * 2 ^ 14 + b2n a.light * 2 ^ 13 + b2n a.append * 2 ^ 12 + b2n a.bounded * 2 ^ 11 +
    b2n a.sealable * 2 ^ 10 + b2n a.ewa * 2 ^ 9 + b2n a.loan * 2 ^ 8 + a.keyslot

/-- Encoding of an entry's state. -/
def RgnSt.code : RgnSt → Nat
  | .free => 0
  | .live => 1
  | .deleting => 2

/-- Word `w` of region table entry `n` (Table 2.5). -/
def Region.word (r : Region) (n w : Nat) : Nat :=
  if w = 0 then r.st.code * 2 ^ 62 + n * 2 ^ 50 + r.base * 2 ^ 24
  else if w = 1 then r.size
  else if w = 2 then r.gen * 2 ^ 32 + r.attr.word
  else r.created

/-- The gallery address of a line. -/
def gaOf (gl : Nat) : Nat := gl * 64

end Sys2Proof.Machine
end

