-- ==== Sys2Proof/Machine/Tally.lean ====
section
/-! DEFINITION. The tally (Chapter 19): snapshots, clearing, instruction sampling. The counters themselves are in Ops. -/

namespace Sys2Proof.Machine

/-- The number of tally counters. -/
def tallyN : Nat := 304

/-- Whether a code is defined for counter `n`'s block (Table 19.2). -/
def tallyEvent (n code : Nat) : Bool :=
  let l := if n < 64 then [0, 1, 2, 3, 4, 5, 6, 7, 0x10, 0x11, 0x12]
    else if n < 128 then [0, 1, 2, 3, 4, 5, 0x10, 0x11]
    else if n < 256 then [0, 1, 2, 3, 4, 5, 0x10, 0x11]
    else if n < 288 then [0, 1, 2, 3, 4, 0x10, 0x11]
    else if n < 296 then [0, 1, 2, 3, 4]
    else [0, 1, 2, 3, 4, 0x10]
  l.contains code

/-- TALLY_CLEAR (R516). -/
def State.tallyClear (s : State) (n : Nat) : State := { s with tcnt := s.tcnt.clear n }

/-- TALLY_CLEAR_ALL (R516). -/
def State.tallyClearAll (s : State) : State := { s with tcnt := TallyCnt.init }

/-- What counter `n` reads: its count and its ovf bit. -/
def State.tallyWord (s : State) (n : Nat) : Nat := b2n (s.tcnt.ovf.getLsbD n) * 2 ^ 63 + SMap.get 0 s.tcnt.count n

/-- A carry of counter `n` is logged (R515). -/
def State.carryLog (s : State) (n : Nat) : State :=
  ({ s with tcnt := { s.tcnt with carry := s.tcnt.carry.erase n } } : State).log E.TAL_OVERFLOW n 0 0

/-- TALLY_OVERFLOW (R515): the carry of a counter is logged. Where none waits, a cycle delivers `v` of the selected source, and
carries beyond bit 47. DESIGN CHOICE, log 153. -/
def execTallyOverflow (n : Fin 304) (v : Nat) (s : State) : Result :=
  let d := s.tallyStep n v
  .next (if s.tcnt.carry.contains n.val then s.carryLog n
    else if s.isFlushing = false ∧ 2 ^ 48 ≤ SMap.get 0 s.tcnt.count n + d then
      ({ s with tcnt := s.tcnt.add n d } : State).carryLog n
    else s)

/-! Snapshots (R518 to R520). -/

/-- A snapshot is asked for by the host (0) or the period (1); ignored while one is pending (R519). -/
def State.tallyRequest (s : State) (src : Nat) : State :=
  if s.bit D.TAL_STAT_pending then s
  else { (s.wr D.TAL_STAT_pending 1) with tal := { s.tal with snap := some (src, s.now + 2000) } }

/-- The SNAPSHOT global operation asks for one at `t`: it waits behind a local one (R519). -/
def State.tallyFabric (s : State) (t : Nat) : State :=
  let s1 := s.wr D.TAL_STAT_pending 1
  if s.tal.snap.isSome then { s1 with tal := { s1.tal with next := some t } }
  else { s1 with tal := { s1.tal with snap := some (2, t) } }

/-- TALLY_PERIODIC (R518). -/
def execTallyPeriodic (s : State) : Result := .next (if s.rd D.TAL_SNAPCFG_period = 0 then s else s.tallyRequest 1)

/-- TALLY_LATCH (R518): every counter with its ovf bit, at T. -/
def execTallyLatch (s : State) : Result :=
  if s.tal.snap.isNone ∨ s.tal.latched.isSome then .next s
  else
    let vs := (List.range tallyN).map s.tallyWord
    .next { s with tal := { s.tal with latched := some vs } }

/-- TALLY_GATHER_DONE (R518): the older buffer becomes the newest. -/
def execTallyGatherDone (s : State) : Result :=
  match s.tal.snap, s.tal.latched with
  | some (src, t), some vs =>
    let b := 1 - s.rd D.TAL_SNAPSTAT_buf
    let s1 := vs.zipIdx.foldl (fun a e => a.wr D.TAL_SNAPVAL_value e.1 (512 * b + e.2)) s
    let s2 := (((s1.wr D.TAL_SNAPT_ns t b).wr D.TAL_SNAPSTAT_buf b).wr D.TAL_SNAPSTAT_src src).addWrap D.TAL_SNAPSTAT_gen 1
    let s3 := (s2.wr D.TAL_STAT_pending (b2n s.tal.next.isSome)).log E.TAL_SNAPSHOT 0 0 0
    .next { s3 with tal := { s3.tal with snap := s.tal.next.map (fun t' => (2, t')), next := none, latched := none } }
  | _, _ => .next s

/-! Instruction sampling (R521, R522). -/

/-- Draws the interval to a core's next tagged instruction: 1 to 2^(period + 1) − 1. -/
def State.tagDraw (s : State) (core : Nat) : State :=
  let f := s.fresh
  let n := f.1.toNat % (2 ^ (s.rd D.TAL_TAGCFG_period + 1) - 1)
  { f.2 with tal := { f.2.tal with left := SMap.ins f.2.tal.left core n } }

/-- Writes a sample record at the ring's head; dropped where the ring is full. -/
def State.tagRecord (s : State) (ws : List Nat) : State :=
  let h := s.rd D.TAL_TAGHEAD_index
  if (h + 2 ^ 32 - s.rd D.TAL_TAGTAIL_index) % 2 ^ 32 = 1024 then s.addSat D.TAL_TAGSTAT_dropped 1
  else
    let s1 : State := { s with tal := { s.tal with ring := SMap.ins s.tal.ring (h % 1024) ws } }
    s1.addWrap D.TAL_TAGHEAD_index 1

/-- TAG_SAMPLE_RECORD (R521, R522): an instruction of a core has retired (outcome 0), faulted (1) or been abandoned (2).
The cycles it waited and ran, its memory latency and data source are timing, and free values give them.
DEDUCED, log 154. -/
def State.sample (s : State) (c pc prog priv major outcome ea : Nat) : State :=
  let core := c / 4
  if s.isFlushing ∨ (s.rd D.TAL_TAGCFG_wings).testBit (c / 32) = false then s
  else match SMap.find s.tal.left core with
    | none => s.tagDraw core
    | some (n + 1) => if outcome = 0 then { s with tal := { s.tal with left := SMap.ins s.tal.left core n } } else s
    | some 0 =>
      let f := s.fresh
      let w0 := pc % 2 ^ 24 * 2 ^ 40 + prog % 1024 * 2 ^ 30 + c % 256 * 2 ^ 22 + priv % 4 * 2 ^ 20 + major % 64 * 2 ^ 14 +
        outcome % 8 * 2 ^ 11
      let w2 := f.1.toNat / 2 ^ 12 * 2 ^ 12
      ((f.2.tagRecord [w0, ea % 2 ^ 50, w2, s.now]).tagDraw core).tWing (c / 32) 0x07 1

end Sys2Proof.Machine
end

