-- ==== Sys2Proof/Machine/Lines.lean ====
section
/-! DEFINITION. The vitrine's ways, the wing caches, the charges and the governor's mode: the operations every access
shares. -/

namespace Sys2Proof.Machine

/-! Charges and the governor (R68 to R76). -/

/-- The dirty count D: the sum of all charges (R68), those of the grant table's own lines among them (R209). -/
def State.dirty (s : State) : Nat := (s.coh.chg.map Prod.snd).sum + 128 * s.coh.gdirty.length

/-- The charge of a line (Table 3.3). -/
def State.chargeOf (s : State) (gl : Nat) : Nat := if s.isLocal gl ∧ (s.attrOf gl).append then 64 else 128

/-- Whether a line carries a charge. -/
def State.charged (s : State) (gl : Nat) : Bool := SMap.has s.coh.chg gl

/-- Whether D and the charge of a line of the grant table fit the budget (R69, R209). -/
def State.grantFits (s : State) : Bool := decide (s.dirty + 128 ≤ s.rd D.PWR_PGBUD_bytes)

/-- Whether D and the charge of a line fit the budget (R69, R70). -/
def State.fits (s : State) (gl : Nat) : Bool := decide (s.dirty + s.chargeOf gl ≤ s.rd D.PWR_PGBUD_bytes)

/-- Whether the oldest store of a context waits for the budget: it would take ownership of another device's line, and the
line's charge does not fit (R69, R211). -/
def State.storeHeld (s : State) (c : Nat) (x : Ctx) : Bool :=
  match x.sb with
  | [] => false
  | e :: _ => !e.zline && !s.isLocal e.gl && s.mySeat.isSome && decide (s.rd D.FAB_MEMST_state (seatOf e.gl) ≠ 0) &&
      !s.charged e.gl && !s.fits e.gl && !s.coh.freqs.any (fun q => decide (q.2.gl = e.gl ∧ q.2.src = .store c))

/-- Whether an acceptance is waiting for the budget. -/
def State.holding (s : State) : Bool :=
  s.coh.txns.any (fun e => decide (e.2.phase = .hold)) || s.cur.ctxs.any (fun e => s.storeHeld e.1 e.2)

/-- Whether the spare state is WPROT (R155). -/
def State.wprot (s : State) : Bool := decide (s.rd D.CON_STAT_spare = 2)

/-- Whether the device is in LOWENERGY (R73). -/
def State.lowEnergy (s : State) : Bool := decide (s.rd D.PWR_PGSTAT_mode = 4)

/-- Whether a transition that charges a line is accepted now: one that raises D must fit the budget, and is refused in
LOWENERGY and WPROT (R69, R74, R155). -/
def State.mayCharge (s : State) (gl : Nat) : Bool :=
  s.charged gl || (!s.lowEnergy && !s.wprot && s.fits gl)

/-- The mode Table 3.4 gives for D and B, outside LOWENERGY and a flush. -/
def State.modeOf (s : State) : Nat :=
  let d := s.dirty
  let b := s.rd D.PWR_PGBUD_bytes
  if s.holding ∨ b < d + 64 then 3 else if d * 100 ≤ b * 75 then 0 else if d * 100 ≤ b * 90 then 1 else 2

/-- Every stripe builder closes, the oldest first (R138). -/
def closeAll (l : List Builder) : List Builder := l.map (fun b => { b with closing := true })

/-- The oldest stripe builder that is not closing closes (R136). -/
def closeOldest (l : List Builder) : List Builder :=
  match l with
  | [] => []
  | b :: r => if b.closing then b :: closeOldest r else { b with closing := true } :: r

/-- Re-evaluates the mode after a change of D or B (R70); each entry into HOLD logs PWR_PG_HOLD (R71), and each entry
into EVICT, or past it, closes the stripe builders (R138). -/
def State.govern (s : State) : State :=
  let m := s.rd D.PWR_PGSTAT_mode
  if m = 4 ∨ m = 5 then s
  else
    let n := s.modeOf
    let s1 := s.wr D.PWR_PGSTAT_mode n
    let s2 := if n = 3 ∧ m ≠ 3 then s1.log E.PWR_PG_HOLD 0 0 0 else s1
    if m = 0 ∧ n ≠ 0 then { s2 with med := { s2.med with builders := closeAll s2.med.builders } } else s2

/-- Charges a line that is not charged (R68). -/
def State.charge (s : State) (gl : Nat) : State :=
  if s.charged gl then s
  else ({ s with coh := { s.coh with chg := SMap.ins s.coh.chg gl (s.chargeOf gl) } }).govern

/-- Releases a line's charge. -/
def State.release (s : State) (gl : Nat) : State :=
  if s.charged gl then ({ s with coh := { s.coh with chg := SMap.del s.coh.chg gl } }).govern else s

/-! The vitrine (R179, R183, R189). -/

/-- Key of a way. -/
def wayKey (sl set w : Nat) : Nat := (sl * 3072 + set) * 16 + w

/-- Disabled-way field of a slice. -/
def wayDisField (sl : Nat) : FldDesc :=
  if sl % 4 = 0 then D.VIT_WAYDIS_slice4n0 else if sl % 4 = 1 then D.VIT_WAYDIS_slice4n1
  else if sl % 4 = 2 then D.VIT_WAYDIS_slice4n2 else D.VIT_WAYDIS_slice4n3

/-- Disabled ways of a slice, one bit each. -/
def State.waysOff (s : State) (sl : Nat) : Nat := s.rd (wayDisField sl) (sl / 4)

/-- Enabled ways of a slice, ascending. -/
def State.waysOn (s : State) (sl : Nat) : List Nat :=
  (List.range 16).filter (fun w => !(s.waysOff sl).testBit w)

/-- Loan ways of a slice: the highest-numbered enabled ways, at least 8 local ways staying (R189). -/
def State.loanWaysOf (s : State) (sl : Nat) : List Nat :=
  let on := s.waysOn sl
  on.drop (on.length - min s.coh.loanWays (on.length - 8))

/-- The way of a line and the line it holds, if the vitrine holds it. -/
def State.vfind (s : State) (gl : Nat) : Option (Nat × VLine) :=
  (List.range 16).findSome? (fun w =>
    match SMap.find s.coh.vit (wayKey (sliceOf gl) (vitSet gl) w) with
    | some v => if v.gl = gl then some (w, v) else none
    | none => none)

/-- Recency of a set, most recent first; ways never used come last, ascending. -/
def State.recency (s : State) (sl set : Nat) : List Nat :=
  let r := SMap.get [] s.coh.vrec (sl * 3072 + set)
  r ++ (List.range 16).filter (fun w => !r.contains w)

/-- Makes a way the most recent of its set (R183). -/
def State.touch (s : State) (gl w : Nat) : State :=
  let k := sliceOf gl * 3072 + vitSet gl
  { s with coh := { s.coh with
      vrec := SMap.ins s.coh.vrec k (w :: (s.recency (sliceOf gl) (vitSet gl)).filter (fun x => x ≠ w)) } }

/-- Writes a way. -/
def State.setWay (s : State) (gl w : Nat) (v : VLine) : State :=
  { s with coh := { s.coh with vit := SMap.ins s.coh.vit (wayKey (sliceOf gl) (vitSet gl) w) v } }

/-- Empties a way. -/
def State.dropWay (s : State) (gl w : Nat) : State :=
  { s with coh := { s.coh with vit := SMap.del s.coh.vit (wayKey (sliceOf gl) (vitSet gl) w) } }

/-- Drops a line from the vitrine. -/
def State.vdrop (s : State) (gl : Nat) : State :=
  match s.vfind gl with
  | some (w, _) => s.dropWay gl w
  | none => s

/-- Rewrites a line where the vitrine holds it. -/
def State.vmod (s : State) (gl : Nat) (f : VLine → VLine) : State :=
  match s.vfind gl with
  | some (w, v) => s.setWay gl w (f v)
  | none => s

/-- Whether a slice's eviction buffer has a free entry (R184). -/
def State.evbRoom (s : State) (sl : Nat) : Bool :=
  decide ((s.coh.evb.filter (fun e => decide (sliceOf e.gl = sl))).length < 32)

/-- Puts an entry into its slice's eviction buffer. -/
def State.evbPush (s : State) (e : EvEnt) : State := { s with coh := { s.coh with evb := s.coh.evb ++ [e] } }

/-- Whether a line has a request in progress at its home. -/
def State.busyLine (s : State) (gl : Nat) : Bool := SMap.has s.coh.txns gl

/-- Way counts of a way. -/
def State.wayCnt (s : State) (sl w : Nat) : WayCnt := SMap.get WayCnt.init s.coh.ways (sl * 16 + w)

/-- Sets the counts of a way. -/
def State.setWayCnt (s : State) (sl w : Nat) (c : WayCnt) : State :=
  { s with coh := { s.coh with ways := SMap.put WayCnt.init s.coh.ways (sl * 16 + w) c } }

/-- The loan ways of a slice once the change under way is over (R190). -/
def State.loanWaysNext (s : State) (sl : Nat) : List Nat :=
  let on := s.waysOn sl
  on.drop (on.length - min (s.rd D.VIT_LOANCFG_ways) (on.length - 8))

/-- The ways of a line's set that an allocation of the class may take, least recent first, empty ways first (R183). A way that
changes its class takes nothing until the change is over (R190). -/
def State.eligible (s : State) (gl : Nat) (loan : Bool) : List Nat :=
  let sl := sliceOf gl
  let ws := (s.recency sl (vitSet gl)).reverse.filter (fun w =>
    (s.waysOn sl).contains w && ((s.loanWaysOf sl).contains w == loan) &&
      (s.bit D.VIT_STAT_loanbusy == false || (s.loanWaysNext sl).contains w == loan) && !(s.wayCnt sl w).disabling &&
      (match SMap.find s.coh.vit (wayKey sl (vitSet gl) w) with
       | some v => !s.busyLine v.gl
       | none => true))
  ws.filter (fun w => !SMap.has s.coh.vit (wayKey sl (vitSet gl) w)) ++
    ws.filter (fun w => SMap.has s.coh.vit (wayKey sl (vitSet gl) w))

/-! The wing caches (R179, R180, R200). -/

/-- Wing and core of a context. -/
def wingOf (c : Nat) : Nat := c / 32
def coreOf (c : Nat) : Nat := c / 4

/-- Key of a wing's copy of a line. -/
def wlKey (w gl : Nat) : Nat := w * 2 ^ 44 + gl

/-- A wing's copy of a line; none is INVALID. -/
def State.wfind (s : State) (w gl : Nat) : Option WLine := SMap.find s.coh.wl (wlKey w gl)

/-- Sets a wing's copy. -/
def State.wset (s : State) (w gl : Nat) (l : WLine) : State :=
  { s with coh := { s.coh with wl := SMap.ins s.coh.wl (wlKey w gl) l } }

/-- Takes a line out of the L1 sets of a wing's cores, data and instruction. -/
def State.l1Purge (s : State) (w gl : Nat) : State :=
  { s with coh := { s.coh with
      l1d := SMap.mapVal (fun k l => if k / 1024 = w then l.filter (fun x => x ≠ gl) else l) s.coh.l1d
      l1i := SMap.mapVal (fun k l => if k / 1024 = w then l.filter (fun x => x.1 ≠ gl) else l) s.coh.l1i } }

/-- Invalidates a wing's copy, its L1 copies in the same operation (R180). -/
def State.wdrop (s : State) (w gl : Nat) : State :=
  ({ s with coh := { s.coh with
      wl := SMap.del s.coh.wl (wlKey w gl)
      l2 := SMap.mapVal (fun k l => if k / 1024 = w then l.filter (fun x => x ≠ gl) else l) s.coh.l2 } }).l1Purge w gl

/-- Makes a line the most recent of a core's L1 data set: 4 ways, exact LRU. -/
def State.l1dTouch (s : State) (core gl : Nat) : State :=
  let k := core * 128 + gl % 128
  let l := (SMap.get [] s.coh.l1d k).filter (fun x => x ≠ gl)
  { s with coh := { s.coh with l1d := SMap.ins s.coh.l1d k ((gl :: l).take 4) } }

/-- Whether a core's L1 data cache holds a line. -/
def State.inL1d (s : State) (core gl : Nat) : Bool := (SMap.get [] s.coh.l1d (core * 128 + gl % 128)).contains gl

/-- Puts a dirty line on its way home (R205); a line of another device is written into its loan way (R189). -/
def State.wbPush (s : State) (w gl : Nat) (l : WLine) : State :=
  if s.isLocal gl then { s with coh := { s.coh with wbq := s.coh.wbq ++ [⟨w, gl, l.data, l.poison⟩] } }
  else s.vmod gl (fun v => { v with data := l.data, poison := l.poison, dirty := true })

/-- A line held by an open stripe builder (R118, R137). -/
def State.builderLine (s : State) (ll : Nat) : Option Line :=
  s.med.builders.findSome? (fun b =>
    match b.slots.findIdx? (fun e => decide (e.1 = tileOf ll)) with
    | some k => SMap.find b.lines (k * 256 + ll % 256)
    | none => none)

/-- The dirty copy a wing holds of a line, if one does. -/
def State.wingDirty (s : State) (gl : Nat) : Option WLine :=
  (List.range 8).findSome? (fun w => match s.wfind w gl with
    | some l => if l.st = .modified then some l else none
    | none => none)

/-- Whether bytes of a local line that are not on media are held anywhere in the persistence domain (R58). -/
def State.dirtyAnywhere (s : State) (gl : Nat) : Bool :=
  (s.wingDirty gl).isSome || s.coh.wbq.any (fun e => decide (e.gl = gl)) ||
    (match SMap.find s.coh.txns gl with
     | some t => t.got.isSome
     | none => false) ||
    (match s.vfind gl with
     | some (_, v) => v.dirty
     | none => false) || s.coh.evb.any (fun e => decide (e.gl = gl)) || SMap.has s.med.stg (llOf gl) ||
    (s.builderLine (llOf gl)).isSome ||
    (List.range 4).any (fun p => (s.port p).eab.any (fun e => decide (lineOf e.ga = gl)))

/-- Whether a wing owns a line, so that a store can make it dirty at any time (Table 7.1). -/
def State.wingOwned (s : State) (gl : Nat) : Bool :=
  (List.range 8).any (fun w => match s.wfind w gl with
    | some l => decide (l.st ≠ .shared)
    | none => false)

/-- Releases the charge of a local line once no wing owns it and nothing holds bytes of it that are not on media: a charge
is carried by a line that holds such data (R68). DEDUCED, log 161. -/
def State.releaseClean (s : State) (gl : Nat) : State :=
  if s.isLocal gl = false ∨ s.wingOwned gl ∨ s.dirtyAnywhere gl then s else s.release gl

/-- A wing loses a copy whose bytes need go nowhere: one that was OWNED gives its charge back. -/
def State.wlose (s : State) (w gl : Nat) (l : WLine) : State :=
  if l.st = .shared then s.wdrop w gl else (s.wdrop w gl).releaseClean gl

/-- The read check of a wing's copy whose array shows the given flips (R194): the copy and the state, or none where it was clean and
is gone. Its errors are counted in the tally events and logged with the wing number in place of the slice (R199). `sub` names the
array. -/
def State.checkWingFlips (s : State) (w gl : Nat) (l : WLine) (fl : Flips) (inj : Bool) (sub : Nat) : Option WLine × State :=
  match readCheck l.data fl with
  | .good d => (some { l with data := d }, s)
  | .corrected d =>
    (some { l with data := d }, (s.wset w gl { l with data := d }).tWing w 0x05
      ((fl.bytes.filter (fun e => decide (e.2 ≠ 0))).length))
  | .bad =>
    let s1 := (s.log E.VIT_UNCORR w sub (gaOf gl) inj).tWing w 0x06 1
    if l.st = .modified then (some { l with poison := true }, s1.wset w gl { l with poison := true })
    else (none, s1.wlose w gl l)

/-- The read check of a wing's copy (R194). -/
def State.checkWing (s : State) (w gl : Nat) (l : WLine) (fl : Flips) (sub : Nat := 0) : Option WLine × State :=
  if l.poison then (some l, s)
  else
    let x := s.injectLine 0x08 (hitInst w sub) fl
    x.2.2.checkWingFlips w gl l x.1 x.2.1 sub

/-- What a narrow write does to a wing's copy before its bytes are written (R193): a wrong byte among those it enables has the whole
line checked. -/
def State.checkWingWrite (s : State) (w gl : Nat) (l : WLine) (mask : LineMask) (sub : Nat) : Option WLine × State :=
  if mask = fullMask ∨ l.poison then (some l, s)
  else
    let x := s.injectLine 0x08 (hitInst w sub) Flips.none
    if x.1.bytes.any (fun e => mask.getLsbD e.1 && decide (syndrome e.2 ≠ 0)) then x.2.2.checkWingFlips w gl l x.1 x.2.1 sub
    else (some l, x.2.2)

/-- A MODIFIED copy is read on its way out of its wing (R194). DESIGN CHOICE, log 177. -/
def State.wtake (s : State) (w gl : Nat) (l : WLine) : WLine × State :=
  let x := s.checkWing w gl l Flips.none
  (x.1.getD l, x.2)

/-- A wing drops its copy of a line; a MODIFIED copy goes home first. -/
def State.wevict (s : State) (w gl : Nat) : State :=
  match s.wfind w gl with
  | none => s
  | some l =>
    if l.st = .modified then
      let x := s.wtake w gl l
      (x.2.wbPush w gl x.1).wdrop w gl
    else s.wlose w gl l

/-! Breach (R94). -/

/-- Whether a local line lies in an unacknowledged breach range and was not rewritten whole since this start: it reads as
poison to every reader, whatever it holds (R94). -/
def State.breached (s : State) (gl : Nat) : Bool :=
  s.isLocal gl && s.gov.breach.any (fun b => decide (b.region ≠ 0xFFF ∧ b.tile ≤ tileOf (llOf gl) ∧
    tileOf (llOf gl) < b.tile + b.count)) && !s.coh.brkClean.contains gl

/-- What a reader gets of a line's content (R94). -/
def State.shown (s : State) (gl : Nat) (x : Line × Bool) : Line × Bool := if s.breached gl then (0, true) else x

/-- A whole-line write that is not poisoned ends the breach reading of the line for this start (R94). -/
def State.breachEnd (s : State) (gl : Nat) (mask : LineMask) (poison : Bool) : State :=
  if mask = fullMask ∧ poison = false ∧ s.breached gl then
    { s with coh := { s.coh with brkClean := s.coh.brkClean ++ [gl] } }
  else s

/-- Makes a line the most recent of its L2 set (8 ways, exact LRU), evicting the least recent beyond 8. -/
def State.l2Touch (s : State) (w gl : Nat) : State :=
  let k := w * 1024 + gl % 1024
  let l := gl :: (SMap.get [] s.coh.l2 k).filter (fun x => x ≠ gl)
  let s1 : State := { s with coh := { s.coh with l2 := SMap.ins s.coh.l2 k (l.take 8) } }
  match l[8]? with
  | some v => s1.wevict w v
  | none => s1

/-- Fills a wing's L2 with a line. -/
def State.wfill2 (s : State) (c gl : Nat) (l : WLine) : State := (s.wset (wingOf c) gl l).l2Touch (wingOf c) gl

/-- Fills a wing and a core's L1 data cache with a line. -/
def State.wfill (s : State) (c gl : Nat) (l : WLine) : State :=
  (s.wfill2 c gl l).l1dTouch (coreOf c) gl

/-! The wing filter (R202): 8,192 entries a slice in 8 ways. -/

/-- Filter set of a line in its slice. DESIGN CHOICE, log 112. -/
def filterSet (gl : Nat) : Nat := gl / 16 % 1024

/-- Whether the filter marks a line. -/
def State.filterHas (s : State) (gl : Nat) : Bool := s.coh.filter.contains gl

/-- Clears a line's filter entry. -/
def State.filterDel (s : State) (gl : Nat) : State :=
  { s with coh := { s.coh with filter := s.coh.filter.filter (fun x => x ≠ gl) } }

/-- Sets a line's filter entry. -/
def State.filterAdd (s : State) (gl : Nat) : State :=
  if s.filterHas gl then s else { s with coh := { s.coh with filter := s.coh.filter ++ [gl] } }

/-- The line a filter allocation must displace: the oldest of a full set. -/
def State.filterVictim (s : State) (gl : Nat) : Option Nat :=
  if s.filterHas gl then none
  else
    let l := s.coh.filter.filter (fun x => decide (sliceOf x = sliceOf gl ∧ filterSet x = filterSet gl))
    if 8 ≤ l.length then l.head? else none

/-! The line code of the structures of R407. -/

/-- The read check of line data in a structure of R407, numbered in its order: its outcome, counted in INJ_SRAM. None is
an uncorrectable line, which is fetched again where it is clean and poisoned where it is dirty (R407). -/
def State.checkStruct (s : State) (structure_ inst gl : Nat) (d : Line) (fl : Flips) : Option Line × State :=
  let x := s.injectLine 0x09 (hitInst structure_ inst) fl
  match readCheck d x.1 with
  | .good d' => (some d', x.2.2)
  | .corrected d' =>
    (some d', x.2.2.addSat D.INJ_SRAM_lcorr ((x.1.bytes.filter (fun e => decide (e.2 ≠ 0))).length))
  | .bad => (none, (x.2.2.addSat D.INJ_SRAM_lucorr 1).log E.VIT_UNCORR inst structure_ (gaOf gl) x.2.1)

end Sys2Proof.Machine
end

