-- ==== Sys2Proof/Machine/Leaf.lean ====
section
/-! DEFINITION. The physical leaf (R99 to R109, R379 to R381): stripes and members, building an image, decoding one. -/

namespace Sys2Proof.Machine

/-! Physical tiles and stripes (R99, R106). -/

def chanOf (p : Nat) : Nat := p / 2 ^ 24
def dieOf (p : Nat) : Nat := p / 2 ^ 21 % 8
def partOf (p : Nat) : Nat := p / 2 ^ 18 % 8
def indexOf (p : Nat) : Nat := p % 2 ^ 18

/-- Number of the partition of a physical tile: channel, die, partition. -/
def partKey (p : Nat) : Nat := p / 2 ^ 18

/-- Number of the die of a physical tile: channel × 8 + die. -/
def dieKey (p : Nat) : Nat := p / 2 ^ 21

/-- Stripe of a physical tile: half, die, partition, index. -/
def stripeOf (p : Nat) : Nat := chanOf p / 16 * 2 ^ 24 + p % 2 ^ 24

/-- Member number of a physical tile in its stripe. -/
def memberOf (p : Nat) : Nat := chanOf p % 16

/-- The physical tile of member `j` of a stripe. -/
def tileOfMember (st j : Nat) : Nat := (st / 2 ^ 24 * 16 + j) * 2 ^ 24 + st % 2 ^ 24

/-- Row of a stripe: its bits [24:18]. -/
def rowOf (st : Nat) : Nat := st / 2 ^ 18

/-- Partition of member `j` of a row. -/
def partOfRow (row j : Nat) : Nat := (row / 64 * 16 + j) * 64 + row % 64

/-- Row of a partition. -/
def rowOfPart (k : Nat) : Nat := k / 64 / 16 * 64 + k % 64

/-! The records of a part, a die, a channel, a tile and a stripe. -/

def State.part (s : State) (k : Nat) : Part := SMap.get Part.init s.med.parts k
def State.setPart (s : State) (k : Nat) (p : Part) : State :=
  { s with med := { s.med with parts := SMap.put Part.init s.med.parts k p } }
def State.chan (s : State) (c : Nat) : Chan := SMap.get Chan.init s.med.chans c
def State.setChan (s : State) (c : Nat) (x : Chan) : State :=
  { s with med := { s.med with chans := SMap.put Chan.init s.med.chans c x } }
def State.die (s : State) (d : Nat) : DieCnt := SMap.get DieCnt.init s.med.dies d
def State.setDie (s : State) (d : Nat) (x : DieCnt) : State :=
  { s with med := { s.med with dies := SMap.put DieCnt.init s.med.dies d x } }
def State.tile (s : State) (p : Nat) : TileRec := SMap.get { s.med.base with st := (TileRec.init p).st } s.med.tiles p
def State.setTile (s : State) (p : Nat) (t : TileRec) : State :=
  { s with med := { s.med with tiles := SMap.put { s.med.base with st := (TileRec.init p).st } s.med.tiles p t } }
/-- Members of a stripe that a rebuild of its row has made gone (R175), one bit each. -/
def State.rowGoneBits (s : State) (n : Nat) : BitVec 16 :=
  BitVec.ofNat 16 (((List.range 16).filter (fun j =>
    decide (n % 2 ^ 18 < SMap.get 0 s.med.rowGone (n / 2 ^ 18 * 16 + j)))).map (fun j => 2 ^ j)).sum

/-- A stripe's record. -/
def State.stripe (s : State) (n : Nat) : StripeRec :=
  let r := SMap.get (StripeRec.init n) s.med.stripes n
  if s.med.rowGone = [] then r else { r with gone := r.gone ||| s.rowGoneBits n }
def State.setStripe (s : State) (n : Nat) (r : StripeRec) : State :=
  { s with med := { s.med with stripes := SMap.put (StripeRec.init n) s.med.stripes n r } }

/-- Catalogue entry of a logical tile, as in effect. -/
def State.catEnt (s : State) (t : Nat) : CatEnt := SMap.get CatEnt.init s.med.cat t

/-- The image of a physical leaf; a leaf never written holds the zero image (R146, R151). -/
def State.image (s : State) (p n : Nat) : Image := SMap.get 0 s.med.img (p * 64 + n)

/-- Whether a physical leaf is leaf `u.pos` of a member of an open update. DEDUCED, log 94. -/
def Update.names (u : Update) (j p n : Nat) : Bool := decide (tileOfMember u.stripe j = p ∧ u.pos = n)

/-- The image of a physical leaf as a reader gets it: an open update's images are served from the channel buffers (R129); the
rewrite of a recovered leaf leaves its parity as stored. -/
def State.imageNow (s : State) (p n : Nat) : Image :=
  match s.med.updates.find? (fun u => u.names u.member p n || u.names (s.stripe u.stripe).ppos p n) with
  | some u => if u.names u.member p n then u.newData else if u.tile.isNone then s.image p n else u.newPar
  | none => s.image p n

/-- Vault time bits [61:30] (Table 5.1). -/
def tileTime (t : Nat) : Nat := t / 2 ^ 30 % 2 ^ 32

/-- The oldest leaf write that a tile still holds (Table 5.1): of its leaves written since it was taken for a logical tile, and,
for a tile that is not mapped, of those still as admission left them. -/
def State.oldestLeaf (s : State) (p : Nat) : Nat :=
  let l := (s.med.ltime.filter (fun e => decide (e.1 / 64 = p))).map (fun e => e.2 - 1)
  let b := if (s.tile p).st = 1 ∨ l.length = 64 then tileTime s.now else s.med.base.told
  l.foldl min b

/-- Writes a physical leaf, counting the write (R164) and its time (R145). -/
def State.putImage (s : State) (p n : Nat) (i : Image) : State :=
  let s1 : State := { s with med := { s.med with
    img := SMap.put 0 s.med.img (p * 64 + n) i, ltime := SMap.ins s.med.ltime (p * 64 + n) (tileTime s.now + 1) } }
  let t := s1.tile p
  (s1.tChan (chanOf p) 0x02 1).setTile p { t with wcount := min 0xFFFFFFFF (t.wcount + 1), tnew := tileTime s.now, told := s1.oldestLeaf p }

/-- A tile is taken for a logical tile: no leaf of it is held yet. -/
def State.forgetLeaves (s : State) (p : Nat) : State :=
  { s with med := { s.med with ltime := SMap.keep (fun k _ => decide (k / 64 ≠ p)) s.med.ltime } }

/-- Counts one array read of a leaf of a tile (R170): refresh is set when the threshold is reached. -/
def State.countRead (s : State) (p : Nat) : State :=
  let t := s.tile p
  let r := min 0xFFFFFF (t.rcount + 1)
  (s.tChan (chanOf p) 0x01 1).setTile p { t with rcount := r, refresh := t.refresh || decide (s.rd D.CON_DISTURB_thresh ≤ r) }

/-- Counts several array reads of a tile's leaves. -/
def State.countReads (s : State) (p k : Nat) : State := k.repeat (fun a => a.countRead p) s

/-! Members and availability (R109, R147, R174). -/

/-- Whether member `j` of a stripe is gone. -/
def StripeRec.isGone (r : StripeRec) (j : Nat) : Bool := r.gone.getLsbD j

/-- Members that are not gone. -/
def StripeRec.members (r : StripeRec) : List Nat := (List.range 16).filter (fun j => !r.isGone j)

/-- Whether a partition is gone from every stripe of its row: its rebuild has ended, or its die was absent at admission
(R151, R174). -/
def State.rebuilt (s : State) (k : Nat) : Bool :=
  decide (2 ^ 18 ≤ SMap.get 0 s.med.rowGone (rowOfPart k * 16 + k / 64 % 16))

/-- Whether a partition is failed, retired or awaiting rebuild, so that it cannot return (R109, R128). -/
def State.lostPart (s : State) (k : Nat) : Bool :=
  ((s.chan (k / 64)).gone || (s.die (k / 8)).retired || !(s.die (k / 8)).present || (s.part k).retired) && !s.rebuilt k

/-- Whether a partition is an unavailable member of its row (R109, R174). -/
def State.unavail (s : State) (k : Nat) : Bool :=
  let c := s.chan (k / 64)
  s.lostPart k || ((c.paused || c.backoff) && !s.rebuilt k)

/-- Whether new writes to a partition wait: its channel is in a pause, or its die's writes are deferred for temperature, which
a flush ends (R141, R142, R474). -/
def State.noWrite (s : State) (k : Nat) : Bool :=
  let c := s.chan (k / 64)
  c.paused || c.backoff || ((s.die (k / 8)).defer && !s.isFlushing)

/-- Unavailable members of a row. -/
def State.rowUnavail (s : State) (row : Nat) : List Nat := (List.range 16).filter (fun j => s.unavail (partOfRow row j))

/-! Keys and images. -/

/-- Bytes of a key slot's key. -/
def KeySlot.bytes (k : KeySlot) : Bytes := leBytes k.key.toNat (if k.type = .aes128 then 16 else 32)

/-- The device media key (R379). -/
def mediaKey : Bytes := kdf (leBytes Config.rootKey.toNat 32) "HTDM" 256

/-- Whether a logical tile is a system tile (R110). -/
def isSysTile (t : Nat) : Bool := decide (469762048 ≤ t)

/-- Base key of a logical tile's leaves, none where its slot is EMPTY (R376, R379). -/
def State.baseKey (s : State) (t : Nat) : Option Bytes :=
  let a := s.attrOf (s.glOf (t * 256))
  if isSysTile t ∨ a.keyslot = 127 then some mediaKey
  else (SMap.find s.slots a.keyslot).map KeySlot.bytes

/-- Whether a logical tile's region uses the LIGHT code. -/
def State.tileLight (s : State) (t : Nat) : Bool := !isSysTile t && (s.attrOf (s.glOf (t * 256))).light

/-- The spare share of codeword `n` of the LIGHT code: its first byte and its bytes (R103). -/
def lightSpare (n : Nat) : Nat × Nat :=
  if n = 0 then (256, 6) else if n = 1 then (262, 6) else if n = 2 then (268, 5) else (273, 5)

/-- Bytes `o` to `o + n - 1` of an image, as a number. -/
def imgBytes (i : Image) (o n : Nat) : Nat := i.toNat / 2 ^ (8 * o) % 2 ^ (8 * n)

/-- Check bytes of an image whose bytes 0 to 277 are `v` (Table 4.3). -/
def checkBytes (light : Bool) (v : Nat) : Nat :=
  if light then
    (List.range 4).foldl (fun a n =>
      let sp := lightSpare n
      let cov := v / 2 ^ (512 * n) % 2 ^ 512 + v / 2 ^ (8 * sp.1) % 2 ^ (8 * sp.2) * 2 ^ 512
      a + (Config.bchLight n (BitVec.ofNat 560 cov)).toNat * 2 ^ (40 * n)) 0
  else (Config.bchStrong (BitVec.ofNat 2224 v)).toNat

/-- The MAC of a leaf (R381): over tag and epoch, local address and ciphertext. -/
def leafMac (base : Bytes) (tile leaf tagEpoch : Nat) (ct : Bytes) : Nat :=
  ofLe (cmac (kdf base "HTMC" (8 * base.length))
    (leBytes tagEpoch 6 ++ leBytes ((tile * 64 + leaf) * 256) 8 ++ ct))

/-- The epoch field: vault time bits [57:42] (R104). -/
def epochOf (t : Nat) : Nat := t / 2 ^ 42 % 2 ^ 16

/-- The image of a leaf of a logical tile with the given plaintext (R102, R380, R381). -/
def buildImage (base : Bytes) (light : Bool) (tile leaf time : Nat) (plain : BitVec 2048) : Image :=
  let ct := xtsEnc base (kdf base "HTXT" (8 * base.length)) (leBytes (tile * 64 + leaf) 16) (leBytes plain.toNat 256)
  let te := (2 ^ 31 + tile) + epochOf time * 2 ^ 32
  let v := ofLe ct + te * 2 ^ 2048 + leafMac base tile leaf te ct * 2 ^ 2096
  BitVec.ofNat 2560 (v + checkBytes light v * 2 ^ 2224)

/-- The plaintext of an image. -/
def imagePlain (base : Bytes) (tile leaf : Nat) (i : Image) : BitVec 2048 :=
  BitVec.ofNat 2048 (ofLe (xtsDec base (kdf base "HTXT" (8 * base.length)) (leBytes (tile * 64 + leaf) 16)
    (leBytes (imgBytes i 0 256) 256)))

/-- Whether an image's tag has valid = 1 and names the tile (R105). -/
def tagOk (tile : Nat) (i : Image) : Bool := decide (imgBytes i 256 4 = 2 ^ 31 + tile)

/-- Whether an image's MAC verifies (R381). -/
def macOk (base : Bytes) (tile leaf : Nat) (i : Image) : Bool :=
  decide (imgBytes i 262 16 = leafMac base tile leaf (imgBytes i 256 6) (leBytes (imgBytes i 0 256) 256))

/-- Wrong bits of a read in each codeword of the code: data share, spare share and check bits (R102, R103). -/
def codewordErrors (light : Bool) (errs : Image) : List Nat :=
  if light then
    (List.range 4).map (fun n =>
      popBelow (imgBytes errs (64 * n) 64) 512 + popBelow (imgBytes errs (lightSpare n).1 (lightSpare n).2) 48 +
        popBelow (imgBytes errs (278 + 5 * n) 5) 40)
  else [popBelow errs.toNat 2560]

/-- Correction capacity (R103). -/
def codeT (light : Bool) : Nat := if light then 4 else 28

/-- Whether a read with wrong bits `errs` decodes. -/
def decodes (light : Bool) (errs : Image) : Bool := (codewordErrors light errs).all (fun e => decide (e ≤ codeT light))

/-- Most corrected bits in one codeword. -/
def corrected (light : Bool) (errs : Image) : Nat := (codewordErrors light errs).foldl max 0

/-- The XOR of the images of a stripe's members other than `j` that are not gone, at leaf `n` (R107, R147). -/
def State.xorOthers (s : State) (st j n : Nat) : Image :=
  ((s.stripe st).members.filter (fun k => k ≠ j)).foldl (fun a k => a ^^^ s.imageNow (tileOfMember st k) n) 0

end Sys2Proof.Machine
end

