-- ==== Sys2Proof/Machine/Logs.lean ====
section
/-! DEFINITION. The catalogue journal (R112 to R114), the conservator log (R149) and the lost-line list (R172): the
operations that create their entries. -/

namespace Sys2Proof.Machine

/-! Journal. -/

/-- Creates one journal entry of a group. -/
def State.jAdd (s : State) (type gcount gindex tile arg0 arg1 : Nat) : State :=
  { s with med := { s.med with
      jpend := s.med.jpend ++ [⟨s.med.jnext, type, gcount, gindex, tile, arg0, arg1⟩], jnext := s.med.jnext + 1 } }

/-- Creates a group of journal entries: type, tile, arg0 and arg1 of each. -/
def State.journalGroup (s : State) (l : List (Nat × Nat × Nat × Nat)) : State :=
  l.zipIdx.foldl (fun (a : State) (e : (Nat × Nat × Nat × Nat) × Nat) =>
    a.jAdd e.1.1 l.length e.2 e.1.2.1 e.1.2.2.1 e.1.2.2.2) s

/-- Creates a journal entry on its own. -/
def State.journal (s : State) (type tile arg0 arg1 : Nat) : State := s.jAdd type 1 0 tile arg0 arg1

/-- Makes something wait for the newest journal entry to reach media (R112). -/
def State.afterJournal (s : State) (r : Release) : State :=
  { s with med := { s.med with rels := s.med.rels ++ [(s.med.jnext - 1, r)] } }

/-- Whether an UNMAP entry that covers a tile waits for media: the tile reads as zero, whatever the catalogue still holds (R46,
R53). DEDUCED, log 32. -/
def State.unmapPending (s : State) (t : Nat) : Bool :=
  s.med.jpend.any (fun e => decide (e.type = 2 ∧ e.tile ≤ t ∧ t < e.tile + e.arg0))

/-- Whether a tile is about to be unmapped, so that nothing of it is written to media: an UNMAP entry waits, or the slices are
still switching to a created region (R46, R49). -/
def State.unmapDue (s : State) (t : Nat) : Bool :=
  s.unmapPending t || s.rops.any (fun o => decide (o.kind = .create ∧ o.switched ≠ BitVec.allOnes 16) && o.committed &&
    o.new.covers (t / 1024))

/-- Replaces a catalogue entry. -/
def State.setCat (s : State) (t : Nat) (e : CatEnt) : State :=
  { s with med := { s.med with cat := SMap.put CatEnt.init s.med.cat t e } }

/-- The effect of a journal entry on the catalogue (Table 4.7). DEDUCED, log 98. -/
def State.applyJ (s : State) (e : JEnt) : State :=
  let c := s.catEnt e.tile
  match e.type with
  | 1 => s.setCat e.tile { c with st := .mapped, phys := e.arg0 % 2 ^ 29, dst := 0, lossy := false,
                                  written := BitVec.ofNat 64 e.arg1 }
  | 2 => { s with med := { s.med with
            cat := SMap.keep (fun k _ => decide (k < e.tile ∨ e.tile + e.arg0 % 2 ^ 29 ≤ k)) s.med.cat } }
  | 3 => s.setCat e.tile { c with written := c.written ||| BitVec.ofNat 64 e.arg0 }
  | 4 => s.setCat e.tile { c with st := .moving, dst := e.arg0 % 2 ^ 29 }
  | 5 => s.setCat e.tile { c with st := .mapped, phys := e.arg0 % 2 ^ 29, dst := 0 }
  | 6 => s.setCat e.tile { c with st := .mapped, dst := 0 }
  | 7 => s.setCat e.tile { c with lossy := true, overflow := c.overflow || decide (e.arg0 % 2 = 1) }
  | 8 => s.setCat e.tile { c with lossy := false, overflow := false }
  | 9 => s
  | 10 => s
  | 11 => s.setCat e.tile { c with overflow := false }
  | k => s.log E.MED_JRNL_BADTYPE 0 k e.seq

/-! Conservator log. -/

/-- Creates a conservator log record (R149). -/
def State.clogAdd (s : State) (type a b c : Nat) : State :=
  { s with med := { s.med with cpend := s.med.cpend ++ [⟨s.med.cnext, type, a, b, c⟩], cnext := s.med.cnext + 1 } }

/-- The effect of a conservator log record once it is on media (Table 5.4). Records of lost lines, stripe codes and partition,
die and channel retirements describe what is done as they are written. -/
def State.applyLog (s : State) (e : LogEnt) : State :=
  if e.type = 0x01 then
    let t := s.tile e.a
    if t.st = 1 then s else s.setTile e.a { t with st := 2 }
  else if e.type = 0x02 then s.setStripe e.a { s.stripe e.a with exposed := some (e.b, e.c) }
  else if e.type = 0x03 then
    let r := s.stripe e.a
    let s1 := s.setStripe e.a { r with gone := r.gone ||| BitVec.ofNat 16 (2 ^ e.b), ppos := e.c, exposed := none }
    let p := tileOfMember e.a e.b
    s1.setTile p { s1.tile p with st := 2 }
  else if e.type = 0x04 then s.setStripe e.a { s.stripe e.a with ppos := e.b }
  else if e.type = 0x0A then { s with med := { s.med with sentinels := SMap.ins s.med.sentinels (e.a * 16 + e.b) e.c } }
  else if e.type = 0x0B then
    let s1 := s.setStripe e.a { s.stripe e.a with st := 4 }
    (s.stripe e.a).members.foldl (fun (a : State) j =>
      let p := tileOfMember e.a j
      if (a.tile p).st = 2 then a else a.setTile p { a.tile p with st := 3 }) s1
  else s

/-- Records the ring holds: 256 MiB of 32 bytes (R149). -/
def clogEntries : Nat := 8388608

/-- The pending records go to media, the oldest of the ring giving way, and take effect (R149). -/
def State.logApply (s : State) : State :=
  let l := s.med.cpend
  let s1 : State := { s with med := { s.med with
    clog := SMap.keep (fun k _ => decide (s.med.cnext ≤ k + clogEntries))
      (l.foldl (fun (m : SMap LogEnt) (e : LogEnt) => SMap.ins m e.seq e) s.med.clog)
    cpend := [] } }
  l.foldl State.applyLog s1

/-- A record whose change is made at once is written at once, with those before it (R149). DEDUCED, log 97. -/
def State.clogNow (s : State) (type a b c : Nat) : State := (s.clogAdd type a b c).logApply

/-! Spare state (R152, R155). -/

/-- Retired data members that have not left their stripe yet. -/
def State.retiredIn (s : State) : Nat :=
  (s.med.tiles.filter (fun e => decide (e.2.st = 2) &&
    (let r := s.stripe (stripeOf e.1); !r.isGone (memberOf e.1) && decide (r.ppos ≠ memberOf e.1 ∧ r.st ≠ 4)))).length

/-- Size of the free pool: FREE tiles of stripes that are not CLOSED (R152). -/
def State.freePool (s : State) : Nat :=
  let listed (e : Nat × StripeRec) : Nat :=
    if e.2.st = 4 then 15 else min 15 (popBelow (e.2.gone ||| s.rowGoneBits e.1).toNat 16) + e.2.mapped
  let inRow (r i : Nat) : Nat := (s.med.stripes.filter (fun e => decide (rowOf e.1 = r ∧ e.1 % 2 ^ 18 < i))).length
  503316480 - (s.med.stripes.map listed).sum - (s.med.rowGone.map (fun e => e.2 - inRow (e.1 / 16) e.2)).sum -
    s.retiredIn

/-- U: unmapped logical tiles among the user and system tiles (R152). -/
def State.unmappedTiles (s : State) : Nat :=
  471334912 - (s.med.cat.filter (fun e => decide (e.2.st ≠ .unmapped))).length

/-- The headroom H (R152). -/
def State.headroom (s : State) : Nat := s.freePool - s.unmappedTiles

/-- Sets the spare state from H (R155); WPROT is never left; each change is logged. -/
def State.spareCheck (s : State) : State :=
  let h := s.headroom
  let old := s.rd D.CON_STAT_spare
  let new := if old = 2 ∨ h ≤ 786432 then 2 else if 100 * h ≤ s.rd D.CON_SPARE_lowpct * 31981568 then 1 else 0
  let s1 := s.wr D.CON_STAT_spare new
  if new = old then s1
  else if new = 2 then s1.log E.CON_WPROT 0 2 h
  else s1.log (if new = 1 then E.CON_SPARE_LOW else E.CON_SPARE_OK) 0 new h

/-- Enters WPROT because the lost-line list is full (R172). -/
def State.enterWprot (s : State) : State :=
  if s.wprot then s else (s.wr D.CON_STAT_spare 2).log E.CON_WPROT 0 2 s.headroom

/-! Lost lines (R172). -/

/-- Capacity of the lost-line list. -/
def lostMax : Nat := 1048576

/-- Whether the list holds a local line, as itself or with its whole tile. -/
def State.isLost (s : State) (ll : Nat) : Bool :=
  s.med.lost.contains ⟨false, ll⟩ || s.med.lost.contains ⟨true, tileOf ll⟩

/-- Listed lines of a tile. -/
def State.lostIn (s : State) (t : Nat) : Nat :=
  (s.med.lost.filter (fun e => !e.wide && decide (tileOf e.n = t))).length

/-- Replaces the list, keeping CON_LOSTCNT. -/
def State.setLost (s : State) (l : List LostEnt) : State :=
  ({ s with med := { s.med with lost := l } }).wr D.CON_LOSTCNT_count l.length

/-- While an entry is free, the tile whose overflow was set first is listed (R172). -/
def State.listOverflowed (s : State) : State :=
  s.med.overflowed.foldl (fun (a : State) t =>
    if a.med.lost.length < lostMax then
      ((({ a with med := { a.med with overflowed := a.med.overflowed.filter (fun u => u ≠ t) } } : State).setLost
        (a.med.lost ++ [⟨true, t⟩])).clogNow 0x0C (t * 256) 1 0).journal 11 t 0 0
    else a) s

/-- Adds a line to the list with a LOST record and journals LOSSY; a tile with more than 64 lines becomes one entry; a
full list enters WPROT and sets the tile's overflow (R172). -/
def State.loseLine (s : State) (ll : Nat) : State :=
  let t := tileOf ll
  if s.isLost ll ∨ s.med.overflowed.contains t then s
  else if 64 ≤ s.lostIn t then
    let l := s.med.lost.filter (fun e => e.wide || decide (tileOf e.n ≠ t))
    (((s.setLost (l ++ [⟨true, t⟩])).clogNow 0x0C (t * 256) 1 0).journal 7 t 0 0).listOverflowed
  else if lostMax ≤ s.med.lost.length then
    ({ s.enterWprot with med := { s.enterWprot.med with overflowed := s.med.overflowed ++ [t] } } : State).journal 7 t 1 0
  else
    let s1 := ((s.setLost (s.med.lost ++ [⟨false, ll⟩])).clogNow 0x0C ll 0 0).journal 7 t 0 0
    if lostMax ≤ s1.med.lost.length then s1.enterWprot else s1

/-- Removes a line from the list with an UNLOST record; CLEAN is journalled when its tile has none left (R172).
DEDUCED, log 113. -/
def State.unlose (s : State) (ll : Nat) : State :=
  if s.med.lost.contains ⟨false, ll⟩ then
    let s1 := (s.setLost (s.med.lost.filter (fun e => e ≠ (⟨false, ll⟩ : LostEnt)))).clogNow 0x0D ll 0 0
    let s2 := if s1.lostIn (tileOf ll) = 0 then s1.journal 8 (tileOf ll) 0 0 else s1
    s2.listOverflowed
  else s

/-- A move ends with MOVE_ABORT (R157): its destination is freed once the entry is on media. -/
def State.moveAbort (s : State) (t : Nat) : State :=
  match SMap.find s.med.moves t with
  | none => s
  | some m =>
    let s1 : State := { s with med := { s.med with moves := SMap.del s.med.moves t } }
    (s1.journal 6 t 0 0).afterJournal (.phys m.dst)

/-- Moves that are not forced stop (R158); one whose MOVE_END is journalled has ended. -/
def State.abortMoves (s : State) : State :=
  (s.med.moves.filter (fun e => e.2.aborted || (!e.2.forced && !e.2.ended))).foldl (fun (a : State) (e : Nat × Move) => a.moveAbort e.1) s

end Sys2Proof.Machine
end

