-- ==== Sys2Proof/Machine/FabReq.lean ====
section
/-! DEFINITION. Fabric line requests as their source keeps them (R207, R211 to R213), outbound entries and the forward
hold area (R78, R79), away and poisoned lines at a home (R214 to R216). -/

namespace Sys2Proof.Machine

/-- Whether a seat is occupied in the current membership record (R355). -/
def State.seatOccupied (s : State) (seat : Nat) : Bool := decide (s.rd D.FAB_MEMST_state seat ≠ 0)

/-- Whether the agent answers a request to a line at once, without sending (R355). -/
def State.seatEmpty (s : State) (gl : Nat) : Bool := s.mySeat.isNone || !s.seatOccupied (seatOf gl)

/-- Key of a seat and tag. -/
def tagKey (seat tag : Nat) : Nat := seat * 4096 + tag

/-- The lowest tag not outstanding toward a seat (R212), if any. -/
def State.freeTag (s : State) (seat : Nat) : Option Nat :=
  let used := (s.coh.freqs.filter (fun e => decide (e.1 / 4096 = seat))).map (fun e => e.1 % 4096)
  (List.range (used.length + 1)).find? (fun t => !used.contains t && decide (t < 4096))

/-- Sends a fabric request on its first route, with a fresh tag whose generation toggles (R212); unchanged where no tag
is free (Table 7.6). -/
def State.fabSend (s : State) (kind : FKind) (seat gl : Nat) (src : Src) (data : Line) (mask : LineMask)
    (poison : Bool) (atom : Option Atom) : State :=
  match s.freeTag seat with
  | none => s
  | some t =>
    let k := tagKey seat t
    let g := !(SMap.get true s.coh.fgen k)
    let s1 : State := { s with coh := { s.coh with
      freqs := SMap.ins s.coh.freqs k ⟨kind, seat, t, g, gl, src, data, mask, poison, atom, 1, false⟩
      fgen := SMap.put true s.coh.fgen k g } }
    s1.emit (.fabReq seat t g kind gl data mask poison 1)

/-- Whether a request for a line by a source is outstanding. -/
def State.fabAsked (s : State) (gl : Nat) (src : Src) : Bool :=
  s.coh.freqs.any (fun e => decide (e.2.gl = gl ∧ e.2.src = src))

/-! Outbound entries and held lines (R79, R211). -/

/-- An outbound entry. -/
def State.outEnt (s : State) (gl : Nat) : Option OutEnt := SMap.find s.coh.outb gl

/-- Sets an outbound entry. -/
def State.setOut (s : State) (gl : Nat) (e : OutEnt) : State :=
  { s with coh := { s.coh with outb := SMap.ins s.coh.outb gl e } }

/-- Removes an outbound entry. -/
def State.delOut (s : State) (gl : Nat) : State := { s with coh := { s.coh with outb := SMap.del s.coh.outb gl } }

/-- Lines this device holds under R59: LENT_MODIFIED loans and owned outbound entries. -/
def State.heldLines (s : State) : Nat :=
  (s.coh.vit.filter (fun e => decide (e.2.lent = .modified))).length + s.coh.outb.length

/-- Ownership asked for and not yet answered. -/
def State.ownAsked (s : State) : Nat :=
  (s.coh.freqs.filter (fun e => decide (e.2.kind = .own ∨ e.2.kind = .lown))).length

/-- Whether the device may ask for ownership of one more remote line, or keep one it is given: every request under way
counts, so that the sum of R79 is never exceeded. -/
def State.mayHold (s : State) : Bool := decide (s.heldLines + s.coh.fwd.length + s.ownAsked < 786432)

/-- Whether a delivery or release of a line is under way. -/
def State.leaving (s : State) (gl : Nat) : Bool :=
  s.coh.freqs.any (fun e => decide (e.2.gl = gl ∧ (e.2.kind = .dlv ∨ e.2.kind = .release)))

/-- Keeps PWR_PGFWD at the number of forward hold entries (R91). -/
def State.setFwd (s : State) (m : SMap FwdEnt) : State :=
  ({ s with coh := { s.coh with fwd := m } }).wr D.PWR_PGFWD_lines m.length

/-- Puts a line into the forward hold area; it stays charged (R78, R213). -/
def State.fwdAdd (s : State) (gl : Nat) (data : Line) (mask : LineMask) (poison release : Bool)
    (ctxs : List Nat) : State :=
  s.setFwd (SMap.ins s.coh.fwd gl ⟨data, mask, poison, s.rd D.FAB_MEMUID_uid (seatOf gl), release, false, ctxs⟩)

/-- Takes a line out of the forward hold area; the last one logs PWR_PG_FWD_DONE (R91). -/
def State.fwdDel (s : State) (gl : Nat) : State :=
  if SMap.has s.coh.fwd gl then
    let s1 := (s.setFwd (SMap.del s.coh.fwd gl)).release gl
    if s1.coh.fwd = [] then s1.log E.PWR_PG_FWD_DONE 0 0 0 else s1
  else s

/-- An owned entry delivers: DLV with its bytes, or RELEASE when it is clean (R211). -/
def State.deliver (s : State) (gl : Nat) : State :=
  match s.outEnt gl with
  | some e =>
    if e.st = .owned ∧ (s.freeTag (seatOf gl)).isSome then
      let s1 := s.setOut gl { e with st := .delivering }
      if e.mask = 0 then s1.fabSend .release (seatOf gl) gl .dev 0 0 false none
      else s1.fabSend .dlv (seatOf gl) gl .dev e.data e.mask e.poison none
    else s
  | none => s

/-- Ownership of a line reaches this device (R209, R230): it is kept in an owned outbound entry, charged from then on; where
the charge no longer fits (R69), or the device may hold no more lines (R79), it is given back at once.
DEDUCED, log 164. -/
def State.takeOwned (s : State) (gl : Nat) (e : OutEnt) : State :=
  if (s.outEnt gl).isSome then s
  else if s.mayHold ∧ s.mayCharge gl then (s.charge gl).setOut gl e
  else s.fabSend .release (seatOf gl) gl .dev 0 0 false none

/-- Moves a LENT_MODIFIED line out of its loan way into an outbound entry on its way home, its wing copies first
invalidated (R180, R189); a LENT_SHARED line is dropped. -/
def State.endLoan (s : State) (gl : Nat) : State :=
  let s0 := (List.range 8).foldl (fun a w => a.wevict w gl) s
  match s0.vfind gl with
  | none => s0
  | some (w, v) =>
    let s1 := s0.dropWay gl w
    if v.lent = .modified then
      (s1.setOut gl ⟨.owned, v.data, if v.dirty then fullMask else 0, v.poison, false, []⟩).deliver gl
    else s1

/-! Homes (R209, R214 to R216). -/

/-- The grant table entry of a line. -/
def State.grant (s : State) (gl : Nat) : Option Grant := SMap.find s.coh.grants gl

/-- Keeps CLO_GRANTS with the grant table. -/
def State.setGrants (s : State) (m : SMap Grant) : State :=
  (({ s with coh := { s.coh with grants := m } }).wr D.CLO_GRANTS_entries m.length).wr D.CLO_GRANTS_away
    (List.filter (fun (e : Nat × Grant) => e.2.away) m).length

/-- The lowest free place of the grant table. -/
def State.grantSlot (s : State) : Nat :=
  let used := s.coh.grants.map (fun (e : Nat × Grant) => e.2.slot)
  ((List.range (used.length + 1)).find? (fun k => !used.contains k)).getD 0

/-- An entry of the grant table is written: the table's line that holds it is dirty, and charged, until it is on media (R209,
Table 3.3). DESIGN CHOICE, log 179. -/
def State.grantTouch (s : State) (slot : Nat) : State :=
  if s.coh.gdirty.contains (slot / 4) then s
  else ({ s with coh := { s.coh with gdirty := s.coh.gdirty ++ [slot / 4] } } : State).govern

/-- Writes a grant entry for a seat (R209). -/
def State.grantTo (s : State) (gl seat : Nat) : State :=
  let k := s.grantSlot
  (s.setGrants (SMap.ins s.coh.grants gl ⟨seat, false, s.now + 1, k⟩)).grantTouch k

/-- Clears a grant entry. -/
def State.ungrant (s : State) (gl : Nat) : State :=
  match s.grant gl with
  | some g => (s.setGrants (SMap.del s.coh.grants gl)).grantTouch g.slot
  | none => s

/-- Whether a write of the grant table is accepted now: its line is charged already, or its charge fits (R69, R209). -/
def State.grantRaises (s : State) (slot : Nat) : Bool := !s.coh.gdirty.contains (slot / 4) && !s.grantFits

/-- Whether the grant table has room (R209). -/
def State.grantRoom (s : State) : Bool := decide (s.coh.grants.length < 4194304)

/-- Poisons a line at its home until a whole-line write (R215, R216). -/
def State.poisonHome (s : State) (gl : Nat) : State :=
  { s with coh := { s.coh with homePoison := if s.coh.homePoison.contains gl then s.coh.homePoison
                                             else s.coh.homePoison ++ [gl] } }

/-- Ends the poison of a line at its home. -/
def State.unpoisonHome (s : State) (gl : Nat) : State :=
  { s with coh := { s.coh with homePoison := s.coh.homePoison.filter (fun x => x ≠ gl) } }

/-- Clears every grant entry naming a seat, poisoning its lines, and logs the count (R215, R216). -/
def State.sweepGrants (s : State) (seat : Nat) : State :=
  let ls := (s.coh.grants.filter (fun e => decide (e.2.seat = seat))).map Prod.fst
  let s1 := ls.foldl (fun a gl => (a.ungrant gl).poisonHome gl) s
  (s1.addSat D.CLO_LOSS_swept ls.length).log E.CLO_GRANT_SWEPT seat 0 ls.length

/-- Loans of a local line. -/
def State.loan (s : State) (gl : Nat) : Loan := SMap.get ⟨0, 0⟩ s.coh.loans gl

/-- Replaces the loans of a line. -/
def State.setLoan (s : State) (gl : Nat) (l : Loan) : State :=
  { s with coh := { s.coh with loans := SMap.put ⟨0, 0⟩ s.coh.loans gl (if l.sharers = 0 then ⟨0, 0⟩ else l) } }

/-- Whether an INV of a line to a seat is unanswered. -/
def State.inving (s : State) (gl seat : Nat) : Bool :=
  s.coh.freqs.any (fun e => decide (e.2.kind = .inv ∧ e.2.gl = gl ∧ e.2.seat = seat))

/-- Sends INV to every sharer at once (R210), but for one that has an INV of the line to answer. -/
def State.sendInvs (s : State) (gl : Nat) (sh : BitVec 64) : State :=
  (List.range 64).foldl (fun a seat =>
    if sh.getLsbD seat ∧ a.inving gl seat = false then a.fabSend .inv seat gl .dev 0 0 false none else a) s

/-- Loan directory entries of the agent of a line: local lines of its four slices lent or granted (R208). -/
def State.dirCount (s : State) (q : Nat) : Nat :=
  ((SMap.keys s.coh.loans ++ SMap.keys s.coh.grants).filter (fun gl => decide (sliceOf gl / 4 = q))).length

/-- The least recently granted entry of a list of lines with the times of their grants. -/
def oldestGrant (l : List (Nat × Nat)) : Option Nat :=
  match l with
  | [] => none
  | e :: r => some (r.foldl (fun (a : Nat × Nat) x => if x.2 < a.2 then x else a) e).1

/-- The line whose loans a full loan directory recalls before it takes another: the least recently granted one (R208). A line
that is away has no holder to recall it from. -/
def State.dirVictim (s : State) (gl : Nat) : Option Nat :=
  let q := sliceOf gl / 4
  if s.dirCount q < 262144 ∨ SMap.has s.coh.loans gl ∨ SMap.has s.coh.grants gl then none
  else oldestGrant ((s.coh.loans.map (fun (e : Nat × Loan) => (e.1, e.2.stamp)) ++
    (s.coh.grants.filter (fun (e : Nat × Grant) => !e.2.away)).map (fun e => (e.1, e.2.stamp))).filter
      (fun e => decide (sliceOf e.1 / 4 = q)))

/-- Whether the recall of a line's grant is unanswered. -/
def State.recalling (s : State) (gl : Nat) : Bool := s.coh.freqs.any (fun e => decide (e.2.kind = .recall ∧ e.2.gl = gl))

end Sys2Proof.Machine
end

