-- ==== Sys2Proof/Machine/Access.lean ====
section
/-! DEFINITION. What a local line reads as at its home (R46, R53, R94, R111, R118, R214), what becomes of a write
(R53, R74, R155, R214, R276), allocation (R183, R184, R186), and writing the bytes (R193). -/

namespace Sys2Proof.Machine

/-! Content below the vitrine. -/

/-- What is known of a line without reading media: poison or zero (R53, R111, R214 to R216). A line of an unmapped tile or of
an unwritten leaf that is listed as lost under lossy reads as poison. DESIGN CHOICE, log 162. -/
def State.knownLine (s : State) (gl : Nat) : Option (Line × Bool) :=
  let ll := llOf gl
  let e := s.catEnt (tileOf ll)
  if s.coh.homePoison.contains gl then some (0, true)
  else if (s.regionOf gl).st = .deleting ∨ s.unmapPending (tileOf ll) then some (0, false)
  else if e.st = .unmapped ∨ e.written.getLsbD (leafOf ll) = false then
    some (0, e.overflow || (e.lossy && s.isLost ll))
  else if e.overflow ∨ (e.lossy ∧ s.isLost ll) then some (0, true)
  else none

/-- The bytes a catalogue-mapped line holds on media, read without error; poison where no key or check serves it. -/
def State.mediaLine (s : State) (gl : Nat) : Line × Bool :=
  let ll := llOf gl
  let t := tileOf ll
  let img := s.imageNow (s.catEnt t).phys (leafOf ll)
  match s.baseKey t with
  | none => (0, true)
  | some k =>
    if tagOk t img && macOk k t (leafOf ll) img then
      (((imagePlain k t (leafOf ll) img) >>> (512 * lineIn ll)).setWidth 512, false)
    else (0, true)

/-- Where the content of a line below the vitrine comes from. -/
inductive Below where
  | have (d : Line) (poison : Bool)
  | staging
  | media
  deriving DecidableEq, Repr

/-- The eviction buffer entries of a line, oldest first (R21). -/
def State.evOf (s : State) (gl : Nat) : List EvEnt := s.coh.evb.filter (fun e => decide (e.gl = gl))

/-- Bytes and mask that the entries of a line hold together, and their poison. -/
def evMerge (l : List EvEnt) : Line × LineMask × Bool :=
  l.foldl (fun a e => (merge a.1 e.data e.mask, a.2.1 ||| e.mask,
    if e.mask = fullMask then e.poison else a.2.2 || e.poison)) (0, 0, false)

/-- Where a line that no way holds is found: eviction buffer, staging or a builder, a known value, or media (R21, R111,
R118). Sweep poison comes first (R215); in a DELETING region nothing but the eviction buffer can hold a line, and it reads as
zero (R53). -/
def State.below (s : State) (gl : Nat) : Below :=
  let ev := evMerge (s.evOf gl)
  if ev.2.1 = fullMask then .have ev.1 ev.2.2
  else if s.coh.homePoison.contains gl then .have 0 true
  else if (s.regionOf gl).st = .deleting then .have 0 false
  else if SMap.has s.med.stg (llOf gl) ∨ (s.builderLine (llOf gl)).isSome then .staging
  else match s.knownLine gl with
    | some (d, p) => .have (merge d ev.1 ev.2.1) (p || ev.2.2)
    | none => .media

/-- Content of a line that no way holds, whatever it takes to read it. -/
def State.belowNow (s : State) (gl : Nat) : Line × Bool :=
  let base := match (if (s.regionOf gl).st = .deleting then none else s.builderLine (llOf gl)) with
    | some d => (d, false)
    | none => match s.knownLine gl with
      | some x => x
      | none => s.mediaLine gl
  let st := match SMap.find s.med.stg (llOf gl) with
    | some e => (merge base.1 e.data e.mask, if e.mask = fullMask then e.poison else base.2 || e.poison)
    | none => base
  let ev := evMerge (s.evOf gl)
  if s.coh.homePoison.contains gl then (if ev.2.1 = fullMask then (ev.1, ev.2.2) else (0, true))
  else (merge st.1 ev.1 ev.2.1, if ev.2.1 = fullMask then ev.2.2 else st.2 || ev.2.2)

/-- What a local line holds now. -/
def State.lineHeld (s : State) (gl : Nat) : Line × Bool :=
  match s.wingDirty gl with
  | some l => (l.data, l.poison)
  | none => match s.coh.wbq.find? (fun e => decide (e.gl = gl)) with
    | some e => (e.data, e.poison)
    | none => match s.vfind gl with
      | some (_, v) => (v.data, v.poison)
      | none => s.belowNow gl

/-- What a local line reads as now, to an observer outside the wings. DESIGN CHOICE, log 108. -/
def State.lineNow (s : State) (gl : Nat) : Line × Bool := s.shown gl (s.lineHeld gl)

/-! Sealed segments (R276). -/

/-- Accession table entry. -/
def State.acc (s : State) (n : Nat) : Acc := SMap.get Acc.init s.cur.accs n

/-- Replaces an accession table entry. -/
def State.setAcc (s : State) (n : Nat) (a : Acc) : State :=
  { s with cur := { s.cur with accs := SMap.put Acc.init s.cur.accs n a } }

/-- The byte below which an accession's lines take no write: the sealed end, or the pending end once seal step 2 has
switched the slices (R276, R277, R279). -/
def State.closedEnd (s : State) (n : Nat) : Nat :=
  let a := s.acc n
  if a.st = .sealing ∧ s.cur.seals.any (fun x => decide (x.acc = n ∧ 3 ≤ x.step)) then max a.sealed a.pending
  else a.sealed

/-- The accession in which a write to a local line is discarded: below its closed end, or in its seal log (R276). -/
def State.sealedIn (s : State) (ll : Nat) : Option Nat :=
  (SMap.keys s.cur.accs).find? (fun n =>
    let a := s.acc n
    let b := a.base * 16384
    let la := ll * 64
    decide (a.st ≠ .free) && decide (b ≤ la) &&
      (decide (la < b + s.closedEnd n) ||
        (decide (b + a.limit ≤ la) && decide (la < b + a.limit + (a.maxsegs + 127) / 128 * 16384))))

/-- The accession whose pending seal holds a local line in its segment (Table 9.6, step 2). -/
def State.sealing (s : State) (ll : Nat) : Option Nat :=
  (s.cur.seals.map Seal.acc).find? (fun n =>
    let a := s.acc n
    let b := a.base * 16384
    decide (a.st = .sealing ∧ b + a.sealed ≤ ll * 64 ∧ ll * 64 < b + a.pending))

/-! What becomes of a write (R53, R69, R71, R74, R155, R214, R276). -/

/-- The fates of a line write at its home. -/
inductive Verdict where
  | accept
  | discard
  | refuse
  | hold
  deriving DecidableEq, Repr

/-- Whether the writer is a curator store or atomic, whose refusal is a fault. -/
def Src.isCurator : Src → Bool
  | .store _ => true
  | .atom _ => true
  | _ => false

/-- Whether accepting the line raises D. -/
def State.raises (s : State) (gl : Nat) : Bool := !s.charged gl

/-- Whether the acceptances of flush step 2 are running, which are not checked (R78). -/
def State.drainStep (s : State) : Bool :=
  match s.gov.flush with
  | some f => decide (f.step ≤ 2)
  | none => false

/-- The fate of a write at its home. -/
def State.verdict (s : State) (gl : Nat) (mask : LineMask) (src : Src) (atomic : Bool) : Verdict :=
  let away : Bool := match s.grant gl with
    | some g => g.away
    | none => false
  if (s.regionOf gl).st = .deleting then .discard
  else if (s.sealedIn (llOf gl)).isSome ∧ src ≠ .dev then .discard
  else if away ∧ (mask ≠ fullMask ∨ atomic) then (if src.isCurator then .refuse else .discard)
  else if s.raises gl = false ∨ s.drainStep then .accept
  else if s.lowEnergy ∨ s.wprot then (if src.isCurator then .refuse else .discard)
  else if s.rd D.PWR_PGBUD_bytes < s.dirty + s.chargeOf gl then .hold
  else .accept

/-- The events of a discarded or refused write. -/
def State.logDiscard (s : State) (gl : Nat) (mask : LineMask) (src : Src) (atomic : Bool) : State :=
  let away : Bool := match s.grant gl with
    | some g => g.away
    | none => false
  if (s.regionOf gl).st = .deleting then s.log E.GBL_WRITE_DELETED 0 0 (gaOf gl)
  else match s.sealedIn (llOf gl) with
    | some n =>
      if src = .dev then s
      else
        let a := s.acc n
        (s.setAcc n { a with discarded := min 0xFFFFFFFF (a.discarded + 1) }).log E.CUR_SEAL_DISCARD n 0 (gaOf gl)
    | none =>
      if away ∧ (mask ≠ fullMask ∨ atomic) then s.log E.CLO_LINE_AWAY 0 0 (gaOf gl)
      else if src.isCurator then s
      else if s.lowEnergy then s.log E.PWR_PG_LOWENERGY 0 0 (gaOf gl)
      else s.log E.CON_WPROT 0 3 (gaOf gl)

/-! Allocation (R183, R184, R186, R194). -/

/-- Sends a line that leaves its way, or a write accepted without allocation, to the eviction buffer. -/
def State.toEvb (s : State) (gl : Nat) (kind : EvKind) (data : Line) (mask : LineMask) (poison : Bool) : State :=
  s.evbPush ⟨gl, kind, data, mask, poison⟩

/-- A poisoned local line leaves the caches: it is recorded as lost and never written to staging (R194). -/
def State.losePoisoned (s : State) (gl : Nat) : State := ((s.loseLine (llOf gl)).release gl).unpoisonHome gl

/-! The read check of a way (R193 to R196, R198). -/

/-- Ways of a slice that it has disabled by itself, or is disabling (R196). -/
def State.waysLost (s : State) (sl : Nat) : Nat :=
  (s.coh.autoOff.filter (fun k => decide (k / 16 = sl))).length +
    ((List.range 16).filter (fun k => (s.wayCnt sl k).disabling)).length

/-- Starts disabling a way whose counts have reached a threshold (R195, R196, R198). -/
def State.wayThreshold (s : State) (sl w : Nat) : State :=
  let c := s.wayCnt sl w
  if s.isOpen ∧ s.bit D.VIT_CTL_autodis ∧ c.disabling = false ∧ (s.waysOff sl).testBit w = false ∧
      (s.rd D.VIT_WAYCFG_cthresh ≤ c.corr ∨ s.rd D.VIT_WAYCFG_ucthresh ≤ c.uncorr) then
    if s.waysLost sl < s.rd D.VIT_WAYCFG_maxdis then s.setWayCnt sl w { c with disabling := true }
    else (s.setWayCnt sl w WayCnt.init).log E.VIT_WAY_LIMIT sl 0 w
  else s

/-- Every threshold reached before the state was OPEN takes effect (R198). -/
def State.wayThresholds (s : State) : State :=
  (SMap.keys s.coh.ways).foldl (fun (a : State) k => a.wayThreshold (k / 16) (k % 16)) s

/-- The read check of a line held in a way, whose array shows the given flips: its bytes and poison, or none where a clean line
was dropped, a loan with the wing copies that stand on it, and is fetched again (R189, R194). -/
def State.checkFlips (s0 : State) (gl w : Nat) (v : VLine) (fl : Flips) (inj : Bool) : Option (Line × Bool) × State :=
  let sl := sliceOf gl
  let c := s0.wayCnt sl w
  let count (a : State) (n : WayCnt) : State :=
    if s0.quarantined inj then a else (a.setWayCnt sl w n).wayThreshold sl w
  match readCheck v.data fl with
  | .good d => (some (d, false), s0)
  | .corrected d =>
    (some (d, false), count ((s0.setWay gl w { v with data := d }).addSat D.VIT_SERR_corr 1 sl) { c with corr := c.corr + 1 })
  | .bad =>
    let s1 := count ((s0.addSat D.VIT_SERR_uncorr 1 sl).log E.VIT_UNCORR sl w (gaOf gl) inj)
      { c with uncorr := c.uncorr + 1 }
    if v.dirty then (some (0, true), s1.setWay gl w { v with poison := true })
    else (none, if v.lent = .local then s1.dropWay gl w else s1.endLoan gl)

/-- The read check of a line held in a way (R194). -/
def State.checkWay (s : State) (gl w : Nat) (v : VLine) (fl : Flips) : Option (Line × Bool) × State :=
  if v.poison then (some (0, true), s)
  else
    let x := s.injectLine 0x07 (hitInst (sliceOf gl) w) fl
    x.2.2.checkFlips gl w v x.1 x.2.1

/-- What a write does to the way that holds its line before its bytes are written (R193): a narrow write finds a wrong byte
among those it enables, and the whole line is checked. -/
def State.checkWrite (s : State) (gl : Nat) (mask : LineMask) (fl : Flips) : State :=
  match s.vfind gl with
  | none => s
  | some (w, v) =>
    if mask = fullMask ∨ v.poison then s
    else
      let x := s.injectLine 0x07 (hitInst (sliceOf gl) w) fl
      if x.1.bytes.any (fun e => mask.getLsbD e.1 && decide (syndrome e.2 ≠ 0)) then (x.2.2.checkFlips gl w v x.1 x.2.1).2
      else x.2.2

/-- A dirty line is read on its way out of its way (R194): its bytes, their poison and the state. -/
def State.takeWay (s : State) (w : Nat) (v : VLine) : Line × Bool × State :=
  let x := s.checkWay v.gl w v Flips.none
  match x.1 with
  | some (d, p) => (d, p, x.2)
  | none => (0, true, x.2)

/-- A way's line leaves the caches (R183, R186, R190, R194): a loan goes home, a dirty line through the eviction buffer, a
poisoned one nowhere. None where the eviction buffer has no room. -/
def State.evictWay (s : State) (w : Nat) (v : VLine) : Option State :=
  if v.lent ≠ .local then some (s.endLoan v.gl)
  else if v.dirty = false then some (s.dropWay v.gl w)
  else if s.evbRoom (sliceOf v.gl) = false then none
  else
    let x := s.takeWay w v
    let s1 := x.2.2.dropWay v.gl w
    some (if x.2.1 then s1.losePoisoned v.gl else s1.toEvb v.gl .victim x.1 fullMask false)

/-- Allocates a way for a line: the way and the state with it empty, or none where the allocation must wait. -/
def State.allocWay (s : State) (gl : Nat) (loan : Bool) : Option (Nat × State) :=
  match s.eligible gl loan with
  | [] => none
  | w :: _ =>
    match SMap.find s.coh.vit (wayKey (sliceOf gl) (vitSet gl) w) with
    | none => some (w, s)
    | some v => (s.evictWay w v).map (fun s' => (w, s'))

/-- Fills a way with a line and makes it the most recent. -/
def State.fillWay (s : State) (gl w : Nat) (d : Line) (dirty poison : Bool) (lent : Lent) : State :=
  (s.setWay gl w ⟨gl, d, dirty, poison, lent⟩).touch gl w

/-- Every wing drops its copy of a line; the state and whether any held one. -/
def State.dropWings (s : State) (gl : Nat) : State := (List.range 8).foldl (fun a w => a.wdrop w gl) s

/-- What a whole line reaching its home ends: poison at the home, the lost-line entry, an away grant (R172, R214). One that is
itself poisoned leaves the line listed as it was. -/
def State.wholeWrite (s : State) (gl : Nat) (poison : Bool) : State :=
  let s1 := if poison then s.unpoisonHome gl else (s.unpoisonHome gl).unlose (llOf gl)
  match s1.grant gl with
  | some g => if g.away then (s1.ungrant gl).log E.CLO_LINE_AWAY 0 0 (gaOf gl) else s1
  | none => s1

/-- Writes bytes into a way that holds the line (R193): a whole-line write clears poison. -/
def VLine.write (v : VLine) (d : Line) (mask : LineMask) (poison : Bool) : VLine :=
  { v with data := merge v.data d mask, dirty := true,
           poison := if mask = fullMask then poison else v.poison || poison }

/-- Bytes reach the home of a local line (R186, R187, R193, Table 6.3): none where they must wait for a way or an eviction
buffer entry. `base` is the line's content where narrow bytes of a WB or WT line miss; `zero` marks a zero-line operation, which
allocates under WA too. A line sent to staging stays dirty until staging has written it. -/
def State.homeStore (s : State) (gl : Nat) (d : Line) (mask : LineMask) (poison : Bool) (base : Line × Bool)
    (zero : Bool := false) : Option State :=
  let s0 := (if mask = fullMask then s.wholeWrite gl poison else s).charge gl
  let pol := if zero ∧ (s0.attrOf gl).wpol = .wa then Wpol.wt else (s0.attrOf gl).wpol
  match s0.vfind gl with
  | some (w, v) =>
    let v' := v.write d mask poison
    let s1 := (s0.setWay gl w v').touch gl w
    if pol = .wb ∨ v'.poison then some s1
    else if s1.evbRoom (sliceOf gl) then
      some (s1.toEvb gl .write v'.data fullMask false)
    else none
  | none =>
    match pol with
    | .wb =>
      match s0.allocWay gl false with
      | some (w, s1) =>
        some (s1.fillWay gl w (merge base.1 d mask) true (if mask = fullMask then poison else base.2 || poison) .local)
      | none => none
    | .wt =>
      match s0.allocWay gl false with
      | some (w, s1) =>
        let d' := merge base.1 d mask
        let p' := if mask = fullMask then poison else base.2 || poison
        if p' then some (s1.fillWay gl w d' true true .local)
        else if s1.evbRoom (sliceOf gl) then
          some ((s1.fillWay gl w d' true false .local).toEvb gl .write d' fullMask false)
        else none
      | none => none
    | _ =>
      if poison then some ((s0.poisonHome gl).release gl)
      else if s0.evbRoom (sliceOf gl) then some (s0.toEvb gl .write d mask false) else none

/-- Performs an accepted write of a local line at its home. -/
def State.homeWrite (s : State) (gl : Nat) (d : Line) (mask : LineMask) (poison : Bool) (base : Line × Bool)
    (zero : Bool := false) : Option State := (s.breachEnd gl mask poison).homeStore gl d mask poison base zero

/-- Whether the content of the line is needed before a write: a narrow write of a WB or WT line that no way holds. -/
def State.needsBase (s : State) (gl : Nat) (mask : LineMask) : Bool :=
  decide (mask ≠ fullMask) && (s.vfind gl).isNone &&
    (decide ((s.attrOf gl).wpol = .wb) || decide ((s.attrOf gl).wpol = .wt))

/-! Access in one step, for the device's own engines. -/

/-- Whether a line can be accessed in one step: no request in progress, no loan, no grant that is not away. -/
def State.lineFree (s : State) (gl : Nat) : Bool :=
  !s.busyLine gl && decide ((s.loan gl).sharers = 0) &&
    (match s.grant gl with
     | some g => g.away
     | none => true)

/-- Every wing copy of a line ends; dirty bytes join the line at its home. None where they must wait. -/
def State.collect (s : State) (gl : Nat) : Option State :=
  match (List.range 8).findSome? (fun w => (s.wfind w gl).bind (fun l => if l.st = .modified then some (w, l) else none)) with
  | none => some (s.dropWings gl)
  | some (w, l) =>
    let x := s.wtake w gl l
    (x.2.dropWings gl).homeStore gl x.1.data fullMask x.1.poison (0, false)

/-- Bytes are written at the home of a line in one step, its wing copies first collected (R193): none where they must wait. -/
def State.writeHome (s : State) (gl : Nat) (d : Line) (mask : LineMask) (poison : Bool) (zero : Bool := false) :
    Option State :=
  (s.collect gl).bind (fun a =>
    let s1 := (a.filterDel gl).checkWrite gl mask Flips.none
    s1.homeWrite gl d mask poison (s1.belowNow gl) zero)

/-- One line write by the device in one step: its fate and the state after it; held or waiting writes are retried. -/
def State.writeNow (s : State) (gl : Nat) (d : Line) (mask : LineMask) (src : Src) (zero : Bool := false) : Verdict × State :=
  match s.verdict gl mask src false with
  | .accept => match s.writeHome gl d mask false zero with
    | some s2 => (.accept, s2)
    | none => (.hold, s)
  | .discard => (.discard, s.logDiscard gl mask src false)
  | .refuse => (.refuse, s)
  | .hold => (.hold, s)

end Sys2Proof.Machine
end

