-- ==== Sys2Proof/Machine/Context.lean ====
section
/-! DEFINITION. A curator context (R233 to R237): its registers and privilege, and how it stops (R254 to R256). -/

namespace Sys2Proof.Machine

/-- General register `r`; x0 reads as zero (R234). -/
def Ctx.reg (x : Ctx) (r : BitVec 5) : Word := if r = 0 then 0 else SMap.get 0 x.x r.toNat

/-- Writes a general register; a write to x0 is discarded (R234). -/
def Ctx.setReg (x : Ctx) (r : BitVec 5) (v : Word) : Ctx := if r = 0 then x else { x with x := SMap.put 0 x.x r.toNat v }

/-- The encoding of a privilege (Table 8.7). -/
def Priv.code : Priv → Nat
  | .guest => 0
  | .steward => 1
  | .warden => 2

/-- A loaded program. -/
def State.prog (s : State) (n : Nat) : Option Program := SMap.find s.cur.progs n

/-- The fault codes of Tables 8.9 and 9.12. -/
def fltIllegal : Nat := 0x01
def fltPriv : Nat := 0x02
def fltCwAccess : Nat := 0x03
def fltAddrForm : Nat := 0x04
def fltAddrRange : Nat := 0x05
def fltAlign : Nat := 0x06
def fltPoison : Nat := 0x07
def fltStoreDiscard : Nat := 0x08
def fltFetch : Nat := 0x09
def fltTrap : Nat := 0x0A
def fltLimit : Nat := 0x0B
def fltAborted : Nat := 0x0C
def fltPowerInterrupted : Nat := 0x40
def fltCallBad : Nat := 0x41
def fltCallImport : Nat := 0x42
def fltCallDepth : Nat := 0x43
def fltQAccess : Nat := 0x44

/-- A context stops with a fault (R254, R256): the code, the address reported, and the pc of the refused store. What else
was pending is dropped. -/
def State.stop (s : State) (c code addr spc : Nat) : State :=
  let x := s.ctx c
  s.setCtx c { x with st := .stopped, hold := .none, gfence := none, pendAbort := false, pendDiscard := none,
                      pendLimit := false, fault := some ⟨code, addr, x.pc, spc, x.priv⟩ }

/-- A precise fault of the instruction at pc, with its tag sample (R254, R522). -/
def State.faultNow (s : State) (c code addr major ea : Nat) : State :=
  let x := s.ctx c
  (s.stop c code addr 0).sample c x.pc x.prog x.priv.code major 1 ea

/-- The fault pending at a boundary of a context: ABORTED, STORE_DISCARD, LIMIT, in that order (R252, R256). -/
def State.boundary (s : State) (c : Nat) : Option (Nat × Nat × Nat) :=
  let x := s.ctx c
  if x.pendAbort then some (fltAborted, 0, 0)
  else match x.pendDiscard with
    | some (pc, addr) => some (fltStoreDiscard, addr, pc)
    | none => if x.pendLimit ∨ (x.deadline ≠ 0 ∧ x.deadline ≤ s.now) then some (fltLimit, x.deadline, 0) else none

/-- Whether a context stands between two instructions, where a boundary fault is taken (R254, R262). -/
def Ctx.between (x : Ctx) : Bool := decide (x.st = .running ∧ x.hold = .none ∧ x.gfence = none)

/-- Takes a pending boundary fault where the context stands between two instructions. -/
def State.atBoundary (s : State) (c : Nat) : State :=
  if (s.ctx c).between then
    match s.boundary c with
    | some (code, addr, pc) => s.stop c code addr pc
    | none => s
  else s

/-- The instruction at pc retires: pc moves, INSTRET and the tally count it (R236, R251). -/
def State.retire (s : State) (c : Nat) (x : Ctx) (next major ea : Nat) : State :=
  let o := s.ctx c
  ((s.setCtx c { x with pc := next, instret := x.instret + 1 }).tWing (c / 32) 1 1).sample c o.pc o.prog o.priv.code major
    0 ea

end Sys2Proof.Machine
end

