-- ==== Sys2Proof/Machine/Home.lean ====
section
/-! DEFINITION. The line protocol at a home slice (R200 to R210, R219, R220): arrival, order, snoops, loans, the line's
data, the request's effect, and its answer. -/

namespace Sys2Proof.Machine

/-! Requests in progress. -/

/-- The request in progress for a line. -/
def State.txn (s : State) (gl : Nat) : Option Txn := SMap.find s.coh.txns gl

/-- Sets the request in progress for a line. -/
def State.setTxn (s : State) (gl : Nat) (t : Txn) : State :=
  ({ s with coh := { s.coh with txns := SMap.ins s.coh.txns gl t } } : State)

/-- Ends the request in progress for a line; the mode is re-evaluated, since it may have been waiting in HOLD. -/
def State.delTxn (s : State) (gl : Nat) : State :=
  ({ s with coh := { s.coh with txns := SMap.del s.coh.txns gl } } : State).govern

/-- A request that starts. -/
def Txn.start (r : Req) (waited hit : Bool) : Txn :=
  { req := r, phase := .loan, back := 0, answered := 0, found := false, taken := false, got := none, wbPend := false, invs := 0,
    away := none, line := none, waited := waited, filterHit := hit, remote := false }

/-! Atomics (R219, R220, R247, Table 8.4). -/

/-- The new memory value of an atomic on an operand of `8 * size` bits. -/
def Atom.new (a : Atom) (old : Nat) : Nat :=
  let w := 8 * a.size
  let m := 2 ^ w
  let b := a.b.toNat % m
  let o := BitVec.ofNat w old
  let bb := BitVec.ofNat w b
  match a.op with
  | .swap => b
  | .add => (old + b) % m
  | .and => (o &&& bb).toNat
  | .or => (o ||| bb).toNat
  | .xor => (o ^^^ bb).toNat
  | .min => if o.toInt ≤ bb.toInt then old else b
  | .max => if bb.toInt ≤ o.toInt then old else b
  | .minu => Nat.min old b
  | .maxu => Nat.max old b
  | .cas => if old = a.a.toNat % m then b else old

/-- The line after an atomic. -/
def Atom.apply (a : Atom) (d : Line) : Line :=
  merge d (lineOfBytes (a.new (bytesAt d a.off a.size)) a.off a.size) (maskOf a.off a.size)

/-- The bytes an atomic writes. -/
def Atom.mask (a : Atom) : LineMask := maskOf a.off a.size

/-- Index of a line in a wing's contention predictor (R220). -/
def predIndex (gl : Nat) : Nat := gl % 1024 ^^^ gl / 1024 % 1024

/-- A predictor counter. -/
def State.predAt (s : State) (w gl : Nat) : Nat := SMap.get 0 s.coh.pred (w * 1024 + predIndex gl)

/-- Moves a predictor counter, 0 to 3. -/
def State.predSet (s : State) (w gl v : Nat) : State :=
  { s with coh := { s.coh with pred := SMap.put 0 s.coh.pred (w * 1024 + predIndex gl) (min 3 v) } }

/-! Answers. -/

/-- Gives a line to the units of the load or atomic a context waits for. -/
def State.giveUnits (s : State) (c gl : Nat) (d : Line) (p : Bool) : State :=
  let x := s.ctx c
  match x.hold with
  | .load l => s.setCtx c { x with hold := .load { l with
      units := l.units.map (fun u => if u.gl = gl ∧ u.got.isNone then { u with got := some (d, p) } else u) } }
  | _ => s

/-- The oldest store buffer entry of a context leaves, accepted (R201, R57). -/
def State.sbPop (s : State) (c gl : Nat) : State :=
  let x := s.ctx c
  match x.sb with
  | e :: r => if e.gl = gl then
      s.setCtx c { x with sb := r, wrote := if x.wrote.contains gl then x.wrote else gl :: x.wrote } else s
  | [] => s

/-- The oldest store buffer entry of a context is lost or refused: counted in SBSTAT.lost (R228, R246). -/
def State.sbLose (s : State) (c gl : Nat) : State :=
  let x := s.ctx c
  match x.sb with
  | e :: r => if e.gl = gl then s.setCtx c { x with sb := r, lost := min 0xFFFFFFFF (x.lost + 1) } else s
  | [] => s

/-- A store is refused after it retired: its refusal is on its way to the context (R255). -/
def State.refuseStore (s : State) (c gl : Nat) : State :=
  match (s.ctx c).sb.head? with
  | some e =>
    if e.gl = gl then
      let first := (List.range 64).find? (fun k => e.mask.getLsbD k)
      { (s.sbLose c gl) with cur := { (s.sbLose c gl).cur with
          refusals := s.cur.refusals ++ [(c, e.pc, gaOf gl + first.getD 0)] } }
    else s
  | none => s

/-- Stores the reply of a fabric request and sends it (R212). -/
def State.fabAnswer (s : State) (seat tag : Nat) (gen : Bool) (kind : FKind) (gl : Nat) (d : Line)
    (p flag : Bool) : State :=
  ({ s with coh := { s.coh with dedup := SMap.ins s.coh.dedup (tagKey seat tag) ⟨gen, true, kind, gl, d, p, flag⟩ } } :
    State).emit (.fabReply seat tag gen kind d p flag)

/-- What a fabric source asked under this seat and tag. -/
def State.fabKind (s : State) (seat tag : Nat) : FKind :=
  match SMap.find s.coh.dedup (tagKey seat tag) with
  | some e => e.kind
  | none => .fread

/-- The bytes of a port's early-acknowledgement buffer merged over its home's line (R229). -/
def eabMerge (l : List EabEntry) (gl : Nat) (d : Line) (poison : Bool) : Line × Bool :=
  (l.filter (fun e => decide (lineOf e.ga = gl))).foldl
    (fun a e => (merge a.1 e.data e.mask, if e.mask = fullMask then e.poison else a.2 || e.poison)) (d, poison)

/-- The data answer of a CXL.mem read: zero bytes when poisoned (R309); nothing when the port was reset meanwhile. -/
def State.answerRead (s : State) (p tag gl : Nat) (d : Line) (poison : Bool) : State :=
  let q := s.port p
  if q.reads.any (fun r => decide (r.tag = tag)) then
    let x := eabMerge q.eab gl d poison
    (s.setPort p { q with reads := q.reads.filter (fun r => r.tag ≠ tag) }).emit
      (.hostData p tag (if x.2 then 0 else x.1) x.2)
  else s

/-- Puts an instruction line into a core's L1 instruction set: 4 ways, exact LRU. -/
def State.l1iFill (s : State) (core gl : Nat) (d : Line) : State :=
  let k := core * 128 + gl % 128
  let l := (SMap.get [] s.coh.l1i k).filter (fun x => x.1 ≠ gl)
  { s with coh := { s.coh with l1i := SMap.ins s.coh.l1i k (((gl, d) :: l).take 4) } }

/-- The bytes a core's L1 instruction cache holds of a line. -/
def State.l1iFind (s : State) (core gl : Nat) : Option Line :=
  ((SMap.get [] s.coh.l1i (core * 128 + gl % 128)).find? (fun e => decide (e.1 = gl))).map Prod.snd

/-- The answer to the requester of a request that ends with the line's bytes. A fetched line stays in the L1 instruction cache
only while its wing's L2 holds it (R180). -/
def State.answerData (s : State) (r : Req) (d : Line) (p : Bool) : State :=
  match r.src with
  | .port a tag => s.answerRead a tag r.gl d p
  | .load c => s.giveUnits c r.gl d p
  | .atom c => s.giveUnits c r.gl d p
  | .fetch c =>
    if p then (if (s.ctx c).between then s.faultNow c fltFetch (s.ctx c).pc 0 0 else s)
    else if (s.wfind (wingOf c) r.gl).isSome then s.l1iFill (coreOf c) r.gl d else s
  | .fabric seat tag gen => s.fabAnswer seat tag gen (s.fabKind seat tag) r.gl (if p then 0 else d) p false
  | _ => s

/-- The answer to the requester of a write that ends: accepted, or discarded and completing normally. -/
def State.answerWrite (s : State) (r : Req) (flag : Bool) : State :=
  match r.src with
  | .port a tag => if s.portMode a = 0 then s else s.emit (.hostDone a tag)
  | .store c => s.sbPop c r.gl
  | .fabric seat tag gen => s.fabAnswer seat tag gen (s.fabKind seat tag) r.gl 0 false flag
  | _ => s

/-- A refused write or atomic (R246, R247): a store's refusal travels; an atomic faults at once, with nothing changed. -/
def State.answerRefuse (s : State) (r : Req) : State :=
  match r.src with
  | .store c => s.refuseStore c r.gl
  | .atom c =>
    match (s.ctx c).hold with
    | .load l =>
      let x := s.ctx c
      (s.stop c fltStoreDiscard l.ea x.pc).sample c x.pc x.prog x.priv.code l.major 1 l.ea
    | _ => s
  | _ => s

/-! The line's data at its home (R194). -/

/-- Records a media read of a line's leaf, attaching to one already there (R119). -/
def State.askMedia (s : State) (gl : Nat) (remote : Bool) : State :=
  let t := tileOf (llOf gl)
  let n := leafOf (llOf gl)
  if s.med.reads.any (fun r => decide (r.tile = t ∧ r.leaf = n)) then s
  else { s with med := { s.med with reads := s.med.reads ++
    [⟨t, n, (s.attrOf gl).bounded, .queued, [], [], [], 0, none, false, remote⟩] } }

/-- The line's bytes at its home, or what it waits for. -/
inductive Got where
  | line (d : Line) (p : Bool)
  | wait (ph : Phase)
  deriving DecidableEq, Repr

/-- Obtains the bytes of a line no way holds. -/
def State.obtainBelow (s : State) (t : Txn) : Got × State :=
  match t.line with
  | some (d, p) => (.line d p, s)
  | none => match s.below t.req.gl with
    | .have d p => (.line d p, s)
    | .staging => (.wait .stg, s)
    | .media => (.wait .med, s.askMedia t.req.gl t.remote)

/-- Obtains the bytes of a line for a request. -/
def State.obtain (s : State) (t : Txn) (fl : Flips) : Got × State :=
  match s.vfind t.req.gl with
  | some (w, v) =>
    match s.checkWay t.req.gl w v fl with
    | (some (d, p), s1) => (.line d p, s1)
    | (none, s1) => s1.obtainBelow t
  | none => s.obtainBelow t

/-- Allocates the line on a read miss where its policy allocates (Table 6.3): none where it must wait. -/
def State.fillRead (s : State) (gl : Nat) (d : Line) (p : Bool) : Option State :=
  if (s.attrOf gl).wpol = .uc then some s
  else match s.vfind gl with
    | some (w, _) => some (s.touch gl w)
    | none => if p then some s
      else (s.allocWay gl false).map (fun x => x.2.fillWay gl x.1 d false false .local)

/-! The request's effect, once snoops and loans are over (Table 7.2). -/

/-- Whether a request ends with a copy in a wing, a loan or a grant, so that its line takes a filter entry (R202). -/
def State.takesEntry (s : State) (r : Req) : Bool :=
  match r.kind, r.src with
  | .read, .fabric _ _ _ => (s.attrOf r.gl).loan && !s.breached r.gl
  | .read, _ => decide ((s.attrOf r.gl).wpol ≠ .uc) && !s.breached r.gl
  | .own, _ => true
  | _, _ => false

/-- Whether a request comes from another device. -/
def Src.isFabric : Src → Bool
  | .fabric _ _ _ => true
  | _ => false

/-- The line whose entry must go before the request's line takes its own: of a full filter set (R202), or, for another device,
of a full loan directory (R208). -/
def State.displaced (s : State) (r : Req) : Option Nat :=
  if s.takesEntry r = false then none
  else (s.filterVictim r.gl).orElse (fun _ => if r.src.isFabric then s.dirVictim r.gl else none)

/-- An invalidating snoop of the displaced line is on its way, as a request of the device itself, which ends the line's wing
copies, loans and grant before its entry is cleared (R202, R208, R210). DEDUCED, log 180. -/
def State.displace (s : State) (v : Nat) (byFilter : Bool) : State :=
  let r : Req := ⟨.inval, v, .dev, 0, 0, false, none⟩
  if s.coh.conf.contains r ∨ s.coh.txns.any (fun e => decide (e.2.req = r)) then s
  else
    let s1 := if byFilter then s.addWrap D.CLO_FILTER_backinv 1 else s.tAgent (sliceOf v / 4) 0x04 1
    if s.busyLine v ∨ s.coh.conf.any (fun q => decide (q.gl = v)) then
      { s1 with coh := { s1.coh with conf := s1.coh.conf ++ [r] } }
    else (s1.tSlice (sliceOf v) 0x04 1 |>.addWrap D.CLO_FILTER_snoops 1).setTxn v { Txn.start r false true with phase := .snoop }

/-- Whether a wing may be given ownership of a line with a read, so that its stores go unchecked: none would be discarded
(R53, R276), and the charge the ownership brings is accepted (R68, R69). DEDUCED, log 163. -/
def State.ownable (s : State) (gl : Nat) : Bool :=
  decide ((s.regionOf gl).st = .live) && (s.sealedIn (llOf gl)).isNone && (s.sealing (llOf gl)).isNone && s.mayCharge gl

/-- READ ends with a copy in the reader's wing: OWNED where no other copy exists and the line is WB, else SHARED (Table 7.2). -/
def State.readCopy (s : State) (c gl : Nat) (d : Line) (fetch : Bool) : State :=
  let others := (List.range 8).any (fun w => (s.wfind w gl).isSome) || decide ((s.loan gl).sharers ≠ 0)
  let st := if others = false ∧ (s.attrOf gl).wpol = .wb ∧ s.ownable gl then WSt.owned else WSt.shared
  let s2 := (if st = .owned then s.charge gl else s).filterAdd gl
  if fetch then s2.wfill2 c gl ⟨st, d, false⟩ else s2.wfill c gl ⟨st, d, false⟩

/-- READ and PEEK end: the requester's copy, the loan of an LREAD (R202, R207, R208). -/
def State.endRead (s : State) (t : Txn) (d : Line) (p : Bool) : State :=
  let gl := t.req.gl
  let a := s.attrOf gl
  let s1 := s.delTxn gl
  match t.req.kind, t.req.src with
  | .read, .load c =>
    if p ∨ a.wpol = .uc then s1.answerData t.req d p else (s1.readCopy c gl d false).answerData t.req d p
  | .read, .fetch c =>
    if p ∨ a.wpol = .uc then s1.answerData t.req d p else (s1.readCopy c gl d true).answerData t.req d p
  | .read, .fabric seat tag gen =>
    if a.loan ∧ p = false then
      let s2 := s1.filterAdd gl
      let l := s2.loan gl
      (s2.setLoan gl ⟨l.sharers ||| BitVec.ofNat 64 (2 ^ seat), s2.now + 1⟩).fabAnswer seat tag gen .lread gl d false true
    else s1.answerData t.req d p
  | _, _ => s1.answerData t.req d p

/-- OWN ends: a wing's MODIFIED copy, or a loan or outbound entry of another device (R201, R209). -/
def State.endOwn (s : State) (t : Txn) (d : Line) (p : Bool) : State :=
  let gl := t.req.gl
  let s1 := s.delTxn gl
  match t.req.src with
  | .fabric seat tag gen =>
    let k := s1.fabKind seat tag
    let a := s1.attrOf gl
    if s1.grantRoom ∧ (k = .own ∨ (a.loan ∧ s1.breached gl = false)) then
      ((s1.grantTo gl seat).filterAdd gl).fabAnswer seat tag gen k gl (if k = .own then 0 else d) p
        (if k = .own then a.ewa else true)
    else s1.fabAnswer seat tag gen k gl 0 true false
  | .store c => ((s1.charge gl).filterAdd gl).wfill c gl ⟨.modified, d, p⟩
  | .atom c =>
    let s2 := ((s1.charge gl).filterAdd gl).wfill c gl ⟨.modified, d, p⟩
    if t.waited ∨ t.taken then s2.predSet (wingOf c) gl (s2.predAt (wingOf c) gl + 1) else s2
  | _ => s1

/-- Whether the home can grant an owned entry with an FWRITE: the grant table, the filter, the loan directory and the budget have
room (R69, R202, R208, R209, R230). -/
def State.grantFree (s : State) (gl : Nat) : Bool :=
  s.grantRoom && (s.grant gl).isNone && (s.filterVictim gl).isNone && (s.dirVictim gl).isNone && !s.grantRaises s.grantSlot

/-- WRITE and ZERO end: the bytes, the answer, and the grant an FWRITE to an ALLOW region asks for (R230). -/
def State.endWrite (s : State) (t : Txn) (base : Line × Bool) : Option State :=
  let r := t.req
  (s.homeWrite r.gl r.data r.mask r.poison base (decide (r.kind = .zero))).map (fun s1 =>
    let s2 := s1.delTxn r.gl
    match r.src with
    | .fabric seat _ _ =>
      if (s2.attrOf r.gl).ewa ∧ s2.grantFree r.gl then ((s2.grantTo r.gl seat).filterAdd r.gl).answerWrite r true
      else s2.answerWrite r false
    | _ => s2.answerWrite r false)

/-- ATOMIC ends at the home (R219, R247): memory changes and the old line answers; poison leaves memory unchanged. -/
def State.endAtomic (s : State) (t : Txn) (a : Atom) (d : Line) (p : Bool) : Option State :=
  let r := t.req
  let s0 := s.addWrap D.CLO_ATOM_home 1
  if p then some ((s0.delTxn r.gl).answerData r d true)
  else
    (s0.homeWrite r.gl (a.apply d) a.mask false (d, false)).map (fun s1 =>
      let s2 := s1.delTxn r.gl
      let s3 := match r.src with
        | .atom c => if t.filterHit = false ∧ t.waited = false ∧ s2.coh.conf.all (fun q => decide (q.gl ≠ r.gl)) then
            s2.predSet (wingOf c) r.gl (s2.predAt (wingOf c) r.gl - 1) else s2
        | _ => s2
      match r.src with
      | .atom c => s3.giveUnits c r.gl d false
      | _ => s3.answerData r d false)

/-- Whether a request conflicts with LENT_SHARED loans (R210). -/
def ReqKind.conflictsShared : ReqKind → Bool
  | .read => false
  | .peek => false
  | _ => true

/-- The mask and atomicity under which a request's write is judged. -/
def Req.writes (r : Req) : Option (LineMask × Bool) :=
  match r.kind with
  | .write => some (r.mask, false)
  | .zero => some (fullMask, false)
  | .own => match r.src with
    | .fabric _ _ _ => none
    | _ => some (r.mask, false)
  | .atomic => some (match r.atom with
    | some a => (a.mask, true)
    | none => (0, true))
  | _ => none

/-- The request's own effect, once nothing conflicts with it: it ends, or waits for the budget, data or a way. -/
def State.ownEffect (s : State) (t : Txn) (fl : Flips) : State :=
  let r := t.req
  match r.kind with
  | .inval => (s.filterDel r.gl).delTxn r.gl
  | .writeback => s.delTxn r.gl
  | .read =>
    if s.breached r.gl then s.endRead t 0 true
    else match s.obtain t fl with
    | (.wait ph, s1) => s1.setTxn r.gl { t with phase := ph }
    | (.line d p, s1) =>
      match s1.fillRead r.gl d p with
      | some s2 => s2.endRead t d p
      | none => s1.setTxn r.gl { t with phase := .alloc, line := some (d, p) }
  | .peek =>
    if s.breached r.gl then s.endRead t 0 true
    else match s.obtain t fl with
    | (.wait ph, s1) => s1.setTxn r.gl { t with phase := ph }
    | (.line d p, s1) =>
      match s1.fillRead r.gl d p with
      | some s2 => s2.endRead t d p
      | none => s1.setTxn r.gl { t with phase := .alloc, line := some (d, p) }
  | .own =>
    match s.obtain t fl with
    | (.wait ph, s1) => s1.setTxn r.gl { t with phase := ph }
    | (.line d p, s1) =>
      match s1.fillRead r.gl d p with
      | some s2 => s2.endOwn t d p
      | none => s1.setTxn r.gl { t with phase := .alloc, line := some (d, p) }
  | .atomic =>
    if s.breached r.gl then ((s.addWrap D.CLO_ATOM_home 1).delTxn r.gl).answerData r 0 true
    else match s.obtain t fl with
    | (.wait ph, s1) => s1.setTxn r.gl { t with phase := ph }
    | (.line d p, s1) =>
      match r.atom.bind (fun a => s1.endAtomic t a d p) with
      | some s2 => s2
      | none => s1.setTxn r.gl { t with phase := .alloc, line := some (d, p) }
  | _ =>
    let g := s.checkWrite r.gl r.mask fl
    if g.needsBase r.gl r.mask then
      match g.obtainBelow t with
      | (.wait ph, s1) => s1.setTxn r.gl { t with phase := ph }
      | (.line d p, s1) =>
        match s1.endWrite t (d, p) with
        | some s2 => s2
        | none => s1.setTxn r.gl { t with phase := .alloc, line := some (d, p) }
    else
      match g.endWrite t (0, false) with
      | some s2 => s2
      | none => g.setTxn r.gl { t with phase := .alloc }

/-- The request's effect: it first waits for the room its filter and directory entries need (R202, R208), and a grant for the
budget (R69, R209). -/
def State.effect (s : State) (t : Txn) (fl : Flips) : State :=
  let r := t.req
  match s.displaced r with
  | some v => (s.displace v (s.filterVictim r.gl).isSome).setTxn r.gl { t with phase := .alloc }
  | none =>
    if r.kind = .own ∧ r.src.isFabric ∧ s.grantRoom ∧ s.grantRaises s.grantSlot then
      (s.setTxn r.gl { t with phase := .hold }).govern
    else s.ownEffect t fl

/-- A write's fate decided (R53, R74, R155, R214, R276), then its effect. -/
def State.judge (s : State) (t : Txn) (fl : Flips) : State :=
  let r := t.req
  match r.writes with
  | none => s.effect t fl
  | some (m, atomic) =>
    match s.verdict r.gl m r.src atomic with
    | .accept => s.effect t fl
    | .hold => (s.setTxn r.gl { t with phase := .hold }).govern
    | .refuse => ((s.logDiscard r.gl m r.src atomic).delTxn r.gl).answerRefuse r
    | .discard =>
      let s1 := (s.logDiscard r.gl m r.src atomic).delTxn r.gl
      if atomic then
        let x := s1.lineNow r.gl
        s1.answerData r x.1 x.2
      else match r.kind, r.src with
        | .own, .store c => s1.sbPop c r.gl
        | .own, .atom _ => s1.answerData r (s1.lineNow r.gl).1 (s1.lineNow r.gl).2
        | _, _ => s1.answerWrite r false

/-- Loans that conflict are ended first (R210); a line that is away is read as poison (R214). -/
def State.afterSnoop (s : State) (t : Txn) (fl : Flips) : State :=
  let r := t.req
  let sh := (s.loan r.gl).sharers
  match s.grant r.gl with
  | some g =>
    if g.away then
      if r.kind = .inval then s.judge t fl
      else if r.writes.isNone then
        ((s.log E.CLO_LINE_AWAY 0 0 (gaOf r.gl)).delTxn r.gl).answerData r 0 true
      else s.judge t fl
    else if s.recalling r.gl then s.setTxn r.gl { t with phase := .loan, away := some g.seat, remote := true }
    else if (s.freeTag g.seat).isNone then s.setTxn r.gl { t with phase := .alloc }
    else
      (s.fabSend .recall g.seat r.gl .dev 0 0 false none).setTxn r.gl
        { t with phase := .loan, away := some g.seat, remote := true }
  | none =>
    if sh ≠ 0 ∧ r.kind.conflictsShared then
      if (List.range 64).any (fun k => sh.getLsbD k && (s.freeTag k).isNone) then s.setTxn r.gl { t with phase := .alloc }
      else (s.sendInvs r.gl sh).setTxn r.gl { t with phase := .loan, invs := sh, remote := true }
    else s.judge t fl

/-- A request is looked up at its slice (Table 19.2): whether it misses, and whether it is a zero-line operation, is counted as
well. -/
def State.lookedUp (s : State) (r : Req) : State :=
  ((s.tSlice (sliceOf r.gl) 0x01 1).tSlice (sliceOf r.gl) 0x02 (b2n (s.vfind r.gl).isNone)).tSlice (sliceOf r.gl) 0x05
    (b2n (decide (r.kind = .zero)))

/-- A request starts (R203): its snoop on a filter hit (R202), or straight on. -/
def State.startReq (s : State) (r : Req) (waited : Bool) (fl : Flips) : State :=
  let hit := s.filterHas r.gl
  let t := Txn.start r waited hit
  if hit ∨ r.kind = .inval then
    ((s.lookedUp r).tSlice (sliceOf r.gl) 0x04 1 |>.addWrap D.CLO_FILTER_snoops 1).setTxn r.gl { t with phase := .snoop }
  else ((s.lookedUp r).setTxn r.gl t).afterSnoop t fl

/-- Requests waiting in a slice's conflict queue (R203). -/
def State.confCount (s : State) (sl : Nat) : Nat :=
  (s.coh.conf.filter (fun q => decide (sliceOf q.gl = sl))).length

/-- A request reaches its home slice: it starts, or waits behind an earlier request for its line; while the queue is
full the ring stop takes no request flit (R203). -/
def State.arriveReq (s : State) (r : Req) (fl : Flips) : State :=
  if s.busyLine r.gl ∨ s.coh.conf.any (fun q => decide (q.gl = r.gl)) then
    if s.confCount (sliceOf r.gl) < 64 then { s with coh := { s.coh with conf := s.coh.conf ++ [r] } } else s
  else if s.confCount (sliceOf r.gl) < 64 then s.startReq r false fl
  else s

end Sys2Proof.Machine
end

