-- ==== Sys2Proof/Machine/Ledger.lean ====
section
/-! DEFINITION. The ledger store (Chapter 15): pages and their bytes, accepting a page write, reading a page, raw
access and two-copy mode. -/

namespace Sys2Proof.Machine

/-! Pages (R438, R439, R449). -/

/-- A reserved page of Table 15.1. -/
def ldgReserved (p : Nat) : Bool := decide (4 ≤ p ∧ p ≤ 7 ∨ 216 ≤ p ∧ p ≤ 255 ∨ 2816 ≤ p ∧ p ≤ 8191)

/-- A key slot page. -/
def ldgKeyPage (p : Nat) : Bool := decide (8 ≤ p ∧ p ≤ 71)

/-- A page whose content the spec gives no byte layout for. -/
def ldgOpenLayout (p : Nat) : Bool :=
  decide (p ≤ 3 ∨ 72 ≤ p ∧ p ≤ 87 ∨ 1280 ≤ p ∧ p ≤ 2303 ∨ 2560 ≤ p ∧ p ≤ 2751)

/-- First protected page of a level (R449); 16,384 for none. -/
def ldgProtFrom (level : Nat) : Nat :=
  if level = 0 then 16384 else if level = 1 then 12288 else if level = 2 then 8192 else 0

/-- Whether raw writes to a page are protected. -/
def State.ldgProtected (s : State) (p : Nat) : Bool := decide (ldgProtFrom (s.rd D.LDG_PROT_level) ≤ p)

/-- A page of 8-byte words, word 0 first. -/
def pageOfWords (ws : List Nat) : Page :=
  BitVec.ofNat 2048 (ws.zipIdx.foldl (fun a e => a + (e.1 % 2 ^ 64) * 2 ^ (64 * e.2)) 0)

/-- Word `w` of a page. -/
def pageWord (p : Page) (w : Nat) : Nat := p.toNat / 2 ^ (64 * w) % 2 ^ 64

/-- The bytes of region table page `k`, from a table (Table 2.5). -/
def regionPage (f : Nat → Region) (k : Nat) : Page :=
  pageOfWords ((List.range 32).map (fun i => (f (8 * k + i / 4)).word (8 * k + i / 4) (i % 4)))

/-- The word of ATQ_CFG that a queue's fields spell. -/
def State.atqWord (s : State) (n : Nat) : Nat :=
  [D.ATQ_CFG_enable, D.ATQ_CFG_priv, D.ATQ_CFG_type, D.ATQ_CFG_order, D.ATQ_CFG_port, D.ATQ_CFG_vector,
    D.ATQ_CFG_ct].foldl (fun a f => a + s.rd f n * 2 ^ f.lo) 0

/-- The bytes of queue configuration page `k`. -/
def State.atqPage (s : State) (k : Nat) : Page := pageOfWords ((List.range 32).map (fun i => s.atqWord (32 * k + i)))

/-- What a page of a stated layout holds where nothing has been written to it. -/
def ldgDefault : Page := 0

/-- A page of free values. DESIGN CHOICE, log 56. -/
def State.freePage (s : State) : Page × State :=
  let x := (List.range 32).foldl (fun (a : List Nat × State) _ =>
    let f := a.2.fresh
    (a.1 ++ [f.1.toNat], f.2)) ([], s)
  (pageOfWords x.1, x.2)

/-- The bytes a page reads as: free values where the page's layout is not stated and no raw write gave it bytes.
DEDUCED, log 55. -/
def State.ldgBytes (s : State) (p : Nat) : Page × State :=
  match SMap.find s.led.pages p with
  | some b => (b, s)
  | none => if ldgReserved p then (0, s) else if ldgOpenLayout p then s.freePage else (ldgDefault, s)

/-- Replaces the ledger store. -/
def State.setLed (s : State) (l : Ledger) : State := { s with led := l }

/-- Gives a page bytes. -/
def State.ldgPut (s : State) (p : Nat) (b : Page) : State := s.setLed { s.led with pages := SMap.ins s.led.pages p b }

/-! Writes (R441, R442). -/

/-- The die accepts a page write; from step 1 of a flush until the next start only the flush's own are kept (R442), and in
ROM_RECOVERY only the start record and the firmware area are written (R490). -/
def State.pageWrite (s : State) (page : Nat) (data : Option Page) (owner : PgOwner) (flush : Bool := false) : State :=
  let recovery := decide (s.phase = stRomRecovery ∧ page < 12288) && !decide (2304 ≤ page ∧ page ≤ 2559)
  if ((s.phase = stFlushing ∨ s.phase = stResetting) ∧ flush = false) ∨ recovery then s
  else s.setLed { s.led with queue := s.led.queue ++ [⟨page, data, owner, false, false, flush⟩] }

/-- Writes that have not started are dropped (R442). -/
def State.pageDrop (s : State) : State :=
  s.setLed { s.led with queue := s.led.queue.filter (fun w => w.started || w.flush) }

/-- The configuration of a queue is written to its page (R439). -/
def State.atqSave (s : State) (n : Nat) : State := s.pageWrite (88 + n / 32) (some (s.atqPage (n / 32))) .bytes

/-- A progress record (Table 17.2): kind 1 ANNAL, 2 PERIODIC, 3 START, and for a START its outcome, cause, step and
milliseconds from V; it goes to the next page of the ring (R448). -/
def State.progress (s : State) (kind outcome cause step ms : Nat) (flush : Bool := false) : State :=
  let q := s.led.progSeq + 1
  let w3 := s.boot.startCount * 2 ^ 32 + kind * 2 ^ 24 + outcome * 2 ^ 16 + cause * 2 ^ 8 + step
  (s.setLed { s.led with progSeq := q, progAt := s.now }).pageWrite (2304 + q % 256)
    (some (pageOfWords [q, s.rd D.REC_HEAD_seq + 1, s.now, w3, ms])) .bytes flush

/-- The newest readable progress record that passes a test (R448): its words 0 to 4. -/
def State.newestProgress (s : State) (p : List Nat → Bool) : Option (List Nat) :=
  (s.led.pages.filter (fun e => decide (2304 ≤ e.1 ∧ e.1 ≤ 2559) && !s.led.bad.contains e.1)).foldl
    (fun (a : Option (List Nat)) e =>
      let w := (List.range 5).map (pageWord e.2)
      if w.headD 0 = 0 ∨ p w = false then a
      else match a with
        | some x => if x.headD 0 < w.headD 0 then some w else a
        | none => some w) none

/-! Commands (R450 to R453). -/

/-- A command ends with a raw status. -/
def State.ldgRawEnd (s : State) (status : Nat) : State :=
  ((s.wr D.LDG_PGCMD_status status).wr D.LDG_STAT_cmdbusy 0).setLed { s.led with cmd := none }

/-- Fills the page buffer. -/
def State.ldgBuffer (s : State) (b : Page) : State :=
  (List.range 32).foldl (fun a w => a.wr D.LDG_PGDATA_data (pageWord b w) w) s

/-- The bytes of the page buffer. -/
def State.ldgBufferPage (s : State) : Page := pageOfWords ((List.range 32).map (fun w => s.rd D.LDG_PGDATA_data w))

/-- Starts a command. -/
def State.ldgBegin (s : State) (c : LdgCmd) : State := (s.wr D.LDG_STAT_cmdbusy 1).setLed { s.led with cmd := some c }

/-- LDG_PGCMD.cmd is written (R450). -/
def State.ldgPgcmd (s : State) (c : Nat) : State :=
  let p := s.rd D.LDG_PGADDR_page
  if s.bit D.LDG_STAT_cmdbusy ∨ c = 0 ∨ 2 < c then s
  else if c = 1 then
    if ldgKeyPage p then (s.ldgBuffer 0).ldgRawEnd 0x04
    else if ldgReserved p then (s.ldgBuffer 0).ldgRawEnd 0x00
    else s.ldgBegin (.read p)
  else if s.phase = stRomRecovery then s.ldgRawEnd 0x05
  else if ldgKeyPage p then s.ldgRawEnd 0x04
  else if s.ldgProtected p then (s.log E.LDG_PROTECT_WRITE 0 0 p).ldgRawEnd 0x03
  else if ldgReserved p then s.ldgRawEnd 0x06
  else (s.ldgBegin (.write p)).pageWrite p (some s.ldgBufferPage) .raw

/-- A two-copy command ends. -/
def State.ldgTcEnd (s : State) (status : Nat) : State :=
  ((s.wr D.LDG_TCSTAT_status status).wr D.LDG_STAT_cmdbusy 0).setLed { s.led with cmd := none }

/-- LDG_TCCMD is written with its pair and command (R451 to R453). -/
def State.ldgTccmd (s : State) (pair c : Nat) : State :=
  let a := s.rd D.LDG_TCCFG_base + 2 * pair
  if s.bit D.LDG_STAT_cmdbusy ∨ c = 0 ∨ 2 < c then s
  else if c = 2 ∧ s.phase = stRomRecovery then s.ldgTcEnd 0x04
  else if s.rd D.LDG_TCCFG_count ≤ pair then s.ldgTcEnd 0x03
  else if c = 2 ∧ s.ldgProtected a then (s.log E.LDG_PROTECT_WRITE 0 0 a).ldgTcEnd 0x02
  else s.ldgBegin (if c = 1 then .tcRead pair .due .due else .tcWrite pair .due .due)

/-- Sequence number of a copy (R451). -/
def copySeq (p : Page) : Nat := p.toNat % 2 ^ 32

/-- The CRC of a copy over its bytes 0 to 251. -/
def copyCrc (p : Page) : Nat := crc32 (p.toNat % 2 ^ 2016) 252

/-- Whether a copy's CRC matches. -/
def copyOk (p : Page) : Bool := decide (p.toNat / 2 ^ 2016 = copyCrc p)

/-- A copy of a record. -/
def copyOf (seq record : Nat) : Page :=
  let v := seq % 2 ^ 32 + record % 2 ^ 1984 * 2 ^ 32
  BitVec.ofNat 2048 (v + crc32 v 252 * 2 ^ 2016)

/-- Whether sequence number `a` is newer than `b` (R452). -/
def newer (a b : Nat) : Bool := let d := (a + 2 ^ 32 - b) % 2 ^ 32; decide (1 ≤ d ∧ d < 2 ^ 31)

/-- The copy selected by R452: 0 for A, 1 for B, with its bytes. -/
def Copy.select (a b : Copy) : Option (Nat × Page) :=
  match a, b with
  | .valid x, .valid y => if newer (copySeq y) (copySeq x) then some (1, y) else some (0, x)
  | .valid x, _ => some (0, x)
  | _, .valid y => some (1, y)
  | _, _ => none

/-- Whether both copies are valid, and whether their sequence numbers are equal. -/
def Copy.both : Copy → Copy → Bool × Bool
  | .valid x, .valid y => (true, decide (copySeq x = copySeq y))
  | _, _ => (false, false)

/-- Both copies of a pair have been read: the read ends, or the write is queued (R452, R453). -/
def State.ldgPairRead (s : State) (pair : Nat) (wr : Bool) (a b : Copy) : State :=
  let bo := Copy.both a b
  let s0 := (s.wr D.LDG_TCSTAT_both (b2n bo.1)).wr D.LDG_TCSTAT_equal (b2n bo.2)
  let sel := Copy.select a b
  if wr then
    let c := match sel with
      | some (k, p) => (1 - k, (copySeq p + 1) % 2 ^ 32)
      | none => (0, 1)
    let page := s.rd D.LDG_TCCFG_base + 2 * pair + c.1
    (((s0.wr D.LDG_TCSTAT_copy c.1).wr D.LDG_TCSTAT_seq c.2).setLed { s0.led with cmd := some .tcDone }).pageWrite page
      (some (copyOf c.2 (s.ldgBufferPage.toNat % 2 ^ 1984))) .twoCopy
  else match sel with
    | some (k, p) =>
      ((((s0.wr D.LDG_TCSTAT_copy k).wr D.LDG_TCSTAT_seq (copySeq p)).ldgBuffer
        (BitVec.ofNat 2048 (p.toNat / 2 ^ 32 % 2 ^ 1984))).ldgTcEnd 0x00)
    | none => (((s0.wr D.LDG_TCSTAT_copy 0).wr D.LDG_TCSTAT_seq 0).ldgBuffer 0).ldgTcEnd 0x01

/-- A page read for the command under way has ended: its bytes, or none where it was uncorrectable. -/
def State.ldgDeliver (s : State) (page : Nat) (b : Option Page) (corrected : Bool) : State :=
  let copy : Copy := match b with
    | some x => if copyOk x then .valid x else .invalid
    | none => .invalid
  let pairStep (pair : Nat) (wr : Bool) (x y : Copy) : State :=
    let base := s.rd D.LDG_TCCFG_base + 2 * pair
    let x' := if page = base ∧ x = .due then copy else x
    let y' := if page = base + 1 ∧ y = .due then copy else y
    if x' = .due ∨ y' = .due then
      s.setLed { s.led with cmd := some (if wr then .tcWrite pair x' y' else .tcRead pair x' y') }
    else s.ldgPairRead pair wr x' y'
  match s.led.cmd with
  | some (.read p) =>
    if p = page then
      match b with
      | some x => (s.ldgBuffer x).ldgRawEnd (if corrected then 0x01 else 0x00)
      | none => (s.ldgBuffer 0).ldgRawEnd 0x02
    else s
  | some (.tcRead pair x y) => pairStep pair false x y
  | some (.tcWrite pair x y) => pairStep pair true x y
  | _ => s

/-! Reading (R440, R445). -/

/-- The owner of a page acts on finding it uncorrectable (Table 15.1), where it acts at once. -/
def State.pageLost (s : State) (p : Nat) : State :=
  if p = 0 then { s with gov := { s.gov with stored := none } }
  else if p = 2 then s.setLed { s.led with alerts := Alerts.init }
  else if p = 3 then s.setLed { s.led with pages := SMap.ins s.led.pages 3 0 }
  else if ldgKeyPage p then { s with slots := SMap.del s.slots (p - 8) }
  else s

/-- A page was found uncorrectable: counted, remembered and logged. -/
def State.pageUncorr (s : State) (p : Nat) (inj : Bool) : State :=
  ((s.addSat D.LDG_ERR_uncorr 1).wr D.LDG_ERRPAGE_page p).log E.LDG_PAGE_UNCORR 0 0 p inj

/-- Marks a page as uncorrectable. -/
def State.pageBad (s : State) (p : Nat) : State :=
  if s.led.bad.contains p then s else s.setLed { s.led with bad := s.led.bad ++ [p] }

/-- A page is read, decoded and checked (R445): outcome 0 good, 1 corrected, 2 uncorrectable. A page whose write has
started is read after it (R440). -/
def State.pageRead (s : State) (p : Nat) (outcome : Nat) : State :=
  if s.led.queue.any (fun w => decide (w.page = p) && w.started) then s
  else
    let x := s.inject 0x15 (hitInst1 p) 2176
    let n := popBelow x.1.mask 2176
    let o := if s.led.bad.contains p ∨ outcome = 2 ∨ 8 < n then 2 else if outcome = 1 ∨ 0 < n then 1 else 0
    let d := x.2.ldgBytes p
    if o = 0 then d.2.ldgDeliver p (some d.1) false
    else if o = 1 then
      (((d.2.addSat D.LDG_ERR_corr 1).log E.LDG_PAGE_CORR 0 0 0 x.1.fired).pageWrite p
        (if ldgOpenLayout p ∧ SMap.has s.led.pages p = false then none else some d.1) .bytes).ldgDeliver p (some d.1) true
    else
      let s1 := if outcome = 2 then x.2.pageBad p else x.2
      ((s1.pageUncorr p x.1.fired).pageLost p).ldgDeliver p none false

/-- PAGE_READ (R440, R445). -/
def execPageRead (page : Fin 16384) (outcome : Fin 3) (s : State) : Result := .next (s.pageRead page outcome)

/-- LEDGER_SCRUB (R445): the scrub reads one page. -/
def execLedgerScrub (page : Fin 16384) (outcome : Fin 3) (s : State) : Result := .next (s.pageRead page outcome)

/-- PROGRESS_RECORD (R448): none while the device flushes, resets, recovers, or starts before the end of step 10. -/
def execProgressRecord (s : State) : Result :=
  .next (if s.isOpen ∨ (s.phase = stStarting ∧ 11 ≤ s.boot.step) then s.progress 2 0 0 0 0 else s)

end Sys2Proof.Machine
end

