-- ==== Sys2Proof/Machine/Slices.lean ====
section
/-! DEFINITION. The home slice's commands: requests, snoops and their responses, eviction, wing invalidate-all, loan
ways and way disabling (Chapters 6 and 7). -/

namespace Sys2Proof.Machine

/-! Requests. -/

/-- Whether a requester has a request for a line under way, here or across the fabric. -/
def State.asking (s : State) (gl : Nat) (src : Src) : Bool :=
  s.coh.conf.any (fun r => decide (r.gl = gl ∧ r.src = src)) ||
    s.coh.txns.any (fun e => decide (e.2.req.gl = gl ∧ e.2.req.src = src)) || s.fabAsked gl src

/-- Whether a line is the next a waiting load asks for: the unit in the lower line is issued first (R224). -/
def State.wantsLine (s : State) (c gl : Nat) : Bool :=
  match (s.ctx c).hold with
  | .load l => l.atom.isNone &&
    decide ((l.units.find? (fun u => u.got.isNone && !s.asking u.gl (.load c))).map LdUnit.gl = some gl)
  | _ => false

/-- The atomic a context waits for on a line, if it is to run at the line's home. -/
def State.wantsAtom (s : State) (c gl : Nat) : Option Atom :=
  match (s.ctx c).hold with
  | .load l => if l.near = false ∧ l.units.any (fun u => decide (u.gl = gl) && u.got.isNone) then l.atom else none
  | _ => none

/-- The oldest store buffer entry of a context, when it is for the line. -/
def State.headStore (s : State) (c gl : Nat) : Option SbEnt :=
  match (s.ctx c).sb with
  | e :: _ => if e.gl = gl then some e else none
  | [] => none

/-- The requester of a master. -/
def masterSrc (m : Master) : Src :=
  if m.kind = 0 then .port (m.id.val % 4) m.tag else if m.kind = 1 then .store m.id.val
  else if m.kind = 2 then .job m.id.val m.tag else .dev

/-- A request without bytes. -/
def Req.plain (kind : ReqKind) (gl : Nat) (src : Src) : Req := ⟨kind, gl, src, 0, 0, false, none⟩

/-- Logs the answer of R355 to a request for a vacant seat or from an unseated device. -/
def State.seatEmptyLog (s : State) (gl : Nat) : State := s.log E.FAB_SEAT_EMPTY (seatOf gl) 0 (gaOf gl)

/-- Whether a wing of this device holds another device's line MODIFIED: its bytes join the loan way, and every wing's
copy becomes SHARED or, for a write, ends (R207). -/
def State.loanCollect (s : State) (gl : Nat) (drop : Bool) : State :=
  (List.range 8).foldl (fun a w =>
    match a.wfind w gl with
    | none => a
    | some l =>
      let x := if l.st = .modified then a.wtake w gl l else (l, a)
      let a1 := if l.st = .modified then x.2.wbPush w gl x.1 else a
      if drop then a1.wdrop w gl else a1.wset w gl { x.1 with st := .shared }) s

/-- A line on loan here answers a reader of this device, whose wing keeps a copy of it (R189, R207). -/
def State.loanCopy (s : State) (gl : Nat) (lent : Lent) (src : Src) (d : Line) : State :=
  let others := (List.range 8).any (fun x => (s.wfind x gl).isSome)
  let st := if lent = .modified ∧ others = false then WSt.owned else WSt.shared
  match src with
  | .load c => (s.wfill c gl ⟨st, d, false⟩).giveUnits c gl d false
  | .fetch c => (s.wfill2 c gl ⟨st, d, false⟩).answerData (Req.plain .read gl src) d false
  | _ => s.answerData (Req.plain .peek gl src) d false

/-- A read of another device's line: from its loan way (R217), or by LREAD where there are loan ways and the reader may
keep a copy, else by FREAD; at once where the seat is vacant or this device unseated (R355). It waits while a delivery or
release of the line is under way. -/
def State.readRemote (s0 : State) (gl : Nat) (src : Src) (keep : Bool) (fl : Flips) : State :=
  let s := s0.tSlice (sliceOf gl) 0x01 1
  let ask (x : State) : State :=
    if x.seatEmpty gl then (x.seatEmptyLog gl).answerData (Req.plain .peek gl src) 0 true
    else if x.leaving gl then x
    else x.fabSend (if keep && decide (0 < x.coh.loanWays) then .lread else .fread) (seatOf gl) gl src 0 0 false none
  let s1 := s.loanCollect gl false
  match s1.vfind gl with
  | none => ask (s.tSlice (sliceOf gl) 0x02 1)
  | some (w, v) =>
    match s1.checkWay gl w v fl with
    | (some (d, p), s2) =>
      let s3 := s2.touch gl w
      if p then s3.answerData (Req.plain .peek gl src) d true else s3.loanCopy gl v.lent src d
    | (none, s2) => ask s2

/-- A fetch that its core's L1 instruction cache or its wing's L2 serves (R179, R180, R194): none where the home must. -/
def State.fetchHit (s : State) (c gl : Nat) (fl : Flips) : Option State × State :=
  match s.l1iFind (coreOf c) gl with
  | some d => (some (s.l1iFill (coreOf c) gl d), s)
  | none =>
    match s.wfind (wingOf c) gl with
    | none => (none, s.tWing (wingOf c) 0x03 1)
    | some l =>
      match s.checkWing (wingOf c) gl l fl with
      | (some l', s1) =>
        let r := s1.shown gl (l'.data, l'.poison)
        (some ((s1.l2Touch (wingOf c) gl).answerData (Req.plain .read gl (.fetch c)) r.1 r.2), s1)
      | (none, s1) => (none, s1)

/-- READ (R202). -/
def execRead (c : Fin 256) (ga : BitVec 50) (fetch : Bool) (fl : Flips) (s : State) : Result :=
  let gl := ga.toNat / 64
  let src : Src := if fetch then .fetch c else .load c
  if (fetch || s.wantsLine c gl) = false ∨ s.asking gl src then .next s
  else match (if fetch then s.fetchHit c gl fl else (none, s)) with
    | (some a, _) => .next a
    | (none, a) => .next (if a.isLocal gl then a.arriveReq (Req.plain .read gl src) fl else a.readRemote gl src true fl)

/-- The near atomic a context waits for, on the line it needs (R219). -/
def State.wantsNear (s : State) (c : Nat) : Option (Nat × Atom) :=
  match (s.ctx c).hold with
  | .load l => match l.units, l.atom with
    | [u], some a => if l.near ∧ u.got.isNone then some (u.gl, a) else none
    | _, _ => none
  | _ => none

/-- OWN (R201, R219): for the oldest store of a context, or the near atomic it waits for, on a local WB line. -/
def execOwn (c : Fin 256) (fl : Flips) (s : State) : Result :=
  match (s.ctx c).sb with
  | [] =>
    match s.wantsNear c with
    | some (gl, a) => .next (if s.isLocal gl = false ∨ s.asking gl (.atom c) then s
        else s.arriveReq ⟨.own, gl, .atom c, 0, a.mask, false, some a⟩ fl)
    | none => .next s
  | e :: _ =>
    .next (if s.isLocal e.gl = false ∨ (s.attrOf e.gl).wpol ≠ .wb ∨ e.zline ∨ s.asking e.gl (.store c) then s
      else s.arriveReq ⟨.own, e.gl, .store c, e.data, e.mask, false, none⟩ fl)

/-- Whether a port has a request for a line under way across the fabric. -/
def State.portAsked (s : State) (p gl : Nat) : Bool :=
  s.coh.freqs.any (fun e => decide (e.2.gl = gl) && (match e.2.src with
    | .port q _ => decide (q = p)
    | _ => false))

/-- Whether a read is the next of a port's to its line: the port's requests for one line are performed in the order it received
them, and across the fabric one at a time (R223). -/
def State.readTurn (s : State) (p tag gl : Nat) : Bool :=
  decide (((s.port p).reads.find? (fun r => decide (r.ga / 64 = gl) && !s.asking gl (.port p r.tag))).map PortRead.tag =
    some tag) && (s.isLocal gl || !s.portAsked p gl)

/-- PEEK (R202): the read a host port has registered (CXL_MEM_READ). -/
def execPeek (port : Fin 4) (tag : Nat) (ga : BitVec 50) (fl : Flips) (s : State) : Result :=
  let gl := ga.toNat / 64
  .next (if s.readTurn port tag gl = false then s
    else if s.isLocal gl then s.arriveReq (Req.plain .peek gl (.port port tag)) fl
    else s.readRemote gl (.port port tag) false fl)

/-- WRITE (R193): for a context, its oldest store, on a local line; for any other master, the bytes it carries. -/
def execWrite (m : Master) (ga : BitVec 50) (data : Line) (mask : LineMask) (poison : Bool) (fl : Flips) (s : State) :
    Result :=
  let gl := ga.toNat / 64
  .next (if s.isLocal gl = false ∨ s.asking gl (masterSrc m) ∨ s.storesClosed then s
    else match (masterSrc m) with
      | .store c =>
        match s.headStore c gl with
        | some e =>
          if e.zline ∨ (s.attrOf gl).wpol = .wb then s
          else s.arriveReq ⟨.write, gl, .store c, e.data, e.mask, false, none⟩ fl
        | none => s
      | src => s.arriveReq ⟨.write, gl, src, data, mask, poison, none⟩ fl)

/-- The atomic operations in the order of Table 8.4's mnemonics. -/
def atomOpOf (n : Nat) : AtomOp :=
  if n = 0 then .swap else if n = 1 then .add else if n = 2 then .and else if n = 3 then .or else if n = 4 then .xor
  else if n = 5 then .min else if n = 6 then .max else if n = 7 then .minu else if n = 8 then .maxu else .cas

/-- ATOMIC (R219): for a context, the atomic it waits for; for any other master, the one it carries. -/
def execAtomic (m : Master) (ga : BitVec 50) (op : Fin 10) (wide : Bool) (off : Fin 64) (a b : Word) (fl : Flips)
    (s : State) : Result :=
  let gl := ga.toNat / 64
  .next (if s.isLocal gl = false ∨ s.storesClosed then s
    else if m.kind = 1 then
      match s.wantsAtom m.id gl with
      | some x => if s.asking gl (.atom m.id) then s
          else s.arriveReq ⟨.atomic, gl, .atom m.id, 0, 0, false, some x⟩ fl
      | none => s
    else if s.asking gl (masterSrc m) then s
    else s.arriveReq ⟨.atomic, gl, (masterSrc m), 0, 0, false, some ⟨atomOpOf op, if wide then 8 else 4, off, a, b⟩⟩ fl)

/-- ZERO (R187): for a context, the zero-line operation that is its oldest store. Host ports have no zero-line request. -/
def execZero (m : Master) (ga : BitVec 50) (fl : Flips) (s : State) : Result :=
  let gl := ga.toNat / 64
  .next (if s.isLocal gl = false ∨ s.asking gl (masterSrc m) ∨ s.storesClosed then s
    else match (masterSrc m) with
      | .store c =>
        match s.headStore c gl with
        | some e => if e.zline then s.arriveReq ⟨.zero, gl, .store c, 0, fullMask, false, none⟩ fl else s
        | none => s
      | .port _ _ => s
      | src => s.arriveReq ⟨.zero, gl, src, 0, fullMask, false, none⟩ fl)

/-- The bytes of a write-back, or of a snoop, reach the home: a dirty line (R204, R205). -/
def State.dirtyHome (s : State) (gl : Nat) (d : Line) (p : Bool) : Option State := s.homeStore gl d fullMask p (0, false)

/-- WRITEBACK (R205): the wing's oldest write-back reaches its home. A request whose snoop was answered "write-back
pending" takes it as its snoop data. -/
def execWriteback (wing : Fin 8) (s : State) : Result :=
  match s.coh.wbq.find? (fun e => decide (e.wing = wing.val)) with
  | none => .next s
  | some e =>
    let s1 : State := { s with coh := { s.coh with wbq := s.coh.wbq.erase e } }
    match s1.txn e.gl with
    | some t =>
      if t.wbPend then .next (s1.setTxn e.gl { t with got := some (e.data, e.poison), wbPend := false })
      else .next ((s1.dirtyHome e.gl e.data e.poison).getD s)
    | none => .next ((s1.dirtyHome e.gl e.data e.poison).getD s)

/-- HOME_REQUEST_START (R203): the earliest waiting request of the slice whose line is free starts. -/
def execHomeRequestStart (slice : Fin 16) (fl : Flips) (s : State) : Result :=
  match s.coh.conf.find? (fun r => decide (sliceOf r.gl = slice.val) && !s.busyLine r.gl) with
  | none => .next s
  | some r => .next (({ s with coh := { s.coh with conf := s.coh.conf.erase r } } : State).startReq r true fl)

/-! Snoops (R20, R202, R204, R205). -/

/-- Whether a request's snoop invalidates (Table 7.2). -/
def ReqKind.invalidates : ReqKind → Bool
  | .read => false
  | .peek => false
  | _ => true

/-- The wing a request comes from. -/
def Src.atWing : Src → Option Nat
  | .load c => some (wingOf c)
  | .fetch c => some (wingOf c)
  | .store c => some (wingOf c)
  | .atom c => some (wingOf c)
  | _ => none

/-- What a snoop does at a wing stop. -/
def State.snoopWing (s : State) (w : Nat) (t : Txn) (fl : Flips) : State × Txn :=
  let gl := t.req.gl
  let other := t.taken || decide (t.req.src.atWing ≠ some w)
  if s.coh.wbq.any (fun e => decide (e.wing = w ∧ e.gl = gl)) then
    (s, { t with found := true, taken := other, wbPend := true })
  else match s.wfind w gl with
    | none => (s, t)
    | some l0 =>
      match s.checkWing w gl l0 fl with
      | (none, s1) => (s1, { t with found := true, taken := other })
      | (some l, s1) =>
        let t1 := { t with found := true, taken := other, got := if l.st = .modified then some (l.data, l.poison) else t.got }
        if t.req.kind.invalidates then (if l.st = .modified then s1.wdrop w gl else s1.wlose w gl l, t1)
        else
          let s2 := s1.wset w gl { l with st := .shared }
          (if l.st = .owned then s2.releaseClean gl else s2, t1)

/-- SNOOP (R204): stops 0 to 7 are the wings', 8 to 11 the fabric agents', which answer from the loan directory. -/
def execSnoop (ga : BitVec 50) (stop : Fin 12) (fl : Flips) (s : State) : Result :=
  let gl := ga.toNat / 64
  match s.txn gl with
  | none => .next s
  | some t =>
    if t.phase ≠ .snoop ∨ t.answered.getLsbD stop then .next s
    else
      let t0 := { t with answered := t.answered ||| BitVec.ofNat 12 (2 ^ stop.val) }
      if stop.val < 8 then
        let x := s.snoopWing stop t0 fl
        .next (x.1.setTxn gl x.2)
      else
        let lent := (decide ((s.loan gl).sharers ≠ 0) || (s.grant gl).isSome) && decide (sliceOf gl / 4 = stop.val - 8)
        .next (s.setTxn gl { t0 with found := t.found || lent })

/-- A complete snoop (R202, R204): a MODIFIED copy's bytes are written at the home, a filter entry that found nothing is
cleared, and the request goes on. None where the bytes must wait for a way. -/
def State.snoopDone (s : State) (t : Txn) (fl : Flips) : Option State :=
  let gl := t.req.gl
  let s0 : Option State := match t.got with
    | some (d, p) => s.dirtyHome gl d p
    | none => some s
  s0.map (fun a =>
    let a1 := if t.found ∨ (a.loan gl).sharers ≠ 0 ∨ (a.grant gl).isSome then a else a.filterDel gl
    let a2 := if t.req.kind.invalidates ∧ (a.loan gl).sharers = 0 then a1.filterDel gl else a1
    (a2.setTxn gl { t with got := none }).afterSnoop { t with got := none } fl)

/-- SNOOP_RESPONSE (R20, R204): one of the two copies returns; the second, after every stop has answered and no
write-back is pending, completes the snoop. DESIGN CHOICE, log 4. -/
def execSnoopResponse (ga : BitVec 50) (fl : Flips) (s : State) : Result :=
  let gl := ga.toNat / 64
  match s.txn gl with
  | none => .next s
  | some t =>
    if t.phase ≠ .snoop then .next s
    else if t.back = 0 then .next (s.setTxn gl { t with back := 1 })
    else if t.answered = BitVec.allOnes 12 ∧ t.wbPend = false then .next ((s.snoopDone t fl).getD s)
    else .next s

/-- ALLOCATION_RETRY (R183, R184). -/
def execAllocationRetry (ga : BitVec 50) (fl : Flips) (s : State) : Result :=
  let gl := ga.toNat / 64
  match s.txn gl with
  | some t => if t.phase = .alloc then .next (s.afterSnoop t fl) else .next s
  | none => .next s

/-! Eviction (R184, R185). -/

/-- Writes bytes into the staging window, where they wait for media (R118). -/
def State.toStaging (s : State) (ll : Nat) (d : Line) (mask : LineMask) (p : Bool) : State :=
  let e := match SMap.find s.med.stg ll with
    | some x => x
    | none => ⟨0, 0, false, false⟩
  let e' : StLine := ⟨merge e.data d mask, e.mask ||| mask, if mask = fullMask then p else e.poison || p, true⟩
  ({ s with med := { s.med with stg := SMap.ins s.med.stg ll e' } } : State).tSlice (sliceOf (s.glOf ll)) 0x03 1

/-- Staging has written an entry: a line of which nothing newer waits is clean in its way (R186). -/
def State.evWritten (s : State) (e : EvEnt) (d : Line) : State :=
  if e.mask = fullMask ∧ s.evOf e.gl = [] then
    s.vmod e.gl (fun v => if v.data = d ∧ v.poison = false then { v with dirty := false } else v)
  else s

/-- EVICTION_WRITEBACK (R184, R186, R407): the entry at place `pos` of the eviction buffers, the oldest of its line, is in
staging; a line that is uncorrectable in the buffer is lost. -/
def execEvictionWriteback (pos : Nat) (fl : Flips) (s : State) : Result :=
  match s.coh.evb[pos]? with
  | none => .next s
  | some e =>
    if (s.coh.evb.take pos).any (fun x => decide (x.gl = e.gl)) then .next s
    else
      let s1 : State := { s with coh := { s.coh with evb := s.coh.evb.eraseIdx pos } }
      if s.isLocal e.gl then
        if e.poison then .next (s1.losePoisoned e.gl)
        else match s1.checkStruct 0 (sliceOf e.gl) e.gl e.data fl with
          | (some d, s2) => .next ((s2.toStaging (llOf e.gl) d e.mask false).evWritten e d)
          | (none, s2) => .next (s2.losePoisoned e.gl)
      else .next s1

/-- The least recent way of a set that holds a charged dirty local line with no request in progress. -/
def State.governVictim (s : State) (sl set : Nat) : Option (Nat × VLine) :=
  (s.recency sl set).reverse.findSome? (fun w =>
    match SMap.find s.coh.vit (wayKey sl set w) with
    | some v => if v.dirty ∧ v.lent = .local ∧ s.charged v.gl ∧ s.busyLine v.gl = false ∧ v.poison = false then
        some (w, v) else none
    | none => none)

/-- Whether the governor's mode writes back ahead of need: EVICT, PACE, HOLD, or LOWENERGY, where flushing continues until D
is zero (R70, R74). -/
def State.writesBack (s : State) : Bool := let m := s.rd D.PWR_PGSTAT_mode; decide (1 ≤ m ∧ m ≤ 4)

/-- A line of a set that only a wing, or a loan way, keeps charged. -/
def State.lowVictim (s : State) (sl set : Nat) : Option Nat :=
  (s.coh.chg.map Prod.fst).find? (fun gl => decide (sliceOf gl = sl ∧ vitSet gl = set) && !s.busyLine gl &&
    (s.wingOwned gl || (match s.vfind gl with
      | some (_, v) => decide (v.lent = .modified)
      | none => false)))

/-- In LOWENERGY a charged line leaves the wings, and a loan ends, so that D can fall to zero (R74, R76). -/
def State.lowDrain (s : State) (sl set : Nat) : State :=
  match s.lowVictim sl set with
  | none => s
  | some gl => if s.isLocal gl then (List.range 8).foldl (fun (a : State) w => a.wevict w gl) s else s.endLoan gl

/-- GOVERNOR_EVICT (R185): the line stays valid and becomes clean; its charge stays. -/
def execGovernorEvict (slice : Fin 16) (set : Fin 3072) (s : State) : Result :=
  if s.writesBack = false then .next s
  else match s.governVictim slice set with
    | none => .next (if s.lowEnergy then s.lowDrain slice set else s)
    | some (w, v) =>
      if s.evbRoom slice = false then .next s
      else
        let x := s.takeWay w v
        if x.2.1 then .next x.2.2
        else .next ((x.2.2.setWay v.gl w { v with data := x.1, dirty := false }).toEvb v.gl .victim x.1 fullMask false)

/-! Wing invalidate-all (R188). -/

/-- The wings of a mask. -/
def wingsIn (m : BitVec 8) : List Nat := (List.range 8).filter (fun w => m.getLsbD w)

/-- Whether every store buffer of a wing is empty. -/
def State.wingDrained (s : State) (w : Nat) : Bool := (SMap.keys s.cur.ctxs).all (fun c => decide (wingOf c ≠ w) || decide ((s.ctx c).sb = []))

/-- The lines a wing holds. -/
def State.wingLines (s : State) (w : Nat) : List Nat :=
  (s.coh.wl.filter (fun e => decide (e.1 / 2 ^ 44 = w))).map (fun e => e.1 % 2 ^ 44)

/-- One line of a wing is written back and invalidated; another device's line leaves through an outbound buffer. -/
def State.wingFlushLine (s : State) (w gl : Nat) : State :=
  match s.wfind w gl with
  | none => s
  | some l =>
    if l.st ≠ .modified then s.wlose w gl l
    else
      let x := s.wtake w gl l
      let s1 := x.2.wdrop w gl
      if s.isLocal gl then (s1.dirtyHome gl x.1.data x.1.poison).getD (s1.wbPush w gl x.1)
      else (s1.wbPush w gl x.1).endLoan gl

/-- Every line of a wing is written back and invalidated. -/
def State.wingFlush (s : State) (w : Nat) : State :=
  let s1 := (s.wingLines w).foldl (fun a gl => a.wingFlushLine w gl) s
  { s1 with coh := { s1.coh with
      l1i := SMap.keep (fun k _ => decide (k / 1024 ≠ w)) s1.coh.l1i
      l1d := SMap.keep (fun k _ => decide (k / 1024 ≠ w)) s1.coh.l1d
      l2 := SMap.keep (fun k _ => decide (k / 1024 ≠ w)) s1.coh.l2 } }

/-- WING_INVALIDATE_ALL (R188). -/
def State.wingInvalidateAll (s : State) (wings : BitVec 8) : State :=
  if s.coh.invBusy ≠ 0 then s.log E.VIT_WINGINV_BUSY 0 0 0
  else if wings = 0 then s
  else { (s.wr D.VIT_WINGINV_busy 1) with coh := { s.coh with invBusy := wings } }

/-- WING_INVALIDATE_DONE (R188): once the named wings' store buffers have drained. -/
def execWingInvalidateDone (s : State) : Result :=
  let ws := wingsIn s.coh.invBusy
  if s.coh.invBusy = 0 ∨ ws.all s.wingDrained = false then .next s
  else
    let s1 := ws.foldl State.wingFlush s
    .next { (s1.wr D.VIT_WINGINV_busy 0) with coh := { s1.coh with invBusy := 0 } }

/-! Loan ways (R189, R190). -/

/-- LOAN_WAYS_CHANGE (R190): ignored while a change runs. -/
def State.loanWaysChange (s : State) (n : Nat) : State :=
  if s.bit D.VIT_STAT_loanbusy then s
  else
    let n' := min n 8
    let s1 := s.wr D.VIT_LOANCFG_ways n'
    if n' = s.coh.loanWays then s1 else s1.wr D.VIT_STAT_loanbusy 1

/-- Whether a way of a slice is in loan use. -/
def State.isLoanWay (s : State) (sl w : Nat) : Bool := (s.loanWaysOf sl).contains w

/-- The lines that stand in ways of the other class (R189), with their ways. -/
def State.misplaced (s : State) : List (Nat × VLine) :=
  (s.coh.vit.filter (fun e => s.isLoanWay (e.1 / 16 / 3072) (e.1 % 16) != decide (e.2.lent ≠ .local))).map
    (fun e => (e.1 % 16, e.2))

/-- A line leaves its way (R183, R186, R190, R195): none while a request for it is in progress or no eviction buffer entry is
free. -/
def State.vacate (s : State) (w : Nat) (v : VLine) : Option State := if s.busyLine v.gl then none else s.evictWay w v

/-- Empties the ways it can, one after another: the state, and whether all are empty. -/
def State.vacateAll (s : State) (l : List (Nat × VLine)) : State × Bool :=
  l.foldl (fun (a : State × Bool) e => match a.1.vacate e.1 e.2 with
    | some t => (t, a.2)
    | none => (a.1, false)) (s, true)

/-- LOAN_WAYS_DONE (R190): the lines that can leave the ways that change use do so, and the change ends with the last. -/
def execLoanWaysDone (s : State) : Result :=
  if s.bit D.VIT_STAT_loanbusy = false then .next s
  else
    let n := s.rd D.VIT_LOANCFG_ways
    let r := s.vacateAll ({ s with coh := { s.coh with loanWays := n } } : State).misplaced
    .next (if r.2 then { (r.1.wr D.VIT_STAT_loanbusy 0) with coh := { r.1.coh with loanWays := n } } else r.1)

/-! Disabling ways (R195 to R198). -/

/-- Sets or clears one bit of VIT_WAYDISn. -/
def State.setWayDis (s : State) (sl w : Nat) (on : Bool) : State :=
  let v := s.waysOff sl
  let v' := if on then (if v.testBit w then v else v + 2 ^ w) else (if v.testBit w then v - 2 ^ w else v)
  (s.wr (wayDisField sl) v' (sl / 4)).pageWrite 1 none .ways

/-- The map of disabled ways has changed: where the boundary between local and loan ways moved, the lines on the wrong side of it
leave as under a change of loan ways (R189, R190). DEDUCED, log 176. -/
def State.waysShift (s : State) : State := if s.misplaced = [] then s else s.wr D.VIT_STAT_loanbusy 1

/-- WAY_DISABLE_DONE (R195): the way's charged lines leave through the eviction buffer, or for their homes, and its clean lines
are dropped; the way is disabled once it is empty and what it sent is in staging. -/
def execWayDisableDone (slice : Fin 16) (way : Fin 16) (s : State) : Result :=
  if (s.wayCnt slice way).disabling = false ∨ s.isOpen = false then .next s
  else
    let r := s.vacateAll ((s.coh.vit.filter (fun e => decide (e.1 % 16 = way.val ∧ e.1 / 16 / 3072 = slice.val))).map
      (fun e => (way.val, e.2)))
    if r.2 = false ∨ r.1.coh.evb.any (fun e => decide (sliceOf e.gl = slice.val)) then .next r.1
    else
      let s1 : State := { r.1 with coh := { r.1.coh with autoOff := r.1.coh.autoOff ++ [slice.val * 16 + way.val] } }
      .next ((((s1.setWayDis slice way true).setWayCnt slice way WayCnt.init).log E.VIT_WAY_DISABLE slice way 0).waysShift)

/-- WAY_COUNT_WINDOW (R195). -/
def execWayCountWindow (s : State) : Result :=
  .next { s with coh := { s.coh with
    ways := (SMap.keep (fun _ v => v.disabling) s.coh.ways).map (fun e => (e.1, { WayCnt.init with disabling := true })) } }

/-- WAY_ENABLE (R197, R198). -/
def State.wayEnable (s : State) (sl w : Nat) : State :=
  if (s.waysOff sl).testBit w then
    let s1 := (s.setWayDis sl w false).setWayCnt sl w WayCnt.init
    ({ s1 with coh := { s1.coh with autoOff := s1.coh.autoOff.filter (fun k => k ≠ sl * 16 + w) } } : State).waysShift
  else s

/-- VIT_LOOKUP_WRITE (R182). -/
def State.vitLookup (s : State) (v : Nat) : State :=
  let gl := v % 2 ^ 50 / 64
  (((s.wr D.VIT_LOOKUP_addr (v % 2 ^ 50)).wr D.VIT_LOOKRES_slice (sliceOf gl)).wr D.VIT_LOOKRES_set (vitSet gl)).wr
    D.VIT_LOOKRES_ring (ringOf gl)

/-! Held acceptances (R71). -/

/-- HOLD_RELEASE (R71): a request that waits for the budget goes on once its write is no longer held.
DEDUCED, log 114. -/
def execHoldRelease (gl : BitVec 44) (fl : Flips) (s : State) : Result :=
  match SMap.find s.coh.txns gl.toNat with
  | none => .next s
  | some t =>
    match t.req.writes with
    | none => .next (if t.phase ≠ .hold ∨ s.grantRaises s.grantSlot then s else (s.judge t fl).govern)
    | some (m, atomic) =>
      .next (if t.phase ≠ .hold ∨ s.verdict t.req.gl m t.req.src atomic = .hold then s else (s.judge t fl).govern)

end Sys2Proof.Machine
end

