-- ==== Sys2Proof/Machine/Borrow.lean ====
section
/-! DEFINITION. The fabric line messages (Table 7.3), at a home and at a borrower: loans, outbound entries, deliveries,
recalls, losses, the start announcement and the sweeps (R207 to R217, R230, R231, R355, R357). -/

namespace Sys2Proof.Machine

/-! Numbers of the fabric messages that are no line message (`Out.fabMsg`). -/

def msgHomeDown : Nat := 1
def msgStart : Nat := 2
def msgSweep : Nat := 3
def msgLinkRecord : Nat := 4
def msgClaim : Nat := 5
def msgCommit : Nat := 6
def msgSeatCmd : Nat := 7
def msgBeacon : Nat := 8
def msgGop : Nat := 9
def msgBarrier : Nat := 10
def msgFlit : Nat := 11
def msgConfig : Nat := 12
def msgSeatStatus : Nat := 13
def msgVtSet : Nat := 14

/-! At a home. -/

/-- A line message not performed before, at its home: a home that is flushing or resetting answers HOMEDOWN (R357); a home
that has not joined does not answer, nor does one that accepts no store yet (R65). -/
def State.fabFresh (s : State) (seat tag : Nat) (gen : Bool) (kind : FKind) (gl : Nat) (run : State → State) : State :=
  if s.phase = stFlushing ∨ s.phase = stResetting ∨
      s.stgE.blocked.any (fun e => decide (e.1 = seat ∧ e.2.1 = tag ∧ s.now < e.2.2)) then
    s.emit (.fabMsg msgHomeDown (some seat) [tag, b2n gen])
  else if s.storesClosed ∧ (kind = .fwrite ∨ kind = .fatomic ∨ kind = .dlv) then s
  else if s.rd D.FAB_STAT_join ≠ 4 ∨ s.isLocal gl = false ∨ 64 ≤ s.confCount (sliceOf gl) then s
  else
    let s1 : State := { s with coh := { s.coh with
      dedup := SMap.ins s.coh.dedup (tagKey seat tag) ⟨gen, false, kind, gl, 0, false, false⟩ } }
    if gaValid (gaOf gl) then run s1 else s1.fabAnswer seat tag gen kind gl 0 true false

/-- A line message of another device reaches its home: a request already performed gets its stored reply again, a request
being performed is left alone, and any other is performed (R212). -/
def State.fabArrive (s0 : State) (seat tag : Nat) (gen : Bool) (kind : FKind) (gl : Nat) (run : State → State) : State :=
  let s := s0.tHeard seat
  match SMap.find s.coh.dedup (tagKey seat tag) with
  | some e =>
    if e.gen = gen then (if e.done then s.emit (.fabReply seat tag gen e.kind e.data e.poison e.flag) else s)
    else s.fabFresh seat tag gen kind gl run
  | none => s.fabFresh seat tag gen kind gl run

/-- LREAD (R207, R208). -/
def execLread (seat : Fin 64) (tag : Fin 4096) (gen : Bool) (ga : BitVec 50) (fl : Flips) (s : State) : Result :=
  let gl := ga.toNat / 64
  .next (s.fabArrive seat tag gen .lread gl (fun a => a.arriveReq (Req.plain .read gl (.fabric seat tag gen)) fl))

/-- LOWN (R207, R209). -/
def execLown (seat : Fin 64) (tag : Fin 4096) (gen : Bool) (ga : BitVec 50) (fl : Flips) (s : State) : Result :=
  let gl := ga.toNat / 64
  .next (s.fabArrive seat tag gen .lown gl
    (fun a => a.arriveReq (Req.plain .own gl (.fabric seat tag gen)) fl))

/-- FREAD (R207): PEEK. -/
def execFread (seat : Fin 64) (tag : Fin 4096) (gen : Bool) (ga : BitVec 50) (fl : Flips) (s : State) : Result :=
  let gl := ga.toNat / 64
  .next (s.fabArrive seat tag gen .fread gl (fun a => a.arriveReq (Req.plain .peek gl (.fabric seat tag gen)) fl))

/-- FWRITE (R230): WRITE with its byte mask. -/
def execFwrite (seat : Fin 64) (tag : Fin 4096) (gen : Bool) (ga : BitVec 50) (data : Line) (mask : LineMask)
    (poison : Bool) (fl : Flips) (s : State) : Result :=
  let gl := ga.toNat / 64
  .next (s.fabArrive seat tag gen .fwrite gl
    (fun a => a.arriveReq ⟨.write, gl, .fabric seat tag gen, data, mask, poison, none⟩ fl))

/-- FABRIC_OWN (R209, R211). -/
def execFabricOwn (seat : Fin 64) (tag : Fin 4096) (gen : Bool) (ga : BitVec 50) (fl : Flips) (s : State) : Result :=
  let gl := ga.toNat / 64
  .next (s.fabArrive seat tag gen .own gl
    (fun a => a.arriveReq (Req.plain .own gl (.fabric seat tag gen)) fl))

/-- FATOMIC (R219). -/
def execFatomic (seat : Fin 64) (tag : Fin 4096) (gen : Bool) (ga : BitVec 50) (op : Fin 10) (wide : Bool)
    (off : Fin 64) (a b : Word) (fl : Flips) (s : State) : Result :=
  let gl := ga.toNat / 64
  let x : Atom := ⟨atomOpOf op, if wide then 8 else 4, off, a, b⟩
  .next (s.fabArrive seat tag gen .fatomic gl
    (fun q => q.arriveReq ⟨.atomic, gl, .fabric seat tag gen, 0, 0, false, some x⟩ fl))

/-- The request that waited for a recall of this line goes on. -/
def State.afterRecall (s : State) (gl : Nat) (fl : Flips) : State :=
  match s.txn gl with
  | some t => if t.phase = .loan ∧ t.away.isSome then s.afterSnoop { t with away := none } fl else s
  | none => s

/-- The recall this device sent for a line has been answered by its delivery. -/
def State.recallEnded (s : State) (gl : Nat) : State :=
  { s with coh := { s.coh with freqs := SMap.keep (fun _ r => !(decide (r.kind = .recall ∧ r.gl = gl))) s.coh.freqs } }

/-- Bytes delivered by the line's holder are written at the home: dropped in a DELETING region (R53), discarded below a
sealed end (R276), else accepted. None where they must wait for a way, or where they would raise D and the budget, LOWENERGY
or WPROT does not let them: the holder then keeps them, unanswered (R69, R74, R155). DEDUCED, log 165. -/
def State.deliverHome (s : State) (seat tag : Nat) (gen : Bool) (gl : Nat) (d : Line) (mask : LineMask) (p : Bool) :
    Option State :=
  if (s.regionOf gl).st = .deleting ∨ (s.sealedIn (llOf gl)).isSome then
    some (s.logDiscard gl mask (.fabric seat tag gen) false)
  else if s.mayCharge gl = false then none
  else s.writeHome gl d mask p

/-- A DLV or RELEASE at the home: with a matching grant entry its bytes are written and the entry cleared; with none it
is stale (R211, R214). It is answered with DONE either way; none where the grant table's line cannot be charged yet (R69). -/
def State.endGrant (s : State) (seat tag : Nat) (gen : Bool) (kind : FKind) (gl : Nat)
    (bytes : Option (Line × LineMask × Bool)) (fl : Flips) : Option State :=
  match (s.grant gl).filter (fun g => decide (g.seat = seat)) with
  | none => some ((s.log E.CLO_STALE_DELIVERY seat 0 (gaOf gl)).fabAnswer seat tag gen kind gl 0 false false)
  | some g =>
    if s.grantRaises g.slot then none
    else
      let due := s.rops.any (fun o => o.due.contains gl)
      let s0 : State := { s with rops := s.rops.map (fun o => { o with due := o.due.filter (fun q => q ≠ gl) }) }
      let s1 := (s0.ungrant gl).recallEnded gl
      let s2 : Option State := match bytes with
        | some (d, m, p) => if due then some s1 else s1.deliverHome seat tag gen gl d m p
        | none => some s1
      s2.map (fun a => (a.fabAnswer seat tag gen kind gl 0 false false).afterRecall gl fl)

/-- DLV (R211, R214). -/
def execDlv (seat : Fin 64) (tag : Fin 4096) (gen : Bool) (ga : BitVec 50) (data : Line) (mask : LineMask)
    (poison : Bool) (fl : Flips) (s : State) : Result :=
  let gl := ga.toNat / 64
  .next (s.fabArrive seat tag gen .dlv gl
    (fun a => (a.endGrant seat tag gen .dlv gl (some (data, mask, poison)) fl).getD s))

/-- RELEASE (R211, R214). -/
def execRelease (seat : Fin 64) (tag : Fin 4096) (gen : Bool) (ga : BitVec 50) (fl : Flips) (s : State) : Result :=
  let gl := ga.toNat / 64
  .next (s.fabArrive seat tag gen .release gl (fun a => (a.endGrant seat tag gen .release gl none fl).getD s))

/-- A sharer's loan of a line is over (R210): the last one lets the waiting request go on. -/
def State.endInv (s : State) (seat tag gl : Nat) (fl : Flips) : State :=
  let b : BitVec 64 := BitVec.ofNat 64 (2 ^ seat)
  let l := s.loan gl
  let s1 := ({ s with coh := { s.coh with freqs := SMap.del s.coh.freqs (tagKey seat tag) } } : State).setLoan gl
    { l with sharers := l.sharers &&& ~~~b }
  match s1.txn gl with
  | some t =>
    if t.phase = .loan ∧ t.invs ≠ 0 then
      let t' := { t with invs := t.invs &&& ~~~b }
      if t'.invs = 0 then (s1.setTxn gl t').afterSnoop t' fl else s1.setTxn gl t'
    else s1
  | none => s1

/-- INVACK (R210): the last one lets the waiting request go on. -/
def execInvack (seat : Fin 64) (tag : Fin 4096) (gen : Bool) (fl : Flips) (s : State) : Result :=
  match SMap.find s.coh.freqs (tagKey seat tag) with
  | none => .next s
  | some r =>
    if r.kind ≠ .inv ∨ r.gen ≠ gen then .next s
    else .next ((s.tHeard seat).endInv seat tag r.gl fl)
/-! At a borrower. -/

/-- Recall and invalidation messages carry tags of their own; a borrower acts on each copy alike. RECALL (R210, R211):
ends the LENT_MODIFIED loan or the owned entry of the line. -/
def execRecall (seat : Fin 64) (_tag : Fin 4096) (_gen : Bool) (ga : BitVec 50) (s : State) : Result :=
  let gl := ga.toNat / 64
  let s0 := s.tHeard seat
  .next (if s.isLocal gl ∨ seatOf gl ≠ seat.val then s0
    else match s.vfind gl with
      | some (_, v) => if v.lent = .modified then s0.endLoan gl else s0
      | none => s0.deliver gl)

/-- INV (R210): drops the LENT_SHARED loan of the line, and answers INVACK. -/
def execInv (seat : Fin 64) (tag : Fin 4096) (gen : Bool) (ga : BitVec 50) (s : State) : Result :=
  let gl := ga.toNat / 64
  let s1 := match s.vfind gl with
    | some (w, v) => if v.lent = Lent.shared then ((s.tHeard seat).dropWings gl).dropWay gl w else s.tHeard seat
    | none => s.tHeard seat
  .next (if s.isLocal gl ∨ seatOf gl ≠ seat.val then s.tHeard seat else s1.emit (.fabReply seat tag gen .inv 0 false false))

/-- The request a reply answers, if it is still outstanding (R231). -/
def State.replyTo (s : State) (seat tag : Nat) (gen : Bool) : Option FReq :=
  match SMap.find s.coh.freqs (tagKey seat tag) with
  | some r => if r.gen = gen then some r else none
  | none => none

/-- A request is over. -/
def State.freqDel (s : State) (seat tag : Nat) : State :=
  { s with coh := { s.coh with freqs := SMap.del s.coh.freqs (tagKey seat tag) } }

/-- A loan reaches this device: a loan way holds the line, or, where no way can, an owned loan is kept in an outbound
entry and a shared one is not kept (R189, R207). -/
def State.takeLoan (s : State) (gl : Nat) (d : Line) (p owned : Bool) : State :=
  match (if owned ∧ (s.mayHold = false ∨ s.mayCharge gl = false) then none else s.allocWay gl true) with
  | some (w, s1) =>
    let s2 := s1.fillWay gl w d false p (if owned then Lent.modified else Lent.shared)
    if owned then s2.charge gl else s2
  | none => if owned then s.takeOwned gl ⟨.owned, d, 0, p, false, []⟩ else s

/-- The oldest store of a context, refused ownership of its line, goes as FWRITE (R209). -/
def State.storeFwrite (s : State) (c gl : Nat) : State :=
  match s.headStore c gl with
  | some e => s.fabSend .fwrite (seatOf gl) gl (.store c) e.data e.mask false none
  | none => s

/-- FABRIC_DATA (R231): the reply to LREAD, LOWN or FREAD; `granted` says that the loan was given. DEDUCED, log 155. -/
def execFabricData (seat : Fin 64) (tag : Fin 4096) (gen : Bool) (data : Line) (poison granted : Bool) (s : State) :
    Result :=
  match s.replyTo seat tag gen with
  | none => .next s
  | some r =>
    let s1 := (s.tHeard seat).freqDel seat tag
    match r.kind with
    | .lread =>
      if granted then
        let s2 := s1.takeLoan r.gl data poison false
        match r.src with
        | .load c =>
          let s3 := if (s2.vfind r.gl).isSome ∧ poison = false then s2.wfill c r.gl ⟨WSt.shared, data, false⟩ else s2
          .next (s3.giveUnits c r.gl data poison)
        | .fetch c =>
          let s3 := if (s2.vfind r.gl).isSome ∧ poison = false then s2.wfill2 c r.gl ⟨WSt.shared, data, false⟩ else s2
          .next (s3.answerData (Req.plain .read r.gl r.src) data poison)
        | src => .next (s2.answerData (Req.plain .read r.gl src) data poison)
      else .next (s1.answerData (Req.plain .read r.gl r.src) data poison)
    | .lown =>
      if granted then .next (s1.takeLoan r.gl data poison true)
      else match r.src with
        | .store c => .next (s1.storeFwrite c r.gl)
        | _ => .next s1
    | .fread => .next (s1.answerData (Req.plain .peek r.gl r.src) data poison)
    | _ => .next s

/-- Contexts that wait in a global fence for a line. -/
def State.fencers (s : State) (gl : Nat) : List Nat :=
  (SMap.keys s.cur.ctxs).filter (fun c => match (s.ctx c).gfence with
    | some g => g.lines.contains gl
    | none => false)

/-- A line's stores have been performed, for the fences that wait for them (R226). -/
def State.fencePerformed (s : State) (gl : Nat) : State :=
  (s.fencers gl).foldl (fun a c =>
    let x := a.ctx c
    a.setCtx c { x with gfence := x.gfence.map (fun g => { g with lines := g.lines.filter (fun y => y ≠ gl) }) }) s

/-- A line's stores have been declared lost, for the fences that wait for them (R226). -/
def State.fenceLost (s : State) (gl : Nat) : State :=
  (s.fencers gl).foldl (fun a c =>
    let x := a.ctx c
    (a.setCtx c { x with gfence := x.gfence.map (fun g => { g with lines := g.lines.filter (fun y => y ≠ gl), lost := true }) }).log
      E.CLO_FENCE_INCOMPLETE c 0 (gaOf gl)) s

/-- The forward hold entry a delivery to a line was made for: its home device may hold another seat now (R350). -/
def State.fwdKeyOf (s : State) (gl : Nat) : Nat :=
  ((SMap.keys s.coh.fwd).find? (fun k => decide (k % 2 ^ 38 = gl % 2 ^ 38 ∧
    (SMap.find s.coh.fwd k).map FwdEnt.uid = some (s.rd D.FAB_MEMUID_uid (seatOf gl))))).getD gl

/-- Sends one line of the forward hold area to its home, when the UID of its home holds a seat (R91, R350). -/
def State.fwdSend (s : State) (gl : Nat) : State :=
  match SMap.find s.coh.fwd gl with
  | none => s
  | some f =>
    match (List.range 64).find? (fun k => decide (s.rd D.FAB_MEMUID_uid k = f.uid ∧ f.uid ≠ 0)) with
    | none => s
    | some k =>
      if f.sent ∨ (s.freeTag k).isNone then s
      else
        let gl' := gl % 2 ^ 38 + k * 2 ^ 38
        let s1 := s.setFwd (SMap.ins s.coh.fwd gl { f with sent := true })
        if f.release then s1.fabSend .release k gl' .dev 0 0 false none
        else s1.fabSend .dlv k gl' .dev f.data f.mask f.poison none

/-- A tag toward a seat has become free: the next undelivered line of the forward hold area for that seat is sent (R91). -/
def State.fwdNext (s : State) (seat : Nat) : State :=
  match s.coh.fwd.find? (fun e => !e.2.sent && decide (e.2.uid ≠ 0 ∧ e.2.uid = s.rd D.FAB_MEMUID_uid seat)) with
  | some e => s.fwdSend e.1
  | none => s

/-- Once the whole forward hold area of this start is delivered and the device has joined, every other occupied seat is sent a
sweep (R215). -/
def State.sendSweep (s : State) : State :=
  if s.coh.sweepDue ∧ s.coh.fwd = [] ∧ s.rd D.FAB_STAT_join = 4 then
    (List.range 64).foldl (fun (a : State) k =>
      if s.seatOccupied k ∧ s.mySeat ≠ some k then a.emit (.fabMsg msgSweep (some k) [s.rd D.FAB_STAT_seat]) else a)
      ({ s with coh := { s.coh with sweepDue := false } } : State)
  else s

/-- FABRIC_DONE (R211, R230): a write, delivery or release is over; `granted` says that an FWRITE was given an owned,
clean entry. -/
def execFabricDone (seat : Fin 64) (tag : Fin 4096) (gen : Bool) (granted : Bool) (s : State) : Result :=
  match s.replyTo seat tag gen with
  | none => .next s
  | some r =>
    let s1 := (s.tHeard seat).freqDel seat tag
    match r.kind with
    | .fwrite =>
      let s2 := s1.answerWrite ⟨.write, r.gl, r.src, 0, 0, false, none⟩ false
      .next (if granted then s2.takeOwned r.gl ⟨.owned, 0, 0, false, true, []⟩ else s2)
    | .dlv | .release =>
      match s1.outEnt r.gl with
      | some e => if e.st = .delivering then .next ((((s1.delOut r.gl).release r.gl).fencePerformed r.gl).fwdNext seat)
          else .next (((s1.fwdDel (s1.fwdKeyOf r.gl)).fwdNext seat).sendSweep)
      | none => .next (((s1.fwdDel (s1.fwdKeyOf r.gl)).fwdNext seat).sendSweep)
    | _ => .next s

/-- GRANTED (R211): the outbound entry becomes owned, with the region's ewa; `granted` false refuses it, and the store
that waited goes as FWRITE (R209). -/
def execGranted (seat : Fin 64) (tag : Fin 4096) (gen : Bool) (ewa granted : Bool) (s : State) : Result :=
  match s.replyTo seat tag gen with
  | none => .next s
  | some r =>
    if r.kind ≠ .own then .next s
    else
      let s1 := (s.tHeard seat).freqDel seat tag
      if granted then .next (s1.takeOwned r.gl ⟨.owned, 0, 0, false, ewa, []⟩)
      else match r.src with
        | .store c => .next ((s1.delOut r.gl).storeFwrite c r.gl)
        | _ => .next (s1.delOut r.gl)

/-- FATOMIC_RESULT (R219): the line's bytes before the atomic. -/
def execFatomicResult (seat : Fin 64) (tag : Fin 4096) (gen : Bool) (data : Line) (poison : Bool) (s : State) : Result :=
  match s.replyTo seat tag gen with
  | none => .next s
  | some r =>
    if r.kind ≠ .fatomic then .next s
    else .next (((s.tHeard seat).freqDel seat tag).answerData (Req.plain .atomic r.gl r.src) data poison)

/-! Attempts and losses (R213, R357). -/

/-- Replaces an outstanding request. -/
def State.setFreq (s : State) (r : FReq) : State :=
  { s with coh := { s.coh with freqs := SMap.ins s.coh.freqs (tagKey r.seat r.tag) r } }

/-- HOMEDOWN (R357): the attempt ends; the request was not performed. -/
def execHomedown (seat : Fin 64) (tag : Fin 4096) (gen : Bool) (s : State) : Result :=
  match s.replyTo seat tag gen with
  | none => .next s
  | some r => .next ((s.tHeard seat).setFreq { r with ended := true })

/-- FABRIC_ATTEMPT_TIMEOUT (R213): the next of the three attempts goes out on its route. -/
def execFabricAttemptTimeout (seat : Fin 64) (tag : Fin 4096) (s : State) : Result :=
  match SMap.find s.coh.freqs (tagKey seat tag) with
  | none => .next s
  | some r =>
    if r.attempt < 3 then
      .next ((s.setFreq { r with attempt := r.attempt + 1, ended := false }).emit
        (.fabReq r.seat r.tag r.gen r.kind r.gl r.data r.mask r.poison (r.attempt + 1)))
    else .next (s.setFreq { r with ended := true })

/-- A curator store that was never accepted is dropped (R213, R228): logged, counted, and a fence waiting behind it is
incomplete. -/
def State.storeLost (s : State) (c gl : Nat) : State :=
  let s1 := ((s.sbLose c gl).log E.CLO_STORE_LOST c 0 (gaOf gl)).addSat D.CLO_LOSS_storelost 1
  let x := s1.ctx c
  match x.gfence with
  | some g => (s1.setCtx c { x with gfence := some { g with lost := true } }).log E.CLO_FENCE_INCOMPLETE c 0 (gaOf gl)
  | none => s1

/-- A write of a master that is no context is lost: it completes normally and is discarded (R213); a job counts it (R270). -/
def State.writeLost (s : State) (r : FReq) : State :=
  match r.src with
  | .store c => s.storeLost c r.gl
  | .job c desc =>
    let s1 := (s.log E.CLO_STORE_LOST 0 0 (gaOf r.gl)).addSat D.CLO_LOSS_storelost 1
    let x := s1.ctx c
    s1.setCtx c { x with jobs := x.jobs.map (fun j =>
      if j.desc = desc then { j with out := j.out.map (fun o => { o with lost := o.lost + 1 }) } else j) }
  | src => ((s.log E.CLO_STORE_LOST 0 0 (gaOf r.gl)).addSat D.CLO_LOSS_storelost 1).answerWrite
      ⟨.write, r.gl, src, 0, 0, false, none⟩ false

/-- A delivery or release is lost: its line goes to the forward hold area, still charged (R213). -/
def State.deliveryLost (s : State) (r : FReq) : State :=
  match s.outEnt r.gl with
  | some e =>
    if e.st = .delivering then
      ((s.delOut r.gl).fwdAdd r.gl e.data e.mask e.poison (decide (r.kind = .release)) e.ctxs).fenceLost r.gl
    else s
  | none =>
    match SMap.find s.coh.fwd (s.fwdKeyOf r.gl) with
    | some f => s.setFwd (SMap.ins s.coh.fwd (s.fwdKeyOf r.gl) { f with sent := false })
    | none => s

/-- A request is declared lost and handled by its kind (R213, R214). -/
def State.requestLost (s : State) (r : FReq) (fl : Flips) : State :=
  let s1 := s.freqDel r.seat r.tag
  match r.kind with
  | .dlv | .release => s1.deliveryLost r
  | .own => (match r.src with
    | .store c => (s1.delOut r.gl).storeLost c r.gl
    | _ => s1.delOut r.gl)
  | .lown => (match r.src with
    | .store c => s1.storeLost c r.gl
    | _ => s1)
  | .fwrite => s1.writeLost r
  | .lread | .fread => s1.answerData (Req.plain .peek r.gl r.src) 0 true
  | .fatomic => s1.answerData (Req.plain .atomic r.gl r.src) 0 true
  | .recall =>
    let s2 := match s1.grant r.gl with
      | some g => if g.seat = r.seat then s1.setGrants (SMap.ins s1.coh.grants r.gl { g with away := true }) else s1
      | none => s1
    s2.afterRecall r.gl fl
  | .inv => s1.endInv r.seat r.tag r.gl fl

/-- FABRIC_REQUEST_LOST (R213): only a request with its three attempts made can be lost. -/
def execFabricRequestLost (seat : Fin 64) (tag : Fin 4096) (fl : Flips) (s : State) : Result :=
  match SMap.find s.coh.freqs (tagKey seat tag) with
  | none => .next s
  | some r => if r.attempt < 3 then .next s else .next (s.requestLost r fl)

/-- OUTBOUND_LINGER_EXPIRE (R211): the entry's bytes pass the line code of R407 on their way. -/
def execOutboundLingerExpire (ga : BitVec 50) (fl : Flips) (s : State) : Result :=
  let gl := ga.toNat / 64
  match s.outEnt gl with
  | none => .next s
  | some e =>
    if e.st = .owned ∧ (s.freeTag (seatOf gl)).isSome then
      let x := s.checkStruct 3 (sliceOf gl / 4) gl e.data fl
      .next ((x.2.setOut gl { e with data := x.1.getD e.data, poison := e.poison || x.1.isNone }).deliver gl)
    else .next s

/-! Starts and sweeps (R215, R216, R350). -/

/-- Drops the LENT_SHARED loans of a seat's lines. -/
def State.dropShared (s : State) (seat : Nat) : State :=
  let ls := (s.coh.vit.filter (fun e => decide (e.2.lent = .shared ∧ seatOf e.2.gl = seat))).map (fun e => e.2.gl)
  ls.foldl (fun a gl => (a.dropWings gl).vdrop gl) s

/-- What a device does when a seat announces a start (R215). -/
def State.onStart (s : State) (seat : Nat) : State :=
  let s1 := s.dropShared seat
  let ms := (s1.coh.vit.filter (fun e => decide (e.2.lent = .modified ∧ seatOf e.2.gl = seat))).map (fun e => e.2.gl)
  let s2 := ms.foldl State.endLoan s1
  let os := (SMap.keys s2.coh.outb).filter (fun gl => decide (seatOf gl = seat))
  let s3 := os.foldl State.deliver s2
  ((SMap.keys s3.coh.fwd).filter (fun gl => decide (seatOf gl = seat ∨
    (SMap.find s3.coh.fwd gl).map FwdEnt.uid = some (s3.rd D.FAB_MEMUID_uid seat)))).foldl State.fwdSend s3

/-- START_ANNOUNCEMENT (R215, R359). -/
def execStartAnnouncement (seat : Fin 64) (s : State) : Result :=
  .next (if s.mySeat = some seat.val then s else (s.tHeard seat).onStart seat)

/-- GRANT_SWEEP (R215): a borrower's sweep reaches a home. -/
def execGrantSweep (seat : Fin 64) (s : State) : Result := .next ((s.tHeard seat).sweepGrants seat)

/-! Early acknowledgement (R229). -/

/-- EARLY_ACK_DELIVER (R229): the oldest entry of a port's buffer is written at its home slice; it waits while a request
for the line is in progress there. DEDUCED, log 52. -/
def execEarlyAckDeliver (port : Fin 4) (fl : Flips) (s : State) : Result :=
  let q := s.port port
  match q.eab with
  | [] => .next s
  | e :: r =>
    let gl := lineOf e.ga
    if s.lineFree gl = false then .next s
    else
      let s0 := s.setPort port { q with eab := r }
      match s0.verdict gl e.mask (.eab port) false with
      | .accept =>
        let x := s0.checkStruct 2 port gl e.data fl
        .next ((x.2.writeHome gl (x.1.getD e.data) e.mask (e.poison || x.1.isNone)).getD s)
      | .discard => .next ((s0.logDiscard gl e.mask (.eab port) false).releaseClean gl)
      | _ => .next s

/-! Ring stops in reset (R16, R206). -/

/-- RING_RETRY (R16): the requester repeats its request after 1 µs; the request is still waiting, and nothing else
changes. -/
def execRingRetry (_ga : BitVec 50) (s : State) : Result := .next s

/-- A request unanswered for 2 ms completes (R206). -/
def State.targetTimeout (s : State) (r : Req) : State :=
  let s1 := s.log E.CLO_TARGET_TIMEOUT (sliceOf r.gl) 0 (gaOf r.gl)
  match r.kind, r.src with
  | _, .store c => s1.storeLost c r.gl
  | .write, _ => s1.answerWrite r false
  | .zero, _ => s1.answerWrite r false
  | _, _ => s1.answerData r 0 true

/-- Whether a request is one that a timeout names: of a context, its store, or else its load, fetch or atomic (`load`); of the
device, its own, and those of other devices, for which its fabric agents ask. -/
def timesOut (m : Master) (load : Bool) (src : Src) : Bool :=
  if m.kind = 1 then (if load then decide (src = .load m.id ∨ src = .fetch m.id ∨ src = .atom m.id) else decide (src = .store m.id))
  else if m.kind = 3 then decide (src = .dev) || src.isFabric
  else decide (src = masterSrc m)

/-- RING_REQUEST_TIMEOUT (R16, R206): the request of a master for a line, in a conflict queue or in progress. What its snoop has
collected is written at the home first. -/
def execRingRequestTimeout (m : Master) (load : Bool) (ga : BitVec 50) (s : State) : Result :=
  let gl := ga.toNat / 64
  match s.coh.conf.find? (fun r => decide (r.gl = gl) && timesOut m load r.src) with
  | some r => .next (({ s with coh := { s.coh with conf := s.coh.conf.erase r } } : State).targetTimeout r)
  | none =>
    match s.txn gl with
    | some t =>
      if timesOut m load t.req.src = false then .next s
      else match (match t.got with
        | some (d, p) => s.dirtyHome gl d p
        | none => some s) with
        | some a => .next ((a.delTxn gl).targetTimeout t.req)
        | none => .next s
    | none => .next s

end Sys2Proof.Machine
end

