-- ==== Sys2Proof/Machine/Operands.lean ====
section
/-! DEFINITION. What every Plasis instruction shares: when a context issues (R236), the fetch check (R241), immediates,
effective addresses and their checks (R238, R239), the line units of an access (R224) and wing cache checks (R194). -/

namespace Sys2Proof.Machine

/-! Issue. -/

/-- Whether the hall offset lies in the running program's code (R241). DEDUCED, log 127. -/
def State.inImage (s : State) (x : Ctx) (pc : Nat) : Bool :=
  match s.prog x.prog with
  | some p => decide (pc % 4 = 0 ∧ p.code ≤ pc ∧ pc < p.code + p.size)
  | none => false

/-- Whether a context can issue an instruction (R236): it runs, nothing holds it, its store buffer is not full, its wing
is not in reset, and no flush has stopped the contexts. DEDUCED, log 126. -/
def State.canIssue (s : State) (c : Nat) : Bool :=
  let x := s.ctx c
  x.between && decide (x.sb.length < 16) && !s.coh.rstBusy.getLsbD (c / 32) && (s.isOpen || decide (s.phase = stStarting))

/-- One attempt of a context to execute its next instruction: nothing where it is not ready; a pending boundary fault is
taken first; then the fetch is checked (R241, R254, R256). DESIGN CHOICE, log 117. DESIGN CHOICE, log 118. -/
def State.attempt (s : State) (c : Nat) (run : Ctx → State) : State :=
  if s.canIssue c = false then s
  else match s.boundary c with
    | some (code, addr, pc) => s.stop c code addr pc
    | none => if s.inImage (s.ctx c) (s.ctx c).pc then run (s.ctx c) else s.faultNow c fltFetch (s.ctx c).pc 0 0

/-- An instruction that writes one register and goes on. -/
def State.setAndGo (s : State) (c : Nat) (x : Ctx) (d : BitVec 5) (v : Word) (major : Nat) : State :=
  s.retire c (x.setReg d v) (x.pc + 4) major 0

/-- A register instruction: `d` takes a value of the context's registers. -/
def State.alu (s : State) (c : Nat) (major : Nat) (d : BitVec 5) (f : Ctx → Word) : State :=
  s.attempt c (fun x => s.setAndGo c x d (f x) major)

/-- A branch or jal target: pc + sext(imm16) × 4, modulo 2^64 (R242). -/
def branchTarget (pc : Nat) (imm : BitVec 16) : Nat :=
  ((BitVec.ofNat 64 pc) + (imm.signExtend 64) * 4#64).toNat

/-! Effective addresses (R238 to R240). -/

/-- The effective address of the I-format. -/
def Ctx.ea (x : Ctx) (a : BitVec 5) (imm : BitVec 16) : Nat := (x.reg a + imm.signExtend 64).toNat

/-- The addresses of the one or two units of an access of `n` bytes (R224, R239). -/
def unitAddrs (ea n : Nat) : List (Nat × Nat) :=
  if ea % 64 + n ≤ 64 then [(ea, n)] else [(ea, 64 - ea % 64), ((ea / 64 + 1) * 64, ea % 64 + n - 64)]

/-- The fault of the checks of R238, form before range (R256), with the address it reports (R239). -/
def addrFault (us : List (Nat × Nat)) : Option (Nat × Nat) :=
  match us.find? (fun u => decide (2 ^ 50 ≤ u.1)) with
  | some u => some (fltAddrForm, u.1)
  | none => match us.find? (fun u => !gaValid u.1) with
    | some u => some (fltAddrRange, u.1)
    | none => none

/-- The fault of an address that must name a line (R260). -/
def lineFault (a : Nat) : Option (Nat × Nat) :=
  if a % 64 ≠ 0 then some (fltAlign, a) else addrFault [(a, 64)]

/-! The store buffer as its own context sees it (R245). -/

/-- The buffered bytes of a line, and which they are: younger entries over older ones. -/
def sbBytes (l : List SbEnt) (gl : Nat) : Line × LineMask :=
  (l.filter (fun e => decide (e.gl = gl))).foldl (fun a e => (merge a.1 e.data e.mask, a.2 ||| e.mask)) (0, 0)

/-! Wing caches (R192 to R194). -/

/-- The array a core finds a line of its wing in: its L1 where that holds the line, else the L2. -/
def State.wingArray (s : State) (c gl : Nat) : Nat := if s.inL1d (coreOf c) gl then coreOf c % 8 * 2 + 1 else 0

/-- The read check of a wing's copy at a core (R194). -/
def State.wingCheck (s : State) (c gl : Nat) (l : WLine) (fl : Flips) : Option (Line × Bool) × State :=
  let x := s.checkWing (wingOf c) gl l fl (s.wingArray c gl)
  (x.1.map (fun l' => if l'.poison then (0, true) else (l'.data, false)), x.2)

/-- A wing's copy of a line answers a load: its bytes where the wing holds it. -/
def State.wingRead (s : State) (c gl : Nat) (fl : Flips) : Option (Line × Bool) × State :=
  let s0 := if s.inL1d (coreOf c) gl then s else s.tWing (wingOf c) 0x02 1
  match s0.wfind (wingOf c) gl with
  | none => (none, s0.tWing (wingOf c) 0x03 1)
  | some l =>
    match s0.wingCheck c gl l fl with
    | (some r, s1) => (some (s1.shown gl r), (s1.l2Touch (wingOf c) gl).l1dTouch (coreOf c) gl)
    | (none, s1) => (none, s1)

/-- Whether a context's wing may write a line without a request (Table 7.1). -/
def State.wingOwns (s : State) (c gl : Nat) : Option WLine :=
  match s.wfind (wingOf c) gl with
  | some l => if l.st = .shared then none else some l
  | none => none

/-- The wing writes bytes into the line it owns (R193): a whole-line write clears poison. -/
def State.wingWrite (s : State) (c gl : Nat) (l : WLine) (d : Line) (mask : LineMask) (poison : Bool) : State :=
  (s.breachEnd gl mask poison).wfill c gl ⟨.modified, merge l.data d mask, if mask = fullMask then poison else l.poison || poison⟩

end Sys2Proof.Machine
end

