-- ==== Sys2Proof/Machine/Alu.lean ====
section
/-! DEFINITION. The integer instructions (Table 8.2, R243, R244). -/

namespace Sys2Proof.Machine

/-! Operations (Table 8.2). -/

/-- The most negative and the largest register value. -/
def minWord : Word := 0x8000000000000000#64
def maxWord : Word := 0x7FFFFFFFFFFFFFFF#64

/-- 1 for true. -/
def flag (b : Bool) : Word := if b then 1 else 0

/-- div at its limits and elsewhere (R244). -/
def divSigned (a b : Word) : Word :=
  if b = 0 then (if a = 0 then 0 else if a.msb then minWord else maxWord)
  else if a = minWord ∧ b = BitVec.allOnes 64 then maxWord
  else a.sdiv b

/-- divu (R244). -/
def divUnsigned (a b : Word) : Word := if b = 0 then (if a = 0 then 0 else BitVec.allOnes 64) else a / b

/-- rem (R244): the sign of a. -/
def remSigned (a b : Word) : Word :=
  if b = 0 then 0 else if a = minWord ∧ b = BitVec.allOnes 64 then 0 else a.srem b

/-- remu (R244). -/
def remUnsigned (a b : Word) : Word := if b = 0 then 0 else a % b

/-- High 64 bits of the signed product. -/
def mulHigh (a b : Word) : Word := ((a.signExtend 128 * b.signExtend 128) >>> 64).setWidth 64

/-- High 64 bits of the unsigned product. -/
def mulHighU (a b : Word) : Word := ((a.setWidth 128 * b.setWidth 128) >>> 64).setWidth 64

/-- Leading zero bits, 0 to 64. -/
def leadingZeros (a : Word) : Nat := ((List.range 64).find? (fun k => a.getLsbD (63 - k))).getD 64

/-- Trailing zero bits, 0 to 64. -/
def trailingZeros (a : Word) : Nat := ((List.range 64).find? (fun k => a.getLsbD k)).getD 64

/-- Number of 1 bits. -/
def popCount (a : Word) : Nat := popBelow a.toNat 64

/-- The 8 bytes reversed. -/
def byteSwap (a : Word) : Word :=
  (List.range 8).foldl (fun r k => (r <<< 8) ||| ((a >>> (8 * k)) &&& 0xFF#64)) 0

/-- sext(imm16) and zext(imm16). -/
def sext (i : BitVec 16) : Word := i.signExtend 64
def zext (i : BitVec 16) : Word := i.setWidth 64

/-! The instructions. -/

/-- ADD (R243). -/
def execAdd (c : Fin 256) (d a b : BitVec 5) (s : State) : Result := .next (s.alu c 0 d (fun x => x.reg a + x.reg b))

/-- SUB (R243). -/
def execSub (c : Fin 256) (d a b : BitVec 5) (s : State) : Result := .next (s.alu c 0 d (fun x => x.reg a - x.reg b))

/-- AND (R243). -/
def execAnd (c : Fin 256) (d a b : BitVec 5) (s : State) : Result :=
  .next (s.alu c 0 d (fun x => x.reg a &&& x.reg b))

/-- OR (R243). -/
def execOr (c : Fin 256) (d a b : BitVec 5) (s : State) : Result := .next (s.alu c 0 d (fun x => x.reg a ||| x.reg b))

/-- XOR (R243). -/
def execXor (c : Fin 256) (d a b : BitVec 5) (s : State) : Result :=
  .next (s.alu c 0 d (fun x => x.reg a ^^^ x.reg b))

/-- SLL (R243). -/
def execSll (c : Fin 256) (d a b : BitVec 5) (s : State) : Result :=
  .next (s.alu c 0 d (fun x => x.reg a <<< ((x.reg b).toNat % 64)))

/-- SRL (R243). -/
def execSrl (c : Fin 256) (d a b : BitVec 5) (s : State) : Result :=
  .next (s.alu c 0 d (fun x => x.reg a >>> ((x.reg b).toNat % 64)))

/-- SRA (R243). -/
def execSra (c : Fin 256) (d a b : BitVec 5) (s : State) : Result :=
  .next (s.alu c 0 d (fun x => (x.reg a).sshiftRight ((x.reg b).toNat % 64)))

/-- SLT (R243). -/
def execSlt (c : Fin 256) (d a b : BitVec 5) (s : State) : Result :=
  .next (s.alu c 0 d (fun x => flag ((x.reg a).slt (x.reg b))))

/-- SLTU (R243). -/
def execSltu (c : Fin 256) (d a b : BitVec 5) (s : State) : Result :=
  .next (s.alu c 0 d (fun x => flag ((x.reg a).ult (x.reg b))))

/-- MIN (R243). -/
def execMin (c : Fin 256) (d a b : BitVec 5) (s : State) : Result :=
  .next (s.alu c 0 d (fun x => if (x.reg a).sle (x.reg b) then x.reg a else x.reg b))

/-- MAX (R243). -/
def execMax (c : Fin 256) (d a b : BitVec 5) (s : State) : Result :=
  .next (s.alu c 0 d (fun x => if (x.reg a).sle (x.reg b) then x.reg b else x.reg a))

/-- MINU (R243). -/
def execMinu (c : Fin 256) (d a b : BitVec 5) (s : State) : Result :=
  .next (s.alu c 0 d (fun x => if (x.reg a).ule (x.reg b) then x.reg a else x.reg b))

/-- MAXU (R243). -/
def execMaxu (c : Fin 256) (d a b : BitVec 5) (s : State) : Result :=
  .next (s.alu c 0 d (fun x => if (x.reg a).ule (x.reg b) then x.reg b else x.reg a))

/-- MUL (R243). -/
def execMul (c : Fin 256) (d a b : BitVec 5) (s : State) : Result := .next (s.alu c 0 d (fun x => x.reg a * x.reg b))

/-- MULH (R243). -/
def execMulh (c : Fin 256) (d a b : BitVec 5) (s : State) : Result :=
  .next (s.alu c 0 d (fun x => mulHigh (x.reg a) (x.reg b)))

/-- MULHU (R243). -/
def execMulhu (c : Fin 256) (d a b : BitVec 5) (s : State) : Result :=
  .next (s.alu c 0 d (fun x => mulHighU (x.reg a) (x.reg b)))

/-- DIV (R244). -/
def execDiv (c : Fin 256) (d a b : BitVec 5) (s : State) : Result :=
  .next (s.alu c 0 d (fun x => divSigned (x.reg a) (x.reg b)))

/-- DIVU (R244). -/
def execDivu (c : Fin 256) (d a b : BitVec 5) (s : State) : Result :=
  .next (s.alu c 0 d (fun x => divUnsigned (x.reg a) (x.reg b)))

/-- REM (R244). -/
def execRem (c : Fin 256) (d a b : BitVec 5) (s : State) : Result :=
  .next (s.alu c 0 d (fun x => remSigned (x.reg a) (x.reg b)))

/-- REMU (R244). -/
def execRemu (c : Fin 256) (d a b : BitVec 5) (s : State) : Result :=
  .next (s.alu c 0 d (fun x => remUnsigned (x.reg a) (x.reg b)))

/-- CLZ (R243). -/
def execClz (c : Fin 256) (d a : BitVec 5) (s : State) : Result :=
  .next (s.alu c 0 d (fun x => BitVec.ofNat 64 (leadingZeros (x.reg a))))

/-- CTZ (R243). -/
def execCtz (c : Fin 256) (d a : BitVec 5) (s : State) : Result :=
  .next (s.alu c 0 d (fun x => BitVec.ofNat 64 (trailingZeros (x.reg a))))

/-- POPC (R243). -/
def execPopc (c : Fin 256) (d a : BitVec 5) (s : State) : Result :=
  .next (s.alu c 0 d (fun x => BitVec.ofNat 64 (popCount (x.reg a))))

/-- SEXTB (R243). -/
def execSextb (c : Fin 256) (d a : BitVec 5) (s : State) : Result :=
  .next (s.alu c 0 d (fun x => ((x.reg a).setWidth 8).signExtend 64))

/-- SEXTH (R243). -/
def execSexth (c : Fin 256) (d a : BitVec 5) (s : State) : Result :=
  .next (s.alu c 0 d (fun x => ((x.reg a).setWidth 16).signExtend 64))

/-- SEXTW (R243). -/
def execSextw (c : Fin 256) (d a : BitVec 5) (s : State) : Result :=
  .next (s.alu c 0 d (fun x => ((x.reg a).setWidth 32).signExtend 64))

/-- ZEXTW (R243). -/
def execZextw (c : Fin 256) (d a : BitVec 5) (s : State) : Result :=
  .next (s.alu c 0 d (fun x => ((x.reg a).setWidth 32).setWidth 64))

/-- BSWAP (R243). -/
def execBswap (c : Fin 256) (d a : BitVec 5) (s : State) : Result := .next (s.alu c 0 d (fun x => byteSwap (x.reg a)))

/-- ADDI (R243). -/
def execAddi (c : Fin 256) (d a : BitVec 5) (imm : BitVec 16) (s : State) : Result :=
  .next (s.alu c 1 d (fun x => x.reg a + sext imm))

/-- ANDI (R243). -/
def execAndi (c : Fin 256) (d a : BitVec 5) (imm : BitVec 16) (s : State) : Result :=
  .next (s.alu c 2 d (fun x => x.reg a &&& zext imm))

/-- ORI (R243). -/
def execOri (c : Fin 256) (d a : BitVec 5) (imm : BitVec 16) (s : State) : Result :=
  .next (s.alu c 3 d (fun x => x.reg a ||| zext imm))

/-- XORI (R243). -/
def execXori (c : Fin 256) (d a : BitVec 5) (imm : BitVec 16) (s : State) : Result :=
  .next (s.alu c 4 d (fun x => x.reg a ^^^ zext imm))

/-- SLTI (R243). -/
def execSlti (c : Fin 256) (d a : BitVec 5) (imm : BitVec 16) (s : State) : Result :=
  .next (s.alu c 5 d (fun x => flag ((x.reg a).slt (sext imm))))

/-- SLTIU (R243). -/
def execSltiu (c : Fin 256) (d a : BitVec 5) (imm : BitVec 16) (s : State) : Result :=
  .next (s.alu c 6 d (fun x => flag ((x.reg a).ult (sext imm))))

/-- LUI (R243). -/
def execLui (c : Fin 256) (d : BitVec 5) (imm : BitVec 16) (s : State) : Result :=
  .next (s.alu c 7 d (fun _ => sext imm <<< 16))

/-- SLLI (R243). -/
def execSlli (c : Fin 256) (d a : BitVec 5) (sh : BitVec 6) (s : State) : Result :=
  .next (s.alu c 8 d (fun x => x.reg a <<< sh.toNat))

/-- SRLI (R243). -/
def execSrli (c : Fin 256) (d a : BitVec 5) (sh : BitVec 6) (s : State) : Result :=
  .next (s.alu c 8 d (fun x => x.reg a >>> sh.toNat))

/-- SRAI (R243). -/
def execSrai (c : Fin 256) (d a : BitVec 5) (sh : BitVec 6) (s : State) : Result :=
  .next (s.alu c 8 d (fun x => (x.reg a).sshiftRight sh.toNat))

/-- SHORI (R243). -/
def execShori (c : Fin 256) (d a : BitVec 5) (imm : BitVec 16) (s : State) : Result :=
  .next (s.alu c 9 d (fun x => (x.reg a <<< 16) ||| zext imm))

end Sys2Proof.Machine
end

