-- ==== Sys2Proof/Machine/Registrar.lean ====
section
/-! DEFINITION. The registrar (Chapter 14): recording, rate limiting, CXL event records, the annal region, reading. -/

namespace Sys2Proof.Machine

/-- Source index of a code (R423). -/
def srcOf (code : Nat) : Nat := 80 * (code / 256) + code % 256

/-- Whether a record's arg carries an address that becomes the DPA (R425, Table 14.5). -/
def argIsAddress (r : Rcd) : Bool :=
  !r.summary && (([E.MED_TAG_MISMATCH, E.MED_UNCORR, E.MED_DRIFT_SKEW, E.MED_BOUND_MISS, E.CON_REBUILD_LOSS]).contains
    r.code || (decide (r.code = E.CON_WPROT) && decide (r.aux = 3)))

/-- The CXL event record type of a code's block (R425). -/
def cxlTypeOf (code : Nat) : CxlType :=
  let b := code / 256
  if b = 0xA ∨ b = 0xB then .media else if b = 9 then .dram else if b = 1 ∨ b = 2 ∨ b = 3 then .memModule else .vendor

/-- Places one event record in a log (R314): a full log keeps its oldest and sets its overflow indication. -/
def CxlLog.add (l : CxlLog) (r : Rcd) : CxlLog :=
  if 256 ≤ l.recs.length then { l with overflow := true }
  else
    let dpa := if (cxlTypeOf r.code = .media) ∧ argIsAddress r then r.arg % 2 ^ 43 else 0
    { l with recs := l.recs ++ [⟨l.handle, cxlTypeOf r.code, dpa, r⟩], handle := l.handle + 1 }

/-- Posts a CXL event record on port `p`, if its link carries CXL, with the log's interrupt (R314, R328). -/
def State.postCxlPort (s : State) (r : Rcd) (p : Nat) : State :=
  if s.portMode p = 2 then
    let q := s.port p
    let l := SMap.get CxlLog.init q.logs r.sev
    let l' := l.add r
    let s1 := s.setPort p { q with logs := SMap.put CxlLog.init q.logs r.sev l' }
    if l.vector ∧ l.recs.length < l'.recs.length then s1.sendMsix p (1 + r.sev) else s1
  else s

/-- Posts a CXL event record on every port (R314). -/
def State.postCxl (s : State) (r : Rcd) : State := (List.range 4).foldl (fun a p => a.postCxlPort r p) s

/-- Vector 5 for a record on the ports of REC_IRQ (R436). -/
def State.recIrqPort (s : State) (sev p : Nat) : State :=
  if (s.rd D.REC_IRQ_ports).testBit p ∧ s.rd D.REC_IRQ_sev ≤ sev then
    let b : BitVec 4 := BitVec.ofNat 4 (2 ^ p)
    if s.rgr.irqBusy &&& b ≠ 0 then { s with rgr := { s.rgr with irqDue := s.rgr.irqDue ||| b } }
    else { (s.sendMsix p 5) with rgr := { s.rgr with irqBusy := s.rgr.irqBusy ||| b } }
  else s

/-- Whether a record that is recorded now travels with the flush record (R90, R433). -/
def State.recTravels (s : State) : Bool := s.rgr.step7.isSome

/-- Records one numbered record (R422, R425, R429, R431, R436). -/
def State.record (s : State) (r : Rcd) : State :=
  if 32768 ≤ s.rgr.buf.length then
    { ((s.wr D.REC_STAT_overflow 1).addSat D.REC_DROPPED_count 1) with
      rgr := { s.rgr with dropPend := s.rgr.dropPend + 1 } }
  else
    let n := s.rd D.REC_HEAD_seq + 1
    let r' := { r with seq := n }
    let s1 : State := { (s.wr D.REC_HEAD_seq n) with rgr := { s.rgr with buf := SMap.ins s.rgr.buf n r' } }
    let s2 := if s1.rd D.REC_TAIL_seq = 0 then s1.wr D.REC_TAIL_seq 1 else s1
    let s3 := if evPosts r.code ∧ s2.recTravels = false then s2.postCxl r' else s2
    (List.range 4).foldl (fun a p => a.recIrqPort r.sev p) s3

/-- The record of an event (R421). -/
def Ev.rcd (e : Ev) : Rcd :=
  ⟨0, e.time, e.inst, e.aux, (evSeverity e.code).getD 0, e.inj, false, false, e.code, e.arg⟩

/-- The summary that closes a window (R427). -/
def RateWin.summary (w : RateWin) (code : Nat) : Rcd :=
  ⟨0, w.opened + w.len, w.inst, w.aux, (evSeverity code).getD 0, false, true, false, code, w.supp⟩

/-- The code of a source (R423). -/
def codeOf (src : Nat) : Nat := src / 80 * 256 + src % 80

/-- Closes the open window of a source, recording its summary when it suppressed events (R427, R428). -/
def State.closeWin (s : State) (src : Nat) : State :=
  match SMap.find s.rgr.wins src with
  | none => s
  | some w =>
    let s1 := { s with rgr := { s.rgr with wins := SMap.del s.rgr.wins src } }
    if 0 < w.supp ∧ s.rd D.REC_SRC_limit src ≠ 0 then s1.record (w.summary (codeOf src)) else s1

/-- The window an event of a source falls in at time `t`: the open one, or the one it opens (R426). -/
def State.winFor (s : State) (src t : Nat) : RateWin :=
  match SMap.find s.rgr.wins src with
  | some w => w
  | none => ⟨t, 2 ^ s.rd D.REC_SRC_win src * 1000000, 0, 0, 0, 0⟩

/-- Whether an event arriving at `t` falls outside the source's open window (R426). -/
def State.winOver (s : State) (src t : Nat) : Bool :=
  match SMap.find s.rgr.wins src with
  | some w => decide (w.opened + w.len ≤ t)
  | none => false

/-- Replaces the open window of a source. -/
def State.setWin (s : State) (src : Nat) (w : RateWin) : State :=
  { s with rgr := { s.rgr with wins := SMap.ins s.rgr.wins src w } }

/-- An event reaches the running registrar: counted, then recorded or suppressed (R426, R428). -/
def State.arrive (s : State) (e : Ev) : State :=
  let src := srcOf e.code
  let sev := (evSeverity e.code).getD 0
  let s1 := s.addSat D.REC_SRC_count 1 src
  let s2 := if s1.winOver src s.now then s1.closeWin src else s1
  let w := s2.winFor src s.now
  if sev < 2 ∧ s2.rd D.REC_SRC_limit src ≤ w.seen then
    s2.setWin src { w with supp := w.supp + 1, inst := e.inst, aux := e.aux }
  else (s2.setWin src { w with seen := w.seen + 1 }).record e.rcd

/-- Events of one registrar cycle in the order R422 numbers them: ascending code. -/
def insByCode (e : Ev) : List Ev → List Ev
  | [] => [e]
  | f :: t => if e.code < f.code then e :: f :: t else f :: insByCode e t

/-- Sorts events by code, keeping arrival order among equals. -/
def sortByCode (l : List Ev) : List Ev := l.foldl (fun a e => insByCode e a) []

/-- Events reach the registrar: held without numbers until its counter has been read (R422). DEDUCED, log 53. -/
def State.arriveAll (s : State) (l : List Ev) : State :=
  if s.rgr.running then (sortByCode l).foldl State.arrive s
  else { s with rgr := { s.rgr with held := s.rgr.held ++ sortByCode l } }

/-- EVENT_ARRIVAL (R422). -/
def execEventArrival (pos n : Nat) (s : State) : Result :=
  let l := (s.evq.drop pos).take (n + 1)
  .next ({ s with evq := s.evq.take pos ++ s.evq.drop (pos + n + 1) }.arriveAll l)

/-- RATE_WINDOW_CLOSE (R427). -/
def execRateWindowClose (src : Fin 1280) (s : State) : Result := .next (s.closeWin src)

/-- Starts an annal write with its progress record (R448), or extends the running one to the records present when it ends
(R430). -/
def State.annalStart (s : State) : State :=
  if s.rgr.running = false ∨ s.rgr.buf = [] then s
  else match s.rgr.writing with
    | none => ({ (s.wr D.REC_STAT_writing 1) with rgr := { s.rgr with writing := some (s.rd D.REC_HEAD_seq) } } : State).progress
        1 0 0 0 0 s.isFlushing
    | some _ => { s with rgr := { s.rgr with writing := some 0 } }

/-- Whether a trigger of R430 holds: the watermark, or an unwritten record of severity F or X. -/
def State.annalDue (s : State) : Bool :=
  decide (s.rd D.REC_CFG_wmark * 32768 ≤ s.rgr.buf.length * 100) || s.rgr.buf.any (fun e => decide (2 ≤ e.2.sev))

/-- ANNAL_WRITE (R430, R432). -/
def execAnnalWrite (s : State) : Result := .next (if s.annalDue then s.annalStart else s)

/-- ANNAL_PERIODIC (R430): every 10 s, when any record is unwritten. -/
def execAnnalPeriodic (s : State) : Result := .next s.annalStart

/-- REC_FLUSH (R430). -/
def execRecFlush (s : State) : Result := .next s.annalStart

/-- Oldest readable number once `n` is the newest on media: the ring holds 4,194,304 leaves of 8 records (R432). -/
def annalTail (old n : Nat) : Nat :=
  let leaf := (n - 1) / 8
  if 4194304 ≤ leaf then max old ((leaf - 4194303) * 8 + 1) else old

/-- Moves the buffer's records up to `n` to media (R429, R432). -/
def State.annalCommit (s : State) (n : Nat) : State :=
  let done := SMap.keep (fun k _ => decide (k ≤ n)) s.rgr.buf
  let tail := annalTail (s.rd D.REC_TAIL_seq) n
  let an := SMap.keep (fun k _ => decide (tail ≤ k)) (done.foldl (fun a e => SMap.ins a e.1 e.2) s.rgr.annal)
  { ((s.wr D.REC_FLUSHED_seq (max (s.rd D.REC_FLUSHED_seq) n)).wr D.REC_TAIL_seq tail) with
    rgr := { s.rgr with buf := SMap.keep (fun k _ => decide (n < k)) s.rgr.buf, annal := an } }

/-- Records REC_OVERFLOW once space has returned (R431). -/
def State.overflowRecord (s : State) : State :=
  if 0 < s.rgr.dropPend ∧ s.rgr.buf.length < 32768 then
    ({ s with rgr := { s.rgr with dropPend := 0 } }).record
      ⟨0, s.now, 0, 0, 1, false, false, false, E.REC_OVERFLOW, s.rgr.dropPend⟩
  else s

/-- ANNAL_WRITE_DONE (R432). -/
def execAnnalWriteDone (s : State) : Result :=
  match s.rgr.writing with
  | none => .next s
  | some n =>
    let m := if n = 0 then s.rd D.REC_HEAD_seq else n
    let s1 := ({ s with rgr := { s.rgr with writing := none } }).annalCommit m
    .next ((s1.wr D.REC_STAT_writing 0).overflowRecord)

/-- A reader of the record window. -/
def State.reader (s : State) (r : Nat) : RecReader := SMap.get RecReader.init s.rgr.readers r

/-- Replaces a reader. -/
def State.setReader (s : State) (r : Nat) (x : RecReader) : State :=
  { s with rgr := { s.rgr with readers := SMap.put RecReader.init s.rgr.readers r x } }

/-- Starts a copy from record `q` for reader `r` (R434). -/
def State.startCopy (s : State) (r q : Nat) : State := s.setReader r { s.reader r with seq := q, busy := true }

/-- RECORD_WINDOW_COPY (R434). -/
def execRecordWindowCopy (reader : Fin 5) (seq : Word) (s : State) : Result := .next (s.startCopy reader seq.toNat)

/-- The records q to q + 1,023 that are numbered, not below REC_TAIL and not dropped, by place (R434). -/
def State.windowAt (s : State) (q : Nat) : SMap Rcd :=
  ((s.rgr.annal ++ s.rgr.buf).filter (fun e => decide (q ≤ e.1 ∧ e.1 < q + 1024 ∧ s.rd D.REC_TAIL_seq ≤ e.1))).map
    (fun e => (e.1 - q, e.2))

/-- RECORD_WINDOW_READY (R434): the copy is taken at one instant. -/
def execRecordWindowReady (reader : Fin 5) (s : State) : Result :=
  let x := s.reader reader
  .next (if x.busy then s.setReader reader { x with busy := false, base := x.seq, entries := s.windowAt x.seq } else s)

/-- REC_IRQ_COALESCE (R436): a port's interval ends; a record that fell inside it is sent now. -/
def execRecIrqCoalesce (port : Fin 4) (s : State) : Result :=
  let b : BitVec 4 := BitVec.ofNat 4 (2 ^ port.val)
  if s.rgr.irqDue &&& b ≠ 0 then
    .next { (s.sendMsix port 5) with rgr := { s.rgr with irqDue := s.rgr.irqDue &&& ~~~b } }
  else .next { s with rgr := { s.rgr with irqBusy := s.rgr.irqBusy &&& ~~~b } }

/-- Word `w` of a record (Table 14.1). -/
def Rcd.word (r : Rcd) (w : Nat) : Nat :=
  if w = 0 then r.seq else if w = 1 then r.time
  else if w = 2 then
    r.inst * 2 ^ 48 + r.aux * 2 ^ 32 + r.sev * 2 ^ 22 + b2n r.inj * 2 ^ 21 + b2n r.summary * 2 ^ 20 +
      b2n r.replay * 2 ^ 19 + r.code
  else r.arg

end Sys2Proof.Machine
end

