-- ==== Sys2Proof/Machine/Atrium.lean ====
section
/-! DEFINITION. The atrium queues (R317 to R328): pushing, packets, popping, protection, interrupts. -/

namespace Sys2Proof.Machine

/-- The codes of ATQ_CFG.type (Table 10.13). -/
def qCall : Nat := 0
def qCompl : Nat := 1
def qData : Nat := 2

/-- Whether a queue is enabled. -/
def State.qOn (s : State) (n : Nat) : Bool := s.bit D.ATQ_CFG_enable n

/-- A queue's type. -/
def State.qType (s : State) (n : Nat) : Nat := s.rd D.ATQ_CFG_type n

/-- A queue's capacity in entries (R317). -/
def State.qCap (s : State) (n : Nat) : Nat := 2 ^ s.rd D.ATQ_CFG_order n

/-- Whether a queue is full (R322). -/
def State.qFull (s : State) (n : Nat) : Bool :=
  decide (s.qCap n ≤ (s.queue n).vis.length + (s.queue n).held.length)

/-- Counts pushes and held entries ignored or discarded. -/
def State.qDrop (s : State) (n k : Nat) : State := s.addSat D.ATQ_ERR_dropped k n

/-- An armed COMPL or DATA queue with a visible entry sends its vector and disarms (R327). -/
def State.qSend (s : State) (n : Nat) : State :=
  if s.bit D.ATQ_STAT_armed n ∧ (s.queue n).vis ≠ [] ∧ s.qType n ≠ qCall then
    (s.wr D.ATQ_STAT_armed 0 n).sendMsix (s.rd D.ATQ_CFG_port n) (s.rd D.ATQ_CFG_vector n)
  else s

/-- No port holds the queue's packet open any longer. -/
def State.qUnhold (s : State) (n : Nat) : State :=
  (List.range 4).foldl (fun a p =>
    let x := a.port p
    if x.packets.contains n then a.setPort p { x with packets := x.packets.filter (fun k => k ≠ n) } else a) s

/-- Closes an open packet: every held entry becomes visible at one instant (R320). -/
def State.qClose (s : State) (n : Nat) : State :=
  let q := s.queue n
  if q.packet then ((s.setQueue n ⟨q.vis ++ q.held, [], false, false⟩).qUnhold n).qSend n else s

/-- Appends an entry to a queue with room: `more` holds it in the open packet, otherwise the packet closes (R320). -/
def State.qAppend (s : State) (n : Nat) (e : QEntry) (more : Bool) : State :=
  let q := s.queue n
  if more then
    let held := q.held ++ [e]
    let ct := s.rd D.ATQ_CFG_ct n
    let cut := q.cut || decide (ct ≠ 0 ∧ ct ≤ held.length)
    if cut then (s.setQueue n ⟨q.vis ++ held, [], true, true⟩).qSend n
    else s.setQueue n ⟨q.vis, held, true, false⟩
  else ((s.setQueue n ⟨q.vis ++ q.held ++ [e], [], false, false⟩).qUnhold n).qSend n

/-- A push of whole entry `e` to a queue: ignored where disabled, full or not permitted (R318, R322). -/
def State.qPush (s : State) (n : Nat) (e : Line) (more permitted : Bool) : State :=
  if s.qOn n = false ∨ permitted = false then s.qDrop n 1
  else if s.qFull n then (((s.wr D.ATQ_STAT_overrun 1 n).qDrop n 1).log E.CUR_Q_OVERRUN n 0 0)
  else s.qAppend n ⟨e, false⟩ more

/-- Whether an access of a push or pop window has a size and alignment R319 permits. -/
def windowAccess (off size : Nat) : Bool := ([4, 8, 16, 32, 64]).contains size && decide (off % size = 0)

/-- A bad access is logged with its source, size and window offset (R3, R548). -/
def State.badAccess (s : State) (src off size : Nat) : State := s.log E.GBL_BAD_ACCESS src size off

/-- A port that carries accesses (R304) writes bytes into a push window: they gather, and byte 63 is the doorbell (R319). -/
def State.windowPush (s : State) (p n : Nat) (more : Bool) (off size : Nat) (d : Line) : State :=
  if windowAccess off size = false then s.badAccess p (0x100000 + 256 * n + b2n more * 64 + off) size
  else if s.phase = stRomRecovery then s
  else
    let x := s.port p
    let k := n * 2 + b2n more
    let g := merge (SMap.get 0 x.gather k) d (maskOf off size)
    if off + size = 64 then
      let s1 := s.setPort p { x with gather := SMap.put 0 x.gather k 0 }
      let s2 := s1.qPush n g more (decide (s1.qType n ≠ qCompl))
      if more ∧ (s.queue n).packet = false ∧ (s2.queue n).packet then
        s2.setPort p { s2.port p with packets := (s2.port p).packets ++ [n] }
      else s2
    else s.setPort p { x with gather := SMap.put 0 x.gather k g }

/-- PUSH (R319, R320). -/
def execPush (port : Fin 4) (queue : Fin 4096) (off : Fin 64) (size : Nat) (data : Line) (s : State) : Result :=
  .next (if s.regUp port then (s.tlpIn port).windowPush port queue false off size data else s)

/-- PUSHMORE (R319, R320). -/
def execPushmore (port : Fin 4) (queue : Fin 4096) (off : Fin 64) (size : Nat) (data : Line) (s : State) : Result :=
  .next (if s.regUp port then (s.tlpIn port).windowPush port queue true off size data else s)

/-- What taking an entry gives: nothing, its bytes, or an uncorrectable entry. -/
inductive Taken where
  | empty
  | entry (d : Line)
  | bad
  deriving DecidableEq, Repr

/-- Injected faults in the eight words of an entry (point 0x0F): words with one bit wrong, and whether a word has more. -/
def State.qInject (s : State) (n : Nat) : (Nat × Bool) × State :=
  (List.range 8).foldl (fun a w =>
    let x := a.2.inject 0x0F (hitInst n w) 72
    let k := popBelow x.1.mask 72
    ((a.1.1 + b2n (decide (k = 1)), a.1.2 || decide (1 < k)), x.2)) ((0, false), s)

/-- Takes the oldest visible entry (R323, R324): `corr` words were corrected, `unc` says a word was uncorrectable. A
queue that is not enabled is empty. -/
def State.qTake (s : State) (n corr : Nat) (unc : Bool) : Taken × State :=
  let q := s.queue n
  if s.qOn n = false then (.empty, s)
  else match q.vis with
    | [] => (.empty, s)
    | e :: r =>
      let i := s.qInject n
      let s1 := (i.2.setQueue n { q with vis := r }).addSat D.ATQ_ERR_corr (corr + i.1.1) n
      if unc ∨ e.bad ∨ i.1.2 then (.bad, (s1.addSat D.ATQ_ERR_uncorr 1 n).log E.CUR_Q_UNCORR n 0 0)
      else (.entry e.data, s1)

/-- A read of the POP window (R318, R323). -/
def State.windowPop (s : State) (port queue off size corr : Nat) (unc : Bool) : State :=
  if windowAccess off size = false then
    (s.badAccess port (0x100080 + 256 * queue + off) size).emit (.pop port queue 0 false)
  else if s.phase = stRomRecovery ∨ s.qType queue = qCall then s.emit (.pop port queue 0 false)
  else
    let m := maskOf off size
    if off = 0 then
      match s.qTake queue corr unc with
      | (.empty, s1) => (s1.setPort port { s1.port port with pop := none }).emit (.pop port queue 0 false)
      | (.bad, s1) => (s1.setPort port { s1.port port with pop := none }).emit (.pop port queue 0 true)
      | (.entry d, s1) => (s1.setPort port { s1.port port with pop := some d }).emit (.pop port queue (merge 0 d m) false)
    else s.emit (.pop port queue (merge 0 ((s.port port).pop.getD 0) m) false)

/-- POP (R304, R318, R323): through a port that carries accesses. -/
def execPop (port : Fin 4) (queue : Fin 4096) (off : Fin 64) (size : Nat) (corr : Fin 9) (unc : Bool) (s : State) :
    Result :=
  .next (if s.regUp port then (s.tlpIn port).windowPop port queue off size corr unc else s)

/-- The queue numbers. -/
def queueIds : List Nat := List.range 4096

/-- Entries of the pool the enabled queues take. -/
def State.poolUsed (s : State) : Nat := ((queueIds.filter s.qOn).map s.qCap).sum

/-- Discards a queue's content; held entries are counted (R317, R326). -/
def State.qEmpty (s : State) (n : Nat) : State :=
  (((s.qDrop n (s.queue n).held.length).setQueue n AQueue.init).qUnhold n)

/-- Writing 1 to ATQ_CFG.enable (R317): allocates the capacity, or sets nospace. -/
def State.qEnable (s : State) (n : Nat) : State :=
  if s.qOn n then s
  else if s.poolUsed + s.qCap n ≤ 16777216 then (s.wr D.ATQ_CFG_enable 1 n).wr D.ATQ_STAT_nospace 0 n
  else s.wr D.ATQ_STAT_nospace 1 n

/-- Writing 0 to ATQ_CFG.enable (R317). -/
def State.qDisable (s : State) (n : Nat) : State := (s.qEmpty n).wr D.ATQ_CFG_enable 0 n

/-- Writing 1 to ATQ_CTL.arm (R327): only a COMPL or DATA queue is armed. -/
def State.qArm (s : State) (n : Nat) : State :=
  if s.qType n = qCall then s else (s.wr D.ATQ_STAT_armed 1 n).qSend n

/-- MSIX_UNMASK (R327): a pending vector is sent, or lost where the link is down. -/
def execMsixUnmask (port : Fin 4) (vector : Fin 2048) (s : State) : Result :=
  let q := s.port port
  let e := SMap.get MsixVec.init q.msix vector
  let s1 := s.setPort port { q with msix := SMap.put MsixVec.init q.msix vector ⟨false, false⟩ }
  .next (if e.pending then s1.sendMsix port vector else s1)

end Sys2Proof.Machine
end

