-- ==== Sys2Proof/Machine/Control.lean ====
section
/-! DEFINITION. Branches, jumps, fences, control words, trap and pause, undefined encodings, the library call and its return,
and the limits of a call (Tables 8.5, 8.6 and 9.11, R225 to R228, R242, R248 to R252, R263, R290). -/

namespace Sys2Proof.Machine

/-! Branches and jumps. -/

/-- A conditional branch (Table 8.5): its target is checked when it is fetched (R248). -/
def State.branch (s : State) (c : Nat) (major : Nat) (d a : BitVec 5) (imm : BitVec 16) (f : Word → Word → Bool) : State :=
  s.attempt c (fun x =>
    s.retire c x (if f (x.reg d) (x.reg a) then branchTarget x.pc imm else x.pc + 4) major 0)

/-- BEQ (R243). -/
def execBeq (c : Fin 256) (d a : BitVec 5) (imm : BitVec 16) (s : State) : Result :=
  .next (s.branch c 0x20 d a imm (fun u v => decide (u = v)))

/-- BNE (R243). -/
def execBne (c : Fin 256) (d a : BitVec 5) (imm : BitVec 16) (s : State) : Result :=
  .next (s.branch c 0x21 d a imm (fun u v => decide (u ≠ v)))

/-- BLT (R243). -/
def execBlt (c : Fin 256) (d a : BitVec 5) (imm : BitVec 16) (s : State) : Result :=
  .next (s.branch c 0x22 d a imm (fun u v => u.slt v))

/-- BGE (R243). -/
def execBge (c : Fin 256) (d a : BitVec 5) (imm : BitVec 16) (s : State) : Result :=
  .next (s.branch c 0x23 d a imm (fun u v => v.sle u))

/-- BLTU (R243). -/
def execBltu (c : Fin 256) (d a : BitVec 5) (imm : BitVec 16) (s : State) : Result :=
  .next (s.branch c 0x24 d a imm (fun u v => u.ult v))

/-- BGEU (R243). -/
def execBgeu (c : Fin 256) (d a : BitVec 5) (imm : BitVec 16) (s : State) : Result :=
  .next (s.branch c 0x25 d a imm (fun u v => v.ule u))

/-- JAL (R243). -/
def execJal (c : Fin 256) (d : BitVec 5) (imm : BitVec 16) (s : State) : Result :=
  .next (s.attempt c (fun x =>
    s.retire c (x.setReg d (BitVec.ofNat 64 (x.pc + 4))) (branchTarget x.pc imm) 0x26 0))

/-- JALR (R248): the target is computed before `d` is written. -/
def execJalr (c : Fin 256) (d a : BitVec 5) (imm : BitVec 16) (s : State) : Result :=
  .next (s.attempt c (fun x =>
    let t := x.ea a imm
    if t % 4 ≠ 0 then s.faultNow c fltAlign t 0x27 0
    else s.retire c (x.setReg d (BitVec.ofNat 64 (x.pc + 4))) t 0x27 0))

/-! Fences (R225 to R228, R250, R263). A context's loads return before it goes on, so a fence waits for its stores alone. -/

/-- An instruction that first completes as a local fence (R225, R261): not ready while a store is buffered.
DEDUCED, log 123. -/
def State.fenced (s : State) (c : Nat) (run : Ctx → State) : State :=
  s.attempt c (fun x => if x.sb = [] then run x else s)

/-- FENCE (R225). -/
def execFence (c : Fin 256) (s : State) : Result := .next (s.fenced c (fun x => s.retire c x (x.pc + 4) 0x30 0))

/-- FENCE_I (R181, R227): the core's instruction copies of lines the context has written end. -/
def execFenceI (c : Fin 256) (s : State) : Result :=
  .next (s.fenced c (fun x =>
    let k := coreOf c
    let s1 : State := { s with coh := { s.coh with
      l1i := SMap.mapVal (fun i l => if i / 128 = k then l.filter (fun e => !x.wrote.contains e.1) else l) s.coh.l1i } }
    s1.retire c { x with wrote := [] } (x.pc + 4) 0x30 0))

/-- Outbound entries that hold a store of a context (R226). -/
def State.outOf (s : State) (c : Nat) : List Nat :=
  (s.coh.outb.filter (fun (e : Nat × OutEnt) => e.2.ctxs.contains c)).map Prod.fst

/-- Whether an earlier store of a context was never performed: lost, or kept in the forward hold area (R226, R250). -/
def State.unperformed (s : State) (c : Nat) : Bool :=
  decide ((s.ctx c).lost ≠ 0) || s.coh.fwd.any (fun (e : Nat × FwdEnt) => e.2.ctxs.contains c)

/-- A global fence completes with its status (R226, R250). -/
def State.fenceEnd (s : State) (c : Nat) (d : BitVec 5) (lost : Bool) : State :=
  let x := { s.ctx c with gfence := none }
  let inc := lost || s.unperformed c
  let s1 := if inc then s.addSat D.CLO_LOSS_fenceinc 1 else s
  s1.retire c (x.setReg d (flag inc)) (x.pc + 4) 0x30 0

/-- A global fence under way (R226): once the store buffer has drained, the outbound entries with a store of the context deliver,
a delivery that found no tag again at each attempt, and the fence completes when none is left to perform. -/
def State.fenceGo (s : State) (c : Nat) (d : BitVec 5) (g : GFence) : State :=
  let x := s.ctx c
  let ls := if g.sent then g.lines else s.outOf c
  if x.sb ≠ [] then s.setCtx c { x with gfence := some g }
  else if ls = [] then s.fenceEnd c d g.lost
  else ls.foldl State.deliver (s.setCtx c { x with gfence := some { g with sent := true, lines := ls } })

/-- FENCE_G (R226, R228, R250): the fence is under way from its first attempt, and completes once each earlier store has been
performed or lost. DEDUCED, log 124. -/
def execFenceG (c : Fin 256) (d : BitVec 5) (s : State) : Result :=
  let x := s.ctx c
  match x.gfence with
  | some g =>
    .next (if x.st ≠ .running ∨ s.isOpen = false then s else s.fenceGo c d g)
  | none => .next (s.attempt c (fun _ => s.fenceGo c d ⟨false, [], false⟩))

/-- Whether a refusal of a store of a context is still on its way to it (R255). -/
def State.refusing (s : State) (c : Nat) : Bool := s.cur.refusals.any (fun r => decide (r.1 = c))

/-- psync and what completes as it does (R263, R294): a refusal on its way stops the context first. -/
def State.psynced (s : State) (c : Nat) (run : Ctx → State) : State :=
  s.fenced c (fun x => if s.refusing c then s else run x)

/-- PSYNC (R263). -/
def execPsync (c : Fin 256) (d : BitVec 5) (s : State) : Result :=
  .next (s.psynced c (fun x => s.setAndGo c x d (BitVec.ofNat 64 x.lost) 0x38))

/-! Control words (R251, R252, Tables 8.6 to 8.8, 9.11). -/

/-- A control word: its floors for reading and writing (none: read-only). -/
def cwFloors (k : Nat) : Option (Nat × Option Nat) :=
  if k ≤ 4 then some (0, none)
  else if k = 5 then some (0, some 1)
  else if k ≤ 7 then none
  else if k ≤ 15 then some (0, some 0)
  else if k ≤ 18 then some (0, none)
  else if k ≤ 47 then none
  else if k ≤ 63 then some (2, some 2)
  else none

/-- The value of a control word. DESIGN CHOICE, log 125. -/
def State.cwValue (s : State) (c k : Nat) : Nat :=
  let x := s.ctx c
  if k = 0 then (s.mySeat.getD 0) * 2 ^ 58 + b2n s.mySeat.isSome * 2 ^ 57 + x.priv.code * 2 ^ 48 + c
  else if k = 1 then s.now
  else if k = 2 then 2 * (s.now - x.start)
  else if k = 3 then x.instret
  else if k = 4 then x.lost * 2 ^ 32 + x.sb.length
  else if k = 5 then x.deadline
  else if k = 16 then x.tag
  else if k = 17 then x.callProg * 2 ^ 54 + x.entry * 2 ^ 46 + x.cq * 2 ^ 34 + x.links.length
  else if k = 18 then x.jobs.length
  else (SMap.get 0 x.scr k).toNat

/-- CWRD (R251). -/
def execCwrd (c : Fin 256) (d : BitVec 5) (cw : BitVec 6) (s : State) : Result :=
  .next (s.attempt c (fun x =>
    let k := cw.toNat
    match cwFloors k with
    | some (r, _) =>
      if r ≤ x.priv.code then s.setAndGo c x d (BitVec.ofNat 64 (s.cwValue c k)) 0x31 else s.faultNow c fltCwAccess k 0x31 0
    | none => s.faultNow c fltCwAccess k 0x31 0))

/-- CWWR (R251, R252). -/
def execCwwr (c : Fin 256) (d : BitVec 5) (cw : BitVec 6) (s : State) : Result :=
  .next (s.attempt c (fun x =>
    let k := cw.toNat
    match cwFloors k with
    | some (_, some w) =>
      if w ≤ x.priv.code then
        let v := x.reg d
        let x1 := if k = 5 then { x with deadline := v.toNat } else { x with scr := SMap.put 0 x.scr k v }
        s.retire c x1 (x.pc + 4) 0x32 0
      else s.faultNow c fltCwAccess k 0x32 0
    | _ => s.faultNow c fltCwAccess k 0x32 0))

/-! Trap, pause, undefined encodings, limits. -/

/-- TRAP (R253). -/
def execTrap (c : Fin 256) (imm : BitVec 16) (s : State) : Result :=
  .next (s.attempt c (fun _ => s.faultNow c fltTrap imm.toNat 0x33 0))

/-- PAUSE (R249): it retires, and the context is not ready for imm16 + 1 cycles. DEDUCED, log 128. -/
def execPause (c : Fin 256) (imm : BitVec 16) (s : State) : Result :=
  .next (s.attempt c (fun x => s.retire c { x with hold := .pause (imm.toNat + 1) } (x.pc + 4) 0x34 0))

/-- PAUSE_END (R249). -/
def execPauseEnd (c : Fin 256) (s : State) : Result :=
  let x := s.ctx c
  match x.hold with
  | .pause _ => .next ((s.setCtx c { x with hold := .none }).atBoundary c)
  | _ => .next s

/-- DEADLINE_REACHED (R249, R252): LIMIT is taken at the next boundary; a pause ends there. DESIGN CHOICE, log 3. -/
def execDeadlineReached (c : Fin 256) (s : State) : Result :=
  let x := s.ctx c
  if x.st ≠ .running ∨ x.deadline = 0 ∨ s.now < x.deadline then .next s
  else
    let h : Hold := match x.hold with
      | .pause _ => .none
      | h => h
    .next ((s.setCtx c { x with hold := h, pendLimit := true }).atBoundary c)

/-- Whether a word of major 0x00 or 0x08 is defined (Table 8.2). -/
def intLegal (major b sub : Nat) : Bool :=
  if major = 0 then
    decide (1 ≤ sub ∧ sub ≤ 0x0E ∨ 0x10 ≤ sub ∧ sub ≤ 0x16 ∨ 0x20 ≤ sub ∧ sub ≤ 0x27 ∧ b = 0)
  else decide (sub < 0x0C0 ∧ b = 0)

/-- Whether a service word is defined (Table 9.1). -/
def svcLegal (major d a b sub : Nat) : Bool :=
  if major = 0x38 then decide (sub = 1 ∧ a = 0 ∧ b = 0 ∨ sub = 2 ∧ d = 0 ∧ b = 0)
  else if major = 0x39 then decide ((1 ≤ sub ∧ sub ≤ 3 ∨ sub = 0x10 ∨ sub = 0x11) ∧ b = 0)
  else if major = 0x3A then decide (1 ≤ sub ∧ sub ≤ 3)
  else if major = 0x3B then decide (sub = 2 ∨ (sub = 1 ∨ sub = 3) ∧ b = 0)
  else if major = 0x3C then
    decide ((1 ≤ sub ∧ sub ≤ 3 ∨ sub = 0x11 ∨ sub = 0x20) ∧ b = 0 ∨ sub = 0x10 ∨ sub = 0x21 ∧ d = 0)
  else decide ((sub = 1 ∨ sub = 2) ∧ d = 0 ∧ a = 0 ∧ b = 0)

/-- Whether an instruction word is defined, its unused fields zero (R242, Tables 8.2 to 8.5 and 9.1). -/
def legalWord (w : BitVec 32) : Bool :=
  let n := w.toNat
  let major := n / 2 ^ 26
  let d := n / 2 ^ 21 % 32
  let a := n / 2 ^ 16 % 32
  let b := n / 2 ^ 11 % 32
  let sub := n % 2 ^ 11
  let imm := n % 2 ^ 16
  if major = 0 ∨ major = 8 then intLegal major b sub
  else if major ≤ 6 ∨ major = 9 then true
  else if major = 7 then decide (a = 0)
  else if 0x10 ≤ major ∧ major ≤ 0x16 ∨ 0x18 ≤ major ∧ major ≤ 0x1B then true
  else if major = 0x1C then
    decide ((sub / 512 = 2 ∨ sub / 512 = 3) ∧ sub / 16 % 32 = 0 ∧ sub % 16 ≤ 9)
  else if 0x20 ≤ major ∧ major ≤ 0x25 ∨ major = 0x27 then true
  else if major = 0x26 then decide (a = 0)
  else if major = 0x30 then decide (a = 0 ∧ b = 0 ∧ ((sub = 1 ∨ sub = 3) ∧ d = 0 ∨ sub = 2))
  else if major = 0x31 ∨ major = 0x32 then decide (a = 0 ∧ imm < 64)
  else if major = 0x33 ∨ major = 0x34 then decide (d = 0 ∧ a = 0)
  else if 0x38 ≤ major ∧ major ≤ 0x3D then svcLegal major d a b sub
  else if major = 0x3E then decide (d = 0 ∧ a = 0)
  else false

/-- ILLEGAL_INSTRUCTION (R242): the word at pc is undefined. -/
def execIllegalInstruction (c : Fin 256) (w : BitVec 32) (s : State) : Result :=
  .next (if legalWord w then s else s.attempt c (fun _ => s.faultNow c fltIllegal 0 (w.toNat / 2 ^ 26) 0))

/-! Library calls (R290). -/

/-- SCALL (R261, R290): pushes the return pc, program and privilege and continues at the import's export. The import index is
checked before the link stack (Table 9.12's order). DEDUCED, log 129. -/
def execScall (c : Fin 256) (imm : BitVec 16) (s : State) : Result :=
  .next (s.fenced c (fun x =>
    match s.prog x.prog with
    | none => s
    | some p =>
      match p.imports[imm.toNat]? with
      | none => s.faultNow c fltCallImport imm.toNat 0x3E 0
      | some (q, off) =>
        if 4 ≤ x.links.length then s.faultNow c fltCallDepth x.links.length 0x3E 0
        else
          match s.prog q with
          | some e => s.retire c { x with links := ⟨x.pc + 4, x.prog, x.priv⟩ :: x.links, prog := q, priv := e.priv }
              (e.code + off) 0x3E 0
          | none => s.faultNow c fltCallImport imm.toNat 0x3E 0))

/-- SRET (R261, R290). -/
def execSret (c : Fin 256) (s : State) : Result :=
  .next (s.fenced c (fun x =>
    match x.links with
    | [] => s.faultNow c fltCallDepth 0 0x3D 0
    | l :: r => s.retire c { x with links := r, prog := l.prog, priv := l.priv } l.pc 0x3D 0))

end Sys2Proof.Machine
end

