-- ==== Sys2Proof/Machine/LoadStore.lean ====
section
/-! DEFINITION. The load, store and atomic instructions and the store buffer's way to memory (Tables 8.3 and 8.4, R201, R219,
R245 to R247, R255). -/

namespace Sys2Proof.Machine

/-! Loads. -/

/-- The bytes of a unit: the context's own buffered stores over what the line returned (R245). -/
def LdUnit.value (u : LdUnit) : Nat :=
  bytesAt (merge (match u.got with
    | some (d, _) => d
    | none => 0) u.own u.mask) u.off u.n

/-- Whether the unit's own buffered stores cover all its bytes. -/
def LdUnit.covered (u : LdUnit) : Bool := decide (u.mask &&& maskOf u.off u.n = maskOf u.off u.n)

/-- Whether the unit is returned as poison. -/
def LdUnit.poisoned (u : LdUnit) : Bool :=
  !u.covered && (match u.got with
    | some (_, p) => p
    | none => false)

/-- The lowest address of a unit. -/
def LdUnit.addr (u : LdUnit) : Nat := gaOf u.gl + u.off

/-- A number of `n` bytes as a register value: sign- or zero-extended (Table 8.3). -/
def extendTo (n : Nat) (signed : Bool) (v : Nat) : Word :=
  if signed then (BitVec.ofNat (8 * n) v).signExtend 64 else BitVec.ofNat 64 v

/-- The value of a load: its units joined, the lower line first (R231). -/
def LdEnt.value (l : LdEnt) : Nat :=
  (l.units.foldr (fun u (a : Nat) => u.value + a * 2 ^ (8 * u.n)) 0)

/-- The value an atomic returns: the old value, a 4-byte one sign-extended (R247). -/
def Atom.old (a : Atom) (d : Line) : Word := extendTo a.size (decide (a.size = 4)) (bytesAt d a.off a.size)

/-- A load or atomic whose units have all returned: the register is written, or POISON is taken (R245, R247). -/
def State.loadEnd (s : State) (c : Nat) (l : LdEnt) : State :=
  let x := { s.ctx c with hold := .none }
  match l.units.find? LdUnit.poisoned with
  | some u => s.faultNow c fltPoison u.addr l.major l.ea
  | none =>
    let v := match l.atom, l.units with
      | some a, u :: _ => a.old (match u.got with
        | some (d, _) => d
        | none => 0)
      | _, _ => extendTo l.n l.signed l.value
    s.retire c (x.setReg l.rd v) (x.pc + 4) l.major l.ea

/-- The units of a load: bytes still buffered are taken from the context's own store buffer, and lines its wing holds are
read at once (R201, R245). -/
def State.loadUnits (s : State) (c : Nat) (us : List (Nat × Nat)) (fl : Flips) : List LdUnit × State :=
  us.foldl (fun a u =>
    let gl := u.1 / 64
    let own := sbBytes (a.2.ctx c).sb gl
    let e : LdUnit := ⟨gl, u.1 % 64, u.2, own.1, own.2, none⟩
    if e.covered then (a.1 ++ [{ e with got := some (0, false) }], a.2)
    else
      let r := a.2.wingRead c gl fl
      (a.1 ++ [{ e with got := r.1 }], r.2)) ([], s)

/-- Whether a buffered store to a line of a load does not cover the load's bytes there. -/
def Ctx.sbPartial (x : Ctx) (us : List (Nat × Nat)) : Bool :=
  us.any (fun u => x.sb.any (fun e => decide (e.gl = u.1 / 64)) &&
    decide ((sbBytes x.sb (u.1 / 64)).2 &&& maskOf (u.1 % 64) u.2 ≠ maskOf (u.1 % 64) u.2))

/-- A load of `n` bytes into `rd` (R221, R238, R239, R245): it ends at once where every unit is at hand, and otherwise waits for
the lines it asks for (READ, LOAD_RESPONSE). Where the buffer holds stores to a line of it that do not cover its bytes there, it
is not ready until they are performed. -/
def State.load (s : State) (c : Nat) (major n : Nat) (signed : Bool) (rd a : BitVec 5) (imm : BitVec 16) (fl : Flips) :
    State :=
  s.attempt c (fun x =>
    let ea := x.ea a imm
    let us := unitAddrs ea n
    match addrFault us with
    | some (code, addr) => s.faultNow c code addr major ea
    | none =>
      if s.coh.invBusy.getLsbD (wingOf c) ∨ x.sbPartial us then s
      else
        let r := s.loadUnits c us fl
        let l : LdEnt := ⟨major, rd, n, signed, ea, r.1, none, false⟩
        if r.1.all (fun u => u.got.isSome) then r.2.loadEnd c l else r.2.setCtx c { r.2.ctx c with hold := .load l })

/-- LB (R245). -/
def execLb (c : Fin 256) (d a : BitVec 5) (imm : BitVec 16) (fl : Flips) (s : State) : Result :=
  .next (s.load c 0x10 1 true d a imm fl)

/-- LH (R245). -/
def execLh (c : Fin 256) (d a : BitVec 5) (imm : BitVec 16) (fl : Flips) (s : State) : Result :=
  .next (s.load c 0x11 2 true d a imm fl)

/-- LW (R245). -/
def execLw (c : Fin 256) (d a : BitVec 5) (imm : BitVec 16) (fl : Flips) (s : State) : Result :=
  .next (s.load c 0x12 4 true d a imm fl)

/-- LD (R245). -/
def execLd (c : Fin 256) (d a : BitVec 5) (imm : BitVec 16) (fl : Flips) (s : State) : Result :=
  .next (s.load c 0x13 8 false d a imm fl)

/-- LBU (R245). -/
def execLbu (c : Fin 256) (d a : BitVec 5) (imm : BitVec 16) (fl : Flips) (s : State) : Result :=
  .next (s.load c 0x14 1 false d a imm fl)

/-- LHU (R245). -/
def execLhu (c : Fin 256) (d a : BitVec 5) (imm : BitVec 16) (fl : Flips) (s : State) : Result :=
  .next (s.load c 0x15 2 false d a imm fl)

/-- LWU (R245). -/
def execLwu (c : Fin 256) (d a : BitVec 5) (imm : BitVec 16) (fl : Flips) (s : State) : Result :=
  .next (s.load c 0x16 4 false d a imm fl)

/-! Stores enter the store buffer (R201, R246). -/

/-- Whether the bytes of the entry for a line are already on their way: a WRITE, ZERO or FWRITE of it is under way. -/
def State.handedOn (s : State) (c gl : Nat) : Bool :=
  s.coh.conf.any (fun r => decide (r.gl = gl ∧ r.src = .store c ∧ r.kind ≠ .own)) ||
    s.coh.txns.any (fun e => decide (e.2.req.gl = gl ∧ e.2.req.src = .store c ∧ e.2.req.kind ≠ .own)) ||
    s.coh.freqs.any (fun e => decide (e.2.gl = gl ∧ e.2.src = .store c ∧ e.2.kind = .fwrite))

/-- Whether a store to a line joins the youngest entry of the buffer. -/
def State.joins (s : State) (c : Nat) (sb : List SbEnt) (gl : Nat) : Bool :=
  match sb.getLast? with
  | some e => decide (e.gl = gl) && !(decide (sb.length = 1) && s.handedOn c gl)
  | none => false

/-- The buffer with a store added: joined to its youngest entry, or as a new entry. -/
def State.sbAdd (s : State) (c : Nat) (sb : List SbEnt) (e : SbEnt) : List SbEnt :=
  match sb.getLast? with
  | some y =>
    if s.joins c sb e.gl then
      sb.dropLast ++ [if e.zline then e else { y with data := merge y.data e.data e.mask, mask := y.mask ||| e.mask,
                                                      pc := e.pc, zline := false }]
    else sb ++ [e]
  | none => sb ++ [e]

/-- A store of the low `n` bytes of register `d` (R238, R239, R246). -/
def State.store (s : State) (c : Nat) (major n : Nat) (d a : BitVec 5) (imm : BitVec 16) : State :=
  s.attempt c (fun x =>
    let ea := x.ea a imm
    let us := unitAddrs ea n
    match addrFault us with
    | some (code, addr) => s.faultNow c code addr major ea
    | none =>
      let v := (x.reg d).toNat % 2 ^ (8 * n)
      let sb := (us.foldl (fun (r : List SbEnt × Nat) u =>
        (s.sbAdd c r.1 ⟨u.1 / 64, lineOfBytes r.2 (u.1 % 64) u.2, maskOf (u.1 % 64) u.2, x.pc, false, false⟩,
          r.2 / 2 ^ (8 * u.2))) (x.sb, v)).1
      if s.coh.invBusy.getLsbD (wingOf c) ∨ 16 < sb.length then s
      else s.retire c { x with sb := sb } (x.pc + 4) major ea)

/-- SB (R246). -/
def execSb (c : Fin 256) (d a : BitVec 5) (imm : BitVec 16) (s : State) : Result := .next (s.store c 0x18 1 d a imm)

/-- SH (R246). -/
def execSh (c : Fin 256) (d a : BitVec 5) (imm : BitVec 16) (s : State) : Result := .next (s.store c 0x19 2 d a imm)

/-- SW (R246). -/
def execSw (c : Fin 256) (d a : BitVec 5) (imm : BitVec 16) (s : State) : Result := .next (s.store c 0x1A 4 d a imm)

/-- SD (R246). -/
def execSd (c : Fin 256) (d a : BitVec 5) (imm : BitVec 16) (s : State) : Result := .next (s.store c 0x1B 8 d a imm)

/-- ZLINE (R187, R264): one entry of a whole line of zeros. -/
def execZline (c : Fin 256) (a : BitVec 5) (s : State) : Result :=
  .next (s.attempt c (fun x =>
    let ea := (x.reg a).toNat
    match addrFault [(ea, 1)] with
    | some (code, addr) => s.faultNow c code addr 0x38 ea
    | none =>
      let sb := s.sbAdd c x.sb ⟨ea / 64, 0, fullMask, x.pc, true, false⟩
      if s.coh.invBusy.getLsbD (wingOf c) ∨ 16 < sb.length then s
      else s.retire c { x with sb := sb } (x.pc + 4) 0x38 ea))

/-! Stores leave the store buffer (R201, R209, R211, R264, R355). -/

/-- The fate of a store that would take ownership of another device's line (R74, R155, R71); one that goes as FWRITE charges
nothing here. -/
def State.remoteVerdict (s : State) (gl : Nat) : Verdict :=
  if s.raises gl = false ∨ s.drainStep then .accept
  else if s.lowEnergy ∨ s.wprot then .refuse
  else if s.rd D.PWR_PGBUD_bytes < s.dirty + s.chargeOf gl then .hold
  else .accept

/-- Bytes are written into a line lent MODIFIED, which becomes the most recent of its set (R183). -/
def State.loanWrite (s : State) (gl w : Nat) (d : Line) (mask : LineMask) (p : Bool) : State :=
  (s.vmod gl (fun v => v.write d mask p)).touch gl w

/-- A store's bytes join a line this device holds: its loan way, its wing copies first collected, or an owned outbound
entry; none where it holds neither. -/
def State.intoHeld (s : State) (c gl : Nat) (d : Line) (mask : LineMask) (p : Bool) : Option State :=
  match s.vfind gl with
  | some (w, v) => if v.lent = .modified then some ((s.loanCollect gl true).loanWrite gl w d mask p) else none
  | none => match s.outEnt gl with
    | some e =>
      if e.st = .owned then
        some (s.setOut gl { e with
          data := merge e.data d mask, mask := e.mask ||| mask
          poison := if mask = fullMask then p else e.poison || p
          ctxs := if e.ctxs.contains c then e.ctxs else e.ctxs ++ [c] })
      else none
    | none => none

/-- The oldest store of a context, to another device's line: it joins a line this device holds, or asks for ownership
(`loan`: by LOWN, else by OWN), or goes as FWRITE where the device may hold no more lines (R79, R209, R264). It waits while a
delivery of the line is unanswered (R211). DEDUCED, log 121. -/
def State.remoteLeave (s : State) (c : Nat) (e : SbEnt) (p loan : Bool) : State :=
  let gl := e.gl
  if s.seatEmpty gl then (s.seatEmptyLog gl).sbPop c gl
  else
    let s := s.checkWrite gl e.mask Flips.none
    match s.intoHeld c gl e.data e.mask p with
    | some s1 => s1.sbPop c gl
    | none =>
      if s.fabAsked gl (.store c) ∨ s.leaving gl then s
      else if e.zline ∨ s.mayHold = false then s.fabSend .fwrite (seatOf gl) gl (.store c) e.data e.mask p none
      else match s.remoteVerdict gl with
        | .refuse => s.refuseStore c gl
        | .accept =>
          s.fabSend (if loan && decide (0 < s.coh.loanWays) then .lown else .own) (seatOf gl) gl (.store c) 0 0 false none
        | _ => s.govern

/-- STORE_BUFFER_LEAVE (R201): the oldest entry of a context leaves. A local line leaves into the wing that owns it; WRITE,
ZERO and OWN serve the others. DEDUCED, log 122. -/
def execStoreBufferLeave (c : Fin 256) (loan : Bool) (fl : Flips) (s : State) : Result :=
  match (s.ctx c).sb with
  | [] => .next s
  | e :: _ =>
    let x := s.checkStruct 1 c e.gl e.data fl
    let d := x.1.getD 0
    let p := x.1.isNone
    if s.isLocal e.gl then
      if e.zline then .next s
      else match s.wingOwns c e.gl with
        | some l => match x.2.checkWingWrite (wingOf c) e.gl l e.mask (x.2.wingArray c e.gl) with
          | (some l', s1) => .next ((s1.wingWrite c e.gl l' d e.mask p).sbPop c e.gl)
          | (none, s1) => .next s1
        | none => .next s
    else .next (x.2.remoteLeave c { e with data := d } p loan)

/-- STORE_REFUSAL (R255): the context stops with STORE_DISCARD at its next boundary. -/
def execStoreRefusal (c : Fin 256) (s : State) : Result :=
  match s.cur.refusals.find? (fun r => decide (r.1 = c.val)) with
  | none => .next s
  | some r =>
    let s1 : State := { s with cur := { s.cur with refusals := s.cur.refusals.erase r } }
    let x := s1.ctx c
    .next (if x.st = .running ∧ x.pendDiscard.isNone then
        (s1.setCtx c { x with pendDiscard := some (r.2.1, r.2.2) }).atBoundary c
      else s1)

/-! Atomics (R219, R220, R240, R247). -/

/-- Whether a curator atomic on a local line executes near (R219, R220). -/
def State.atomNear (s : State) (c gl : Nat) : Bool :=
  decide ((s.attrOf gl).wpol = .wb) &&
    (let m := s.rd D.CLO_CTL_atompl
     if m = 1 then false else if m = 2 then true else decide (s.predAt (wingOf c) gl < 2))

/-- A near atomic: the wing owns the line, or the line is on loan to this device (R219). -/
def State.atomHere (s : State) (c : Nat) (l : LdEnt) (fl : Flips) : Option State :=
  match l.units, l.atom with
  | [u], some a =>
    if s.isLocal u.gl then
      match s.wingOwns c u.gl with
      | none => none
      | some _ =>
        match s.wingRead c u.gl fl with
        | (some (d, p), s1) =>
          let l' := { l with units := [{ u with got := some (d, p) }] }
          let s2 := (s1.tWing (wingOf c) 0x04 1).addWrap D.CLO_ATOM_near 1
          if p then some (s2.loadEnd c l')
          else some ((s2.wfill c u.gl ⟨.modified, a.apply d, false⟩).loadEnd c l')
        | (none, s1) => some s1
    else
      let s0 := s.loanCollect u.gl true
      match s0.vfind u.gl with
      | some (w, v) =>
        if v.lent = .modified then
          match s0.checkWay u.gl w v fl with
          | (some (d, p), s1) =>
            let l' := { l with units := [{ u with got := some (d, p) }] }
            let s2 := (s1.tWing (wingOf c) 0x04 1).addWrap D.CLO_ATOM_near 1
            if p then some (s2.loadEnd c l') else some ((s2.loanWrite u.gl w (a.apply d) a.mask false).loadEnd c l')
          | (none, s1) => some s1
        else none
      | none => none
  | _, _ => none

/-- An atomic instruction (R240, R247): it executes only when every earlier store has left the buffer. -/
def State.atomic (s : State) (c : Nat) (op : AtomOp) (wide : Bool) (d a b : BitVec 5) (fl : Flips) : State :=
  s.attempt c (fun x =>
    let ea := (x.reg a).toNat
    let n := if wide then 8 else 4
    if 64 < ea % 64 + n then s.faultNow c fltAlign ea 0x1C ea
    else match addrFault [(ea, n)] with
      | some (code, addr) => s.faultNow c code addr 0x1C ea
      | none =>
        let gl := ea / 64
        if x.sb ≠ [] ∨ s.coh.invBusy.getLsbD (wingOf c) then s
        else
          let at_ : Atom := ⟨op, n, ea % 64, if op = .cas then x.reg d else x.reg b, x.reg b⟩
          let near := if s.isLocal gl then s.atomNear c gl else true
          let l : LdEnt := ⟨0x1C, d, n, false, ea, [⟨gl, ea % 64, n, 0, 0, none⟩], some at_, near⟩
          let s1 := s.setCtx c { x with hold := .load l }
          match (if near then s1.atomHere c l fl else none) with
          | some s2 => s2
          | none =>
            if s.isLocal gl then s1
            else if s.seatEmpty gl then
              (s1.seatEmptyLog gl).loadEnd c { l with units := [⟨gl, ea % 64, n, 0, 0, some (0, true)⟩] }
            else if (s.freeTag (seatOf gl)).isNone then s
            else s1.fabSend .fatomic (seatOf gl) gl (.atom c) 0 0 false (some at_))

/-- LOAD_RESPONSE (R231, R245): the load or atomic a context waits for has its data. -/
def execLoadResponse (c : Fin 256) (fl : Flips) (s : State) : Result :=
  match (s.ctx c).hold with
  | .load l =>
    if l.units.all (fun u => u.got.isSome) then .next (s.loadEnd c l)
    else if l.near then .next ((s.atomHere c l fl).getD s)
    else .next s
  | _ => .next s

/-- ASWAP (R247). -/
def execAswap (c : Fin 256) (wide : Bool) (d a b : BitVec 5) (fl : Flips) (s : State) : Result :=
  .next (s.atomic c .swap wide d a b fl)

/-- AADD (R247). -/
def execAadd (c : Fin 256) (wide : Bool) (d a b : BitVec 5) (fl : Flips) (s : State) : Result :=
  .next (s.atomic c .add wide d a b fl)

/-- AAND (R247). -/
def execAand (c : Fin 256) (wide : Bool) (d a b : BitVec 5) (fl : Flips) (s : State) : Result :=
  .next (s.atomic c .and wide d a b fl)

/-- AOR (R247). -/
def execAor (c : Fin 256) (wide : Bool) (d a b : BitVec 5) (fl : Flips) (s : State) : Result :=
  .next (s.atomic c .or wide d a b fl)

/-- AXOR (R247). -/
def execAxor (c : Fin 256) (wide : Bool) (d a b : BitVec 5) (fl : Flips) (s : State) : Result :=
  .next (s.atomic c .xor wide d a b fl)

/-- AMIN (R247). -/
def execAmin (c : Fin 256) (wide : Bool) (d a b : BitVec 5) (fl : Flips) (s : State) : Result :=
  .next (s.atomic c .min wide d a b fl)

/-- AMAX (R247). -/
def execAmax (c : Fin 256) (wide : Bool) (d a b : BitVec 5) (fl : Flips) (s : State) : Result :=
  .next (s.atomic c .max wide d a b fl)

/-- AMINU (R247). -/
def execAminu (c : Fin 256) (wide : Bool) (d a b : BitVec 5) (fl : Flips) (s : State) : Result :=
  .next (s.atomic c .minu wide d a b fl)

/-- AMAXU (R247). -/
def execAmaxu (c : Fin 256) (wide : Bool) (d a b : BitVec 5) (fl : Flips) (s : State) : Result :=
  .next (s.atomic c .maxu wide d a b fl)

/-- ACAS (R247). -/
def execAcas (c : Fin 256) (wide : Bool) (d a b : BitVec 5) (fl : Flips) (s : State) : Result :=
  .next (s.atomic c .cas wide d a b fl)

end Sys2Proof.Machine
end

