-- ==== Sys2Proof/Machine/DevLine.lean ====
section
/-! DEFINITION. Lines read and written for a service instruction, a job or the warden: local ones in one step, once no request
or loan holds them; remote ones as the command's own data (R224, R261, R269, R270). -/

namespace Sys2Proof.Machine

/-- Lines of other devices as a command carries them: line number, bytes, poison. -/
abbrev Ext := List (Nat × Line × Bool)

/-- The remote lines a job has read: those with their bytes, and those that came as poison. -/
def jobExt (ext : List (Nat × Line)) (lost : List Nat) : Ext :=
  ext.map (fun e => (e.1, e.2, false)) ++ lost.map (fun l => (l, 0, true))

/-- A free local line is read in one step (PEEK): from a way, which is checked and becomes the most recent (R183, R194), or from below,
where the slice allocates if its policy does and a way is at hand (R186). Bytes that a wing holds are read where they are. -/
def State.readLocal (s : State) (gl : Nat) : (Line × Bool) × State :=
  let fill (a : State) : (Line × Bool) × State :=
    let x := a.lineNow gl
    (x, if a.breached gl then a else (a.fillRead gl x.1 x.2).getD a)
  if (s.wingDirty gl).isSome ∨ s.coh.wbq.any (fun e => decide (e.gl = gl)) then (s.lineNow gl, s)
  else match s.vfind gl with
    | some (w, v) => match s.checkWay gl w v Flips.none with
      | (some r, s1) => (s1.shown gl r, s1.touch gl w)
      | (none, s1) => fill s1
    | none => fill s

/-- A line read by the device, and the state after: none where it must wait. A line of a vacant seat reads as poison (R355); a
remote line on loan here is read from its loan way (R217). DESIGN CHOICE, log 110. -/
def State.devRead (s : State) (ext : Ext) (gl : Nat) : Option ((Line × Bool) × State) :=
  let away (a : State) : Option ((Line × Bool) × State) :=
    (ext.find? (fun e => decide (e.1 = gl))).map (fun e => (e.2, a))
  if s.isLocal gl then (if s.lineFree gl then some (s.readLocal gl) else none)
  else if s.seatEmpty gl then some ((0, true), s)
  else match s.wingDirty gl, s.vfind gl with
    | some l, _ => some ((l.data, l.poison), s)
    | none, some (w, v) => match s.checkWay gl w v Flips.none with
      | (some r, s1) => some (r, s1.touch gl w)
      | (none, s1) => away s1
    | none, none => away s

/-- Line requests of a job that are outstanding across the fabric (Table 7.6). -/
def State.jobSends (s : State) (c desc : Nat) : Nat :=
  (s.coh.freqs.filter (fun e => decide (e.2.src = .job c desc))).length

/-- One line written for a context, a job or the warden: its fate, or none where it must wait: at home for the line, a way or the
budget, across the fabric for a tag or for one of the 256 requests of a job (R212, Table 7.6). -/
def State.devWrite (s : State) (c gl : Nat) (d : Line) (mask : LineMask) (src : Src) (zero : Bool := false) :
    Option (Verdict × State) :=
  if s.isLocal gl then
    if s.lineFree gl = false then none
    else match s.writeNow gl d mask src zero with
      | (.hold, _) => none
      | x => some x
  else if s.seatEmpty gl then some (.discard, s.seatEmptyLog gl)
  else
    let s1 := s.checkWrite gl mask Flips.none
    match s1.intoHeld c gl d mask false with
    | some s2 => some (.accept, s2)
    | none =>
      if s1.leaving gl ∨ (s1.freeTag (seatOf gl)).isNone ∨ 256 ≤ (s1.coh.freqs.filter (fun e => decide (e.2.src = src))).length then
        none
      else some (.accept, s1.fabSend .fwrite (seatOf gl) gl src d mask false none)

/-- Word `w` of a line, written alone. -/
def State.devWord (s : State) (c addr v : Nat) (src : Src) : Option (Verdict × State) :=
  s.devWrite c (addr / 64) (lineOfBytes v (addr % 64) 8) (maskOf (addr % 64) 8) src

/-- The lines that hold `n` bytes from an address. -/
def linesOf (addr n : Nat) : List Nat :=
  if n = 0 then [] else (List.range ((addr + n - 1) / 64 - addr / 64 + 1)).map (fun k => addr / 64 + k)

/-- Lines read together, and the state after: none where one must wait. -/
def State.devReadAll (s : State) (ext : Ext) (gls : List Nat) : Option (List (Nat × Line × Bool) × State) :=
  gls.foldl (fun a gl => a.bind (fun p => (p.2.devRead ext gl).map (fun x => (p.1 ++ [(gl, x.1)], x.2)))) (some ([], s))

/-- `n` bytes from an address, out of lines read together. -/
def bytesFrom (ls : List (Nat × Line × Bool)) (addr n : Nat) : Bytes :=
  ((ls.flatMap (fun e => leBytes e.2.1.toNat 64)).drop (addr % 64)).take n

/-- Whether a range lies in addresses that the checks of R238 pass. -/
def rangeOk (addr n : Nat) : Bool :=
  gaValid addr && (decide (n = 0) || (gaValid (addr + n - 1) && decide (addr / 2 ^ 43 = (addr + n - 1) / 2 ^ 43)))

end Sys2Proof.Machine
end

