-- ==== Sys2Proof/Machine/Calls.lean ====
section
/-! DEFINITION. Calls (R291 to R296): images and the program hall (R285 to R289), dispatch, completion records, fault
delivery, aborts. -/

namespace Sys2Proof.Machine

/-! Images (R286 to R288). -/

/-- `n` bytes of an image from `o`, little-endian. -/
def imgAt (b : Bytes) (o n : Nat) : Nat := ofLe ((b.drop o).take n)

/-- The fields of an image (Table 9.8). -/
structure ImageHdr where
  priv : Nat
  signed : Bool
  guestExports : Bool
  size : Nat
  entries : List Nat
  imports : List (Nat × Nat)
  exports : List Nat
  lib : Nat
  version : Nat
  /-- offset of the code in the image -/
  code : Nat
  digest : Nat
  deriving DecidableEq, Repr

/-- The codes of CUR_LOADRES.status (Table 9.14). -/
def ldOk : Nat := 0
def ldFormat : Nat := 1
def ldDigest : Nat := 2
def ldSignature : Nat := 3
def ldPriv : Nat := 4
def ldNoImport : Nat := 5
def ldNoSpace : Nat := 6
def ldNoId : Nat := 7
def ldPoison : Nat := 8
def ldRange : Nat := 9

/-- The image's fields, where its format, reserved fields, table bounds and offsets are good (R286, R287). -/
def parseImage (b : Bytes) : Option ImageHdr :=
  let size := imgAt b 8 4
  let e := imgAt b 12 2
  let i := imgAt b 14 2
  let x := imgAt b 16 2
  let signed := decide (imgAt b 7 1 % 2 = 1)
  let code := 128 + 4 * e + 8 * i + 4 * x
  let es := (List.range e).map (fun k => imgAt b (128 + 4 * k) 4)
  let is := (List.range i).map (fun k => imgAt b (128 + 4 * e + 8 * k) 8)
  let xs := (List.range x).map (fun k => imgAt b (128 + 4 * e + 8 * i + 4 * k) 4)
  if imgAt b 0 4 = 0x31534C50 ∧ imgAt b 4 2 = 1 ∧ imgAt b 6 1 ≤ 1 ∧ size % 4 = 0 ∧ 4 ≤ size ∧ size ≤ 4194304 ∧
      1 ≤ e ∧ e ≤ 256 ∧ i ≤ 256 ∧ x ≤ 256 ∧ imgAt b 18 2 = 0 ∧ imgAt b 28 36 = 0 ∧ imgAt b 96 32 = 0 ∧
      code + size + (if signed then 64 else 0) ≤ b.length ∧
      (es ++ xs).all (fun o => decide (o % 4 = 0 ∧ o < size)) ∧ is.all (fun v => decide (v < 2 ^ 48)) then
    some ⟨imgAt b 6 1, signed, decide (imgAt b 7 1 / 2 % 2 = 1), size, es, is.map (fun v => (v % 2 ^ 32, v / 2 ^ 32)), xs,
      imgAt b 20 4, imgAt b 24 4, code, imgAt b 64 32⟩
  else none

/-- Whether the digest covers the copied bytes. -/
def digestOk (b : Bytes) (h : ImageHdr) : Bool :=
  decide (ofLe (sha256 (b.take 64 ++ (b.drop 128).take (h.code + h.size - 128))) = h.digest)

/-- Whether the signature of a GUEST image is good, where one is required (R287). -/
def State.guestSigOk (s : State) (b : Bytes) (h : ImageHdr) : Bool :=
  if s.bit D.CUR_CTL_reqsig then
    let key := (List.range 4).foldl (fun a n => a + s.rd D.CUR_GKEY_digest n * 2 ^ (64 * n)) 0
    h.signed && Config.guestSigValid (BitVec.ofNat 256 key) (BitVec.ofNat 256 h.digest)
      (BitVec.ofNat 512 (imgAt b (h.code + h.size) 64))
  else true

/-- The export an import resolves to (R288): the highest version, then the lowest id. -/
def State.resolve (s : State) (guest : Bool) (i : Nat × Nat) : Option (Nat × Nat) :=
  let cands := s.cur.progs.filter (fun (e : Nat × Program) => decide (e.2.priv = .steward ∧ e.2.lib = i.1))
  match cands with
  | [] => none
  | e :: r =>
    let best := r.foldl (fun (a : Nat × Program) x => if a.2.version < x.2.version then x else a) e
    if guest ∧ best.2.guestExports = false then none else (best.2.exports[i.2]?).map (fun o => (best.1, o))

/-- Every import resolved, or none (R288). -/
def State.resolveAll (s : State) (guest : Bool) (l : List (Nat × Nat)) : Option (List (Nat × Nat)) :=
  l.foldr (fun i a => match s.resolve guest i, a with
    | some x, some r => some (x :: r)
    | _, _ => none) (some [])

/-! The program hall (R285). -/

/-- Whether a 4 KiB hall page is in use. -/
def State.hallUsed (s : State) (p : Nat) : Bool :=
  s.cur.progs.any (fun (e : Nat × Program) => decide (e.2.page ≤ p ∧ p < e.2.page + e.2.pages))

/-- The first contiguous span of `n` free hall pages. -/
def State.hallSpan (s : State) (n : Nat) : Option Nat :=
  ((0 :: s.cur.progs.map (fun (e : Nat × Program) => e.2.page + e.2.pages)).filter (fun p =>
    decide (p + n ≤ 4096) && (List.range n).all (fun k => !s.hallUsed (p + k)))).min?

/-- Copies an image into the hall. -/
def State.hallCopy (s : State) (page : Nat) (b : Bytes) : State :=
  { s with cur := { s.cur with hall := (pieces 64 b).zipIdx.foldl (fun a e =>
      SMap.put 0 a (page * 64 + e.2) (BitVec.ofNat 512 (ofLe e.1))) s.cur.hall } }

/-- Loads a checked image under a program id. -/
def State.install (s : State) (id page : Nat) (b : Bytes) (h : ImageHdr) (imports : List (Nat × Nat)) : State :=
  let p : Program := ⟨if h.priv = 1 then .steward else .guest, h.guestExports, page, (b.length + 4095) / 4096,
    page * 4096 + h.code, h.size, h.entries, imports, h.exports, h.lib, h.version, false⟩
  let s1 := s.hallCopy page b
  { s1 with cur := { s1.cur with progs := SMap.ins s1.cur.progs id p } }

/-- Loads an image of the Svapel runtime library as a STEWARD program of the next id (R285); one that does not check is not
loaded. -/
def State.loadLib (s : State) (b : Bytes) : State :=
  match parseImage b, s.hallSpan ((b.length + 4095) / 4096),
      (List.range 15).find? (fun k => !SMap.has s.cur.progs (k + 1)) with
  | some h, some page, some k =>
    if h.priv = 1 ∧ digestOk b h then
      match s.resolveAll false h.imports with
      | some is => s.install (k + 1) page b h is
      | none => s
    else s
  | _, _, _ => s

/-- The warden's load of an image (R287): its status and id, and the state with it loaded. -/
def State.loadImage (s : State) (b : Bytes) : Nat × Nat × State :=
  match s.hallSpan ((b.length + 4095) / 4096) with
  | none => (ldNoSpace, 0, s)
  | some page =>
    match parseImage b with
    | none => (ldFormat, 0, s)
    | some h =>
      if h.priv ≠ 0 then (ldPriv, 0, s)
      else if digestOk b h = false then (ldDigest, 0, s)
      else if s.guestSigOk b h = false then (ldSignature, 0, s)
      else match s.resolveAll true h.imports with
        | none => (ldNoImport, 0, s)
        | some is =>
          match (List.range 1008).find? (fun k => !SMap.has s.cur.progs (k + 16)) with
          | none => (ldNoId, 0, s)
          | some k => (ldOk, k + 16, s.install (k + 16) page b h is)

/-- A write of 1 to CUR_LOADCTL.go (R287). -/
def State.loadGo (s : State) : State :=
  if s.cur.load.isSome then s.log E.CUR_LOAD_BUSY 0 0 0
  else
    ({ s with cur := { s.cur with load := some ⟨s.rd D.CUR_LOADSRC_addr * 64, s.rd D.CUR_LOADLEN_bytes⟩ } } : State).wr
      D.CUR_STAT_loadbusy 1

/-- The load under way ends with its status (R287). -/
def State.loadDone (s : State) (status id src : Nat) : State :=
  let s1 : State := { s with cur := { s.cur with load := none } }
  (((s1.wr D.CUR_STAT_loadbusy 0).wr D.CUR_LOADRES_status status).wr D.CUR_LOADRES_id id).log E.CUR_LOAD_DONE id status src

/-- PROGRAM_LOAD_DONE (R287): the copy, the checks, the imports and the id, in that order. DEDUCED, log 130. -/
def execProgramLoadDone (ext : Ext) (s : State) : Result :=
  match s.cur.load with
  | none => .next s
  | some l =>
    if rangeOk l.src l.len = false then .next (s.loadDone ldRange 0 l.src)
    else match s.devReadAll ext (linesOf l.src l.len) with
      | none => .next s
      | some (ls, s) =>
        if ls.any (fun e => e.2.2) then .next (s.loadDone ldPoison 0 l.src)
        else
          let r := s.loadImage (bytesFrom ls l.src l.len)
          .next (r.2.2.loadDone r.1 r.2.1 l.src)

/-- Whether a call of a program is still running. -/
def State.progRuns (s : State) (id : Nat) : Bool :=
  s.cur.ctxs.any (fun (e : Nat × Ctx) => decide (e.2.st ≠ .idle ∧ e.2.callProg = id))

/-- A DRAINING program whose last running call has ended is freed (PROGRAM_HALL_FREE, R289). -/
def State.hallFree (s : State) (id : Nat) : State :=
  match s.prog id with
  | some p => if p.draining ∧ s.progRuns id = false then
      { s with cur := { s.cur with progs := SMap.del s.cur.progs id } } else s
  | none => s

/-- A write of a program id to CUR_UNLOAD (R289). -/
def State.unload (s : State) (id : Nat) : State :=
  match s.prog id with
  | some p =>
    if p.priv = .guest then
      ({ s with cur := { s.cur with progs := SMap.ins s.cur.progs id { p with draining := true } } } : State).hallFree id
    else s.log E.CUR_UNLOAD_BAD 0 0 0
  | none => s.log E.CUR_UNLOAD_BAD 0 0 0

/-! Completion records (Table 9.10, R294, R296, R325). -/

/-- A completion record's line. -/
def recordLine (type code priv prog tag r0 r1 lost time cycles instret : Nat) : Line :=
  lineOfWords [type * 2 ^ 56 + code * 2 ^ 48 + priv * 2 ^ 46 + prog % 1024 * 2 ^ 36 + tag % 2 ^ 32, r0, r1,
    lost * 2 ^ 32, time, cycles, instret, 0]

/-- Whether a queue number names an enabled COMPL queue (R325). -/
def State.cqGood (s : State) (n : Nat) : Bool := s.qOn n && decide (s.qType n = qCompl)

/-- The record of a context's call: DONE with x10 and x11, or its fault. -/
def State.callRecord (s : State) (c : Nat) : Line :=
  let x := s.ctx c
  let cyc := 2 * (s.now - x.start)
  match x.fault with
  | some f => recordLine 3 f.code f.priv.code x.callProg x.tag f.addr (f.spc % 2 ^ 32 * 2 ^ 32 + f.pc % 2 ^ 32) x.lost s.now
      cyc x.instret
  | none => recordLine 2 0 0 x.callProg x.tag (x.reg 10).toNat (x.reg 11).toNat x.lost s.now cyc x.instret

/-- A context becomes IDLE at the end of its call (R235, R289); refusals still on their way to it have no call to stop (R255). -/
def State.toIdle (s : State) (c : Nat) : State :=
  let x := s.ctx c
  let s1 := s.setCtx c { Ctx.init with wrote := x.wrote }
  ({ s1 with cur := { s1.cur with refusals := s1.cur.refusals.filter (fun r => r.1 ≠ c) } } : State).hallFree x.callProg

/-- Posts the record of a context's call: it waits while the queue is full, and is discarded where no COMPL queue is named
(R294, R325). -/
def State.postCall (s : State) (c : Nat) : State :=
  let x := s.ctx c
  if s.cqGood x.cq = false then (s.log E.CUR_CQ_BAD 0 0 0).toIdle c
  else if s.qFull x.cq then s.setCtx c { x with donePend := true, hold := .cq }
  else (s.qAppend x.cq ⟨s.callRecord c, false⟩ false).toIdle c

/-- COMPLETION_QUEUE_ROOM (R294). -/
def execCompletionQueueRoom (c : Fin 256) (s : State) : Result :=
  let x := s.ctx c
  .next (if x.donePend ∧ (s.cqGood x.cq = false ∨ s.qFull x.cq = false) then s.postCall c else s)

/-- DONE (R294): psync, the call's jobs, the record. -/
def execDone (c : Fin 256) (s : State) : Result :=
  .next (s.psynced c (fun x =>
    if x.links ≠ [] then s.faultNow c fltCallDepth x.links.length 0x3D 0
    else if x.jobs ≠ [] then s
    else (s.retire c x (x.pc + 4) 0x3D 0).postCall c))

/-- A store buffer entry that can never be accepted is dropped (R228, R257). -/
def State.sbDrop (s : State) (c : Nat) : State :=
  match (s.ctx c).sb with
  | [] => s
  | e :: _ => s.storeLost c e.gl

/-- Drops every entry left in a context's store buffer. -/
def State.sbDropAll (s : State) (c : Nat) : State := (List.range 16).foldl (fun a _ => a.sbDrop c) s

/-- Whether a line waits for the end of another device's loan. -/
def State.loanWait (s : State) (gl : Nat) : Bool :=
  match s.txn gl with
  | some t => decide (t.phase = .loan)
  | none => false

/-- Whether the oldest store of a context can still be accepted: its line is local and not lent away, or held here for
writing. DEDUCED, log 28. -/
def State.drainable (s : State) (c : Nat) : Bool :=
  match (s.ctx c).sb with
  | [] => false
  | e :: _ =>
    if s.isLocal e.gl then !s.loanWait e.gl
    else match s.vfind e.gl, s.outEnt e.gl with
      | some (_, v), _ => decide (v.lent = .modified)
      | none, some o => decide (o.st = .owned)
      | none, none => false

/-- Drops the oldest entries of a store buffer that cannot be accepted, down to one that can: what a program stored behind
them is accepted still (R228). With `asked`, an entry whose bytes are on their way to their home is left. -/
def State.sbDropStuck (s : State) (c : Nat) (asked : Bool) : State :=
  (List.range 16).foldl (fun (a : State) _ =>
    match (a.ctx c).sb with
    | [] => a
    | e :: _ => if a.drainable c ∨ (asked ∧ a.handedOn c e.gl) then a else a.sbDrop c) s

/-- FAULT_DELIVERY (R257, R272): the store buffer has drained, the entries that cannot (`giveUp`) dropped, and the jobs are
over; the fault is posted, a WARDEN's to the warden. -/
def execFaultDelivery (c : Fin 256) (giveUp : Bool) (s : State) : Result :=
  let x := s.ctx c
  if x.st ≠ .stopped ∨ x.donePend ∨ x.jobs ≠ [] then .next s
  else
    let s1 := if giveUp then s.sbDropStuck c true else s
    if (s1.ctx c).sb ≠ [] then .next s1
    else .next (match x.fault with
      | some f => if f.priv = .warden then s1.toIdle c else s1.postCall c
      | none => s1.toIdle c)

/-! Dispatch (R291 to R293). -/

/-- The first call queue with a visible entry, in rotation. -/
def State.nextCall (s : State) : Option Nat :=
  ((List.range 4096).map (fun k => (s.cur.rot + k) % 4096)).find? (fun n =>
    s.qOn n && decide (s.qType n = qCall) && decide ((s.queue n).vis ≠ []))

/-- Whether a context can take a call. -/
def State.canCall (s : State) (c : Nat) : Bool :=
  decide ((s.ctx c).st = .idle) && !s.coh.rstBusy.getLsbD (c / 32) && !s.boot.wingOff.getLsbD (c / 32)

/-- An invocation (R293). -/
def State.invoke (s : State) (c prog entry cq : Nat) (p : Program) (d : Line) : State :=
  let w1 := wordAt d 1
  let lim := w1 % 2 ^ 32
  let def_ := s.rd D.CUR_CALLCFG_deflimit
  let x := s.ctx c
  s.setCtx c { Ctx.init with
    st := .running
    x := (List.range 6).foldl (fun a k => SMap.put 0 a (10 + k) (BitVec.ofNat 64 (wordAt d (2 + k)))) []
    pc := p.code + (p.entries[entry]?).getD 0, priv := p.priv, prog := prog, callProg := prog, entry := entry, cq := cq
    tag := w1 / 2 ^ 32, start := s.now
    deadline := if lim ≠ 0 then s.now + lim * 1000 else if def_ ≠ 0 then s.now + def_ * 1000000 else 0
    wrote := x.wrote }

/-- Whether dispatch waits for the library of an activation (Table 18.3, step 4). -/
def State.rtlWait (s : State) : Bool :=
  match s.fw.act with
  | some a => decide (a.step = 4)
  | none => false

/-- CALL_DISPATCH (R291, R292, R324): the oldest entry of the next call queue goes to the lowest IDLE context, or is refused
with CALL_BAD; `corr` and `unc` are what the check of its words finds. -/
def execCallDispatch (corr : Fin 9) (unc : Bool) (s : State) : Result :=
  match s.nextCall, (List.range 256).find? s.canCall with
  | some n, some c =>
    if s.isOpen = false ∨ s.rtlWait then .next s
    else
      match (s.queue n).vis with
      | [] => .next s
      | e :: _ =>
        let w0 := wordAt e.data 0
        let prog := w0 / 2 ^ 46 % 1024
        let entry := w0 / 2 ^ 38 % 256
        let cq := w0 / 2 ^ 26 % 4096
        let good : Option Program := match s.prog prog with
          | some p => if w0 / 2 ^ 56 = 1 ∧ w0 % 2 ^ 26 = 0 ∧ prog ≠ 0 ∧ p.draining = false ∧ entry < p.entries.length then
              some p else none
          | none => none
        if good.isNone ∧ s.cqGood cq ∧ s.qFull cq then .next s
        else
          let t := s.qTake n corr unc
          let s1 : State := { t.2 with cur := { t.2.cur with rot := (n + 1) % 4096 } }
          match t.1 with
          | .entry d =>
            match good with
            | some p => .next (s1.invoke c prog entry cq p d)
            | none =>
              if s1.cqGood cq then
                .next (s1.qAppend cq ⟨recordLine 3 fltCallBad 0 prog (wordAt d 1 / 2 ^ 32) w0 0 0 s1.now 0 0, false⟩ false)
              else .next (s1.log E.CUR_CQ_BAD 0 0 0)
          | _ => .next s1
  | _, _ => .next s

/-! Aborts (R272, R295). -/

/-- The jobs of a context that have not started are cancelled (R272). -/
def Ctx.cancelJobs (x : Ctx) : Ctx := { x with jobs := x.jobs.map (fun j => if j.started then j else { j with cancelled := true }) }

/-- A context takes ABORTED at its next boundary, its unstarted jobs cancelled; nothing where it does not run (R295). -/
def State.abort (s : State) (c : Nat) : State :=
  let x := s.ctx c
  if x.st ≠ .running ∨ x.donePend then s else (s.setCtx c { x.cancelJobs with pendAbort := true }).atBoundary c

/-- Whether the oldest store of a context still waits for OWN or LOWN. -/
def State.ownWaits (s : State) (c gl : Nat) : Bool :=
  s.coh.conf.any (fun r => decide (r.gl = gl ∧ r.src = .store c ∧ r.kind = .own)) ||
    s.coh.txns.any (fun e => decide (e.2.req.gl = gl ∧ e.2.req.src = .store c ∧ e.2.req.kind = .own)) ||
    s.coh.freqs.any (fun e => decide (e.2.gl = gl ∧ e.2.src = .store c ∧ (e.2.kind = .own ∨ e.2.kind = .lown)))

/-- A wing reset abandons the global fence of a context: its store that still waits for OWN or LOWN is discarded (R228). -/
def State.fenceStop (s : State) (c : Nat) : State :=
  let x := s.ctx c
  if x.gfence.isNone then s
  else
    let s1 := s.setCtx c { x with gfence := none }
    match x.sb with
    | e :: _ => if s.ownWaits c e.gl then s1.storeLost c e.gl else s1
    | [] => s1

/-- A program abort by the host or the warden (R295): nothing where the context runs at WARDEN privilege. -/
def State.callAbort (s : State) (c : Nat) : State := if (s.ctx c).priv = .warden then s else s.abort c

/-- A call that a flush interrupts: it completes with POWER_INTERRUPTED at the next start (R87, R296). -/
def State.interrupt (s : State) (c : Nat) : State :=
  let x := s.ctx c
  if x.st = .idle then s
  else
    let s1 := s.setCtx c { Ctx.init with sb := x.sb }
    { s1 with cur := { s1.cur with interrupted := s1.cur.interrupted ++ [(x.cq, x.callProg, x.tag, x.lost, x.priv.code)] } }

/-- The completions of the interrupted calls are posted (R87, R296). -/
def State.postInterrupted (s : State) : State :=
  let s1 := s.cur.interrupted.foldl (fun a e =>
    if a.cqGood e.1 = false then a.log E.CUR_CQ_BAD 0 0 0
    else a.qAppend e.1 ⟨recordLine 3 fltPowerInterrupted e.2.2.2.2 e.2.1 e.2.2.1 0 0 e.2.2.2.1 a.now 0 0, false⟩ false) s
  { s1 with cur := { s1.cur with interrupted := [] } }

end Sys2Proof.Machine
end

