-- ==== Sys2Proof/Machine/FabLinks.lean ====
section
/-! DEFINITION. Fabric links (R332 to R343, R352 to R354, R363, R370): the states of a port, link records and what they
say of the component, flits, retry and link encryption. -/

namespace Sys2Proof.Machine

/-! The states of Table 11.1. -/

def fpDisabled : Nat := 0
def fpDetect : Nat := 1
def fpPoll : Nat := 2
def fpConfig : Nat := 3
def fpActive : Nat := 4
def fpRetrain : Nat := 5
def fpDown : Nat := 6
def fpForeign : Nat := 7
def fpCryptfail : Nat := 8

/-- The device's own UID. -/
def myUid : Nat := Config.uid.toNat

/-- State of a fabric port. -/
def State.fpState (s : State) (p : Nat) : Nat := s.rd D.FAB_PSTAT_state p

/-- Whether a port is held off: FAB_CTL, FAB_PCTL, self-test, ROM_RECOVERY, or the loss of VSERDES_F (R464). -/
def State.fpOff (s : State) (p : Nat) : Bool :=
  decide (s.rd D.FAB_CTL_enable = 0) || decide (s.rd D.FAB_PCTL_dis p = 1) || s.boot.portOff.getLsbD p ||
    decide (s.phase = stRomRecovery) || s.aon.serdesOff.getLsbD 1

/-! The component (R345, R352, R353). -/

/-- The record of this device, under the number 2^64, among those of the others. -/
def State.graph (s : State) : SMap LinkRec :=
  let ns := s.neighbours
  let others := s.fab.recs.map (fun e => (e.1,
    { e.2 with links := if ns.any (fun n => decide (n.2 = e.1)) then (0, 2 ^ 64, 0) :: e.2.links else e.2.links }))
  SMap.ins others (2 ^ 64) ⟨s.mySeat, s.fab.linkSeq, s.rd D.FAB_CFG_kprio, ns.map (fun e => (e.1, e.2, 0))⟩

/-- Distances of the devices of the component from this one. -/
def State.component (s : State) : SMap Nat := distancesFrom s.graph (2 ^ 64)

/-- The other devices of the component, by UID. -/
def State.members (s : State) : List Nat := (SMap.keys s.component).filter (fun u => decide (u ≠ 2 ^ 64))

/-- The diameter D (R353). -/
def State.diameter (s : State) : Nat :=
  ((SMap.keys s.component).flatMap (fun u => (distancesFrom s.graph u).map Prod.snd)).foldl max 0

/-- UID of the keeper: the highest priority, then the lowest UID (R352). -/
def State.keeperUid (s : State) : Nat :=
  ((s.members.map (fun u => ((SMap.find s.fab.recs u).map LinkRec.kprio |>.getD 0, u))).foldl (fun a e =>
    if a.1 < e.1 ∨ (a.1 = e.1 ∧ e.2 < a.2) then e else a) (s.rd D.FAB_CFG_kprio, myUid)).2

/-- Whether this device is the keeper of its component. -/
def State.isKeeper (s : State) : Bool := s.bit D.FAB_STAT_keeper

/-- Whether a UID is this device or a reachable member. -/
def State.reachable (s : State) (uid : Nat) : Bool := SMap.has s.component uid || decide (uid = myUid)

/-- The seats occupied in the current record. -/
def State.seatsHeld (s : State) : List Nat := (List.range 64).filter (fun k => decide (s.rd D.FAB_MEMUID_uid k ≠ 0))

/-- The quorum of R348. -/
def State.quorum (s : State) : Bool :=
  let h := s.seatsHeld
  h.isEmpty || decide (h.length < 2 * (h.filter (fun k => s.reachable (s.rd D.FAB_MEMUID_uid k))).length)

/-- State and distance of a seat (Table 11.11). -/
def State.seatStat (s : State) (k : Nat) : State :=
  let u := s.rd D.FAB_MEMUID_uid k
  let st := if u = 0 then 0 else if s.reachable u then 1 else 2
  let d := if u = myUid then 0 else (SMap.find s.component u).getD 0
  (s.wr D.FAB_MEMST_state st k).wr D.FAB_MEMST_hops (if st = 1 then min 15 d else 0) k

/-- A device arrives at a barrier, at the keeper. -/
def State.barrierCount (s : State) (n uid : Nat) : State :=
  let l := SMap.get [] s.fab.arrived n
  if l.contains uid then s else { s with fab := { s.fab with arrived := SMap.ins s.fab.arrived n (l ++ [uid]) } }

/-- The barriers this device waits at are named to its keeper (R367). -/
def State.barrierTell (s : State) (n : Nat) : State :=
  if s.isKeeper then s.barrierCount n myUid else s.emit (.fabMsg msgBarrier none [n, myUid])

/-- What was under way at a keeper that has left the component ends here (R352): a seat command returns BUSY, and a global operation
of this device PARTIAL. The barriers this device waits at are named to the new keeper. -/
def State.keeperLost (s : State) : State :=
  let s1 := if s.bit D.FAB_SEATCMD_busy then (s.wr D.FAB_SEATCMD_busy 0).wr D.FAB_SEATCMD_status 0x05 else s
  let s2 := if s1.bit D.FAB_GOPCTL_busy then (s1.wr D.FAB_GOPCTL_busy 0).wr D.FAB_GOPCTL_result 1 else s1
  let s3 : State := { s2 with fab := { s2.fab with seatOp := none, gops := [], gop := none, arrived := [] } }
  ((List.range 16).filter (fun n => (s3.rd D.FAB_BARRIER_waiting).testBit n)).foldl State.barrierTell s3

/-- A change of keeper (R352). -/
def State.keeperChange (s : State) (old new : Nat) : State :=
  let s1 := (s.wr D.FAB_KEEPER_uid new).wr D.FAB_STAT_keeper (b2n (decide (new = myUid)))
  if old = new then s1 else (if old = 0 then s1 else s1.keeperLost).log E.FAB_KEEPER 0 0 new

/-- The registers that follow the component. -/
def State.fabUpdate (s : State) : State :=
  let d := s.diameter
  let s1 := (List.range 64).foldl State.seatStat s
  let s2 := ((s1.wr D.FAB_STAT_diam (min 15 d)).wr D.FAB_STAT_members (s.members.length + 1)).wr D.FAB_STAT_quorum
    (b2n s.quorum)
  let s3 := s2.keeperChange (s.rd D.FAB_KEEPER_uid) s.keeperUid
  if 8 < d ∧ s.rd D.FAB_STAT_diam ≤ 8 ∧ s3.isKeeper then s3.log E.FAB_DIAMETER 0 0 0 else s3

/-- This device floods its link record (R353). -/
def State.floodRecord (s : State) : State :=
  let n := s.fab.linkSeq + 1
  let s1 : State := { s with fab := { s.fab with linkSeq := n } }
  s1.emit (.fabMsg msgLinkRecord none (myUid :: (s.mySeat.map (· + 1)).getD 0 :: n :: s.rd D.FAB_CFG_kprio ::
    s.neighbours.flatMap (fun e => [e.1, e.2, s.rd D.FAB_PSTAT_nport e.1])))

/-- LINK_RECORD_TIMER (R353). -/
def execLinkRecordTimer (s : State) : Result := .next (if s.rd D.FAB_STAT_join = 0 then s else s.floodRecord)

/-- LINK_RECORD (R353): a newer record of another device is kept and forwarded once, on every other ACTIVE port. -/
def execLinkRecord (port : Fin 16) (uid : Word) (seat : Option (Fin 64)) (seq : Nat) (kprio : BitVec 8)
    (links : List (Fin 16 × Word × Fin 16)) (s : State) : Result :=
  let u := uid.toNat
  let old : Bool := match SMap.find s.fab.recs u with
    | some r => decide (seq ≤ r.seq)
    | none => false
  if s.fpState port ≠ fpActive then .next s
  else if old ∨ u = myUid ∨ u = 0 then .next (s.tAgent (port.val / 4) 0x02 1)
  else
    let r : LinkRec := ⟨seat.map (fun (x : Fin 64) => x.val), seq, kprio.toNat,
      links.map (fun l => (l.1.val, l.2.1.toNat, l.2.2.val))⟩
    let s1 : State := { s.tAgent (port.val / 4) 0x02 1 with
      fab := { s.fab with recs := SMap.ins s.fab.recs u r }
      out := .fabMsg msgLinkRecord none (u :: (r.seat.map (· + 1)).getD 0 :: seq :: kprio.toNat ::
        r.links.flatMap (fun l => [l.1, l.2.1, l.2.2])) :: s.out }
    let s2 := (s1.neighbours.filter (fun e => decide (e.1 ≠ port.val))).foldl
      (fun a e => a.sendWords e.1 (8 + 6 * links.length)) s1
    .next (if s2.rd D.FAB_STAT_join = 1 then (s2.wr D.FAB_STAT_join 2).fabUpdate else s2.fabUpdate)

/-! Port states (R333, R334, R370). -/

/-- Enters a state of Table 11.1, the link idle. -/
def State.fpIdle (s : State) (p st : Nat) : State :=
  let s1 := (((s.wr D.FAB_PSTAT_state st p).wr D.FAB_PSTAT_width 0 p).wr D.FAB_PSTAT_speed 0 p).wr D.FAB_PSTAT_enc 0 p
  let x := s1.fport p
  s1.setFport p { FPort.init with retrains := x.retrains, rekeys := x.rekeys }

/-- The link of a port fails: it ends at once every attempt that left on it (R213). -/
def State.endAttempts (s : State) (p : Nat) : State :=
  { s with coh := { s.coh with freqs := SMap.mapVal (fun _ (r : FReq) =>
    if s.routePort r.seat r.attempt = some p then { r with ended := true } else r) s.coh.freqs } }

/-- A port that was ACTIVE, or retraining, no longer is (R213, R370). -/
def State.fpLost (s : State) (p st : Nat) : State :=
  let was := s.fpState p = fpActive ∨ s.fpState p = fpRetrain
  let s1 := (if was then s.endAttempts p else s).fpIdle p st
  let s2 := if st = fpDown then s1.addSat D.FAB_PERR_downs 1 p else s1
  if was then ((s2.log E.FAB_LINK_DOWN 0 0 0).floodRecord).fabUpdate else s2

/-- A port goes DOWN. -/
def State.fabPortDown (s : State) (p : Nat) : State := if s.fpState p = fpDisabled then s else s.fpLost p fpDown

/-- A port enters DETECT, or stays off. -/
def State.fpStart (s : State) (p : Nat) : State := if s.fpOff p then s.fpLost p fpDisabled else s.fpIdle p fpDetect

/-- RECEIVER_DETECT (R333). -/
def execReceiverDetect (port : Fin 16) (s : State) : Result :=
  .next (if s.fpState port = fpDetect then s.wr D.FAB_PSTAT_state fpPoll port else s)

/-- The seat this device's stored record gives it. -/
def State.storedSeat (s : State) : Option Nat :=
  if s.fab.record then (List.range 64).find? (fun k => decide (s.rd D.FAB_MEMUID_uid k = myUid)) else none

/-- A request to the DRBG (R401, R402). -/
def State.drawn (s : State) : State := { s with drbg := s.drbg + 1 }

/-- What this end sends in CONFIG (R333): its UID, port number, stored seat, fabric id, epoch, encryption requirement and nonce. Its
key check value, which needs the other end's nonce, follows. -/
def State.configSend (s : State) (p : Nat) : State :=
  s.emit (.fabMsg msgConfig none [p, myUid, (s.storedSeat.map (· + 1)).getD 0, s.rd D.FAB_FABID_id, s.rd D.FAB_EPOCH_e,
    s.rd D.FAB_PCTL_crypt p, (s.fport p).nonce.toNat])

/-- BIT_LOCK (R333): rate and width settle, never above maxrate, and a nonce is drawn for CONFIG, where this end sends who it is.
A DRBG that has answered 2^32 requests without a reseed gives none, and the port goes back to DETECT (R402). -/
def execBitLock (port : Fin 16) (speed width : Fin 4) (s : State) : Result :=
  let retr := s.fpState port = fpRetrain
  if (s.fpState port ≠ fpPoll ∧ ¬ retr) ∨ speed.val = 0 ∨ width.val = 0 ∨ s.rd D.FAB_PCTL_maxrate port < speed.val then .next s
  else if 2 ^ 32 ≤ s.drbg then .next (s.fpLost port fpDetect)
  else
    let s := s.drawn
    let a := s.fresh
    let b := a.2.fresh
    let s1 := if retr then b.2 else b.2.wr D.FAB_PSTAT_state fpConfig port
    .next ((s1.setFport port { s1.fport port with
      width := width.val, speed := speed.val, locked := retr, nonce := a.1 ++ b.1 }).configSend port)

/-- FABRIC_PORT_TRAIN_TIMEOUT (R333). -/
def execFabricPortTrainTimeout (port : Fin 16) (s : State) : Result :=
  .next (if s.fpState port = fpPoll ∨ s.fpState port = fpConfig then s.fpIdle port fpDetect else s)

/-- FABRIC_PORT_DOWN_RETRY (R333). -/
def execFabricPortDownRetry (port : Fin 16) (s : State) : Result :=
  .next (if s.fpState port = fpDown then s.fpStart port else s)

/-- A port retrains: the third time within 1 s it goes DOWN (R334). -/
def State.fpRetrainNow (s : State) (p : Nat) : State :=
  let x := s.fport p
  let rs := s.now :: x.retrains.filter (fun t => decide (s.now < t + 1000000000))
  let s1 := (s.addSat D.FAB_PERR_retrains 1 p).setFport p { x with retrains := rs, locked := false, again := 0 }
  if 3 ≤ rs.length then s1.fabPortDown p else s1.wr D.FAB_PSTAT_state fpRetrain p

/-- FABRIC_RETRAIN (R334): the oldest flit has been replayed 8 times in a row. -/
def execFabricRetrain (port : Fin 16) (s : State) : Result :=
  .next (if s.fpState port = fpActive ∧ 8 ≤ (s.fport port).again then s.fpRetrainNow port else s)

/-- LANE_LOCK_LOSS (R334). -/
def execLaneLockLoss (port : Fin 16) (s : State) : Result :=
  .next (if s.fpState port = fpActive then s.fpRetrainNow port else s)

/-- FABRIC_RETRAIN_TIMEOUT (R334). -/
def execFabricRetrainTimeout (port : Fin 16) (s : State) : Result :=
  .next (if s.fpState port = fpRetrain then s.fabPortDown port else s)

/-- LINK_REKEY (R343). -/
def execLinkRekey (port : Fin 16) (s : State) : Result :=
  let x := s.fport port
  .next (if s.fpState port = fpActive ∧ s.rd D.FAB_PSTAT_enc port = 1 ∧ 2 ^ 32 ≤ x.batches then
      (s.setFport port { x with rekeys := x.rekeys + 1, batches := 0 }).fpRetrainNow port
    else s)

/-! CONFIG (R333, R341, R342, R344). -/

/-- The fabric key, where the slot holds an HMAC-SHA-256 key. -/
def State.fabricKey (s : State) : Option Bytes :=
  match SMap.find s.slots (s.rd D.FAB_CFG_lkslot) with
  | some k => if k.type = .hmac then some (leBytes k.key.toNat 32) else none
  | none => none

/-- The link key of R342. -/
def linkKey (fabric : Bytes) (uidA uidB : Nat) (nonceA nonceB : BitVec 128) : Bytes :=
  let lo := if uidA < uidB then (uidA, nonceA) else (uidB, nonceB)
  let hi := if uidA < uidB then (uidB, nonceB) else (uidA, nonceA)
  hmac fabric (ascii "HTLK" ++ leBytes lo.1 8 ++ leBytes hi.1 8 ++ leBytes lo.2.toNat 16 ++ leBytes hi.2.toNat 16)

/-- The key check value of a link key (R341). -/
def linkKcv (key : Bytes) : Nat := ofLe ((hmac key (ascii "chk")).take 4)

/-- CONFIG_EXCHANGE (R333, R341, R344): what the other end sent; this end's key check value goes out. The port goes ACTIVE, FOREIGN
or CRYPTFAIL. DEDUCED, log 139. -/
def execConfigExchange (port : Fin 16) (uid : Word) (nport : Fin 16) (seated : Bool) (fabid : Word) (crypt : Bool)
    (nonce : BitVec 128) (kcv : BitVec 32) (s : State) : Result :=
  let x := s.fport port
  let retr := s.fpState port = fpRetrain
  if s.fpState port ≠ fpConfig ∧ (¬ retr ∨ x.locked = false) then .next s
  else
    let mine := s.rd D.FAB_PCTL_crypt port = 1
    let key := s.fabricKey.map (fun k => linkKey k myUid uid.toNat x.nonce nonce)
    let s0 := ((s.wr D.FAB_PNBR_uid uid.toNat port).wr D.FAB_PSTAT_nport nport.val port).emit
      (.fabMsg msgConfig none (port.val :: (key.map linkKcv).toList))
    let match_ : Bool := match key with
      | some k => decide (linkKcv k = kcv.toNat)
      | none => false
    if (mine ∨ crypt) ∧ (¬ mine ∨ crypt = false ∨ match_ = false) then
      .next ((s0.fpLost port fpCryptfail).log E.FAB_LINK_CRYPT 0 0 0)
    else if seated ∧ s.storedSeat.isSome ∧ fabid.toNat ≠ s.rd D.FAB_FABID_id then
      .next ((s0.fpLost port fpForeign).log E.FAB_LINK_FOREIGN 0 0 0)
    else
      let k : Option (BitVec 256) := if mine then key.map (fun b => BitVec.ofNat 256 (ofLe b)) else none
      let y : FPort := if retr then { x with key := k, locked := false, nak := false }
        else { FPort.init with
          width := x.width, speed := x.speed, nonce := x.nonce, key := k, retrains := x.retrains, rekeys := x.rekeys }
      let s1 := ((s0.setFport port y).wr D.FAB_PSTAT_state fpActive port).wr D.FAB_PSTAT_width x.width port
      let s2 := ((s1.wr D.FAB_PSTAT_speed x.speed port).wr D.FAB_PSTAT_enc (b2n (decide mine)) port).log E.FAB_LINK_UP 0 0 0
      .next (if retr then s2 else s2.floodRecord.fabUpdate)

/-- FAB_PCTL_WRITE (R341): the settings of a port take effect; a port in CRYPTFAIL leaves it. -/
def State.fabPctl (s : State) (p : Nat) : State :=
  if s.fpOff p then s.fpLost p fpDisabled
  else if s.fpState p = fpCryptfail then s.fpIdle p fpDetect
  else if s.fpState p = fpDisabled ∧ s.rd D.FAB_STAT_join ≠ 0 then s.fpIdle p fpDetect
  else s

/-! Flits (R335 to R337, R342, R343). -/

/-- The header word of a flit. DESIGN CHOICE, log 140. -/
structure FlitHdr where
  kind : Nat
  seq : Nat
  ack : Nat
  chan : Nat
  credits : Nat
  deriving DecidableEq, Repr

/-- The header word (Table 11.2). -/
def FlitHdr.word (h : FlitHdr) : Nat :=
  h.kind * 2 ^ 30 + h.seq * 2 ^ 20 + h.ack * 2 ^ 10 + h.chan * 2 ^ 4 + h.credits

/-- Whether the CRC of a flit is good (R336). -/
def FlitHdr.crcOk (h : FlitHdr) (payload : Payload) (crc : BitVec 32) : Bool :=
  decide (crc32 (h.word + payload.toNat * 2 ^ 32) 64 = crc.toNat)

/-- Everything up to the acknowledged number leaves the replay buffer, and waiting flits go out (R337). -/
def State.flitAck (s : State) (p ack : Nat) : State :=
  let x := s.fport p
  match x.replay.findIdx? (fun q => decide (q = ack)) with
  | some i => (s.setFport p { x with replay := x.replay.drop (i + 1), again := 0 }).sendFlits p 0
  | none => s

/-- A NAK with the number expected is sent, once until that number arrives (R337). -/
def State.flitNak (s : State) (p : Nat) : State :=
  let x := s.fport p
  if x.nak then s
  else { (s.setFport p { x with nak := true }) with out := .fabMsg msgFlit none [p, x.rx] :: s.out }

/-- A flit that failed its CRC (R336). -/
def State.flitBad (s : State) (p : Nat) : State := (s.addSat D.FAB_PERR_crcerr 1 p).flitNak p

/-- The CRC check of a flit, which injection point 0x10 can make fail. -/
def State.flitCheck (s : State) (p : Nat) (h : FlitHdr) (payload : Payload) (crc : BitVec 32) : Bool × State :=
  let x := s.inject 0x10 (hitInst1 p) 544
  (h.crcOk payload crc && decide (x.1.mask = 0), x.2)

/-- A flit arrives: it is checked and acknowledged, and, where it has the number expected, taken by `take`. -/
def State.flitIn (s : State) (p : Nat) (h : FlitHdr) (payload : Payload) (crc : BitVec 32) (take : State → State) : State :=
  if s.fpState p ≠ fpActive then s
  else match s.flitCheck p h payload crc with
    | (false, s0) => s0.flitBad p
    | (true, s0) =>
      let s1 := s0.flitAck p h.ack
      if h.seq ≠ (s1.fport p).rx then s1.flitNak p else take s1

/-- A PAYLOAD or TAG flit of the expected number has been taken. -/
def State.flitNext (s : State) (p : Nat) : State :=
  let x := s.fport p
  s.setFport p { x with rx := (x.rx + 1) % 1024, nak := false }

/-- FLIT_PAYLOAD (R337, R342): its payload is released, or joins its batch on an encrypted link. -/
def execFlitPayload (port : Fin 16) (seq ack : Fin 1024) (chan : Fin 64) (credits : Fin 16) (payload : BitVec 480)
    (crc : BitVec 32) (s : State) : Result :=
  let h : FlitHdr := ⟨1, seq, ack, chan, credits⟩
  .next (s.flitIn port h payload crc (fun a =>
    let b := a.flitNext port
    let x := b.fport port
    if b.rd D.FAB_PSTAT_enc port = 1 then b.setFport port { x with batch := x.batch ++ [(BitVec.ofNat 32 h.word, payload)] }
    else b.setFport port { x with stream := x.stream ++ [payload] }))

/-- The nonce of a batch (R342): the sender's side, the rekey count and the batch count. -/
def batchNonce (fromLow : Bool) (rekeys batches : Nat) : Bytes :=
  beBytes ((if fromLow then 0 else 2 ^ 31) + rekeys % 2 ^ 31) 4 ++ beBytes batches 8

/-- The payloads of a batch joined, 60 bytes each. -/
def batchBytes (b : List (BitVec 32 × Payload)) : Bytes := b.flatMap (fun e => leBytes e.2.toNat 60)

/-- The headers of a batch, the additional authenticated data. -/
def batchAad (b : List (BitVec 32 × Payload)) : Bytes := b.flatMap (fun e => leBytes e.1.toNat 4)

/-- A batch whose tag failed is discarded and asked for again; the fourth within 1 s takes the port DOWN (R343). -/
def State.batchBad (s : State) (p : Nat) (inj : Bool) : State :=
  let x := s.fport p
  let ts := s.now :: x.tagFails.filter (fun t => decide (s.now < t + 1000000000))
  let first := (x.rx + 1024 - x.batch.length % 1024) % 1024
  let s1 := ((s.addSat D.FAB_PERR_tagfail 1 p).setFport p { x with batch := [], rx := first, nak := false, tagFails := ts }).log
    E.FAB_LINK_TAG 0 0 0 inj
  if 4 ≤ ts.length then s1.fabPortDown p else s1.flitNak p

/-- FLIT_TAG (R342, R343): the batch before it is released on a good tag. -/
def execFlitTag (port : Fin 16) (seq ack : Fin 1024) (chan : Fin 64) (credits : Fin 16) (payload : BitVec 480)
    (crc : BitVec 32) (s : State) : Result :=
  .next (s.flitIn port ⟨2, seq, ack, chan, credits⟩ payload crc (fun a =>
    let x := a.fport port
    match x.key with
    | none => a.flitNext port
    | some k =>
      let i := a.inject 0x11 (hitInst1 port) 128
      let n := batchNonce (decide (a.rd D.FAB_PNBR_uid port < myUid)) x.rekeys x.batches
      let key := leBytes k.toNat 32
      let ct := batchBytes x.batch
      if gcmTag key n (batchAad x.batch) ct = leBytes (payload.toNat ^^^ i.1.mask) 16 then
        let pt := (pieces 60 (gcmText key n ct)).map (fun b => BitVec.ofNat 480 (ofLe b))
        let b := i.2.flitNext port
        let y := b.fport port
        b.setFport port { y with batch := [], batches := y.batches + 1, stream := y.stream ++ pt }
      else i.2.batchBad port i.1.fired))

/-- Every unacknowledged flit from a number on is sent again (R337). -/
def State.flitReplay (s : State) (p expected : Nat) : State :=
  let s0 := s.flitAck p ((expected + 1023) % 1024)
  let x := s0.fport p
  let same := (s.fport p).replay.head? = some expected
  let s1 := (s0.addSat D.FAB_PERR_replays 1 p).setFport p { x with again := if same then (s.fport p).again + 1 else 1 }
  ({ s1 with out := .fabMsg msgFlit none (p :: x.replay) :: s1.out } : State).tAgent (p / 4) 0x03 1

/-- FLIT_NAK (R337). -/
def execFlitNak (port : Fin 16) (seq ack : Fin 1024) (chan : Fin 64) (credits : Fin 16) (expected : Fin 1024)
    (payload : BitVec 480) (crc : BitVec 32) (s : State) : Result :=
  let h : FlitHdr := ⟨3, seq, ack, chan, credits⟩
  if s.fpState port ≠ fpActive then .next s
  else match s.flitCheck port h payload crc with
    | (false, s0) => .next (s0.flitBad port)
    | (true, s0) => .next (s0.flitReplay port expected)

/-- FLIT_IDLE (R335). -/
def execFlitIdle (port : Fin 16) (seq ack : Fin 1024) (chan : Fin 64) (credits : Fin 16) (payload : BitVec 480)
    (crc : BitVec 32) (s : State) : Result :=
  .next (s.flitIn port ⟨0, seq, ack, chan, credits⟩ payload crc id)

/-- DELAY_PROBE (R363): half of a round trip, less the turnaround. -/
def execDelayProbe (port : Fin 16) (roundTrip turnaround : Nat) (s : State) : Result :=
  .next (if s.fpState port = fpActive then s.setFport port { s.fport port with delay := (roundTrip - turnaround) / 2 } else s)

/-- MESSAGE_FORWARD (R338, R354): a whole message in transit, with the hops it has made and its length in words.
DEDUCED, log 146. -/
def execMessageForward (port : Fin 16) (dest : Fin 64) (hops : Fin 16) (words : Nat) (s : State) : Result :=
  if s.fpState port ≠ fpActive ∨ s.mySeat = some dest.val then .next s
  else if 10 ≤ hops.val then
    .next (((s.addSat D.FAB_PERR_loopdrop 1 port).log E.FAB_HOP_DROP 0 0 0).tAgent (port.val / 4) 0x02 1)
  else
    let s1 : State := { s with out := .fabMsg msgFlit (some dest.val) [hops.val + 1, words] :: s.out }
    .next ((s1.tAgent (port.val / 4) 0x02 1).sendTo dest 1 words)

end Sys2Proof.Machine
end

