-- ==== Sys2Proof/Machine/Cipher.lean ====
section
/-! DEFINITION. The cipher job modes as functions on bytes (Table 12.2, R383 to R385). -/

namespace Sys2Proof.Machine

/-- The fields of a cipher job's descriptor (Table 9.2). -/
structure CipherJob where
  mode : Nat
  dir : Nat
  slot : Nat
  src : Nat
  dst : Nat
  len : Nat
  iv : Nat
  aadAt : Nat
  aadLen : Nat
  deriving DecidableEq, Repr

/-- Whether mode, direction and length are in range (R383). -/
def CipherJob.valid (j : CipherJob) : Bool :=
  decide (j.mode ≤ 6 ∧ j.dir ≤ 1) &&
    (if j.mode = 0 ∧ j.dir = 1 then decide (j.len % 16 = 0 ∧ 16 ≤ j.len ∧ j.len ≤ 2 ^ 36)
     else if j.mode = 2 then decide (16 ≤ j.len ∧ j.len ≤ 16777216)
     else if j.mode = 3 then decide (1 ≤ j.len ∧ j.len ≤ 2 ^ 36 - 32)
     else decide (1 ≤ j.len ∧ j.len ≤ 2 ^ 36))

/-- Bytes read from the source: a GCM decryption reads the tag behind them (Table 12.2). -/
def CipherJob.srcLen (j : CipherJob) : Nat := if j.mode = 3 ∧ j.dir = 1 then j.len + 16 else j.len

/-- Whether the job verifies against bytes at its destination. -/
def CipherJob.verifies (j : CipherJob) : Bool := decide (4 ≤ j.mode ∧ j.dir = 1)

/-- Length of a MAC or digest. -/
def macLen (mode : Nat) : Nat := if mode = 4 then 16 else 32

/-- Most bytes the job writes at, or compares with, its destination. -/
def CipherJob.dstLen (j : CipherJob) : Nat :=
  if 4 ≤ j.mode then macLen j.mode
  else if j.mode = 0 ∧ j.dir = 0 then j.len + 16 - j.len % 16
  else if j.mode = 3 ∧ j.dir = 0 then j.len + 16
  else j.len

/-- Whether a mode uses an IV, nonce, counter block or tweak, and how many of its bytes. -/
def CipherJob.ivLen (j : CipherJob) : Nat := if j.mode = 3 then 12 else if j.mode ≤ 2 then 16 else 0

/-- Whether two ranges share a byte. -/
def overlap (a n b m : Nat) : Bool := decide (a < b + m ∧ b < a + n)

/-- The overlap R384 refuses: any but a job in place, and none for a verification. -/
def CipherJob.badOverlap (j : CipherJob) : Bool :=
  !j.verifies && decide (j.src ≠ j.dst ∨ 4 ≤ j.mode) && overlap j.src j.srcLen j.dst j.dstLen

/-- Output of the job: its bytes (none for a verification that holds), or nothing where a check fails (R385). -/
def CipherJob.run (j : CipherJob) (key key2 iv aad src cmp : Bytes) : Option Bytes :=
  let text := src.take j.len
  match j.mode, j.dir with
  | 0, 0 => some (cbcEnc key iv text)
  | 0, _ =>
    let p := cbcDec key iv text
    (pkcsPad p).map (fun n => p.take (p.length - n))
  | 1, _ => some (ctrMode key iv text)
  | 2, 0 => some (xtsEnc key key2 iv text)
  | 2, _ => some (xtsDec key key2 iv text)
  | 3, 0 =>
    let ct := gcmText key (iv.take 12) text
    some (ct ++ gcmTag key (iv.take 12) aad ct)
  | 3, _ =>
    if gcmTag key (iv.take 12) aad text = src.drop j.len then some (gcmText key (iv.take 12) text) else none
  | m, d =>
    let v := if m = 4 then cmac key text else if m = 5 then hmac key text else sha256 text
    if d = 0 then some v else if v = cmp then some [] else none

end Sys2Proof.Machine
end

