-- ==== Sys2Proof/Machine/Jobs.lean ====
section
/-! DEFINITION. Jobs (R265 to R272, R383 to R387): submission, waiting, start, and the end of a mover or cipher job. -/

namespace Sys2Proof.Machine

/-! Status words (Table 9.3). -/

def jobOk : Nat := 0x00
def jobBadDesc : Nat := 0x01
def jobOverlap : Nat := 0x02
def jobAddr : Nat := 0x03
def jobPoison : Nat := 0x04
def jobNoKey : Nat := 0x05
def jobDiscard : Nat := 0x06
def jobCancelled : Nat := 0x07
def jobTagFail : Nat := 0x08
def jobLost : Nat := 0x09

/-- A status word: done, code and value. -/
def statusWord (code value : Nat) : Word := BitVec.ofNat 64 (2 ^ 63 + code * 2 ^ 48 + value % 2 ^ 48)

/-- The kind of a job and its encoding in word 0. -/
def JobKind.code : JobKind → Nat
  | .cipher => 1
  | .mover => 2
  | .seal => 3

/-! Submission (R260, R261, R266). -/

/-- A service instruction reads the line it names (R260, R261): address checks, then poison; not ready while the line is. -/
def State.withLine (s : State) (c major addr : Nat) (ext : Ext) (run : State → Line → State) :
    State :=
  match lineFault addr with
  | some (code, a) => s.faultNow c code a major addr
  | none => match s.devRead ext (addr / 64) with
    | none => s
    | some ((_, true), s1) => s1.faultNow c fltPoison addr major addr
    | some ((d, false), s1) => run s1 d

/-- jsub.c, jsub.m and jsub.s. -/
def State.jsub (s : State) (c : Nat) (kind : JobKind) (d a : BitVec 5) (ext : Ext) : State :=
  s.fenced c (fun x =>
    let addr := (x.reg a).toNat
    s.withLine c 0x39 addr ext (fun s l =>
      if 16 ≤ x.jobs.length then s
      else if wordAt l 0 / 2 ^ 56 ≠ kind.code ∨ x.jobs.any (fun j => decide (j.desc = addr)) then
        s.setAndGo c x d (statusWord jobBadDesc 0) 0x39
      else s.setAndGo c { x with jobs := x.jobs ++ [⟨addr, kind, l, false, [], 0, false, none⟩] } d 0 0x39))

/-- JSUB_C (R266). -/
def execJsubC (c : Fin 256) (d a : BitVec 5) (ext : Ext) (s : State) : Result := .next (s.jsub c .cipher d a ext)

/-- JSUB_M (R266). -/
def execJsubM (c : Fin 256) (d a : BitVec 5) (ext : Ext) (s : State) : Result := .next (s.jsub c .mover d a ext)

/-- JSUB_S (R266). -/
def execJsubS (c : Fin 256) (d a : BitVec 5) (ext : Ext) (s : State) : Result := .next (s.jsub c .seal d a ext)

/-- The status word of a job that is over (R272): the one kept, which is then dropped, or word 7 of the line. -/
def State.jobStatus (s : State) (c : Nat) (x : Ctx) (d : BitVec 5) (addr : Nat) (ext : Ext) : State :=
  match x.kept.find? (fun e => decide (e.1 = addr)) with
  | some (_, w) => s.setAndGo c { x with kept := x.kept.erase (addr, w) } d w 0x39
  | none => s.withLine c 0x39 addr ext (fun s l => s.setAndGo c x d (BitVec.ofNat 64 (wordAt l 7)) 0x39)

/-- JWAIT (R272): not ready while the job is outstanding. -/
def execJwait (c : Fin 256) (d a : BitVec 5) (ext : Ext) (s : State) : Result :=
  .next (s.fenced c (fun x =>
    let addr := (x.reg a).toNat
    match lineFault addr with
    | some (code, f) => s.faultNow c code f 0x39 addr
    | none => if x.jobs.any (fun j => decide (j.desc = addr)) then s else s.jobStatus c x d addr ext))

/-- JPOLL (R272). -/
def execJpoll (c : Fin 256) (d a : BitVec 5) (ext : Ext) (s : State) : Result :=
  .next (s.fenced c (fun x =>
    let addr := (x.reg a).toNat
    match lineFault addr with
    | some (code, f) => s.faultNow c code f 0x39 addr
    | none =>
      if x.jobs.any (fun j => decide (j.desc = addr)) then s.setAndGo c x d 0 0x39 else s.jobStatus c x d addr ext))

/-! Start and end. -/

/-- The job of a context with a descriptor address. -/
def State.job (s : State) (c desc : Nat) : Option Job := (s.ctx c).jobs.find? (fun j => decide (j.desc = desc))

/-- Replaces a job. -/
def State.setJob (s : State) (c : Nat) (j : Job) : State :=
  let x := s.ctx c
  s.setCtx c { x with jobs := x.jobs.map (fun k => if k.desc = j.desc then j else k) }

/-- A job ends with its status (R271, R272): the word is written to the descriptor and kept; none where the descriptor's
line must wait. DEDUCED, log 135. -/
def State.jobEnd (s : State) (c desc code value : Nat) : Option State :=
  let w := statusWord code value
  (s.devWord c (desc + 56) w.toNat (.job c 0)).map (fun r =>
    let s1 := r.2
    let x := s1.ctx c
    let kept := x.kept.filter (fun e => decide (e.1 ≠ desc)) ++ [(desc, w)]
    s1.setCtx c { x with jobs := x.jobs.filter (fun j => decide (j.desc ≠ desc)), kept := kept.drop (kept.length - 16) })

/-- The started jobs of the device that use an engine (movers and general engines apart). -/
def State.engineUsed (s : State) (mover : Bool) (e : Nat) : Bool :=
  s.cur.ctxs.any (fun (p : Nat × Ctx) =>
    p.2.jobs.any (fun j => j.started && decide (j.engine = e) && (decide (j.kind = .mover) == mover)))

/-- Whether a general engine is in service. -/
def State.engineOn (s : State) (e : Nat) : Bool := (s.rd D.CIP_STAT_engines).testBit e

/-- The keys a cipher job latches: its slot and the next (R377, XTS). -/
def State.latchKeys (s : State) (slot : Nat) : List (Option (Nat × BitVec 256)) :=
  [slot, slot + 1].map (fun k => (SMap.find s.slots k).map (fun e => ((match e.type with
    | .aes128 => 0
    | .aes256 => 1
    | .hmac => 2), e.key)))

/-- The cipher fields of a descriptor. -/
def cipherOf (l : Line) : CipherJob :=
  let w0 := wordAt l 0
  ⟨w0 / 2 ^ 48 % 256, w0 / 2 ^ 40 % 256, w0 / 2 ^ 32 % 256, wordAt l 1, wordAt l 2, wordAt l 3, wordAt l 4, wordAt l 5,
    wordAt l 6 / 2 ^ 32⟩

/-- JOB_START (R266, R272, R277, R377, R387): the oldest accepted job of a context starts on a free engine or mover; a
cancelled one ends. A seal job starts with its checks, in the seal's own step. DEDUCED, log 132. -/
def State.jobStart (s : State) (c e : Nat) (j : Job) : State :=
  if j.cancelled then (s.jobEnd c j.desc jobCancelled 0).getD s
  else
    let mover := decide (j.kind = .mover)
    if s.engineUsed mover e ∨ (mover = false ∧ (4 ≤ e ∨ s.engineOn e = false)) then s
    else s.setJob c { j with started := true, engine := e, keys := if j.keys = [] then
        (if j.kind = .cipher then s.latchKeys (cipherOf j.words).slot else []) else j.keys }

/-- Lines of an output with their bytes and masks. -/
def outputLines (addr : Nat) (b : Bytes) : List (Nat × Line × LineMask) :=
  (linesOf addr b.length).map (fun gl =>
    let lo := max addr (gl * 64)
    let hi := min (addr + b.length) (gl * 64 + 64)
    (gl, lineOfBytes (ofLe ((b.drop (lo - addr)).take (hi - lo))) (lo % 64) (hi - lo), maskOf (lo % 64) (hi - lo)))

/-- Output lines of a job are written one after another, until one must wait: the state, the lines left and the number its homes have
discarded so far (R224, R270). -/
def State.jobLines (s : State) (c desc : Nat) (zero : Bool) (l : List (Nat × Line × LineMask)) (n : Nat) :
    State × List (Nat × Line × LineMask) × Nat :=
  match l with
  | [] => (s, [], n)
  | e :: r => match s.devWrite c e.1 e.2.1 e.2.2 (.job c desc) (zero && decide (e.2.2 = fullMask)) with
    | none => (s, e :: r, n)
    | some (.accept, t) => t.jobLines c desc zero r n
    | some (_, t) => t.jobLines c desc zero r (n + 1)

/-- Offset of the lowest poisoned line of lines read from an address (R269). DEDUCED, log 133. -/
def poisonAt (ls : List (Nat × Line × Bool)) (addr : Nat) : Option Nat :=
  (ls.find? (fun e => e.2.2)).map (fun e => e.1 * 64 - addr)

/-- What a job ends with once its lines are written and answered (R269 to R271). -/
def State.jobWritten (s : State) (c desc : Nat) (o : JobOut) : Option State :=
  match o.poison with
  | some p => s.jobEnd c desc jobPoison p
  | none =>
    if 0 < o.discarded then s.jobEnd c desc jobDiscard o.discarded
    else if 0 < o.lost then s.jobEnd c desc jobLost o.lost
    else s.jobEnd c desc jobOk o.ok

/-- A running job goes on: it writes what it can, and ends once nothing is left to write and every line sent to another device has
been answered or lost. -/
def State.jobDrive (s : State) (c desc : Nat) : State :=
  match s.job c desc with
  | none => s
  | some j => match j.out with
    | none => s
    | some o =>
      let r := s.jobLines c desc o.zero o.lines o.discarded
      let o1 := { o with lines := r.2.1, discarded := r.2.2 }
      let s1 := r.1.setJob c { j with out := some o1 }
      if r.2.1 ≠ [] ∨ s1.jobSends c desc ≠ 0 then s1 else (s1.jobWritten c desc o1).getD s1

/-- What the checks and the source lines of a job lead to: an end without a line written, or its output. -/
inductive JobPlan where
  | stop (code value : Nat)
  | out (o : JobOut)
  deriving DecidableEq, Repr

/-- A job does as planned. -/
def State.jobPlanned (s : State) (c : Nat) (j : Job) (p : JobPlan) : State :=
  match p with
  | .stop code v => (s.jobEnd c j.desc code v).getD s
  | .out o => (s.setJob c { j with out := some o }).jobDrive c j.desc

/-- The plan of a mover job, and the state after its source lines were read (R267 to R271): `wrote` numbers the output lines a
poisoned source line leaves written. None where a line must wait. -/
def State.moverPlan (s : State) (j : Job) (ext : Ext) (wrote : List Nat) : Option (JobPlan × State) :=
  let w0 := wordAt j.words 0
  let op := w0 / 2 ^ 48 % 256
  let src := wordAt j.words 1
  let dst := wordAt j.words 2
  let len := wordAt j.words 3
  if 1 < op ∨ len = 0 ∨ 2 ^ 40 < len then some (.stop jobBadDesc 0, s)
  else if rangeOk dst len = false ∨ (op = 0 ∧ rangeOk src len = false) then some (.stop jobAddr 0, s)
  else if op = 0 then
    if overlap src len dst len then some (.stop jobOverlap 0, s)
    else (s.devReadAll ext (linesOf src len)).map (fun q =>
      let out := outputLines dst (bytesFrom q.1 src len)
      match poisonAt q.1 src with
      | some o =>
        let clean := (out.zipIdx.filter (fun e => wrote.contains e.2 &&
          (q.1.all (fun p => !p.2.2 || !overlap (p.1 * 64) 64 (src + max dst (e.1.1 * 64) - dst)
            (min (dst + len) (e.1.1 * 64 + 64) - max dst (e.1.1 * 64)))))).map Prod.fst
        (.out ⟨clean, false, 0, 0, some o, len⟩, q.2)
      | none => (.out ⟨out, false, 0, 0, none, len⟩, q.2))
  else
    let pat := leBytes (wordAt j.words 4) 8
    let b := (List.range len).map (fun k => byteAt pat ((dst + k) % 8))
    some (.out ⟨outputLines dst b, decide (wordAt j.words 4 = 0), 0, 0, none, len⟩, s)

/-- MOVER_JOB_COMPLETE (R268): the job runs to its end, or as far as its lines can be written.
DESIGN CHOICE, log 134. -/
def execMoverJobComplete (c : Fin 256) (desc : Nat) (ext : List (Nat × Line)) (wrote lost : List Nat) (s : State) : Result :=
  match s.job c desc with
  | some j =>
    .next (if j.started = false ∨ j.kind ≠ .mover ∨ s.isFlushing then s
      else if j.out.isSome then s.jobDrive c desc
      else match s.moverPlan j (jobExt ext lost) wrote with
        | some p => p.2.jobPlanned c j p.1
        | none => s)
  | none => .next s

/-- The key bytes of a latched key of an AES type, or of the HMAC type. -/
def keyOfType (hmacKey : Bool) (k : Option (Nat × BitVec 256)) : Option Bytes :=
  match k with
  | some (t, v) => if (decide (t = 2)) == hmacKey then some (leBytes v.toNat (if t = 0 then 16 else 32)) else none
  | none => none

/-- The two keys a cipher job uses, or none where it has not the key its mode needs (R265, R383). -/
def CipherJob.keys (j : CipherJob) (ks : List (Option (Nat × BitVec 256))) : Option (Bytes × Bytes) :=
  let k0 := (ks[0]?).getD none
  let k1 := (ks[1]?).getD none
  if j.mode = 6 then (if j.slot = 0x7F then some ([], []) else none)
  else if 64 ≤ j.slot then none
  else if j.mode = 5 then (keyOfType true k0).map (fun k => (k, []))
  else if j.mode = 2 then
    match keyOfType false k0, keyOfType false k1 with
    | some a, some b => if a.length = b.length ∧ j.slot < 63 then some (a, b) else none
    | _, _ => none
  else (keyOfType false k0).map (fun k => (k, []))

/-- The plan of a cipher job, and the state after its lines were read (R267, R269 to R271, R383 to R385). None where a line must
wait. -/
def State.cipherPlan (s : State) (j : Job) (ext : Ext) (wrote : List Nat) : Option (JobPlan × State) :=
  let q := cipherOf j.words
  if q.valid = false then some (.stop jobBadDesc 0, s)
  else if rangeOk q.src q.srcLen = false ∨ rangeOk q.dst q.dstLen = false ∨
      (0 < q.ivLen ∧ rangeOk q.iv q.ivLen = false) ∨ (q.mode = 3 ∧ 0 < q.aadLen ∧ rangeOk q.aadAt q.aadLen = false) then
    some (.stop jobAddr 0, s)
  else if q.badOverlap then some (.stop jobOverlap 0, s)
  else match q.keys j.keys with
    | none => some (.stop jobNoKey 0, s)
    | some (k, k2) =>
      let ad := if q.mode = 3 then q.aadLen else 0
      (s.devReadAll ext (linesOf q.src q.srcLen)).bind (fun ls => (ls.2.devReadAll ext (linesOf q.iv q.ivLen)).bind (fun ivs =>
        (ivs.2.devReadAll ext (linesOf q.aadAt ad)).bind (fun aads =>
          (aads.2.devReadAll ext (if q.verifies then linesOf q.dst q.dstLen else [])).map (fun cmps =>
            let o := q.run k k2 (bytesFrom ivs.1 q.iv q.ivLen) (bytesFrom aads.1 q.aadAt ad) (bytesFrom ls.1 q.src q.srcLen)
              (bytesFrom cmps.1 q.dst q.dstLen)
            let bad := (ivs.1 ++ aads.1 ++ cmps.1).any (fun e => e.2.2)
            match poisonAt ls.1 q.src, bad, o with
            | some off, _, _ =>
              let out := outputLines q.dst (o.getD [])
              let n := if q.mode ≤ 3 ∧ (q.mode = 3 ∧ q.dir = 1) = False then off else 0
              let clean := (out.zipIdx.filter (fun e => wrote.contains e.2 && decide ((e.1.1 + 1) * 64 ≤ q.dst + n))).map Prod.fst
              (.out ⟨clean, false, 0, 0, some off, 0⟩, cmps.2)
            | none, true, _ => (.stop jobPoison 0, cmps.2)
            | none, false, none => (.stop jobTagFail 0, cmps.2)
            | none, false, some b => (.out ⟨outputLines q.dst b, false, 0, 0, none, b.length⟩, cmps.2)))))

/-- The duplicate comparison of an engine found a difference once (`dup` 1) or again on the recomputed result (2), by itself
or by injection point 0x12 (R386, R387): whether the engine left service, and the state. -/
def State.dupCheck (s : State) (e dup : Nat) : Bool × State :=
  let x := s.inject 0x12 (hitInst1 e) 512
  let n := if x.1.fired then max dup 1 else dup
  if n = 0 then (false, x.2)
  else
    let s1 := (x.2.addSat D.CIP_DUP_mismatch 1).log E.CIP_DUP_MISMATCH 0 0 0 x.1.fired
    if n = 1 ∨ s1.quarantined x.1.fired then (false, s1)
    else
      let on := s1.rd D.CIP_STAT_engines
      let on' := if on.testBit e then on - 2 ^ e else on
      let s2 := (((s1.wr D.CIP_STAT_engines on').wr D.CIP_ALARM_engout 1).log E.CIP_ENGINE_OUT 0 0 0).addSat
        D.CIP_DUP_restarts 1
      (true, if on' = 0 then s2.wr D.CIP_ALARM_noengine 1 else s2)

/-- A job whose output failed verification is counted (R384). -/
def State.macFail (s : State) (p : JobPlan) : State :=
  if p = .stop jobTagFail 0 then s.addSat D.CIP_MACFAIL_jobs 1 else s

/-- CIPHER_JOB_COMPLETE (R383, R386): the job runs to its end, or as far as its lines can be written; on an engine that leaves
service it starts again on another. -/
def execCipherJobComplete (c : Fin 256) (desc : Nat) (ext : List (Nat × Line)) (wrote lost : List Nat) (dup : Fin 3)
    (s : State) : Result :=
  match s.job c desc with
  | some j =>
    .next (if j.started = false ∨ j.kind ≠ .cipher ∨ s.isFlushing then s
      else if j.out.isSome then s.jobDrive c desc
      else match s.cipherPlan j (jobExt ext lost) wrote with
        | none => s
        | some p =>
          let d := p.2.dupCheck j.engine dup
          if d.1 then d.2.setJob c { j with started := false } else (d.2.macFail p.1).jobPlanned c j p.1)
  | none => .next s

end Sys2Proof.Machine
end

