-- ==== Sys2Proof/Machine/Services.lean ====
section
/-! DEFINITION. The service instructions for queues (R281), accessions (R273 to R275) and key slots (R283, R373 to R377), the
start of a job (R266), and the seal (R277 to R280, R399). -/

namespace Sys2Proof.Machine

/-! What the operations that hold their context share (R262). -/

/-- An administrative or accession operation that holds its context ends: the status is written, then a pending boundary fault
is taken (R262). -/
def State.opDone (s : State) (c major v : Nat) : State :=
  let x := s.ctx c
  match x.hold with
  | .op m rd =>
    if m = major then (s.setAndGo c { x with hold := .none } rd (BitVec.ofNat 64 v) major).atBoundary c else s
  | _ => s

/-- The privilege floor of an instruction (R237, Table 9.1). -/
def State.floor (s : State) (c : Nat) (low : Priv) (major : Nat) (run : Ctx → State) : State :=
  s.fenced c (fun x => if x.priv.code < low.code then s.faultNow c fltPriv 0 major 0 else run x)

/-! Queues (R281). -/

/-- Whether a context may name a queue (R281, Table 10.13). -/
def State.qOpenTo (s : State) (x : Ctx) (n : Nat) : Bool :=
  decide (n < 4096) && decide (s.qType n ≠ qCall) && decide (s.rd D.ATQ_CFG_priv n ≠ 3) &&
    decide (s.rd D.ATQ_CFG_priv n ≤ x.priv.code)

/-- qget and qgetw: `corr` and `unc` are what the check of the entry's words finds. -/
def State.qTakeInto (s : State) (c : Nat) (d a b : BitVec 5) (corr : Nat) (unc wait : Bool) : State :=
  s.fenced c (fun x =>
    let n := (x.reg a).toNat
    let addr := (x.reg b).toNat
    if s.qOpenTo x n = false then s.faultNow c fltQAccess n 0x3A 0
    else match lineFault addr with
      | some (code, f) => s.faultNow c code f 0x3A addr
      | none =>
        let t := s.qTake n corr unc
        match t.1 with
        | .empty => if wait then s else s.setAndGo c x d 1 0x3A
        | .bad => t.2.setAndGo c x d 2 0x3A
        | .entry e =>
          match t.2.devWrite c (addr / 64) e fullMask (.job c 0) with
          | none => s
          | some r => r.2.setAndGo c (r.2.ctx c) d 0 0x3A)

/-- QGET (R281). -/
def execQget (c : Fin 256) (d a b : BitVec 5) (corr : Fin 9) (unc : Bool) (s : State) : Result :=
  .next (s.qTakeInto c d a b corr unc false)

/-- QGETW (R281): waits while the queue is empty or disabled. -/
def execQgetw (c : Fin 256) (d a b : BitVec 5) (corr : Fin 9) (unc : Bool) (s : State) : Result :=
  .next (s.qTakeInto c d a b corr unc true)

/-- QPUT (R281). -/
def execQput (c : Fin 256) (d a b : BitVec 5) (ext : Ext) (s : State) : Result :=
  .next (s.fenced c (fun x =>
    let n := (x.reg a).toNat
    if s.qOpenTo x n = false then s.faultNow c fltQAccess n 0x3A 0
    else s.withLine c 0x3A (x.reg b).toNat ext (fun s l =>
      if s.qOn n = false ∨ s.qFull n then s.setAndGo c x d 1 0x3A
      else
        let s1 := s.qAppend n ⟨l, false⟩ false
        s1.setAndGo c (s1.ctx c) d 0 0x3A)))

/-! Accessions (R273 to R275). -/

/-- The state code of an entry (Table 9.5). -/
def AccSt.code : AccSt → Nat
  | .free => 0
  | .open => 1
  | .sealing => 2

/-- Word `w` of an accession table entry (Table 9.5). -/
def Acc.word (a : Acc) (w : Nat) : Nat :=
  if w = 0 then a.st.code * 2 ^ 62 + a.region * 2 ^ 50 + a.provkey * 2 ^ 44 + a.base
  else if w = 1 then a.limit
  else if w = 2 then a.sealed
  else if w = 3 then a.pending
  else if w = 4 then a.segments * 2 ^ 32 + a.discarded
  else if w = 5 then a.maxsegs
  else if w = 6 then a.created
  else if 8 ≤ w ∧ w ≤ 11 then a.link.toNat / 2 ^ (64 * (w - 8)) % 2 ^ 64
  else 0

/-- Tiles of a seal log of so many records of 128 bytes (R274). -/
def sealLogTiles (maxsegs : Nat) : Nat := (maxsegs + 127) / 128

/-- First tile of an accession, and the tiles of its data and its seal log. -/
def Acc.span (a : Acc) : Nat × Nat := (a.base, a.limit / 16384 + sealLogTiles a.maxsegs)

/-- The accessions in use, with those whose creation has not committed (R51, R273). -/
def State.accsInUse (s : State) : List (Nat × Acc) :=
  s.cur.accs.filter (fun e => decide (e.2.st ≠ .free)) ++
    (s.cur.accOps.filter (fun e => decide (e.2.2.2.st ≠ .free))).map (fun e => e.2.2)

/-- Whether a descriptor's range is refused with ACC_BADRANGE (R274). -/
def State.accBadRange (s : State) (base limit maxsegs : Nat) : Bool :=
  let n := limit / 16384 + sealLogTiles maxsegs
  let t := base / 16384
  if base % 16384 ≠ 0 ∨ limit % 16384 ≠ 0 ∨ limit = 0 ∨ maxsegs = 0 ∨ 1048576 < maxsegs ∨ 469762048 < t + n then true
  else
    let r := s.region (s.regionNo (s.glOf (t * 256)))
    !(decide (r.st = .live) && r.attr.append && r.attr.sealable && decide (r.base ≤ t / 1024) &&
      decide ((t + n - 1) / 1024 < r.base + r.size)) ||
      s.accsInUse.any (fun e => let q := e.2.span; decide (t < q.1 + q.2 ∧ q.1 < t + n))

/-- The bytes of the HMAC key of a slot, where it holds one. -/
def State.hmacKey (s : State) (slot : Nat) : Option Bytes :=
  match SMap.find s.slots slot with
  | some k => if k.type = .hmac then some k.bytes else none
  | none => none

/-- The genesis value G of an accession (R399). -/
def genesis (kp : Bytes) (acc created base limit : Nat) : BitVec 256 :=
  BitVec.ofNat 256 (ofLe (hmac kp (ascii "HTGN" ++ leBytes Config.uid.toNat 8 ++ leBytes acc 2 ++ leBytes created 8 ++
    leBytes base 8 ++ leBytes limit 8)))

/-- An accession operation waits for its page write in the commit ring (R273); the context is held (R262). -/
def State.accBegin (s : State) (c : Nat) (d : BitVec 5) (n : Nat) (a : Acc) : State :=
  let k := s.led.accSeq + 1
  let s1 := (s.setLed { s.led with accSeq := k }).pageWrite (1280 + k % 1024) none (.acc c)
  let s2 : State := { s1 with cur := { s1.cur with accOps := s1.cur.accOps ++ [(c, d.toNat, n, a)] } }
  s2.setCtx c { s2.ctx c with hold := .op 0x3B d }

/-- The lowest FREE entry with no operation of its own. -/
def State.accFree (s : State) : Option Nat :=
  (List.range 65536).find? (fun n => decide ((s.acc n).st = .free) && !s.cur.accOps.any (fun e => decide (e.2.2.1 = n)))

/-- ACCREATE (R274). DEDUCED, log 106. -/
def execAccreate (c : Fin 256) (d a : BitVec 5) (ext : Ext) (s : State) : Result :=
  .next (s.fenced c (fun x => s.withLine c 0x3B (x.reg a).toNat ext (fun s l =>
    let base := wordAt l 0
    let limit := wordAt l 1
    let maxsegs := wordAt l 2
    let slot := wordAt l 3 % 64
    if s.accBadRange base limit maxsegs then s.setAndGo c x d 0x01 0x3B
    else match s.hmacKey slot, s.accFree with
      | none, _ => s.setAndGo c x d 0x03 0x3B
      | some _, none => s.setAndGo c x d 0x02 0x3B
      | some kp, some n =>
        s.accBegin c d n { Acc.init with
          st := .open, region := s.regionNo (s.glOf (base / 64)), provkey := slot, base := base / 16384, limit := limit
          maxsegs := maxsegs, created := s.now, link := genesis kp n s.now base limit })))

/-- ACINFO (R275). -/
def execAcinfo (c : Fin 256) (d a b : BitVec 5) (s : State) : Result :=
  .next (s.fenced c (fun x =>
    let n := (x.reg a).toNat
    let addr := (x.reg b).toNat
    let bad := if addr % 64 ≠ 0 then some (fltAlign, addr) else addrFault [(addr, 64), (addr + 64, 64)]
    match bad with
    | some (code, f) => s.faultNow c code f 0x3B addr
    | none =>
      if 65536 ≤ n then s.setAndGo c x d 0x05 0x3B
      else
        let e := s.acc n
        let l0 := lineOfWords ((List.range 8).map e.word)
        let l1 := lineOfWords ((List.range 8).map (fun w => e.word (8 + w)))
        match s.devWrite c (addr / 64) l0 fullMask (.job c 0) with
        | none => s
        | some r0 => match r0.2.devWrite c (addr / 64 + 1) l1 fullMask (.job c 0) with
          | none => s
          | some r1 => r1.2.setAndGo c (r1.2.ctx c) d 0x00 0x3B))

/-- ACDELETE (R275). -/
def execAcdelete (c : Fin 256) (d a : BitVec 5) (s : State) : Result :=
  .next (s.fenced c (fun x =>
    let n := (x.reg a).toNat
    let e := s.acc n
    if 65536 ≤ n ∨ e.st = .free then s.setAndGo c x d 0x05 0x3B
    else if s.cur.accOps.any (fun o => decide (o.2.2.1 = n)) then s
    else if 0 < e.segments ∨ e.st = .sealing then s.setAndGo c x d 0x04 0x3B
    else s.accBegin c d n Acc.init))

/-- An accession operation commits: its page write has started (R273, R441). -/
def State.accCommit (s : State) (c : Nat) : State :=
  match s.cur.accOps.find? (fun e => decide (e.1 = c)) with
  | some e => s.setAcc e.2.2.1 e.2.2.2
  | none => s

/-- The page write of an accession operation has completed: the status is written (R275). -/
def State.accDone (s : State) (c : Nat) : State :=
  match s.cur.accOps.find? (fun e => decide (e.1 = c)) with
  | some e =>
    let s1 : State := { s with cur := { s.cur with accOps := s.cur.accOps.filter (fun o => o.1 ≠ c) } }
    s1.opDone c 0x3B (if e.2.2.2.st = .free then 0 else e.2.2.1 * 65536)
  | none => s

/-! Key slots (R283, R373 to R377). -/

/-- Regions and accessions that name a slot (CIP_SLOT.users). DEDUCED, log 79. -/
def State.slotUsers (s : State) (slot : Nat) : Nat :=
  (s.regions.filter (fun e => decide (e.2.st ≠ .free ∧ e.2.attr.keyslot = slot))).length +
    (s.cur.accs.filter (fun e => decide (e.2.st ≠ .free ∧ e.2.provkey = slot))).length

/-- Whether a slot is in use, by an operation accepted earlier too (R51, R376). -/
def State.slotInUse (s : State) (slot : Nat) : Bool :=
  decide (0 < s.slotUsers slot) || s.rops.any (fun o => decide (o.kind ≠ .delete ∧ o.new.attr.keyslot = slot)) ||
    s.cur.accOps.any (fun e => decide (e.2.2.2.st ≠ .free ∧ e.2.2.2.provkey = slot))

/-- The type of its encoding (R283). -/
def keyTypeOf (v : Nat) : Option KeyType :=
  if v = 0 then some .aes128 else if v = 1 then some .aes256 else if v = 2 then some .hmac else none

/-- Bytes of a key of a type. -/
def KeyType.size : KeyType → Nat
  | .aes128 => 16
  | _ => 32

/-- A 256-bit draw from the DRBG (R401): free values, counted since the last reseed. DESIGN CHOICE, log 136. -/
def State.drawKey (s : State) : BitVec 256 × State :=
  let a := s.fresh
  let b := a.2.fresh
  let c := b.2.fresh
  let d := c.2.fresh
  (a.1 ++ b.1 ++ c.1 ++ d.1, { d.2 with drbg := d.2.drbg + 1 })

/-- The new key of a descriptor: a status, or the slot's content and the state that has drawn it (R283, R375). -/
def State.keyFrom (s : State) (slot : Nat) (l : Line) : Nat ⊕ (KeySlot × State) :=
  let w0 := wordAt l 0
  let src := w0 / 2 ^ 56
  match keyTypeOf (w0 / 2 ^ 48 % 256) with
  | none => .inl 0x01
  | some ty =>
    if 2 < src ∨ (src = 1 ∧ 2 ^ 32 ≤ s.drbg) then .inl 0x01
    else if s.slotInUse slot then .inl 0x02
    else if src = 0 then .inr (⟨ty, 0, BitVec.ofNat 256 (bytesAt l 16 ty.size)⟩, s)
    else if src = 1 then
      let k := s.drawKey
      .inr (⟨ty, 1, BitVec.ofNat 256 (k.1.toNat % 2 ^ (8 * ty.size))⟩, k.2)
    else match SMap.find s.slots (w0 / 2 ^ 40 % 64) with
      | none => .inl 0x03
      | some k =>
        if k.type = .hmac then .inl 0x03
        else match keyUnwrap k.bytes (leBytes (bytesAt l 16 (ty.size + 8)) (ty.size + 8)) with
          | none => .inl 0x04
          | some b => .inr (⟨ty, 2, BitVec.ofNat 256 (ofLe b)⟩, s)

/-- A key operation waits for its page write (R375, R376); the context is held. -/
def State.keyBegin (s : State) (c : Nat) (d : BitVec 5) (slot : Nat) (new : Option KeySlot) : State :=
  let s1 := s.pageWrite (8 + slot) none (.key slot)
  let s2 : State := { s1 with keyOps := s1.keyOps ++ [⟨c, d.toNat, slot, new⟩] }
  s2.setCtx c { s2.ctx c with hold := .op 0x3C d }

/-- KEYSET (R283, R375, R377): one key operation at a time. -/
def execKeyset (c : Fin 256) (d a b : BitVec 5) (ext : Ext) (s : State) : Result :=
  .next (s.floor c .steward 0x3C (fun x => s.withLine c 0x3C (x.reg b).toNat ext (fun s l =>
    let slot := (x.reg a).toNat % 64
    if s.keyOps ≠ [] then s
    else match s.keyFrom slot l with
      | .inl st => s.setAndGo c x d (BitVec.ofNat 64 st) 0x3C
      | .inr (k, s1) => s1.keyBegin c d slot (some k))))

/-- KEYCLR (R283, R376, R377). -/
def execKeyclr (c : Fin 256) (d a : BitVec 5) (s : State) : Result :=
  .next (s.floor c .steward 0x3C (fun x =>
    let slot := (x.reg a).toNat % 64
    if s.keyOps ≠ [] then s
    else if s.slotInUse slot then s.setAndGo c x d 0x02 0x3C
    else s.keyBegin c d slot none))

/-- A key operation commits: its page write has started. -/
def State.keyCommit (s : State) (slot : Nat) : State :=
  match s.keyOps.find? (fun o => decide (o.slot = slot)) with
  | some o => match o.new with
    | some k => { s with slots := SMap.ins s.slots slot k }
    | none => { s with slots := SMap.del s.slots slot }
  | none => s

/-- The page write of a key operation has completed: KEY_OK. -/
def State.keyDone (s : State) (slot : Nat) : State :=
  match s.keyOps.find? (fun o => decide (o.slot = slot)) with
  | some o =>
    ({ s with keyOps := s.keyOps.filter (fun q => q.slot ≠ slot) } : State).opDone o.ctx 0x3C 0
  | none => s

/-! Seals (R277 to R280). -/

/-- The status codes of a seal (Table 9.3). -/
def sealNoAcc : Nat := 0x10
def sealBadEnd : Nat := 0x11
def sealBusy : Nat := 0x12
def sealFull : Nat := 0x13
def sealPoison : Nat := 0x14

/-- The seal of an accession that is under way. -/
def State.sealOf (s : State) (n : Nat) : Option Seal := s.cur.seals.find? (fun x => decide (x.acc = n))

/-- Replaces the seal of an accession. -/
def State.setSeal (s : State) (x : Seal) : State :=
  { s with cur := { s.cur with seals := s.cur.seals.map (fun y => if y.acc = x.acc then x else y) } }

/-- The gallery lines of an accession's bytes `lo` to `hi - 1`. -/
def State.accLines (s : State) (n lo hi : Nat) : List Nat :=
  (List.range (hi / 64 - lo / 64)).map (fun k => s.glOf ((s.acc n).base * 256 + lo / 64 + k))

/-- The lines of a pending segment. -/
def State.segLines (s : State) (n : Nat) : List Nat := s.accLines n (s.acc n).sealed (s.acc n).pending

/-- Whether a line lies in an accession's pending segment. -/
def State.inSegment (s : State) (n gl : Nat) : Bool :=
  let a := s.acc n
  s.isLocal gl && decide (a.base * 16384 + a.sealed ≤ llOf gl * 64 ∧ llOf gl * 64 < a.base * 16384 + a.pending)

/-- Recalls every loan and grant of the lines that pass a test: INV to sharers, RECALL to owners that are not away. -/
def State.recallWhere (s : State) (p : Nat → Bool) : State :=
  let s1 := (s.coh.loans.filter (fun e => p e.1)).foldl (fun (a : State) (e : Nat × Loan) => a.sendInvs e.1 e.2.sharers) s
  (s1.coh.grants.filter (fun e => p e.1 && !e.2.away)).foldl (fun (a : State) (e : Nat × Grant) =>
    if a.recalling e.1 then a else a.fabSend .recall e.2.seat e.1 .dev 0 0 false none) s1

/-- Whether a loan, or a grant that is not away, of a line that passes a test remains. -/
def State.lentWhere (s : State) (p : Nat → Bool) : Bool :=
  s.coh.loans.any (fun e => p e.1 && decide (e.2.sharers ≠ 0)) || s.coh.grants.any (fun e => p e.1 && !e.2.away)

/-- The seal's step 2 begins: the entry becomes SEALING, its lines are recalled (Table 9.6). -/
def State.sealBegin (s : State) (x : Seal) : State :=
  let a := s.acc x.acc
  let s1 := s.setAcc x.acc { a with st := .sealing, pending := x.endOff }
  let s2 : State := { s1 with cur := { s1.cur with seals := s1.cur.seals ++ [{ x with step := 2 }] } }
  s2.recallWhere (s2.inSegment x.acc)

/-- The status of a seal's checks (step 1); 0 where they pass. DEDUCED, log 107. -/
def State.sealCheck (s : State) (n endOff : Nat) : Nat :=
  let a := s.acc n
  if a.st = .free then sealNoAcc
  else if endOff % 64 ≠ 0 ∨ endOff ≤ a.sealed ∨ a.limit < endOff ∨ 2 ^ 32 < endOff - a.sealed then
    (if a.st = .sealing then sealBusy else sealBadEnd)
  else if a.st = .sealing then sealBusy
  else if a.maxsegs ≤ a.segments then sealFull
  else 0

/-- A seal job starts (Table 9.6, steps 1 and 2). -/
def State.sealStart (s : State) (c e : Nat) (j : Job) : State :=
  let n := wordAt j.words 1 % 65536
  let st := s.sealCheck n (wordAt j.words 2)
  if st ≠ 0 then (s.jobEnd c j.desc st 0).getD s
  else (s.setJob c { j with started := true, engine := e }).sealBegin
    ⟨n, some c, j.desc, BitVec.ofNat 64 (wordAt j.words 3), wordAt j.words 2, 2, 0, 0, 0, false⟩

/-- JOB_START (R266, R272, R277): the jobs of a context start in submission order. -/
def execJobStart (c : Fin 256) (engine : Fin 8) (s : State) : Result :=
  if s.isFlushing ∨ s.phase = stResetting then .next s
  else match (s.ctx c).jobs.find? (fun j => !j.started) with
    | none => .next s
    | some j =>
      if j.kind = .seal ∧ j.cancelled = false then
        .next (if s.engineUsed false engine ∨ 4 ≤ engine.val ∨ s.engineOn engine = false then s else s.sealStart c engine j)
      else .next (s.jobStart c engine j)

/-- A line of a sealed segment leaves the caches for its stripe builder: wing copies join it, and a dirty way goes to the
staging window. -/
def State.toBuilderSide (s : State) (gl : Nat) : State :=
  match s.collect gl with
  | none => s
  | some s1 => match s1.vfind gl with
    | some (w, v) => if v.dirty then (s1.vacate w v).getD s1 else s1
    | none => s1

/-- The lines that pass a test and that the caches hold leave them for their stripe builders, as far as they can now. -/
def State.allToBuilders (s : State) (p : Nat → Bool) : State :=
  (((s.coh.wl.map (fun (e : Nat × WLine) => e.1 % 2 ^ 44)) ++
    s.coh.vit.map (fun (e : Nat × VLine) => e.2.gl)).filter p).foldl State.toBuilderSide s

/-- SEAL_PATH_SWITCHED (Table 9.6, step 2): nothing of the segment is buffered at a port, lent or in progress. -/
def execSealPathSwitched (acc : Fin 65536) (s : State) : Result :=
  match s.sealOf acc with
  | none => .next s
  | some x =>
    let p := s.inSegment acc
    let buffered := (List.range 4).any (fun k => (s.port k).eab.any (fun e => p (lineOf e.ga)))
    if x.step ≠ 2 ∨ s.isFlushing ∨ buffered ∨ s.lentWhere p ∨ s.coh.txns.any (fun e => p e.1) ∨
        s.coh.wbq.any (fun e => p e.gl) then .next s
    else .next ((s.setSeal { x with step := 3 }).allToBuilders p)

/-- SEAL_STRIPES_ON_MEDIA (Table 9.6, step 3): the builders of the segment close; the step ends when no line of it is charged. -/
def execSealStripesOnMedia (acc : Fin 65536) (s : State) : Result :=
  match s.sealOf acc with
  | none => .next s
  | some x =>
    let p := s.inSegment acc
    if x.step ≠ 3 ∨ s.isFlushing then .next s
    else if s.coh.chg.any (fun e => p e.1) then
      let s1 := s.allToBuilders p
      .next { s1 with med := { s1.med with builders := s1.med.builders.map (fun b =>
        if b.slots.any (fun q => p (s.glOf (q.1 * 256)) || p (s.glOf (q.1 * 256 + 255))) then { b with closing := true }
        else b) } }
    else .next (s.setSeal { x with step := 4 })

/-- A seal ends without sealing: the entry is OPEN again (R278), with its status. -/
def State.sealFail (s : State) (x : Seal) (code : Nat) : State :=
  let back (t : State) : State :=
    let a := t.acc x.acc
    let t1 := t.setAcc x.acc { a with st := .open, pending := 0 }
    { t1 with cur := { t1.cur with seals := t1.cur.seals.filter (fun y => y.acc ≠ x.acc) } }
  match x.ctx with
  | none => back s
  | some c => match s.jobEnd c x.desc code 0 with
    | none => s
    | some t => back t

/-- The seal record's words 0 to 7 (Table 9.7). -/
def sealWords (a : Acc) (x : Seal) : List Nat :=
  [a.segments, a.sealed, a.pending, x.time, x.metaWord.toNat, a.provkey, Config.uid.toNat, x.acc]

/-- The link of a segment (R399). -/
def linkOf (kp : Bytes) (prev digest : BitVec 256) (words : List Nat) : BitVec 256 :=
  BitVec.ofNat 256 (ofLe (hmac kp (ascii "HTPV" ++ leBytes prev.toNat 32 ++ leBytes digest.toNat 32 ++
    words.flatMap (fun w => leBytes w 8))))

/-- The engine a seal hashes on. -/
def State.sealEngine (s : State) (x : Seal) : Nat :=
  match x.ctx with
  | some c => ((s.job c x.desc).map Job.engine).getD 0
  | none => ((List.range 4).find? s.engineOn).getD 0

/-- Steps 4 and 5 end: the digest and the link are known and the commit record is queued (R279, R399). -/
def State.sealHashed (s : State) (x : Seal) : State :=
  match s.devReadAll [] (s.segLines x.acc) with
  | none => s
  | some (es, s) =>
  let ls := es.map Prod.snd
  if ls.any Prod.snd then s.sealFail x sealPoison
  else
    let a := s.acc x.acc
    match s.hmacKey a.provkey with
    | none => s.sealFail x jobNoKey
    | some kp =>
      let dg : BitVec 256 := BitVec.ofNat 256 (ofLe (sha256 (ls.flatMap (fun e => leBytes e.1.toNat 64))))
      let x1 := { x with step := 6, digest := dg, time := s.now }
      let k := s.led.accSeq + 1
      ((s.setLed { s.led with accSeq := k }).setSeal { x1 with link := linkOf kp a.link dg (sealWords a x1) }).pageWrite
        (1280 + k % 1024) none (.sealOf x.acc)

/-- SEAL_HASH_DONE (R277, R278, R386): on an engine that leaves service the hash starts again on another.
DEDUCED, log 80. -/
def execSealHashDone (acc : Fin 65536) (dup : Fin 3) (s : State) : Result :=
  match s.sealOf acc with
  | none => .next s
  | some x =>
    if x.step ≠ 4 ∨ s.isFlushing ∨ (s.segLines x.acc).any (fun gl => !s.lineFree gl) then .next s
    else
      let e := s.sealEngine x
      if s.engineOn e = false then .next s
      else
        let d := s.dupCheck e dup
        if d.1 then
          .next (match x.ctx with
            | none => d.2
            | some c => match d.2.job c x.desc with
              | some j => d.2.setJob c { j with engine := ((List.range 4).find? d.2.engineOn).getD 0 }
              | none => d.2)
        else .next (d.2.sealHashed x)

/-- Whether the commit record of an accession's seal has reached the ledger store (R88). DEDUCED, log 81. -/
def State.sealWritten (s : State) (n : Nat) : Bool :=
  (match s.sealOf n with
    | some x => x.committed
    | none => false) && !s.led.queue.any (fun w => decide (w.owner = .sealOf n))

/-- A seal commits: the page write of its record has started. -/
def State.sealCommitted (s : State) (n : Nat) : State :=
  { s with cur := { s.cur with seals := s.cur.seals.map (fun x => if x.acc = n then { x with committed := true } else x) } }

/-- SEAL_COMMIT (R277): the commit record's page write has completed. -/
def execSealCommit (acc : Fin 65536) (s : State) : Result :=
  match s.sealOf acc with
  | none => .next s
  | some x => .next (if x.step = 6 ∧ s.sealWritten acc then s.setSeal { x with step := 7 } else s)

end Sys2Proof.Machine
end

