-- ==== Sys2Proof/Machine/Retire.lean ====
section
/-! DEFINITION. What the media engine and the conservator share: tile times and age bins (R120, R121), row tokens (R126),
allocation of tiles and stripes (R153), and retirement (R160, R173, R174). -/

namespace Sys2Proof.Machine

/-! Age (R120, R121). -/

/-- The lower edges of the age bins in seconds (Table 4.8). -/
def binEdges : List Nat :=
  [1, 4, 14, 50, 185, 681, 2510, 9253, 34110, 125740, 463580, 1708900, 6299600, 23224000, 85614000, 315576000]

/-- The age bin of an age in ns: the highest whose lower edge it reaches; below 4 s bin 0. -/
def ageBin (ns : Nat) : Nat := ((List.range 16).filter (fun k => decide (binEdges.getD k 0 * 1000000000 ≤ ns))).foldl max 0

/-- Age in ns of a time in the units of Table 5.1. -/
def State.tileAge (s : State) (t : Nat) : Nat := (tileTime s.now + 2 ^ 32 - t) % 2 ^ 32 * 2 ^ 30

/-- The bins bn and bo of a tile. -/
def State.tileBins (s : State) (p : Nat) : Nat × Nat := (ageBin (s.tileAge (s.tile p).tnew), ageBin (s.tileAge (s.tile p).told))

/-- The bin of a read's first attempt (R121). -/
def State.firstBin (s : State) (p : Nat) : Nat := let b := s.tileBins p; (b.1 + b.2 + 1) / 2

/-- Whether a tile is a mixed tile (R121). -/
def State.mixedTile (s : State) (p : Nat) : Bool := let b := s.tileBins p; decide (b.1 + 3 ≤ b.2)

/-- The bins a read may use: the first attempt's, then bo, then bn, each once (R122). -/
def State.binsOf (s : State) (p : Nat) : List Nat :=
  let b := s.tileBins p
  [s.firstBin p, b.2, b.1].foldl (fun a k => if a.contains k then a else a ++ [k]) []

/-! Row tokens (R125, R126, R141). -/

/-- The half of a row. -/
def halfOfRow (row : Nat) : Nat := row / 64

/-- Whether a channel of a half holds every token of the half, because it is paused. -/
def State.halfPaused (s : State) (h : Nat) : Bool := (List.range 16).any (fun j => let c := s.chan (h * 16 + j); c.paused || c.backoff)

/-- Whether a pause of a half gathers its tokens: each is its own as it is freed (R141). -/
def State.halfWanted (s : State) (h : Nat) : Bool := (List.range 16).any (fun j => (s.chan (h * 16 + j)).want)

/-- Whether a row's token is free: no locked write, no unavailable member and no waiting pause holds it (R126, R141). -/
def State.tokenFree (s : State) (row : Nat) : Bool :=
  !SMap.has s.med.tokens row && decide (s.rowUnavail row = []) && !s.halfPaused (halfOfRow row) && !s.halfWanted (halfOfRow row)

/-- Whether the token of a row is held, by a locked write, an unavailable member or a pause (R126, R141, R142). -/
def State.tokenHeld (s : State) (row : Nat) : Bool := !s.tokenFree row

/-- A partition releases its row's token. -/
def State.tokenDrop (s : State) (k : Nat) : State :=
  if SMap.find s.med.tokens (rowOfPart k) = some k then
    { s with med := { s.med with tokens := SMap.del s.med.tokens (rowOfPart k) } }
  else s

/-! Allocation (R153). -/

/-- Data members of a stripe: members that are not gone and do not hold parity (R147). -/
def StripeRec.data (r : StripeRec) : List Nat := r.members.filter (fun j => j ≠ r.ppos)

/-- Number of stripes of the device, and the index of the sentinel stripe of each row (R165). -/
def stripeCount : Nat := 2 ^ 25
def isSentinel (st : Nat) : Bool := decide (st % 2 ^ 18 = 2 ^ 18 - 1)

/-- Listed stripes with a state. -/
def State.stripesIn (s : State) (p : Nat → Bool) : List Nat := (s.med.stripes.filter (fun e => p e.2.st)).map Prod.fst

/-- Number of CLEAN stripes. -/
def State.cleanCount (s : State) : Nat :=
  stripeCount - 128 - (s.med.stripes.filter (fun e => decide (e.2.st ≠ 1) && !isSentinel e.1)).length

/-- The FREE tiles of INUSE stripes of a code in rows with no unavailable member. -/
def State.inuseFree (s : State) (light worn : Bool) : List Nat :=
  (s.stripesIn (fun st => decide (st = 2))).flatMap (fun n =>
    let r := s.stripe n
    if r.light == light && r.exposed.isNone && !s.med.excise.any (fun e => decide (e.1 = n)) && decide (s.rowUnavail (rowOf n) = []) then
      ((r.data.map (tileOfMember n)).filter (fun p =>
        decide ((s.tile p).st = 0) && !(s.tile p).forced && (worn || !(s.tile p).worn)))
    else [])

/-- The tile of a list with the lowest wcount, the first of equals. -/
def State.coldest (s : State) (l : List Nat) : Option Nat :=
  l.foldl (fun (a : Option Nat) p => match a with
    | none => some p
    | some q => if (s.tile p).wcount < (s.tile q).wcount then some p else a) none

/-- Sets a stripe's code, with its CODE record. -/
def State.setCode (s : State) (n : Nat) (light : Bool) : State :=
  let r := s.stripe n
  (s.setStripe n { r with light := light }).clogNow 0x0E n (b2n light) 0

/-- Blanks a FREE stripe: the zero image to every leaf of its members that are not gone (R153). -/
def State.blank (s : State) (n : Nat) : State :=
  (s.stripe n).members.foldl (fun a j =>
    (List.range 64).foldl (fun a i => a.putImage (tileOfMember n j) i 0) a) s

/-- Takes a tile: it is named by the catalogue from now on, and holds no leaf yet. -/
def State.takeTile (s : State) (p : Nat) : State :=
  let n := stripeOf p
  let r := s.stripe n
  (((s.forgetLeaves p).setTile p { s.tile p with st := 1 }).setStripe n { r with st := 2, mapped := r.mapped + 1 }).spareCheck

/-- Whether a stripe may be opened: it has no unavailable member, is not exposed, and is no sentinel stripe. -/
def State.openable (s : State) (n : Nat) : Bool :=
  decide (n < stripeCount) && !isSentinel n && (s.stripe n).exposed.isNone && decide (s.rowUnavail (rowOf n) = [])

/-- The FREE data members of a stripe that are neither being retired nor worn. -/
def State.freshMembers (s : State) (n : Nat) : List Nat :=
  ((s.stripe n).data.map (tileOfMember n)).filter (fun p => let t := s.tile p; decide (t.st = 0) && !t.forced && !t.worn)

/-- A stripe that is FREE or CLEAN is made ready for a code: a CLEAN one takes it; a FREE one of the other code, once no CLEAN
stripe is left, is blanked first (R153). None where it will not serve. DEDUCED, log 96. -/
def State.readyStripe (s : State) (n : Nat) (light : Bool) : Option State :=
  let r := s.stripe n
  if s.openable n = false then none
  else if r.st = 1 then some (s.setCode n light)
  else if r.st = 0 ∧ s.cleanCount = 0 then some (if r.light = light then s else (s.blank n).setCode n light)
  else none

/-- Stripes that are FREE or CLEAN. -/
def State.openStripes (s : State) : Nat :=
  stripeCount - 128 - (s.med.stripes.filter (fun e => decide (1 < e.2.st) && !isSentinel e.1)).length

/-- Allocates a tile for in-place data or as a move's destination (R153). `pick` is the stripe the conservator chooses where
no INUSE stripe serves; a worn tile is given where no stripe is FREE or CLEAN. None where it finds none. -/
def State.allocTile (s : State) (light : Bool) (pick : Nat) : Option (Nat × State) :=
  match s.coldest (s.inuseFree light false) with
  | some p => some (p, s.takeTile p)
  | none =>
    if s.openStripes = 0 then (s.coldest (s.inuseFree light true)).map (fun p => (p, s.takeTile p))
    else (s.readyStripe pick light).bind (fun s1 => (s1.coldest (s1.freshMembers pick)).map (fun p => (p, s1.takeTile p)))

/-- A tile's member waits for its excision (R160). -/
def State.queueExcise (s : State) (p : Nat) : State :=
  let e := (stripeOf p, memberOf p)
  if (s.stripe e.1).isGone e.2 ∨ s.med.excise.contains e then s
  else { s with med := { s.med with excise := s.med.excise ++ [e] } }

/-- A physical tile that no catalogue entry names any longer: FREE, or RETIRED and to be excised where its retirement was logged
(R156, R160); a stripe with no mapped member is FREE. -/
def State.freeTile (s : State) (p : Nat) : State :=
  let n := stripeOf p
  let r := s.stripe n
  let t := s.tile p
  let s1 := s.setTile p { t with st := if t.forced then 2 else 0 }
  let m := r.mapped - 1
  let s2 := s1.setStripe n { r with mapped := m, st := if m = 0 ∧ r.st = 2 then 0 else r.st }
  (if t.forced then s2.queueExcise p else s2).spareCheck

/-- The logical tile whose catalogue entry names a physical tile as its place. -/
def State.logicalOf (s : State) (p : Nat) : Option Nat :=
  (s.med.cat.find? (fun e => decide (e.2.st ≠ .unmapped ∧ e.2.phys = p) && !s.unmapPending e.1)).map Prod.fst

/-! Retirement (Table 5.8). -/

/-- Rows whose rebuild is pending, kept in CON_REBUILD (R175). -/
def State.setRebuilds (s : State) (l : List Rebuild) : State :=
  let rows := (l.map Rebuild.row).foldl (fun a r => if a.contains r then a else a ++ [r]) []
  let s1 : State := { s with med := { s.med with rebuilds := l } }
  (s1.wr D.CON_REBUILD_rows rows.length).wr D.CON_REBUILD_state (if l = [] then 0 else if s.rd D.CON_REBUILD_state = 2 then 2 else 1)

/-- A partition awaits the rebuild of its row's member. -/
def State.queueRebuild (s : State) (k : Nat) : State :=
  let row := rowOfPart k
  let j := k / 64 % 16
  if s.rebuilt k ∨ s.med.rebuilds.any (fun r => decide (r.row = row ∧ r.member = j)) then s
  else s.setRebuilds (s.med.rebuilds ++ [⟨row, j, SMap.get 0 s.med.rowGone (row * 16 + j)⟩])

/-- Keeps MED_CHSTAT.dies and CON_DIE.state with a die that leaves service. -/
def State.dieGone (s : State) (d : Nat) : State :=
  let v := s.rd D.MED_CHSTAT_dies (d / 8)
  (s.wr D.MED_CHSTAT_dies (if v.testBit (d % 8) then v - 2 ^ (d % 8) else v) (d / 8)).wr D.CON_DIE_state 2 d

/-- The die is retired (Table 5.8): cause 0 tiles, 1 partitions, 2 commands. -/
def State.retireDie (s : State) (d cause : Nat) : State :=
  if (s.die d).retired then s
  else
    let s1 := ((s.setDie d { s.die d with retired := true }).clogNow 0x06 (d / 8) (d % 8) 0).dieGone d
    let s2 := (s1.addSat D.CON_RETCNT_dies 1).log E.CON_RETIRE_DIE d cause (s1.rd D.CON_DIE_tiles d)
    ((List.range 8).foldl (fun a p => if (a.part (d * 8 + p)).retired then a else a.queueRebuild (d * 8 + p)) s2).spareCheck

/-- The partition is retired (Table 5.8); its tiles leave the die's individual total. -/
def State.retirePart (s : State) (k : Nat) : State :=
  let p := s.part k
  if p.retired then s
  else
    let d := k / 8
    let v := s.rd D.CON_DIE_parts d
    let own := (s.med.tiles.filter (fun e => decide (partKey e.1 = k) && e.2.forced)).length
    let s0 := s.wr D.CON_DIE_tiles (s.rd D.CON_DIE_tiles d - own) d
    let s1 := (((s0.setPart k { p with retired := true }).clogNow 0x05 (d / 8) (d % 8) (k % 8)).wr D.CON_DIE_parts
      (if v.testBit (k % 8) then v else v + 2 ^ (k % 8)) d).addSat D.CON_RETCNT_parts 1
    let s2 := (s1.log E.CON_RETIRE_PART d (k % 8) p.wvTiles).queueRebuild k
    if 4 ≤ popBelow (s2.rd D.CON_DIE_parts d) 8 then s2.retireDie d 1 else s2.spareCheck

/-- The channel is retired (Table 5.8): cause 0 self-test, 1 sequencer fault. -/
def State.retireChan (s : State) (c cause : Nat) : State :=
  if (s.chan c).gone then s
  else
    let s1 := (s.setChan c { s.chan c with gone := true, want := false, paused := false, backoff := false, since := 0 }).clogNow 0x07 c 0 0
    let s2 := ((s1.addSat D.CON_RETCNT_channels 1).addSat D.MED_STAT_absent 1).log E.CON_RETIRE_CH c cause 0
    let s3 := (List.range 8).foldl (fun (a : State) d => if (a.die (c * 8 + d)).present then a.dieGone (c * 8 + d) else a) s2
    ((List.range 64).foldl (fun a q => a.queueRebuild (c * 64 + q)) s3).spareCheck

/-- A tile is retired (R160): forced, logged and counted; cause 0 write-verify failure, 1 decode failure. A tile that no
entry names is excised at once, a mapped one after its move. -/
def State.retireTile (s : State) (p cause : Nat) : State :=
  let t := s.tile p
  if t.forced then s
  else
    let k := partKey p
    let d := dieKey p
    let s1 := ((s.setTile p { t with forced := true }).clogNow 0x01 p cause 0).log E.CON_RETIRE_TILE d cause p
    let s2 := s1.addSat D.CON_RETCNT_tiles 1
    let s2' := if (s2.part k).retired then s2 else s2.addSat D.CON_DIE_tiles 1 d
    let s3 := if t.st = 1 then s2' else s2'.queueExcise p
    let s4 := if cause = 0 then s3.setPart k { s3.part k with wvTiles := (s3.part k).wvTiles + 1 } else s3
    let s5 := if cause = 0 ∧ s4.rd D.CON_RETIRE_parttiles ≤ (s4.part k).wvTiles then s4.retirePart k else s4
    if s5.rd D.CON_RETIRE_diepct * 2097152 < s5.rd D.CON_DIE_tiles d * 1000 then s5.retireDie d 0 else s5

/-- A command to a die has failed (Table 5.8, R538): three in a row retire it. -/
def State.dieFailed (s : State) (d : Nat) : State :=
  let x := s.die d
  let s1 := s.setDie d { x with cmdErr := x.cmdErr + 1 }
  if 3 ≤ x.cmdErr + 1 then s1.retireDie d 2 else s1

/-- A command to a die has succeeded. -/
def State.dieWorked (s : State) (d : Nat) : State := s.setDie d { s.die d with cmdErr := 0 }

/-- A die reports a pause miss (R169): sixteen within an hour set nosusp. -/
def State.pauseMissed (s : State) (d : Nat) (quiet : Bool) : State :=
  if quiet then s
  else
    let x := s.die d
    let l := x.misses.filter (fun t => decide (s.now < t + 3600000000000)) ++ [s.now]
    let s1 := s.setDie d { x with misses := l }
    if 16 ≤ l.length ∧ s1.rd D.CON_DIE_nosusp d = 0 then (s1.wr D.CON_DIE_nosusp 1 d).log E.CON_NOSUSP d 0 16 else s1

end Sys2Proof.Machine
end

