-- ==== Sys2Proof/Machine/Media.lean ====
section
/-! DEFINITION. Reading a leaf (R118 to R122), pause or reconstruct (R123 to R130) and the bound (R131, R132). -/

namespace Sys2Proof.Machine

/-! The read of a leaf. -/

/-- The read in progress of a leaf (R119). -/
def State.mread (s : State) (tile leaf : Nat) : Option MRead :=
  s.med.reads.find? (fun r => decide (r.tile = tile ∧ r.leaf = leaf))

/-- Replaces a read. -/
def State.setRead (s : State) (r : MRead) : State :=
  { s with med := { s.med with reads := s.med.reads.map (fun q => if q.tile = r.tile ∧ q.leaf = r.leaf then r else q) } }

/-- Removes a read. -/
def State.delRead (s : State) (r : MRead) : State :=
  { s with med := { s.med with reads := s.med.reads.filter (fun q => !(decide (q.tile = r.tile ∧ q.leaf = r.leaf))) } }

/-- The causes of Table 4.10, as the n of MED_BNDMISSn. -/
def lateOverload : Nat := 0
def lateDouble : Nat := 1
def lateMedia : Nat := 2
def lateCatalogue : Nat := 3
def latePauseMiss : Nat := 4
def lateExcluded : Nat := 5
def lateUnattributed : Nat := 6

/-- A BOUNDED read is late with a cause; the first cause stands. -/
def MRead.mark (r : MRead) (cause : Nat) : MRead := if r.bounded ∧ r.late = none then { r with late := some cause } else r

/-- Admissions in force at a channel and at a partition (R127). -/
def State.chanAdm (s : State) (c : Nat) : Nat :=
  (s.med.reads.map (fun r => (r.adm.filter (fun k => decide (k / 64 = c))).length)).sum
def State.partAdm (s : State) (k : Nat) : Nat := (s.med.reads.map (fun r => (r.adm.filter (fun q => q = k)).length)).sum

/-- Whether a channel and a partition admit one more (R127). -/
def State.chanAdmits (s : State) (k : Nat) : Bool := decide (s.chanAdm (k / 64) < s.rd D.MED_BNDCFG_chdepth)
def State.partAdmits (s : State) (k : Nat) : Bool := decide (s.partAdm k < s.rd D.MED_BNDCFG_partdepth)

/-- The read whose array read runs on a partition (R100). -/
def State.arrayReader (s : State) (k : Nat) : Option MRead :=
  (s.part k).reader.bind (fun key => s.mread (key / 64) (key % 64))

/-- Whether an array read runs on a partition. -/
def State.arrayRead (s : State) (k : Nat) : Bool := (s.arrayReader k).isSome

/-- ns until a partition can start an array read (R128), none for never; `left` carries the time an operation has left. -/
def State.rel (s : State) (left : List (Nat × Nat)) (k : Nat) : Option Nat :=
  let p := s.part k
  let known (d : Nat) : Nat := ((left.find? (fun e => e.1 = k)).map Prod.snd).getD d
  if s.unavail k then none
  else if s.arrayRead k then some (min 160 (known 160))
  else if p.op ≠ .writing then some 0
  else if p.commit then some (min 200 (known 200))
  else if p.locked then some (min 2400 (known 2400))
  else some 300

/-- Whether a partition can start within 300 ns. -/
def State.soon (s : State) (left : List (Nat × Nat)) (k : Nat) : Bool :=
  match s.rel left k with
  | some n => decide (n ≤ 300)
  | none => false

/-- The physical tile, its partition and its stripe's other members for a read. -/
def State.readPlace (s : State) (r : MRead) : Nat := (s.catEnt r.tile).phys

/-- The other members of a tile's stripe (R147). -/
def State.others (s : State) (p : Nat) : List Nat := (s.stripe (stripeOf p)).members.filter (fun j => j ≠ memberOf p)

/-- The partition of a member of a tile's stripe. -/
def memberPart (p j : Nat) : Nat := partKey (tileOfMember (stripeOf p) j)

/-- The gallery address of a read: its first waiting line. -/
def State.readGa (s : State) (tile leaf : Nat) : Nat :=
  match s.coh.txns.find? (fun e => decide (e.2.phase = .med) && s.isLocal e.1 && decide (llOf e.1 / 4 = tile * 64 + leaf)) with
  | some e => gaOf e.1
  | none => gaOf (s.glOf ((tile * 64 + leaf) * 4))

/-! Delivery. -/

/-- Bytes below the vitrine as staging and the eviction buffer change them. -/
def State.overlay (s : State) (gl : Nat) (x : Line × Bool) : Line × Bool :=
  let st := match SMap.find s.med.stg (llOf gl) with
    | some e => (merge x.1 e.data e.mask, if e.mask = fullMask then e.poison else x.2 || e.poison)
    | none => x
  let ev := evMerge (s.evOf gl)
  (merge st.1 ev.1 ev.2.1, if ev.2.1 = fullMask then ev.2.2 else st.2 || ev.2.2)

/-- The requests that wait for a leaf go on with its lines; none is a leaf that cannot be read. -/
def State.deliverLeaf (s : State) (tile leaf : Nat) (plain : Option (BitVec 2048)) : State :=
  (s.coh.txns.filter (fun e => decide (e.2.phase = .med) && s.isLocal e.1 && decide (llOf e.1 / 4 = tile * 64 + leaf))).foldl
    (fun (a : State) (e : Nat × Txn) =>
      let x : Line × Bool := match plain with
        | some b => if a.isLost (llOf e.1) then (0, true) else ((b >>> (512 * lineIn (llOf e.1))).setWidth 512, false)
        | none => (0, true)
      a.effect { e.2 with line := some (a.overlay e.1 x) } Flips.none) s

/-- Whether the bound is excluded: a flush, thermal critical, or a step of an activation other than its channels' (Table 4.10).
DEDUCED, log 171. -/
def State.boundExcluded (s : State) : Bool :=
  s.isFlushing || s.bit D.PWR_PFSTAT_lockout || s.fw.act.any (fun a => decide (a.step ≠ 2))

/-- A read ends: lateness is counted and logged for a BOUNDED read whose media stage exceeded 1,855 ns (R132, R218). -/
def State.readEnds (s : State) (r : MRead) (plain : Option (BitVec 2048)) (slow : Bool) : State :=
  let ga := s.readGa r.tile r.leaf
  let cause := if s.boundExcluded then lateExcluded else if r.remote then lateUnattributed else r.late.getD lateUnattributed
  let s1 := (s.delRead r).deliverLeaf r.tile r.leaf plain
  if r.bounded ∧ slow then
    let s2 := s1.addWrap D.MED_BNDMISS_count 1 cause
    if s2.bit D.MED_CTL_bndlog then s2.log E.MED_BOUND_MISS (chanOf (s.readPlace r)) cause ga else s2
  else s1

/-- A leaf is lost (R122 step 5, R172): its four lines, and the count. -/
def State.loseLeaf (s : State) (tile leaf : Nat) : State :=
  ((List.range 4).foldl (fun a k => a.loseLine ((tile * 64 + leaf) * 4 + k)) s).addSat D.CON_ERRCNT_lost 1

/-- Every path of a read has failed (R122 step 5); a leaf rewritten within the last 24 h retires its tile (Table 5.8). -/
def State.readLost (s : State) (r : MRead) (fired slow : Bool) : State :=
  let ga := s.readGa r.tile r.leaf
  let p := s.readPlace r
  let t := SMap.get 0 s.med.recov (p * 64 + r.leaf)
  let s1 := s.log E.MED_UNCORR (chanOf p) 0 ga fired
  let s2 := if t ≠ 0 ∧ s1.now < t + 86400000000000 ∧ s1.quarantined fired = false then s1.retireTile p 1 else s1
  (s2.loseLeaf r.tile r.leaf).readEnds r none slow

/-! The checks of a leaf (R105, R382). -/

/-- What a read of a leaf gives. -/
inductive LeafRes where
  | good (plain : BitVec 2048) (corrected : Nat)
  | bad
  deriving DecidableEq, Repr

/-- Injected wrong bits of a LIGHT codeword `n` as bits of the leaf: data, spare and check shares in order. -/
def lightMask (n m : Nat) : Nat :=
  let sp := lightSpare n
  m % 2 ^ 512 * 2 ^ (512 * n) + m / 2 ^ 512 % 2 ^ (8 * sp.2) * 2 ^ (8 * sp.1) +
    m / 2 ^ (512 + 8 * sp.2) % 2 ^ 40 * 2 ^ (8 * (278 + 5 * n))

/-- Wrong bits that injection adds to a read of a leaf (points 0x01 and 0x02). -/
def State.injectLeaf (s : State) (tile leaf : Nat) (light : Bool) (errs : Image) : Image × Bool × State :=
  if light then
    (List.range 4).foldl (fun (a : Image × Bool × State) n =>
      let x := a.2.2.inject 0x02 (hitLine ((tile * 64 + leaf) * 4 + n)) (512 + 8 * (lightSpare n).2 + 40)
      (a.1 ^^^ BitVec.ofNat 2560 (lightMask n x.1.mask), a.2.1 || x.1.fired, x.2)) (errs, false, s)
  else
    let x := s.inject 0x01 (hitLeaf tile leaf) 2560
    (errs ^^^ BitVec.ofNat 2560 x.1.mask, x.1.fired, x.2)

/-- A leaf of a logical tile is decoded and checked (R105, R382, R412): `img` is what is stored, `errs` the wrong bits of the
read. The Bool says that an injection took part. DESIGN CHOICE, log 92. -/
def State.checkLeaf (s : State) (tile leaf ch : Nat) (img errs : Image) : LeafRes × Bool × State :=
  let light := s.tileLight tile
  let x := s.injectLeaf tile leaf light errs
  let ga := s.readGa tile leaf
  if decodes light x.1 = false then (.bad, x.2.1, x.2.2.addSat D.MED_CHERR_uncorr 1 ch)
  else
    let t := x.2.2.inject 0x03 (hitLeaf tile leaf) 32
    let tag := imgBytes img 256 4 ^^^ t.1.mask
    let n := corrected light x.1
    let s1 := if 0 < n then t.2.addSat D.MED_CHERR_corr 1 ch else t.2
    if tag ≠ 2 ^ 31 + tile then
      (.bad, x.2.1 || t.1.fired,
        (s1.addSat D.MED_CHERR_uncorr 1 ch).log E.MED_TAG_MISMATCH ch (tag % 65536) ga t.1.fired)
    else
      let m := if n = 0 then s1.inject 0x04 (hitLeaf tile leaf) 2048 else (⟨0, false⟩, s1)
      match m.2.baseKey tile with
      | none => (.bad, false, m.2.addSat D.MED_CHERR_uncorr 1 ch)
      | some k =>
        if macOk k tile leaf img ∧ m.1.mask = 0 then (.good (imagePlain k tile leaf img) n, false, m.2)
        else
          let s2 := m.2.addSat D.MED_CHERR_uncorr 1 ch
          let s3 := if n = 0 then
            ((s2.wr D.CIP_ALARM_mediamac 1).addSat D.CIP_MACFAIL_media 1).log E.CIP_MEDIA_MAC 0 0 ga m.1.fired else s2
          (.bad, x.2.1 || m.1.fired, s3)

/-- The bins of the youngest and the oldest age that an epoch allows (R104, R121). DEDUCED, log 104. -/
def State.epochBins (s : State) (e : Nat) : Nat × Nat :=
  let d := (epochOf s.now + 2 ^ 16 - e) % 2 ^ 16
  let off := s.now % 2 ^ 42
  (ageBin (if d = 0 then 0 else (d - 1) * 2 ^ 42 + off), ageBin (d * 2 ^ 42 + off))

/-- A leaf whose epoch falls more than one bin from the read's is reported (R121, R168). -/
def State.skewCheck (s : State) (r : MRead) (p b : Nat) (img : Image) : State :=
  let e := s.epochBins (imgBytes img 260 2)
  if e.2 + 1 < b ∨ b + 1 < e.1 then
    let d := dieKey p
    let x := s.die d
    let s1 := (s.log E.MED_DRIFT_SKEW d e.1 (s.readGa r.tile r.leaf)).setTile p { s.tile p with refresh := true }
    let s2 := s1.setDie d { x with skews := x.skews + 1 }
    if x.skews + 1 = 16 then { s2 with med := { s2.med with driftDue := s2.med.driftDue ++ [d] } } else s2
  else s

/-- A leaf recovered after a failure is counted and rewritten (R122 step 4); one rewritten within the last 24 h retires its
tile (Table 5.8). DEDUCED, log 95. -/
def State.recovered (s : State) (p n : Nat) (img : Image) (quiet : Bool) : State :=
  let s1 := s.addSat D.CON_ERRCNT_recovered 1
  let t := SMap.get 0 s1.med.recov (p * 64 + n)
  if t ≠ 0 ∧ s1.now < t + 86400000000000 ∧ quiet = false then s1.retireTile p 1
  else if s1.med.updates.any (fun u => u.names u.member p n) then s1
  else
    let st := stripeOf p
    { s1 with med := { s1.med with
        recov := SMap.put 0 s1.med.recov (p * 64 + n) s1.now
        updates := s1.med.updates ++ [⟨st, n, none, memberOf p, img, s1.imageNow (tileOfMember st (s1.stripe st).ppos) n,
          false, true, 0⟩] } }

/-! The partitions' array reads (R100, R123 to R125). -/

/-- A read's name. -/
def MRead.key (r : MRead) : Nat := r.tile * 64 + r.leaf

/-- Whether a member of a read's stripe is served from the channel buffers: its leaf is of an open update (R129). -/
def State.fromBuffer (s : State) (r : MRead) (j : Nat) : Bool :=
  s.med.updates.any (fun u => u.names u.member (tileOfMember (stripeOf (s.readPlace r)) j) r.leaf ||
    u.names (s.stripe u.stripe).ppos (tileOfMember (stripeOf (s.readPlace r)) j) r.leaf)

/-- Whether a read wants an array read of a partition: its own leaf's, or a source's that is not served from a buffer. -/
def State.wantsArray (s : State) (k : Nat) (r : MRead) : Bool :=
  match r.path with
  | .direct => decide (partKey (s.readPlace r) = k)
  | .recon => r.need.any (fun j => decide (memberPart (s.readPlace r) j = k) && !s.fromBuffer r j)
  | _ => false

/-- Whether a read has priority 1: an admitted BOUNDED read, or a reconstruction (R123, R127). -/
def MRead.first (r : MRead) : Bool := decide (r.path = .recon) || !r.adm.isEmpty

/-- Suspends a partition's write (R125): the suspension is counted, beyond maxsusp in MED_SUSP. -/
def State.suspend (s : State) (k : Nat) : State :=
  let p := s.part k
  if p.op ≠ .writing ∨ p.commit ∨ p.locked then s
  else
    let s1 := (s.tChan (k / 64) 0x04 1).setPart k { p with op := .suspended, susp := p.susp + 1 }
    if s.rd D.MED_SCHED_maxsusp < p.susp + 1 then s1.addWrap D.MED_SUSP_count 1 else s1

/-- The share of writes where BEST reads wait as well, in percent (R124, Table 4.13). -/
def State.writeShare (s : State) : Nat :=
  let lo := s.rd D.MED_SCHED_wsharemin
  let m := s.rd D.PWR_PGSTAT_mode
  if 1 ≤ m ∧ m ≤ 3 then max lo (s.rd D.MED_SCHED_wsharemax) else lo

/-- Partitions of a channel whose next write could start now. -/
def State.writeReady (s : State) (c : Nat) : List Nat :=
  (s.med.updates.flatMap (fun u =>
    (if u.dataDone then [] else [partKey (tileOfMember u.stripe u.member)]) ++
      (if u.parDone then [] else [partKey (tileOfMember u.stripe (s.stripe u.stripe).ppos)]))).filter
    (fun k => decide (k / 64 = c ∧ (s.part k).op = .idle) && !s.arrayRead k && !s.lostPart k && !s.noWrite k &&
      (decide (s.rd D.CON_DIE_nosusp (k / 8) = 0) || decide (SMap.find s.med.tokens (rowOfPart k) = some k)))

/-- Whether the next bus slot of a channel is a write's: its share adds up from slot to slot.
DESIGN CHOICE, log 168. -/
def State.writeTurn (s : State) (c : Nat) : Bool := decide (100 ≤ (s.chan c).share + s.writeShare)

/-- A slot has gone to a write or to a BEST read while both waited. -/
def State.shareTaken (s : State) (c : Nat) (write : Bool) : State :=
  let x := s.chan c
  s.setChan c { x with share := if write then x.share + s.writeShare - 100 else x.share + s.writeShare }

/-- A partition's array read of a read begins. -/
def State.arrayStart (s : State) (k : Nat) (r : MRead) : State := s.setPart k { s.part k with reader := some r.key }

/-- A partition with no array read takes the next one (R100, R123): reads of priority 1 first, which suspend a write that can be;
a write with its token next; then a BEST read, unless the slot is a write's. -/
def State.servePart (s : State) (k : Nat) : State :=
  let p := s.part k
  let l := s.med.reads.filter (s.wantsArray k)
  if s.arrayRead k ∨ s.lostPart k then s
  else match l.find? MRead.first with
    | some r => if p.op = .writing then (if p.commit ∨ p.locked then s else (s.suspend k).arrayStart k r) else s.arrayStart k r
    | none => match l.head? with
      | none => s
      | some r =>
        if p.op = .writing then s
        else if p.op = .idle ∧ (s.writeReady (k / 64)).contains k ∧ SMap.find s.med.tokens (rowOfPart k) = some k then s
        else if p.op = .idle ∧ s.writeReady (k / 64) ≠ [] then
          (if s.writeTurn (k / 64) then s else (s.shareTaken (k / 64) false).arrayStart k r)
        else s.arrayStart k r

/-- Every partition of a channel on which a read waits is served. -/
def State.serveChan (s : State) (c : Nat) : State :=
  (((s.med.reads.filter (fun r => decide (r.path = .direct))).map (fun r => partKey (s.readPlace r))).filter
    (fun k => decide (k / 64 = c))).foldl State.servePart s

/-- A partition's array read ends: the suspension that made room for it is lifted (R125), and the next one begins. -/
def State.arrayEnd (s : State) (k : Nat) : State :=
  let p := s.part k
  (s.setPart k { p with reader := none, op := if p.op = .suspended then .writing else p.op }).servePart k

/-- Whether a partition's array read is a read's. -/
def State.holdsArray (s : State) (k : Nat) (r : MRead) : Bool := decide ((s.part k).reader = some r.key)

/-! Routing (R122, R128, R129). -/

/-- Reconstruction begins: one sub-read to each other member (R129); it waits in a stripe under excision (R162), or while a
source is unavailable. DESIGN CHOICE, log 169. -/
def State.startRecon (s : State) (r : MRead) (adm : Bool) : State :=
  let p := s.readPlace r
  let os := s.others p
  if (s.stripe (stripeOf p)).exposed.isSome ∨ os.any (fun j => s.unavail (memberPart p j)) then
    s.setRead { r.mark lateDouble with path := .waiting, adm := [] }
  else
    os.foldl (fun (a : State) j => a.servePart (memberPart p j))
      ((s.setRead { r with path := .recon, need := os, acc := 0, reconTried := true,
                           adm := if adm then os.map (memberPart p) else [] }).addWrap D.MED_RECON_count 1 |>.tChan (chanOf p) 0x03 1)

/-- The direct read begins; it waits for its partition. -/
def State.startDirect (s : State) (r : MRead) (adm : Bool) : State :=
  let p := s.readPlace r
  (s.setRead { r with path := .direct, adm := if adm then [partKey p] else [],
                      tried := if r.tried = [] then [s.firstBin p] else r.tried }).servePart (partKey p)

/-- A read meets two members of its row that cannot return: poison at once (R128, R176). -/
def State.readDouble (s : State) (r : MRead) : State := (s.loseLeaf r.tile r.leaf).readEnds (r.mark lateDouble) none false

/-- A BOUNDED read is routed (R128). -/
def State.routeBounded (s : State) (left : List (Nat × Nat)) (r : MRead) : State :=
  let p := s.readPlace r
  let k := partKey p
  let row := rowOf (stripeOf p)
  let os := s.others p
  let away := s.unavail k && decide (2 ≤ (s.rowUnavail row).length)
  if away then
    if s.lostPart k ∧ (s.rowUnavail row).all (fun j => s.lostPart (partOfRow row j)) then s.readDouble r
    else s.setRead { r.mark lateDouble with path := .waiting, adm := [] }
  else if s.chanAdmits k = false then
    let r' := r.mark lateOverload
    if s.unavail k then s.startRecon r' false else s.startDirect r' false
  else if s.soon left k ∧ s.partAdmits k then s.startDirect r true
  else if (s.stripe (stripeOf p)).exposed.isNone ∧ os.all (fun j =>
      s.soon left (memberPart p j) && s.chanAdmits (memberPart p j) && s.partAdmits (memberPart p j)) then s.startRecon r true
  else
    let cause := if 2 ≤ (s.rowUnavail row).length ∨ (s.stripe (stripeOf p)).exposed.isSome then lateDouble else lateOverload
    let r' := r.mark cause
    if s.unavail k then s.startRecon r' false else s.startDirect r' false

/-- A BEST read is routed: it reconstructs only when its target is unavailable (R130). -/
def State.routeBest (s : State) (r : MRead) : State :=
  let p := s.readPlace r
  let k := partKey p
  let row := rowOf (stripeOf p)
  if s.unavail k then
    if s.lostPart k ∧ 2 ≤ (s.rowUnavail row).length ∧ (s.rowUnavail row).all (fun j => s.lostPart (partOfRow row j)) then
      s.readDouble r
    else s.startRecon r false
  else s.startDirect r false

/-! Ends of reads and sub-reads. -/

/-- The next step of R122 for a read whose attempts so far have failed; a recovery's sub-reads take no admission. A source that
cannot return ends the reconstruction before it begins; a target in a pause is waited for. DEDUCED, log 170. -/
def State.readNext (s : State) (r : MRead) (fired slow : Bool) : State :=
  let p := s.readPlace r
  let k := partKey p
  let done := r.reconTried || (s.others p).any (fun j => s.lostPart (memberPart p j))
  if r.bounded ∧ done = false then s.startRecon r false
  else match (s.binsOf p).filter (fun b => !r.tried.contains b) with
    | b :: _ =>
      if s.unavail k = false then s.startDirect { r with tried := r.tried ++ [b], need := [] } false
      else if done = false then s.startRecon r false
      else if s.lostPart k then s.readLost r fired slow
      else s.setRead { r with path := .waiting, adm := [], need := [] }
    | [] => if done then s.readLost r fired slow else s.startRecon r false

/-- What follows a failed attempt (R122). -/
def State.readFailed (s : State) (r : MRead) (fired slow : Bool) : State := s.readNext (r.mark lateMedia) fired slow

/-- A direct read that waits, or whose partition is lost: its target has become unavailable. -/
def State.strandedRead (s : State) (r : MRead) : Bool :=
  let k := partKey (s.readPlace r)
  decide (r.path = .direct) && s.unavail k && (s.lostPart k || !s.holdsArray k r)

/-- MEDIA_READ_REQUEST (R119, R122, R128): a read queued, one that has waited for a pause, or one whose target has become
unavailable reaches its target channel; `left` gives the time that operations have left, by partition. A direct read that
waits is served. -/
def execMediaReadRequest (tile : Fin 536870912) (leaf : Fin 64) (left : List (Nat × Nat)) (s : State) : Result :=
  match s.mread tile leaf with
  | none => .next s
  | some r =>
    if r.path = .waiting ∧ r.tried ≠ [] then .next (s.readNext r false true)
    else if r.path = .queued ∨ r.path = .waiting ∨ s.strandedRead r then
      .next (if r.bounded then s.routeBounded left r else s.routeBest r)
    else if r.path = .direct then .next (s.servePart (partKey (s.readPlace r)))
    else .next s

/-- The decoded leaf lies in its channel's buffer, a structure of R407, until its lines are sent: whether its line code is good.
The buffer holds clean data, which is fetched again. The check stands for the leaf's first line.
DESIGN CHOICE, log 184. -/
def State.bufferRead (s : State) (tile leaf p : Nat) (b : BitVec 2048) : Bool × State :=
  let x := s.checkStruct 4 (chanOf p) (s.glOf ((tile * 64 + leaf) * 4)) (b.setWidth 512) Flips.none
  (x.1.isSome, x.2)

/-- LEAF_READ_DONE (R100, R105, R119, R121, R122, R132, R382): the array read that runs for a leaf ends. `errs` are the wrong bits of the read, `slow` says that the media
stage exceeded 1,855 ns. -/
def execLeafReadDone (tile : Fin 536870912) (leaf : Fin 64) (errs : Image) (slow : Bool) (s : State) : Result :=
  match s.mread tile leaf with
  | none => .next s
  | some r =>
    let p := s.readPlace r
    let k := partKey p
    if r.path ≠ .direct ∨ s.lostPart k ∨ s.holdsArray k r = false then .next s
    else
      let s0 := s.countRead p
      let img := s0.imageNow p leaf
      match s0.checkLeaf tile leaf (chanOf p) img errs with
      | (.good b _, fired, s1) =>
        let x := s1.bufferRead tile leaf p b
        let s2 := if 1 < r.tried.length ∨ r.reconTried then x.2.recovered p leaf img (x.2.quarantined fired) else x.2
        if x.1 = false then .next ((s2.setRead { r with path := .waiting, tried := [] }).arrayEnd k)
        else .next (((s2.skewCheck r p (r.tried.headD 0) img).readEnds r (some b) slow).arrayEnd k)
      | (.bad, fired, s1) => .next (((s1.setRead { r with path := .waiting }).arrayEnd k).readFailed r fired slow)

/-- RECONSTRUCT_SOURCE_DONE (R129): a source member returns; `errs` are the wrong bits of its attempts, in order. A source that
no attempt decodes ends the reconstruction. -/
def execReconstructSourceDone (tile : Fin 536870912) (leaf : Fin 64) (member : Fin 16) (errs : List Image) (slow : Bool)
    (s : State) : Result :=
  match s.mread tile leaf with
  | none => .next s
  | some r =>
    let p := s.readPlace r
    let q := tileOfMember (stripeOf p) member
    let buf := s.fromBuffer r member
    if r.path ≠ .recon ∨ r.need.contains member.val = false ∨ (buf = false ∧ s.holdsArray (partKey q) r = false) then .next s
    else
      let light := (s.stripe (stripeOf p)).light
      let tries := if buf then [] else errs.take (s.binsOf q).length
      let done (a : State) : State := if buf then a else a.arrayEnd (partKey q)
      let s0 := if buf then s else (max 1 tries.length).repeat (fun a => a.countRead q) s
      let lateOne : Bool := match tries with
        | e :: _ => !decodes light e
        | [] => false
      let r0 := if lateOne then r.mark lateMedia else r
      if tries ≠ [] ∧ tries.all (fun e => !decodes light e) then
        .next ((done (((s0.addSat D.MED_CHERR_uncorr 1 (chanOf q)).log E.MED_UNCORR (chanOf q) 1 (s0.readGa tile leaf)).setRead
          { r0 with need := [] })).readFailed { r0 with need := [] } false slow)
      else
        let s1 := if lateOne then s0.recovered q leaf (s0.image q leaf) false else s0
        let r1 := { r0 with need := r0.need.filter (fun j => j ≠ member.val), acc := r0.acc ^^^ s1.imageNow q leaf,
                            adm := r0.adm.filter (fun k => k ≠ partKey q) }
        let s1' := done (s1.setRead r1)
        if r1.need ≠ [] then .next s1'
        else match s1'.checkLeaf tile leaf (chanOf p) r1.acc 0 with
          | (.good b _, fired, s2) =>
            let s3 := if r.tried = [] then s2 else s2.recovered p leaf r1.acc (s2.quarantined fired)
            .next ((s3.skewCheck r1 p (r.tried.headD (s.firstBin p)) r1.acc).readEnds r1 (some b) slow)
          | (.bad, fired, s2) => .next (s2.readFailed r1 fired slow)

/-- The partition whose write a read has suspended and waits for: its own, or a source's (R130). -/
def State.missPart (s : State) (r : MRead) : Option Nat :=
  let p := s.readPlace r
  let ks := match r.path with
    | .direct => [partKey p]
    | .recon => r.need.map (memberPart p)
    | _ => []
  ks.find? (fun k => decide ((s.part k).op = .suspended) && s.holdsArray k r)

/-- PAUSE_MISS (R130, R169, point 0x06): a read's suspend has not freed its partition within 300 ns. A direct BOUNDED read
leaves the partition, whose write goes on, and reconstructs; a source's sub-read waits on. -/
def execPauseMiss (tile : Fin 536870912) (leaf : Fin 64) (s : State) : Result :=
  match s.mread tile leaf with
  | none => .next s
  | some r =>
    match s.missPart r with
    | none => .next s
    | some k =>
      let x := s.inject 0x06 (hitInst (k / 64) (k / 8 % 8)) 0
      let s1 := (x.2.log E.MED_PAUSE_MISS (k / 64) (k / 8 % 8) 0 x.1.fired).pauseMissed (k / 8) (x.2.quarantined x.1.fired)
      let r1 := r.mark latePauseMiss
      .next (if r.path = .direct ∧ r.bounded then
          ((s1.setPart k { s1.part k with reader := none, op := .writing }).setRead { r1 with path := .waiting }).startRecon r1 false
        else s1.setRead r1)

/-- BESTWAIT_EXPIRE (R124): a BEST read that has waited for a writing partition suspends its write, and is read next. -/
def execBestwaitExpire (tile : Fin 536870912) (leaf : Fin 64) (s : State) : Result :=
  match s.mread tile leaf with
  | none => .next s
  | some r =>
    let k := partKey (s.readPlace r)
    let p := s.part k
    .next (if r.path = .direct ∧ r.adm = [] ∧ p.op = .writing ∧ p.commit = false ∧ p.locked = false ∧ s.arrayRead k = false
      then (s.suspend k).arrayStart k r else s)

end Sys2Proof.Machine
end

