-- ==== Sys2Proof/Machine/MediaWrite.lean ====
section
/-! DEFINITION. The journal and its checkpoints (R112 to R116), writing in place (R133, R134), row tokens (R125, R126) and channel
pauses (R141 to R143). -/

namespace Sys2Proof.Machine

/-! The journal (R112 to R116). -/

/-- Entries the journal ring holds. -/
def journalEntries : Nat := 67108864

/-- S of the newest complete checkpoint, 0 where there is none. -/
def State.ckptS (s : State) : Nat := (s.med.copies.filter (fun e => e.2.complete)).foldl (fun a e => max a e.2.s) 0

/-- Entries on media that no checkpoint covers. -/
def State.uncovered (s : State) : Nat := s.rd D.MED_JRNLSEQ_seq + 1 - max 1 s.ckptS

/-- Whether the next journal leaf would take the place of the one that holds S (R115, R116). -/
def State.journalFull (s : State) : Bool :=
  decide (8388608 ≤ s.rd D.MED_JRNLSEQ_seq / 8 - (max 1 s.ckptS - 1) / 8)

/-- Entries of 1 GiB of journal (R115). -/
def ckptEntries : Nat := 33554432

/-- Keeps MED_JRNLFILL. -/
def State.journalFill (s : State) : State := s.wr D.MED_JRNLFILL_pct (min 100 (100 * s.uncovered / journalEntries))

/-- Staging lines of a leaf that have been written, or of a whole tile, leave staging; their charges end where nothing else
holds them (R112, R133). -/
def State.dropStaged (s : State) (p : Nat → Bool) : State :=
  let gone := (s.med.stg.filter (fun e => p e.1 && !e.2.dirty)).map Prod.fst
  let s1 : State := { s with med := { s.med with stg := SMap.keep (fun k v => !(p k && !v.dirty)) s.med.stg } }
  gone.foldl (fun a ll => a.releaseClean (a.glOf ll)) s1

/-- Something that waited for the journal happens (R112). -/
def State.doRelease (s : State) (r : Release) : State :=
  match r with
  | .leaf t n => s.dropStaged (fun ll => decide (ll / 4 = t * 64 + n))
  | .tile t =>
    let s1 := s.dropStaged (fun ll => decide (tileOf ll = t))
    (s1.coh.chg.filter (fun e => s1.isLocal e.1 && decide (tileOf (llOf e.1) = t))).foldl
      (fun (a : State) (e : Nat × Nat) => a.releaseClean e.1) s1
  | .phys p => s.freeTile p
  | .moveEnd _ => s
  | .region n => { s with rops := s.rops.map (fun o => if o.region = n then { o with unmapped := true } else o) }

/-- Applies the groups whose last entry is among the entries just written (R114). -/
def State.applyWritten (s : State) (l : List JEnt) : State :=
  l.foldl (fun a e =>
    if e.gindex + 1 = e.gcount then
      (List.range e.gcount).foldl (fun b i => match SMap.find b.med.jrnl (e.seq + 1 + i - e.gcount) with
        | some x => b.applyJ x
        | none => b) a
    else a) s

/-- The entries of the next journal leaf: pending ones, filled with PAD to eight (R113). -/
def State.journalLeaf (s : State) : List JEnt × Nat :=
  let l := s.med.jpend.take 8
  let pads := if s.med.jpend.length < 8 then 8 - l.length else 0
  (l ++ (List.range pads).map (fun i => ⟨s.med.jnext + i, 0x0A, 1, 0, 0, 0, 0⟩), s.med.jnext + pads)

/-- A checkpoint starts (R115): the CKPT entry names the older copy, an incomplete one before a complete one; nothing while one
runs. -/
def State.checkpoint (s : State) : State :=
  if s.med.ckpt.isSome then s
  else
    let age (k : Nat) : Nat := match SMap.find s.med.copies k with
      | some c => if c.complete then c.s + 1 else 0
      | none => 0
    let k := if age 1 < age 0 then 1 else 0
    let s1 := (s.journal 9 0 k 0).wr D.MED_CKPT_running 1
    { s1 with med := { s1.med with ckpt := some (k, s.med.jnext), copies := SMap.ins s1.med.copies k ⟨s.med.jnext, false, []⟩ } }

/-- JOURNAL_WRITE (R112, R113, R115, R116): one journal leaf; with the journal full every change waits, and with 1 GiB of it not
covered a checkpoint starts. -/
def State.journalWrite (s : State) : State :=
  if s.med.jpend = [] then s
  else if s.journalFull then s.log E.MED_JRNL_FULL 0 0 (s.rd D.MED_JRNLSEQ_seq)
  else
    let x := s.journalLeaf
    let last := (x.1.getLast?.map JEnt.seq).getD 0
    let s1 : State := { s with med := { s.med with
      jrnl := x.1.foldl (fun a e => SMap.ins a e.seq e) s.med.jrnl, jpend := s.med.jpend.drop 8, jnext := x.2 } }
    let s2 := ((s1.wr D.MED_JRNLSEQ_seq last).applyWritten x.1).journalFill
    let due := s2.med.rels.filter (fun e => decide (e.1 ≤ last))
    let s3 : State := { s2 with med := { s2.med with rels := s2.med.rels.filter (fun e => !(decide (e.1 ≤ last))) } }
    let s4 := due.foldl (fun a e => a.doRelease e.2) s3
    let s5 := if x.1.any (fun e => decide (e.type = 1 ∨ e.type = 2)) then s4.spareCheck else s4
    if ckptEntries ≤ s5.uncovered then s5.checkpoint else s5

/-- JOURNAL_WRITE (R113). -/
def execJournalWrite (s : State) : Result := .next s.journalWrite

/-- CHECKPOINT (R115). -/
def execCheckpoint (s : State) : Result := .next s.checkpoint

/-- CHECKPOINT_DONE (R115): the copy and its header are on media, and journal leaves below S become free. -/
def execCheckpointDone (s : State) : Result :=
  match s.med.ckpt with
  | none => .next s
  | some (k, q) =>
    if s.rd D.MED_JRNLSEQ_seq < q then .next s
    else
      let s1 : State := { s with med := { s.med with
        ckpt := none, copies := SMap.ins s.med.copies k ⟨q, true, s.med.cat⟩
        jrnl := SMap.keep (fun i _ => decide ((q - 1) / 8 * 8 < i)) s.med.jrnl } }
      .next (((s1.wr D.MED_CKPT_running 0).wr D.MED_CKPT_copy k).wr D.MED_CKPT_s q).journalFill

/-! Writing in place (R133, R134). -/

/-- Whether a tile is written in place: a system tile, or a tile of a region without append. -/
def State.inPlace (s : State) (t : Nat) : Bool := isSysTile t || !(s.attrOf (s.glOf (t * 256))).append

/-- Dirty staging lines of a leaf. -/
def State.dirtyOfLeaf (s : State) (t n : Nat) : List Nat :=
  (s.med.stg.filter (fun e => decide (e.1 / 4 = t * 64 + n) && e.2.dirty)).map Prod.fst

/-- Whether an update is open at a stripe's leaf position (R134). -/
def State.updating (s : State) (st n : Nat) : Bool := s.med.updates.any (fun u => decide (u.stripe = st ∧ u.pos = n))

/-- Plaintext of a mapped leaf as it is stored, zero where it is not written; none where it cannot be read. -/
def State.leafPlain (s : State) (t n : Nat) : Option (BitVec 2048) :=
  let e := s.catEnt t
  if e.st = .unmapped ∨ e.written.getLsbD n = false then some 0
  else
    let img := s.imageNow e.phys n
    match s.baseKey t with
    | none => none
    | some k => if tagOk t img && macOk k t n img then some (imagePlain k t n img) else none

/-- Whether the other members of a physical leaf's stripe can rebuild it now. -/
def State.othersUp (s : State) (p : Nat) : Bool :=
  (s.stripe (stripeOf p)).exposed.isNone && (s.others p).all (fun j => !s.unavail (memberPart p j))

/-- The image that the read of R133 step 2 or step 4 gives: as stored, or reconstructed where it does not decode. -/
def State.rmwImage (s : State) (p n : Nat) (errs : Image) : Image :=
  if decodes (s.stripe (stripeOf p)).light errs then s.imageNow p n else s.xorOthers (stripeOf p) (memberOf p) n

/-- The plaintext of an old leaf for its write-back (R133 step 2): zero where it is not written, decoded, or reconstructed; none
where neither gives it. -/
def State.oldPlain (s : State) (t n : Nat) (errs : Image) : Option (BitVec 2048) :=
  let e := s.catEnt t
  if e.st = .unmapped ∨ e.written.getLsbD n = false then some 0
  else match (if decodes (s.stripe (stripeOf e.phys)).light errs then s.leafPlain t n else none), s.baseKey t with
    | some b, _ => some b
    | none, none => none
    | none, some k =>
      let img := s.xorOthers (stripeOf e.phys) (memberOf e.phys) n
      if s.othersUp e.phys && tagOk t img && macOk k t n img then some (imagePlain k t n img) else none

/-- A read of a write-back that fails is counted: a first-attempt failure, and a leaf recovered (R122 step 4). -/
def State.rmwCount (s : State) (p : Nat) (errs : Image) : State :=
  let s1 := s.countRead p
  if decodes (s.stripe (stripeOf p)).light errs then s1
  else (s1.addSat D.MED_CHERR_uncorr 1 (chanOf p)).addSat D.CON_ERRCNT_recovered 1

/-- A plaintext with the staged lines of the leaf merged in. -/
def State.mergeStaged (s : State) (t n : Nat) (b : BitVec 2048) : BitVec 2048 :=
  (List.range 4).foldl (fun (a : BitVec 2048) k =>
    match SMap.find s.med.stg ((t * 64 + n) * 4 + k) with
    | some e =>
      let old : Line := (a >>> (512 * k)).setWidth 512
      let new := merge old e.data e.mask
      a ^^^ (((old ^^^ new).setWidth 2048) <<< (512 * k))
    | none => a) b

/-- The tile a write-back goes to: the one mapped, or a new one with its MAP or WRITTEN entry (R133 step 1). The Nat is the
journal entry that the leaf's release waits for. -/
def State.placeFor (s : State) (t n pick : Nat) : Option (Nat × Nat × State) :=
  let e := s.catEnt t
  let due := (s.med.jpend.filter (fun j => decide (j.tile = t ∧ (j.type = 1 ∨ j.type = 3)))).getLast?
  match e.st with
  | .unmapped =>
    match s.med.jpend.find? (fun j => decide (j.tile = t ∧ j.type = 1)) with
    | some j =>
      let s1 := s.journal 3 t (2 ^ n) 0
      some (j.arg0, s.med.jnext, s1)
    | none =>
      (s.allocTile (s.tileLight t) pick).map (fun x => (x.1, x.2.med.jnext, (x.2.journal 1 t x.1 (2 ^ n)).spareCheck))
  | _ =>
    if e.written.getLsbD n then some (e.phys, (due.map JEnt.seq).getD 0, s)
    else some (e.phys, s.med.jnext, s.journal 3 t (2 ^ n) 0)

/-- Steps 2 to 4 of R133: the new data and parity images, and the update opened; `errs` and `perrs` are the wrong bits of the
reads of the old data and of the old parity. -/
def State.openUpdate (s : State) (t n p seq : Nat) (plain : BitVec 2048) (errs perrs : Image) : Option State :=
  (s.baseKey t).map (fun k =>
    let st := stripeOf p
    let par := tileOfMember st (s.stripe st).ppos
    let old := s.rmwImage p n errs
    let new := buildImage k (s.stripe st).light t n s.now plain
    let s1 := (s.rmwCount p errs).rmwCount par perrs
    let s2 : State := { s1 with med := { s1.med with
      stg := SMap.mapVal (fun ll e => if ll / 4 = t * 64 + n then { e with dirty := false } else e) s1.med.stg
      updates := s1.med.updates ++ [⟨st, n, some t, memberOf p, new, s.rmwImage par n perrs ^^^ old ^^^ new, false, false, seq⟩] } }
    match SMap.find s2.med.moves t with
    | some m => { s2 with med := { s2.med with moves := SMap.ins s2.med.moves t { m with recopy := m.recopy ||| BitVec.ofNat 64 (2 ^ n) } } }
    | none => s2)

/-- Whether write-back of a tile is held in staging: a forced move, or one that has journalled MOVE_END (R156, R157). -/
def State.heldTile (s : State) (t : Nat) : Bool :=
  match SMap.find s.med.moves t with
  | some m => m.forced || m.ended
  | none => s.unmapDue t || s.med.cat.any (fun e => decide (e.1 = t) && (s.tile e.2.phys).forced)

/-- Whether a write-back to a physical leaf waits: an update is open at its position (R134), its member or the parity member is
unavailable (R141), or its stripe is under excision (R162). -/
def State.writeWaits (s : State) (p n : Nat) : Bool :=
  s.updating (stripeOf p) n || s.unavail (partKey p) || (s.stripe (stripeOf p)).exposed.isSome ||
    s.unavail (memberPart p (s.stripe (stripeOf p)).ppos)

/-- A leaf's write-back in place; lines with poison in staging are lost and left out. -/
def State.writeBack (s : State) (t n pick : Nat) (errs perrs : Image) : State :=
  if s.dirtyOfLeaf t n = [] ∨ s.inPlace t = false ∨ s.heldTile t then s
  else
    let bad := (s.med.stg.filter (fun e => decide (e.1 / 4 = t * 64 + n) && e.2.poison)).map Prod.fst
    let s0 := bad.foldl (fun (a : State) ll =>
      ({ a with med := { a.med with stg := SMap.del a.med.stg ll } } : State).losePoisoned (a.glOf ll)) s
    if s0.dirtyOfLeaf t n = [] then s0
    else match s0.oldPlain t n errs, s0.placeFor t n pick with
      | some b, some (p, seq, s1) =>
        if s1.writeWaits p n then s0
        else (s1.openUpdate t n p seq (s1.mergeStaged t n b) errs perrs).getD s0
      | none, some (p, seq, s1) =>
        if s1.writeWaits p n ∨ (s1.others p).any (fun j => s1.unavail (memberPart p j) && !s1.lostPart (memberPart p j)) then s0
        else (((s1.loseLeaf t n).openUpdate t n p seq (s1.mergeStaged t n 0) errs perrs).getD s0)
      | _, none => s0

/-- Whether step 8 of a flush has come to a leaf: the stripe builders are written, and no lower leaf is still dirty (R82).
DEDUCED, log 27. -/
def State.leafTurn (s : State) (t n : Nat) : Bool :=
  decide (s.med.builders = []) && !s.med.stg.any (fun e => e.2.dirty && !s.unmapDue (tileOf e.1) &&
    (!s.inPlace (tileOf e.1) || decide (e.1 / 4 < t * 64 + n)))

/-- A leaf of the grant table is written to its system tile, the table taken from the first system tile on (R110): the lines of the
table that it holds are on media (R209, Table 3.3). -/
def State.grantLeaf (s : State) (k leaf : Nat) : State :=
  ({ s with coh := { s.coh with gdirty := s.coh.gdirty.filter (fun l => l / 4 ≠ k * 64 + leaf) } } : State).govern

/-- INPLACE_WRITEBACK (R82, R133, R134, R209): `pick` is the stripe the conservator chooses where no INUSE stripe serves, with the
wrong bits of the reads of the old data and of the old parity. -/
def execInplaceWriteback (tile : Fin 536870912) (leaf : Fin 64) (pick : Fin 33554432 × Image × Image)
    (s : State) : Result :=
  .next (if s.atStep 8 ∧ s.leafTurn tile leaf = false then s
    else if isSysTile tile then s.grantLeaf (tile.val - 469762048) leaf
    else s.writeBack tile leaf pick.1 pick.2.1 pick.2.2)

/-! Writes on a partition. -/

/-- The image that waits to be written to a physical leaf, of the update open at its position: the oldest one, the rewrite of
a recovered leaf waiting behind it (R134). -/
def State.pendingImage (s : State) (p n : Nat) : Option Image :=
  match s.med.updates.find? (fun u => decide (u.stripe = stripeOf p ∧ u.pos = n)) with
  | none => none
  | some u =>
    if u.dataDone = false ∧ u.names u.member p n then some u.newData
    else if u.parDone = false ∧ u.names (s.stripe u.stripe).ppos p n then
      some (if u.tile.isNone then s.image p n else u.newPar)
    else none

/-- Whether a read of priority 1 waits for a partition (R123). -/
def State.firstWaits (s : State) (k : Nat) : Bool := s.med.reads.any (fun r => r.first && s.wantsArray k r)

/-- Whether a BEST read waits at a channel with its partition idle (R124). -/
def State.bestWaits (s : State) (c : Nat) : Bool :=
  s.med.reads.any (fun r =>
    let k := partKey (s.readPlace r)
    decide (r.path = .direct ∧ k / 64 = c ∧ (s.part k).op = .idle) && !r.first && !s.holdsArray k r && !s.unavail k)

/-- Starts the write of a physical leaf: on a die with nosusp only under its row's token, and then locked (R169). A die whose
writes are deferred for temperature starts none (R142, R475). It waits for reads of priority 1, and for its share of the
channel's slots while BEST reads wait (R123, R124). -/
def State.startWrite (s : State) (p n : Nat) : State :=
  let k := partKey p
  let x := s.part k
  let nosusp := s.rd D.CON_DIE_nosusp (k / 8) = 1
  match s.pendingImage p n with
  | none => s
  | some i =>
    let token := SMap.find s.med.tokens (rowOfPart k) = some k
    let best := s.bestWaits (k / 64)
    if x.op ≠ .idle ∨ s.arrayRead k ∨ s.unavail k ∨ s.noWrite k ∨ s.firstWaits k then s
    else if nosusp ∧ ¬ token then s
    else if best ∧ ¬ token ∧ s.writeTurn (k / 64) = false then s
    else
      let s1 := s.setPart k { x with op := .writing, reader := none, commit := false, locked := nosusp, susp := 0,
                                     wleaf := p * 64 + n, wimg := i }
      if best then ((if token then s1 else s1.shareTaken (k / 64) true)).serveChan (k / 64) else s1

/-- ROW_TOKEN_GRANT (R125, R126, R169): a write suspended maxsusp times, or a write due on a die with nosusp, gets its row's
token and is locked. -/
def execRowTokenGrant (part : Fin 2048) (s : State) : Result :=
  let k := part.val
  let x := s.part k
  let due := decide (x.op ≠ .idle ∧ s.rd D.MED_SCHED_maxsusp ≤ x.susp ∧ x.locked = false) ||
    (decide (x.op = .idle) && decide (s.rd D.CON_DIE_nosusp (k / 8) = 1))
  if due ∧ s.tokenFree (rowOfPart k) then
    let s1 := s.setPart k { x with locked := decide (x.op ≠ .idle), op := if x.op = .suspended ∧ s.arrayRead k = false then .writing else x.op }
    .next { s1 with med := { s1.med with tokens := SMap.ins s1.med.tokens (rowOfPart k) k } }
  else .next s

/-- A partition's write has ended; the partition is idle and takes its next read. -/
def State.partIdle (s : State) (k : Nat) : State :=
  ((s.setPart k { s.part k with op := .idle, commit := false, locked := false, susp := 0, wleaf := 0, wimg := 0 }).tokenDrop k).servePart k

/-- An update whose writes have both verified is closed, and its leaf leaves staging once the journal allows (R133 step 6). -/
def State.closeUpdate (s : State) (u : Update) : State :=
  let s1 : State := { s with med := { s.med with updates := s.med.updates.filter (fun v => !(decide (v.stripe = u.stripe ∧ v.pos = u.pos ∧ v.member = u.member))) } }
  match u.tile with
  | none => s1
  | some t =>
    if u.seq = 0 ∨ u.seq ≤ s1.rd D.MED_JRNLSEQ_seq then s1.doRelease (.leaf t u.pos)
    else { s1 with med := { s1.med with rels := s1.med.rels ++ [(u.seq, .leaf t u.pos)] } }

/-- A write has verified: the update it belongs to moves on. -/
def State.writeVerified (s : State) (p n : Nat) : State :=
  match s.med.updates.find? (fun u => (u.dataDone = false && u.names u.member p n) ||
      (u.parDone = false && u.names (s.stripe u.stripe).ppos p n)) with
  | none => s
  | some u =>
    let u' : Update := if u.dataDone = false ∧ u.names u.member p n then { u with dataDone := true } else { u with parDone := true }
    if u'.dataDone ∧ u'.parDone then s.closeUpdate u
    else { s with med := { s.med with updates := s.med.updates.map (fun v => if v = u then u' else v) } }

/-- A write has failed its verify (R133, R157, R160, R173): its leaf stays dirty in staging, the update ends, the tile is retired,
and a move of the tile's logical tile becomes forced. DEDUCED, log 93. -/
def State.writeFailed (s : State) (p n : Nat) (fired : Bool) : State :=
  let d := dieKey p
  let s1 := (s.addSat D.CON_ERRCNT_wvfail 1).log E.CON_WV_FAIL d (partOf p) p fired
  if s1.quarantined fired then s1
  else
    let mine (u : Update) : Bool := u.names u.member p n || u.names (s.stripe u.stripe).ppos p n
    let ts := ((s1.med.updates.filter mine).filterMap Update.tile)
    let s2 : State := { s1 with med := { s1.med with
      updates := s1.med.updates.filter (fun u => !mine u)
      stg := SMap.mapVal (fun ll e => if ts.any (fun t => decide (ll / 4 = t * 64 + n)) then { e with dirty := true } else e) s1.med.stg } }
    let s3 := (s2.retireTile p 0).dieFailed d
    match s3.logicalOf p with
    | some t => match SMap.find s3.med.moves t with
      | some m => { s3 with med := { s3.med with moves := SMap.ins s3.med.moves t { m with forced := true } } }
      | none => s3
    | none => s3

/-- LEAF_WRITE_DONE (R133, R83, R173, point 0x05): the partition's write ends with its verify; under quarantine an injected
failure is retried at the same leaf (R418). -/
def execLeafWriteDone (part : Fin 2048) (ok : Bool) (s : State) : Result :=
  let k := part.val
  let x := s.part k
  if x.op ≠ .writing then .next s
  else
    let p := x.wleaf / 64
    let n := x.wleaf % 64
    let i := s.inject 0x05 (hitInst (k / 8) (k % 8)) 0
    let s1 := i.2.putImage p n x.wimg
    if ok ∧ i.1.fired = false then .next (((s1.writeVerified p n).dieWorked (k / 8)).partIdle k)
    else .next ((s1.writeFailed p n (ok && i.1.fired)).partIdle k)

/-! Pauses (R141 to R143). -/

/-- A maintenance pause is requested (R141): by MED_CHCTL.pause, or by a firmware activation. -/
def State.pauseRequest (s : State) (c : Nat) (activation : Bool) : State :=
  let x := s.chan c
  if x.gone ∨ x.paused ∨ s.isFlushing then s
  else s.setChan c { x with want := true, activation := activation }

/-- CHANNEL_PAUSE_REQUEST (R141). -/
def execChannelPauseRequest (ch : Fin 32) (s : State) : Result :=
  .next ((if s.isFlushing then s else s.wr D.MED_CHCTL_pause 1 ch).pauseRequest ch false)

/-- A pause that holds the 64 tokens of its half takes effect (R141). -/
def State.pauseEnter (s : State) (c : Nat) : State :=
  let x := s.chan c
  let h := c / 16
  let rows := (List.range 64).map (fun r => h * 64 + r)
  if x.want = false ∨ x.paused ∨ s.isFlushing ∨ rows.any (fun r => SMap.has s.med.tokens r || decide (s.rowUnavail r ≠ [])) then s
  else (s.setChan c { x with want := false, paused := true }).log E.MED_CH_PAUSE c (b2n x.activation) 0

/-- CHANNEL_PAUSE_ENTER (R141). -/
def execChannelPauseEnter (ch : Fin 32) (s : State) : Result := .next (s.pauseEnter ch)

/-- A pause ends (R141). -/
def State.pauseEnd (s : State) (c : Nat) : State :=
  let x := s.chan c
  let s1 := s.setChan c { x with want := false, activation := false, paused := false }
  if x.paused then s1.log E.MED_CH_RESUME c (b2n x.activation) 0 else s1

/-- CHANNEL_PAUSE_END (R141): MED_CHCTL.pause is written 0. -/
def execChannelPauseEnd (ch : Fin 32) (s : State) : Result :=
  .next (if (s.chan ch).activation then s.wr D.MED_CHCTL_pause 0 ch else (s.wr D.MED_CHCTL_pause 0 ch).pauseEnd ch)

end Sys2Proof.Machine
end

