-- ==== Sys2Proof/Machine/Builders.lean ====
section
/-! DEFINITION. Stripe builders (R136 to R140), and ending the mapping of logical tiles (R46, R53, R157). -/

namespace Sys2Proof.Machine

/-! Ending moves and mappings. -/

/-- The physical tile that the newest MAP entry of a logical tile names, on media or pending. -/
def State.newestPhys (s : State) (t : Nat) : Option Nat :=
  match (s.med.jpend.filter (fun j => decide (j.tile = t ∧ j.type = 1))).getLast? with
  | some j => some j.arg0
  | none => let e := s.catEnt t; if e.st = .unmapped then none else some e.phys

/-- Removes the lost-line entries of tiles that a test names (R172). -/
def State.unloseTiles (s : State) (p : Nat → Bool) : State :=
  let mine (e : LostEnt) : Bool := p (if e.wide then e.n else tileOf e.n)
  let s1 := s.setLost (s.med.lost.filter (fun e => !mine e))
  let s2 := (s.med.lost.filter mine).foldl (fun (a : State) (e : LostEnt) =>
    a.clogNow 0x0D (if e.wide then e.n * 256 else e.n) (b2n e.wide) 0) s1
  ({ s2 with med := { s2.med with overflowed := s2.med.overflowed.filter (fun t => !p t) } } : State).listOverflowed

/-- The tiles from `t` on become UNMAPPED (Table 4.7): what staging and builders hold of them is dropped, moves end with
MOVE_ABORT in the same journal group (R157), physical tiles return to the pool once it is on media. A group holds 16 entries;
moves beyond 15 end before it. DESIGN CHOICE, log 173. -/
def State.unmap (s : State) (t n : Nat) : State :=
  let inR (x : Nat) : Bool := decide (t ≤ x ∧ x < t + n)
  let mv := s.med.moves.filter (fun e => inR e.1)
  let own := mv.drop (mv.length - 15)
  let sa := ((mv.take (mv.length - 15)).map Prod.fst).foldl State.moveAbort s
  let s0 : State := { sa with med := { sa.med with moves := SMap.keep (fun k _ => !inR k) sa.med.moves } }
  let phys := (((s0.med.cat.filter (fun e => inR e.1 && decide (e.2.st ≠ .unmapped))).map Prod.fst ++
    (s0.med.jpend.filter (fun j => decide (j.type = 1) && inR j.tile)).map JEnt.tile).eraseDups).filterMap s0.newestPhys
  let s1 : State := { s0 with med := { s0.med with
    stg := SMap.keep (fun ll _ => !inR (tileOf ll)) s0.med.stg
    updates := s0.med.updates.filter (fun u => !(match u.tile with
      | some x => inR x
      | none => false))
    rels := s0.med.rels.filter (fun e => match e.2 with
      | .leaf x _ => !inR x
      | .tile x => !inR x
      | _ => true)
    builders := s0.med.builders.map (fun b => { b with
      lines := SMap.keep (fun k _ => !inR ((b.slots[k / 256]?.map Prod.fst).getD (2 ^ 29))) b.lines }) } }
  let s2 := (s1.unloseTiles inR).journalGroup (own.map (fun e => (6, e.1, 0, 0)) ++ [(2, t, n, 0)])
  let s3 := (own.map (fun e => e.2.dst) ++ phys).foldl (fun a p => a.afterJournal (.phys p)) s2
  (s3.coh.chg.filter (fun e => s3.isLocal e.1 && inR (tileOf (llOf e.1)))).foldl
    (fun (a : State) (e : Nat × Nat) => a.release e.1) s3

/-! Builders. -/

/-- Replaces a builder. -/
def State.setBuilder (s : State) (b : Builder) : State :=
  { s with med := { s.med with builders := s.med.builders.map (fun q => if q.id = b.id then b else q) } }

/-- The slots of a builder: the data members of its stripe. -/
def State.slotMembers (s : State) (b : Builder) : List Nat := (s.stripe b.stripe).data

/-- Whether all four lines of a leaf of a slot are present. -/
def Builder.leafFull (b : Builder) (slot leaf : Nat) : Bool :=
  (List.range 4).all (fun k => SMap.has b.lines (slot * 256 + leaf * 4 + k))

/-- Whether every slot of a stripe is assigned and holds all its lines (R138). -/
def State.builderFull (s : State) (b : Builder) : Bool :=
  decide (b.slots.length = (s.slotMembers b).length) && (List.range b.slots.length).all (fun k => (List.range 64).all (b.leafFull k))

/-- Plaintext of a leaf from lines of a builder, over a given content. -/
def Builder.plain (b : Builder) (slot leaf : Nat) (base : BitVec 2048) : BitVec 2048 :=
  (List.range 4).foldl (fun (a : BitVec 2048) k =>
    match SMap.find b.lines (slot * 256 + leaf * 4 + k) with
    | some d => a ^^^ ((((((a >>> (512 * k)).setWidth 512 : Line) ^^^ d).setWidth 2048)) <<< (512 * k))
    | none => a) base

/-- Writes one leaf of a builder's slot to its physical leaf (R137). -/
def State.builderLeaf (s : State) (b : Builder) (slot leaf : Nat) (plain : BitVec 2048) : State :=
  match b.slots[slot]? with
  | none => s
  | some (t, j) =>
    match s.baseKey t with
    | none => s
    | some k => s.putImage (tileOfMember b.stripe j) leaf (buildImage k (s.stripe b.stripe).light t leaf s.now plain)

/-- The partition of a slot's physical tile. -/
def Builder.partAt (b : Builder) (slot : Nat) : Nat := memberPart b.stripe ((b.slots[slot]?.map Prod.snd).getD 0)

/-- The parity leaf of a position, the XOR of its data leaves (R107). -/
def State.putParity (s : State) (st n : Nat) : State :=
  let r := s.stripe st
  s.putImage (tileOfMember st r.ppos) n (r.data.foldl (fun i j => i ^^^ s.image (tileOfMember st j) n) 0)

/-- The parity leaf of a position is written once all its data leaves are, and again when one changes (R137). In `written` it has
the slot number 15. -/
def State.builderParity (s : State) (b : Builder) (leaf : Nat) : State :=
  let r := s.stripe b.stripe
  let k := 15 * 64 + leaf
  let full := decide (b.slots.length = r.data.length) &&
    (List.range b.slots.length).all (fun q => b.written.contains (q * 64 + leaf))
  if full = false then s
  else if s.noWrite (memberPart b.stripe r.ppos) then s.setBuilder { b with written := b.written.filter (fun q => q ≠ k) }
  else (s.setBuilder { b with written := if b.written.contains k then b.written else b.written ++ [k] }).putParity b.stripe leaf

/-- A dirty line joins a slot (R137): its leaf is written when its four lines are present, and again when it changes. It waits
in its buffer while its channel pauses or its die's writes are deferred (R141, R142). -/
def State.builderTake (s : State) (b : Builder) (slot ll : Nat) : State :=
  let d := (s.belowNow (s.glOf ll)).1
  let leaf := leafOf ll
  let b1 := { b with lines := SMap.ins b.lines (slot * 256 + ll % 256) d }
  let s1 : State := { s with med := { s.med with stg := SMap.del s.med.stg ll } }
  if b1.leafFull slot leaf then
    let k := slot * 64 + leaf
    let wait := s1.noWrite (b.partAt slot)
    let rest := b1.written.filter (fun q => q ≠ k)
    let b2 := { b1 with written := if wait then rest else rest ++ [k], spilled := b1.spilled.filter (fun q => q ≠ k) }
    if wait then s1.setBuilder b2
    else ((s1.setBuilder b2).builderLeaf b2 slot leaf (b2.plain slot leaf 0)).builderParity b2 leaf
  else s1.setBuilder b1

/-- A builder takes a stripe: FREE or CLEAN, in the region's code (R136, R153). None where the stripe will not serve.
DESIGN CHOICE, log 101. -/
def State.openBuilder (s : State) (region pick : Nat) (light : Bool) : Option (Builder × State) :=
  let r := s.stripe pick
  if stripeCount ≤ pick ∨ isSentinel pick ∨ 1 < r.st ∨ r.exposed.isSome ∨ r.data = [] then none
  else
    let b : Builder := ⟨s.med.bnext, region, pick, [], [], [], [], s.now, false⟩
    let s1 := if r.light = light then s else s.setCode pick light
    let s2 := s1.setStripe pick { s1.stripe pick with st := 3 }
    some (b, { s2 with med := { s2.med with builders := s2.med.builders ++ [b], bnext := s2.med.bnext + 1 } })

/-- A builder takes a tile that moves: the move is over (R157). -/
def State.moveTaken (s : State) (t : Nat) : State :=
  match SMap.find s.med.moves t with
  | some m => { s with med := { s.med with moves := SMap.ins s.med.moves t { m with aborted := true } } }
  | none => s

/-- A dirty APPEND line joins a builder of its region (R136, R157); with no room the oldest builder closes. -/
def State.builderJoin (s : State) (ll pick : Nat) : State :=
  let t := tileOf ll
  let gl := s.glOf ll
  match SMap.find s.med.stg ll with
  | none => s
  | some e =>
    if e.dirty = false ∨ s.inPlace t ∨ (s.baseKey t).isNone ∨ s.unmapDue t then s
    else if e.poison then ({ s with med := { s.med with stg := SMap.del s.med.stg ll } } : State).losePoisoned gl
    else match s.med.builders.find? (fun b => b.slots.any (fun q => decide (q.1 = t))) with
      | some b =>
        if b.closing then s
        else s.builderTake b ((b.slots.findIdx? (fun q => decide (q.1 = t))).getD 0) ll
      | none =>
        let region := s.regionNo gl
        let assign (a : State) (b : Builder) : State :=
          let a1 := a.moveTaken t
          let slot := b.slots.length
          let b1 := { b with slots := b.slots ++ [(t, (a1.slotMembers b)[slot]?.getD 0)] }
          (a1.setBuilder b1).builderTake b1 slot ll
        match s.med.builders.find? (fun b => decide (b.region = region ∧ b.slots.length < (s.slotMembers b).length) && !b.closing) with
        | some b => assign s b
        | none =>
          if s.rd D.MED_APPCFG_open ≤ s.med.builders.length then
            { s with med := { s.med with builders := closeOldest s.med.builders } }
          else match s.openBuilder region pick (s.attrOf gl).light with
            | some (b, s1) => assign s1 b
            | none => s

/-- BUILDER_LINE (R136, R137): `pick` is the stripe the conservator gives a new builder. -/
def execBuilderLine (line : Fin 137438953472) (pick : Fin 33554432) (s : State) : Result := .next (s.builderJoin line pick)

/-- BUILDER_SPILL (R137): an incomplete leaf held for 1 ms goes to staging. -/
def execBuilderSpill (builder : Nat) (slot : Fin 15) (leaf : Fin 64) (s : State) : Result :=
  match s.med.builders.find? (fun b => decide (b.id = builder)) with
  | none => .next s
  | some b =>
    let k := slot.val * 64 + leaf.val
    let held := (List.range 4).any (fun i => SMap.has b.lines (slot * 256 + leaf * 4 + i))
    if held ∧ b.leafFull slot leaf = false ∧ b.spilled.contains k = false then
      let ch := chanOf (tileOfMember b.stripe ((b.slots[slot.val]?.map Prod.snd).getD 0))
      .next ((s.setBuilder { b with spilled := b.spilled ++ [k] }).log E.MED_BUILDER_SPILL ch b.region 0)
    else .next s

/-- BUILDER_AGE_EXPIRE (R138): the builder closes. -/
def execBuilderAgeExpire (builder : Nat) (s : State) : Result :=
  match s.med.builders.find? (fun b => decide (b.id = builder)) with
  | none => .next s
  | some b => .next (s.setBuilder { b with closing := true })

/-- A padding leaf: zero data, valid 0, the current epoch (R139). DESIGN CHOICE, log 100. -/
def padImage (light : Bool) (now : Nat) : Image :=
  let v := epochOf now * 2 ^ (8 * 260)
  BitVec.ofNat 2560 (v + checkBytes light v * 2 ^ 2224)

/-- The array read of a mapped leaf that fills a builder's leaf (R139, R170). -/
def State.fillCount (s : State) (t n : Nat) : State :=
  let e := s.catEnt t
  if e.st ≠ .unmapped ∧ e.written.getLsbD n then s.countRead e.phys else s

/-- The lines of a leaf that neither a builder nor staging holds whole are lost with the leaf that cannot be read (R172). -/
def State.loseRest (s : State) (b : Builder) (slot t n : Nat) : State :=
  (List.range 4).foldl (fun (a : State) k =>
    let ll := (t * 64 + n) * 4 + k
    if SMap.has b.lines (slot * 256 + n * 4 + k) ∨ (SMap.find s.med.stg ll).any (fun e => decide (e.mask = fullMask)) then a
    else a.loseLine ll) s

/-- The leaves of a closing builder that are not written yet, filled from the tile's current content, which staging may hold
newer than media (R112), and the padding of its empty slots (R139). -/
def State.builderFill (s : State) (b : Builder) : State :=
  let tiles := (List.range b.slots.length).foldl (fun (a : State) k =>
    (List.range 64).foldl (fun (a : State) n =>
      if b.written.contains (k * 64 + n) then a
      else
        let t := (b.slots[k]?.map Prod.fst).getD 0
        let a1 := a.fillCount t n
        match a1.leafPlain t n with
        | some base => a1.builderLeaf b k n (b.plain k n (a1.mergeStaged t n base))
        | none => (a1.loseRest b k t n).builderLeaf b k n (b.plain k n (a1.mergeStaged t n 0))) a) s
  ((s.slotMembers b).drop b.slots.length).foldl (fun (a : State) j =>
    (List.range 64).foldl (fun (a : State) n => a.putImage (tileOfMember b.stripe j) n (padImage (a.stripe b.stripe).light a.now)) a) tiles

/-- The parity leaves of a builder's stripe that are not written yet (R107, R137). -/
def State.writeParity (s : State) (b : Builder) : State :=
  (List.range 64).foldl (fun (a : State) n => if b.written.contains (15 * 64 + n) then a else a.putParity b.stripe n) s

/-- A builder's line laid under what staging already holds of it. -/
def underStaging (old : Option StLine) (d : Line) (dirty : Bool) : StLine :=
  match old with
  | some x => ⟨merge d x.data x.mask, fullMask, x.poison, dirty || x.dirty⟩
  | none => ⟨d, fullMask, false, dirty⟩

/-- The lines of a slot return to staging: dirty where they still wait for media, or clean copies until the journal is written. -/
def State.slotToStaging (s : State) (b : Builder) (slot : Nat) (dirty : Bool) : State :=
  match b.slots[slot]? with
  | none => s
  | some (t, _) =>
    let put (m : SMap StLine) (e : Nat × Line) : SMap StLine :=
      let ll := t * 256 + e.1 % 256
      SMap.ins m ll (underStaging (SMap.find m ll) e.2 dirty)
    { s with med := { s.med with stg := (b.lines.filter (fun e => decide (e.1 / 256 = slot))).foldl put s.med.stg } }

/-- The MAP group of a builder, with the MOVE_ABORT entries of its tiles (R157), and what waits for it (R140). A group holds 16
entries; aborts that find no room come before it. DESIGN CHOICE, log 99. -/
def State.builderMap (s : State) (b : Builder) (slots : List Nat) : State :=
  let n := slots.length
  let place (k : Nat) : Nat × Nat := (b.slots[k]?).getD (0, 0)
  let olds := slots.filterMap (fun k => s.newestPhys (place k).1)
  let mv := s.med.moves.filter (fun e => slots.any (fun k => decide ((place k).1 = e.1)))
  let own := mv.drop (mv.length - (16 - n))
  let s0 := ((mv.take (mv.length - (16 - n))).map Prod.fst).foldl State.moveAbort s
  let s1 : State := ({ s0 with med := { s0.med with moves := SMap.keep (fun k _ => !mv.any (fun e => decide (e.1 = k))) s0.med.moves } } :
    State).journalGroup (own.map (fun e => (6, e.1, 0, 0)) ++
      slots.map (fun k => (1, (place k).1, tileOfMember b.stripe (place k).2, 2 ^ 64 - 1)))
  let s1' := own.foldl (fun (a : State) (e : Nat × Move) => a.afterJournal (.phys e.2.dst)) s1
  let s2 := slots.foldl (fun (a : State) k => a.afterJournal (.tile (place k).1)) s1'
  let s3 := olds.foldl (fun (a : State) p => a.afterJournal (.phys p)) s2
  let s4 := slots.foldl (fun (a : State) k =>
    let p := tileOfMember b.stripe (place k).2
    a.setTile p { a.tile p with st := 1 }) s3
  slots.foldl (fun (a : State) k => if 0 < a.lostIn (place k).1 then a.journal 7 (place k).1 0 0 else a) s4

/-- Whether a builder may be completed now: it is full or closing; step 8 of a flush writes every builder, oldest first (R82,
R138). -/
def State.builderDue (s : State) (b : Builder) : Bool :=
  if s.atStep 8 then decide ((s.med.builders.head?).map Builder.id = some b.id) else b.closing || s.builderFull b

/-- BUILDER_STRIPE_VERIFIED (R139, R140, R173): every leaf of a full or closing builder's stripe has been written and verified;
`fails` names the members with a leaf that failed its verify. It waits for a channel's pause and for a die whose writes are
deferred (R141, R142). -/
def execBuilderStripeVerified (builder : Nat) (fails : List (Fin 16)) (s : State) : Result :=
  match s.med.builders.find? (fun b => decide (b.id = builder)) with
  | none => .next s
  | some b =>
    if s.builderDue b = false ∨ (s.stripe b.stripe).members.any (fun j => s.noWrite (memberPart b.stripe j)) then .next s
    else
      let bad (j : Nat) : Bool := fails.any (fun f => decide (f.val = j))
      let s1 := (s.builderFill b).writeParity b
      let ks := List.range b.slots.length
      let good := ks.filter (fun k => !bad ((b.slots[k]?.map Prod.snd).getD 0))
      let s2 := ks.foldl (fun (a : State) k => a.slotToStaging b k (!good.contains k)) s1
      let s3 : State := { s2 with med := { s2.med with builders := s2.med.builders.filter (fun q => q.id ≠ b.id) } }
      let s4 := (s3.setStripe b.stripe { s3.stripe b.stripe with st := if good = [] then 0 else 2, mapped := good.length }).builderMap b good
      .next ((((s4.stripe b.stripe).members.filter bad).foldl (fun (a : State) j =>
        let p := tileOfMember b.stripe j
        (((a.addSat D.CON_ERRCNT_wvfail 1).log E.CON_WV_FAIL (dieKey p) (partOf p) p).retireTile p 0).dieFailed (dieKey p)) s4).spareCheck)

end Sys2Proof.Machine
end

