-- ==== Sys2Proof/Machine/Conserve.lean ====
section
/-! DEFINITION. The conservator (Chapter 5): its log and checkpoint, tile moves, excision, wear leveling, drift learning,
refresh, scrub, reclaim, rebuild, and the temperature history. -/

namespace Sys2Proof.Machine

/-! The log and the checkpoint (R148, R149). -/

/-- CON_LOG_WRITE (R149): pending records go to media and take effect. -/
def State.logWrite (s : State) : State := s.logApply.spareCheck

/-- CON_LOG_WRITE (R149). -/
def execConLogWrite (s : State) : Result := .next s.logWrite

/-- Tiles of one checkpoint chunk: 2^29 tiles in 4,096 chunks. DESIGN CHOICE, log 63. -/
def chunkTiles : Nat := 131072

/-- The next chunk is written (R148); the last one ends the pass. The record of a stripe changes only as its log record reaches
media, so that the copy written in the same pass, with the log replayed over it, is always the record itself; no second copy is
kept. DEDUCED, log 174. -/
def State.checkpointChunk (s : State) : State :=
  let k := s.med.chunk
  let inC (p : Nat) : Bool := decide (p / chunkTiles = k)
  let s1 : State := { s with med := { s.med with
    chunks := SMap.ins s.med.chunks k s.med.cnext, chunk := (k + 1) % 4096
    ctiles := (s.med.tiles.filter (fun e => inC e.1)).foldl (fun (m : SMap TileRec) (e : Nat × TileRec) => SMap.ins m e.1 e.2)
      (SMap.keep (fun p _ => !inC p) s.med.ctiles) } }
  if k = 4095 then ({ s1 with med := { s1.med with cbase := s1.med.base } } : State).wr D.CON_STAT_ckpt 0 else s1.wr D.CON_STAT_ckpt 1

/-- CON_CHECKPOINT_CHUNK (R148). -/
def execConCheckpointChunk (s : State) : Result := .next s.checkpointChunk

/-- CON_METACKPT (R148): a pass starts at once, from the first chunk. -/
def State.metaCkpt (s : State) : State := ({ s with med := { s.med with chunk := 0 } } : State).wr D.CON_STAT_ckpt 1

/-- CON_METACKPT (R148). -/
def execConMetackpt (s : State) : Result := .next s.metaCkpt

/-! Moves (R156, R157). -/

/-- Starts a move of a logical tile to a tile just taken. -/
def State.moveTo (s : State) (t src q : Nat) (forced : Bool) : State :=
  let s1 := s.journal 4 t q 0
  { s1 with med := { s1.med with
      moves := SMap.ins s1.med.moves t ⟨src, q, forced, 0, 0, false, 0, false⟩, again := s1.med.again.filter (fun x => x ≠ t) } }

/-- Starts a move to a tile that R153 allocates; none for a tile that is moving or is not mapped (R157). -/
def State.moveStart (s : State) (t pick : Nat) : State :=
  let e := s.catEnt t
  if e.st ≠ .mapped ∨ SMap.has s.med.moves t ∨ (s.isFlushing ∧ (s.tile e.phys).forced = false) ∨ s.unmapDue t then s
  else match s.allocTile (s.stripe (stripeOf e.phys)).light pick with
    | some (q, s1) => s1.moveTo t e.phys q (s1.tile e.phys).forced
    | none => s

/-- Writes a leaf with the parity update of R133, both verified. -/
def State.writeWithParity (s : State) (p n : Nat) (i : Image) : State :=
  let st := stripeOf p
  let par := tileOfMember st (s.stripe st).ppos
  let new := s.image par n ^^^ s.image p n ^^^ i
  (((s.countRead par).countRead p).putImage p n i).putImage par n new

/-- Copies one written leaf of a move (R156 step 2); a leaf in `lost` cannot be recovered by any path. -/
def State.copyLeaf (s : State) (t : Nat) (m : Move) (lost : List (Fin 64)) (n : Nat) : State :=
  match (if lost.any (fun k => decide (k.val = n)) then none else s.leafPlain t n), s.baseKey t with
  | some b, some k =>
    (s.countRead m.src).writeWithParity m.dst n (buildImage k (s.stripe (stripeOf m.dst)).light t n s.now b)
  | _, _ => (s.countRead m.src).loseLeaf t n

/-- The leaves a move still has to copy (R156, R157). -/
def State.toCopy (s : State) (t : Nat) (m : Move) : List Nat :=
  (List.range 64).filter (fun n => (s.catEnt t).written.getLsbD n && (!m.copied.getLsbD n || m.recopy.getLsbD n))

/-- Whether the conservator's background share is suspended (R472, Table 16.6: from throttle level 4 on).
DEDUCED, log 181. -/
def State.shareStopped (s : State) : Bool := decide (4 ≤ s.rd D.THM_STAT_level)

/-- Whether a refresh has priority 3, outside the background share (R170). -/
def State.refreshUrgent (s : State) (p : Nat) : Bool := decide (s.rd D.CON_DISTURB_thresh * 5 ≤ (s.tile p).rcount * 4)

/-- Whether the refresh of a tile may start now. -/
def State.refreshDue (s : State) (p : Nat) : Bool := (s.tile p).refresh && (s.refreshUrgent p || !s.shareStopped)

/-- Goes on with a move: it copies what is left and journals MOVE_END; it waits while an update of the tile or of the copies is
open, or a member needed is unavailable or its die's writes are deferred (R142). A verify failure on the destination ends the
move, retires the destination and starts a new move (R157). DESIGN CHOICE, log 102. -/
def State.moveStep (s : State) (t : Nat) (m : Move) (lost : List (Fin 64)) (fail : Bool) : State :=
  let st := stripeOf m.dst
  let busy := s.med.updates.any (fun u => decide (u.tile = some t) || decide (u.stripe = st))
  if m.ended ∨ m.aborted ∨ busy ∨ (s.catEnt t).st ≠ .moving ∨ s.unavail (partKey m.dst) ∨
      s.unavail (memberPart m.dst (s.stripe st).ppos) ∨ s.noWrite (partKey m.dst) ∨
      s.noWrite (memberPart m.dst (s.stripe st).ppos) then s
  else if fail then
    let s1 := ((s.addSat D.CON_ERRCNT_wvfail 1).log E.CON_WV_FAIL (dieKey m.dst) (partOf m.dst) m.dst).moveAbort t
    let s2 := (s1.retireTile m.dst 0).dieFailed (dieKey m.dst)
    { s2 with med := { s2.med with again := s2.med.again ++ [t] } }
  else
    let s1 := (s.toCopy t m).foldl (fun (a : State) n => a.copyLeaf t m lost n) s
    let s2 := s1.journal 5 t m.dst 0
    let m' := { m with copied := (s.catEnt t).written, recopy := 0, ended := true, ctime := s.now }
    { s2 with med := { s2.med with moves := SMap.ins s2.med.moves t m' } }

/-- TILE_MOVE (R156, R157): starts a move of a tile whose physical tile is forced or due for refresh, or whose move has failed on
its destination, or goes on with one. -/
def execTileMove (tile : Fin 536870912) (pick : Fin 33554432) (lost : List (Fin 64)) (fail : Bool) (s : State) : Result :=
  match SMap.find s.med.moves tile with
  | some m => .next (s.moveStep tile m lost fail)
  | none =>
    let p := s.tile (s.catEnt tile).phys
    .next (if p.forced ∨ s.refreshDue (s.catEnt tile).phys ∨ s.med.again.contains tile.val then s.moveStart tile pick else s)

/-- A move ends once its MOVE_END is on media (R156 step 4): the old tile leaves, and a retired one is excised (R160). -/
def State.moveEnd (s : State) (t : Nat) : State :=
  match SMap.find s.med.moves t with
  | none => s
  | some m =>
    let e := s.catEnt t
    if m.ended = false ∨ e.st ≠ .mapped ∨ e.phys ≠ m.dst then s
    else
      let s1 : State := { s with med := { s.med with moves := SMap.del s.med.moves t } }
      let q := s1.tile m.dst
      let c := tileTime m.ctime
      (s1.tWarden 0x04 1 |>.setTile m.dst { q with rcount := 0, refresh := false, tnew := c, told := c }).freeTile m.src

/-- TILE_MOVE_END (R156). -/
def execTileMoveEnd (tile : Fin 536870912) (s : State) : Result := .next (s.moveEnd tile)

/-! Excision (R161, R162). -/

/-- The member that holds parity once `j` has left: the present one, or the lowest FREE data member (R161). -/
def State.newPpos (s : State) (st j : Nat) : Option Nat :=
  let r := s.stripe st
  if r.ppos ≠ j then some r.ppos
  else r.data.find? (fun k => decide ((s.tile (tileOfMember st k)).st = 0) && !s.lostPart (memberPart st k))

/-- The data member with the fewest written leaves, by its logical tile: it is moved out where no member is FREE (R161). -/
def State.leastWritten (s : State) (st : Nat) : Option Nat :=
  ((s.stripe st).data.filterMap (fun k => s.logicalOf (tileOfMember st k))).foldl
    (fun (a : Option Nat) t => match a with
      | none => some t
      | some u => if popBelow (s.catEnt t).written.toNat 64 < popBelow (s.catEnt u).written.toNat 64 then some t else a) none

/-- Parity over the data members that are neither gone nor `j`, written into `np` (R162); what a lost partition holds is not read
(R176). -/
def State.parityWithout (s : State) (st j np : Nat) : State :=
  let ds := (s.stripe st).members.filter (fun k => k ≠ j ∧ k ≠ np ∧ (k ≠ (s.stripe st).ppos ∨ np = k) && !s.lostPart (memberPart st k))
  let s1 := ds.foldl (fun (a : State) k => a.countReads (tileOfMember st k) 64) s
  (List.range 64).foldl (fun (a : State) n =>
    a.putImage (tileOfMember st np) n (ds.foldl (fun i k => i ^^^ a.image (tileOfMember st k) n) 0)) s1

/-- Moves a mapped tile out of a stripe. -/
def State.moveOut (s : State) (st pick : Nat) (skip : Nat) : State :=
  match (((s.stripe st).data.filter (fun k => k ≠ skip)).filterMap (fun k => s.logicalOf (tileOfMember st k))).find?
      (fun t => !SMap.has s.med.moves t) with
  | some t => s.moveStart t pick
  | none => s

/-- Whether a stripe would be too narrow without a member (Table 5.8). -/
def State.tooNarrow (s : State) (st : Nat) : Bool :=
  decide ((s.stripe st).members.length - 1 < s.rd D.CON_RETIRE_minwidth)

/-- A stripe closes: none of its members is mapped, and its excisions are not made (Table 5.8). -/
def State.closeStripe (s : State) (st : Nat) : State :=
  let s1 : State := { s with med := { s.med with excise := s.med.excise.filter (fun e => e.1 ≠ st) } }
  (s1.clogAdd 0x0B st 0 0).log E.CON_RETIRE_STRIPE 0 (s.stripe st).members.length st

/-- EXCISION (R161, R162, R173): EXCISE_BEGIN is logged, and with the stripe exposed the parity is rewritten without the member;
where the parity member leaves and no data member is FREE, one is moved out first. A stripe that would be too narrow is emptied
and closed. -/
def execExcision (pick : Fin 33554432) (s : State) : Result :=
  match s.med.excise with
  | [] => .next s
  | (st, j) :: _ =>
    if (s.stripe st).exposed.isSome ∨ s.med.updates.any (fun u => decide (u.stripe = st)) then .next s
    else if s.tooNarrow st then .next (if (s.stripe st).mapped = 0 then s.closeStripe st else s.moveOut st pick 16)
    else match s.newPpos st j with
      | some np => .next ((s.clogNow 0x02 st j np).parityWithout st j np)
      | none => match s.leastWritten st with
        | some t => .next (s.moveStart t pick)
        | none => .next s

/-- EXCISION_END (R162): once EXCISE_BEGIN is on media, EXCISE_END is logged. -/
def execExcisionEnd (s : State) : Result :=
  match s.med.excise with
  | [] => .next s
  | (st, j) :: r =>
    match (s.stripe st).exposed with
    | some (k, np) =>
      if k ≠ j then .next s
      else
        let s1 := ({ s with med := { s.med with excise := r } } : State).clogAdd 0x03 st j np
        .next s1.logWrite
    | none => .next s

/-! Wear leveling (R164). -/

/-- Tiles that are neither retired, stranded nor gone, and the sum of their wcounts; those not listed have written once. -/
def State.wearSum (s : State) : Nat × Nat :=
  let live (e : Nat × TileRec) : Bool := decide (e.2.st ≠ 2 ∧ e.2.st ≠ 3) && !(s.stripe (stripeOf e.1)).isGone (memberOf e.1)
  let l := s.med.tiles.filter live
  let listed (e : Nat × Nat) : Nat := (s.med.tiles.filter (fun t =>
    decide (rowOf (stripeOf t.1) * 16 + memberOf t.1 = e.1 ∧ t.1 % 2 ^ 18 < e.2))).length
  let rest := 2 ^ 29 - s.med.tiles.length - (s.med.rowGone.map (fun e => e.2 - listed e)).sum
  (l.length + rest, (l.map (fun e => e.2.wcount)).sum + rest * s.med.base.wcount)

/-- The mean wcount m. -/
def State.wearMean (s : State) : Nat := s.wearSum.2 / max 1 s.wearSum.1

/-- Inserts by a key, highest first. -/
def insDesc (f : Nat → Nat) (x : Nat) : List Nat → List Nat
  | [] => [x]
  | y :: r => if f y < f x then x :: y :: r else y :: insDesc f x r

/-- Sorts by a key, highest first. -/
def sortDesc (f : Nat → Nat) (l : List Nat) : List Nat := l.foldl (fun a x => insDesc f x a) []

/-- Wear of a die: its mean wcount over the tiles that R164 counts (R177). -/
def State.dieMean (s : State) (d : Nat) : Nat :=
  let l := s.med.tiles.filter (fun e => decide (dieKey e.1 = d))
  let live := l.filter (fun e => decide (e.2.st ≠ 2 ∧ e.2.st ≠ 3) && !(s.stripe (stripeOf e.1)).isGone (memberOf e.1))
  let gone := ((List.range 8).map (fun p =>
    let k := d * 8 + p
    let n := SMap.get 0 s.med.rowGone (rowOfPart k * 16 + k / 64 % 16)
    n - (l.filter (fun e => decide (partKey e.1 = k ∧ e.1 % 2 ^ 18 < n))).length)).sum
  let rest := 2097152 - l.length - gone
  ((live.map (fun e => e.2.wcount)).sum + rest * s.med.base.wcount) / max 1 (live.length + rest)

/-- The lowest CLEAN stripe of a row with no unavailable member. -/
def State.firstClean (s : State) : Option Nat :=
  (List.range 128).findSome? (fun row =>
    if s.rowUnavail row = [] then
      (List.range (s.med.stripes.length + 1)).findSome? (fun i =>
        let n := row * 2 ^ 18 + i
        if (s.stripe n).st = 1 ∧ s.openable n then some n else none)
    else none)

/-- The free tile of a code with the lowest wcount: of the INUSE and FREE stripes of the code, and of a CLEAN stripe, which serves
either code. DESIGN CHOICE, log 175. -/
def State.coldestFree (s : State) (light : Bool) : Option Nat :=
  let free := (s.stripesIn (fun st => decide (st = 0))).flatMap (fun n =>
    if (s.stripe n).light == light && s.openable n then s.freshMembers n else [])
  let clean := match s.firstClean with
    | some n => s.freshMembers n
    | none => []
  s.coldest (s.inuseFree light false ++ free ++ clean)

/-- Takes a free tile for a code; a CLEAN stripe's code is set. -/
def State.takeFor (s : State) (p : Nat) (light : Bool) : State :=
  (if (s.stripe (stripeOf p)).st = 1 then s.setCode (stripeOf p) light else s).takeTile p

/-- Moves hot data to cold tiles: the first loop of R164. -/
def State.wearHot (s : State) (m : Nat) (l : List Nat) (moves : Nat) : Nat × State :=
  match l with
  | [] => (moves, s)
  | p :: r =>
    if s.rd D.CON_WEAR_maxmoves ≤ moves ∨ (s.tile p).wcount ≤ m + s.rd D.CON_WEAR_hotdelta then (moves, s)
    else if s.rd D.CON_WEAR_period * 1000000000 < s.tileAge (s.tile p).tnew then s.wearHot m r moves
    else
      let light := (s.stripe (stripeOf p)).light
      let q := (s.coldestFree light).filter (fun q => decide ((s.tile q).wcount ≤ m))
      match q, s.logicalOf p with
      | some q, some t =>
        if SMap.has s.med.moves t then s.wearHot m r moves
        else
          let s1 := (s.takeFor q light).moveTo t p q (s.tile p).forced
          (s1.setTile p { s1.tile p with worn := true }).wearHot m r (moves + 1)
      | _, _ => s.wearHot m r moves

/-- A quadrant's list of mapped tiles with cold data, lowest wcount first, at most 4,096 (R164). -/
def State.coldList (s : State) (quad : Nat) : List Nat :=
  let l := (s.med.tiles.filter (fun e => decide (e.2.st = 1 ∧ chanOf e.1 / 8 = quad) && (s.logicalOf e.1).isSome &&
    decide (s.rd D.CON_WEAR_coldage * 86400000000000 < s.tileAge e.2.tnew))).map Prod.fst
  ((sortDesc (fun p => (s.tile p).wcount) l).reverse).take 4096

/-- Gives worn tiles cold data of their code from their quadrant's list, in lists made as the pass began: the second loop of
R164. -/
def State.wearCold (s : State) (lists : List (List Nat)) (l : List Nat) (moves : Nat) : State :=
  match l with
  | [] => s
  | w :: r =>
    if s.rd D.CON_WEAR_maxmoves ≤ moves then s
    else
      let fit := ((lists[chanOf w / 8]?).getD []).find? (fun c =>
        ((s.stripe (stripeOf c)).light == (s.stripe (stripeOf w)).light) &&
          (s.logicalOf c).any (fun t => !SMap.has s.med.moves t && !s.unmapDue t))
      match fit.bind (fun c => (s.logicalOf c).map (fun t => (c, t))) with
      | some (c, t) => ((s.takeFor w (s.stripe (stripeOf c)).light).moveTo t c w (s.tile c).forced).wearCold lists r (moves + 1)
      | none => s.wearCold lists r moves

/-- Rotates parity away from worn members: the third loop of R164, by PPOS records (R163). -/
def State.wearParity (s : State) (m : Nat) : State :=
  (s.med.tiles.filter (fun e => decide (m + s.rd D.CON_WEAR_hotdelta < e.2.wcount))).foldl (fun (a : State) e =>
    let n := stripeOf e.1
    let r := a.stripe n
    if r.ppos = memberOf e.1 ∧ r.exposed.isNone ∧ r.st ≠ 3 ∧ r.st ≠ 4 ∧ isSentinel n = false then
      match r.data.find? (fun j => let t := a.tile (tileOfMember n j); decide (t.st = 0 ∧ t.wcount ≤ m) && !t.forced) with
      | some j => a.clogAdd 0x04 n j 0
      | none => a
    else a) s

/-- WEAR_PASS (R164, R177). -/
def execWearPass (s : State) : Result :=
  let m := s.wearMean
  let pct (n : Nat) : Nat := min 255 (100 * n / 640000000)
  let ds := (s.med.tiles.map (fun e => dieKey e.1)).eraseDups
  let s0 := ds.foldl (fun (a : State) d => a.wr D.CON_DIE_wear (pct (s.dieMean d)) d) s
  let s1 := (s0.wr D.CON_HEALTH_wear (pct m)).wr D.CON_HEALTH_maxwear ((ds.map (fun d => pct (s.dieMean d))).foldl max 0)
  if s1.bit D.CON_CTL_wear = false ∨ s1.isFlushing ∨ s1.shareStopped then .next s1
  else
    let mapped := sortDesc (fun p => (s1.tile p).wcount) ((s1.med.tiles.filter (fun e => decide (e.2.st = 1))).map Prod.fst)
    let x := s1.wearHot m mapped 0
    let worn := (sortDesc (fun p => (x.2.tile p).wcount) ((x.2.med.tiles.filter (fun e =>
      decide (e.2.st = 0) && e.2.worn)).map Prod.fst)).reverse
    let s2 := (x.2.wearCold ((List.range 4).map x.2.coldList) worn x.1).wearParity m
    let lim := m + s2.rd D.CON_WEAR_hotdelta / 2
    .next ((s2.med.tiles.filter (fun e => e.2.worn && decide (e.2.wcount ≤ lim))).foldl
      (fun (a : State) (e : Nat × TileRec) => a.setTile e.1 { e.2 with worn := false }) s2)

/-! Drift learning (R165 to R168). -/

/-- The entry's reference, and the entry with another. -/
def vrefOf (v : Nat) : Nat := v / 256 % 256
def withVref (v r : Nat) : Nat := r * 256 + v % 256

/-- One slot teaches its bin (R167): `e` are the bit errors at the reference below, the present one, and the one above. -/
def State.learn (s : State) (d k : Nat) (e : Nat × Nat × Nat) : State :=
  let v := s.dtab d k
  let lim := e.2.1 * (1000 - s.rd D.CON_DRIFT_hyst)
  let r := vrefOf v
  let seen := min 15 (v % 16 + 1)
  let put (a : State) (n : Nat) : State := a.setDtab d k (withVref (v / 16 * 16 + seen) n)
  if e.1 * 1000 < lim then (if r = 0 then (put s 0).log E.CON_DRIFT_CLAMP d k (2 ^ 64 - 1) else put s (r - 1))
  else if e.2.2 * 1000 < lim then (if r = 255 then (put s 255).log E.CON_DRIFT_CLAMP d k 256 else put s (r + 1))
  else put s r

/-- Drift only raises thresholds: the last loop of R167. -/
def State.raiseRefs (s : State) (d : Nat) : State :=
  (List.range 15).foldl (fun (a : State) i =>
    if vrefOf (a.dtab d (i + 1)) < vrefOf (a.dtab d i) then a.setDtab d (i + 1) (withVref (a.dtab d (i + 1)) (vrefOf (a.dtab d i)))
    else a) s

/-- The sentinel tiles of a die: those of its partitions that are neither lost nor gone (R147, R165). -/
def State.sentinelTiles (s : State) (d : Nat) : List Nat :=
  (((List.range 8).map (fun p => d * 8 + p)).filter (fun k => !s.lostPart k && !s.rebuilt k)).map (fun k => k * 2 ^ 18 + (2 ^ 18 - 1))

/-- DRIFT_PASS (R167, R168): `errs` gives the bit errors of each slot's raw reads. -/
def execDriftPass (die : Fin 256) (errs : List (Nat × Nat × Nat)) (s : State) : Result :=
  let d := die.val
  if (s.die d).retired ∨ (s.die d).present = false ∨ s.bit D.CON_CTL_drift = false ∨ s.isFlushing ∨ s.shareStopped then .next s
  else
    let due := (List.range 16).filter (fun k => decide (ageBin (s.now - SMap.get 0 s.med.sentinels (d * 16 + k)) = k))
    let s1 := due.foldl (fun (a : State) k =>
      let b := (a.sentinelTiles d).foldl (fun (x : State) p => x.countReads p 3) a
      b.learn d k (errs[k]?.getD (0, 0, 0))) s
    let s2 := s1.raiseRefs d
    .next { (s2.setDie d { s2.die d with skews := 0 }) with med := { s2.med with
      dies := (s2.setDie d { s2.die d with skews := 0 }).med.dies, driftDue := s2.med.driftDue.filter (fun x => x ≠ d) } }

/-- SENTINEL_REWRITE (R165): the slot's eight leaves are written raw, and a SENTINEL record is logged. -/
def execSentinelRewrite (die : Fin 256) (slot : Fin 16) (s : State) : Result :=
  let d := die.val
  if (s.die d).retired ∨ (s.die d).present = false ∨ s.isFlushing then .next s
  else
    let s1 := (s.sentinelTiles d).foldl (fun (a : State) p =>
      a.putImage p slot (Config.sentinelImage (BitVec.ofNat 64 (p * 64 + slot.val) ^^^ BitVec.ofNat 64 (tileTime a.now)))) s
    .next (s1.clogNow 0x0A d slot s1.now)

/-! Refresh (R170). -/

/-- A tile is rewritten in place, each leaf with its own image; its read count and times start anew. -/
def State.refreshInPlace (s : State) (p : Nat) : State :=
  let s1 := (List.range 64).foldl (fun (a : State) n => a.putImage p n (a.image p n)) s
  s1.setTile p { s1.tile p with rcount := 0, refresh := false }

/-- TILE_REFRESH (R147, R170): a mapped tile is moved, a FREE tile or a parity member rewritten in place; a gone member is left. -/
def execTileRefresh (phys : Fin 536870912) (pick : Fin 33554432) (s : State) : Result :=
  let p := phys.val
  if s.refreshDue p = false ∨ s.isFlushing ∨ (s.stripe (stripeOf p)).isGone (memberOf p) then .next s
  else match s.logicalOf p with
    | some t => .next (s.moveStart t pick)
    | none =>
      if s.med.updates.any (fun u => decide (u.stripe = stripeOf p)) ∨ s.unavail (partKey p) ∨ s.noWrite (partKey p) ∨
          (s.tile p).st = 2 then .next s
      else .next (s.refreshInPlace p)

/-! Patrol scrub (R171). -/

/-- Keeps CON_SCRUBPOS with the next stripe; the last one ends the pass. -/
def State.scrubNext (s : State) : State :=
  if s.med.scrubLeaf < 63 then { s with med := { s.med with scrubLeaf := s.med.scrubLeaf + 1 } }
  else
    let n := s.rd D.CON_SCRUBPOS_stripe + 1
    let s1 : State := { s with med := { s.med with scrubLeaf := 0 } }
    if n = stripeCount then
      ((s1.wr D.CON_SCRUBPOS_stripe 0).wr D.CON_SCRUBPOS_pct 0).addWrap D.CON_SCRUBPOS_passes 1
    else (s1.wr D.CON_SCRUBPOS_stripe n).wr D.CON_SCRUBPOS_pct (100 * n / stripeCount)

/-- One leaf position is read and checked; `errs` are the wrong bits by member. -/
def State.scrubAt (s : State) (st n : Nat) (errs : List (Nat × Image)) : State :=
  let r := s.stripe st
  let ms := r.members
  let err (j : Nat) : Image := ((errs.find? (fun e => decide (e.1 = j))).map Prod.snd).getD 0
  let s1 := ms.foldl (fun (a : State) j => a.countRead (tileOfMember st j)) s
  let bad := ms.filter (fun j => !decodes r.light (err j))
  let s2 := (ms.filter (fun j => !bad.contains j)).foldl (fun (a : State) j =>
    if a.rd D.CON_SCRUB_cthresh * codeT r.light < corrected r.light (err j) * 100 then
      a.setTile (tileOfMember st j) { a.tile (tileOfMember st j) with refresh := true }
    else a) s1
  let s3 := ms.foldl (fun (a : State) j =>
    let p := tileOfMember st j
    if (a.tile p).st = 1 ∧ a.rd D.CON_SCRUB_retain * 31557600000000000 < a.tileAge (a.tile p).told then
      a.setTile p { a.tile p with refresh := true } else a) s2
  match bad with
  | [j] => s3.recovered (tileOfMember st j) n (s3.xorOthers st j n) false
  | _ :: _ => bad.foldl (fun (a : State) j => match a.logicalOf (tileOfMember st j) with
      | some t => if (a.catEnt t).written.getLsbD n then a.loseLeaf t n else a
      | none => a) s3
  | [] =>
    if ms.foldl (fun i j => i ^^^ s3.imageNow (tileOfMember st j) n) 0 = 0 then s3
    else
      let ok := r.data.all (fun j => match s3.logicalOf (tileOfMember st j) with
        | some t => !(s3.catEnt t).written.getLsbD n || (s3.leafPlain t n).isSome
        | none => true)
      let s4 := if ok then s3.putImage (tileOfMember st r.ppos) n (r.data.foldl (fun i j => i ^^^ s3.imageNow (tileOfMember st j) n) 0) else s3
      s4.log E.CON_PARITY_FIX 0 n st

/-- SCRUB_POSITION (R171): the next leaf position of the pass; CLOSED and sentinel stripes are passed over, a stripe under
excision, one that a builder writes, one with an open update or with an unavailable member waits (DESIGN CHOICE, log 172). `late` says the pass cannot keep its pace.
DESIGN CHOICE, log 172. -/
def execScrubPosition (errs : List (Nat × Image)) (late : Bool) (s : State) : Result :=
  if s.bit D.CON_CTL_scrub = false ∨ s.isFlushing ∨ s.shareStopped then .next s
  else
    let st := s.rd D.CON_SCRUBPOS_stripe
    let n := s.med.scrubLeaf
    let s0 := s.wr D.CON_STAT_scrubbing 1
    let s1 := if late then s0.log E.CON_SCRUB_LATE 0 (s.rd D.CON_SCRUBPOS_pct) st else s0
    if (s1.stripe st).st = 4 ∨ isSentinel st then .next ({ s1 with med := { s1.med with scrubLeaf := 63 } } : State).scrubNext
    else if (s1.stripe st).exposed.isSome ∨ (s1.stripe st).st = 3 ∨ s1.updating st n ∨
        (s1.stripe st).members.any (fun j => s1.unavail (partOfRow (rowOf st) j)) then .next s1
    else .next (s1.scrubAt st n errs).scrubNext

/-- SCRUB_RESTART (R171). -/
def State.scrubRestart (s : State) : State :=
  ((({ s with med := { s.med with scrubLeaf := 0 } } : State).wr D.CON_SCRUBPOS_stripe 0).wr D.CON_SCRUBPOS_pct 0).wr
    D.CON_STAT_scrubbing 1

/-- SCRUB_RESTART (R171). -/
def execScrubRestart (s : State) : Result := .next s.scrubRestart

/-! Reclaim (R154). -/

/-- RECLAIM (R154): it moves a tile out of the INUSE stripe with the fewest mapped members, at most 4. -/
def execReclaim (pick : Fin 33554432) (s : State) : Result :=
  let n := s.openStripes
  let run := decide (n < 262144) || (s.med.reclaim && decide (n ≤ 524288))
  let s1 : State := { s with med := { s.med with reclaim := run } }
  if run = false ∨ s.isFlushing ∨ (s.shareStopped ∧ 65536 ≤ n) then .next s1
  else
    let l := (s1.med.stripes.filter (fun e => decide (e.2.st = 2 ∧ 0 < e.2.mapped ∧ e.2.mapped ≤ 4))).map (fun e => (e.2.mapped, e.1))
    match l.foldl (fun (a : Option (Nat × Nat)) e => match a with
        | none => some e
        | some x => if e.1 < x.1 then some e else a) none with
    | none => .next s1
    | some (_, st) =>
      match ((s1.stripe st).data.filterMap (fun j => s1.logicalOf (tileOfMember st j))).find? (fun t => !SMap.has s1.med.moves t) with
      | some t => .next (s1.moveStart t pick)
      | none => .next s1

/-! Rebuild (R175, R176). -/

/-- The rebuild that runs: the lowest pending row. -/
def State.rebuildNow (s : State) : Option Rebuild :=
  s.med.rebuilds.foldl (fun (a : Option Rebuild) r => match a with
    | none => some r
    | some x => if r.row < x.row then some r else a) none

/-- The stripe that takes rebuilt tiles: the one open, of the code and in another row, with a FREE data member; else a FREE or
CLEAN one in another row, `pick` (R175). The one open before is no longer being built. -/
def State.rebuildPlace (s : State) (row : Nat) (light : Bool) (pick : Nat) : Option (Nat × State) :=
  let take (a : State) (n : Nat) : Option (Nat × State) :=
    ((a.freshMembers n).head?).map (fun p =>
      let b := a.takeTile p
      (p, b.setStripe n { b.stripe n with st := 3 }))
  let fits (n : Nat) : Bool := decide (rowOf n ≠ row) && s.openable n && ((s.stripe n).light == light) && !(s.freshMembers n).isEmpty
  match s.med.reb.filter fits with
  | some n => take s n
  | none =>
    if rowOf pick = row then none
    else (s.readyStripe pick light).bind (fun s1 =>
      let s2 := match s1.med.reb with
        | some n => s1.setStripe n { s1.stripe n with st := 2 }
        | none => s1
      take { s2 with med := { s2.med with reb := some pick } } pick)

/-- The written leaves of a logical tile. -/
def State.writtenLeaves (s : State) (t : Nat) : List Nat := (List.range 64).filter (fun n => (s.catEnt t).written.getLsbD n)

/-- A mapped tile on the lost member is rebuilt from the other members onto the rebuild stripe (R175); with a second member lost,
its leaves are (R176), as is one that does not verify. The leaves lost are answered. It waits while an update is open on the
stripe that takes it (R134). -/
def State.rebuildTile (s : State) (st j t pick : Nat) (gone : Bool) : Option (List Nat × State) :=
  match s.rebuildPlace (rowOf st) (s.stripe st).light pick, s.baseKey t with
  | some (q, s1), some k =>
    if s1.med.updates.any (fun u => decide (u.stripe = stripeOf q)) ∨ s1.noWrite (partKey q) ∨
        s1.noWrite (memberPart q (s1.stripe (stripeOf q)).ppos) then none
    else
      let ns := s.writtenLeaves t
      let s1' := if gone then s1
        else ((s.stripe st).members.filter (fun m => m ≠ j)).foldl (fun (a : State) m => a.countReads (tileOfMember st m) ns.length) s1
      let x := ns.foldl (fun (a : List Nat × State) n =>
        let img := a.2.xorOthers st j n
        if gone = false ∧ tagOk t img ∧ macOk k t n img then
          (a.1, a.2.writeWithParity q n (buildImage k (a.2.stripe (stripeOf q)).light t n a.2.now (imagePlain k t n img)))
        else (a.1 ++ [t * 64 + n], a.2.loseLeaf t n)) ([], s1')
      let s2 := ((x.2.journal 4 t q 0).journal 5 t q 0).afterJournal (.phys (tileOfMember st j))
      some (x.1, s2)
  | _, _ => none

/-- The written leaves of the other lost members of a stripe are recorded as lost (R176). -/
def State.loseOthers (s : State) (st : Nat) (js : List Nat) : List Nat × State :=
  (js.filterMap (fun j => s.logicalOf (tileOfMember st j))).foldl (fun (x : List Nat × State) t =>
    (x.2.writtenLeaves t).foldl (fun (y : List Nat × State) n =>
      if (List.range 4).all (fun k => y.2.isLost ((t * 64 + n) * 4 + k)) then y else (y.1 ++ [t * 64 + n], y.2.loseLeaf t n)) x) ([], s)

/-- A member is gone from every stripe of a row below an index. -/
def State.markRow (s : State) (row j i : Nat) : State :=
  { s with med := { s.med with rowGone := SMap.put 0 s.med.rowGone (row * 16 + j) i } }

/-- The row's pair of excision records ends, and the rebuild stripe is built (R175). -/
def State.endRow (s : State) (r : Rebuild) : State :=
  let first := r.row * 2 ^ 18
  let s1 := match (s.stripe first).exposed with
    | some (j, np) => s.clogNow 0x03 first j np
    | none => s
  let s2 := match s1.med.reb with
    | some n => s1.setStripe n { s1.stripe n with st := 2 }
    | none => s1
  { s2 with med := { s2.med with reb := none } }

/-- The tile at a member's place becomes RETIRED and its rebuild is done for this stripe; the row's end is logged (R174, R175). -/
def State.rebuildNext (s : State) (r : Rebuild) : State :=
  let i := r.index + 1
  let s1 := s.markRow r.row r.member i
  let put (a : State) : State := a.setRebuilds (a.med.rebuilds.map (fun x => if x.row = r.row ∧ x.member = r.member then { x with index := i } else x))
  let s2 := (put s1).wr D.CON_REBUILD_index i
  if i = 2 ^ 18 then
    let d := (r.row / 64 * 16 + r.member) * 8 + r.row / 8 % 8
    let s2' := s2.endRow r
    let s3 := (s2'.clogNow 0x09 r.row r.member 0).setRebuilds (s2'.med.rebuilds.filter (fun x => !(decide (x.row = r.row ∧ x.member = r.member))))
    let done := !s3.med.rebuilds.any (fun x => decide ((x.row / 64 * 16 + x.member) * 8 + x.row / 8 % 8 = d))
    let s4 := if done ∧ ((s3.die d).retired ∨ (s3.chan (d / 8)).gone) then s3.wr D.CON_DIE_state 3 d else s3
    (s4.wr D.CON_REBUILD_index 0).spareCheck
  else if i % 4096 = 0 then s2.clogNow 0x08 r.row r.member i
  else s2

/-- A stripe of the pending row without its lost member: parity is recomputed, the row's EXCISE_BEGIN logged before its first
stripe (R175). -/
def State.rebuildParity (s : State) (r : Rebuild) (st np : Nat) : State :=
  let s1 := if r.index = 0 ∧ (s.stripe st).exposed.isNone then s.clogNow 0x02 st r.member np else s
  let s2 := if (s1.stripe st).st = 1 then s1 else s1.parityWithout st r.member np
  s2.setStripe st { SMap.get (StripeRec.init st) s2.med.stripes st with ppos := np }

/-- CON_REBUILD_LOSS (R176), with the first leaf lost. -/
def State.rebuildLoss (s : State) (row : Nat) (l : List Nat) : State :=
  match l with
  | [] => s
  | a :: _ => s.log E.CON_REBUILD_LOSS row (min 65535 l.length) (a * 256)

/-- REBUILD_STRIPE (R173, R175, R176): one stripe of the pending row; CLOSED and sentinel stripes are passed over. It stalls while
a second member is away for a pause; where a second member is lost, the leaf positions with mapped data on either are recorded as
lost. A stripe that would be too narrow is emptied and closed. DESIGN CHOICE, log 103. -/
def execRebuildStripe (pick : Fin 33554432) (s : State) : Result :=
  match s.rebuildNow with
  | none => .next s
  | some r =>
    let others := (s.rowUnavail r.row).filter (fun j => j ≠ r.member)
    if others.any (fun j => !s.lostPart (partOfRow r.row j)) then .next (s.wr D.CON_REBUILD_state 2)
    else
      let s0 := s.wr D.CON_REBUILD_state 1
      let st := r.row * 2 ^ 18 + r.index
      let x := s0.stripe st
      let p := tileOfMember st r.member
      if isSentinel st ∨ x.st = 4 ∨ x.isGone r.member then .next (s0.rebuildNext r)
      else if x.st = 3 ∨ s0.med.updates.any (fun u => decide (u.stripe = st)) then .next s0
      else
        let lost := s0.loseOthers st others
        let due (t : Nat) : Bool := !lost.2.med.jpend.any (fun e => decide (e.type = 5 ∧ e.tile = t))
        let moved : Option (List Nat × State) := match (lost.2.logicalOf p).filter due with
          | some t => (lost.2.rebuildTile st r.member t pick (others ≠ [])).map (fun y => (lost.1 ++ y.1, y.2))
          | none => some lost
        match moved with
        | none => .next s0
        | some (l, s1) =>
          let s2 := s1.rebuildLoss r.row l
          if s2.tooNarrow st then
            .next (if x.mapped = 0 then (s2.closeStripe st).logWrite.rebuildNext r else s2.moveOut st pick r.member)
          else match s2.newPpos st r.member with
            | some np => .next ((s2.rebuildParity r st np).rebuildNext r)
            | none => match s2.leastWritten st with
              | some t => .next (s2.moveStart t pick)
              | none => .next s2

/-! Temperature history (R177). -/

/-- The bin of a temperature in °C, two's complement in 8 bits. -/
def tempBin (v : Nat) : Nat :=
  let t : Int := (BitVec.ofNat 8 v).toInt
  min 31 ((t + 40) / 5).toNat

/-- TEMP_HISTOGRAM (R177): once a second each present die adds to its bin. -/
def execTempHistogram (s : State) : Result :=
  .next ((List.range 256).foldl (fun (a : State) d =>
    if (a.die d).present ∧ (a.chan (d / 8)).gone = false then
      a.addSat D.CON_THIST_dies 1 (tempBin (a.rd D.CON_DIE_temp d)) else a) s)

/-- HISTOGRAM_SAVE (R177). -/
def execHistogramSave (s : State) : Result :=
  .next (s.pageWrite 3 (some (pageOfWords ((List.range 32).map (fun k => s.rd D.CON_THIST_dies k)))) .hist)

end Sys2Proof.Machine
end

