-- ==== Sys2Proof/Machine/RegionOps.lean ====
section
/-! DEFINITION. The region operations (R45 to R54, R282): their checks, their commit, the switch of each home slice, what
follows it and the status. -/

namespace Sys2Proof.Machine

/-! Status codes (Table 2.7). -/

def rgnOk : Nat := 0x00
def rgnBadRange : Nat := 0x01
def rgnOverlap : Nat := 0x02
def rgnInUse : Nat := 0x03
def rgnNoRegion : Nat := 0x04
def rgnSealed : Nat := 0x05
def rgnFixed : Nat := 0x06
def rgnNoKey : Nat := 0x07

/-! Checks. -/

/-- The operation under way on a region (R51). -/
def State.rgnOp (s : State) (n : Nat) : Option RgnOp := s.rops.find? (fun o => decide (o.region = n))

/-- Replaces the operation on a region. -/
def State.setRgnOp (s : State) (o : RgnOp) : State :=
  { s with rops := s.rops.map (fun q => if q.region = o.region then o else q) }

/-- Whether two ranges of granules meet. -/
def rangesMeet (b1 n1 b2 n2 : Nat) : Bool := decide (b1 < b2 + n2 ∧ b2 < b1 + n1)

/-- Whether a granule of a range belongs to a region other than region 0, or to a create accepted earlier (R45, R51). -/
def State.rgnOverlaps (s : State) (base size : Nat) : Bool :=
  s.regions.any (fun e => decide (e.1 ≠ 0 ∧ e.2.st ≠ .free) && rangesMeet base size e.2.base e.2.size) ||
    s.rops.any (fun o => decide (o.kind = .create) && rangesMeet base size o.new.base o.new.size)

/-- Whether a descriptor's key slot holds no key of a cipher type (R40, R378). -/
def State.rgnNoKeyAt (s : State) (k : Nat) : Bool :=
  if 64 ≤ k then false
  else match SMap.find s.slots k with
    | some x => decide (x.type = .hmac)
    | none => true

/-- Whether a region holds a sealed segment, or one whose sealing has begun (R48, R52). -/
def State.rgnSealedIn (s : State) (n : Nat) : Bool :=
  s.cur.accs.any (fun e => decide (e.2.st ≠ .free ∧ e.2.region = n ∧ (0 < e.2.segments ∨ e.2.st = .sealing)))

/-- Whether a key operation under way names a slot: an operation that names it waits for it. DEDUCED, log 78. -/
def State.keyBusy (s : State) (k : Nat) : Bool := s.keyOps.any (fun o => decide (o.slot = k))

/-- An operation is accepted: its page write is queued and its context held (R49, R262). -/
def State.rgnBegin (s : State) (c : Nat) (d : BitVec 5) (kind : RgnKind) (n : Nat) (new : Region) (adjusted : Bool) : State :=
  let o : RgnOp := ⟨kind, n, some c, s.region n, new, adjusted, false, 0, [], false, false, false⟩
  let s1 := ({ s with rops := s.rops ++ [o] } : State).pageWrite (256 + n / 8) none (.region n)
  s1.setCtx c { s1.ctx c with hold := .op 0x3C d }

/-- A refused operation writes its status at once. -/
def State.rgnRefuse (s : State) (c : Nat) (d : BitVec 5) (code : Nat) : State :=
  s.setAndGo c (s.ctx c) d (BitVec.ofNat 64 code) 0x3C

/-- A create of region `n` from words 0 to 2 of a descriptor (R45, R54). -/
def State.rgnCreate (s : State) (c : Nat) (d : BitVec 5) (l : Line) : State :=
  let n := bitsOf (wordAt l 0) 61 50
  let base := bitsOf (wordAt l 0) 42 24
  let size := bitsOf (wordAt l 1) 18 0
  let a := attrOfWord (wordAt l 2)
  let k := fixKeyslot a.keyslot
  if (s.rgnOp n).isSome ∨ s.keyBusy k then s
  else if n = 0 ∨ (s.region n).st ≠ .free then s.rgnRefuse c d rgnInUse
  else if size = 0 ∨ 458752 < base + size then s.rgnRefuse c d rgnBadRange
  else if s.rgnOverlaps base size then s.rgnRefuse c d rgnOverlap
  else if s.rgnNoKeyAt k then s.rgnRefuse c d rgnNoKey
  else
    let r := a.resolve n
    s.rgnBegin c d .create n ⟨.live, base, size, 0, r, 0⟩ (decide (r ≠ a))

/-- A change of a LIVE region (R47, R48, R54). -/
def State.rgnChange (s : State) (c : Nat) (d : BitVec 5) (l : Line) : State :=
  let n := bitsOf (wordAt l 0) 61 50
  let a := attrOfWord (wordAt l 2)
  let k := fixKeyslot a.keyslot
  let e := s.region n
  let r := a.resolve n
  if (s.rgnOp n).isSome ∨ s.keyBusy k then s
  else if e.st ≠ .live then s.rgnRefuse c d rgnNoRegion
  else if s.rgnNoKeyAt k then s.rgnRefuse c d rgnNoKey
  else if r.light ≠ e.attr.light ∨ r.append ≠ e.attr.append ∨ r.keyslot ≠ e.attr.keyslot then s.rgnRefuse c d rgnFixed
  else if e.attr.sealable ∧ r.sealable = false ∧ s.rgnSealedIn n then s.rgnRefuse c d rgnSealed
  else s.rgnBegin c d .change n { e with attr := r, gen := (e.gen + 1) % 2 ^ 32 } (decide (r ≠ a))

/-- A delete of a LIVE region (R52, R54, R282). -/
def State.rgnDelete (s : State) (c : Nat) (d : BitVec 5) (a : Nat) : State :=
  let n := a % 4096
  let e := s.region n
  if 4096 ≤ a then s.rgnRefuse c d rgnNoRegion
  else if (s.rgnOp n).isSome then s
  else if n = 0 then s.rgnRefuse c d rgnFixed
  else if e.st ≠ .live then s.rgnRefuse c d rgnNoRegion
  else if s.rgnSealedIn n then s.rgnRefuse c d rgnSealed
  else s.rgnBegin c d .delete n { e with st := .deleting } false

/-- RGNCREATE (R45, R282). -/
def execRgncreate (c : Fin 256) (d a : BitVec 5) (ext : Ext) (s : State) : Result :=
  .next (s.floor c .steward 0x3C (fun x => s.withLine c 0x3C (x.reg a).toNat ext (fun s l => s.rgnCreate c d l)))

/-- RGNCHANGE (R47, R48, R282). -/
def execRgnchange (c : Fin 256) (d a : BitVec 5) (ext : Ext) (s : State) : Result :=
  .next (s.floor c .steward 0x3C (fun x => s.withLine c 0x3C (x.reg a).toNat ext (fun s l => s.rgnChange c d l)))

/-- RGNDELETE (R52, R282). -/
def execRgndelete (c : Fin 256) (d a : BitVec 5) (s : State) : Result :=
  .next (s.floor c .steward 0x3C (fun x => s.rgnDelete c d (x.reg a).toNat))

/-! The commit. -/

/-- The tiles of a region's range. -/
def Region.tiles (r : Region) : Nat × Nat := (r.base * 1024, r.size * 1024)

/-- The builders of a region close (R138). -/
def State.closeBuilders (s : State) (n : Nat) : State :=
  { s with med := { s.med with
      builders := s.med.builders.map (fun b => if b.region = n then { b with closing := true } else b) } }

/-- The tiles of a range are unmapped in the catalogue; the entry on media is what R44 carries to completion. -/
def State.rgnUnmap (s : State) (o : RgnOp) : State :=
  let t := o.new.tiles
  (s.unmap t.1 t.2).afterJournal (.region o.region)

/-- Whether a line of this device belongs to the region of an operation; region 0 has what no other region covers (R38). -/
def State.inRegion (s : State) (o : RgnOp) (gl : Nat) : Bool :=
  s.isLocal gl && o.new.covers (granuleOf (llOf gl)) && (decide (o.region ≠ 0) || decide (s.regionNo gl = 0))

/-- Whether it has slice `sl` as its home as well. -/
def State.inSlice (s : State) (o : RgnOp) (sl gl : Nat) : Bool := decide (sliceOf gl = sl) && s.inRegion o gl

/-- Every copy of the lines that pass a test is dropped, their bytes with it, and their charges end (R46, R53). -/
def State.dropLines (s : State) (p : Nat → Bool) : State :=
  let ws := (s.coh.wl.map (fun e => e.1 % 2 ^ 44)).filter p
  let s1 := ws.foldl (fun (a : State) gl => a.dropWings gl) s
  let s2 : State := { s1 with
    coh := { s1.coh with
      wbq := s1.coh.wbq.filter (fun e => !p e.gl)
      vit := SMap.keep (fun _ v => !p v.gl) s1.coh.vit
      evb := s1.coh.evb.filter (fun e => !p e.gl)
      homePoison := s1.coh.homePoison.filter (fun gl => !p gl) }
    med := { s1.med with
      stg := SMap.keep (fun ll _ => !p (s.glOf ll)) s1.med.stg
      builders := s1.med.builders.map (fun b => { b with
        lines := SMap.keep (fun k _ => !((b.slots[k / 256]?).any (fun e => p (s.glOf (e.1 * 256 + k % 256))))) b.lines }) } }
  (s2.coh.chg.filter (fun e => p e.1)).foldl (fun (a : State) (e : Nat × Nat) => a.release e.1) s2

/-- Lines of a range that are granted and whose delivery is awaited. -/
def State.grantedIn (s : State) (p : Nat → Bool) : List Nat := (s.coh.grants.filter (fun e => p e.1 && !e.2.away)).map Prod.fst

/-- A request in progress for a line whose content is discarded: what it has fetched or collected is gone, and it obtains the
line again. -/
def Txn.refetch (t : Txn) : Txn :=
  { t with got := none, wbPend := false, line := none, phase := if t.phase = .med ∨ t.phase = .stg then .alloc else t.phase }

/-- The previous content of the lines that pass a test is discarded wherever it is held, or on its way (R46): caches, staging,
builders, early-acknowledged writes, media reads and what requests in progress have fetched. -/
def State.discardLines (s : State) (p : Nat → Bool) : State :=
  let s1 := (List.range 4).foldl (fun (a : State) k =>
    a.setPort k { a.port k with eab := (a.port k).eab.filter (fun e => !p (lineOf e.ga)) }) (s.dropLines p)
  { s1 with
    coh := { s1.coh with txns := SMap.mapVal (fun gl t => if p gl then t.refetch else t) s1.coh.txns }
    med := { s1.med with reads := s1.med.reads.filter (fun r => !p (s.glOf ((r.tile * 64 + r.leaf) * 4))) } }

/-- A region operation commits: its page write has started (R49). A create discards the content of its range then, and recalls
its loans (R46): from here on every line of it reads as zero until it is written. -/
def State.rgnCommit (s : State) (n : Nat) : State :=
  match s.rgnOp n with
  | none => s
  | some o =>
    if o.committed then s
    else
      let new : Region := if o.kind = .create then { o.new with created := s.now } else o.new
      let p := s.inRegion o
      let o1 := { o with committed := true, new := new, due := if o.kind = .create then s.grantedIn p else [] }
      let s1 := (s.setRgnOp o1).setRegion n new
      if o.kind = .create then ((s1.rgnUnmap o1).discardLines p).recallWhere p else s1.closeBuilders n

/-- The second page write of a delete has started: the entry is FREE (R53). -/
def State.rgnFreed (s : State) (n : Nat) : State :=
  match s.rgnOp n with
  | some o => (s.setRgnOp { o with freed := true }).setRegion n (Region.init n)
  | none => s

/-! The switch of a slice (R49, R50, R53). -/

/-- The eviction buffer entries of the lines that pass a test go to staging, the oldest first (R50). -/
def State.stageEntries (s : State) (p : Nat → Bool) : State :=
  (s.coh.evb.filter (fun e => p e.gl)).foldl (fun (a : State) e =>
    if e.poison then a.losePoisoned e.gl else a.toStaging (llOf e.gl) e.data e.mask false)
    ({ s with coh := { s.coh with evb := s.coh.evb.filter (fun e => !p e.gl) } } : State)

/-- The dirty lines in the ways that pass a test go to staging, after what the eviction buffers hold of them; a poisoned one is lost
(R50, R194). -/
def State.stageLines (s : State) (p : Nat → Bool) : State :=
  (s.coh.vit.filter (fun e => p e.2.gl && e.2.dirty)).foldl (fun (a : State) (e : Nat × VLine) =>
    let x := a.takeWay (e.1 % 16) e.2
    if x.2.1 then (x.2.2.dropWay e.2.gl (e.1 % 16)).losePoisoned e.2.gl
    else (x.2.2.setWay e.2.gl (e.1 % 16) { e.2 with data := x.1, dirty := false }).toStaging (llOf e.2.gl) x.1 fullMask false)
    (s.stageEntries p)

/-- Every wing copy of the lines that pass a test is written back and invalidated (R50). -/
def State.pullWings (s : State) (p : Nat → Bool) : State :=
  (s.coh.wl.filter (fun e => p (e.1 % 2 ^ 44))).foldl (fun (a : State) (e : Nat × WLine) =>
    a.wingFlushLine (e.1 / 2 ^ 44) (e.1 % 2 ^ 44)) s

/-- What a change asks of the lines of a region (R50). -/
def State.rgnSettle (s : State) (o : RgnOp) (p : Nat → Bool) : State :=
  let a := o.old.attr
  let b := o.new.attr
  let s1 := if b.wpol = .uc ∧ a.wpol ≠ .uc then s.pullWings p else s
  let s2 := if a.wpol = .wb ∧ b.wpol ≠ .wb then s1.stageLines p else s1
  if (a.loan ∧ b.loan = false) ∨ (b.wpol = .uc ∧ a.wpol ≠ .uc) then s2.recallWhere p else s2

/-- The lines a slice gives up at its switch point: those of a deleted range. A created range gave up its content at the
commit, and keeps what was written since. DEDUCED, log 77. -/
def State.rgnSwitch (s : State) (o : RgnOp) (sl : Nat) : State :=
  let p := s.inSlice o sl
  let s1 := s.setRgnOp { o with switched := o.switched ||| BitVec.ofNat 16 (2 ^ sl) }
  match o.kind with
  | .change => s1.rgnSettle o p
  | .create => s1.recallWhere p
  | .delete => (s1.dropLines p).recallWhere p

/-- REGION_SLICE_SWITCH (R49): a slice switches once no request accepted under the old entry is in progress there. -/
def execRegionSliceSwitch (region : Fin 4096) (slice : Fin 16) (s : State) : Result :=
  match s.rgnOp region with
  | none => .next s
  | some o =>
    let p := s.inSlice o slice
    if o.committed = false ∨ o.switched.getLsbD slice ∨ s.coh.txns.any (fun e => p e.1) ∨ s.coh.conf.any (fun r => p r.gl) then .next s
    else .next (s.rgnSwitch o slice)

/-! What follows, and the status. -/

/-- Whether what R46, R50 and R53 ask for before the status has been done. DEDUCED, log 76. -/
def State.rgnSettled (s : State) (o : RgnOp) : Bool :=
  let p := s.inRegion o
  let a := o.old.attr
  let b := o.new.attr
  match o.kind with
  | .create => decide (o.due = []) && o.unmapped && !s.coh.freqs.any (fun e => decide (e.2.kind = .inv) && p e.2.gl)
  | .delete => o.freed && o.unmapped
  | .change =>
    (decide (a.wpol ≠ .wb ∨ b.wpol = .wb) || !s.coh.vit.any (fun e => p e.2.gl && e.2.dirty)) &&
      (!((a.loan && !b.loan) || decide (b.wpol = .uc ∧ a.wpol ≠ .uc)) || !s.lentWhere p)

/-- REGION_DELETE_FREE (R53): the tiles are unmapped and the FREE entry is written. -/
def execRegionDeleteFree (region : Fin 4096) (s : State) : Result :=
  match s.rgnOp region with
  | none => .next s
  | some o =>
    let p := s.inRegion o
    if o.kind ≠ .delete ∨ o.committed = false ∨ o.switched ≠ BitVec.allOnes 16 ∨ o.freeing ∨ s.lentWhere p then .next s
    else
      let s1 := (s.setRgnOp { o with freeing := true }).rgnUnmap { o with freeing := true }
      .next (s1.pageWrite (256 + region.val / 8) none (.regionFree region))

/-- REGION_OP_STATUS (R50, R54): every slice has switched and the rest is complete. The status goes to the context. -/
def execRegionOpStatus (region : Fin 4096) (s : State) : Result :=
  match s.rgnOp region with
  | none => .next s
  | some o =>
    if o.switched ≠ BitVec.allOnes 16 ∨ s.rgnSettled o = false then .next s
    else
      let s1 : State := { s.tWarden 0x02 1 with rops := s.rops.filter (fun q => q.region ≠ region.val) }
      match o.ctx with
      | some c => .next (s1.opDone c 0x3C (rgnOk + b2n o.adjusted * 0x80))
      | none => .next s1

end Sys2Proof.Machine
end

