-- ==== Sys2Proof/Machine/LedgerCommit.lean ====
section
/-! DEFINITION. A ledger page write from its start to its end (R441 to R446): the torn-write guard, the commit of the operation
that issued it, and the verify. -/

namespace Sys2Proof.Machine

/-- The bank of a page (R438). -/
def bankOf (p : Nat) : Nat := p % 4

/-- Whether a bank is writing. -/
def State.bankBusy (s : State) (b : Nat) : Bool := s.led.queue.any (fun w => w.started && decide (bankOf w.page = b))

/-- Keeps LDG_STAT.busy. -/
def State.ldgBusy (s : State) : State :=
  s.wr D.LDG_STAT_busy ((List.range 4).foldl (fun n b => n + b2n (s.bankBusy b) * 2 ^ b) 0)

/-- Whether a header page still waits for a data page of its copy (R446). -/
def State.headerWaits (s : State) (o : PgOwner) : Bool :=
  match o with
  | .member copy page => decide (page = 7) && s.led.queue.any (fun w => match w.owner with
    | .member c p => decide (c = copy ∧ p ≠ 7)
    | _ => false)
  | _ => false

/-- The next write of a bank: the one accepted first of those that have not started (R441). DEDUCED, log 75. -/
def State.nextWrite (s : State) (b : Nat) : Option PgWrite :=
  s.led.queue.find? (fun w => decide (bankOf w.page = b) && !w.started)

/-- Replaces the first write that has not started of a page. -/
def startFirst (page : Nat) : List PgWrite → List PgWrite
  | [] => []
  | w :: r => if w.page = page ∧ w.started = false then { w with started := true } :: r else w :: startFirst page r

/-- The commit of the operation that issued a write, at the instant it starts (R441). -/
def State.pageCommit (s : State) (o : PgOwner) : State :=
  match o with
  | .region n => s.rgnCommit n
  | .regionFree n => s.rgnFreed n
  | .key slot => s.keyCommit slot
  | .acc c => s.accCommit c
  | .sealOf n => s.sealCommitted n
  | .alert life overC underC shutdown dirty => s.setLed { s.led with alerts := ⟨life, overC, underC, shutdown, dirty⟩ }
  | _ => s

/-- The bytes a page holds once a write of it has started: those of the write, those of the region table, or none stated. -/
def State.pageStore (s : State) (w : PgWrite) : State :=
  match w.data with
  | some b => s.ldgPut w.page b
  | none =>
    if 256 ≤ w.page ∧ w.page ≤ 767 then s.ldgPut w.page (regionPage s.region (w.page - 256))
    else s.setLed { s.led with pages := SMap.del s.led.pages w.page }

/-- Whether a region operation accepted earlier has not committed yet: commits keep the order of acceptance (R51). -/
def State.rgnWaits (s : State) (o : PgOwner) : Bool :=
  match o with
  | .region n => (s.rops.takeWhile (fun q => decide (q.region ≠ n))).any (fun q => !q.committed)
  | _ => false

/-- PAGE_WRITE_START (R441, R443): the guard finds VLEDGER in range and the reserve charged, or refuses. -/
def execPageWriteStart (page : Fin 16384) (supply reserve : Bool) (s : State) : Result :=
  let s0 := (s.wr D.LDG_STAT_supply (b2n supply)).wr D.LDG_STAT_reserve (b2n reserve)
  match s.nextWrite (bankOf page) with
  | none => .next s0
  | some w =>
    if w.page ≠ page.val ∨ s.bankBusy (bankOf page) ∨ w.refused ∨ s.headerWaits w.owner ∨ s.rgnWaits w.owner then .next s0
    else if supply = false ∨ reserve = false then
      let s1 := s0.setLed { s.led with queue := s.led.queue.map (fun q => if q = w then { q with refused := true } else q) }
      .next ((s1.addSat D.LDG_ERR_guardref 1).log E.LDG_GUARD_REFUSE 0 0 page)
    else
      let s1 := s0.setLed { s.led with queue := startFirst page s.led.queue }
      .next ((s1.pageCommit w.owner).pageStore w).ldgBusy

/-- GUARD_RETRY (R443): a refused write is tried again. -/
def execGuardRetry (page : Fin 16384) (s : State) : Result :=
  .next (s.setLed { s.led with queue := s.led.queue.map (fun q => if q.page = page.val then { q with refused := false } else q) })

/-- A mailbox command that waits for its pages returns once the last is written (R311). -/
def State.mboxPages (s : State) (port : Nat) : State :=
  if s.led.queue.any (fun w => decide (w.owner = .lsa port)) ∨ (s.port port).lsaDue = false then s
  else (s.setPort port { s.port port with lsaDue := false }).emit (.mbox port 0 [])

/-- Page 2 as the newest accepted write leaves it. -/
def State.alertsNow (s : State) : Alerts :=
  s.led.queue.foldl (fun a w => match w.owner with
    | .alert life overC underC shutdown dirty => ⟨life, overC, underC, shutdown, dirty⟩
    | _ => a) s.led.alerts

/-- What follows a page write that has ended. -/
def State.pageAfter (s : State) (o : PgOwner) (ok : Bool) : State :=
  match o with
  | .raw => s.ldgRawEnd (if ok then 0x00 else 0x02)
  | .twoCopy => if ok then s.ldgTcEnd 0x00 else let f := s.fresh; f.2.ldgTcEnd (f.1.toNat % 256)
  | .key slot => s.keyDone slot
  | .acc c => s.accDone c
  | .lsa port => s.mboxPages port
  | _ => s

/-- PAGE_WRITE_DONE (R445): the write that has started of a page ends; a failed verify leaves the page uncorrectable.
DEDUCED, log 74. -/
def execPageWriteDone (page : Fin 16384) (ok : Bool) (s : State) : Result :=
  match s.led.queue.find? (fun w => decide (w.page = page.val) && w.started) with
  | none => .next s
  | some w =>
    let s1 := ((s.tWarden 0x03 1).setLed { s.led with queue := s.led.queue.erase w }).ldgBusy
    let s2 := if ok then s1.setLed { s1.led with bad := s1.led.bad.filter (fun q => q ≠ page.val) }
      else ((s1.pageBad page).pageUncorr page false).pageLost page
    .next (s2.pageAfter w.owner ok)

end Sys2Proof.Machine
end

