-- ==== Sys2Proof/Machine/Firmware.lean ====
section
/-! DEFINITION. Firmware update (Chapter 18): packages and their checks, transfer, online and offline activation. -/

namespace Sys2Proof.Machine

/-! Packages (R495 to R497). -/

/-- Bytes `o` to `o + n - 1` of a package header, as a number. -/
def hdrAt (h : BitVec 4096) (o n : Nat) : Nat := h.toNat / 2 ^ (8 * o) % 2 ^ (8 * n)

/-- Version, svn, fmt_lo, fmt_hi, fmt_w and minonline of a header (Table 18.2). -/
def hdrVersion (h : BitVec 4096) : Nat := hdrAt h 8 4
def hdrSvn (h : BitVec 4096) : Nat := hdrAt h 12 2
def hdrFmtLo (h : BitVec 4096) : Nat := hdrAt h 14 1
def hdrFmtHi (h : BitVec 4096) : Nat := hdrAt h 15 1
def hdrFmtW (h : BitVec 4096) : Nat := hdrAt h 16 1
def hdrMinOnline (h : BitVec 4096) : Nat := hdrAt h 20 4

/-- Greatest length of a part, its first slot page in set A, and its pages in a slot (Table 18.1). -/
def partMax (i : Nat) : Nat := ([196608, 262144, 32768, 16384][i]?).getD 0
def partPage (i : Nat) : Nat := ([12300, 13836, 15884, 16140][i]?).getD 0
def partPages (i : Nat) : Nat := ([768, 1024, 128, 64][i]?).getD 0

/-- Length of a part and its pages in the package. -/
def hdrLen (h : BitVec 4096) (i : Nat) : Nat := hdrAt h (64 + 64 * i) 4
def hdrPages (h : BitVec 4096) (i : Nat) : Nat := (hdrLen h i + 255) / 256

/-- Length of a package (R495). -/
def packageLen (h : BitVec 4096) : Nat := 512 + 256 * ((List.range 4).map (hdrPages h)).sum

/-- The header checks made when its 512 bytes have arrived (R500). -/
def hdrOk (h : BitVec 4096) (minsvn : Nat) : Bool :=
  decide (hdrAt h 0 4 = 0x57465448) && decide (hdrAt h 4 2 = 1) && decide (hdrAt h 6 2 = 0x7620) &&
    (List.range 4).all (fun i => decide (hdrLen h i ≤ partMax i)) && decide (minsvn ≤ hdrSvn h)

/-- Reserved fields are zero and the formats are in order (Table 18.2). -/
def hdrForm (h : BitVec 4096) : Bool :=
  decide (hdrAt h 17 3 = 0) && decide (hdrAt h 40 24 = 0) && decide (hdrAt h 320 128 = 0) &&
    decide (hdrFmtLo h ≤ hdrFmtW h ∧ hdrFmtW h ≤ hdrFmtHi h)

/-- First slot page of a part in a set. -/
def slotPage (set i : Nat) : Nat := partPage i + set * partPages i

/-- Header of a set. -/
def State.fwHdr (s : State) (set : Nat) : BitVec 4096 := if set = 0 then s.fw.hdrA else s.fw.hdrB

/-- The stored bytes of a part of a set; none where a page of it is uncorrectable (R494) or was never written. -/
def State.partBytes (s : State) (h : BitVec 4096) (set i : Nat) : Option Bytes :=
  (List.range (hdrPages h i)).foldr (fun k (a : Option Bytes) =>
    let p := slotPage set i + k
    match SMap.find s.led.pages p, a with
    | some b, some r => if s.led.bad.contains p then none else some (leBytes b.toNat 256 ++ r)
    | _, _ => none) (some [])

/-- The plaintext of a part, where its tag and its digest are good (R496, R497). -/
def State.partPlain (s : State) (h : BitVec 4096) (set i : Nat) : Option Bytes :=
  match s.partBytes h set i with
  | none => none
  | some b =>
    let key := leBytes Config.transportKey.toNat 32
    let o := 64 + 64 * i
    let ct := b.take (hdrLen h i)
    let nonce := leBytes (hdrAt h (o + 4) 12) 12
    let plain := gcmText key nonce ct
    if gcmTag key nonce (leBytes (hdrAt h 0 64) 64) ct = leBytes (hdrAt h (o + 16) 16) 16 ∧
        sha256 plain = leBytes (hdrAt h (o + 32) 32) 32 then some plain else none

/-- The checks of R497: 0 where they hold, 1 AUTH, 2 ROLLBACK_SVN. -/
def State.setCheck (s : State) (h : BitVec 4096) (set : Nat) : Nat :=
  let dg : BitVec 256 := BitVec.ofNat 256 (ofLe (sha256 (leBytes (hdrAt h 0 448) 448)))
  let sg : BitVec 512 := BitVec.ofNat 512 (hdrAt h 448 64)
  if hdrOk h 0 = false ∨ hdrForm h = false ∨ (List.range 4).any (fun i => (s.partPlain h set i).isNone) ∨
      Config.fwSigValid dg sg = false then 1
  else if hdrSvn h < s.rd D.FWU_ARB_minsvn then 2 else 0

/-! The directory (R493, R494). -/

/-- Whether a set is marked VALID. -/
def State.fwValid (s : State) (set : Nat) : Bool := s.bit (if set = 0 then D.FWU_STAT_valida else D.FWU_STAT_validb)

/-- The active set, and the pending set. -/
def State.fwActive (s : State) : Nat := s.rd D.FWU_STAT_active
def State.fwPending (s : State) : Option Nat :=
  if s.rd D.FWU_STAT_pending = 0 then none else some (s.rd D.FWU_STAT_pending - 1)

/-- The directory is written to the copy not written last (R446); its status and header pages have no stated layout.
DEDUCED, log 73. -/
def State.dirSave (s : State) : State :=
  let c := 1 - s.fw.dirCopy
  let half (h : BitVec 4096) (k : Nat) : Option Page := some (BitVec.ofNat 2048 (h.toNat / 2 ^ (2048 * k)))
  let page (k : Nat) : Option Page := if k < 2 then half s.fw.hdrA k else if k < 4 then half s.fw.hdrB (k - 2) else none
  let s1 : State := { s with fw := { s.fw with dirCopy := c } }
  (List.range 6).foldl (fun (a : State) k => a.pageWrite (12288 + 6 * c + k) (page k) .bytes) s1

/-- The anti-rollback record is written to its four copies (R493). -/
def State.arbSave (s : State) : State :=
  (List.range 4).foldl (fun (a : State) k => a.pageWrite (16268 + k) none .bytes) s

/-- Marks a set VALID with its header, or INVALID (Table 18.6: its version reads 0). -/
def State.fwMark (s : State) (set : Nat) (ok : Bool) : State :=
  let h := s.fwHdr set
  if set = 0 then
    (((s.wr D.FWU_STAT_valida (b2n ok)).wr D.FWU_SETA_version (if ok then hdrVersion h else 0)).wr D.FWU_SETA_svn
      (hdrSvn h)).wr D.FWU_SETA_fmtw (hdrFmtW h)
  else
    (((s.wr D.FWU_STAT_validb (b2n ok)).wr D.FWU_SETB_version (if ok then hdrVersion h else 0)).wr D.FWU_SETB_svn
      (hdrSvn h)).wr D.FWU_SETB_fmtw (hdrFmtW h)

/-- Gives a set its header. -/
def State.fwSetHdr (s : State) (set : Nat) (h : BitVec 4096) : State :=
  if set = 0 then { s with fw := { s.fw with hdrA := h } } else { s with fw := { s.fw with hdrB := h } }

/-- Ends a transfer or activation with a status, and the part and instance that failed (0xF: none). -/
def State.fwResult (s : State) (status : Nat) (part : Nat := 15) (inst : Nat := 0) : State :=
  ((s.wr D.FWU_RESULT_status status).wr D.FWU_RESULT_part part).wr D.FWU_RESULT_inst inst

/-! Mailbox results. -/

/-- The CXL return code of a status (Table 18.4). -/
def fwCode (status : Nat) : Nat := ([0x00, 0x0A, 0x0A, 0x02, 0x0D, 0x0C, 0x0B, 0x06, 0x12][status]?).getD 0x04

/-- A mailbox command returns on a port. -/
def State.reply (s : State) (port code : Nat) (ws : List Nat := []) : State := s.emit (.mbox port code ws)

/-- Whether a background command runs (R312). -/
def State.bgBusy (s : State) : Bool := (List.range 4).any (fun p => decide ((s.port p).bg = some 0x0201 ∨ (s.port p).bg = some 0x0202))

/-! Transfer (R500 to R502, R510). -/

/-- The set a transfer would write. -/
def State.fwTarget (s : State) : Option Nat :=
  if s.phase = stRomRecovery then
    (if s.fw.bad.getLsbD 0 then some 0 else if s.fw.bad.getLsbD 1 then some 1 else some (1 - s.fwActive))
  else
    let t := 1 - s.fwActive
    if s.fwPending = some t then none else some t

/-- The slot page that a package page goes to: part by part, in the order of their ids. -/
def pageOfPackage (h : BitVec 4096) (set q : Nat) : Option Nat :=
  let n (i : Nat) : Nat := hdrPages h i
  if q < n 0 then some (slotPage set 0 + q)
  else if q < n 0 + n 1 then some (slotPage set 1 + (q - n 0))
  else if q < n 0 + n 1 + n 2 then some (slotPage set 2 + (q - n 0 - n 1))
  else if q < n 0 + n 1 + n 2 + n 3 then some (slotPage set 3 + (q - n 0 - n 1 - n 2))
  else none

/-- One byte of the package arrives at an offset. -/
def State.fwByte (s : State) (o : Nat) (b : BitVec 8) : State :=
  if o < 512 then
    let h0 : BitVec 4096 := if o = 0 then 0 else s.fw.header
    { s with fw := { s.fw with header := h0 ||| ((b.setWidth 4096) <<< (8 * o)) } }
  else
    let k := (o - 512) % 256
    let f0 : Page := if k = 0 then 0 else s.fw.fill
    let f := f0 ||| ((b.setWidth 2048) <<< (8 * k))
    let s1 : State := { s with fw := { s.fw with fill := f } }
    if k < 255 then s1
    else match pageOfPackage s.fw.header s.fw.target ((o - 512) / 256) with
      | some p => s1.pageWrite p (some f) (.fw s.fw.target p)
      | none => s1

/-- The session closes. -/
def State.fwClose (s : State) : State := (s.wr D.FWU_XFER_open 0).wr D.FWU_STAT_state 0

/-- A block of a session arrives in order: its bytes are stored, and the header is checked once it is whole. The return code
is 0, or that of AUTH. DEDUCED, log 149. -/
def State.fwBlock (s : State) (data : Bytes) : Nat × State :=
  let o := s.rd D.FWU_XFER_next
  let s1 := (data.zipIdx).foldl (fun (a : State) e => a.fwByte (o + e.2) e.1) s
  let n := o + data.length
  let s2 := s1.wr D.FWU_XFER_next n
  if o < 512 ∧ 512 ≤ n ∧ hdrOk s2.fw.header (s.rd D.FWU_ARB_minsvn) = false then (fwCode 1, s2.fwClose.fwResult 1)
  else (0, s2)

/-- A session is closed without a result (R502). -/
def State.fwAborted (s : State) : State := s.fwClose.fwResult 8

/-- TRANSFER_FW_INITIATE (R500): opens a session on the port; the target is first marked INVALID. A full transfer names the
slot in `full` and ends at once. -/
def State.fwInitiate (s : State) (port : Nat) (data : Bytes) : Nat × State :=
  if s.bit D.FWU_XFER_open then (8, s)
  else if s.rd D.FWU_STAT_state ≠ 0 then (6, s)
  else match s.fwTarget with
    | none => (6, s)
    | some t =>
      let s1 : State := { s with fw := { s.fw with
        target := t, header := 0, fill := 0, shipped := s.fw.shipped &&& ~~~(BitVec.ofNat 2 (2 ^ t)) } }
      let s2 := (s1.fwMark t false).dirSave
      ((((s2.wr D.FWU_XFER_port port).wr D.FWU_XFER_open 1).wr D.FWU_XFER_next 0).wr D.FWU_STAT_state 1).fwBlock data

/-- A later block: from the session's port, at its next offset, and not past the package's end. -/
def State.fwContinue (s : State) (port off : Nat) (data : Bytes) : Nat × State :=
  if s.bit D.FWU_XFER_open = false then (2, s)
  else if s.rd D.FWU_XFER_port ≠ port then (8, s)
  else if off ≠ s.rd D.FWU_XFER_next then (9, s)
  else if 512 ≤ off ∧ packageLen s.fw.header < off + data.length then (2, s)
  else s.fwBlock data

/-- The end of a session (R501): the slot must be the target's, and the checks begin in the background. -/
def State.fwEnd (s : State) (port slot : Nat) : Nat × State :=
  if slot ≠ s.fw.target + 1 then (0x0B, s)
  else if s.bgBusy then (6, s)
  else
    let s1 := (s.wr D.FWU_XFER_open 0).wr D.FWU_STAT_state 2
    (1, s1.setPort port { s1.port port with bg := some 0x0201 })

/-- Answers a mailbox command with its code. -/
def answer (port : Nat) (r : Nat × State) : Result := .next (r.2.reply port r.1)

/-- Whether the mailbox of a port is there: its link is up and its configuration loaded. -/
def State.mboxUp (s : State) (port : Nat) : Bool := decide (s.portMode port ≠ 0) && (s.port port).loaded && s.phase ≠ stResetting

/-- TRANSFER_FW_INITIATE (R500). -/
def execTransferFwInitiate (port : Fin 4) (data : Bytes) (full : Option (Fin 256)) (s : State) : Result :=
  if s.mboxUp port = false then .next s
  else
    let r := s.fwInitiate port data
    match full with
    | none => answer port r
    | some slot => if r.1 = 0 then answer port (r.2.fwEnd port slot) else answer port r

/-- TRANSFER_FW_CONTINUE (R500): `off` is in units of 128 bytes. -/
def execTransferFwContinue (port : Fin 4) (off : BitVec 32) (data : Bytes) (s : State) : Result :=
  if s.mboxUp port = false then .next s else answer port (s.fwContinue port (off.toNat * 128) data)

/-- TRANSFER_FW_END (R501): the last block, and the slot it names. -/
def execTransferFwEnd (port : Fin 4) (off : BitVec 32) (data : Bytes) (slot : Fin 256) (s : State) : Result :=
  if s.mboxUp port = false then .next s
  else
    let r := s.fwContinue port (off.toNat * 128) data
    if r.1 = 0 then answer port (r.2.fwEnd port slot) else answer port r

/-- TRANSFER_FW_ABORT (R502). -/
def execTransferFwAbort (port : Fin 4) (s : State) : Result :=
  if s.mboxUp port = false then .next s
  else if s.bit D.FWU_XFER_open = false then answer port (2, s)
  else if s.rd D.FWU_XFER_port ≠ port.val then answer port (8, s)
  else answer port (0, s.fwAborted)

/-- TRANSFER_IDLE_TIMEOUT (R502). -/
def execTransferIdleTimeout (s : State) : Result := .next (if s.bit D.FWU_XFER_open then s.fwAborted else s)

/-- The set that was checked takes its result (R501). -/
def State.fwChecked (s : State) (code : Nat) : State :=
  let t := s.fw.target
  let s1 := s.wr D.FWU_STAT_state 0
  if code = 0 then
    let s2 := ((s1.fwSetHdr t s.fw.header).fwMark t true).dirSave
    (({ s2 with fw := { s2.fw with bad := s2.fw.bad &&& ~~~(BitVec.ofNat 2 (2 ^ t)) } } : State).fwResult 0).log E.FWU_TRANSFER_DONE 0 0 0
  else (s1.fwResult code).log E.FWU_IMAGE_BAD 0 0 0

/-- The background Transfer FW of a port returns; the result of a port that was reset is discarded (R306). -/
def State.fwBgDone (s : State) (code : Nat) : State :=
  (List.range 4).foldl (fun (a : State) p =>
    if (a.port p).bg = some 0x0201 then (a.setPort p { a.port p with bg := none }).reply p (fwCode code) else a) s

/-- FW_TRANSFER_CHECK_DONE (R497, R501): the bytes as the ledger store holds them are checked. -/
def execFwTransferCheckDone (s : State) : Result :=
  let waits := s.led.queue.any (fun w => match w.owner with
    | .fw _ _ => true
    | _ => false)
  if s.rd D.FWU_STAT_state ≠ 2 ∨ waits then .next s
  else
    let short := decide (s.rd D.FWU_XFER_next ≠ packageLen s.fw.header)
    let code := if short then 1 else s.setCheck s.fw.header s.fw.target
    .next ((s.fwChecked code).fwBgDone code)

/-! Activation (R503 to R507, R509). -/

/-- Whether a set's formats admit the format on media (R498). -/
def State.fmtReads (s : State) (set : Nat) : Bool :=
  decide (hdrFmtLo (s.fwHdr set) ≤ s.rd D.FWU_ARB_fmtcur ∧ s.rd D.FWU_ARB_fmtcur ≤ hdrFmtHi (s.fwHdr set))

/-- Whether a page of a set's slots is uncorrectable, so that the set is treated as INVALID (R494). -/
def State.slotBad (s : State) (set : Nat) : Bool :=
  s.led.bad.any (fun p => (List.range 4).any (fun i => decide (slotPage set i ≤ p ∧ p < slotPage set i + partPages i)))

/-- The conditions an activation shares, in the order of R503's table; `online` adds OPEN, fmt_w and R499, whose library
condition is `libOk`. -/
def State.fwRefuse (s : State) (set : Nat) (online libOk : Bool) : Nat :=
  let h := s.fwHdr set
  if (online ∧ s.isOpen = false) ∨ s.bit D.FWU_XFER_open ∨ s.rd D.FWU_STAT_state ≠ 0 then 7
  else if s.fwActive = set ∨ s.fwValid set = false ∨ s.fw.bad.getLsbD set ∨ s.slotBad set then 6
  else if hdrSvn h < s.rd D.FWU_ARB_minsvn then 2
  else if s.fmtReads set = false ∨ (online ∧ hdrFmtW h ≠ s.rd D.FWU_ARB_fmtcur) then 3
  else if online ∧ (s.fw.wfw < hdrMinOnline h ∨ libOk = false) then 4
  else 0

/-- A set is committed as pending with the trial flag. -/
def State.fwPend (s : State) (set : Nat) : State :=
  ({ ((s.wr D.FWU_STAT_pending (set + 1)).wr D.FWU_STAT_trial 1) with fw := { s.fw with trials := 0, fallback := false } } : State).dirSave

/-- An online activation is asked for: its status, and the state with it begun. -/
def State.fwOnline (s : State) (set : Nat) (libOk : Bool) : Nat × State :=
  let c := s.fwRefuse set true libOk
  if c ≠ 0 then (c, s.fwResult c)
  else
    let s1 := (s.fwPend set).wr D.FWU_STAT_state 3
    (0, { s1 with fw := { s1.fw with act := some ⟨set, 1, 0⟩ } })

/-- An offline activation is asked for (R507). -/
def State.fwOffline (s : State) (set : Nat) : Nat × State :=
  let c := s.fwRefuse set false true
  if c ≠ 0 then (c, s.fwResult c) else (0, (s.fwPend set).fwResult 0)

/-- CANCEL (R507): an offline activation that has not yet reached a start. -/
def State.fwCancel (s : State) : State :=
  if s.fwPending.isSome ∧ s.rd D.FWU_STAT_state = 0 ∧ s.fw.trials = 0 then
    ((s.wr D.FWU_STAT_pending 0).wr D.FWU_STAT_trial 0).dirSave
  else s

/-- COMMIT_SVN (R509). -/
def State.fwCommitSvn (s : State) : State :=
  if s.fwPending.isSome then s.fwResult 7
  else ((s.wr D.FWU_ARB_minsvn (max (s.rd D.FWU_ARB_minsvn) (hdrSvn (s.fwHdr s.fwActive)))).arbSave).fwResult 0

/-- ACTIVATE_FW_ONLINE (R503, R510): slots 1 and 2 are sets A and B. -/
def execActivateFwOnline (port : Fin 4) (slot : Fin 256) (libOk : Bool) (s : State) : Result :=
  if s.mboxUp port = false then .next s
  else if slot ≠ 1 ∧ slot ≠ 2 then answer port (0x0B, s)
  else if s.phase = stRomRecovery then answer port (0x0D, s)
  else if s.bgBusy then answer port (6, s)
  else
    let r := s.fwOnline (slot.val - 1) libOk
    if r.1 = 0 then answer port (1, r.2.setPort port { r.2.port port with bg := some 0x0202 })
    else answer port (fwCode r.1, r.2)

/-- ACTIVATE_FW_OFFLINE (R507). -/
def execActivateFwOffline (port : Fin 4) (slot : Fin 256) (s : State) : Result :=
  if s.mboxUp port = false then .next s
  else if slot ≠ 1 ∧ slot ≠ 2 then answer port (0x0B, s)
  else
    let r := s.fwOffline (slot.val - 1)
    answer port (fwCode r.1, r.2)

/-- The background Activate FW of a port returns. -/
def State.actBgDone (s : State) (status : Nat) : State :=
  (List.range 4).foldl (fun (a : State) p =>
    if (a.port p).bg = some 0x0202 then (a.setPort p { a.port p with bg := none }).reply p (fwCode status) else a) s

/-- The check value of a set's microcode, where its part can be decrypted. -/
def State.mcodeCheck (s : State) (set : Nat) : Option Nat :=
  (s.partPlain (s.fwHdr set) set 2).map (fun b => crc32 (ofLe b) b.length)

/-- A channel shows a microcode version and check (MED_CHUCODE). -/
def State.mcodeShow (s : State) (version : Nat) (check : Option Nat) (c : Nat) : State :=
  let s1 := s.wr D.MED_CHUCODE_version version c
  match check with
  | some k => s1.wr D.MED_CHUCODE_check k c
  | none => s1.fresh.2.wr D.MED_CHUCODE_check (s1.fresh.1.toNat % 2 ^ 32) c

/-- A channel runs the microcode of a set. -/
def State.mcode (s : State) (set c : Nat) : State :=
  s.mcodeShow (hdrVersion (s.fwHdr set)) (s.mcodeCheck set) c

/-- Part `i` runs from a set. -/
def State.runsFrom (s : State) (i set : Nat) : State :=
  let v := s.rd D.FWU_PARTS_fromb
  let on := v.testBit i
  s.wr D.FWU_PARTS_fromb (if set = 1 ∧ on = false then v + 2 ^ i else if set = 0 ∧ on then v - 2 ^ i else v)

/-- The activation goes on to a step. -/
def State.actTo (s : State) (step done : Nat) : State :=
  { s with fw := { s.fw with act := s.fw.act.map (fun a => { a with step := step, done := done }) } }

/-- A failed activation: every part switches back, pending and trial are cleared (R506). DEDUCED, log 150. -/
def State.rollback (s : State) (part inst : Nat) : State :=
  match s.fw.act with
  | none => s
  | some a =>
    let old := s.fwActive
    let n := if a.step = 2 then a.done else if 2 < a.step then 32 else 0
    let s1 := (List.range n).foldl (fun (b : State) c => if (b.chan c).gone then b else b.mcode old c) s
    let s2 := (List.range 4).foldl (fun (b : State) i => b.runsFrom i old) s1
    let s3 := (List.range 32).foldl (fun (b : State) c => if (b.chan c).activation then b.pauseEnd c else b) s2
    let s4 := ((s3.wr D.FWU_STAT_pending 0).wr D.FWU_STAT_trial 0).wr D.FWU_STAT_state 0
    let s5 : State := { s4 with fw := { s4.fw with act := none, wfw := hdrVersion (s.fwHdr old) } }
    ((((s5.dirSave).fwResult 5 part inst).log E.FWU_ACTIVATE_FAIL 0 0 0).log E.FWU_ROLLBACK 0 0 0).actBgDone 5

/-- The next channel that has a sequencer, from `c` on. -/
def State.nextChan (s : State) (c : Nat) : Option Nat :=
  (List.range 32).find? (fun k => decide (c ≤ k) && !(s.chan k).gone)

/-- Step 2 of Table 18.3 goes on to the next channel, or to step 3. -/
def State.mcodeNext (s : State) (set c : Nat) : State :=
  match s.nextChan c with
  | some k => (s.actTo 2 k).pauseRequest k true
  | none => (s.runsFrom 2 set).actTo 3 0

/-- WFW_HANDOVER (R503): control passes to the new warden firmware. -/
def execWfwHandover (s : State) : Result :=
  match s.fw.act with
  | some a =>
    if a.step = 1 then
      let s1 : State := { s with fw := { s.fw with wfw := hdrVersion (s.fwHdr a.set) } }
      .next ((s1.runsFrom 0 a.set).mcodeNext a.set 0)
    else .next s
  | none => .next s

/-- WFW_READY_TIMEOUT (R506). -/
def execWfwReadyTimeout (s : State) : Result :=
  match s.fw.act with
  | some a => .next (if a.step = 1 then s.rollback 0 0 else s)
  | none => .next s

/-- MCODE_SWITCH (R503, R506): the channel is paused, switches and checks itself; `ok` is the outcome. -/
def execMcodeSwitch (ch : Fin 32) (ok : Bool) (s : State) : Result :=
  match s.fw.act with
  | some a =>
    if a.step ≠ 2 ∨ a.done ≠ ch.val ∨ (s.chan ch).paused = false then .next s
    else if ok = false then .next (s.rollback 2 ch)
    else .next (((s.mcode a.set ch).pauseEnd ch).mcodeNext a.set (ch + 1))
  | none => .next s

/-- SERDES_RETRAIN (R503, R506): the next fabric port retrains once those before it are ACTIVE again; a port that was not ACTIVE
takes the firmware at its next training. `ok` is false where a port has not reached ACTIVE. DEDUCED, log 152. -/
def execSerdesRetrain (port : Fin 16) (ok : Bool) (s : State) : Result :=
  match s.fw.act with
  | some a =>
    if a.step ≠ 3 ∨ a.done ≠ port.val ∨ (List.range 16).any (fun p => decide (s.fpState p = fpRetrain)) then .next s
    else if ok = false then .next ((if s.fpState port = fpActive then s.fabPortDown port else s).rollback 3 port)
    else
      let s1 := if s.fpState port = fpActive then s.fpRetrainNow port else s
      .next (if port.val = 15 then (s1.runsFrom 3 a.set).actTo 4 0 else s1.actTo 3 (port + 1))
  | none => .next s

/-- RTL_DRAIN_EXPIRE (R503): the calls still running take ABORTED. -/
def execRtlDrainExpire (s : State) : Result :=
  .next (if s.rtlWait then (SMap.keys s.cur.ctxs).foldl State.callAbort s else s)

/-- The library is replaced and the imports of GUEST programs are resolved again (R288, R503): a program whose imports no longer
resolve keeps those it has. -/
def State.replaceLib (s : State) (lib : List Bytes) : State :=
  let s1 : State := { s with cur := { s.cur with progs := SMap.keep (fun k _ => decide (15 < k)) s.cur.progs } }
  lib.foldl State.loadLib s1

/-- The imports of a program resolved again in the new library, by the library and the export that each named.
DEDUCED, log 131. -/
def State.relink (s : State) (old : SMap Program) (p : Program) : Program :=
  { p with imports := p.imports.map (fun i =>
      match SMap.find old i.1 with
      | some q => match q.exports.findIdx? (fun o => decide (o = i.2)) with
        | some k => (s.resolve true (q.lib, k)).getD i
        | none => i
      | none => i) }

/-- The activation completes: the set is active (Table 18.3, step 5). -/
def State.activated (s : State) (set : Nat) : State :=
  let s1 := (((s.wr D.FWU_STAT_active set).wr D.FWU_STAT_pending 0).wr D.FWU_STAT_trial 0).wr D.FWU_STAT_state 0
  let s2 : State := { s1 with fw := { s1.fw with act := none, trials := 0 } }
  (((s2.dirSave).fwResult 0).log E.FWU_ACTIVATE 0 0 0).actBgDone 0

/-- RTL_REPLACED (R503): every call has ended; `lib` are the images of the new library, which load unless `ok` is false.
DESIGN CHOICE, log 151. -/
def execRtlReplaced (lib : List Bytes) (ok : Bool) (s : State) : Result :=
  match s.fw.act with
  | some a =>
    if a.step ≠ 4 ∨ (SMap.keys s.cur.ctxs).any (fun c => decide ((s.ctx c).st ≠ .idle)) then .next s
    else if ok = false then .next (s.rollback 1 0)
    else
      let old := s.cur.progs
      let s1 := s.replaceLib lib
      let s2 : State := { s1 with cur := { s1.cur with
        progs := s1.cur.progs.map (fun e => if 15 < e.1 then (e.1, s1.relink old e.2) else e) } }
      .next ((s2.runsFrom 1 a.set).activated a.set)
  | none => .next s

end Sys2Proof.Machine
end

