-- ==== Sys2Proof/Machine/Governor.lean ====
section
/-! DEFINITION. The persistence governor (R60 to R76, R95): measuring the hold-up bank, usable energy and budget, low
energy, acknowledging a breach. -/

namespace Sys2Proof.Machine

/-! Usable energy and budget (R66, R67, R73, R75, R76, R484). -/

/-- Media channels neither absent nor retired. -/
def State.liveChannels (s : State) : Nat :=
  ((List.range 32).filter (fun c => !(SMap.get Chan.init s.med.chans c).gone)).length

/-- frate_eff_mbs (R67). -/
def State.frateEff (s : State) : Nat := min (s.rd D.PWR_PGPARAM_frate * 1000) (1250 * s.liveChannels)

/-- eu_mj (R66), for a capacitance in µF, an ESR in mΩ and a bank voltage in mV. -/
def State.euOf (s : State) (c esr vbank : Nat) : Nat :=
  let vmin := s.rd D.PWR_PGSLED_vmin
  let eff := s.rd D.PWR_PGPARAM_eff
  let i := s.rd D.PWR_PGPARAM_pflush * 1000000 / (vmin * eff / 100)
  let vm := vmin + i * esr / 1000
  if vbank ≤ vm then 0 else c * (vbank * vbank - vm * vm) * eff / 200000000000

/-- The budget of R66 for an eu_mj, capped at the dirty window once it is sized (R484). -/
def State.budgetOf (s : State) (eu : Nat) : Nat :=
  let r := s.rd D.PWR_PGPARAM_ereserve * 1000
  let f := s.frateEff
  let b := if eu ≤ r then 0 else (eu - r) * f * 500 / s.rd D.PWR_PGPARAM_pflush
  let b' := min b (f * 300000)
  if s.boot.window = 0 then b' else min b' s.boot.window

/-- Whether the governor has a measurement to work from (R76). -/
def State.hasMeasure (s : State) : Bool := s.gov.stored.isSome

/-- The mean bank voltage since the last recomputation (R66); the latest value where none was converted. -/
def State.bankMean (s : State) : Nat :=
  if s.aon.bankNum = 0 then s.rd D.PWR_SENS_bank else s.aon.bankSum / s.aon.bankNum

/-- GOVERNOR_RECOMPUTE (R66, R70, R73). -/
def State.recompute (s : State) : State :=
  let reserve := s.rd D.PWR_PGPARAM_ereserve * 1000
  let eu := if s.hasMeasure = false then 0
    else if s.aon.euFloor then reserve
    else s.euOf (s.rd D.PWR_PGCAP_c) (s.rd D.PWR_PGCAP_esr) s.bankMean
  let b := if s.hasMeasure then s.budgetOf eu else 0
  let s1 := (s.wr D.PWR_PGEU_eu eu).wr D.PWR_PGBUD_bytes b
  let good := if eu < 27500 then none else some (s.gov.goodSince.getD s.now)
  let s2 : State := { s1 with
    aon := { s1.aon with bankSum := 0, bankNum := 0 }, gov := { s1.gov with goodSince := good } }
  let s3 := if s.hasMeasure = false ∧ s.rd D.PWR_PGSTAT_meas = 0 then s2.wr D.PWR_PGSTAT_meas 5 else s2
  if s3.rd D.PWR_PGSTAT_mode = 5 then s3
  else if eu < 25000 ∨ s.hasMeasure = false then s3.wr D.PWR_PGSTAT_mode 4
  else s3.govern

/-- GOVERNOR_RECOMPUTE (R66). -/
def execGovernorRecompute (s : State) : Result := .next s.recompute

/-- LOWENERGY_EXIT (R75, R76). -/
def execLowenergyExit (s : State) : Result :=
  .next (if s.lowEnergy ∧ s.hasMeasure ∧ s.gov.goodSince.isSome then (s.wr D.PWR_PGSTAT_mode 0).govern else s)

/-! Measuring (R61 to R65, Table 3.2). -/

/-- Whether a measurement, or the series it belongs to, is under way. -/
def State.measuring (s : State) : Bool := s.gov.meas.isSome || decide (0 < s.gov.tries)

/-- Whether the governor runs: the warden is up and no flush runs. -/
def State.governs (s : State) : Bool := s.isOpen || (decide (s.phase = stStarting) && decide (3 ≤ s.boot.step))

/-- Step 1 of Table 3.2: HUB_CHGEN goes low. PWR_PGSTAT.meas reads 0x5 while no measurement has ever been stored (R76). -/
def State.measureBegin (s : State) : State :=
  { (s.wr D.PWR_PGSTAT_meas (if s.hasMeasure then 1 else 5)) with
    gov := { s.gov with meas := some ⟨1, 0, 0, 0, 0, 0⟩ }, aon := { s.aon with hubChg := false } }

/-- A measurement is asked for; ignored while one runs or while the device flushes (R61). The 10 s between the attempts of a
series count as a measurement that runs. DESIGN CHOICE, log 158. -/
def State.measureRequest (s : State) : State := if s.measuring ∨ s.governs = false then s else s.measureBegin

/-- MEASURE_INTERVAL (R61). -/
def execMeasureInterval (s : State) : Result := .next s.measureRequest

/-- BANK_STABLE (R65): the first measurement of a start. -/
def execBankStable (s : State) : Result := .next (if s.gov.measured then s else s.measureRequest)

/-- MEASURE_START_TIMEOUT (R65). -/
def execMeasureStartTimeout (s : State) : Result := .next (if s.gov.measured then s else s.measureRequest)

/-- MEASURE_REPEAT (R76): while no measurement has ever been stored. -/
def execMeasureRepeat (s : State) : Result :=
  .next (if s.hasMeasure = false ∧ s.gov.measured then s.measureRequest else s)

/-- The mean of the last 64 bank conversions (R62), or the latest value where fewer have been made. -/
def State.bankSample (s : State) : Nat :=
  if s.aon.bankLast = [] then s.rd D.PWR_SENS_bank else s.aon.bankLast.sum / s.aon.bankLast.length

/-- Replaces the measurement when it is at the named step. -/
def State.measureStep (s : State) (n : Nat) (f : Meas → Meas) : State :=
  match s.gov.meas with
  | some m => if m.step = n then { s with gov := { s.gov with meas := some (f m) } } else s
  | none => s

/-- MEASURE_SAMPLE_V0 (R62). -/
def execMeasureSampleV0 (s : State) : Result :=
  .next (s.measureStep 1 (fun m => { m with step := 2, v0 := s.bankSample }))

/-- MEASURE_LOAD_ON (R62). -/
def execMeasureLoadOn (s : State) : Result :=
  match s.gov.meas with
  | some m =>
    if m.step = 2 then
      .next ({ (s.measureStep 2 (fun x => { x with step := 3 })) with aon := { s.aon with hubLoad := true } })
    else .next s
  | none => .next s

/-- MEASURE_SAMPLE_V1 (R62): esr = (v0 − v1) / iload. -/
def execMeasureSampleV1 (s : State) : Result :=
  .next (s.measureStep 3 (fun m =>
    let e := (m.v0 - s.bankSample) * 1000 / s.rd D.PWR_PGSLED_iload
    { m with step := 4, v1 := s.bankSample, esr := e }))

/-- MEASURE_SAMPLE_V2 (R62): c = iload × 100 ms / (v1 − v2). -/
def execMeasureSampleV2 (s : State) : Result :=
  .next (s.measureStep 4 (fun m =>
    let c := if m.v1 ≤ s.bankSample then 0 else s.rd D.PWR_PGSLED_iload * 100000 / (m.v1 - s.bankSample)
    { m with step := 5, v2 := s.bankSample, c := c }))

/-- Whether a result is plausible (R63): c in range, and v1 − v2 at least 16 ADC steps. -/
def State.plausible (s : State) (m : Meas) : Bool :=
  decide (1000 ≤ m.c ∧ m.c ≤ 10000000) && decide (16 * s.rd D.PWR_SENSCFG_hubscale ≤ (m.v1 - m.v2) * 4095)

/-- A plausible result is stored and used (R62, R63). -/
def State.measureStore (s : State) (m : Meas) : State :=
  let s1 := (((s.wr D.PWR_PGCAP_c m.c).wr D.PWR_PGCAP_esr m.esr).wr D.PWR_PGMTIME_ns s.now).wr D.PWR_PGSTAT_meas 2
  let s2 := ({ s1 with gov := { s1.gov with stored := some (m.c, m.esr), mtime := s.now, tries := 0, measured := true } } : State).pageWrite
    0 none .meas
  if s.rd D.PWR_PGSLED_esrmax < m.esr then s2.log E.PWR_PG_ESR_HIGH 0 0 0 else s2

/-- The third implausible result: the stored values derated, or none (R63, R76). With none ever stored it enters LOWENERGY
and logs nothing. DEDUCED, log 159. -/
def State.measureFall (s : State) : State :=
  let s1 : State := { s with gov := { s.gov with tries := 0, measured := true } }
  match s.gov.stored with
  | some (c, e) =>
    (((s1.wr D.PWR_PGCAP_c (c * 80 / 100)).wr D.PWR_PGCAP_esr e).wr D.PWR_PGSTAT_meas 4).log E.PWR_PG_MEAS_FAIL 0 0 0
  | none => s1.wr D.PWR_PGSTAT_meas 5

/-- MEASURE_END (R62, R63): the load is removed; a result is stored, retried or given up. A repeat of R76 is a single
attempt. -/
def execMeasureEnd (s : State) : Result :=
  match s.gov.meas with
  | none => .next s
  | some m =>
    if m.step ≠ 5 then .next s
    else
      let s1 : State := { s with gov := { s.gov with meas := none }, aon := { s.aon with hubLoad := false, hubChg := true } }
      if s.plausible m then .next (s1.measureStore m)
      else if 2 ≤ s.gov.tries ∨ (s.hasMeasure = false ∧ s.gov.measured) then .next s1.measureFall
      else .next ({ (s1.wr D.PWR_PGSTAT_meas (if s.hasMeasure then 3 else 5)) with gov := { s1.gov with tries := s.gov.tries + 1 } })

/-- MEASURE_RETRY (R63). -/
def execMeasureRetry (s : State) : Result :=
  .next (if s.gov.meas.isNone ∧ 0 < s.gov.tries ∧ s.governs then s.measureBegin else s)

/-- A measurement is abandoned (R64): the load goes off, the charger on, and the stored values stay in force. -/
def State.measureAbandon (s : State) : State :=
  if s.measuring = false then s
  else
    let code := match s.gov.stored with
      | some (c, _) => if s.rd D.PWR_PGCAP_c = c then 2 else 4
      | none => 5
    { (s.wr D.PWR_PGSTAT_meas code) with
      gov := { s.gov with meas := none, tries := 0 }, aon := { s.aon with hubLoad := false, hubChg := true } }

/-! The breach list (R95, R96). -/

/-- The breach list with the two adjacent ranges of one seat of smallest gap merged: the first such pair in the list's order
where several gaps are equal; the merged range keeps the region and start count of the lower one.
DESIGN CHOICE, log 160. -/
def mergeBreach (l : List Breach) : List Breach :=
  let gap (i : Nat) : Option Nat :=
    match l[i]?, l[i + 1]? with
    | some a, some b => if a.seat = b.seat then some (b.tile - (a.tile + a.count)) else none
    | _, _ => none
  let best := (List.range l.length).foldl (fun (a : Option (Nat × Nat)) i =>
    match gap i, a with
    | some g, some (g0, _) => if g < g0 then some (g, i) else a
    | some g, none => some (g, i)
    | none, _ => a) none
  match best with
  | none => l
  | some (_, i) =>
    match l[i]?, l[i + 1]? with
    | some a, some b => l.take i ++ [{ a with count := max a.count (b.tile + b.count - a.tile) }] ++ l.drop (i + 2)
    | _, _ => l

/-- Places a range in the order of seat and first tile. -/
def insBreach (b : Breach) (l : List Breach) : List Breach :=
  match l with
  | [] => [b]
  | c :: t => if b.seat < c.seat ∨ (b.seat = c.seat ∧ b.tile < c.tile) then b :: c :: t else c :: insBreach b t

/-- The bytes of breach list page `k` (Table 3.12). -/
def breachPage (l : List Breach) (k : Nat) : Page :=
  pageOfWords ((List.range 16).flatMap (fun i =>
    match l[16 * k + i]? with
    | some b => [b.seat * 2 ^ 58 + b.region * 2 ^ 46 + b.tile, b.start * 2 ^ 32 + b.count]
    | none => [0, 0]))

/-- Keeps PWR_PGBRK and the ledger's copy with the list. -/
def State.setBreach (s : State) (l : List Breach) : State :=
  let s1 := ({ s with gov := { s.gov with breach := l } } : State).wr D.PWR_PGBRK_count l.length
  (List.range 64).foldl (fun a k =>
    if breachPage l k = breachPage s.gov.breach k then a else a.pageWrite (2752 + k) (some (breachPage l k)) .breach) s1

/-- Adds a range, merging where the list is full (R96). -/
def State.addBreach (s : State) (b : Breach) : State :=
  let l := insBreach b s.gov.breach
  if 1024 < l.length then (s.setBreach (mergeBreach l)).wr D.PWR_PGBRK_coarse 1 else s.setBreach l

/-- The breach list as the registers show it: it reads as empty after a power-on until step 10 has restored it (R10). -/
def State.breachShown (s : State) : List Breach := if s.restoredTo < 10 then [] else s.gov.breach

/-- PWR_PGBRK and GBL_STAT.breach cleared, and the acknowledgement logged (R95). -/
def State.breachClear (s : State) (n : Nat) : State :=
  (((s.wr D.PWR_PGBRK_count 0).wr D.PWR_PGBRK_coarse 0).wr D.GBL_STAT_breach 0).log E.PWR_PG_BREACH_ACK 0 0 n

/-- The breach is acknowledged (R95). In ROM_RECOVERY nothing is written to the ledger store (R490): what the registers show
is cleared, and the next start lists the ranges again. A line of a listed range then reads as what it holds (R94).
DEDUCED, log 41. -/
def State.breachAck (s : State) : State :=
  if s.phase = stRomRecovery then
    let s1 := s.breachClear s.breachShown.length
    { s1 with boot := { s1.boot with
      restored := min s.boot.restored 9
      saved := SMap.ins s.boot.saved (D.PWR_PGBRK_coarse.key 0) (s.rd D.PWR_PGBRK_coarse) } }
  else
    let s1 := (s.setBreach []).breachClear s.gov.breach.length
    { s1 with coh := { s1.coh with brkClean := [] } }

end Sys2Proof.Machine
end

