-- ==== Sys2Proof/Machine/StartBegin.lean ====
section
/-! DEFINITION. What a new start keeps of the state (R10, R14, Table 0.6, Table 0.7, R285, R326, R388, R479, R549): the
preserved and stored fields, the device records of the ledger store, media, and the always-on island. -/

namespace Sys2Proof.Machine

/-- Whether a key is one of a field's copies; an HST field has a copy for each port. -/
def FldDesc.owns (f : FldDesc) (k : Nat) : Bool :=
  let off := k / 64
  let hit (b : Nat) : Bool :=
    decide (b ≤ off) && (if f.stride = 0 then decide (off = b)
      else decide ((off - b) % f.stride = 0) && decide ((off - b) / f.stride < f.count))
  decide (k % 64 = f.lo) && (hit f.off || (decide (0x1000000 ≤ f.off) && (List.range 4).any (fun p => hit (f.off + p * 0x1000))))

/-- The register rows of every block. -/
def allRegs : List RegRow :=
  [regsGbl, regsPwr, regsMed, regsCon, regsVit, regsClo, regsCur, regsHst, regsAtq, regsFab, regsCip, regsStg, regsInj,
    regsRec, regsLdg, regsThm, regsFwu, regsTal].flatten

/-- Every named field. -/
def allFields : List FldDesc := allRegs.flatMap RegRow.fields

/-- Fields of the always-on island that are not preserved: they stand while VAUX holds. -/
def aonFields : List FldDesc :=
  [D.PWR_SEQSTAT_state, D.PWR_SEQSTAT_attempts, D.PWR_SEQSTAT_en, D.PWR_SEQSTAT_good, D.PWR_PFSTAT_lockout,
    D.PWR_PFSTAT_eb, D.PWR_PFSTAT_inok, D.PWR_SENS_bank, D.PWR_SENS_vin, D.PWR_AONSTAT_fru, D.PWR_RAILST_chatter,
    D.PWR_RAILST_mv, D.PWR_RAILST_state, D.PWR_RAILST_en, D.PWR_RST_asserted, D.THM_STAT_hot, D.THM_STAT_hotsens,
    D.THM_STAT_lockout, D.THM_SUSPECT_suspect, D.THM_SENS_max, D.THM_SENS_ctl, D.THM_SENS_reading]

/-- Fields held in the ledger store die (R9). -/
def storedFields : List FldDesc := [D.LDG_PROT_level]

/-- The fields of Table 0.7 that a step of a start restores from the ledger store or media; those of page 0, page 3, the
queue pages, the key slots, the breach list and the flush record have homes of their own. -/
def restoredAt (step : Nat) : List FldDesc :=
  if step = 3 then [D.FAB_FABID_id, D.FAB_EPOCH_e, D.FAB_MEMUID_uid, D.FAB_MEMST_epoch, D.FWU_STAT_trial, D.FWU_STAT_pending,
    D.FWU_STAT_active, D.FWU_STAT_validb, D.FWU_STAT_valida, D.FWU_ARB_minsvn, D.FWU_ARB_fmtcur, D.FWU_SETA_version,
    D.FWU_SETA_svn, D.FWU_SETA_fmtw, D.FWU_SETB_version, D.FWU_SETB_svn, D.FWU_SETB_fmtw]
  else if step = 4 then [D.VIT_WAYDIS_slice4n0, D.VIT_WAYDIS_slice4n1, D.VIT_WAYDIS_slice4n2, D.VIT_WAYDIS_slice4n3]
  else if step = 8 then [D.CON_STAT_spare, D.CON_RETCNT_channels, D.CON_RETCNT_dies, D.CON_RETCNT_parts, D.CON_RETCNT_tiles,
    D.CON_LOSTCNT_count, D.CON_DIE_state, D.CON_DIE_nosusp, D.CON_DIE_parts, D.CON_DIE_tiles, D.CLO_GRANTS_entries,
    D.PWR_PGFWD_lines]
  else if step = 10 then [D.REC_HEAD_seq, D.REC_TAIL_seq, D.REC_FLUSHED_seq, D.PWR_PGBRK_coarse]
  else []

/-- The entries of a register file that belong to one of some fields. -/
def keepFields (l : List FldDesc) (m : SMap Nat) : SMap Nat := m.filter (fun e => l.any (fun f => f.owns e.1))

/-- The fields a start keeps while VAUX holds (R10, R457). -/
def keptFields : List FldDesc := allFields.filter FldDesc.kept ++ aonFields ++ storedFields

/-- A partition whose operation has been abandoned; its retirement and counts stay. -/
def Part.quiet (p : Part) : Part := { Part.init with retired := p.retired, wvTiles := p.wvTiles }

/-- A channel that waits for nothing. -/
def Chan.quiet (c : Chan) : Chan := { Chan.init with gone := c.gone }

/-- The stripe index of a row's last ROW_MARK (R175). -/
def lastMark (i : Nat) : Nat := i / 4096 * 4096

/-- Media and conservator at a start: staging and everything in it is gone; media, and what the conservator keeps on it,
stays (R388, R89). A rebuild resumes from its row's last ROW_MARK (R175). -/
def Media.restart (m : Media) : Media :=
  { m with
    jpend := [], rels := [], ckpt := none, stg := [], reads := [], builders := [], tokens := [], updates := [], cpend := [],
    parts := (m.parts.map (fun e => (e.1, e.2.quiet))).filter (fun e => decide (e.2 ≠ Part.init))
    chans := (m.chans.map (fun e => (e.1, e.2.quiet))).filter (fun e => decide (e.2 ≠ Chan.init))
    jnext := (m.jrnl.getLast?.map Prod.fst).getD 0 + 1, cnext := (m.clog.getLast?.map Prod.fst).getD 0 + 1
    rebuilds := m.rebuilds.map (fun r => { r with index := lastMark r.index })
    rowGone := m.rebuilds.foldl (fun g r => SMap.put 0 g (r.row * 16 + r.member) (lastMark r.index)) m.rowGone
    reb := none, again := [], driftDue := [] }

/-- The caches and the protocol at a start: the grant table, the forward hold area and the poison of lines at this home
are kept (R59, R91, R208, R215). DEDUCED, log 178. -/
def Coh.restart (c : Coh) (loanWays : Nat) : Coh :=
  { Coh.init with
    grants := c.grants, ways := c.ways, autoOff := c.autoOff, homePoison := c.homePoison, loanWays := loanWays
    fwd := c.fwd.map (fun e => (e.1, { e.2 with sent := false }))
    chg := SMap.keep (fun k _ => SMap.has c.fwd k) c.chg }

/-- The curator side at a start: accessions and the calls to report stay; the hall is empty (R285). -/
def Cur.restart (c : Cur) : Cur :=
  { Cur.init with
    accs := c.accs, interrupted := c.interrupted
    seals := (c.seals.filter Seal.committed).map (fun x => { x with ctx := none, step := 7 }) }

/-- The ledger store at a start: page writes that had started complete, the others are dropped (R442). -/
def Ledger.restart (l : Ledger) : Ledger := { l with queue := l.queue.filter PgWrite.started, cmd := none }

/-- The island at a start: PFAIL ends with the new start timeline (R467), and the bank is charged and unloaded (R64). -/
def Aon.restart (a : Aon) : Aon := { a with hubLoad := false, hubChg := true, euFloor := false, coolAt := none }

/-- A line of this device, renamed for another seat. -/
def reseatLine (old new gl : Nat) : Nat := if gl / 2 ^ 38 = old then new * 2 ^ 38 + gl % 2 ^ 38 else gl

/-- The keys of a map renamed, and its order restored. -/
def rekey {α : Type} (f : Nat → Nat) (m : SMap α) : SMap α := m.foldl (fun a e => SMap.ins a (f e.1) e.2) []

/-- The grants, charges and poison of the device's own lines, renamed for another seat (R350). -/
def Coh.reseat (c : Coh) (old new : Nat) : Coh :=
  let f := reseatLine old new
  { c with
    grants := rekey f c.grants, loans := rekey f c.loans, chg := rekey f c.chg, homePoison := c.homePoison.map f
    brkClean := c.brkClean.map f }

/-- A start begins at V with the given registers (R478); the drift tables read as the census gave them (Table 5.14). -/
def State.startWith (s : State) (regs : SMap Nat) (step : Nat) : State :=
  let s1 : State :=
    { s with
      regs := regs
      evq := []
      rgr := { Registrar.init with annal := s.rgr.annal }
      ports := s.ports.map (fun e => (e.1, { Port.init with perst := e.2.perst }))
      queues := []
      rops := (s.rops.filter RgnOp.committed).map (fun o => { o with ctx := none, switched := BitVec.allOnes 16, due := [] })
      coh := (Coh.restart s.coh (SMap.get 2 regs (D.VIT_LOANCFG_ways.key 0))).reseat s.ownSeat 64
      med := s.med.restart
      cur := s.cur.restart
      keyOps := []
      drbg := 0
      gov := { Gov.init with breach := s.gov.breach, stored := s.gov.stored, mtime := s.gov.mtime, rec0 := s.gov.rec0, recCopy := s.gov.recCopy }
      led := s.led.restart
      stgE := Stg.init
      aon := s.aon.restart
      fab := { Fab.init with record := s.fab.record, linkSeq := s.fab.linkSeq }
      fw := { s.fw with act := none, header := 0, fill := 0, target := 0 }
      tal := Tally.init
      tcnt := TallyCnt.init
      boot := { Boot.init with step := step, v := s.now, startCount := s.boot.startCount, saved := s.boot.saved } }
  let s2 : State := { s1 with ports := s1.ports.filter (fun e => decide (e.2 ≠ Port.init)) }
  s2.med.census.foldl (fun (a : State) e => a.setDtab (e.1 / 16) (e.1 % 16) e.2) s2

/-- A new start while VAUX holds (R479, R549): preserved and stored fields and the always-on island keep their values,
and vault time runs on until step 3 restores it. -/
def State.newStart (s : State) (state step : Nat) : State :=
  let keep := keepFields (keptFields ++ [D.GBL_VTIME_ns]) s.regs
  let s1 := ((s.startWith keep step).wr D.GBL_STAT_state state).wr D.PWR_PFSTAT_pfail 0
  { s1 with boot := { s1.boot with resample := true, warm := decide (state = stResetting), restored := s.restoredTo } }

/-- What the ledger store and media hold of the fields of Table 0.7: the registers' values where their step has ended
since VAUX became valid, else what was kept at the power-on before. -/
def State.tableFields (s : State) : SMap Nat :=
  [3, 4, 8, 10].foldl (fun (a : SMap Nat) k =>
    (keepFields (restoredAt k) (if k ≤ s.restoredTo then s.regs else s.boot.saved)).foldl
      (fun b e => SMap.ins b e.1 e.2) a) []

/-- A start after VAUX was lost (R10, R527): only what the ledger store and media hold remains; the fields of Table 0.7
wait for their steps. -/
def State.powerOn (s : State) : State :=
  let s1 : State := { s with
    aon := { Aon.init with pg := 0 }, boot := { s.boot with saved := s.tableFields }, coh := { s.coh with ways := [] } }
  s1.startWith (keepFields storedFields s.regs) 1

/-- The end of a step restores the fields Table 0.7 names for it; a device reset has kept those restored before (R10). -/
def State.restoreStep (s : State) (step : Nat) : State :=
  let fs := restoredAt step
  if step ≤ s.boot.restored then s
  else s.boot.saved.foldl (fun a e =>
    if fs.any (fun f => f.owns e.1) then { a with regs := SMap.ins a.regs e.1 e.2 } else a) s

end Sys2Proof.Machine
end

