-- ==== Sys2Proof/Machine/FabJoin.lean ====
section
/-! DEFINITION. Seats and membership (R344 to R351), joining (R360, R361), vault time (R362 to R365). -/

namespace Sys2Proof.Machine

/-- A seat of a membership record: seat, UID holding it (0: vacant), epoch at which it was seated or vacated. -/
abbrev SeatRec := Nat × Nat × Nat

/-- The current record's seats. -/
def State.seatRecs (s : State) : List SeatRec :=
  (List.range 64).map (fun k => (k, s.rd D.FAB_MEMUID_uid k, s.rd D.FAB_MEMST_epoch k))

/-! The device's own seat (R350). -/

/-- Bytes of a local line that leave the caches for the staging window; poisoned ones are lost instead (R194). -/
def State.stageOut (s : State) (gl : Nat) (d : Line) (mask : LineMask) (p : Bool) : State :=
  if p then s.losePoisoned gl else s.toStaging (llOf gl) d mask false

/-- What of its own content the caches hold goes to the staging window, the older bytes of a line first: eviction buffer, way,
write-back, snoop data. Wing copies are written back before. -/
def State.settleOwn (s : State) : State :=
  let own (gl : Nat) : Bool := decide (gl / 2 ^ 38 = s.ownSeat)
  let s1 := (List.range 8).foldl (fun a w => (a.wingLines w).foldl (fun b gl => if own gl then b.wingFlushLine w gl else b) a) s
  let s2 := (s1.coh.evb.filter (fun e => own e.gl)).foldl (fun a e => a.stageOut e.gl e.data e.mask e.poison) s1
  let s3 := (s1.coh.vit.filter (fun e => own e.2.gl && e.2.dirty)).foldl
    (fun a e => let x := a.takeWay (e.1 % 16) e.2; x.2.2.stageOut e.2.gl x.1 fullMask x.2.1) s2
  let s4 := (s1.coh.wbq.filter (fun e => own e.gl)).foldl (fun a e => a.stageOut e.gl e.data fullMask e.poison) s3
  let s5 := (s1.coh.txns.filter (fun e => own e.1)).foldl (fun (a : State) (e : Nat × Txn) =>
    match e.2.got with
    | some (d, p) => a.stageOut e.1 d fullMask p
    | none => a) s4
  { s5 with coh := { s5.coh with
      wbq := s5.coh.wbq.filter (fun e => !own e.gl)
      evb := s5.coh.evb.filter (fun e => !own e.gl)
      vit := s5.coh.vit.filter (fun e => !own e.2.gl)
      txns := s5.coh.txns.map (fun e => (e.1, if own e.1 then { e.2 with got := none, wbPend := false } else e.2))
      filter := s5.coh.filter.filter (fun gl => !own gl) } }

/-- The start announcement is flooded (R359). -/
def State.announce (s : State) : State :=
  s.emit (.fabMsg msgStart none [s.rd D.FAB_STAT_seat, myUid, s.boot.startCount])

/-- The device takes a seat, or loses the one it has: its content stays in local addresses (R350). -/
def State.takeSeat (s : State) (seat : Option Nat) : State :=
  if s.mySeat = seat then s
  else
    let s1 := s.settleOwn
    let f := reseatLine s.ownSeat (seat.getD 64)
    let s2 : State := { s1 with coh := { (s1.coh.reseat s.ownSeat (seat.getD 64)) with
      conf := s1.coh.conf.map (fun r => { r with gl := f r.gl })
      txns := rekey f (s1.coh.txns.map (fun e => (e.1, { e.2 with req := { e.2.req with gl := f e.2.req.gl } }))) } }
    (s2.wr D.FAB_STAT_seat (seat.getD 0)).wr D.GBL_STAT_seated (b2n seat.isSome)

/-- The join completes for a seated device (R351, R360 step 7). -/
def State.joined (s : State) (seat : Nat) : State :=
  let s1 := ((s.takeSeat (some seat)).wr D.FAB_STAT_join 4).announce
  let s2 := s1.log E.FAB_JOIN_DONE 0 0 0
  ({ s2 with boot := { s2.boot with eleven := true } } : State).sendSweep

/-! The membership record (R344, R348, R350). -/

/-- The membership record in its 8 pages: fabric id and E, then UID and epoch of each seat (Chapter 15 gives its pages;
the layout inside them is the model's). -/
def memberData (fabid e : Nat) (l : List SeatRec) (k : Nat) : Page :=
  let ws := fabid :: e :: l.flatMap (fun x => [x.2.1, x.2.2])
  pageOfWords ((ws.drop (32 * k)).take 32)

/-- The CRC-32 over the seven data pages of a copy (R446). -/
def memberCrc (page : Nat → Page) : Nat :=
  crc32 ((List.range 7).foldl (fun a k => a + (page k).toNat * 2 ^ (2048 * k)) 0) 1792

/-- A page of a copy: data, and in the last page the header of R446, whose sequence number is E. -/
def memberPage (fabid e : Nat) (l : List SeatRec) (k : Nat) : Page :=
  if k = 7 then pageOfWords [e, 7, memberCrc (memberData fabid e l)] else memberData fabid e l k

/-- The record is written to the ledger store: the copy not written last (R446). -/
def State.memberSave (s : State) : State :=
  let copy := s.rd D.FAB_EPOCH_e % 2
  (List.range 8).foldl (fun a k =>
    a.pageWrite (72 + 8 * copy + k) (some (memberPage (a.rd D.FAB_FABID_id) (a.rd D.FAB_EPOCH_e) a.seatRecs k))
      (.member copy k)) s

/-- SEAT_CHANGE (R350): a seat vacated, or taken by another UID. -/
def State.seatChange (s : State) (seat : Nat) : State := (s.sweepGrants seat).dropShared seat

/-- Adopts a record: registers, and the effects of changed seats. A record does not say who held a vacant seat before, so a seat
taken then counts as taken by another UID (R350). -/
def State.adopt (s : State) (fabid e : Nat) (l : List SeatRec) : State :=
  let s1 := l.foldl (fun a x =>
    let was := a.rd D.FAB_MEMUID_uid x.1
    let b := (a.wr D.FAB_MEMUID_uid x.2.1 x.1).wr D.FAB_MEMST_epoch x.2.2 x.1
    if was ≠ x.2.1 ∧ (was ≠ 0 ∨ s.fab.record) then b.seatChange x.1 else b) s
  let s2 := (s1.wr D.FAB_FABID_id fabid).wr D.FAB_EPOCH_e e
  let s3 : State := { s2 with fab := { s2.fab with record := true } }
  s3.fabUpdate

/-- After a commit, a device whose seat changed announces it; one that has become seated completes its join; one that
lost its seat is unseated (R350, R351, R359). -/
def State.ownSeatCheck (s : State) : State :=
  let st := s.storedSeat
  if s.rd D.FAB_STAT_join = 4 then
    match st with
    | some k => if s.mySeat = some k then s else (s.takeSeat (some k)).announce
    | none => ((s.takeSeat none).wr D.FAB_STAT_join 5).log E.FAB_UNSEATED 0 0 0
  else if s.rd D.FAB_STAT_join = 5 then
    match st with
    | some k => s.joined k
    | none => s
  else s

/-- A record as words of a message. -/
def recordWords (l : List SeatRec) : List Nat := l.flatMap (fun x => [x.1, x.2.1, x.2.2])

/-- The keeper commits a record: every member's ledger store, its own among them (R348). -/
def State.commitRecord (s : State) (fabid e : Nat) (l : List SeatRec) : State :=
  ((s.adopt fabid e l).memberSave.emit (.fabMsg msgCommit none (fabid :: e :: recordWords l))).ownSeatCheck

/-! Claims (R345 to R347, R349). -/

/-- Whether record (fabid, E) comes before the current one (R345). -/
def State.betterRecord (s : State) (fabid e : Nat) : Bool :=
  !s.fab.record || decide (s.rd D.FAB_EPOCH_e < e) ||
    (decide (s.rd D.FAB_EPOCH_e = e) && decide (fabid < s.rd D.FAB_FABID_id))

/-- Whether a claim is void (R346, rule 1), or loses to a reachable holder once the component has committed (R347). -/
def State.claimVoid (s : State) (c : Claim) : Bool :=
  match c.record, c.seat with
  | some (f, _), some (k, ep) =>
    decide (f ≠ s.rd D.FAB_FABID_id) || decide (ep < s.rd D.FAB_MEMST_epoch k) ||
      (s.fab.committed && decide (s.rd D.FAB_MEMUID_uid k ≠ c.uid) && decide (s.rd D.FAB_MEMUID_uid k ≠ 0) &&
        s.reachable (s.rd D.FAB_MEMUID_uid k))
  | _, _ => true

/-- Whether claim `a` wins a seat over claim `b` (R346, rule 2). -/
def claimWins (a b : Claim) : Bool :=
  match a.seat, b.seat with
  | some (_, x), some (_, y) => decide (x < y) || (decide (x = y) && decide (a.uid < b.uid))
  | _, _ => false

/-- The claim of this device. -/
def State.ownClaim (s : State) : Claim :=
  let r := if s.fab.record then some (s.rd D.FAB_FABID_id, s.rd D.FAB_EPOCH_e) else none
  ⟨myUid, r, s.storedSeat.map (fun k => (k, s.rd D.FAB_MEMST_epoch k)), s.now⟩

/-- A claim is kept; a conflict over its seat is logged with the seat and both UIDs (R346). -/
def State.addClaim (s : State) (c : Claim) : State :=
  let others := s.fab.claims.filter (fun x => decide (x.uid ≠ c.uid))
  let s1 : State := { s with fab := { s.fab with claims := others ++ [c] } }
  (others.filter (fun x => decide (x.seat.isSome ∧ x.seat.map Prod.fst = c.seat.map Prod.fst))).foldl
    (fun a x => a.log E.FAB_SEAT_CONFLICT ((c.seat.map Prod.fst).getD 0) (x.uid % 65536) c.uid) s1

/-- The claims that win their seats: seat and UID. -/
def State.winners (s : State) : List (Nat × Nat) :=
  let l := s.fab.claims.filter (fun c => !s.claimVoid c)
  (l.filter (fun c => !(l.any (fun x => decide (x.seat.map Prod.fst = c.seat.map Prod.fst) && claimWins x c)))).filterMap
    (fun c => c.seat.map (fun k => (k.1, c.uid)))

/-- Gives the lowest vacant seats to devices that hold no record, in ascending UID order (R349). -/
def autoseat (l : List SeatRec) (epoch : Nat) : List Nat → List SeatRec
  | [] => l
  | u :: r =>
    match l.find? (fun x => decide (x.2.1 = 0)) with
    | some v => autoseat (l.map (fun x => if x.1 = v.1 then (x.1, u, epoch) else x)) epoch r
    | none => l

/-- Inserts in ascending order. -/
def insNat (n : Nat) : List Nat → List Nat
  | [] => [n]
  | m :: t => if n ≤ m then n :: m :: t else m :: insNat n t

/-- The record the keeper would commit: the winners, then autoseat under quorum. -/
def State.proposal (s : State) : List SeatRec :=
  let e := s.rd D.FAB_EPOCH_e + 1
  let l := s.seatRecs.map (fun x =>
    match s.winners.find? (fun w => decide (w.1 = x.1)) with
    | some w => if w.2 = x.2.1 then x else (x.1, w.2, e)
    | none => x)
  if s.bit D.FAB_CFG_autoseat ∧ s.quorum then
    autoseat l e (((s.fab.claims.filter (fun c => c.record.isNone)).map Claim.uid).foldl (fun a u => insNat u a) [])
  else l

/-- The keeper commits what the claims change, with E incremented, or nothing (R345, R360 step 5); what it resolved goes to every
member, so that a device whose claim is void learns the current record (R346). -/
def State.resolveCommit (s : State) : State :=
  let l := s.proposal
  let s1 : State := { s with fab := { s.fab with committed := true } }
  if l = s.seatRecs then s1.emit (.fabMsg msgCommit none (s1.rd D.FAB_FABID_id :: s1.rd D.FAB_EPOCH_e :: recordWords l))
  else if s.fab.record then s1.commitRecord (s.rd D.FAB_FABID_id) (s.rd D.FAB_EPOCH_e + 1) l
  else
    let f := s1.fresh
    f.2.drawn.commitRecord f.1.toNat 1 l

/-- Whether the periodic progress record is due: 10 minutes after the last one, while OPEN or from the end of step 10 of a start
(R448). -/
def State.progressDue (s : State) : Bool :=
  (s.isOpen || decide (s.phase = stStarting ∧ 11 ≤ s.boot.step)) && decide (s.led.progAt + 600000000000 ≤ s.now)

/-- Vault time steps forward, never back, and the step is logged with its size (R362); a step past the time of the next progress
record writes it at once (R448). -/
def State.vtStep (s : State) (t : Nat) : State :=
  if t ≤ s.now then s
  else
    let s1 := (s.wr D.GBL_VTIME_ns t).log E.FAB_VT_STEP 0 0 (t - s.now)
    if s1.progressDue then s1.progress 2 0 0 0 0 else s1

/-- JOIN_QUIET_END (R360 steps 3 and 4): each device sends its claim and vault time to the keeper. -/
def execJoinQuietEnd (s : State) : Result :=
  let j := s.rd D.FAB_STAT_join
  if j ≠ 1 ∧ j ≠ 2 then .next s
  else
    let s1 := (s.wr D.FAB_STAT_join 3).fabUpdate
    let s2 : State := { s1 with fab := { s1.fab with resolving := true } }
    if s2.isKeeper then .next (s2.addClaim s2.ownClaim)
    else
      let c := s2.ownClaim
      .next (s2.emit (.fabMsg msgClaim none [myUid, b2n c.record.isSome, s2.rd D.FAB_FABID_id, s2.rd D.FAB_EPOCH_e,
        (c.seat.map (fun k => k.1 + 1)).getD 0, (c.seat.map Prod.snd).getD 0, s2.now]))

/-- The claim of another device, its record adopted where it comes first (R345), its vault time followed (R364). -/
def State.claimIn (s : State) (uid fabid e : Nat) (held : Bool) (seat : Option (Nat × Nat)) (l : List SeatRec)
    (time : Nat) : State :=
  let s1 := if held ∧ s.betterRecord fabid e then s.adopt fabid e l else s
  (s1.addClaim ⟨uid, if held then some (fabid, e) else none, seat, time⟩).vtStep time

/-- CLAIM (R346): a claim reaches the keeper, with the claimant's record. -/
def execClaim (uid : Word) (held : Bool) (fabid epoch : Word) (seat : Option (Fin 64 × BitVec 48))
    (record : List (Fin 64 × Word × BitVec 48)) (time : Word) (s : State) : Result :=
  if s.isKeeper = false ∨ s.fab.committed ∨ s.rd D.FAB_STAT_join = 0 then .next s
  else .next (s.claimIn uid.toNat fabid.toNat epoch.toNat held (seat.map (fun k => (k.1.val, k.2.toNat)))
    (record.map (fun x => (x.1.val, x.2.1.toNat, x.2.2.toNat))) time.toNat)

/-- LATE_JOIN (R347, R361): a device that enters join after step 5 is admitted by the keeper alone. -/
def execLateJoin (uid : Word) (held : Bool) (fabid epoch : Word) (seat : Option (Fin 64 × BitVec 48))
    (record : List (Fin 64 × Word × BitVec 48)) (time : Word) (s : State) : Result :=
  if s.isKeeper = false ∨ s.fab.committed = false then .next s
  else
    let s0 : State := { s with fab := { s.fab with claims := [] } }
    .next ((s0.claimIn uid.toNat fabid.toNat epoch.toNat held (seat.map (fun k => (k.1.val, k.2.toNat)))
      (record.map (fun x => (x.1.val, x.2.1.toNat, x.2.2.toNat))) time.toNat).resolveCommit)

/-! Seat commands (R348). -/

/-- A seat command returns its status to the device that started it. -/
def State.seatEnd (s : State) (origin status : Nat) : State :=
  if origin = myUid then (s.wr D.FAB_SEATCMD_busy 0).wr D.FAB_SEATCMD_status status
  else s.emit (.fabMsg msgSeatStatus none [origin, status])

/-- The unseated members of the component. -/
def State.unseatedMember (s : State) (uid : Nat) : Bool :=
  s.reachable uid && decide (uid ≠ 0) && !(s.seatsHeld.any (fun k => decide (s.rd D.FAB_MEMUID_uid k = uid)))

/-- Status with which the keeper refuses a command; none where it performs it (Table 11.5). -/
def State.seatRefusal (s : State) (op seat uid : Nat) : Option Nat :=
  let holder := s.rd D.FAB_MEMUID_uid seat
  if op = 3 then (if s.seatsHeld.any (fun k => decide (s.rd D.FAB_MEMUID_uid k = uid)) then some 3 else none)
  else if s.quorum = false then some 1
  else if op = 1 then
    (if holder ≠ 0 then some 2 else if s.unseatedMember uid then none else some 3)
  else if holder ≠ 0 ∧ s.reachable holder then some 4 else none

/-- Forward hold lines for a UID are discarded (R348, DROPFWD). -/
def State.dropForward (s : State) (uid : Nat) : State :=
  let ls := (s.coh.fwd.filter (fun e => decide (e.2.uid = uid))).map Prod.fst
  let s1 := ls.foldl State.fwdDel s
  s1.log E.FAB_FWD_DROPPED 0 0 ls.length

/-- The keeper runs a seat command; ASSIGN and EVICT return SEAT_OK once the new record is in every ledger store, which
MEMBERSHIP_COMMIT reports. One that comes before returns BUSY. -/
def State.seatRun (s : State) (op seat uid origin : Nat) : State :=
  match s.seatRefusal op seat uid with
  | some st => s.seatEnd origin st
  | none =>
    if s.fab.seatOp.isSome then s.seatEnd origin 0x05
    else if op = 3 then ((s.dropForward uid).emit (.fabMsg msgSeatCmd none [3, seat, uid])).seatEnd origin 0
    else
      let e := s.rd D.FAB_EPOCH_e + 1
      let l := s.seatRecs.map (fun x => if x.1 = seat then (seat, if op = 1 then uid else 0, e) else x)
      let f := if s.fab.record then s.rd D.FAB_FABID_id else s.fresh.1.toNat
      let s1 := if s.fab.record then s else s.fresh.2.drawn
      let s2 : State := { s1 with fab := { s1.fab with seatOp := some ⟨op, seat, uid, origin⟩ } }
      s2.commitRecord f (if s.fab.record then e else 1) l

/-- A seat command is written here (key 0x5A), comes to this device as keeper, or, for DROPFWD, comes from the keeper. -/
def State.seatCommand (s : State) (fabric : Bool) (op seat uid origin : Nat) : State :=
  if fabric then
    (if s.isKeeper then s.seatRun op seat uid origin else if op = 3 then s.dropForward uid else s)
  else if s.bit D.FAB_SEATCMD_busy then s
  else
    let s1 := s.wr D.FAB_SEATCMD_busy 1
    if s1.isKeeper then s1.seatRun op seat uid myUid
    else s1.emit (.fabMsg msgSeatCmd none [op, seat, uid, myUid])

/-- MEMBERSHIP_COMMIT (R348, R360): at the keeper, the changes of the claims are committed, or a seat command's record is in
every ledger store; elsewhere, the keeper's record arrives. -/
def execMembershipCommit (fabid epoch : Word) (record : List (Fin 64 × Word × BitVec 48)) (s : State) : Result :=
  if s.isKeeper then
    match s.fab.seatOp with
    | some o => .next (({ s with fab := { s.fab with seatOp := none } } : State).seatEnd o.origin 0)
    | none => .next (if s.fab.resolving ∧ s.fab.committed = false then s.resolveCommit else s)
  else if s.rd D.FAB_STAT_join = 0 ∨ s.betterRecord fabid.toNat epoch.toNat = false then .next s
  else
    .next ((s.adopt fabid.toNat epoch.toNat (record.map (fun x => (x.1.val, x.2.1.toNat, x.2.2.toNat)))).memberSave.ownSeatCheck)

/-- JOIN_COMPLETE (R360 step 7, R346, R351). -/
def execJoinComplete (s : State) : Result :=
  if s.rd D.FAB_STAT_join ≠ 3 ∨ (s.isKeeper ∧ s.fab.committed = false) then .next s
  else
    let s1 : State := { s with fab := { s.fab with resolving := false } }
    match s1.storedSeat with
    | some k => .next (s1.joined k)
    | none =>
      let s2 : State := (s1.wr D.FAB_STAT_join 5)
      .next (({ s2 with fab := { s2.fab with refused := s.fab.record } } : State).log E.FAB_UNSEATED 0 0 0)

/-! Vault time (R362 to R365). -/

/-- One nanosecond passes (R362): vault time runs while VAUX is valid, and stands while it slews back (R363).
DESIGN CHOICE, log 2. DESIGN CHOICE, log 21. -/
def State.idle (s : State) : State :=
  if s.aon.vaux = false then s
  else match s.fab.ahead with
    | 0 => s.addWrap D.GBL_VTIME_ns 1
    | n + 1 => { s with fab := { s.fab with ahead := n } }

/-- TIME_BEACON (R363): the keeper sends its time; elsewhere, the beacon's time and the measured delay of its path arrive. More than 100 µs behind, the device steps;
else it slews, by at most 200 ppm of a beacon period: forward at once, back by letting as many nanoseconds pass uncounted.
DEDUCED, log 144. -/
def execTimeBeacon (time : Word) (delay depth : Nat) (s : State) : Result :=
  if s.rd D.FAB_STAT_join < 3 then .next s
  else if s.isKeeper then
    .next (((s.wr D.FAB_VTSTAT_offset 0).wr D.FAB_STAT_vtsync (b2n (decide (s.rd D.FAB_STAT_join = 4)))).emit
      (.fabMsg msgBeacon none [s.now]))
  else
    let t := time.toNat + delay
    let off := if s.now < t then t - s.now else s.now - t
    let s1 := (s.wr D.FAB_VTSTAT_offset (min 65535 off)).wr D.FAB_STAT_vtsync
      (b2n (decide (off ≤ 10 + 20 * depth ∧ s.rd D.FAB_STAT_join = 4)))
    let s2 := s1.emit (.fabMsg msgBeacon none [time.toNat])
    let s3 : State := { s2 with fab := { s2.fab with ahead := if t < s.now then min 200 (s.now - t) else 0 } }
    .next (if s.now + 100000 < t then s3.vtStep t
      else if s.now < t then s3.wr D.GBL_VTIME_ns (min t (s.now + 200)) else s3)

/-- VTSET (R365): the value, already clamped to the present vault time, goes to the keeper, which steps to it. -/
def State.vtSet (s : State) (fabric : Bool) (t : Nat) : State :=
  let s1 := if fabric then s else s.wr D.FAB_VTSTAT_hostset 1
  if s1.isKeeper ∨ s1.rd D.FAB_STAT_join = 0 then s1.vtStep t
  else if fabric then s1 else s1.emit (.fabMsg msgVtSet none [t])

/-- VAULT_TIME_SAVE (R362): a progress record carries vault time. -/
def execVaultTimeSave (s : State) : Result :=
  .next (if s.isOpen ∨ (s.phase = stStarting ∧ 11 ≤ s.boot.step) then s.progress 2 0 0 0 0 else s)

/-- JOIN_ENTER (R360): the ports train. -/
def State.joinEnter (s : State) : State :=
  let s1 := (s.wr D.FAB_STAT_join 1).fabUpdate
  (List.range 16).foldl (fun a p => if a.fpState p = fpDisabled ∨ a.fpState p = fpDown then a.fpStart p else a) s1

end Sys2Proof.Machine
end

