-- ==== Sys2Proof/Machine/MediaBus.lean ====
section
/-! DEFINITION. The media channel's commands (R537 to R539), their failures (R538), a channel sequencer's fault (R173), the
temperatures of the dies (R475), and the JTAG port (R532). -/

namespace Sys2Proof.Machine

/-! Commands (Table 20.8). -/

/-- Whether a die answers: present, not retired, its channel in service. -/
def State.dieUp (s : State) (d : Nat) : Bool :=
  (s.die d).present && !(s.die d).retired && !(s.chan (d / 8)).gone

/-- A command is sent on a channel: the die acts on it where its parity holds; a parity failure is ignored by the die, asserts
MALERT_N and counts as an error status (R537). -/
def State.mediaCmd (s : State) (ch die part cmd leaf : Nat) (parity : Bool) (run : State → State) : State :=
  let d := ch * 8 + die
  if s.dieUp d = false then s
  else
    let s1 := s.emit (.media ch die part cmd leaf)
    if parity then run s1 else (s1.emit (.malert ch)).dieFailed d

/-- Partition number of a channel, die and partition. -/
def partNo (ch die part : Nat) : Nat := (ch * 8 + die) * 8 + part

/-- Physical tile of a partition and a leaf number of Table 20.7. -/
def busTile (ch die part leaf : Nat) : Nat := partNo ch die part * 2 ^ 18 + leaf / 64

/-- MEDIA_READ (R537): one array read, its 320 bytes as the array reads them; a partition that writes does not answer.
DEDUCED, log 88. DEDUCED, log 90. -/
def execMediaRead (ch : Fin 32) (die part : Fin 8) (leaf : Fin 16777216) (_vref : BitVec 8) (_tsense : BitVec 4)
    (errs : Image) (parity : Bool) (s : State) : Result :=
  .next (s.mediaCmd ch die part 1 leaf parity (fun a =>
    if (a.part (partNo ch die part)).op = .writing then a
    else (a.emit (.mediaData ch (a.image (busTile ch die part leaf) (leaf.val % 64) ^^^ errs))).dieWorked (ch.val * 8 + die.val)))

/-- MEDIA_WRITE (R537): the image that waits for this leaf is written. -/
def execMediaWrite (ch : Fin 32) (die part : Fin 8) (leaf : Fin 16777216) (parity : Bool) (s : State) : Result :=
  .next (s.mediaCmd ch die part 2 leaf parity (fun a => a.startWrite (busTile ch die part leaf) (leaf.val % 64)))

/-- MEDIA_SUSPEND (R125, R537). -/
def execMediaSuspend (ch : Fin 32) (die part : Fin 8) (parity : Bool) (s : State) : Result :=
  .next (s.mediaCmd ch die part 3 0 parity (fun a => (a.suspend (partNo ch die part)).servePart (partNo ch die part)))

/-- A suspended write goes on. -/
def State.resumeWrite (s : State) (k : Nat) : State :=
  let p := s.part k
  if p.op = .suspended ∧ s.arrayRead k = false then s.setPart k { p with op := .writing } else s

/-- MEDIA_RESUME (R125, R537). -/
def execMediaResume (ch : Fin 32) (die part : Fin 8) (parity : Bool) (s : State) : Result :=
  .next (s.mediaCmd ch die part 4 0 parity (fun a => a.resumeWrite (partNo ch die part)))

/-- The byte STATUS returns for a partition: busy, suspended, in the commit window, verify failed, from bit 0.
PRESUMED, log 89. -/
def statusByte (p : Part) (vfail : Bool) : Nat :=
  b2n (decide (p.op = .writing) || p.reader.isSome) + 2 * b2n (decide (p.op = .suspended)) + 4 * b2n p.commit + 8 * b2n vfail

/-- The commit window of a partition as the die reports it. -/
def State.setCommit (s : State) (k : Nat) (on : Bool) : State :=
  let p := s.part k
  s.setPart k { p with commit := on && decide (p.op = .writing) }

/-- MEDIA_STATUS (R537): the die reports which writes are in their commit window and which have failed to verify. -/
def execMediaStatus (ch : Fin 32) (die : Fin 8) (commit vfail : BitVec 8) (parity : Bool) (s : State) : Result :=
  .next (s.mediaCmd ch die 0 5 0 parity (fun a =>
    let a1 := (List.range 8).foldl (fun b p => b.setCommit (partNo ch die p) (commit.getLsbD p)) a
    let v := (List.range 8).foldl (fun n p => n + statusByte (a1.part (partNo ch die p)) (vfail.getLsbD p) * 256 ^ p) 0
    let a2 := a1.emit (.mediaBytes ch 8 v)
    if vfail = 0 then a2.dieWorked (ch.val * 8 + die.val) else a2))

/-- MEDIA_TEMP (R537): the temperature in two's complement, in 2 bytes. -/
def execMediaTemp (ch : Fin 32) (die : Fin 8) (t : BitVec 8) (parity : Bool) (s : State) : Result :=
  .next (s.mediaCmd ch die 0 6 0 parity (fun a =>
    (a.emit (.mediaBytes ch 2 (t.signExtend 16).toNat)).dieWorked (ch.val * 8 + die.val)))

/-- Whether a census page is good: its CRC, density, partitions and format (R539). -/
def censusOk (i : Image) : Bool :=
  let v := i.toNat
  decide (v / 2 ^ 2528 = crc32 (v % 2 ^ 2528) 316 ∧ imgBytes i 8 2 = 256 ∧ imgBytes i 10 1 = 8 ∧ imgBytes i 11 1 = 1)

/-- MEDIA_IDENT (R537): the census page of the die. -/
def execMediaIdent (ch : Fin 32) (die : Fin 8) (page : Image) (parity : Bool) (s : State) : Result :=
  .next (s.mediaCmd ch die 0 7 0 parity (fun a => (a.emit (.mediaData ch page)).dieWorked (ch.val * 8 + die.val)))

/-- MEDIA_DIERESET (R537): every operation of the die is abandoned; what waits to be written stays waiting. -/
def execMediaDiereset (ch : Fin 32) (die : Fin 8) (parity : Bool) (s : State) : Result :=
  .next (s.mediaCmd ch die 0 8 0 parity (fun a =>
    (List.range 8).foldl (fun b p =>
      let k := partNo ch die p
      (b.setPart k { b.part k with reader := none }).partIdle k) a))

/-- MEDIA_CMD_TIMEOUT (R538). -/
def execMediaCmdTimeout (die : Fin 256) (s : State) : Result := .next (if s.dieUp die then s.dieFailed die else s)

/-- MALERT_N (R538): the die is sent STATUS by its channel. -/
def execMalertN (ch : Fin 32) (die : Fin 8) (s : State) : Result :=
  .next (if s.dieUp (ch.val * 8 + die.val) then s.emit (.media ch die 0 5 0) else s)

/-- SEQUENCER_FAULT (R173): microcode reloaded once; a fault that persists retires the channel. -/
def execSequencerFault (ch : Fin 32) (s : State) : Result :=
  let x := s.chan ch
  .next (if x.gone then s else if x.reloaded then s.retireChan ch 1 else s.setChan ch { x with reloaded := true })

/-! Die temperatures (R475). -/

/-- A temperature register byte as a number of degrees. -/
def degrees (v : Nat) : Int := if v < 128 then v else (v : Int) - 256

/-- Temperature of a die as last read. -/
def State.dieTemp (s : State) (d : Nat) : Int := degrees (s.rd D.CON_DIE_temp d)

/-- A die's writes are deferred; the first reading at or above the limit logs it. -/
def State.deferDie (s : State) (d : Nat) : State :=
  if (s.die d).defer then s else (s.setDie d { s.die d with defer := true }).log E.THM_MEDIA_DEFER 0 0 0

/-- A die's deferral ends below defer − 5 °C. -/
def State.deferEnd (s : State) (d : Nat) : State := s.setDie d { s.die d with defer := false }

/-- Channels in a back-off pause. -/
def State.inBackoff (s : State) (c : Nat) : Bool := (s.chan c).backoff

/-- A channel reaches back-off: a pause that takes effect at once, or, where its half has one, write deferral on its dies. -/
def State.backoff (s : State) (c : Nat) : State :=
  if s.inBackoff c then s
  else if (List.range 16).any (fun k => s.inBackoff (c / 16 * 16 + k)) then
    if (List.range 8).all (fun d => (s.die (c * 8 + d)).defer) then s
    else
      let s1 := (List.range 8).foldl (fun (a : State) d => a.setDie (c * 8 + d) { a.die (c * 8 + d) with defer := true }) s
      s1.log E.THM_BACKOFF c 1 0
  else
    let v := s.rd D.THM_MEDSTAT_backoff
    let s1 := (s.setChan c { s.chan c with backoff := true, since := s.now }).wr D.THM_MEDSTAT_backoff (v ||| 2 ^ c)
    s1.log E.THM_BACKOFF c 0 0

/-- DIE_TEMP_READ (R475): no deferral and no back-off begins during a flush (R143, R474). -/
def execDieTempRead (die : Fin 256) (t : BitVec 8) (s : State) : Result :=
  if s.dieUp die = false then .next s
  else
    let s1 := s.wr D.CON_DIE_temp t.toNat die
    let v := t.toInt
    let lim := (s.rd D.THM_MEDCFG_defer : Int)
    if s.isFlushing then .next s1
    else
      let s2 := if lim ≤ v then s1.deferDie die else if v < lim - 5 then s1.deferEnd die else s1
      .next (if (s.rd D.THM_MEDCFG_backoff : Int) ≤ v then s2.backoff (die.val / 8) else s2)

/-- BACKOFF_END (R475): every die of the channel is below backoff − 5 °C, and the pause has lasted 1 s. -/
def execBackoffEnd (ch : Fin 32) (s : State) : Result :=
  let x := s.chan ch
  let cool := (List.range 8).all (fun d => !s.dieUp (ch.val * 8 + d) ||
    decide (s.dieTemp (ch.val * 8 + d) < (s.rd D.THM_MEDCFG_backoff : Int) - 5))
  if x.backoff = false ∨ cool = false ∨ s.now < x.since + 1000000000 then .next s
  else
    let v := s.rd D.THM_MEDSTAT_backoff
    let v' := if v.testBit ch then v - 2 ^ ch.val else v
    .next ((s.setChan ch { x with backoff := false, since := 0 }).wr D.THM_MEDSTAT_backoff v')

/-! JTAG (R532). -/

/-- JTAG_INSTRUCTION: 0 BYPASS, 1 IDCODE, 2 one that drives or captures balls, which acts as BYPASS outside ROM_RECOVERY.
DESIGN CHOICE, log 91. -/
def execJtagInstruction (op : Fin 3) (s : State) : Result :=
  let k := if op = 2 ∧ s.phase ≠ stRomRecovery then 0 else op.val
  let s1 : State := { s with aon := { s.aon with jtag := k } }
  .next (if k = 1 then s1.emit (.jtag 0x17620001) else s1)

end Sys2Proof.Machine
end

