-- ==== Sys2Proof/Machine/Trigger.lean ====
section
/-! DEFINITION. What starts a flush, a power-down or a new start (R25, R77, R143, R462 to R467, R474, R479, R488, R502,
R505, R549). -/

namespace Sys2Proof.Machine

/-! The sequencer's states (Table 16.8). -/

def seqOff : Nat := 0
def seqGate : Nat := 1
def seqUp : Nat := 2
def seqOn : Nat := 3
def seqDown : Nat := 4
def seqFault : Nat := 5

/-- The rails and the reset outputs. -/
def rails : List Nat := List.range 12
def rstOuts : List Nat := List.range 4

/-- State of the sequencer. -/
def State.seq (s : State) : Nat := s.rd D.PWR_SEQSTAT_state

/-- Sets or clears one bit of a field. -/
def State.setBit (s : State) (f : FldDesc) (b : Nat) (on : Bool) (i : Nat := 0) : State :=
  let v := s.rd f i
  s.wr f (if on then (if v.testBit b then v else v + 2 ^ b) else (if v.testBit b then v - 2 ^ b else v)) i

/-- A reset output falls (R465). -/
def State.rstFall (s : State) (k : Nat) : State :=
  if s.rd D.PWR_RST_asserted k = 1 then s else (s.wr D.PWR_RST_asserted 1 k).logAon E.PWR_RESET_OUT k 0 0

/-- Every reset output falls. -/
def State.rstFallAll (s : State) : State := rstOuts.foldl State.rstFall s

/-- The reset outputs that a device reset drives fall (R465). DEDUCED, log 23. -/
def State.rstFallDev (s : State) : State :=
  rstOuts.foldl (fun a k => if a.rd D.PWR_RST_devrst k = 1 then a.rstFall k else a) s

/-- A rail's enable falls. -/
def State.railOff (s : State) (r : Nat) : State :=
  (((s.setBit D.PWR_SEQSTAT_en r false).setBit D.PWR_SEQSTAT_good r false).wr D.PWR_RAILST_state 0 r).wr D.PWR_RAILST_en 0 r

/-- The sequencer enters GATE from OFF, and a new start begins at that instant (R459, R549); after a failed power-up it
waits its second, and after too many it is in FAULT (R461). -/
def State.toGate (s : State) : State :=
  if s.aon.retryWait ∧ s.rd D.PWR_SEQCFG_retries ≤ s.rd D.PWR_SEQSTAT_attempts then
    (s.wr D.PWR_SEQSTAT_state seqFault).wr D.PWR_PFSTAT_inok 0
  else
    let s1 := s.wr D.PWR_SEQSTAT_state seqGate
    let s2 : State := { s1 with aon := { s1.aon with gateAt := s.now, gateLogged := 0, fallen := 0 } }
    if s.aon.retryWait then s2 else s2.newStart stStarting 2

/-- A power-down begins (R462, R465); with no rail enabled yet the sequencer is OFF at once, and where it is not
powering up nothing happens. -/
def State.powerDown (s : State) : State :=
  if s.rd D.PWR_SEQSTAT_en = 0 then (if s.seq = seqUp then (s.rstFallAll.wr D.PWR_SEQSTAT_state seqOff).toGate else s)
  else
    let s1 := s.rstFallAll.wr D.PWR_SEQSTAT_state seqDown
    { s1 with aon := { s1.aon with fallen := 0 } }

/-! The flush begins (step 1 of Table 3.5). -/

/-- Every maintenance and back-off pause of a channel ends (R143). -/
def Chan.endPause (c : Chan) : Chan := { c with want := false, activation := false, paused := false, backoff := false, since := 0 }

/-- Row tokens held by a pause, not by a locked write. -/
def pauseHolder : Nat := 100000

/-- Every channel pause ends and its row tokens are free; write deferrals end (R143, R474). -/
def State.endPauses (s : State) : State :=
  let m := s.med
  let m' : Media := { m with
    chans := (m.chans.map (fun e => (e.1, e.2.endPause))).filter (fun e => decide (e.2 ≠ Chan.init))
    tokens := m.tokens.filter (fun e => decide (e.2 < pauseHolder))
    dies := (m.dies.map (fun e => (e.1, { e.2 with defer := false }))).filter (fun e => decide (e.2 ≠ DieCnt.init)) }
  let s1 := ({ s with med := m' } : State).wr D.THM_MEDSTAT_backoff 0
  (List.range 32).foldl (fun a c => a.wr D.MED_CHCTL_pause 0 c) s1

/-- An activation stops and a transfer session closes with ABORTED (R502, R505). -/
def State.fwStop (s : State) : State :=
  let s1 := if s.bit D.FWU_XFER_open ∨ s.rd D.FWU_STAT_state = 2 then (s.wr D.FWU_XFER_open 0).wr D.FWU_RESULT_status 0x08 else s
  let s2 := if s.rd D.FWU_STAT_state = 0 then s1 else s1.wr D.FWU_STAT_state 0
  { s2 with fw := { s2.fw with act := none } }

/-- The throttle level goes to 0 (R474), which is logged (R472). -/
def State.throttleZero (s : State) : State :=
  if s.rd D.THM_STAT_level = 0 then s else (s.wr D.THM_STAT_level 0).logAon E.THM_THROTTLE_END 0 0 0

/-- Step 1 of a flush; step 2 follows. -/
def State.flushBegin (s : State) (cause : Nat) : State :=
  let s1 := ((s.measureAbandon.wr D.GBL_STAT_state stFlushing).wr D.PWR_PGSTAT_mode 5).wr D.PWR_PGSTAT_cause cause
  let s2 := (((((s1.injDisarmAll).endPauses.throttleZero).pageDrop).fwStop).abortMoves)
  let qs := (s.queues.filter (fun e => !e.2.vis.isEmpty || !e.2.held.isEmpty)).map Prod.fst
  { s2 with gov := { s2.gov with flush := some ⟨2, cause, decide (cause ≠ 2), false, false, s.now, 0, qs, [], [], 0⟩ } }

/-- A trigger of R77 (1 PFAIL, 2 device reset, 3 surprise removal), according to the state it meets (R25, R84, R488). -/
def State.trigger (s : State) (cause : Nat) : State :=
  if s.phase = stFlushing then
    match s.gov.flush with
    | some f =>
      if cause = 2 then s
      else
        let s1 : State := { s with gov := { s.gov with flush := some { f with watch := true } } }
        if f.cause = 3 ∧ cause = 1 ∧ f.t0 = s.now then s1.wr D.PWR_PGSTAT_cause 1 else s1
    | none => s
  else if s.phase = stResetting then (if cause = 2 then s else s.measureAbandon.powerDown)
  else if s.phase = stRomRecovery then (if cause = 2 then s.rstFallDev.newStart stResetting 2 else s.measureAbandon.powerDown)
  else if s.phase = stStarting ∧ s.boot.step ≤ 3 then
    (if cause = 2 then { s with boot := { s.boot with resetDue := true } } else s.measureAbandon.powerDown)
  else s.flushBegin cause

/-- DEVICE_RESET (R25): ignored while FLUSHING or RESETTING. -/
def State.deviceReset (s : State) : State := s.trigger 2

/-- PFAIL is asserted (R467): only in UP, ON and DOWN, and the first cause is kept. DEDUCED, log 25.
DEDUCED, log 26. -/
def State.pfail (s : State) (cause rail : Nat) : State :=
  if s.bit D.PWR_PFSTAT_pfail ∨ (s.seq ≠ seqUp ∧ s.seq ≠ seqOn ∧ s.seq ≠ seqDown) then s
  else
    let s1 := ((s.wr D.PWR_PFSTAT_pfail 1).wr D.PWR_PFSTAT_cause cause).wr D.PWR_PFSTAT_rail rail
    ((s1.wr D.GBL_STAT_pfail 1).logAon E.PWR_PFAIL 0 cause 0).trigger 1

end Sys2Proof.Machine
end

