-- ==== Sys2Proof/Machine/Staging.lean ====
section
/-! DEFINITION. Staging encryption and its failures (R388 to R398), the TRNG (R401, R402), the scrub of on-chip arrays and of
DDR4 (R407 to R409) and DDR4 parity alerts (R541). -/

namespace Sys2Proof.Machine

/-! Restoring a conservator record (R150). -/

/-- A time field rebuilt from its stored 16 bits at a vault time. -/
def rebuiltTime (now field : Nat) : Nat :=
  let st := field / 2 ^ 12 % 2 ^ 16
  let t := now / 2 ^ 58 * 2 ^ 58 + st * 2 ^ 42 + 2 ^ 41
  let t' := if now < t then (if 2 ^ 58 ≤ now then t - 2 ^ 58 else now) else t
  tileTime t'

/-- A tile record restored from its checkpointed value in the form of Table 5.3; its state comes from the catalogue and the log.
DEDUCED, log 105. -/
def State.restoredTile (s : State) (c : TileRec) (st : Nat) : TileRec :=
  let th := s.rd D.CON_DISTURB_thresh
  let r := min 0xFFFFFF (min 255 ((c.rcount + 65535) / 65536) * 65536 + th / 2)
  { c with
    wcount := c.wcount / 256 * 256 + 255, rcount := r, refresh := decide (th ≤ r), worn := false, st := st
    tnew := rebuiltTime s.now c.tnew, told := rebuiltTime s.now c.told }

/-- The checkpointed record of a tile. -/
def State.ctile (s : State) (p : Nat) : TileRec := SMap.get s.med.cbase s.med.ctiles p

/-! The code of a protected line (R391). -/

/-- The 16-byte block that AES encrypts for a line or a block: two little-endian words. -/
def seedBlock (a c : Nat) : Bytes := leBytes (a % 2 ^ 64) 8 ++ leBytes (c % 2 ^ 64) 8

/-- The ciphertext of a line: each 16-byte block under a key stream block of its own. -/
def stgCrypt (ke : BitVec 256) (i c : Nat) (p : Line) : Line :=
  let ks := (List.range 4).flatMap (fun b => aesEnc (leBytes ke.toNat 32) (seedBlock (i ||| (b * 2 ^ 62)) c))
  p ^^^ BitVec.ofNat 512 (ofLe ks)

/-- The first eight bytes of the GHASH of 64 bytes XOR an AES block. -/
def stgMac (km : BitVec 256) (h : BitVec 128) (text : Bytes) (a c : Nat) : Word :=
  let g := beBytes (ghash (ofBe (leBytes h.toNat 16)) text) 16
  BitVec.ofNat 64 (ofLe ((xorB g (aesEnc (leBytes km.toNat 32) (seedBlock a c))).take 8))

/-- The MAC of a protected line. -/
def lineMac (km : BitVec 256) (h : BitVec 128) (i c : Nat) (ct : Line) : Word := stgMac km h (leBytes ct.toNat 64) i c

/-- The MAC of block `j` of level `k` whose counter in its parent is `p`. -/
def blockMac (km : BitVec 256) (h : BitVec 128) (k j p : Nat) (ctrs : List Nat) : Word :=
  stgMac km h ((ctrs.flatMap (fun c => leBytes c 8)) ++ zeros 8) (2 ^ 63 + k * 2 ^ 56 + j) p

/-! Ranges (R395, R396). -/

/-- Replaces the engine. -/
def State.setStg (s : State) (e : Stg) : State := { s with stgE := e }

/-- Takes the present W, which increments (R390). -/
def State.takeW (s : State) : Nat × State := (s.rd D.STG_WCOUNT_w, s.wr D.STG_WCOUNT_w (s.rd D.STG_WCOUNT_w + 1))

/-- Whether a range covers a line. -/
def StgRange.covers (r : StgRange) (i : Nat) : Bool := decide (r.first ≤ i ∧ i < r.first + 7 ^ r.level)

/-- The newest range that covers a line. -/
def State.rangeOf (s : State) (i : Nat) : Option StgRange := (s.stgE.ranges.filter (fun r => r.covers i)).getLast?

/-- The counter of a protected line: a range's R where the line has not been written since. -/
def State.lineCtr (s : State) (i : Nat) : Nat :=
  match SMap.find s.stgE.lines i with
  | some l => l.ctr
  | none => match s.rangeOf i with
    | some r => r.r
    | none => 0

/-- Whether a line lies in a poisoned range: its counter equals the range's R. -/
def State.stgPoisoned (s : State) (i : Nat) : Bool :=
  s.stgE.ranges.any (fun r => r.covers i && decide (r.r = s.lineCtr i))

/-- Whether a write to a line waits for a reinitialisation. -/
def State.stgWaits (s : State) (i : Nat) : Bool := s.stgE.reinit.any (fun r => r.covers i)

/-! What a poisoned line held (Table 12.6). -/

/-- A word of an atrium entry can no longer be read: the entry is consumed under R324 when it is taken. -/
def AQueue.spoil (q : AQueue) (pos : Nat) : AQueue :=
  if pos < q.vis.length then { q with vis := q.vis.modify pos (fun e => { e with bad := true }) }
  else { q with held := q.held.modify (pos - q.vis.length) (fun e => { e with bad := true }) }

/-- A line of a stripe builder leaves it. -/
def Builder.without (b : Builder) (ll : Nat) : Builder :=
  { b with lines := SMap.keep (fun k _ =>
      !(decide (k % 256 = ll % 256) && decide ((b.slots[k / 256]?.map Prod.fst) = some (ll / 256)))) b.lines }

/-- A staged line can no longer be read: lost where it was not yet on media, else dropped and fetched again. -/
def State.stagedLost (s : State) (ll : Nat) : State :=
  let dirty := (match SMap.find s.med.stg ll with
    | some e => e.dirty
    | none => false) || (s.builderLine ll).isSome
  let s1 : State := { s with med := { s.med with
    stg := SMap.del s.med.stg ll, builders := s.med.builders.map (fun b => b.without ll) } }
  if dirty then s1.losePoisoned (s1.glOf ll) else s1

/-- The content of a protected line is gone; the catalogue is rebuilt from its journal, and a directory entry repaired from its
second copy. -/
def State.useLost (s : State) (u : StgUse) : State :=
  match u with
  | .data ll => s.stagedLost ll
  | .cat _ => s
  | .tileRec p => s.setTile p { s.restoredTile (s.ctile p) (s.tile p).st with forced := (s.tile p).forced }
  | .stripeRec _ => s
  | .queue n pos => s.setQueue n ((s.queue n).spoil pos)
  | .request seat tag =>
    { s with
      coh := { s.coh with dedup := SMap.del s.coh.dedup (tagKey seat tag) }
      stgE := { s.stgE with blocked := s.stgE.blocked ++ [(seat, tag, s.now + 2000000)] } }
  | .directory => s

/-! Failures (Tables 12.5 and 12.6, R398). -/

/-- The poison range list is full, or a directory entry is gone: a device reset. -/
def State.stgFull (s : State) : State := ((s.wr D.STG_ALARM_full 1).log E.STG_POISON_FULL 0 0 0).deviceReset

/-- A range is poisoned: its R is the present W; what it held is handled, and a subtree waits to be rewritten. -/
def State.poisonRange (s : State) (level first : Nat) : State :=
  if 4096 ≤ s.stgE.ranges.length then s.stgFull
  else
    let w := s.takeW
    let r : StgRange := ⟨level, first, w.1⟩
    let e := w.2.stgE
    let s1 := w.2.setStg { e with
      ranges := e.ranges ++ [r], reinit := if level = 0 then e.reinit else e.reinit ++ [r]
      lines := SMap.keep (fun i _ => !r.covers i) e.lines }
    let s2 := (s1.wr D.STG_STAT_ranges s1.stgE.ranges.length).wr D.STG_STAT_reinit (b2n (decide (s1.stgE.reinit ≠ [])))
    (s.stgE.uses.filter (fun u => r.covers u.1)).foldl (fun (a : State) (u : Nat × StgUse) => a.useLost u.2) s2

/-- An uncorrectable line, or the eight lines of an uncorrectable MAC line. -/
def State.lineUncorr (s : State) (i : Nat) (mac inj : Bool) : State :=
  let s1 := ((s.addSat D.STG_CNT_lineuc 1).wr D.STG_ALARM_lineuc 1).log E.STG_LINE_UNCORR 0 0 0 inj
  if mac then (List.range 8).foldl (fun (a : State) k => a.poisonRange 0 (i / 8 * 8 + k)) s1 else s1.poisonRange 0 i

/-- A line whose MAC does not match. -/
def State.lineTag (s : State) (i : Nat) (inj : Bool) : State :=
  (((s.addSat D.STG_CNT_tag 1).wr D.STG_ALARM_tag 1).log E.STG_TAG_FAIL 0 0 0 inj).poisonRange 0 i

/-- A counter block that is uncorrectable or altered. DEDUCED, log 86. -/
def State.nodeFail (s : State) (k j : Nat) (tamper inj : Bool) : State :=
  let s1 := s.addSat D.STG_CNT_node 1
  let s2 := if tamper then (s1.wr D.STG_ALARM_tamper 1).log E.STG_NODE_TAMPER 0 0 0 inj
    else (s1.wr D.STG_ALARM_nodeuc 1).log E.STG_NODE_UNCORR 0 0 0 inj
  s2.poisonRange k (j * 7 ^ k)

/-- `n` words of DDR4 were corrected on a channel. -/
def State.ddrCorr (s : State) (ch n : Nat) (inj : Bool) : State :=
  (List.range n).foldl (fun (a : State) _ =>
    (a.tDdr ch 0x04 1 |>.addSat (if ch = 0 then D.INJ_DDRCORR_ch0 else D.INJ_DDRCORR_ch1) 1).log E.STG_DDR_CORR 0 0 0 inj) s

/-! Reads (R392, R393). -/

/-- What DDR4 gives a read: its channel, words corrected, what is uncorrectable (0 nothing, 1 the line, 2 its MAC line), and bits
altered without a DDR4 error. -/
structure DdrFault where
  ch : Nat
  corr : Nat
  uncorr : Nat
  ct : Line
  mac : Word
  deriving DecidableEq, Repr

/-- One fetched counter block is verified: `bad` is the level found uncorrectable or altered. -/
def State.checkNode (s : State) (i bad : Nat) (tamper : Bool) (k : Nat) : Bool × State :=
  let j := i / 7 ^ k
  let hit := hitInst k (j % 65536)
  let u := s.inject 0x0C hit 0
  let t := u.2.inject 0x0D hit 512
  if u.1.fired then (false, t.2.nodeFail k j false true)
  else if t.1.mask ≠ 0 then (false, t.2.nodeFail k j true true)
  else if bad = k then (false, t.2.nodeFail k j tamper false)
  else (true, t.2)

/-- The fetched blocks of a path, from the highest downward; the first failure ends the check. -/
def State.checkPath (s : State) (i bad : Nat) (tamper : Bool) (miss : Nat) : Bool × State :=
  ((List.range miss).reverse.map (fun k => k + 1)).foldl (fun (a : Bool × State) k =>
    if a.1 then a.2.checkNode i bad tamper k else a) (true, s)

/-- The line itself is checked: DDR4's SEC-DED, then its MAC. DEDUCED, log 87. -/
def State.checkDdr (s : State) (i : Nat) (f : DdrFault) : Bool × State :=
  let x := s.inject 0x0A (hitProt i) 72
  let n := popBelow x.1.mask 72
  let s1 := x.2.ddrCorr f.ch (f.corr + b2n (decide (n = 1))) (decide (n = 1))
  if f.uncorr = 2 then (false, s1.lineUncorr i true false)
  else if f.uncorr = 1 ∨ 2 ≤ n then (false, s1.lineUncorr i false (decide (2 ≤ n)))
  else
    let y := s1.inject 0x0B (hitProt i) 512
    let bad : Bool := match SMap.find s.stgE.lines i, s.stgE.keys with
      | some l, some (_, km, h) => decide (lineMac km h i l.ctr (l.ct ^^^ f.ct ^^^ BitVec.ofNat 512 y.1.mask) ≠ l.mac ^^^ f.mac)
      | _, _ => decide (y.1.mask ≠ 0 ∨ f.ct ≠ 0 ∨ f.mac ≠ 0)
    if bad then (false, y.2.lineTag i (decide (y.1.mask ≠ 0))) else (true, y.2)

/-- The counter cache: blocks fetched, and modified blocks written back for them (R390, R392). DEDUCED, log 85. -/
def State.cacheTraffic (s : State) (miss : Nat) (evicted : List (Nat × Nat)) : State :=
  let s1 := (if miss = 0 then s.addWrap D.STG_CCACHE_hits 1 else s).addWrap D.STG_CCACHE_misses miss
  evicted.foldl (fun (a : State) (e : Nat × Nat) =>
    let w := a.takeW
    w.2.setStg { w.2.stgE with nodes := SMap.ins w.2.stgE.nodes (e.1 * 2 ^ 32 + e.2) w.1 }) s1

/-- A read of a protected line under R393: whether every check passed. A line in a poisoned range reads as poison, without alarm. -/
def State.stgRead (s : State) (i miss bad : Nat) (tamper : Bool) (f : DdrFault) (evicted : List (Nat × Nat)) : Bool × State :=
  let s0 := ((s.tDdr f.ch 0x01 1).tDdr f.ch 0x03 miss).cacheTraffic miss evicted
  if s.stgPoisoned i then (false, s0)
  else match s0.checkPath i bad tamper miss with
    | (false, s1) => (false, s1)
    | (true, s1) => s1.checkDdr i f

/-- What a kind of use of Table 12.6 is, from its number and operands. -/
def useOf (kind a b : Nat) : StgUse :=
  match kind with
  | 0 => .data a
  | 1 => .cat a
  | 2 => .tileRec a
  | 3 => .stripeRec a
  | 4 => .queue a b
  | 5 => .request a b
  | _ => .directory

/-- A request that waits for staging goes on, with the line's bytes, or from the start where the line is no longer there. -/
def State.stgResume (s : State) (ll : Nat) : State :=
  let gl := s.glOf ll
  match s.txn gl with
  | some t =>
    if t.phase = .stg then
      (if SMap.has s.med.stg ll || (s.builderLine ll).isSome then s.effect { t with line := some (s.belowNow gl) } Flips.none
       else s.effect t Flips.none)
    else s
  | none => s

/-- STAGING_READ (R393, R395 to R398): `bad` names the level of a fetched counter block that fails, `both` that a directory
entry's second copy fails too. DESIGN CHOICE, log 84. -/
def execStagingRead (line : Fin 4294967296) (kind : Fin 7) (a b : Nat) (ch : Fin 2) (miss bad : Fin 6) (tamper both : Bool)
    (corr : Fin 9) (uncorr : Fin 3) (ct : Line) (mac : Word) (evicted : List (Nat × Nat)) (s : State) : Result :=
  if s.rd D.STG_STAT_state = 0 then .next s
  else
    let u := (SMap.find s.stgE.uses line).getD (useOf kind a b)
    let s0 := s.setStg { s.stgE with uses := SMap.ins s.stgE.uses line u, alerts := SMap.del s.stgE.alerts line }
    let x := s0.stgRead line miss bad tamper ⟨ch, corr, uncorr, ct, mac⟩ evicted
    let s1 := if x.1 = false ∧ u = .directory ∧ both then x.2.stgFull else x.2
    .next (match u with
      | .data ll => s1.stgResume ll
      | _ => s1)

/-! Writes (R390, R391, R394). -/

/-- A whole protected line is stored under the present W. -/
def State.stgStore (s : State) (i : Nat) (u : StgUse) (p : Line) : State :=
  match s.stgE.keys with
  | none => s
  | some (ke, km, h) =>
    let w := s.takeW
    let ct := stgCrypt ke i w.1 p
    let e := w.2.stgE
    w.2.setStg { e with
      lines := SMap.ins e.lines i ⟨w.1, ct, lineMac km h i w.1 ct⟩, uses := SMap.ins e.uses i u, alerts := SMap.del e.alerts i }

/-- The bytes a use holds: those of the staging window for a data line, else those the command carries. -/
def State.useBytes (s : State) (u : StgUse) (data : Line) : Line :=
  match u with
  | .data ll => (s.belowNow (s.glOf ll)).1
  | _ => data

/-- The DDR4 controller of a protected line: the one in use, or, where both are, by the line's number.
DESIGN CHOICE, log 183. -/
def State.ddrOf (s : State) (i : Nat) : Nat :=
  match s.boot.ddr with
  | [(c, _)] => c
  | _ => i % 2

/-- STAGING_WRITE (R390, R391, R393): a whole line; it waits while its counter blocks are rewritten. -/
def execStagingWrite (line : Fin 4294967296) (kind : Fin 7) (a b : Nat) (data : Line) (miss : Fin 6) (evicted : List (Nat × Nat))
    (s : State) : Result :=
  let u := useOf kind a b
  if s.rd D.STG_STAT_state = 0 ∨ s.stgWaits line then .next s
  else .next ((((s.tDdr (s.ddrOf line) 0x02 1).tDdr (s.ddrOf line) 0x03 miss).cacheTraffic miss evicted).stgStore line u (s.useBytes u data))

/-- A merge whose read failed: the write is dropped where the line was not yet on media; the alarm is raised either way. -/
def State.mergeFailed (s : State) (dirty : Bool) : State :=
  let s1 := (s.wr D.STG_ALARM_merge 1).log E.STG_MERGE_FAIL 0 0 0
  if dirty then s1.addSat D.STG_CNT_merge 1 else s1

/-- STAGING_MERGE (R394): the line is read, the masked bytes are merged, and it is stored under a new counter. -/
def execStagingMerge (line : Fin 4294967296) (kind : Fin 7) (a b : Nat) (data : Line) (mask : LineMask) (ch : Fin 2)
    (miss bad : Fin 6) (tamper : Bool) (corr : Fin 9) (uncorr : Fin 3) (ct : Line) (mac : Word) (evicted : List (Nat × Nat))
    (s : State) : Result :=
  if s.rd D.STG_STAT_state = 0 ∨ s.stgWaits line then .next s
  else
    let u := (SMap.find s.stgE.uses line).getD (useOf kind a b)
    let dirty : Bool := match u with
      | .data ll => (match SMap.find s.med.stg ll with
        | some e => e.dirty
        | none => (s.builderLine ll).isSome)
      | _ => false
    let s0 := s.setStg { s.stgE with uses := SMap.ins s.stgE.uses line u }
    let x := s0.stgRead line miss bad tamper ⟨ch, corr, uncorr, ct, mac⟩ evicted
    if x.1 then .next (x.2.stgStore line u (match u with
      | .data _ => s.useBytes u data
      | _ => merge 0 data mask))
    else .next (x.2.mergeFailed dirty)

/-- STAGING_REINIT_DONE (R395): the counter blocks of the oldest poisoned subtree have been rewritten. -/
def execStagingReinitDone (s : State) : Result :=
  match s.stgE.reinit with
  | [] => .next s
  | r :: rest =>
    let w := s.takeW
    let e := w.2.stgE
    let below (k : Nat) : Bool := decide (k / 2 ^ 32 < r.level) && r.covers (k % 2 ^ 32 * 7 ^ (k / 2 ^ 32))
    let s1 := w.2.setStg { e with
      reinit := rest
      nodes := SMap.ins (SMap.keep (fun k _ => !below k) e.nodes) (r.level * 2 ^ 32 + r.first / 7 ^ r.level) w.1 }
    .next (s1.wr D.STG_STAT_reinit (b2n (decide (rest ≠ []))))

/-! DDR4's own errors (R408, R541). -/

/-- DDR4_SCRUB (R408, R409): a word is checked; a corrected one is written back, its counter unchanged. -/
def execDdr4Scrub (line : Fin 4294967296) (ch : Fin 2) (corr : Bool) (uncorr : Fin 3) (s : State) : Result :=
  if s.isOpen = false ∨ s.stgPoisoned line then .next s
  else
    let x := s.inject 0x0A (hitProt line) 72
    let n := popBelow x.1.mask 72
    let s1 := x.2.ddrCorr ch (b2n (corr || decide (n = 1))) (decide (n = 1))
    .next (if uncorr = 2 then s1.lineUncorr line true false
      else if uncorr = 1 ∨ 2 ≤ n then s1.lineUncorr line false (decide (2 ≤ n)) else s1)

/-- DDR4_PARITY_ALERT (R541): the command is issued again; a fourth alert makes the line uncorrectable. -/
def execDdr4ParityAlert (line : Fin 4294967296) (s : State) : Result :=
  let n := SMap.get 0 s.stgE.alerts line + 1
  if n < 4 then .next (s.setStg { s.stgE with alerts := SMap.ins s.stgE.alerts line n })
  else .next ((s.setStg { s.stgE with alerts := SMap.del s.stgE.alerts line }).lineUncorr line false false)

/-! The TRNG (R401, R402). -/

/-- The start-up test is run again (CIP_CTL.trngrst). -/
def State.trngRestart (s : State) : State := s.wr D.CIP_STAT_trng 1

/-- TRNG_RESEED (R401, R402): the DRBG reseeds where the samples pass both tests; a failure stops reseeding until the start-up
test passes again. DEDUCED, log 83. -/
def execTrngReseed (rct apt : Bool) (s : State) : Result :=
  let x := s.inject 0x13 (hitInst1 0) 0
  let r := rct || x.1.fired
  let s1 := if r then x.2.addSat D.CIP_TRNG_rct 1 else x.2
  let s2 := if apt then s1.addSat D.CIP_TRNG_apt 1 else s1
  if r ∨ apt then .next (((s2.wr D.CIP_STAT_trng 2).wr D.CIP_ALARM_trng 1).log E.CIP_TRNG_FAIL 0 0 0 x.1.fired)
  else if s.rd D.CIP_STAT_trng = 2 then .next s2
  else .next (({ s2 with drbg := 0 } : State).wr D.CIP_STAT_trng 0 |>.addWrap D.CIP_TRNG_reseeds 1)

/-! Scrub of on-chip arrays (R407 to R409). -/

/-- The conflict queue entry goes back to its requester, which asks again (R16). DEDUCED, log 111. -/
def State.confRetry (s : State) (k : Nat) : State :=
  { s with coh := { s.coh with conf := s.coh.conf.eraseIdx k ++ (s.coh.conf[k]?).toList } }

/-- A loan directory entry is taken as naming every occupied seat. -/
def State.dirUncorr (s : State) (gl : Nat) : State :=
  if SMap.has s.coh.loans gl = false then s
  else
    let m := (s.seatsHeld.filter (fun k => s.mySeat ≠ some k)).foldl (fun n k => n + 2 ^ k) 0
    let sh : BitVec 64 := BitVec.ofNat 64 m
    (s.setLoan gl { s.loan gl with sharers := sh }).sendInvs gl sh

/-- A wing filter entry is taken as a hit: an invalidating snoop, and the entry is cleared. -/
def State.filterUncorr (s : State) (gl : Nat) : State :=
  if s.filterHas gl = false then s
  else ((List.range 8).foldl (fun (a : State) w => a.wingFlushLine w gl)
    (s.tSlice (sliceOf gl) 0x04 1 |>.addWrap D.CLO_FILTER_snoops 1)).filterDel gl

/-- The action of Table 13.2 on an uncorrectable word: `a` and `b` name the word's content. DEDUCED, log 156. -/
def State.sramUncorr (s : State) (arr a b : Nat) : State :=
  match arr with
  | 0 => s.deviceReset
  | 1 => match SMap.find s.rgr.buf a with
    | some r => { s with rgr := { s.rgr with buf := SMap.ins s.rgr.buf a { r with code := E.REC_LOST, inst := 0, aux := 0, sev := 1, inj := false, summary := false, arg := r.code } } }
    | none => s
  | 2 => s.nodeFail a b false false
  | 4 => s.filterUncorr a
  | 5 => s.dirUncorr a
  | 6 => s.confRetry a
  | _ => s

/-- A word of an on-chip array is checked: `wrong` bits are wrong. -/
def State.sramCheck (s : State) (arr inst a b wrong : Nat) : State :=
  let x := s.inject 0x0E (hitInst arr inst) 72
  let n := wrong + popBelow x.1.mask 72
  if n = 0 then x.2
  else if n = 1 then (x.2.addSat D.INJ_SRAM_corr 1).log E.GBL_SRAM_CORR 0 0 0 x.1.fired
  else ((x.2.addSat D.INJ_SRAM_uncorr 1).log E.GBL_SRAM_UNCORR 0 0 0 x.1.fired).sramUncorr arr a b

/-- ONCHIP_SCRUB (R407 to R409): arrays 0 to 6 are those of Table 13.2, 7 the vitrine, 8 a wing's L2 and 9 its L1 data cache;
`a` is the wing, or the word's content, and `b` the line or block. No recency and no filter entry changes.
DESIGN CHOICE, log 185. -/
def execOnchipScrub (arr : Fin 10) (inst a b : Nat) (wrong : Fin 73) (fl : Flips) (s : State) : Result :=
  if s.isOpen = false then .next s
  else if arr.val < 7 then .next (s.sramCheck arr inst a b wrong)
  else if arr = 7 then
    match s.vfind b with
    | some (w, v) => .next (s.checkWay b w v fl).2
    | none => .next s
  else match s.wfind a b with
    | some l => .next (s.checkWing a b l fl (if arr = 9 then inst * 2 + 1 else 0)).2
    | none => .next s

end Sys2Proof.Machine
end

