-- ==== Sys2Proof/Machine/FlushSteps.lean ====
section
/-! DEFINITION. The steps of a flush after its first (Table 3.5, R78 to R84, R86 to R90, R228, R326, R433, R447), the
energy watch, and the end of the 1 ms hold of a restart (R479). -/

namespace Sys2Proof.Machine

/-- Changes the flush under way. -/
def State.flushMod (s : State) (f : Flush → Flush) : State :=
  { s with gov := { s.gov with flush := s.gov.flush.map f } }

/-- The flush goes on to a step. -/
def State.toStep (s : State) (n : Nat) : State := s.flushMod (fun f => { f with step := n })

/-! Steps 2 to 5. -/

/-- Whether a request is a host write that was fully received: it waits for nothing but its own turn. -/
def Req.hostWrite (r : Req) : Bool :=
  decide (r.kind = .write) && (match r.src with
    | .port _ _ => true
    | .eab _ => true
    | _ => false)

/-- The contexts that run a call or end one. -/
def State.busyCtxs (s : State) : List Nat := (SMap.keys s.cur.ctxs).filter (fun c => decide ((s.ctx c).st ≠ .idle))

/-- FLUSH_STORE_DRAIN_DONE (R78, R87, R228): every host write received and every store that can be accepted has been; what a
store buffer still holds was never accepted, and the calls are interrupted. What stands behind an entry that cannot be accepted
drains first. -/
def execFlushStoreDrainDone (s : State) : Result :=
  let waits := s.coh.txns.any (fun e => e.2.req.hostWrite && decide (e.2.phase ≠ .loan)) ||
    s.coh.conf.any (fun r => r.hostWrite && !s.loanWait r.gl) || (SMap.keys s.cur.ctxs).any s.drainable
  if s.atStep 2 = false ∨ waits then .next s
  else
    let s1 := (SMap.keys s.cur.ctxs).foldl (fun (a : State) c => a.sbDropStuck c false) s
    if (SMap.keys s1.cur.ctxs).any s1.drainable then .next s1
    else .next ((s1.busyCtxs.foldl State.interrupt s1).toStep 3)

/-- FLUSH_WING_WRITEBACK_DONE (R78, R188): every wing has written its lines back, and an invalidate-all under way ends. -/
def execFlushWingWritebackDone (s : State) : Result :=
  .next (if s.atStep 3 then
    let s1 := ((List.range 8).foldl State.wingFlush s).wr D.VIT_WINGINV_busy 0
    ({ s1 with coh := { s1.coh with invBusy := 0 } } : State).toStep 4
  else s)

/-- The lines of other devices that loan ways hold modified. -/
def State.lentDirty (s : State) : List Nat :=
  (s.coh.vit.filter (fun e => decide (e.2.lent = .modified))).map (fun e => e.2.gl)

/-- FLUSH_STAGING_MOVE_DONE (R78, R211): dirty local lines are in staging; modified lines of other devices are outbound, and step 5
begins with every owned entry delivering. -/
def execFlushStagingMoveDone (s : State) : Result :=
  .next (if s.atStep 4 then
    let s1 := s.lentDirty.foldl State.endLoan s.settleOwn
    ((SMap.keys s1.coh.outb).foldl State.deliver s1).toStep 5
  else s)

/-- Puts bytes of a line into the forward hold area, over those it may hold already. -/
def State.fwdHold (s : State) (gl : Nat) (d : Line) (mask : LineMask) (p release : Bool) (ctxs : List Nat) : State :=
  match SMap.find s.coh.fwd gl with
  | some e => s.fwdAdd gl (merge e.data d mask) (e.mask ||| mask) (e.poison || p) (e.release && release) (e.ctxs ++ ctxs)
  | none => s.fwdAdd gl d mask p release ctxs

/-- An outbound entry leaves for the forward hold area; one that was only asked for and holds nothing is dropped. -/
def State.holdOut (s : State) (e : Nat × OutEnt) : State :=
  let s1 := s.delOut e.1
  if e.2.st = .asked ∧ e.2.mask = 0 then s1
  else s1.fwdHold e.1 e.2.data e.2.mask e.2.poison (decide (e.2.mask = 0)) e.2.ctxs

/-- The writes a port's early-acknowledgement buffer holds leave it: local ones for staging, others for the forward hold
area. DEDUCED, log 29. -/
def State.holdEab (s : State) (p : Nat) : State :=
  let x := s.port p
  x.eab.foldl (fun (a : State) e =>
    let gl := lineOf e.ga
    if a.isLocal gl then (a.charge gl).toStaging (llOf gl) e.data e.mask e.poison
    else a.fwdHold gl e.data e.mask e.poison false []) (s.setPort p { x with eab := [] })

/-- FLUSH_FORWARD_HOLD (R78): at 8 ms every line not acknowledged by its home is in the forward hold area. -/
def execFlushForwardHold (s : State) : Result :=
  if s.atStep 5 = false then .next s
  else
    let s1 := s.coh.outb.foldl State.holdOut (s.lentDirty.foldl State.endLoan s)
    let s2 := s1.coh.outb.foldl State.holdOut s1
    let s3 := (List.range 4).foldl State.holdEab s2
    .next { s3 with coh := { s3.coh with freqs := [] } }

/-- FLUSH_DELIVERY_DONE (R78): nothing is outbound and no early-acknowledgement buffer holds a write. -/
def execFlushDeliveryDone (s : State) : Result :=
  .next (if s.atStep 5 ∧ s.coh.outb = [] ∧ (List.range 4).all (fun p => decide ((s.port p).eab = [])) then s.toStep 6 else s)

/-! Steps 6 to 9. -/

/-- Every journal entry and conservator log record goes to media. DESIGN CHOICE, log 34. -/
def State.drainLogs (s : State) : State :=
  ((s.med.jpend.length / 8 + 2).repeat State.journalWrite (s.logWrite)).logWrite

/-- The registrar's step begins: records numbered from here on travel with the flush record (R433). -/
def State.step7 (s : State) : State := { s with rgr := { s.rgr with step7 := some (s.rd D.REC_HEAD_seq) } }

/-- FLUSH_JOURNAL_TAIL_DONE (R78). -/
def execFlushJournalTailDone (s : State) : Result :=
  .next (if s.atStep 6 then s.drainLogs.step7.toStep 7 else s)

/-- FLUSH_REGISTRAR_DONE (R433): the records numbered before step 7 are in the annal region; step 8 begins with every stripe
builder closing (R82) and Dflush the charge of that instant. -/
def execFlushRegistrarDone (s : State) : Result :=
  if s.atStep 7 = false then .next s
  else
    let s1 := s.annalCommit (s.rgr.step7.getD 0)
    let s2 : State := { s1 with
      rgr := { s1.rgr with writing := none }
      med := { s1.med with builders := s1.med.builders.map (fun b => { b with closing := true }) } }
    .next ((s2.wr D.REC_STAT_writing 0).flushMod (fun f => { f with step := 8, dflush := s1.dirty }))

/-- Dirty lines of staging that step 8 has to write: those of tiles not about to be unmapped. -/
def State.stagedDirty (s : State) : List Nat :=
  (s.med.stg.filter (fun e => e.2.dirty && !s.unmapDue (tileOf e.1))).map Prod.fst

/-- Lines whose tiles have no key to be written under are lost. DEDUCED, log 31. -/
def State.loseKeyless (s : State) : State :=
  (s.stagedDirty.filter (fun ll => (s.baseKey (tileOf ll)).isNone)).foldl (fun (a : State) ll =>
    ({ a with med := { a.med with stg := SMap.del a.med.stg ll } } : State).losePoisoned (a.glOf ll)) s

/-- The charge of lines that step 8 has not written: those of other devices, and local ones still staged or in a builder. -/
def State.unwrittenCharge (s : State) : Nat :=
  ((s.coh.chg.filter (fun e => !s.isLocal e.1 || (s.builderLine (llOf e.1)).isSome ||
    (match SMap.find s.med.stg (llOf e.1) with
     | some x => x.dirty
     | none => false))).map Prod.snd).sum + 128 * s.coh.gdirty.length

/-- The charge step 8 has written so far, in units of 64 bytes (Table 3.11). DEDUCED, log 166. -/
def State.writtenUnits (s : State) : Nat := ((s.gov.flush.map Flush.dflush).getD 0 - s.unwrittenCharge) / 64

/-- FLUSH_STAGING_WRITE_DONE (R78, R82, R83): every staged line is on media, every update is closed and every forced move has
ended. DEDUCED, log 33. -/
def execFlushStagingWriteDone (s : State) : Result :=
  if s.atStep 8 = false then .next s
  else
    let s1 := s.loseKeyless
    if s1.stagedDirty ≠ [] ∨ s1.coh.gdirty ≠ [] ∨ s1.med.builders ≠ [] ∨ s1.med.updates ≠ [] ∨
        s1.med.moves.any (fun e => e.2.forced && !e.2.ended) then .next s1
    else .next ((s1.wr D.PWR_PGFLUSH_bytes s1.writtenUnits).toStep 9)

/-- FLUSH_JOURNAL_DONE (R78): the entries step 8 created are written; after an abandonment none is left (R89), and what the
conservator's log still holds is written on the reserve, unless there is none. -/
def execFlushJournalDone (s : State) : Result :=
  if s.atStep 9 = false then .next s
  else if s.aon.euFloor then
    .next (({ s with med := { s.med with jpend := [], rels := [], cpend := [] } } : State).toStep 10)
  else .next (s.drainLogs.toStep 10)

/-! The flush record (R447) and step 11. -/

/-- The range of the whole device (R483). -/
def State.wholeDevice (s : State) : Breach := ⟨s.rd D.FAB_STAT_seat, 0, 0, s.boot.startCount, 469762048⟩

/-- The numbers of two lists, each once. -/
def unionNat (a b : List Nat) : List Nat := a ++ b.filter (fun x => !a.contains x)

/-- Merges breach ranges down to a number of entries (R447). -/
def limitRanges (n : Nat) (l : List Breach) : List Breach :=
  (l.length - n).repeat mergeBreach (l.foldl (fun a b => insBreach b a) [])

/-- What an earlier flush or an unflushed stop has left that the interrupted start had not yet applied (R483, R488).
DEDUCED, log 39. -/
def State.carried (s : State) : FlushRec :=
  if 10 < s.boot.step then FlushRec.init
  else if s.boot.unflushed then
    { FlushRec.init with valid := true, abandoned := true, ranges := [s.wholeDevice] }
  else if s.gov.rec0.valid then s.gov.rec0
  else FlushRec.init

/-- The flush record of this flush, with what is carried. -/
def State.flushRecord (s : State) (f : Flush) : FlushRec :=
  let old := s.carried
  let all := old.records ++ s.rgr.buf.filter (fun e => decide (s.rgr.step7.getD 0 < e.1))
  { valid := true
    abandoned := f.abandoned || old.abandoned
    cause := s.rd D.PWR_PGSTAT_cause
    time := s.now
    start := s.boot.startCount
    head := s.rd D.REC_HEAD_seq
    ranges := limitRanges 384 (old.ranges ++ f.ranges)
    seals := (if s.boot.step ≤ 9 then old.seals else []) ++ s.cur.seals.filter (fun x => !x.committed)
    updates := (if s.boot.step ≤ 9 then old.updates else []) ++ f.updates
    records := all.take 160
    queues := unionNat old.queues f.queues
    regLost := old.regLost + f.regLost + (all.length - 160)
    bytes := s.rd D.PWR_PGFLUSH_bytes
    us := s.rd D.PWR_PGFLUSH_us
    coarse := old.coarse || decide (384 < (old.ranges ++ f.ranges).length) }

/-- Step 11: a device reset, or a flush that finds input power present, restarts; otherwise the rails go off (R78, R80, R84). -/
def State.flushEnd (s : State) (f : Flush) : State :=
  if s.bit D.PWR_PFSTAT_inok ∨ (f.cause = 2 ∧ s.bit D.PWR_PFSTAT_pfail = false) then
    (if f.cause = 2 then s.rstFallDev else s).newStart stResetting 2
  else s.powerDown

/-- FLUSH_RECORD_DONE (R80, R90, R447): every event raised so far is numbered, the record is in the ledger store and step 11
follows at once. DESIGN CHOICE, log 35. DEDUCED, log 70. -/
def execFlushRecordDone (s : State) : Result :=
  match s.gov.flush with
  | none => .next s
  | some f =>
    if s.atStep 10 = false then .next s
    else
      let s0 := s.evq.foldl (fun (a : State) e => a.arriveAll [e]) { s with evq := [] }
      let s1 := s0.wr D.PWR_PGFLUSH_us (min (2 ^ 20 - 1) ((s.now - f.t0) / 1000))
      let c := 1 - s1.gov.recCopy
      let s2 : State := { s1 with
        gov := { s1.gov with rec0 := s1.flushRecord f, recCopy := c }
        led := { s1.led with bad := s1.led.bad.filter (fun p => !(decide (2560 + 96 * c ≤ p ∧ p < 2656 + 96 * c))) } }
      .next ((s2.toStep 11).flushEnd f)

/-- RESET_HOLD_END (R479): the island reset of a restart has lasted 1 ms. -/
def execResetHoldEnd (s : State) : Result :=
  .next (if s.phase = stResetting ∧ s.boot.step = 2 then
    ({ s with boot := { s.boot with step := 3 } } : State).wr D.GBL_STAT_state stStarting else s)

/-! Energy (R81, R84). -/

/-- eu_mj as the flush finds it: R66's formula on the latest conversion, since the comparison comes every 100 µs, between the
recomputations that take the mean. DESIGN CHOICE, log 167. -/
def State.euNow (s : State) : Nat :=
  if s.hasMeasure = false then 0
  else if s.aon.euFloor then s.rd D.PWR_PGPARAM_ereserve * 1000
  else s.euOf (s.rd D.PWR_PGCAP_c) (s.rd D.PWR_PGCAP_esr) (s.rd D.PWR_SENS_bank)

/-- FLUSH_ENERGY_CHECK (R81): in steps 1 to 9 of a watched flush. -/
def execFlushEnergyCheck (s : State) : Result :=
  match s.gov.flush with
  | none => .next s
  | some f =>
    .next (if s.isFlushing ∧ f.watch ∧ f.step ≤ 9 ∧ f.abandoned = false ∧ s.euNow ≤ s.rd D.PWR_PGPARAM_ereserve * 1000 then
      s.flushMod (fun g => { g with abandonDue := true }) else s)

/-- Adds one tile to ranges kept newest first. -/
def addTile (l : List Breach) (seat region tile start : Nat) : List Breach :=
  match l with
  | b :: r =>
    if b.seat = seat ∧ b.region = region ∧ tile < b.tile + b.count then l
    else if b.seat = seat ∧ b.region = region ∧ b.tile + b.count = tile then { b with count := b.count + 1 } :: r
    else ⟨seat, region, tile, start, 1⟩ :: l
  | [] => [⟨seat, region, tile, start, 1⟩]

/-- Whether bytes of another device's line are held here and its home has not had them. -/
def State.remoteData (s : State) (gl : Nat) : Bool :=
  SMap.has s.coh.fwd gl || (s.wingDirty gl).isSome ||
    (match s.outEnt gl with
     | some e => decide (e.mask ≠ 0)
     | none => false) ||
    (match s.vfind gl with
     | some (_, v) => v.dirty
     | none => false)

/-- The tile ranges whose charged data has not reached media (R81, R93), from the charges in ascending line number.
DEDUCED, log 30. DEDUCED, log 38. -/
def State.chargedRanges (s : State) : List Breach :=
  (s.coh.chg.foldl (fun (a : List Breach) (e : Nat × Nat) =>
    let t := tileOf (llOf e.1)
    if s.isLocal e.1 then
      (if s.dirtyAnywhere e.1 then addTile a (s.rd D.FAB_STAT_seat) (s.regionNo e.1) t s.boot.startCount else a)
    else if s.remoteData e.1 then addTile a (seatOf e.1) 0xFFF t s.boot.startCount
    else a) []).reverse

/-- Records of the registrar buffer that an abandonment leaves off media: in step 7 those numbered before it began, before
step 7 all of them (R81, R433). DEDUCED, log 37. -/
def State.lostRecords (s : State) : List Nat :=
  match s.gov.flush with
  | some f =>
    if f.step < 7 then SMap.keys s.rgr.buf
    else if f.step = 7 then (SMap.keys s.rgr.buf).filter (fun k => decide (k ≤ s.rgr.step7.getD 0))
    else []
  | none => []

/-- Updates whose data or parity leaf alone is on media (R135). -/
def State.openPairs (s : State) : List (Nat × Nat) := s.med.updates.map (fun u => (u.stripe, u.pos))

/-- What an abandonment in step 2 still does for the contexts: their calls are interrupted, and what their store buffers hold
was never accepted (R87, R228). -/
def State.abandonCalls (s : State) (f : Flush) : State :=
  if f.step ≤ 2 then (s.busyCtxs.foldl State.sbDropAll s |> fun a => a.busyCtxs.foldl State.interrupt a) else s

/-- An abandonment: the ranges are recorded and steps 9 to 11 run on the reserve (R81). Journal entries that are not on media
have no effect (R89), nor have registrar records (R433). -/
def State.abandonFlush (s : State) (f : Flush) : State :=
  let s0 := s.abandonCalls f
  let lost := s0.lostRecords
  let s1 : State := { s0 with
    rgr := { s0.rgr with
      buf := SMap.keep (fun k _ => !lost.contains k) s0.rgr.buf
      writing := none
      step7 := if f.step < 7 then some (s0.rd D.REC_HEAD_seq) else s0.rgr.step7 }
    med := { s0.med with updates := [], builders := [], jpend := [], rels := [] } }
  let bytes := if f.step = 8 then s0.writtenUnits else 0
  (((s1.wr D.REC_STAT_writing 0).wr D.PWR_PGFLUSH_bytes bytes).log E.PWR_PG_ABANDON 0 f.step s0.dirty).flushMod (fun g => { g with
    step := 9, abandoned := true, abandonDue := false, ranges := s0.chargedRanges, updates := s0.openPairs
    regLost := lost.length })

/-- FLUSH_ABANDON (R81): at an abandonment point, where no leaf write that a die has been given is under way.
DEDUCED, log 36. -/
def execFlushAbandon (s : State) : Result :=
  match s.gov.flush with
  | none => .next s
  | some f =>
    let writing := s.med.parts.any (fun e => decide (e.2.op ≠ .idle))
    .next (if s.isFlushing ∧ f.abandonDue ∧ f.step ≤ 8 ∧ writing = false ∧ s.med.updates.all (fun u => u.dataDone == u.parDone)
      then s.abandonFlush f else s)

end Sys2Proof.Machine
end

