-- ==== Sys2Proof/Machine/HostPort.lean ====
section
/-! DEFINITION. The host ports (R34 to R37, R97, R229, R230, R300 to R310): link state, port reset, HDM decoders, CXL.mem
requests and Global Persistent Flush. -/

namespace Sys2Proof.Machine

/-! Link state and port reset (R303, R304, R306, R326). -/

/-- Host lanes of a port under HP_MODE (Table 10.2). -/
def lanesOf (hpMode p : Nat) : Nat :=
  if hpMode = 0 then 16 else if hpMode = 1 then (if p < 2 then 16 else 8) else if hpMode = 2 then 8 else 4

/-- A packet a port holds open is discarded and its entries counted (R326). -/
def State.dropPacket (s : State) (n : Nat) : State :=
  let q := s.queue n
  (s.qDrop n q.held.length).setQueue n { q with held := [], packet := false, cut := false }

/-- A write of port `p` that is under way goes on without a completion (Table 3.6, host link loss). -/
def Src.unport (p : Nat) (r : Src) : Src :=
  match r with
  | .port q _ => if q = p then .eab p else r
  | _ => r

/-- A write request that keeps no port waiting. -/
def Req.unport (p : Nat) (r : Req) : Req :=
  match r.kind with
  | .write => { r with src := r.src.unport p }
  | _ => r

/-- Every write of a port under way loses its completion. -/
def State.unportWrites (s : State) (p : Nat) : State :=
  { s with coh := { s.coh with
      conf := s.coh.conf.map (Req.unport p)
      txns := s.coh.txns.map (fun e => (e.1, { e.2 with req := e.2.req.unport p }))
      freqs := s.coh.freqs.map (fun e =>
        (e.1, if e.2.kind = .fwrite then { e.2 with src := e.2.src.unport p } else e.2)) } }

/-- The reset of one port (R306, R502): a firmware session of the port ends with status ABORTED. The event logs and the
counts of HST_ERR stay. PRESUMED, log 50. -/
def State.portReset (s : State) (p : Nat) : State :=
  let q := s.port p
  let s1 := (q.packets.foldl State.dropPacket s).unportWrites p
  let s2 := s1.setPort p { Port.init with perst := q.perst, loaded := q.loaded, eab := q.eab, logs := q.logs }
  let s3 := (List.range 8).foldl (fun a n => a.wrP D.HST_GBASE_base p 0 n) s2
  let s4 := ((s3.wrP D.HST_STAT_mode p 0).wrP D.HST_STAT_width p 0).wrP D.HST_STAT_speed p 0
  let s5 := (s4.addSatP D.HST_ERR_linkdown p 1).log E.GBL_LINK_DOWN 0 0 0
  if s5.bit D.FWU_XFER_open ∧ s5.rd D.FWU_XFER_port = p then
    ((s5.wr D.FWU_XFER_open 0).wr D.FWU_STAT_state 0).wr D.FWU_RESULT_status 0x08
  else s5

/-- PORT_LINK_DOWN (R306): a link that is up goes down. -/
def execPortLinkDown (port : Fin 4) (s : State) : Result :=
  .next (if s.portMode port = 0 then s else s.portReset port)

/-- PERST_ASSERT (R306). -/
def execPerstAssert (port : Fin 4) (s : State) : Result :=
  if (s.port port).perst then .next s
  else
    let s1 := s.portReset port
    .next (s1.setPort port { s1.port port with perst := true, loaded := false })

/-- HOT_RESET (R306). -/
def execHotReset (port : Fin 4) (s : State) : Result := .next (s.portReset port)

/-- PERST_DEASSERT (R304): training starts; configuration requests are retried until the configuration is loaded. -/
def execPerstDeassert (port : Fin 4) (s : State) : Result :=
  .next (s.setPort port { s.port port with perst := false })

/-- PORT_CONFIG_LOADED (R304). -/
def execPortConfigLoaded (port : Fin 4) (s : State) : Result :=
  .next (if (s.port port).perst then s else s.setPort port { s.port port with loaded := true })

/-- Whether a port can train: its rails are up, PERST# is deasserted and its link is not held down. -/
def State.canTrain (s : State) (p : Nat) : Bool :=
  decide (s.rd D.PWR_SEQSTAT_state = 3) && !s.aon.serdesOff.getLsbD 0 && !(s.port p).perst &&
    decide (s.rdP D.HST_CTL_linkdis p = 0)

/-- HOST_LINK_TRAINED (R303): the link settles at a speed and width of HST_STAT's codes; without CXL, or below 8 GT/s, the
port is a PCIe endpoint. -/
def execHostLinkTrained (port : Fin 4) (speed : Fin 6) (width : Fin 6) (cxl : Bool) (s : State) : Result :=
  if s.canTrain port = false ∨ speed.val = 0 ∨ width.val = 0 ∨
      lanesOf s.aon.hpMode port < 2 ^ (width.val - 1) ∨ s.portMode port ≠ 0 then .next s
  else
    let s1 := (s.wrP D.HST_STAT_speed port speed.val).wrP D.HST_STAT_width port width.val
    if cxl ∧ 3 ≤ speed.val then .next (s1.wrP D.HST_STAT_mode port 2)
    else .next ((s1.wrP D.HST_STAT_mode port 1).log E.GBL_PORT_NOCXL 0 0 0)

/-! HDM decoders (R34 to R37, R307). -/

/-- HDM_COMMIT (R34, R36, R307): ways 1 to 16 as a power of two, granularity 256 bytes to 16 KiB, the gallery base within
one seat with bit 43 clear. A committed decoder that is locked keeps its settings. -/
def execHdmCommit (port : Fin 4) (n : Fin 8) (hpa size ways gran : Nat) (lock commit : Bool) (s : State) : Result :=
  let q := s.port port
  let d := SMap.get Decoder.init q.decs n
  if d.committed ∧ d.locked then .next s
  else if commit = false then
    .next (s.setPort port { q with decs := SMap.put Decoder.init q.decs n { d with committed := false, locked := false } })
  else
    let base := s.rdP D.HST_GBASE_base port n * 2 ^ 28
    let w := Nat.log2 ways
    let g := Nat.log2 gran
    let ok := ([1, 2, 4, 8, 16]).contains ways && ([256, 512, 1024, 2048, 4096, 8192, 16384]).contains gran &&
      decide (0 < size) && decide (base / 2 ^ 43 % 2 = 0) && decide (base / 2 ^ 44 = (base + size / 2 ^ w - 1) / 2 ^ 44)
    if ok then
      .next ((s.setPort port { q with decs := SMap.put Decoder.init q.decs n ⟨hpa, size, w, g, true, lock⟩ }).emit
        (.hdm port n true))
    else .next (s.emit (.hdm port n false))

/-- The gallery address of R35. -/
def hdmAddress (d : Decoder) (base hpa : Nat) : Nat :=
  let off := hpa - d.hpa
  base + off / 2 ^ (d.g + d.w) * 2 ^ d.g + off % 2 ^ d.g

/-- The gallery address of a host physical address through a port, where a committed decoder is hit. -/
def State.hdmDecode (s : State) (p hpa : Nat) : Option Nat :=
  (List.range 8).findSome? (fun n =>
    let d := SMap.get Decoder.init (s.port p).decs n
    if d.committed ∧ d.hpa ≤ hpa ∧ hpa < d.hpa + d.size then
      some (hdmAddress d (s.rdP D.HST_GBASE_base p n * 2 ^ 28) hpa)
    else none)

/-! CXL.mem (R32, R35, R56, R229, R230, R305, R308 to R310). -/

/-- Whether a CXL.mem request meets a port that does not serve it (R305). -/
def State.notOpen (s : State) : Bool := decide (s.phase = stStarting) || decide (s.phase = stRomRecovery)

/-- A read is answered with poison. -/
def State.poisonRead (s : State) (p tag : Nat) : State := s.emit (.hostData p tag 0 true)

/-- Whether a request is a write of a port. -/
def Req.writeOf (p : Nat) (r : Req) : Bool :=
  decide (r.kind = .write) && (match r.src with
    | .port q _ => decide (q = p)
    | _ => false)

/-- The writes of a port that are under way (Table 7.6). -/
def State.portWrites (s : State) (p : Nat) : Nat :=
  (s.coh.conf.filter (Req.writeOf p)).length + (s.coh.txns.filter (fun e => e.2.req.writeOf p)).length +
    (s.coh.freqs.filter (fun e => decide (e.2.kind = .fwrite) && (match e.2.src with
      | .port q _ => decide (q = p)
      | _ => false))).length

/-- CXL_MEM_READ (R35, R231): the request is decoded; PEEK is its arrival at the home slice or fabric agent. The port has credits
for 1,024 reads. -/
def execCxlMemRead (port : Fin 4) (tag : Nat) (hpa : BitVec 52) (s : State) : Result :=
  if s.portMode port ≠ 2 ∨ s.isFlushing ∨ s.phase = stResetting then .next s
  else if s.notOpen then
    .next (((s.addSatP D.HST_ERR_notopen port 1).log E.GBL_NOT_OPEN 0 0 0).poisonRead port tag |>.tPort port 0x01 1)
  else match s.hdmDecode port hpa.toNat with
    | none => .next (((s.addSatP D.HST_ERR_hdmmiss port 1).log E.GBL_HDM_MISS 0 0 0).poisonRead port tag |>.tPort port 0x01 1)
    | some ga =>
      if gaValid ga = false then .next ((s.log E.GBL_ADDR_RANGE 0 0 ga).poisonRead port tag |>.tPort port 0x01 1)
      else
        let q := s.port port
        if q.reads.any (fun r => decide (r.tag = tag)) ∨ 1024 ≤ q.reads.length then .next s
        else .next ((s.setPort port { q with reads := q.reads ++ [⟨tag, ga⟩] }).tPort port 0x01 1)

/-- A read of the line by the same port that is unanswered (R223). -/
def State.readOpen (s : State) (p gl : Nat) : Bool := (s.port p).reads.any (fun r => decide (r.ga / 64 = gl))

/-- A read of the line by the same port that has not yet reached the home. -/
def State.readWaits (s : State) (p gl : Nat) : Bool :=
  (s.port p).reads.any (fun r => decide (r.ga / 64 = gl) && !s.asking gl (.port p r.tag))

/-- A host write to a local line: early acknowledged where the region and the port allow it (R229), else a WRITE at the
home slice, withheld while an earlier entry of the port's buffer is not performed. A write waits for the port's earlier reads of its line
(R223): until they have reached the home, or, to be early acknowledged, until they are answered. -/
def State.hostWriteLocal (s : State) (p tag gl : Nat) (d : Line) (mask : LineMask) (poison : Bool) (fl : Flips) : State :=
  let q := s.port p
  if (s.attrOf gl).ewa ∧ s.rdP D.HST_CTL_ewa p = 1 ∧ q.eab.length < 256 ∧ (s.sealing (llOf gl)).isNone ∧
      s.verdict gl mask (.port p tag) false = .accept then
    if s.readOpen p gl then s
    else ((s.setPort p { q with eab := q.eab ++ [⟨gaOf gl, d, mask, poison⟩] }).charge gl).emit (.hostDone p tag)
  else if q.eab ≠ [] ∨ s.readWaits p gl then s
  else s.arriveReq ⟨.write, gl, .port p tag, d, mask, poison, none⟩ fl

/-- A host write to another device's line (R223, R230, R355): into an owned outbound entry with ewa, else as FWRITE. It waits for
the port's earlier requests to its line. -/
def State.hostWriteRemote (s : State) (p tag gl : Nat) (d : Line) (mask : LineMask) (poison : Bool) : State :=
  if s.seatEmpty gl then (s.seatEmptyLog gl).emit (.hostDone p tag)
  else if s.readOpen p gl ∨ s.portAsked p gl then s
  else
    let fwrite := s.fabSend .fwrite (seatOf gl) gl (.port p tag) d mask poison none
    match s.outEnt gl with
    | some e =>
      if e.st = .owned ∧ e.ewa ∧ s.rdP D.HST_CTL_ewa p = 1 then
        (s.setOut gl { e with data := merge e.data d mask, mask := e.mask ||| mask,
                              poison := if mask = fullMask then poison else e.poison || poison }).emit (.hostDone p tag)
      else fwrite
    | none => fwrite

/-- CXL_MEM_WRITE (R56, R231): the port has credits for 1,024 writes. -/
def execCxlMemWrite (port : Fin 4) (tag : Nat) (hpa : BitVec 52) (data : Line) (mask : LineMask) (poison : Bool)
    (fl : Flips) (s : State) : Result :=
  if s.portMode port ≠ 2 ∨ s.isFlushing ∨ s.phase = stResetting ∨ 1024 ≤ s.portWrites port then .next s
  else if s.notOpen then
    .next ((((s.addSatP D.HST_ERR_notopen port 1).log E.GBL_NOT_OPEN 0 0 0).emit (.hostDone port tag)).tPort port 0x02 1)
  else match s.hdmDecode port hpa.toNat with
    | none => .next ((((s.addSatP D.HST_ERR_hdmmiss port 1).log E.GBL_HDM_MISS 0 0 0).emit (.hostDone port tag)).tPort port 0x02 1)
    | some ga =>
      if gaValid ga = false then .next (((s.log E.GBL_ADDR_RANGE 0 0 ga).emit (.hostDone port tag)).tPort port 0x02 1)
      else
        let gl := ga / 64
        let a := if s.isLocal gl then s.hostWriteLocal port tag gl data mask poison fl
          else s.hostWriteRemote port tag gl data mask poison
        .next (if a = s then s
          else if poison then ((a.addSatP D.HST_ERR_poisonin port 1).log E.GBL_POISON_IN 0 0 0).tPort port 0x02 1
          else a.tPort port 0x02 1)

/-! Global Persistent Flush (R97). -/

/-- What the GPF DVSEC of every port reports (R97): a phase 2 duration of 10 µs, in ns, and a phase 2 power of 0 mW. No command
of the table reads the configuration space that holds it. -/
def gpfPhase2Ns : Nat := 10000
def gpfPhase2Milliwatts : Nat := 0

/-- GPF_PHASE1 (R97). -/
def execGpfPhase1 (port : Fin 4) (s : State) : Result :=
  .next ((s.setPort port { s.port port with gpf1 := true }).emit (.gpf port 1))

/-- GPF_PHASE2 (R97): every write the port completed before is accepted already (R56). -/
def execGpfPhase2 (port : Fin 4) (s : State) : Result :=
  .next ((s.setPort port { s.port port with gpf1 := false }).emit (.gpf port 2))

end Sys2Proof.Machine
end

