-- ==== Sys2Proof/Machine/Supervisor.lean ====
section
/-! DEFINITION. The always-on island (Chapter 16, R455 to R474; R527 to R530): rails, power-good, reset outputs, the ADC,
early break, diode sensors. -/

namespace Sys2Proof.Machine

/-- Whether the device holds SB_ALERT_N low (R531). -/
def State.sbAlertLow (s : State) : Bool :=
  decide (s.rd D.PWR_SEQFAULT_railfail ≠ 0) || decide (s.rd D.PWR_SEQFAULT_offfail ≠ 0)

/-! Powering up (R459 to R461). -/

/-- Whether a rail senses below its off threshold, or is treated as fallen. -/
def State.railLow (s : State) (r : Nat) : Bool :=
  decide (s.rd D.PWR_RAILST_mv r < s.rd D.PWR_RAIL_offth r) || s.aon.fallen.getLsbD r

/-- The rails of the step before a rail's, by the delays in a field: the next lower delay. -/
def State.prevStep (s : State) (f : FldDesc) (r : Nat) : List Nat :=
  let lower := rails.filter (fun q => decide (s.rd f q < s.rd f r))
  let top := (lower.map (fun q => s.rd f q)).foldl max 0
  lower.filter (fun q => decide (s.rd f q = top))

/-- POWER_UP_START (R459). -/
def execPowerUpStart (s : State) : Result :=
  .next (if s.seq = seqGate ∧ s.boot.step = 2 ∧ s.aon.retryWait = false ∧ s.bit D.PWR_PFSTAT_inok ∧ rails.all s.railLow then
      s.wr D.PWR_SEQSTAT_state seqUp
    else s)

/-- GATE_OFF_FAIL (R459): a rail is still above its threshold 1 s after GATE. -/
def execGateOffFail (rail : Fin 12) (s : State) : Result :=
  if s.seq = seqGate ∧ s.railLow rail = false ∧ s.aon.gateLogged.getLsbD rail = false then
    let s1 := (s.setBit D.PWR_SEQFAULT_offfail rail true).logAon E.PWR_RAIL_OFF_FAIL rail 2 0
    .next { s1 with aon := { s1.aon with gateLogged := s1.aon.gateLogged ||| BitVec.ofNat 12 (2 ^ rail.val) } }
  else .next s

/-- RAIL_ENABLE (R459): every rail of the previous on-step is qualified. -/
def execRailEnable (rail : Fin 12) (s : State) : Result :=
  if s.seq ≠ seqUp ∨ s.rd D.PWR_RAILST_en rail = 1 ∨
      (s.prevStep D.PWR_RAIL_ondly rail).all (fun q => decide (s.rd D.PWR_RAILST_state q = 2)) = false then .next s
  else
    let s1 := ((s.setBit D.PWR_SEQSTAT_en rail true).wr D.PWR_RAILST_en 1 rail).wr D.PWR_RAILST_state 1 rail
    .next { s1 with aon := { s1.aon with
      bounce := SMap.put 0 s1.aon.bounce rail 0, chatLogged := s1.aon.chatLogged &&& ~~~(BitVec.ofNat 12 (2 ^ rail.val)) } }

/-- A bounce of a rail's power-good (R460): counted, and chatter logged once in a qualification or second. -/
def State.bounce (s : State) (r : Nat) (inj : Bool) : State :=
  let good := s.rd D.PWR_RAILST_state r = 2
  let fresh := good ∧ SMap.get 0 s.aon.bounceAt r + 1000000000 ≤ s.now
  let n := if fresh then 1 else SMap.get 0 s.aon.bounce r + 1
  let logged := if fresh then s.aon.chatLogged &&& ~~~(BitVec.ofNat 12 (2 ^ r)) else s.aon.chatLogged
  let s1 : State := { (s.addSat D.PWR_RAILST_chatter 1 r) with aon := { s.aon with
    bounce := SMap.put 0 s.aon.bounce r n
    bounceAt := if fresh then SMap.put 0 s.aon.bounceAt r s.now else s.aon.bounceAt
    chatLogged := logged } }
  if s.rd D.PWR_SEQCFG_chatmax ≤ n ∧ logged.getLsbD r = false then
    ({ s1 with aon := { s1.aon with chatLogged := logged ||| BitVec.ofNat 12 (2 ^ r) } } : State).logAon
      E.PWR_PG_CHATTER r 0 n inj
  else s1

/-- POWER_GOOD_CHANGE (R460): a fall before qualification is a bounce; so is the end of a low that stayed short of
deglitch once qualified. -/
def execPowerGoodChange (rail : Fin 12) (high : Bool) (s : State) : Result :=
  if s.aon.vaux = false ∨ s.aon.pg.getLsbD rail = high then .next s
  else
    let b := BitVec.ofNat 12 (2 ^ rail.val)
    let s1 : State := { s with aon := { s.aon with pg := if high then s.aon.pg ||| b else s.aon.pg &&& ~~~b } }
    let st := s.rd D.PWR_RAILST_state rail
    .next (if (st = 1 ∧ high = false) ∨ (st = 2 ∧ high) then s1.bounce rail false else s1)

/-- RAIL_QUALIFIED (R459, R460, R464): the last one of a power-up brings the sequencer ON, and the warden leaves reset. -/
def execRailQualified (rail : Fin 12) (s : State) : Result :=
  if (s.seq ≠ seqUp ∧ s.seq ≠ seqOn) ∨ s.rd D.PWR_RAILST_state rail ≠ 1 ∨ s.aon.pg.getLsbD rail = false then .next s
  else
    let s1 := (s.setBit D.PWR_SEQSTAT_good rail true).wr D.PWR_RAILST_state 2 rail
    let s2 : State := { s1 with aon := { s1.aon with
      bounce := SMap.put 0 s1.aon.bounce rail 0, bounceAt := SMap.put 0 s1.aon.bounceAt rail s.now
      chatLogged := s1.aon.chatLogged &&& ~~~(BitVec.ofNat 12 (2 ^ rail.val))
      serdesOff := if rail.val = 2 then s1.aon.serdesOff &&& 2 else if rail.val = 3 then s1.aon.serdesOff &&& 1
        else s1.aon.serdesOff } }
    if s2.seq = seqUp ∧ rails.all (fun q => decide (s2.rd D.PWR_RAILST_state q = 2)) then
      let s3 := (s2.wr D.PWR_SEQSTAT_state seqOn).wr D.PWR_SEQSTAT_attempts 0
      .next (if s3.boot.step = 2 then { s3 with boot := { s3.boot with step := 3 } } else s3)
    else .next s2

/-- RAIL_PGWIN_EXPIRE (R461): the rails already enabled come down for a retry. -/
def execRailPgwinExpire (rail : Fin 12) (s : State) : Result :=
  if s.seq ≠ seqUp ∨ s.rd D.PWR_RAILST_state rail ≠ 1 then .next s
  else
    let s1 := ((s.setBit D.PWR_SEQFAULT_railfail rail true).logAon E.PWR_RAIL_FAIL rail 0 0).addSat D.PWR_SEQSTAT_attempts 1
    let s2 := s1.wr D.PWR_RAILST_state 3 rail
    .next (({ s2 with aon := { s2.aon with retryWait := true } } : State).powerDown)

/-- POWER_UP_RETRY (R461). -/
def execPowerUpRetry (s : State) : Result :=
  .next (if s.seq = seqGate then { s with aon := { s.aon with retryWait := false } } else s)

/-! Losing a rail (R463, R464, Table 16.3). -/

/-- Every enable and every reset output drops at once; no flush step runs, and a new start begins (Table 16.3, R549). -/
def State.emergencyDrop (s : State) : State :=
  let s1 := (rails.foldl State.railOff s.rstFallAll).wr D.PWR_SEQSTAT_state seqOff
  ({ s1 with aon := { s1.aon with retryWait := false } } : State).toGate

/-- The reset outputs that a rail gates fall (R465). -/
def State.rstFallRail (s : State) (r : Nat) : State :=
  rstOuts.foldl (fun a k => if (a.rd D.PWR_RST_mask k).testBit r then a.rstFall k else a) s

/-- The effect of Table 16.3. -/
def State.railLoss (s : State) (r : Nat) : State :=
  if r = 2 then
    let s1 : State := { s with aon := { s.aon with serdesOff := s.aon.serdesOff ||| 1 } }
    (List.range 4).foldl (fun a p => if a.portMode p = 0 then a else a.portReset p) s1
  else if r = 3 then
    let s1 : State := { s with aon := { s.aon with serdesOff := s.aon.serdesOff ||| 2 } }
    (List.range 16).foldl State.fabPortDown s1
  else if 4 ≤ r ∧ r ≤ 9 then
    let s1 := s.pfail 3 r
    { s1 with aon := { s1.aon with euFloor := true } }
  else (s.pfail 3 r).emergencyDrop

/-- RAIL_PG_LOSS (R463, R464): a qualified power-good has stayed low for deglitch. DEDUCED, log 24. -/
def execRailPgLoss (rail : Fin 12) (s : State) : Result :=
  if s.rd D.PWR_RAILST_state rail ≠ 2 ∨ s.aon.pg.getLsbD rail then .next s
  else
    let s1 := ((s.setBit D.PWR_SEQSTAT_good rail false).wr D.PWR_RAILST_state 1 rail).rstFallRail rail
    if s.seq = seqDown then
      let s2 := (s1.setBit D.PWR_SEQFAULT_railfail rail true).logAon E.PWR_RAIL_FAIL rail 1 0
      .next { s2 with aon := { s2.aon with fallen := s2.aon.fallen ||| BitVec.ofNat 12 (2 ^ rail.val) } }
    else if s.seq = seqOn then
      .next (((s1.setBit D.PWR_SEQFAULT_railfail rail true).logAon E.PWR_RAIL_FAIL rail 3 0).railLoss rail)
    else .next s1

/-! Powering down (R462, R463). -/

/-- A rail is dropped; with the last one the sequencer enters OFF, and then GATE. -/
def State.dropRail (s : State) (r : Nat) : State :=
  let s1 := s.railOff r
  if s1.rd D.PWR_SEQSTAT_en = 0 then (s1.wr D.PWR_SEQSTAT_state seqOff).toGate else s1

/-- RAIL_DISABLE (R462): every rail of the previous off-step has fallen. -/
def execRailDisable (rail : Fin 12) (s : State) : Result :=
  .next (if s.seq = seqDown ∧ s.rd D.PWR_RAILST_en rail = 1 ∧ (s.prevStep D.PWR_RAIL_offdly rail).all s.railLow then
      s.dropRail rail
    else s)

/-- RAIL_FALL_TIMEOUT (R462): each rail that has not fallen is logged, and the waiting rail is dropped. -/
def execRailFallTimeout (rail : Fin 12) (s : State) : Result :=
  let late := (s.prevStep D.PWR_RAIL_offdly rail).filter (fun q => !s.railLow q)
  if s.seq ≠ seqDown ∨ s.rd D.PWR_RAILST_en rail = 0 ∨ late = [] then .next s
  else .next ((late.foldl (fun a q =>
    (a.setBit D.PWR_SEQFAULT_offfail q true).logAon E.PWR_RAIL_OFF_FAIL q 1 0) s).dropRail rail)

/-! Reset outputs (R465). -/

/-- RESET_OUTPUT_RISE (R465). -/
def execResetOutputRise (k : Fin 4) (s : State) : Result :=
  let m := s.rd D.PWR_RST_mask k
  .next (if s.rd D.PWR_RST_asserted k = 1 ∧ (s.seq = seqUp ∨ s.seq = seqOn) ∧ s.phase ≠ stResetting ∧
      rails.all (fun r => !m.testBit r || decide (s.rd D.PWR_RAILST_state r = 2)) then
    (s.wr D.PWR_RST_asserted 0 k).logAon E.PWR_RESET_OUT k 1 0
  else s)

/-! The ADC (R466 to R468, R530). -/

/-- VIN converts to `mv`. -/
def State.vinSample (s : State) (mv : Nat) : State :=
  let lo := if mv < s.rd D.PWR_PFCFG_vinth then s.aon.vinLow + 1 else 0
  let hi := if s.rd D.PWR_PFCFG_vinhi < mv then s.aon.vinHigh + 1 else 0
  let good := decide (s.rd D.PWR_PFCFG_vinok ≤ mv ∧ mv ≤ s.rd D.PWR_PFCFG_vinhi)
  let s1 := s.wr D.PWR_SENS_vin mv
  let s2 : State := { s1 with aon := { s1.aon with vinLow := min 15 lo, vinHigh := min 15 hi, vinGood := good } }
  let s3 := if good then s2 else s2.wr D.PWR_PFSTAT_inok 0
  if s.rd D.PWR_PFCFG_deb ≤ lo then s3.pfail 1 0
  else if s.rd D.PWR_PFCFG_deb ≤ hi then s3.pfail 2 0 else s3

/-- The bank converts to `mv`. -/
def State.bankConvert (s : State) (mv : Nat) : State :=
  { (s.wr D.PWR_SENS_bank mv) with aon := { s.aon with
    bankSum := s.aon.bankSum + mv, bankNum := s.aon.bankNum + 1, bankLast := (mv :: s.aon.bankLast).take 64 } }

/-- A rail senses `mv`; injection point 0x17 adds bounces (R460). -/
def State.railSense (s : State) (r mv : Nat) : State :=
  let x := s.inject 0x17 (hitInst1 r) 0
  let s1 := x.2.wr D.PWR_RAILST_mv mv r
  if x.1.fired then s1.bounce r true else s1

/-- ADC_CONVERSION (R466, R530): input 0 is VIN_SENSE, 1 HUB_SENSE, 2 + r RSNS[r]. -/
def execAdcConversion (input : Fin 14) (code : Fin 4096) (s : State) : Result :=
  .next (if s.aon.vaux = false then s
    else if input.val = 0 then s.vinSample (code * s.rd D.PWR_SENSCFG_vinscale / 4095)
    else if input.val = 1 then s.bankConvert (code * s.rd D.PWR_SENSCFG_hubscale / 4095)
    else s.railSense (input.val - 2) code)

/-- INOK_QUALIFIED (R468). -/
def execInokQualified (s : State) : Result :=
  .next (if s.aon.vaux ∧ s.aon.vinGood ∧ s.bit D.PWR_PFSTAT_lockout = false ∧ s.seq ≠ seqFault then
      s.wr D.PWR_PFSTAT_inok 1
    else s)

/-! Early break (R469, R529). -/

/-- EB_N_OPEN (R529). -/
def execEbNOpen (s : State) : Result :=
  if s.aon.vaux = false ∨ s.aon.ebClosed = false then .next s
  else
    let s1 := s.wr D.PWR_PFSTAT_eb 1
    .next { s1 with aon := { s1.aon with ebClosed := false, ebOpened := s1.aon.ebArmed, ebArmed := false } }

/-- EB_N_CLOSE (R529). -/
def execEbNClose (s : State) : Result :=
  if s.aon.vaux = false then .next s
  else
    let s1 := s.wr D.PWR_PFSTAT_eb 0
    .next { s1 with aon := { s1.aon with ebClosed := true, ebOpened := false } }

/-- EB_ARM (R529): the pin has been closed for 10 ms. -/
def execEbArm (s : State) : Result :=
  .next (if s.aon.vaux ∧ s.aon.ebClosed then { s with aon := { s.aon with ebArmed := true } } else s)

/-- EB_TRIGGER (R469): an opening has lasted ebdeb. -/
def execEbTrigger (s : State) : Result :=
  if s.aon.vaux ∧ s.aon.ebOpened ∧ s.aon.ebClosed = false then
    .next (({ s with aon := { s.aon with ebOpened := false } } : State).trigger 3)
  else .next s

/-! Diode sensors (R470 to R474). -/

/-- A two's-complement byte. -/
def sgn8 (v : Nat) : Int := (BitVec.ofNat 8 v).toInt

/-- The neighbours of a sensor on the 4 × 4 grid. -/
def sensNbrs (k : Nat) : List Nat :=
  (List.range 16).filter (fun q =>
    (decide (q / 4 = k / 4) && (decide (q % 4 + 1 = k % 4) || decide (q % 4 = k % 4 + 1))) ||
    (decide (q % 4 = k % 4) && (decide (q / 4 + 1 = k / 4) || decide (q / 4 = k / 4 + 1))))

/-- The largest of a list of temperatures. -/
def maxInt (l : List Int) : Int := l.foldl (fun a b => if a < b then b else a) (-128)

/-- Reading of a sensor. -/
def State.sensReading (s : State) (k : Nat) : Int := sgn8 (s.rd D.THM_SENS_reading k)

/-- Control value of a sensor. -/
def State.sensCtl (s : State) (k : Nat) : Int := sgn8 (s.rd D.THM_SENS_ctl k)

/-- Whether a sensor differs from the mean of its neighbours by more than delta; only once all of them have converted. -/
def State.disagrees (s : State) (k : Nat) : Bool :=
  let ns := sensNbrs k
  let sum := (ns.map s.sensReading).foldl (· + ·) 0
  let n : Int := ns.length
  ns.all (fun q => s.aon.converted.getLsbD q) &&
    decide ((s.rd D.THM_XCFG_delta : Int) * n < (n * s.sensReading k - sum).natAbs)

/-- The cross-check of a sensor after its conversion (R471). DEDUCED, log 147. -/
def State.crossCheck (s : State) (k : Nat) (inj : Bool) : State :=
  let bad := s.disagrees k
  let sus := (s.rd D.THM_SUSPECT_suspect).testBit k
  let n := if bad then SMap.get 0 s.aon.out k + 1 else 0
  let w := if bad then 0 else SMap.get 0 s.aon.within k + 1
  let s1 : State := { s with aon := { s.aon with
    out := SMap.put 0 s.aon.out k (min 4 n), within := SMap.put 0 s.aon.within k (min 100 w) } }
  if sus = false ∧ n = 3 then
    let s2 := s1.logAon E.THM_SENSOR_DISAGREE k (s.rd D.THM_SENS_reading k) 0 inj
    if popBelow (s.rd D.THM_SUSPECT_suspect) 16 < 4 then
      (s2.setBit D.THM_SUSPECT_suspect k true).addSat D.THM_SENS_disagree 1 k
    else s2
  else if sus ∧ 100 ≤ w then s1.setBit D.THM_SUSPECT_suspect k false
  else s1

/-- Control values (R471), the highest of them, and the time since which all are cool. -/
def State.controls (s : State) : State :=
  let s1 := (List.range 16).foldl (fun a k =>
    let v := if (a.rd D.THM_SUSPECT_suspect).testBit k then maxInt ((sensNbrs k).map a.sensReading) else a.sensReading k
    a.wr D.THM_SENS_ctl (BitVec.ofInt 8 v).toNat k) s
  let ks := (List.range 16).filter (fun k => s.aon.converted.getLsbD k)
  let hot := maxInt (ks.map s1.sensCtl)
  let who := (ks.find? (fun k => decide (s1.sensCtl k = hot))).getD 0
  let s2 := (s1.wr D.THM_STAT_hot (BitVec.ofInt 8 hot).toNat).wr D.THM_STAT_hotsens who
  let cool : Bool := decide (hot < sgn8 (s.rd D.THM_CTL_tlimit) - s.rd D.THM_XCFG_hyst)
  { s2 with aon := { s2.aon with coolAt := if cool then some (s2.aon.coolAt.getD s.now) else none } }

/-- The throttle level rises (R472), at most once a millisecond and not during a flush (R474). -/
def State.throttleRise (s : State) : State :=
  let lvl := s.rd D.THM_STAT_level
  if s.isFlushing ∨ sgn8 (s.rd D.THM_STAT_hot) < sgn8 (s.rd D.THM_CTL_tlimit) ∨ 7 ≤ lvl ∨
      (lvl ≠ 0 ∧ s.now < s.aon.riseAt + 1000000) then s
  else
    let s1 := s.wr D.THM_STAT_level (lvl + 1)
    let s2 : State := { s1 with aon := { s1.aon with riseAt := s.now } }
    if lvl = 0 then s2.logAon E.THM_THROTTLE 0 0 0 else s2

/-- THERMAL_CRITICAL (R473). -/
def State.critical (s : State) (k : Nat) : State :=
  if s.sensCtl k < 112 ∨ s.bit D.PWR_PFSTAT_lockout then s
  else
    let s1 := ((s.wr D.PWR_PFSTAT_lockout 1).wr D.THM_STAT_lockout 1).wr D.PWR_PFSTAT_inok 0
    let s2 := ({ s1 with aon := { s1.aon with lockAt := s.now } } : State).logAon E.THM_CRITICAL k 0 0
    s2.pfail 4 0

/-- SENSOR_CONVERSION (R470 to R473): sensor `k` reads `t`; injection point 0x16 adds 20 °C. -/
def execSensorConversion (k : Fin 16) (t : BitVec 8) (s : State) : Result :=
  if s.aon.vaux = false then .next s
  else
    let x := s.inject 0x16 (hitInst1 k) 0
    let v : Int := if x.1.fired then min 127 (t.toInt + 20) else t.toInt
    let first := s.aon.converted.getLsbD k = false
    let s1 := x.2.wr D.THM_SENS_reading (BitVec.ofInt 8 v).toNat k
    let s2 := if first ∨ sgn8 (s.rd D.THM_SENS_max k) < v then s1.wr D.THM_SENS_max (BitVec.ofInt 8 v).toNat k else s1
    let s3 : State := { s2 with aon := { s2.aon with converted := s2.aon.converted ||| BitVec.ofNat 16 (2 ^ k.val) } }
    let s4 := ((s3.crossCheck k x.1.fired).controls).throttleRise
    .next ((List.range 16).foldl State.critical s4)

/-- THROTTLE_FALL (R472). -/
def execThrottleFall (s : State) : Result :=
  let lvl := s.rd D.THM_STAT_level
  if s.isFlushing ∨ lvl = 0 ∨ s.aon.coolAt.isNone then .next s
  else
    let s1 := s.wr D.THM_STAT_level (lvl - 1)
    let s2 : State := { s1 with aon := { s1.aon with coolAt := some s.now } }
    .next (if lvl = 1 then s2.logAon E.THM_THROTTLE_END 0 0 0 else s2)

/-- LOCKOUT_END (R473). DEDUCED, log 148. -/
def execLockoutEnd (s : State) : Result :=
  .next (if s.bit D.PWR_PFSTAT_lockout ∧ sgn8 (s.rd D.THM_STAT_hot) ≤ sgn8 (s.rd D.THM_CTL_tlimit) - 20 then
      (s.wr D.PWR_PFSTAT_lockout 0).wr D.THM_STAT_lockout 0
    else s)

/-! VAUX and the sled power record (R456, R478, R527, R528). -/

/-- VAUX_VALID (R527, R528, R302, R478 step 1): straps and the level of EB_N are sampled, RSTOUT_N is low, and the
sequencer enters GATE. -/
def execVauxValid (hpMode : Fin 4) (recovery ebOpen : Bool) (s : State) : Result :=
  if s.aon.vaux then .next s
  else
    let s1 := s.powerOn
    let s2 := rails.foldl State.railOff ((s1.wr D.PWR_SEQSTAT_state seqGate).wr D.PWR_PFSTAT_eb (b2n ebOpen))
    let s3 := rstOuts.foldl (fun a k => a.wr D.PWR_RST_asserted 1 k) s2
    .next { s3 with aon := { s3.aon with
      vaux := true, hpMode := hpMode.val, recovery := recovery, ebClosed := !ebOpen, gateAt := s.now } }

/-- VAUX_LOST (R527): only what the ledger store and media hold remains. -/
def execVauxLost (s : State) : Result :=
  if s.aon.vaux = false then .next s
  else
    let s1 := rails.foldl State.railOff (s.powerOn.wr D.PWR_SEQSTAT_state seqOff)
    .next { s1 with aon := { s1.aon with vaux := false }, out := [] }

/-- Loads the writable fields of a register from a word, clamped and with no count kept (R456). -/
def State.loadWord (s : State) (fs : List FldDesc) (i w : Nat) : State :=
  fs.foldl (fun a f => a.wr f (f.effective i (bitsOf w f.hi f.lo)) i) s

/-- The thresholds of PWR_PFCFG keep their distances. -/
def State.vinOrder (s : State) : State :=
  let a := s.wr D.PWR_PFCFG_vinok (max (s.rd D.PWR_PFCFG_vinok) (s.rd D.PWR_PFCFG_vinth + 100))
  a.wr D.PWR_PFCFG_vinhi (max (a.rd D.PWR_PFCFG_vinhi) (a.rd D.PWR_PFCFG_vinok + 500))

/-- Whether a sled power record is valid (R456, Table 16.1). -/
def sledOk (v : Nat) : Bool :=
  decide (v % 2 ^ 32 = ofLe (ascii "HTPS") ∧ v / 2 ^ 32 % 65536 = 1 ∧ v / 2 ^ 48 % 65536 = 160 ∧
    v / 2 ^ (8 * 156) % 2 ^ 32 = crc32 (v % 2 ^ (8 * 156)) 156)

/-- The values of a sled power record (Table 16.1). -/
def State.loadSled (s : State) (v : Nat) : State :=
  let at_ (b n : Nat) : Nat := v / 2 ^ (8 * b) % 2 ^ (8 * n)
  let s1 := s.loadWord [D.PWR_SEQCFG_falltmo, D.PWR_SEQCFG_chatmax, D.PWR_SEQCFG_deglitch, D.PWR_SEQCFG_retries] 0 (at_ 8 4)
  let s2 := (s1.loadWord [D.PWR_PFCFG_vinhi, D.PWR_PFCFG_vinok, D.PWR_PFCFG_vinth, D.PWR_PFCFG_deb, D.PWR_PFCFG_ebdeb] 0
    (at_ 12 8)).vinOrder
  let s3 := s2.loadWord [D.PWR_SENSCFG_hubscale, D.PWR_SENSCFG_vinscale] 0 (at_ 20 4)
  let s4 := rails.foldl (fun a r => a.loadWord [D.PWR_RAIL_ondly, D.PWR_RAIL_offdly, D.PWR_RAIL_pgwin, D.PWR_RAIL_qual,
    D.PWR_RAIL_offth] r (at_ (24 + 8 * r) 8)) s3
  rstOuts.foldl (fun a k => a.loadWord [D.PWR_RST_devrst, D.PWR_RST_mask, D.PWR_RST_stretch] k (at_ (120 + 4 * k) 4)) s4

/-- SLED_RECORD_READ (R456): the bytes read, byte 0 in the low bits; step 1 ends. -/
def execSledRecordRead (ack : Bool) (bytes : BitVec 1280) (s : State) : Result :=
  if s.aon.vaux = false ∨ s.boot.step ≠ 1 then .next s
  else
    let s1 := if ack ∧ sledOk bytes.toNat then (s.loadSled bytes.toNat).wr D.PWR_AONSTAT_fru 1 else s.wr D.PWR_AONSTAT_fru 0
    .next { s1 with boot := { s1.boot with step := 2 } }

end Sys2Proof.Machine
end

