-- ==== Sys2Proof/Machine/BootRom.lean ====
section
/-! DEFINITION. Steps 3 to 5 of a start (Table 17.1): what the warden ROM reads and selects (R478, R481, R508), the self-test
(R410, R411), staging (R484, R485, R388) and entry into ROM_RECOVERY (R489, R490). -/

namespace Sys2Proof.Machine

/-! ROM_RECOVERY (Table 17.5). -/

def romBootImage : Nat := 1
def romSelfTest : Nat := 2
def romLedger : Nat := 3
def romStaging : Nat := 4
def romMedia : Nat := 5
def romStrap : Nat := 6
def romKey : Nat := 7

/-- Milliseconds from V, saturating (Table 17.2). -/
def State.bootMs (s : State) : Nat := min (2 ^ 32 - 1) ((s.now - s.boot.v) / 1000000)

/-- Entry into ROM_RECOVERY (R489, R490): the start record, held events to the always-on queue, fabric ports held DISABLED, and
the failure of a trial start (R508). DEDUCED, log 59. -/
def State.romRecovery (s : State) (cause step : Nat) : State :=
  let s1 := (s.wr D.GBL_STAT_state stRomRecovery).progress 3 2 cause step s.bootMs
  let evs := s1.rgr.held ++ s1.evq
  let s2 : State := { s1 with evq := [], rgr := { s1.rgr with held := [] } }
  let s3 := evs.foldl State.holdAon s2
  let s4 := (List.range 16).foldl (fun (a : State) p => a.fpIdle p fpDisabled) s3
  if s4.bit D.FWU_STAT_trial ∧ cause ≠ romStrap then
    ({ s4 with fw := { s4.fw with fallback := true } } : State).dirSave
  else s4

/-! Step 3: the ledger store is read. -/

/-- Whether a page can be read and has been written. -/
def State.pageThere (s : State) (p : Nat) : Bool := SMap.has s.led.pages p && !s.led.bad.contains p

/-- Whether region table page 256 shows region 0 in use (R481). -/
def State.regionZeroLive (s : State) : Bool :=
  s.pageThere 256 && decide (bitsOf (pageWord (SMap.get 0 s.led.pages 256) 0) 63 62 ≠ 0)

/-- Pages of device records that the ROM finds uncorrectable: each is counted and logged (R445). DEDUCED, log 58. -/
def State.romBadPages (s : State) : State :=
  (s.led.bad.filter (fun p => decide (p ≤ 3 ∨ 72 ≤ p ∧ p ≤ 2815))).foldl (fun (a : State) p => a.pageUncorr p false) s

/-- Whether a page whose loss stops the start is uncorrectable (Table 15.1). -/
def State.romPageLoss (s : State) : Bool :=
  let c := s.gov.recCopy
  s.led.bad.any (fun p => decide (256 ≤ p ∧ p ≤ 767 ∨ 2752 ≤ p ∧ p ≤ 2815) ||
    (s.gov.rec0.valid && decide (2560 + 96 * c ≤ p ∧ p < 2656 + 96 * c)))

/-- Region table entry `i` of a page, from its four words (Table 2.5). -/
def regionOfPage (b : Page) (i : Nat) : Region :=
  let w (k : Nat) : Nat := pageWord b (4 * i + k)
  let st : RgnSt := if bitsOf (w 0) 63 62 = 0 then .free else if bitsOf (w 0) 63 62 = 1 then .live else .deleting
  ⟨st, bitsOf (w 0) 49 24, w 1, bitsOf (w 2) 63 32, attrOfWord (w 2 % 2 ^ 16), w 3⟩

/-- The region table as its pages hold it. DEDUCED, log 57. -/
def State.loadRegions (s : State) : State :=
  (s.led.pages.filter (fun e => decide (256 ≤ e.1 ∧ e.1 ≤ 767))).foldl (fun (a : State) (e : Nat × Page) =>
    (List.range 8).foldl (fun (b : State) i => b.setRegion (8 * (e.1 - 256) + i) (regionOfPage e.2 i)) a) s

/-- The fields of ATQ_CFG. -/
def atqFields : List FldDesc :=
  [D.ATQ_CFG_enable, D.ATQ_CFG_priv, D.ATQ_CFG_type, D.ATQ_CFG_order, D.ATQ_CFG_port, D.ATQ_CFG_vector, D.ATQ_CFG_ct]

/-- The configuration of a queue from its word, or its reset values. -/
def State.loadQueue (s : State) (n : Nat) (w : Option Nat) : State :=
  atqFields.foldl (fun (a : State) f => match w with
    | some v => a.wr f (f.effective n (bitsOf v f.hi f.lo)) n
    | none => a.wr f (f.resetAt n) n) s

/-- The queue configuration of the pages written (Table 15.1): the 32 queues of an uncorrectable page read their reset
values. -/
def State.loadQueues (s : State) : State :=
  (s.led.pages.filter (fun e => decide (88 ≤ e.1 ∧ e.1 ≤ 215))).foldl (fun (a : State) (e : Nat × Page) =>
    (List.range 32).foldl (fun (b : State) i =>
      b.loadQueue (32 * (e.1 - 88) + i) (if s.led.bad.contains e.1 then none else some (pageWord e.2 i))) a) s

/-- The temperature histogram of page 3. -/
def State.loadHistogram (s : State) : State :=
  (List.range 32).foldl (fun (a : State) k =>
    a.wr D.CON_THIST_dies (if s.pageThere 3 then pageWord (SMap.get 0 s.led.pages 3) k else 0) k) s

/-- Whether a copy of the membership record is valid (R446). -/
def State.memberOk (s : State) (c : Nat) : Bool :=
  let pg (k : Nat) : Page := SMap.get 0 s.led.pages (72 + 8 * c + k)
  (List.range 8).all (fun k => s.pageThere (72 + 8 * c + k)) && decide (pageWord (pg 7) 1 = 7 ∧ pageWord (pg 7) 2 = memberCrc pg)

/-- Word `i` of a copy of the membership record. -/
def State.memberWord (s : State) (c i : Nat) : Nat := pageWord (SMap.get 0 s.led.pages (72 + 8 * c + i / 32)) (i % 32)

/-- The membership record of the valid copy with the higher sequence number; none where neither is valid. -/
def State.loadMember (s : State) : State :=
  let seqOf (c : Nat) : Nat := s.memberWord c 224
  let cs := (List.range 2).filter s.memberOk
  let best := if cs.length = 2 then some (if seqOf 0 < seqOf 1 then 1 else 0) else cs.head?
  match best with
  | some c =>
    let s1 := (s.wr D.FAB_FABID_id (s.memberWord c 0)).wr D.FAB_EPOCH_e (s.memberWord c 1)
    let s2 := (List.range 64).foldl (fun (a : State) k =>
      (a.wr D.FAB_MEMUID_uid (s.memberWord c (2 + 2 * k)) k).wr D.FAB_MEMST_epoch (s.memberWord c (3 + 2 * k)) k) s1
    { s2 with fab := { s2.fab with record := true } }
  | none =>
    let s1 := (s.wr D.FAB_FABID_id 0).wr D.FAB_EPOCH_e 0
    let s2 := (List.range 64).foldl (fun (a : State) k => (a.wr D.FAB_MEMUID_uid 0 k).wr D.FAB_MEMST_epoch 0 k) s1
    { s2 with fab := { s2.fab with record := false } }

/-- The governor's measurement as page 0 holds it (R76). -/
def State.loadMeasure (s : State) : State :=
  match s.gov.stored with
  | some m => ((s.wr D.PWR_PGCAP_c m.1).wr D.PWR_PGCAP_esr m.2).wr D.PWR_PGMTIME_ns s.gov.mtime
  | none => s

/-- The start count, vault time (R364) and the kind of stop before this start (R483), from the progress ring and the flush
record. -/
def State.romCounts (s : State) : State :=
  let any := s.newestProgress (fun _ => true)
  let word (i : Nat) : Nat := (any.map (fun l => l.getD i 0)).getD 0
  let opened := s.newestProgress (fun l => decide (bitsOf (l.getD 3 0) 31 24 = 3 ∧ bitsOf (l.getD 3 0) 23 16 = 1))
  let r := s.gov.rec0
  let lastOpen := (opened.map (fun l => l.getD 3 0 / 2 ^ 32)).getD 0
  let first := any.isNone && !s.regionZeroLive
  let t := max s.now (max (word 2) (if r.valid then r.time else 0))
  let s1 := s.wr D.GBL_VTIME_ns t
  { s1 with boot := { s1.boot with
    startCount := max (word 3 / 2 ^ 32) (max s.boot.startCount (if r.valid then r.start else 0)) + 1
    v := s.boot.v + (t - s.now)
    first := first
    unflushed := !first && (!r.valid || decide (r.start < lastOpen)) } }

/-! Step 3: firmware (R494, R497, R498, R508). -/

/-- Whether both copies of the firmware directory are unreadable. -/
def State.dirLost (s : State) : Bool :=
  (List.range 6).any (fun k => s.led.bad.contains (12288 + k)) && (List.range 6).any (fun k => s.led.bad.contains (12294 + k))

/-- A set that no transfer has written has a header of its own; the spec does not give it. DESIGN CHOICE, log 61. -/
def State.shippedHdr (s : State) (set : Nat) : State :=
  if s.fw.shipped.getLsbD set = false ∨ s.fwHdr set ≠ 0 then s
  else
    let a := s.freePage
    let b := a.2.freePage
    (b.2.fwSetHdr set (BitVec.ofNat 4096 (a.1.toNat + b.1.toNat * 2 ^ 2048))).fwMark set true

/-- Whether a set passes its checks: `ok` is the outcome for one that is as shipped. -/
def State.fwPasses (s : State) (set : Nat) (ok : Bool) : Bool :=
  !s.dirLost && (if s.fw.shipped.getLsbD set then ok else s.fwValid set && decide (s.setCheck (s.fwHdr set) set = 0))

/-- The sets that fail R497 (R510). -/
def State.fwBad (s : State) (okA okB : Bool) : BitVec 2 :=
  BitVec.ofNat 2 (b2n (!s.fwPasses 0 okA) + 2 * b2n (!s.fwPasses 1 okB))

/-- Whether a set can be booted: it also admits the format on media (R498). -/
def State.fwBoots (s : State) (set : Nat) : Bool :=
  !s.fw.bad.getLsbD set && (s.fw.shipped.getLsbD set || s.fmtReads set)

/-- The parts of a set run (Table 18.6). -/
def State.fwRun (s : State) (set : Nat) : State :=
  let s1 := (s.wr D.FWU_PARTS_fromb (if set = 1 then 15 else 0)).wr D.FWU_STAT_state 0
  let s2 : State := { s1 with fw := { s1.fw with wfw := hdrVersion (s.fwHdr set) } }
  let check := s.mcodeCheck set
  (List.range 32).foldl (fun (a : State) c =>
    if (a.chan c).gone then a else a.mcodeShow (hdrVersion (s.fwHdr set)) check c) s2

/-- A fallback: pending and trial are cleared, and the event is logged (R508). -/
def State.fwFallback (s : State) : State :=
  let s1 := (s.wr D.FWU_STAT_pending 0).wr D.FWU_STAT_trial 0
  (({ s1 with fw := { s1.fw with trials := 0, fallback := false } } : State).dirSave).log E.FWU_ROLLBACK 0 0 0

/-- The set this start boots (R508): the pending one as a trial, else the active one, else the other where it passes; none is
BOOTIMAGE. DEDUCED, log 60. -/
def State.fwSelect (s : State) : Option State :=
  let trialSet := if s.bit D.FWU_STAT_trial then s.fwPending else none
  match trialSet with
  | some t =>
    if s.fw.fallback = false ∧ s.fw.trials < 3 ∧ s.fwBoots t then
      some ((({ s with fw := { s.fw with trials := s.fw.trials + 1 } } : State).dirSave).fwRun t)
    else
      let s1 := s.fwFallback
      if s1.fwBoots (1 - t) then some (s1.fwRun (1 - t)) else none
  | none =>
    let a := s.fwActive
    if s.fwBoots a then some (s.fwRun a)
    else if s.fwBoots (1 - a) then
      let s1 := s.fwFallback
      some (((s1.wr D.FWU_STAT_active (1 - a)).dirSave).fwRun (1 - a))
    else none

/-- A device reset asked for in steps 1 to 3 is taken at the end of step 3 (R488). -/
def State.bootReset (s : State) (due : Bool) : State :=
  if due then ({ s with boot := { s.boot with resetDue := false } } : State).trigger 2 else s

/-- WARDEN_ROM_DONE (R478, R481, R508): the warden ROM has read the ledger store and loaded the firmware. `okA` and `okB` are the
outcomes of R497 for sets as they were shipped, `lib` the images of the runtime library. -/
def execWardenRomDone (recoveryLow okA okB : Bool) (lib : List Bytes) (s : State) : Result :=
  if s.phase ≠ stStarting ∨ s.boot.step ≠ 3 ∨ s.seq ≠ seqOn then .next s
  else
    let strap := if s.boot.resample then recoveryLow else s.aon.recovery
    let s0 : State := { s with aon := { s.aon with recovery := strap } }
    let s1 := ((((s0.romBadPages.restoreStep 3).romCounts.loadMeasure).loadHistogram).loadQueues).loadMember
    let s2 := (s1.shippedHdr 0).shippedHdr 1
    let s3 : State := { s2 with fw := { s2.fw with bad := s2.fwBad okA okB } }
    let inconsistent := (s3.newestProgress (fun _ => true)).isNone && s3.regionZeroLive
    let s4 := s3.loadRegions
    if strap then .next ((s4.romRecovery romStrap 3).bootReset s.boot.resetDue)
    else if inconsistent ∨ (s3.boot.first = false ∧ s3.romPageLoss) then .next ((s4.romRecovery romLedger 3).bootReset s.boot.resetDue)
    else match s4.fwSelect with
      | none => .next ((s4.romRecovery romBootImage 3).bootReset s.boot.resetDue)
      | some s5 =>
        let s6 := lib.foldl State.loadLib s5
        .next (({ s6 with boot := { s6.boot with step := 4 } } : State).bootReset s.boot.resetDue)

/-! Step 4: the self-test (R410, R411, Table 13.3). -/

/-- One failure: its class bit, the first instance, the event. -/
def State.bistFail (s : State) (cls inst sub : Nat) : State :=
  let s1 := if s.rd D.INJ_BIST_fail = 0 then
      ((s.wr D.INJ_BISTINST_class cls).wr D.INJ_BISTINST_inst inst).wr D.INJ_BISTINST_sub sub
    else s
  (s1.setBit D.INJ_BIST_fail cls true).log E.INJ_BIST_FAIL inst cls sub

/-- What a failure takes out of service (Table 13.3). -/
def State.bistAction (s : State) (cls inst : Nat) : State :=
  let b := s.boot
  if cls = 0 then { s with boot := { b with chanOff := b.chanOff ||| BitVec.ofNat 32 (2 ^ inst) } }
  else if cls = 1 then (s.setWayDis (inst / 16 % 16) (inst % 16) true).log E.VIT_WAY_DISABLE (inst / 16 % 16) (inst % 16) 0
  else if cls = 3 then { s with boot := { b with wingOff := b.wingOff ||| BitVec.ofNat 8 (2 ^ inst) } }
  else if cls = 4 then { s with boot := { b with ddrOff := b.ddrOff ||| BitVec.ofNat 2 (2 ^ inst) } }
  else if cls = 5 then { s with boot := { b with kat := true } }
  else if cls = 6 then { s with boot := { b with engineOff := b.engineOff ||| BitVec.ofNat 4 (2 ^ inst) } }
  else if cls = 8 then { s with boot := { b with portOff := b.portOff ||| BitVec.ofNat 16 (2 ^ inst) } }
  else s

/-- Whether a failure stops the start in ROM_RECOVERY. -/
def bistStops (cls inst : Nat) (repaired : Bool) : Bool :=
  decide (cls = 2 ∨ cls = 7 ∨ cls = 10) || (decide (cls = 9) && (decide (inst = 0) || !repaired))

/-- The disabled-way map as the ledger store holds it; an uncorrectable page enables every way (Table 15.1). -/
def State.loadWays (s : State) : State :=
  let s1 := s.restoreStep 4
  if s.led.bad.contains 1 then
    (List.range 4).foldl (fun (a : State) k =>
      (((a.wr D.VIT_WAYDIS_slice4n0 0 k).wr D.VIT_WAYDIS_slice4n1 0 k).wr D.VIT_WAYDIS_slice4n2 0 k).wr D.VIT_WAYDIS_slice4n3 0 k) s1
  else s1

/-- SELFTEST_DONE (R410, R411): `fails` names class, instance and sub-instance of each failure, and whether a march failure was
confined to rows repaired at this start. -/
def execSelftestDone (fails : List (Fin 11 × Fin 256 × BitVec 16 × Bool)) (s : State) : Result :=
  if s.phase ≠ stStarting ∨ s.boot.step ≠ 4 then .next s
  else
    let s1 := fails.foldl (fun (a : State) (f : Fin 11 × Fin 256 × BitVec 16 × Bool) =>
      (a.bistFail f.1 f.2.1 f.2.2.1.toNat).bistAction f.1 f.2.1) s.loadWays
    let s2 := (if s1.boot.engineOff = 15 then s1.wr D.CIP_ALARM_noengine 1 else s1).wr D.CIP_STAT_engines (15 - s1.boot.engineOff.toNat)
    if fails.any (fun f => bistStops f.1 f.2.1 f.2.2.2) then .next (s2.romRecovery romSelfTest 4)
    else .next { s2 with boot := { s2.boot with step := 5 } }

/-! Step 5: staging and the census (R484 to R486, R388, R402). -/

/-- The fixed staging areas in bytes (Table 17.3). -/
def stagingFixed : Nat := 18664652800

/-- The protected lines of DDR4 of so many GiB (R389). -/
def protectedLines (gib : Nat) : Nat := 24 * (gib * 2 ^ 24) / 31 / 56 * 56

/-- The dirty window in bytes; none where the fixed areas leave none (Table 17.4). -/
def dirtyWindow (gib : Nat) : Nat := protectedLines gib * 64 - stagingFixed

/-- The dies the census finds, by channel; at a first start they are what admission takes (R151, R486). A die that does not answer,
or is not the one admitted, is absent. -/
def State.census (s : State) (absent : BitVec 256) : State :=
  let s1 := (List.range 256).foldl (fun (a : State) d =>
    let x := a.die d
    let here := !absent.getLsbD d && (x.admitted || a.boot.first)
    let b := a.setDie d { x with present := here }
    if here ∧ x.retired = false then b.wr D.CON_DIE_state 1 d else b) s
  (List.range 32).foldl (fun (a : State) c =>
    a.wr D.MED_CHSTAT_dies ((List.range 8).foldl (fun n k =>
      n + b2n ((a.die (c * 8 + k)).present && !(a.die (c * 8 + k)).retired) * 2 ^ k) 0) c) s1

/-- Keys of 256, 256 and 128 bits from the DRBG (R388, R401). -/
def State.drawStaging (s : State) : State :=
  let a := s.drawKey
  let b := a.2.drawKey
  let c := b.2.drawKey
  ((c.2.setStg { Stg.init with keys := some (a.1, b.1, BitVec.ofNat 128 c.1.toNat) }).wr D.STG_WCOUNT_w 1).wr D.STG_STAT_state 1

/-- Staging is sized: N, the size, and the dirty window the budget is capped at (R484). -/
def State.sizeStaging (s : State) (ddr : SMap Nat) : State :=
  let gib := (ddr.map Prod.snd).sum
  let s1 := (s.wr D.STG_GEOM_lines (protectedLines gib)).wr D.STG_GEOM_mib (gib * 1024)
  { s1 with boot := { s1.boot with ddr := ddr, window := dirtyWindow gib } }

/-- A key slot whose page is uncorrectable reads EMPTY (Table 15.1). -/
def State.loadSlots (s : State) : State :=
  { s with slots := SMap.keep (fun k _ => !s.led.bad.contains (8 + k)) s.slots }

/-- STAGING_INIT_DONE (R484 to R486, R388, R402): `gib` is the DDR4 of each channel, none where training failed; `trng` the
outcome of the start-up test; `absent` the dies that did not answer with the identity expected of them.
DESIGN CHOICE, log 62. -/
def execStagingInitDone (gib0 gib1 : Option (Fin 3)) (trng : Bool) (absent : BitVec 256) (s : State) : Result :=
  if s.phase ≠ stStarting ∨ s.boot.step ≠ 5 then .next s
  else
    let size (c : Nat) (g : Option (Fin 3)) : SMap Nat := match g with
      | some k => if s.boot.ddrOff.getLsbD c then [] else [(c, 16 * 2 ^ k.val)]
      | none => []
    let s1 := s.sizeStaging (size 0 gib0 ++ size 1 gib1)
    if s1.boot.window < 2 ^ 32 then .next ((s1.wr D.STG_STAT_state 0).romRecovery romStaging 5)
    else if trng = false then .next ((s1.wr D.CIP_STAT_trng 2).romRecovery romKey 5)
    else if s1.boot.kat then .next ((s1.wr D.CIP_STAT_trng 0).romRecovery romKey 5)
    else
      let s2 := (((s1.wr D.CIP_STAT_trng 0).drawStaging).census absent).loadSlots
      .next { s2 with boot := { s2.boot with step := 7 } }

end Sys2Proof.Machine
end

