-- ==== Sys2Proof/Machine/Boot.lean ====
section
/-! DEFINITION. Steps 7 to 12 of a start (Table 17.1): the catalogue (R117), the conservator (R150, R159), recovery work (R44, R88,
R135), the flush record (R90, R93, R422, R483), admission of dies (R151, R481) and the opening (R478). -/

namespace Sys2Proof.Machine

/-- Whether a start is at a step. -/
def State.bootAt (s : State) (n : Nat) : Bool := decide (s.phase = stStarting) && decide (s.boot.step = n)

/-- The start goes on to a step. -/
def State.bootTo (s : State) (n : Nat) : State := { s with boot := { s.boot with step := n } }

/-! Step 7 (R117). -/

/-- The replay of the journal from `next` on: `hold` are the entries of a group not yet complete; a gap ends it.
DEDUCED, log 64. -/
def State.replay (s : State) (hold : List JEnt) (next : Nat) : List (Nat × JEnt) → State
  | [] => s
  | (k, e) :: r =>
    if k ≠ next then s
    else
      let h := (if e.gindex = 0 then [] else hold) ++ [e]
      if e.gindex + 1 = e.gcount then (h.foldl State.applyJ s).replay [] (next + 1) r
      else s.replay h (next + 1) r

/-- The newest complete checkpoint copy. -/
def State.newestCopy (s : State) : Option (Nat × CkptCopy) :=
  (s.med.copies.filter (fun e => e.2.complete)).foldl (fun (a : Option (Nat × CkptCopy)) e => match a with
    | some x => if x.2.s < e.2.s then some e else a
    | none => some e) none

/-- The catalogue of a checkpoint copy with the journal replayed over it. -/
def State.rebuild (s : State) (k : Nat) (c : CkptCopy) : State :=
  let s1 : State := { s with med := { s.med with cat := c.cat } }
  let s2 := s1.replay [] c.s (s.med.jrnl.filter (fun e => decide (c.s ≤ e.1)))
  (((s2.wr D.MED_JRNLSEQ_seq (s2.med.jnext - 1)).wr D.MED_CKPT_copy k).wr D.MED_CKPT_s c.s).journalFill

/-- The set that runs raises the format on media to its own (R498). -/
def State.fmtRaise (s : State) : State :=
  let set := if s.bit D.FWU_STAT_trial then s.fwPending.getD s.fwActive else s.fwActive
  let w := hdrFmtW (s.fwHdr set)
  if s.rd D.FWU_ARB_fmtcur < w then (s.wr D.FWU_ARB_fmtcur w).arbSave else s

/-- CATALOGUE_REBUILD_DONE (R117, R481): `readable` is false where a journal leaf or a region system tile cannot be read. -/
def execCatalogueRebuildDone (readable : Bool) (s : State) : Result :=
  if s.bootAt 7 = false then .next s
  else if s.boot.first then
    let s1 : State := { s with med := { s.med with
      cat := [], jrnl := [], jpend := [], jnext := 1, copies := [(0, ⟨1, true, []⟩)] } }
    .next (((((s1.wr D.MED_JRNLSEQ_seq 0).wr D.MED_CKPT_copy 0).wr D.MED_CKPT_s 1).journalFill.fmtRaise).bootTo 8)
  else match s.newestCopy with
    | some (k, c) =>
      .next (if readable then ((s.rebuild k c).fmtRaise).bootTo 8 else s.romRecovery romMedia 7)
    | none => .next (s.romRecovery romMedia 7)

/-! Step 8 (R150, R159, R486, R487). -/

/-- The physical tiles that catalogue entries name (R145). -/
def State.namedTiles (s : State) : List Nat :=
  s.med.cat.flatMap (fun e => match e.2.st with
    | .unmapped => []
    | .mapped => [e.2.phys]
    | .moving => [e.2.phys, e.2.dst])

/-- The state of a tile from the catalogue and the log. -/
def State.tileState (s : State) (named : List Nat) (p : Nat) : Nat :=
  let t := s.tile p
  if (TileRec.init p).st = 4 then 4
  else if named.contains p then 1
  else if t.st = 3 then 3
  else if t.st = 2 ∨ t.forced then 2 else 0

/-- Every tile record restored (R150 step 3). -/
def State.restoreTiles (s : State) : State :=
  let named := s.namedTiles
  let keys := (SMap.keys s.med.tiles ++ SMap.keys s.med.ctiles ++ named).eraseDups
  let recs := keys.map (fun p => (p, { s.restoredTile (s.ctile p) (s.tileState named p) with forced := (s.tile p).forced }))
  let s1 : State := { s with med := { s.med with tiles := [], base := s.restoredTile s.med.cbase 0 } }
  recs.foldl (fun (a : State) (e : Nat × TileRec) => a.setTile e.1 e.2) s1

/-- A stripe's record with its mapped members counted anew: one that was building and has none is FREE. -/
def State.restoreStripes (s : State) : State :=
  let named := s.namedTiles
  (SMap.keys s.med.stripes).foldl (fun (a : State) n =>
    let r := SMap.get (StripeRec.init n) a.med.stripes n
    let m := (named.filter (fun p => decide (stripeOf p = n))).length
    let st := if r.st = 4 then 4 else if 0 < m then 2 else if r.st = 1 then 1 else 0
    a.setStripe n { r with mapped := m, st := st }) s

/-- Every excision begun and not ended is done again (R150 step 4, R162). -/
def State.redoExcisions (s : State) : State :=
  (SMap.keys s.med.stripes).foldl (fun (a : State) n =>
    match (a.stripe n).exposed with
    | some (j, np) =>
      let b := (a.parityWithout n j np).clogAdd 0x03 n j np
      let c : State := { b with med := { b.med with excise := b.med.excise.filter (fun e => e ≠ (n, j)) } }
      c.logWrite
    | none => a) s

/-- An interrupted move resolves (Table 5.6): the catalogue holds what the last entry on media for its tile says. The times of the
tile it ended on are those rebuilt. -/
def State.resolveMove (s : State) (t : Nat) (m : Move) : State :=
  let e := s.catEnt t
  if e.st = .moving ∧ e.dst = m.dst then s.moveAbort t
  else
    let s1 : State := { s with med := { s.med with moves := SMap.del s.med.moves t } }
    if e.st = .mapped ∧ e.phys = m.dst then
      let s2 := s1.setTile m.dst { s1.tile m.dst with rcount := 0, refresh := false }
      if (s2.tile m.src).forced then s2.queueExcise m.src else s2
    else s1

/-- Every interrupted move resolved, with its entries on media. -/
def State.resolveMoves (s : State) : State :=
  (s.med.moves.foldl (fun (a : State) (e : Nat × Move) => a.resolveMove e.1 e.2) s).drainLogs

/-- Admitted dies found absent, and channels that failed self-test, are retired (R486). -/
def State.retireAbsent (s : State) : State :=
  let s1 := (List.range 256).foldl (fun (a : State) d =>
    let x := a.die d
    if x.admitted ∧ x.present = false ∧ x.retired = false ∧ (a.chan (d / 8)).gone = false ∧ a.boot.chanOff.getLsbD (d / 8) = false
    then a.retireDie d 2 else a) s
  (List.range 32).foldl (fun (a : State) c => if a.boot.chanOff.getLsbD c then a.retireChan c 0 else a) s1

/-- Whether the start is degraded (R487). -/
def State.isDegraded (s : State) : Bool :=
  (List.range 256).any (fun d => (s.die d).admitted && (!(s.die d).present || (s.die d).retired)) ||
    (List.range 32).any (fun c => (s.chan c).gone) || decide (s.boot.ddr.length < 2) || decide (s.boot.wingOff ≠ 0) ||
    decide (s.boot.engineOff ≠ 0)

/-- Places a seal by ascending accession. -/
def insSeal (x : Seal) : List Seal → List Seal
  | [] => [x]
  | y :: r => if x.acc < y.acc then x :: y :: r else y :: insSeal x r

/-- A pending seal runs again from its beginning (R88); one whose checks fail has ended. -/
def State.sealAgain (s : State) (x : Seal) : State :=
  let a := s.acc x.acc
  let s1 := if a.st = .sealing then s.setAcc x.acc { a with st := .open, pending := 0 } else s
  if s1.sealCheck x.acc x.endOff = 0 then s1.sealBegin ⟨x.acc, none, 0, x.metaWord, x.endOff, 2, 0, 0, 0, false⟩ else s1

/-- Accessions left SEALING by a seal that is neither completed nor run again return to OPEN (R483). -/
def State.dropSeals (s : State) : State :=
  s.cur.accs.foldl (fun (a : State) (e : Nat × Acc) =>
    if e.2.st = .sealing ∧ (a.sealOf e.1).isNone then a.setAcc e.1 { e.2 with st := .open, pending := 0 } else a) s

/-- The pending seals of the flush record (R88), or none after an unflushed stop. DEDUCED, log 65. -/
def State.rerunSeals (s : State) : State :=
  if s.boot.unflushed then s.dropSeals
  else if s.gov.rec0.valid then ((s.gov.rec0.seals.foldl (fun a x => insSeal x a) []).foldl State.sealAgain s).dropSeals
  else s.dropSeals

/-- CONSERVATOR_RESTORE_DONE (R150, R159, R486, R487): `readable` is false where the conservator log cannot be read. -/
def execConservatorRestoreDone (readable : Bool) (s : State) : Result :=
  if s.bootAt 8 = false then .next s
  else if readable = false ∧ s.boot.first = false then .next (s.romRecovery romMedia 8)
  else
    let s1 := (s.restoreStep 8).setGrants s.coh.grants
    let s2 := if s.boot.first then s1 else ((s1.restoreTiles.restoreStripes).redoExcisions).resolveMoves
    let s3 := s2.retireAbsent.spareCheck.drainLogs
    .next (((s3.wr D.GBL_STAT_degraded (b2n s3.isDegraded)).rerunSeals).bootTo 9)

/-! First start (R151, R481). -/

/-- A die absent at admission is never admitted: its members are gone from the start. -/
def State.notAdmitted (s : State) (d : Nat) : State :=
  let s1 := s.setDie d { s.die d with admitted := false, present := false }
  (List.range 8).foldl (fun (a : State) p =>
    let k := d * 8 + p
    { a with med := { a.med with rowGone := SMap.ins a.med.rowGone (rowOfPart k * 16 + k / 64 % 16) (2 ^ 18) } }) s1

/-- The drift table of a die at admission (R166). -/
def State.admitDrift (s : State) (e : Fin 256 × List (BitVec 16)) : State :=
  (List.range 16).foldl (fun (a : State) b =>
    let v := ((e.2[b]?).getD 0).toNat
    let a1 := a.setDtab e.1 b v
    { a1 with med := { a1.med with census := SMap.put 0 a1.med.census (e.1 * 16 + b) v } }) s

/-- DIE_ADMISSION_DONE (R151, R166, R481): every present die holds the zero image; `drift` is the census data of the dies.
DEDUCED, log 68. -/
def execDieAdmissionDone (drift : List (Fin 256 × List (BitVec 16))) (s : State) : Result :=
  if s.phase ≠ stStarting ∨ s.boot.first = false ∨ s.boot.step < 8 ∨ s.boot.admitted then .next s
  else
    let t : TileRec := { TileRec.init 0 with tnew := tileTime s.now, told := tileTime s.now }
    let s1 : State := { s with med := { s.med with img := [], ltime := [], census := [], tiles := [], ctiles := [], stripes := [], base := t, cbase := t } }
    let s2 := (List.range 256).foldl (fun (a : State) d => if (a.die d).present then a else a.notAdmitted d) s1
    let s3 := drift.foldl State.admitDrift s2
    .next ({ s3 with boot := { s3.boot with admitted := true } } : State).spareCheck

/-! Step 9 (R44, R135, R480, R481). -/

/-- A region operation whose entry had been committed is carried to its end, its FREE entry written before the step ends
(R44, R46, R53, R480). DEDUCED, log 66. -/
def State.finishOp (s : State) (o : RgnOp) : State :=
  let s1 := if o.unmapped ∨ o.kind = .change then s else s.unmap o.new.tiles.1 o.new.tiles.2
  if o.kind = .delete ∧ o.freed = false then
    let s2 := s1.setRegion o.region (Region.init o.region)
    s2.ldgPut (256 + o.region / 8) (regionPage s2.region (o.region / 8))
  else s1

/-- The parity of a recorded position is computed anew from its data leaves (R135). -/
def State.resyncAt (s : State) (e : Nat × Nat) : State :=
  let r := s.stripe e.1
  let par := tileOfMember e.1 r.ppos
  let img := r.data.foldl (fun (i : Image) j => i ^^^ s.image (tileOfMember e.1 j) e.2) 0
  let s1 := r.data.foldl (fun (a : State) j => a.countRead (tileOfMember e.1 j)) s
  (s1.putImage par e.2 img).log E.MED_RESYNC (chanOf par) e.2 e.1

/-- The pages a first start writes: the region table and the queue configuration at their reset values (R481).
DEDUCED, log 71. -/
def State.firstPages (s : State) : State :=
  let s1 := (List.range 512).foldl (fun (a : State) k => a.pageWrite (256 + k) none .bytes) s
  (List.range 128).foldl (fun (a : State) k => a.pageWrite (88 + k) (some (a.atqPage k)) .bytes) s1

/-- RECOVERY_WORK_DONE (Table 17.1, step 9): region operations, resyncs and pending seals have ended. -/
def execRecoveryWorkDone (s : State) : Result :=
  if s.bootAt 9 = false ∨ s.cur.seals ≠ [] then .next s
  else
    let s1 := if s.boot.first then s.firstPages else s
    let s2 : State := s.rops.foldl State.finishOp s1
    let s3 : State := { s2 with rops := [] }
    let s4 := if s.boot.unflushed ∨ s.gov.rec0.valid = false then s3 else s.gov.rec0.updates.foldl State.resyncAt s3
    .next (s4.drainLogs.bootTo 10)

/-! Step 10 (R90, R93, R422, R458, R483). -/

/-- One more dirty shutdown (Table 10.7). DEDUCED, log 40. -/
def State.dirtyShutdown (s : State) : State :=
  let a := s.alertsNow
  let n := min (2 ^ 32 - 1) (a.dirty + 1)
  (s.setLed { s.led with alerts := { a with dirty := n } }).pageWrite 2 none (.alert a.life a.overC a.underC a.shutdown n)

/-- The ranges of an abandoned flush, or of an unflushed stop, are listed (R93). -/
def State.listBreach (s : State) (l : List Breach) : State :=
  let s1 := l.foldl (fun (a : State) b => a.addBreach { b with start := s.boot.startCount }) s
  (s1.log E.PWR_PG_BREACH 0 l.length (l.map Breach.count).sum).dirtyShutdown

/-- The records that travelled with the flush record are copied into the annal (R90, R433). -/
def State.copyTravelled (s : State) : State :=
  s.gov.rec0.records.foldl (fun (a : State) (e : Nat × Rcd) =>
    let r := { e.2 with replay := true }
    let b : State := { a with rgr := { a.rgr with annal := SMap.ins a.rgr.annal e.1 r } }
    let c := b.wr D.REC_FLUSHED_seq (max (b.rd D.REC_FLUSHED_seq) e.1)
    if evPosts r.code then c.postCxl r else c) s

/-- The newest number in the annal. -/
def State.annalNewest (s : State) : Nat := (SMap.keys s.rgr.annal).foldl max 0

/-- The registrar's counter is restored: `head` is the number given last. DEDUCED, log 54. DEDUCED, log 72. -/
def State.recStart (s : State) (head : Nat) : State :=
  let s1 := (s.wr D.REC_HEAD_seq head).wr D.REC_FLUSHED_seq (min head (max (s.rd D.REC_FLUSHED_seq) s.annalNewest))
  let held := s1.aon.held.map (fun e => { e with time := s.now })
  let lost : List Ev := if s1.rd D.PWR_AONSTAT_dropped = 0 then [] else [⟨E.REC_LOST, 0, 2, s1.rd D.PWR_AONSTAT_dropped, s.now, false⟩]
  let evs := held ++ lost ++ s1.rgr.held
  let s2 : State := { s1 with
    aon := { s1.aon with held := [] }
    rgr := { s1.rgr with running := true, held := [] } }
  (evs.foldl State.arrive ((s2.wr D.PWR_AONSTAT_held 0).wr D.PWR_AONSTAT_dropped 0))

/-- PWR_PGBRK.count, and the fields that show the newest valid flush record (Table 0.7). -/
def State.showRecord (s : State) : State :=
  let r := s.gov.rec0
  let s1 := s.wr D.PWR_PGBRK_count s.gov.breach.length
  if r.valid then ((s1.wr D.PWR_PGSTAT_cause r.cause).wr D.PWR_PGFLUSH_bytes r.bytes).wr D.PWR_PGFLUSH_us r.us else s1

/-- What step 10 takes from a flush record, and the number given last (R93, R326, R422, R447). -/
def State.applyRecord (s : State) : State :=
  let r := s.gov.rec0
  let s1 := if r.abandoned then s.listBreach r.ranges else s
  let s2 := if r.abandoned ∧ r.coarse then s1.wr D.PWR_PGBRK_coarse 1 else s1
  let s3 := r.queues.foldl (fun (a : State) q => if a.bit D.ATQ_CFG_enable q then a.wr D.ATQ_STAT_flushed 1 q else a) s2
  if 0 < r.regLost then s3.log E.REC_LOST 0 1 r.regLost else s3

/-- FLUSH_RECORD_EXAMINED (Table 17.1, step 10; R483). -/
def execFlushRecordExamined (s : State) : Result :=
  if s.bootAt 10 = false then .next s
  else
    let s0 := (s.restoreStep 10).showRecord
    let seq := ((s0.newestProgress (fun _ => true)).map (fun l => l.getD 1 0)).getD 1
    let s1 :=
      if s.boot.unflushed then
        let a := (s0.listBreach [s0.wholeDevice]).wr D.PWR_PGBRK_coarse 1
        let b : State := { a with cur := { a.cur with interrupted := [] } }
        (b.log E.REC_LOST 0 3 32768).recStart (max seq s0.annalNewest + 32768)
      else
        let a := if s0.gov.rec0.valid then s0.applyRecord.copyTravelled else s0
        a.recStart (max (seq - 1) (max a.annalNewest (if s0.gov.rec0.valid then s0.gov.rec0.head else 0)))
    .next ((s1.wr D.GBL_STAT_breach (b2n (decide (s1.gov.breach ≠ [])))).bootTo 11)

/-! Steps 11 and 12. -/

/-- JOIN_ENTER (R360). -/
def execJoinEnter (s : State) : Result := .next (if s.bootAt 11 ∧ s.rd D.FAB_STAT_join = 0 then s.joinEnter else s)

/-- A trial start that reaches step 12 makes its set active (R508). -/
def State.trialDone (s : State) : State :=
  if s.bit D.FWU_STAT_trial then
    match s.fwPending with
    | some t =>
      let s1 := ((s.wr D.FWU_STAT_active t).wr D.FWU_STAT_pending 0).wr D.FWU_STAT_trial 0
      ({ s1 with fw := { s1.fw with trials := 0, fallback := false } } : State).dirSave
    | none => s
  else s

/-- START_OPEN (R478, R87, R91, R326, R482, R483): steps 6 and 11 have ended, and at a first start admission.
DEDUCED, log 67. -/
def execStartOpen (s : State) : Result :=
  if s.bootAt 11 = false ∨ s.gov.measured = false ∨ s.boot.eleven = false ∨ (s.boot.first ∧ s.boot.admitted = false) then .next s
  else
    let s1 := ((s.wr D.GBL_STAT_state stOpen).bootTo 12).progress 3 1 0 12 s.bootMs
    let s2 := s1.postInterrupted
    let s3 := (SMap.keys s2.coh.fwd).foldl State.fwdSend s2
    let s4 := s3.wayThresholds.trialDone
    .next (if s.boot.unflushed then s4.scrubRestart else s4)

end Sys2Proof.Machine
end

