-- ==== Sys2Proof/Machine/FabGop.lean ====
section
/-! DEFINITION. Global operations of the fabric (R366 to R369, R435). -/

namespace Sys2Proof.Machine

def gopBroadcast : Nat := 1
def gopSnapshot : Nat := 2
def gopReset : Nat := 3

/-- What an operation does at a member (R368); the keeper's own reset comes last. -/
def State.gopApply (s : State) (g : Gop) : State :=
  if g.op = gopBroadcast then (s.wr D.FAB_GOPIN_value g.arg).log E.FAB_BCAST 0 0 0
  else if g.op = gopSnapshot then
    ({ s with fab := { s.fab with snapAt := some g.t } } : State).tallyFabric g.t
  else if s.isKeeper then s else s.deviceReset

/-- The keeper starts an operation: it covers the members reachable now. -/
def State.gopStart (s : State) (g : Gop) : State :=
  let g1 := if g.op = gopSnapshot then { g with t := s.now + 800 * s.diameter + 10000 } else g
  let s1 : State := { s with fab := { s.fab with gop := some (g1, s.members) } }
  (s1.emit (.fabMsg msgGop none [g1.op, g1.arg, g1.origin, g1.t])).gopApply g1

/-- The operation ends: its originator's busy clears with the result, and the next one starts (R366, R369). -/
def State.gopEnd (s : State) (late : Nat) : State :=
  match s.fab.gop with
  | none => s
  | some (g, _) =>
    let s1 := if late = 0 then s else s.log E.FAB_GOP_PARTIAL 0 0 late
    let s2 := if g.origin = myUid then (s1.wr D.FAB_GOPCTL_busy 0).wr D.FAB_GOPCTL_result (b2n (decide (0 < late))) else s1
    let s3 : State := { s2 with fab := { s2.fab with gop := none } }
    let s4 := if g.op = gopReset ∧ s3.isKeeper then s3.deviceReset else s3
    match s4.fab.gops with
    | [] => s4
    | n :: r => ({ s4 with fab := { s4.fab with gops := r } } : State).gopStart n

/-- An operation reaches the keeper, which runs one at a time (R366); with no other member it ends at once. -/
def State.gopQueue (s : State) (g : Gop) : State :=
  if s.fab.gop.isSome then { s with fab := { s.fab with gops := s.fab.gops ++ [g] } }
  else
    let s1 := s.gopStart g
    if s.members = [] then s1.gopEnd 0 else s1

/-- An operation is started here (key 0xE4), reaches this device as keeper, or is delivered to it by the keeper. -/
def State.gop (s : State) (fabric : Bool) (op arg origin t : Nat) : State :=
  if fabric then
    (if s.isKeeper then s.gopQueue ⟨op, arg, origin, 0⟩
     else if s.rd D.FAB_STAT_join < 3 then s
     else s.gopApply ⟨op, arg, origin, t⟩)
  else if s.bit D.FAB_GOPCTL_busy then s
  else
    let s1 := s.wr D.FAB_GOPCTL_busy 1
    if s1.isKeeper then s1.gopQueue ⟨op, arg, myUid, 0⟩
    else
      (({ s1 with fab := { s1.fab with gop := some (⟨op, arg, myUid, 0⟩, []) } } : State).emit
        (.fabMsg msgGop none [op, arg, myUid, 0]))

/-- GOP_MEMBER_TIMEOUT (R369): the operation under way here ends; `late` of its members have not answered within 2 ms.
DEDUCED, log 145. -/
def execGopMemberTimeout (late : Nat) (s : State) : Result := .next (s.gopEnd late)

/-- SNAPSHOT_TIME_REACHED (R368, R435). -/
def execSnapshotTimeReached (s : State) : Result :=
  match s.fab.snapAt with
  | none => .next s
  | some t =>
    let s1 := (s.wr D.FAB_SNAPT_ns t).wr D.REC_SNAPSEQ_seq (s.rd D.REC_HEAD_seq)
    .next { s1 with fab := { s1.fab with snapAt := none } }

/-! Barriers (R367). -/

/-- The UIDs of the seated reachable members, this device among them where it is seated. -/
def State.seatedMembers (s : State) : List Nat :=
  (s.seatsHeld.map (fun k => s.rd D.FAB_MEMUID_uid k)).filter s.reachable

/-- BARRIER_ARRIVE (R367): written here for the bits of `m`, or another device's arrivals reach the keeper. -/
def State.barrierArrive (s : State) (fabric : Bool) (m origin : Nat) : State :=
  (List.range 16).foldl (fun a n =>
    if m.testBit n = false then a
    else if fabric then (if a.isKeeper then a.barrierCount n origin else a)
    else if (a.rd D.FAB_BARRIER_waiting).testBit n then a
    else (a.setBit D.FAB_BARRIER_waiting n true).barrierTell n) s

/-- BARRIER_COMPLETE (R367): every seated member has arrived. -/
def execBarrierComplete (n : Fin 16) (s : State) : Result :=
  let l := SMap.get [] s.fab.arrived n
  if s.isKeeper ∧ (s.seatedMembers.all (fun u => l.contains u) = false ∨ l = []) then .next s
  else if (s.rd D.FAB_BARRIER_waiting).testBit n = false ∧ s.isKeeper = false then .next s
  else
    let g := s.rd D.FAB_BARGEN_gen
    let v := g / 2 ^ (4 * n.val) % 16
    let g' := g - v * 2 ^ (4 * n.val) + (v + 1) % 16 * 2 ^ (4 * n.val)
    let s1 := ((s.wr D.FAB_BARGEN_gen g').setBit D.FAB_BARRIER_waiting n false).log E.FAB_BARRIER_DONE 0 0 0
    let s2 : State := { s1 with fab := { s1.fab with arrived := SMap.del s1.fab.arrived n } }
    .next (if s.isKeeper then s2.emit (.fabMsg msgBarrier none [n.val, 2 ^ 64]) else s2)

end Sys2Proof.Machine
end

