-- ==== Sys2Proof/Machine/RegWrite.lean ====
section
/-! DEFINITION. Writes of the management window and of the HST blocks: which register an access meets (R3, R6, R315, R330),
what a write leaves in its fields (R5, R7, R9, R11 to R13), and what it starts. -/

namespace Sys2Proof.Machine

/-! Which register an access meets. -/

/-- The window offset under which the HST blocks are named here (R330); they lie in BAR2. -/
def hstBase : Nat := 0x2000000

/-- The register and the copy that start at an offset. -/
def regFind (off : Nat) : Option (RegRow × Nat) :=
  (regBlock off).findSome? (fun r => (r.copy off).map (fun i => (r, i)))

/-- What an access meets: a bad access (R3), a reserved offset or a window (R6), or `n` bits of a register from bit `lo`. -/
inductive RegHit where
  | bad
  | hole
  | reg (r : RegRow) (i lo n : Nat)
  deriving DecidableEq, Repr

/-- What an access of `size` bytes at an offset meets. -/
def regHit (off size : Nat) : RegHit :=
  if ([4, 8]).contains size = false ∨ off % size ≠ 0 then .bad
  else
    match regFind off with
    | some (r, i) => if r.width = 32 then (if size = 8 then .bad else .reg r i 0 32) else .reg r i 0 (8 * size)
    | none =>
      if size = 8 then (if (regFind (off + 4)).isSome then .bad else .hole)
      else if off % 8 = 4 then
        match regFind (off - 4) with
        | some (r, i) => if r.width = 64 then .reg r i 32 32 else .hole
        | none => .hole
      else .hole

/-- Whether the block of an offset responds: in ROM_RECOVERY only GBL, PWR, THM, LDG, FWU, INJ and the HST blocks (R490). -/
def State.blockUp (s : State) (off : Nat) : Bool :=
  decide (s.phase ≠ stRomRecovery) || decide (hstBase ≤ off) || ([0, 1, 2, 3, 6, 7]).contains (off / 0x10000)

/-! Fields. -/

/-- A field as stored, of the block of reader `src` where each port has its own. -/
def State.stored (s : State) (src : Nat) (f : FldDesc) (i : Nat) : Nat :=
  if hstBase ≤ f.off then s.rdP f src i
  else if f.key 0 = D.REC_RDSEQ_seq.key 0 then (s.reader src).seq
  else s.rd f i

/-- Stores a field. -/
def State.setFld (s : State) (src : Nat) (f : FldDesc) (i v : Nat) : State :=
  if hstBase ≤ f.off then s.wrP f src v i else s.wr f v i

/-- Whether `n` bits from bit `lo` overlap a field. -/
def FldDesc.touched (f : FldDesc) (lo n : Nat) : Bool := decide (f.lo < lo + n) && decide (lo ≤ f.hi)

/-- A field's value once `n` bits from bit `lo` of its register take `v`. DEDUCED, log 15. -/
def FldDesc.spliced (f : FldDesc) (old lo n v : Nat) : Nat :=
  let w := old * 2 ^ f.lo
  bitsOf (w % 2 ^ lo + v % 2 ^ n * 2 ^ lo + w / 2 ^ (lo + n) * 2 ^ (lo + n)) f.hi f.lo

/-- The bits a write gives a field, zero outside the access; an undefined code of a WO field acts as its reset value, zero
(R12). -/
def FldDesc.given (f : FldDesc) (lo n v : Nat) : Nat :=
  let x := f.spliced 0 lo n v
  if f.acc = .wo ∧ f.enum.isEmpty = false ∧ f.enum.contains x = false then 0 else x

/-- Whether the lock bit that governs a field is set (R9). DEDUCED, log 17. -/
def State.locked (s : State) (f : FldDesc) : Bool :=
  match f.lock with
  | some k => decide (SMap.get 0 s.regs k = 1)
  | none => false

/-- The sources of REC_SRCs that stand for an event. -/
def srcDefined (n : Nat) : Bool := (evSeverity (codeOf n)).isSome

/-- Whether a write to a field is taken where a rule names when it is ignored: R307, R317, R420, R450, R190, R437, R143. -/
def State.taken (s : State) (src : Nat) (f : FldDesc) (i lo n v : Nat) : Bool :=
  let o := f.off
  if s.locked f then false
  else if o = D.LDG_PGADDR_page.off ∨ o = D.LDG_PGDATA_data.off ∨ o = D.LDG_PGCMD_cmd.off then !s.bit D.LDG_STAT_cmdbusy
  else if o = D.HST_GBASE_base.off then !(SMap.get Decoder.init (s.port src).decs i).committed
  else if o = D.ATQ_CFG_enable.off then
    !s.bit D.ATQ_CFG_enable i || ([D.ATQ_CFG_port.lo, D.ATQ_CFG_vector.lo, D.ATQ_CFG_ct.lo]).contains f.lo ||
      (decide (63 < lo + n) && decide (D.ATQ_CFG_enable.given lo n v = 0))
  else if o = D.INJ_PT_point.off ∨ o = D.INJ_POS_pos.off then !s.bit D.INJ_PTCTL_armed i
  else if o = D.VIT_LOANCFG_ways.off then !s.bit D.VIT_STAT_loanbusy
  else if o = D.REC_SRC_limit.off then decide (f.lo ≠ D.REC_SRC_limit.lo) || srcDefined i
  else if o = D.MED_CHCTL_pause.off then !s.isFlushing
  else true

/-- Fields whose write is an action and nothing else: the enable of a queue, the ways of R197, the cursor of R434, ovf (R515). -/
def actsOnly (f : FldDesc) : Bool :=
  decide (f.off = D.VIT_WAYDIS_slice4n0.off) || decide (f.key 0 = D.REC_RDSEQ_seq.key 0) ||
    decide (f.key 0 = D.ATQ_CFG_enable.key 0) || decide (f.key 0 = D.TAL_CNT_ovf.key 0)

/-- What a write leaves in one field (Table 0.4), and whether its value was clamped or replaced. The locks are those before
the write. -/
def State.fieldWrite (s0 : State) (src i lo n v : Nat) (a : State × Bool) (f : FldDesc) : State × Bool :=
  if f.touched lo n = false ∨ s0.taken src f i lo n v = false then a
  else
    let x := f.spliced 0 lo n v
    match f.acc with
    | .rw | .rwl =>
      if actsOnly f then a
      else
        let w := f.spliced (s0.stored src f i) lo n v
        let e := f.effective i w
        (a.1.setFld src f i e, a.2 || decide (e ≠ w))
    | .rw1c => if actsOnly f then a else (a.1.setFld src f i (s0.stored src f i - (s0.stored src f i &&& x)), a.2)
    | .wo => (a.1, a.2 || (f.enum.isEmpty = false && f.enum.contains x = false))
    | _ => a

/-- Limits that depend on another field or on time: Tables 15.6, 16.8, 16.10, R365, R514, R522. -/
def State.dynFix (s : State) (off i : Nat) : State :=
  if off = D.LDG_TCCFG_base.off then
    s.wr D.LDG_TCCFG_count (min (s.rd D.LDG_TCCFG_count) ((12288 - s.rd D.LDG_TCCFG_base) / 2))
  else if off = D.PWR_PFCFG_vinok.off then s.vinOrder
  else if off = D.THM_MEDCFG_defer.off then s.wr D.THM_MEDCFG_defer (min (s.rd D.THM_MEDCFG_defer) (s.rd D.THM_MEDCFG_backoff - 5))
  else if off = D.FAB_VTSET_ns.off then s.wr D.FAB_VTSET_ns (max (s.rd D.FAB_VTSET_ns) s.now)
  else if off = D.TAL_TAGTAIL_index.off then
    let h := s.rd D.TAL_TAGHEAD_index
    let d := (h + 2 ^ 32 - s.rd D.TAL_TAGTAIL_index) % 2 ^ 32
    if d ≤ 1024 then s else s.wr D.TAL_TAGTAIL_index (if 2 ^ 32 - d ≤ d - 1024 then h else (h + 2 ^ 32 - 1024) % 2 ^ 32)
  else if off = D.TAL_CFG_event.off then
    if tallyEvent i (s.rd D.TAL_CFG_event i) then s else s.wr D.TAL_CFG_event 0 i
  else s

/-! What a write starts. `g f` is what the write gives a WO field, `o f` a field's value before it. -/

/-- A wing reset of each named wing (R26): ignored unless OPEN; busy wings and those self-test holds are left out.
DEDUCED, log 22. -/
def State.wingReset (s : State) (wings : BitVec 8) : State :=
  if s.isOpen = false then s
  else
    let m := wings &&& ~~~s.coh.rstBusy &&& ~~~s.boot.wingOff
    let s1 : State := { s with coh := { s.coh with rstBusy := s.coh.rstBusy ||| m } }
    (wingsIn m).foldl (fun a w => (List.range 32).foldl (fun b t => (b.fenceStop (w * 32 + t)).abort (w * 32 + t)) a) s1

/-- Ways a write of VIT_WAYDISn names: slice and way (R197). -/
def wayBits (n v : Nat) : List (Nat × Nat) :=
  ((List.range 64).filter v.testBit).map (fun b => (4 * n + b / 16, b % 16))

/-- Every fabric port takes its settings (R341). DEDUCED, log 20. -/
def State.fabAll (s : State) : State := (List.range 16).foldl State.fabPctl s

/-- Actions of the blocks GBL to FWU in the order of their bases. -/
def State.actLow (s0 s : State) (src off i : Nat) (g : FldDesc → Nat) (libOk : Bool) : State :=
  if off = D.GBL_CTL_rstkey.off then (if g D.GBL_CTL_rstkey = 0xD5 then s.deviceReset else s)
  else if off = D.GBL_WINGRST_wings.off then s.wingReset (BitVec.ofNat 8 (g D.GBL_WINGRST_wings))
  else if off = D.PWR_PGCTL_measure.off then (if g D.PWR_PGCTL_measure = 1 then s.measureRequest else s)
  else if off = D.PWR_PGBACK_key.off then
    (if g D.PWR_PGBACK_key = 0xB7 then s.breachAck else s)
  else if off = D.LDG_PGCMD_cmd.off then s.ldgPgcmd (g D.LDG_PGCMD_cmd)
  else if off = D.LDG_TCCMD_cmd.off then s.ldgTccmd (s.rd D.LDG_TCCMD_pair) (g D.LDG_TCCMD_cmd)
  else if off = D.REC_CTL_flush.off then (if g D.REC_CTL_flush = 1 then s.annalStart else s)
  else if off = D.TAL_CTL_snap.off then
    let s1 := if g D.TAL_CTL_clrall = 1 then s.tallyClearAll else s
    if g D.TAL_CTL_snap = 1 then s1.tallyRequest 0 else s1
  else if off = D.TAL_CFG_clr.off then (if g D.TAL_CFG_clr = 1 then s.tallyClear i else s)
  else if off = D.TAL_CNT_ovf.off then (if g D.TAL_CNT_ovf = 1 then { s with tcnt := s.tcnt.ovfClear i } else s)
  else if off = D.FWU_CTL_key.off then
    if g D.FWU_CTL_key ≠ 0x6B then s
    else
      let set := s.rd D.FWU_CTL_set
      match s.rd D.FWU_CTL_op with
      | 1 => (s.fwOnline set libOk).2
      | 2 => (s.fwOffline set).2
      | 3 => s.fwCommitSvn
      | 4 => s.fwCancel
      | _ => s
  else if off = D.INJ_CTL_disarm.off then
    (if g D.INJ_CTL_disarm = 1 ∨ s.rd D.INJ_CTL_enable = 0 then s.injDisarmAll else s)
  else if off = D.INJ_PTCTL_arm.off then
    (if g D.INJ_PTCTL_disarm = 1 then s.injDisarm i else if g D.INJ_PTCTL_arm = 1 then s.injArm i else s)
  else if off = D.HST_CTL_linkdis.off then
    (if s.rdP D.HST_CTL_linkdis src = 1 ∧ s0.rdP D.HST_CTL_linkdis src = 0 ∧ s.portMode src ≠ 0 then s.portReset src else s)
  else s

/-- Actions of the blocks CIP to CUR. -/
def State.actHigh (s0 s : State) (off i : Nat) (g : FldDesc → Nat) : State :=
  if off = D.CIP_CTL_trngrst.off then (if g D.CIP_CTL_trngrst = 1 then s.trngRestart else s)
  else if off = D.MED_CTL_ckpt.off then (if g D.MED_CTL_ckpt = 1 then s.checkpoint else s)
  else if off = D.MED_CHCTL_pause.off then
    let p := s.rd D.MED_CHCTL_pause i
    if p = s0.rd D.MED_CHCTL_pause i then s
    else if p = 1 then s.pauseRequest i false
    else if (s.chan i).activation then s else s.pauseEnd i
  else if off = D.CON_CTL_scrub.off then
    let s1 := if g D.CON_CTL_metackpt = 1 then s.metaCkpt else s
    if g D.CON_CTL_scrubnow = 1 then s1.scrubRestart else s1
  else if off = D.CON_SPARE_lowpct.off then s.spareCheck
  else if off = D.VIT_WINGINV_wings.off then s.wingInvalidateAll (BitVec.ofNat 8 (g D.VIT_WINGINV_wings))
  else if off = D.VIT_LOANCFG_ways.off then s.loanWaysChange (s.rd D.VIT_LOANCFG_ways)
  else if off = D.VIT_LOOKUP_addr.off then s.vitLookup (s.rd D.VIT_LOOKUP_addr)
  else if off = D.CLO_AWAYREL_key.off then (if g D.CLO_AWAYREL_key = 0xA9 then s.sweepGrants (g D.CLO_AWAYREL_seat) else s)
  else if off = D.FAB_CTL_enable.off then
    (if s.rd D.FAB_CTL_enable = s0.rd D.FAB_CTL_enable then s else s.fabAll)
  else if off = D.FAB_CFG_kprio.off then
    (if s.rd D.FAB_CFG_kprio = s0.rd D.FAB_CFG_kprio ∨ s.rd D.FAB_STAT_join = 0 then s else s.floodRecord.fabUpdate)
  else if off = D.FAB_SEATCMD_key.off then
    (if g D.FAB_SEATCMD_key = 0x5A then
      s.seatCommand false (s.rd D.FAB_SEATCMD_op) (s.rd D.FAB_SEATCMD_seat) (s.rd D.FAB_SEATUID_uid) myUid else s)
  else if off = D.FAB_VTSET_ns.off then s.vtSet false (s.rd D.FAB_VTSET_ns)
  else if off = D.FAB_GOPCTL_key.off then
    (if g D.FAB_GOPCTL_key = 0xE4 then s.gop false (s.rd D.FAB_GOPCTL_op) (s.rd D.FAB_GOPARG_value) myUid 0 else s)
  else if off = D.FAB_BARRIER_arrive.off then s.barrierArrive false (g D.FAB_BARRIER_arrive) myUid
  else if off = D.FAB_PCTL_dis.off then s.fabPctl i
  else if off = D.CUR_LOADCTL_go.off then (if g D.CUR_LOADCTL_go = 1 then s.loadGo else s)
  else if off = D.CUR_UNLOAD_id.off then s.unload (g D.CUR_UNLOAD_id)
  else if off = D.CUR_ABORT_key.off then (if g D.CUR_ABORT_key = 0xAB then s.callAbort (g D.CUR_ABORT_ctx) else s)
  else s

/-- Actions of a queue page (R317, R320, R326, R327), for a write of `n` bits from bit `lo`. -/
def State.actAtq (s : State) (off i lo n : Nat) (g : FldDesc → Nat) : State :=
  if off = D.ATQ_CFG_enable.off then
    let s1 := if lo + n ≤ 63 then s
      else if g D.ATQ_CFG_enable = 1 then s.qEnable i
      else if s.qOn i then s.qDisable i else s
    s1.atqSave i
  else if off = D.ATQ_CTL_arm.off then
    let s1 := if g D.ATQ_CTL_reset = 1 then s.qEmpty i else s
    let s2 := if g D.ATQ_CTL_close = 1 then s1.qClose i else s1
    if g D.ATQ_CTL_arm = 1 then s2.qArm i else s2
  else s

/-- Actions of a write whose own value matters as bits: the ways of R197 and the cursor of R434. -/
def State.actBits (s : State) (src off i lo n v : Nat) : State :=
  if off = D.VIT_WAYDIS_slice4n0.off then
    (wayBits i (v % 2 ^ n * 2 ^ lo)).foldl (fun a e => a.wayEnable e.1 e.2) s
  else if off = D.REC_RDSEQ_seq.off then s.startCopy src (D.REC_RDSEQ_seq.spliced (s.reader src).seq lo n v)
  else s

/-- Everything a write of a register starts. -/
def State.act (s0 s : State) (src : Nat) (r : RegRow) (i lo n v : Nat) (libOk : Bool) : State :=
  let g := fun (f : FldDesc) => if s0.taken src f i lo n v then f.given lo n v else 0
  let off := r.off
  if off < 0x80000 ∨ hstBase ≤ off then (s0.actLow s src off i g libOk).actBits src off i lo n v
  else if off < 0x100000 then (s0.actHigh s off i g).actBits src off i lo n v
  else s.actAtq off i lo n (fun f => f.given lo n v)

/-- GBL_CLAMPCNT and GBL_CLAMPLAST after a write (R13, R24). -/
def State.clampCount (s : State) (src off : Nat) : State :=
  ((s.addSat D.GBL_CLAMPCNT_count 1).wr D.GBL_CLAMPLAST_src src).wr D.GBL_CLAMPLAST_offset off

/-- A write of `size` bytes at a window offset by host port `src`, or by admwr as source 4; bit 0 of LDG_TCCFG ignores writes. -/
def State.regWrite (s : State) (src off size v : Nat) (libOk : Bool := true) : State :=
  match regHit off size with
  | .bad => s.badAccess src off size
  | .hole => s
  | .reg r i lo n =>
    if s.blockUp off = false then s
    else
      let v := if r.off = D.LDG_TCCFG_base.off then v - v % 2 else v
      let w := r.fields.foldl (s.fieldWrite src i lo n v) (s, false)
      let d := w.1.dynFix r.off i
      let c := if r.off = D.GBL_CTL_clampclr.off ∧ D.GBL_CTL_clampclr.given lo n v = 1 then d.wr D.GBL_CLAMPCNT_count 0 else d
      let k := if w.2 ∨ d.regs ≠ w.1.regs then c.clampCount src off else c
      s.act k src r i lo n v libOk

/-- A write arrives at a host port that carries it (R304). -/
def State.portWrite (s : State) (p off size v : Nat) (libOk : Bool := true) : State :=
  if s.regUp p then (s.tlpIn p).regWrite p off size v libOk else s

/-- Window offset of an access of BAR0, or of the HST block in BAR2 (R316, R330). -/
def windowOff (bar2 : Bool) (off : Nat) : Nat := if bar2 then hstBase + (off - 0x12000) else off

/-- Whether an access lies in BAR2 outside the HST block: the CXL and MSI-X structures there, whose registers this spec leaves to
CXL and PCIe. -/
def bar2Other (bar2 : Bool) (off : Nat) : Bool := bar2 && !(decide (0x12000 ≤ off) && decide (off < 0x13000))

/-! The commands. -/

/-- REGISTER_WRITE (R3, R7, R11 to R13, R22). -/
def execRegisterWrite (port : Fin 4) (bar2 : Bool) (off : BitVec 25) (size : BitVec 8) (value : Word) (libOk : Bool)
    (s : State) : Result :=
  .next (if bar2Other bar2 off.toNat then s else s.portWrite port (windowOff bar2 off.toNat) size.toNat value.toNat libOk)

/-- DEVICE_RESET (R25). -/
def execDeviceReset (port : Fin 4) (s : State) : Result := .next (s.portWrite port 0x10 4 0xD5)

/-- CLAMP_CLEAR (R24): the other bits of GBL_CTL are written with it. -/
def execClampClear (port : Fin 4) (value : BitVec 32) (s : State) : Result :=
  .next (s.portWrite port 0x10 4 (value ||| 0x100).toNat)

/-- WING_RESET (R26). -/
def execWingReset (port : Fin 4) (wings : BitVec 8) (s : State) : Result := .next (s.portWrite port 0x48 4 wings.toNat)

/-- WING_RESET_RELEASE (R26): its calls have posted and its store buffers have drained; its caches are written back, and it
leaves reset. In a flush it stays stopped. -/
def execWingResetRelease (wing : Fin 8) (s : State) : Result :=
  if s.isFlushing ∨ s.coh.rstBusy.getLsbD wing = false ∨ s.wingDrained wing = false ∨
      (List.range 32).any (fun t => decide ((s.ctx (wing * 32 + t)).st ≠ .idle)) then .next s
  else
    let s1 := s.wingFlush wing
    .next { s1 with coh := { s1.coh with rstBusy := s1.coh.rstBusy &&& ~~~(BitVec.ofNat 8 (2 ^ wing.val)) } }

/-- The offset of a queue's register. -/
def atqOff (queue off : Nat) : Nat := 0x100000 + 256 * queue + off

/-- ATQ_ENABLE (R317): the other fields are written with it. -/
def execAtqEnable (port : Fin 4) (queue : Fin 4096) (cfg : BitVec 63) (s : State) : Result :=
  .next (s.portWrite port (atqOff queue 0xC0) 8 (2 ^ 63 + cfg.toNat))

/-- ATQ_DISABLE (R317). -/
def execAtqDisable (port : Fin 4) (queue : Fin 4096) (cfg : BitVec 63) (s : State) : Result :=
  .next (s.portWrite port (atqOff queue 0xC0) 8 cfg.toNat)

/-- ATQ_RESET (R326). -/
def execAtqReset (port : Fin 4) (queue : Fin 4096) (s : State) : Result := .next (s.portWrite port (atqOff queue 0xD8) 4 4)

/-- ATQ_CLOSE (R320). -/
def execAtqClose (port : Fin 4) (queue : Fin 4096) (s : State) : Result := .next (s.portWrite port (atqOff queue 0xD8) 4 2)

/-- ATQ_ARM (R327). -/
def execAtqArm (port : Fin 4) (queue : Fin 4096) (s : State) : Result := .next (s.portWrite port (atqOff queue 0xD8) 4 1)

/-- PROGRAM_LOAD (R287). -/
def execProgramLoad (port : Fin 4) (s : State) : Result := .next (s.portWrite port 0xF0014 4 1)

/-- PROGRAM_UNLOAD (R289). -/
def execProgramUnload (port : Fin 4) (id : Fin 1024) (s : State) : Result := .next (s.portWrite port 0xF001C 4 id)

/-- CALL_ABORT (R295). -/
def execCallAbort (port : Fin 4) (ctx : Fin 256) (s : State) : Result :=
  .next (s.portWrite port 0xF002C 4 (0xAB000000 + ctx.val))

/-- WING_INVALIDATE_ALL (R188). -/
def execWingInvalidateAll (port : Fin 4) (wings : BitVec 8) (s : State) : Result :=
  .next (s.portWrite port 0xC0010 4 wings.toNat)

/-- LOAN_WAYS_CHANGE (R190). -/
def execLoanWaysChange (port : Fin 4) (ways : BitVec 4) (s : State) : Result :=
  .next (s.portWrite port 0xC000C 4 ways.toNat)

/-- WAY_ENABLE (R197). -/
def execWayEnable (port : Fin 4) (slice : Fin 16) (way : Fin 16) (s : State) : Result :=
  .next (s.portWrite port (0xC0020 + 8 * (slice.val / 4)) 8 (2 ^ (16 * (slice.val % 4) + way.val)))

/-- VIT_LOOKUP_WRITE (R182). -/
def execVitLookupWrite (port : Fin 4) (addr : Word) (s : State) : Result := .next (s.portWrite port 0xC0018 8 addr.toNat)

/-- AWAY_RELEASE (R216). -/
def execAwayRelease (port : Fin 4) (seat : Fin 64) (s : State) : Result :=
  .next (s.portWrite port 0xD000C 4 (seat.val * 256 + 0xA9))

/-- FAB_PCTL_WRITE (R341). -/
def execFabPctlWrite (port : Fin 4) (fport : Fin 16) (value : BitVec 32) (s : State) : Result :=
  .next (s.portWrite port (0xE1000 + 0x20 * fport.val) 4 value.toNat)

/-- A seat command written at a port with its UID, or arriving over the fabric (R348). -/
def State.seatCmdFrom (s : State) (port : Option (Fin 4)) (op seat uid origin : Nat) : State :=
  match port with
  | some p => (s.portWrite p 0xE0010 8 uid).portWrite p 0xE000C 4 (op * 2 ^ 24 + seat * 2 ^ 16 + 0x5A)
  | none => s.seatCommand true op seat uid origin

/-- ASSIGN (R348). -/
def execAssign (port : Option (Fin 4)) (seat : Fin 64) (uid origin : Word) (s : State) : Result :=
  .next (s.seatCmdFrom port 1 seat uid.toNat origin.toNat)

/-- EVICT (R348). -/
def execEvict (port : Option (Fin 4)) (seat : Fin 64) (uid origin : Word) (s : State) : Result :=
  .next (s.seatCmdFrom port 2 seat uid.toNat origin.toNat)

/-- DROPFWD (R348). -/
def execDropfwd (port : Option (Fin 4)) (seat : Fin 64) (uid origin : Word) (s : State) : Result :=
  .next (s.seatCmdFrom port 3 seat uid.toNat origin.toNat)

/-- VTSET (R365). -/
def execVtset (port : Option (Fin 4)) (t : Word) (s : State) : Result :=
  .next (match port with
    | some p => s.portWrite p 0xE0030 8 t.toNat
    | none => s.vtSet true t.toNat)

/-- A global operation written at a port with its argument, or arriving over the fabric (R366). -/
def State.gopFrom (s : State) (port : Option (Fin 4)) (op arg origin t : Nat) : State :=
  match port with
  | some p => (s.portWrite p 0xE0050 8 arg).portWrite p 0xE003C 4 (op * 2 ^ 16 + 0xE4)
  | none => s.gop true op arg origin t

/-- BROADCAST (R368). DESIGN CHOICE, log 18. -/
def execBroadcast (port : Option (Fin 4)) (arg origin : Word) (s : State) : Result :=
  .next (s.gopFrom port gopBroadcast arg.toNat origin.toNat 0)

/-- SNAPSHOT (R368): `t` is the T the keeper chose, where the operation comes from it. -/
def execSnapshot (port : Option (Fin 4)) (arg origin t : Word) (s : State) : Result :=
  .next (s.gopFrom port gopSnapshot arg.toNat origin.toNat t.toNat)

/-- RESET (R368). -/
def execReset (port : Option (Fin 4)) (arg origin : Word) (s : State) : Result :=
  .next (s.gopFrom port gopReset arg.toNat origin.toNat 0)

/-- BARRIER_ARRIVE (R367). -/
def execBarrierArrive (port : Option (Fin 4)) (arrive : BitVec 16) (origin : Word) (s : State) : Result :=
  .next (match port with
    | some p => s.portWrite p 0xE0040 4 arrive.toNat
    | none => s.barrierArrive true arrive.toNat origin.toNat)

/-- TRNG_RESTART (R402). -/
def execTrngRestart (port : Fin 4) (s : State) : Result := .next (s.portWrite port 0x80000 4 1)

/-- INJ_ARM (R414). -/
def execInjArm (port : Fin 4) (slot : Fin 8) (s : State) : Result :=
  .next (s.portWrite port (0x7010C + 0x10 * slot.val) 4 1)

/-- INJ_DISARM (R420). -/
def execInjDisarm (port : Fin 4) (slot : Fin 8) (s : State) : Result :=
  .next (s.portWrite port (0x7010C + 0x10 * slot.val) 4 2)

/-- INJ_DISARM_ALL (R420): the other bits of INJ_CTL are written with it. -/
def execInjDisarmAll (port : Fin 4) (value : BitVec 32) (s : State) : Result :=
  .next (s.portWrite port 0x70000 4 (value ||| 1).toNat)

/-- LDG_RAW_READ (R450). -/
def execLdgRawRead (port : Fin 4) (s : State) : Result := .next (s.portWrite port 0x3000C 4 1)

/-- LDG_RAW_WRITE (R450). -/
def execLdgRawWrite (port : Fin 4) (s : State) : Result := .next (s.portWrite port 0x3000C 4 2)

/-- TWO_COPY_READ (R452). -/
def execTwoCopyRead (port : Fin 4) (pair : Fin 2048) (s : State) : Result :=
  .next (s.portWrite port 0x30014 4 (pair.val * 2 ^ 16 + 1))

/-- TWO_COPY_WRITE (R453). -/
def execTwoCopyWrite (port : Fin 4) (pair : Fin 2048) (s : State) : Result :=
  .next (s.portWrite port 0x30014 4 (pair.val * 2 ^ 16 + 2))

/-- MEASURE_REQUEST (R61): the interval is written with it. -/
def execMeasureRequest (port : Fin 4) (interval : BitVec 8) (s : State) : Result :=
  .next (s.portWrite port 0x10800 4 (interval.toNat * 256 + 1))

/-- BREACH_ACK (R95). -/
def execBreachAck (port : Fin 4) (s : State) : Result := .next (s.portWrite port 0x1084C 4 0xB7)

/-- The value of FWU_CTL that starts an operation on a set. -/
def fwuCtl (op : Nat) (setB : Bool) : Nat := op * 2 ^ 12 + b2n setB * 256 + 0x6B

/-- ONLINE (R503): `libOk` says whether every import would resolve in the new library (R499). -/
def execOnline (port : Fin 4) (setB libOk : Bool) (s : State) : Result :=
  .next (s.portWrite port 0x60000 4 (fwuCtl 1 setB) libOk)

/-- OFFLINE (R507). -/
def execOffline (port : Fin 4) (setB : Bool) (s : State) : Result := .next (s.portWrite port 0x60000 4 (fwuCtl 2 setB))

/-- COMMIT_SVN (R509). -/
def execCommitSvn (port : Fin 4) (setB : Bool) (s : State) : Result := .next (s.portWrite port 0x60000 4 (fwuCtl 3 setB))

/-- CANCEL (R507). -/
def execCancel (port : Fin 4) (setB : Bool) (s : State) : Result := .next (s.portWrite port 0x60000 4 (fwuCtl 4 setB))

/-- TALLY_CLEAR (R516): the counter's configuration is written with it. -/
def execTallyClear (port : Fin 4) (n : Fin 304) (cfg : Word) (s : State) : Result :=
  .next (s.portWrite port (0x51000 + 8 * n.val) 8 (cfg ||| 0x2000000000000000).toNat)

/-- TALLY_CLEAR_ALL (R516). -/
def execTallyClearAll (port : Fin 4) (s : State) : Result := .next (s.portWrite port 0x50000 4 2)

/-- TALLY_SNAP (R518). -/
def execTallySnap (port : Fin 4) (s : State) : Result := .next (s.portWrite port 0x50000 4 1)

/-- ADMWR (R284): the instruction retires when the write has taken effect; below WARDEN it faults in the blocks LDG, FWU, INJ and
CIP. -/
def execAdmwr (c : Fin 256) (a b : BitVec 5) (libOk : Bool) (s : State) : Result :=
  .next (s.floor c .steward 0x3C (fun x =>
    let off := (x.reg a).toNat
    let v := (x.reg b).toNat
    if ([3, 6, 7, 8]).contains (off / 0x10000) ∧ x.priv ≠ .warden then s.faultNow c fltPriv 0 0x3C 0
    else
      let s1 := s.retire c x (x.pc + 4) 0x3C 0
      match (if hstBase ≤ off then none else regFind off) with
      | some (r, _) => s1.regWrite 4 off (r.width / 8) (v % 2 ^ r.width) libOk
      | none => s1.badAccess 4 off 8))

end Sys2Proof.Machine
end

