-- ==== Sys2Proof/Machine/RegRead.lean ====
section
/-! DEFINITION. Reads of the management window and of the HST blocks (R3, R4, R6, R7): the fields that show other state, the
windows of records and table entries, the half latch, and admrd (R284). -/

namespace Sys2Proof.Machine

/-- Whether two descriptions name the same field. -/
def FldDesc.same (f g : FldDesc) : Bool := decide (f.off = g.off) && decide (f.lo = g.lo)

/-- A number of `n` bits, bit `k` set where `p k`. -/
def bitsWhere (n : Nat) (p : Nat → Bool) : Nat := (List.range n).foldl (fun a k => if p k then a + 2 ^ k else a) 0

/-- The whole percent of a part. -/
def pct (part whole : Nat) : Nat := part * 100 / whole

/-- Whether a wing is in step 3 of a wing reset: its calls have ended and its store buffers have drained (R26). -/
def State.wingHeld (s : State) (w : Nat) : Bool :=
  s.coh.rstBusy.getLsbD w && s.wingDrained w && (List.range 32).all (fun t => decide ((s.ctx (w * 32 + t)).st = .idle))

/-- GBL_ISLRST.held (Table 1.9): its Reset value until the self-test of a start after power-on; every island but the
Cloister while a device reset begins (R479); else the wings held in reset. DEDUCED, log 116. -/
def State.islandsHeld (s : State) : Nat :=
  if s.seq ≠ seqOn ∨ (s.boot.step ≤ 3 ∧ s.boot.warm = false) then 2 ^ 57 - 1
  else if s.phase = stResetting ∧ s.boot.step = 2 then 2 ^ 56 - 1
  else (List.range 8).foldl (fun a w => a + b2n (s.boot.wingOff.getLsbD w || s.wingHeld w) * 2 ^ w) 0

/-- GBL fields that show other state. -/
def State.viewGbl (s : State) (f : FldDesc) (i : Nat) : Nat :=
  if f.same D.GBL_ISLRST_held then s.islandsHeld
  else if f.same D.GBL_WINGRST_busy then s.coh.rstBusy.toNat
  else if f.same D.GBL_UID_uid then myUid
  else if f.same D.GBL_ID_grade then (if Config.gradeE then 0x45 else 0x53)
  else s.rd f i

/-- REC fields of reader `src` (R434). -/
def State.viewRec (s : State) (src : Nat) (f : FldDesc) (i : Nat) : Nat :=
  if f.same D.REC_RDSEQ_seq then (s.reader src).seq
  else if f.same D.REC_RDSTAT_busy then b2n (s.reader src).busy
  else if f.same D.REC_STAT_unwritten then
    min 65535 (s.rgr.buf.filter (fun e => decide (s.rd D.REC_FLUSHED_seq < e.1))).length
  else if f.same D.REC_SRC_limit ∧ srcDefined i = false then 0
  else s.rd f i

/-- Key check value of a slot (R374), byte 0 highest. -/
def KeySlot.kcv (k : KeySlot) : Nat :=
  match k.type with
  | .hmac => ofBe ((hmac k.bytes (ascii "chk")).take 4)
  | _ => ofBe ((aesEnc k.bytes (zeros 16)).take 4)

/-- The encoding of a key type (Table 12.7). -/
def KeyType.encoding : KeyType → Nat
  | .aes128 => 0
  | .aes256 => 1
  | .hmac => 2

/-- CIP_SLOTs (R373 to R376); after a power-on they show no key before step 5 has restored them (R10). -/
def State.viewCip (s : State) (f : FldDesc) (i : Nat) : Nat :=
  if f.off ≠ D.CIP_SLOT_state.off then s.rd f i
  else if f.lo = D.CIP_SLOT_users.lo then s.slotUsers i
  else match (if s.restoredTo < 5 then none else SMap.find s.slots i) with
    | none => 0
    | some k =>
      if f.lo = D.CIP_SLOT_state.lo then 1
      else if f.lo = D.CIP_SLOT_type.lo then k.type.encoding
      else if f.lo = D.CIP_SLOT_source.lo then k.source
      else k.kcv

/-- STG_PRANGEn of the selected page. -/
def State.viewStg (s : State) (f : FldDesc) (i : Nat) : Nat :=
  if f.off ≠ D.STG_PRANGE_first.off then s.rd f i
  else match s.stgE.ranges[s.rd D.STG_PSEL_page * 256 + i]? with
    | none => 0
    | some r => if f.lo = D.STG_PRANGE_valid.lo then 1 else if f.lo = D.STG_PRANGE_level.lo then r.level else r.first

/-- Whether a row has an unavailable member (R109). -/
def State.rowBad (s : State) (row : Nat) : Bool := decide (s.rowUnavail row ≠ [])

/-- MED_STAT.state (Table 4.12). -/
def State.medState (s : State) : Nat :=
  if s.isOpen then (if s.rd D.MED_STAT_absent ≠ 0 ∨ s.rd D.CON_REBUILD_rows ≠ 0 then 2 else 1)
  else if s.isFlushing then 3 else 0

/-- MED fields that show other state. -/
def State.viewMed (s : State) (f : FldDesc) (i : Nat) : Nat :=
  if f.same D.MED_STAT_state then s.medState
  else if f.same D.MED_ROWTOK0_held then bitsWhere 64 s.tokenHeld
  else if f.same D.MED_ROWTOK1_held then bitsWhere 64 (fun r => s.tokenHeld (64 + r))
  else if f.same D.MED_ROWUNAV0_unav then bitsWhere 64 s.rowBad
  else if f.same D.MED_ROWUNAV1_unav then bitsWhere 64 (fun r => s.rowBad (64 + r))
  else if f.same D.MED_CHSTAT_pstate then
    let c := s.chan i
    if c.gone then 3 else if c.paused ∨ c.backoff then 2 else if c.want then 1 else 0
  else if f.same D.MED_STAT_paused then
    ((List.range 32).filter (fun c => !(s.chan c).gone && ((s.chan c).paused || (s.chan c).backoff))).length
  else if f.same D.MED_CHSTAT_tdefer then b2n ((List.range 8).any (fun d => (s.die (i * 8 + d)).defer))
  else if f.same D.MED_CHSTAT_busy then
    b2n (s.med.parts.any (fun e => decide (e.1 / 64 = i) && (e.2.reader.isSome || decide (e.2.op = .writing))))
  else s.rd f i

/-- The words of a tile record (Table 5.1). -/
def TileRec.word (t : TileRec) (w : Nat) : Nat :=
  if w = 0 then t.wcount * 2 ^ 32 + t.rcount * 2 ^ 8 + t.st * 16 + b2n t.worn * 8 + b2n t.refresh * 4 + b2n t.forced * 2
  else t.tnew * 2 ^ 32 + t.told

/-- CON fields that show other state. -/
def State.viewCon (s : State) (f : FldDesc) (i : Nat) : Nat :=
  if f.same D.CON_SPARE_free then s.freePool
  else if f.same D.CON_SPARE_headroom then s.headroom
  else if f.same D.CON_HEALTH_spare then 100 * s.headroom / 31981568
  else if f.same D.CON_TREC0_word0 then (s.tile (s.rd D.CON_TSEL_tile)).word 0
  else if f.same D.CON_TREC1_word1 then (s.tile (s.rd D.CON_TSEL_tile)).word 1
  else if f.off = D.CON_LOST_line.off then
    match s.med.lost[s.rd D.CON_LOSTSEL_page * 4096 + i]? with
    | none => 0
    | some e =>
      if f.lo = D.CON_LOST_valid.lo then 1
      else if f.lo = D.CON_LOST_tile.lo then b2n e.wide
      else if e.wide then e.n * 256 else e.n
  else s.rd f i

/-- The vitrine lines of a slice that pass a test. -/
def State.sliceCount (s : State) (sl : Nat) (p : VLine → Bool) : Nat :=
  (s.coh.vit.filter (fun e => decide (e.1 / 49152 = sl) && p e.2)).length

/-- VIT fields that show other state. -/
def State.viewVit (s : State) (f : FldDesc) (i : Nat) : Nat :=
  if f.same D.VIT_SERR_poisoned then s.sliceCount i VLine.poison
  else if f.same D.VIT_SOCC_valid then s.sliceCount i (fun _ => true)
  else if f.same D.VIT_SOCC_dirty then s.sliceCount i VLine.dirty
  else if f.same D.VIT_SOCC_loan then s.sliceCount i (fun v => decide (v.lent ≠ .local))
  else if f.same D.VIT_STAT_disabled then min 255 ((List.range 16).map (fun sl => popBelow (s.waysOff sl) 16)).sum
  else if f.same D.VIT_STAT_loanways then ((List.range 16).map (fun sl => (s.loanWaysOf sl).length)).foldl min 8
  else s.rd f i

/-- CLO_STAT and CLO_GRANTS.away (Table 7.9). -/
def State.viewClo (s : State) (f : FldDesc) (i : Nat) : Nat :=
  if f.same D.CLO_STAT_filtpct then
    (List.range 16).foldl (fun a sl => max a (pct (s.coh.filter.filter (fun gl => decide (sliceOf gl = sl))).length 8192)) 0
  else if f.same D.CLO_STAT_dirpct then (List.range 4).foldl (fun a q => max a (pct (s.dirCount q) 262144)) 0
  else if f.same D.CLO_STAT_grantpct then pct s.coh.grants.length 4194304
  else s.rd f i

/-- FAB_ROUTE of the selected seat (R354). -/
def State.viewFab (s : State) (f : FldDesc) (i : Nat) : Nat :=
  if f.off ≠ D.FAB_ROUTE_reach.off then s.rd f i
  else
    let uid := s.rd D.FAB_MEMUID_uid (s.rd D.FAB_ROUTESEL_seat)
    let d := if uid = 0 then none else (if uid = myUid then some 0 else (s.distanceTo uid).map Prod.fst)
    let rs := if uid = 0 ∨ uid = myUid then [] else s.routesTo uid
    let port (k : Nat) : Nat := (rs[k]?.getD none).getD 0
    if f.lo = D.FAB_ROUTE_reach.lo then b2n d.isSome
    else if f.lo = D.FAB_ROUTE_hops.lo then min 15 (d.getD 0)
    else if f.lo = D.FAB_ROUTE_valid.lo then bitsWhere 3 (fun k => (rs[k]?.getD none).isSome)
    else if f.lo = D.FAB_ROUTE_port2.lo then port 2
    else if f.lo = D.FAB_ROUTE_port1.lo then port 1
    else port 0

/-- Contexts that pass a test. -/
def State.ctxCount (s : State) (p : Ctx → Bool) : Nat := (s.cur.ctxs.filter (fun e => p e.2)).length

/-- CUR fields that show other state (Table 9.13). -/
def State.viewCur (s : State) (f : FldDesc) (i : Nat) : Nat :=
  if f.same D.CUR_STAT_programs then s.cur.progs.length
  else if f.same D.CUR_STAT_cqwait then min 127 (s.ctxCount (fun x => decide (x.hold = .cq)))
  else if f.same D.CUR_STAT_running then s.ctxCount (fun x => decide (x.st ≠ .idle))
  else if f.same D.CUR_HALL_free then ((List.range 4096).filter (fun p => !s.hallUsed p)).length
  else s.rd f i

/-- ATQ_STAT fields that show the queue (Table 10.13). -/
def State.viewAtq (s : State) (f : FldDesc) (i : Nat) : Nat :=
  if f.off ≠ D.ATQ_STAT_count.off then s.rd f i
  else
    let q := s.queue i
    if f.lo = D.ATQ_STAT_count.lo then q.vis.length
    else if f.lo = D.ATQ_STAT_held.lo then q.held.length
    else if f.lo = D.ATQ_STAT_packet.lo then b2n q.packet
    else if f.lo = D.ATQ_STAT_full.lo then b2n (s.qOn i && decide (q.vis.length + q.held.length = s.qCap i))
    else s.rd f i

/-- HST fields that show other state (Table 10.12). -/
def State.viewHst (s : State) (src : Nat) (f : FldDesc) (i : Nat) : Nat :=
  if f.same D.HST_STAT_memactive then b2n s.isOpen
  else if f.same D.HST_STAT_hpmode then s.aon.hpMode
  else if f.same D.HST_EAB_used then (s.port src).eab.length
  else s.rdP f src i

/-- What a field reads as, for port or reader `src` (R7). DEDUCED, log 115. -/
def State.view (s : State) (src : Nat) (f : FldDesc) (i : Nat) : Nat :=
  if f.acc = .wo then 0
  else if hstBase ≤ f.off then s.viewHst src f i
  else if 0x100000 ≤ f.off then s.viewAtq f i
  else match f.off / 0x10000 with
    | 0 => s.viewGbl f i
    | 1 => if f.same D.PWR_PGDIRTY_bytes then s.dirty else s.rd f i
    | 4 => s.viewRec src f i
    | 5 => if f.same D.TAL_STAT_anyovf then b2n (decide (s.tcnt.ovf ≠ 0))
      else if f.same D.TAL_CNT_count then SMap.get 0 s.tcnt.count i
      else if f.same D.TAL_CNT_ovf then b2n (s.tcnt.ovf.getLsbD i)
      else s.rd f i
    | 8 => s.viewCip f i
    | 9 => s.viewStg f i
    | 10 => s.viewMed f i
    | 11 => s.viewCon f i
    | 12 => s.viewVit f i
    | 13 => s.viewClo f i
    | 14 => s.viewFab f i
    | 15 => s.viewCur f i
    | _ => s.rd f i

/-- The whole of a register; reserved bits read zero (R5). -/
def State.regWord (s : State) (src : Nat) (r : RegRow) (i : Nat) : Nat :=
  r.fields.foldl (fun a f => a + s.view src f i % f.cap * 2 ^ f.lo) 0

/-! Windows: the breach list (Table 3.12), the record window (R434), the sample records (Table 19.3) and the region table
(Table 2.5). Their words read as 64-bit registers. -/

/-- The word that a window shows at an aligned offset, for reader `src`; none outside the windows. DEDUCED, log 14. -/
def State.windowWord (s : State) (src off : Nat) : Option Nat :=
  if 0x11000 ≤ off ∧ off < 0x15000 then
    let o := off - 0x11000
    some (pageWord (breachPage s.breachShown (o / 256)) (o % 256 / 8))
  else if 0x48000 ≤ off ∧ off < 0x50000 then
    let o := off - 0x48000
    some (match SMap.find (s.reader src).entries (o / 32) with
      | some r => r.word (o % 32 / 8)
      | none => 0)
  else if 0x58000 ≤ off ∧ off < 0x60000 then
    let o := off - 0x58000
    some (((SMap.get [] s.tal.ring (o / 32))[o % 32 / 8]?).getD 0)
  else if 0xF8000 ≤ off ∧ off < 0x100000 then
    let o := off - 0xF8000
    let n := 1024 * s.rd D.CUR_RGNSEL_page + o / 32
    some ((s.region n).word n (o % 32 / 8))
  else none

/-- The aligned word and the bits an access shows; none for a bad access or a reserved offset. -/
def State.readHit (s : State) (src off size : Nat) : Option (Nat × Nat × Nat) :=
  match regHit off size with
  | .bad => none
  | .reg r i lo n => some (s.regWord src r i, lo, n)
  | .hole => (s.windowWord src (off / 8 * 8)).map (fun w => (w, off % 8 * 8, 8 * size))

/-- A read of `size` bytes at a window offset by a host port: its value and the state with its latch (R3, R4, R6, R490). -/
def State.regRead (s : State) (p off size : Nat) : Nat × State :=
  if regHit off size = .bad then (0, s.badAccess p off size)
  else if s.blockUp off = false then (0, s)
  else match s.readHit p off size with
    | none => (0, s)
    | some (w, lo, n) =>
      let x := s.port p
      if n = 64 then (w, s)
      else if lo = 0 then
        match regHit off size with
        | .reg r _ _ _ => if r.width = 32 then (w % 2 ^ 32, s)
          else (w % 2 ^ 32, s.setPort p { x with latch := some (off, w / 2 ^ 32) })
        | _ => (w % 2 ^ 32, s.setPort p { x with latch := some (off, w / 2 ^ 32) })
      else
        match x.latch with
        | some (o, h) => if o + 4 = off then (h, s.setPort p { x with latch := none }) else (w / 2 ^ 32, s)
        | none => (w / 2 ^ 32, s)

/-- READ_LOW_HALF (R4), and every other read of BAR0 or of the HST block in BAR2. -/
def execReadLowHalf (port : Fin 4) (bar2 : Bool) (off : BitVec 25) (size : BitVec 8) (s : State) : Result :=
  if s.regUp port = false ∨ bar2Other bar2 off.toNat then .next s
  else
    let r := (s.tlpIn port).regRead port (windowOff bar2 off.toNat) size.toNat
    .next (r.2.emit (.regData port r.1))

/-- ADMRD (R284). DEDUCED, log 19. -/
def execAdmrd (c : Fin 256) (d a : BitVec 5) (s : State) : Result :=
  .next (s.floor c .steward 0x3C (fun x =>
    let off := (x.reg a).toNat
    let r := if hstBase ≤ off then none
      else match regFind off with
        | some (r, i) => if s.blockUp off then some (s.regWord 4 r i) else some 0
        | none => if off % 8 = 0 then s.windowWord 4 off else none
    match r with
    | some v => s.setAndGo c x d (BitVec.ofNat 64 v) 0x3C
    | none => (s.badAccess 4 off 8).setAndGo c x d 0 0x3C))

end Sys2Proof.Machine
end

