-- ==== Sys2Proof/Machine/Mailbox.lean ====
section
/-! DEFINITION. The mailbox commands (R311 to R314, R490, Tables 10.5 to 10.7). A command returns a code and words: numbers for
the named fields in the order of the rule, and one word a byte where the result is a string of bytes. -/

namespace Sys2Proof.Machine

/-- Return codes (R312 names them; the numbers are CXL 2.0's). PRESUMED, log 42. -/
def mbOk : Nat := 0
def mbInvalid : Nat := 2
def mbUnsupported : Nat := 3
def mbPoisonLimit : Nat := 0x10

/-- Runs a command at a port whose mailbox is there; in ROM_RECOVERY only those of R490 are served. DEDUCED, log 45. -/
def State.mailbox (s : State) (port : Nat) (inRom : Bool) (run : State → State) : State :=
  if s.mboxUp port = false then s
  else if s.phase = stRomRecovery ∧ inRom = false then s.reply port mbUnsupported
  else run s

/-- MAILBOX_UNSUPPORTED (R312): an opcode that is not in Table 10.5. -/
def execMailboxUnsupported (port : Fin 4) (_opcode : BitVec 16) (s : State) : Result :=
  .next (s.mailbox port true (fun s => s.reply port mbUnsupported))

/-! Event records (R314, R328). -/

/-- Number of a CXL event record type. -/
def CxlType.code : CxlType → Nat
  | .media => 0
  | .dram => 1
  | .memModule => 2
  | .vendor => 3

/-- A record as words: handle, type, DPA, and the four words of the registrar record. -/
def CxlRec.words (r : CxlRec) : List Nat :=
  [r.handle, r.type.code, r.dpa] ++ (List.range 4).map r.rcd.word

/-- An event log of a port. -/
def Port.log (x : Port) (k : Nat) : CxlLog := SMap.get CxlLog.init x.logs k

/-- Replaces an event log of a port. -/
def Port.setLog (x : Port) (k : Nat) (l : CxlLog) : Port := { x with logs := SMap.put CxlLog.init x.logs k l }

/-- Event records that fit a payload of 4,096 bytes. PRESUMED, log 43. -/
def recsPerReply : Nat := 31

/-- GET_EVENT_RECORDS (R314): the overflow indication, whether more records follow, and the oldest records. -/
def execGetEventRecords (port : Fin 4) (log : BitVec 8) (s : State) : Result :=
  .next (s.mailbox port false (fun s =>
    if 3 < log.toNat then s.reply port mbInvalid
    else
      let l := (s.port port).log log.toNat
      s.reply port mbOk ([b2n l.overflow, b2n (decide (recsPerReply < l.recs.length))] ++
        (l.recs.take recsPerReply).flatMap CxlRec.words)))

/-- CLEAR_EVENT_RECORDS (R314): the whole log, or the named records, which must be the oldest, in order.
PRESUMED, log 44. -/
def execClearEventRecords (port : Fin 4) (log : BitVec 8) (all : Bool) (handles : List (BitVec 16)) (s : State) : Result :=
  .next (s.mailbox port false (fun s =>
    let x := s.port port
    let l := x.log log.toNat
    let hs := handles.map BitVec.toNat
    if 3 < log.toNat then s.reply port mbInvalid
    else if all then (s.setPort port (x.setLog log.toNat { l with recs := [], overflow := false })).reply port mbOk
    else if hs ≠ (l.recs.take hs.length).map CxlRec.handle then s.reply port mbInvalid
    else (s.setPort port (x.setLog log.toNat
      { l with recs := l.recs.drop hs.length, overflow := l.overflow && decide (hs = []) })).reply port mbOk))

/-- The interrupt setting of a log: mode 1 and vector 1 to 4, or 0. -/
def logPolicy (x : Port) (k : Nat) : Nat := if (x.log k).vector then 1 + 16 * (k + 1) else 0

/-- GET_EVENT_INTERRUPT_POLICY (R312). -/
def execGetEventInterruptPolicy (port : Fin 4) (s : State) : Result :=
  .next (s.mailbox port false (fun s => s.reply port mbOk ((List.range 4).map (logPolicy (s.port port)))))

/-- SET_EVENT_INTERRUPT_POLICY (R328): for each log its mode, 0 none or 1 MSI-X; no other mode is supported. -/
def execSetEventInterruptPolicy (port : Fin 4) (modes : BitVec 2 × BitVec 2 × BitVec 2 × BitVec 2) (s : State) : Result :=
  .next (s.mailbox port false (fun s =>
    let ms := [modes.1, modes.2.1, modes.2.2.1, modes.2.2.2]
    if ms.any (fun m => decide (1 < m.toNat)) then s.reply port mbInvalid
    else
      let x := (List.range 4).foldl (fun (x : Port) k => x.setLog k { x.log k with vector := decide (ms[k]? = some 1) }) (s.port port)
      (s.setPort port x).reply port mbOk))

/-! Identity, time, logs, firmware. -/

/-- Bytes 24 to 39 of a set's header. -/
def fwRevision (s : State) (set : Nat) : List Nat :=
  (List.range 16).map (fun k => (s.fwHdr set).toNat / 2 ^ (8 * (24 + k)) % 256)

/-- GET_FW_INFO (R511): two slots, the active slot, the pending slot, online activation supported, and the revisions; a set that is
not VALID has none. -/
def execGetFwInfo (port : Fin 4) (s : State) : Result :=
  .next (s.mailbox port true (fun s =>
    let rev (set : Nat) : List Nat := if s.fwValid set then fwRevision s set else List.replicate 16 0
    s.reply port mbOk ([2, s.fwActive + 1, (s.fwPending.map (· + 1)).getD 0, 1] ++ rev 0 ++ rev 1)))

/-- GET_TIMESTAMP (R312). -/
def execGetTimestamp (port : Fin 4) (s : State) : Result :=
  .next (s.mailbox port true (fun s => s.reply port mbOk [s.now]))

/-- The opcodes of Table 10.5. -/
def mbOpcodes : List Nat :=
  [0x0100, 0x0101, 0x0102, 0x0103, 0x0200, 0x0201, 0x0202, 0x0300, 0x0400, 0x0401, 0x4000, 0x4100, 0x4102, 0x4103, 0x4200,
   0x4201, 0x4202, 0x4203, 0x4204, 0x4300, 0x4301, 0x4302, 0xC000, 0xC001, 0xC010, 0xC011]

/-- The Command Effects Log: for each command its opcode and its effect word, which the spec does not state. -/
def effectsLog : List Nat :=
  mbOpcodes.flatMap (fun o =>
    let e := (Config.commandEffect o).toNat
    [o % 256, o / 256, e % 256, e / 256])

/-- GET_SUPPORTED_LOGS (Table 10.5): one log, and its size. -/
def execGetSupportedLogs (port : Fin 4) (s : State) : Result :=
  .next (s.mailbox port false (fun s => s.reply port mbOk [1, effectsLog.length]))

/-- GET_LOG (Table 10.5): `effects` says that the command names the Command Effects Log. -/
def execGetLog (port : Fin 4) (effects : Bool) (off len : BitVec 32) (s : State) : Result :=
  .next (s.mailbox port false (fun s =>
    if effects = false ∨ effectsLog.length < off.toNat + len.toNat then s.reply port mbInvalid
    else s.reply port mbOk ((effectsLog.drop off.toNat).take len.toNat)))

/-- IDENTIFY_MEMORY_DEVICE (Table 10.6). -/
def execIdentifyMemoryDevice (port : Fin 4) (s : State) : Result :=
  .next (s.mailbox port true (fun s => s.reply port mbOk [28672, 0, 28672, 0, 256, 256, 256, 256, 131072, 1049600, 256]))

/-- GET_PARTITION_INFO (Table 10.5): active volatile and persistent, next volatile and persistent. -/
def execGetPartitionInfo (port : Fin 4) (s : State) : Result :=
  .next (s.mailbox port false (fun s => s.reply port mbOk [0, 28672, 0, 0]))

/-! Label storage area (R311, Table 15.1). -/

/-- The first page of the area, and its size. -/
def lsaPage : Nat := 768
def lsaSize : Nat := 131072

/-- A page of the area as the newest accepted write leaves it; an uncorrectable page reads as zeros. -/
def State.lsaNow (s : State) (k : Nat) : Page :=
  let p := lsaPage + k
  let old : Page := if s.led.bad.contains p then 0 else SMap.get ldgDefault s.led.pages p
  s.led.queue.foldl (fun a w => if w.page = p then w.data.getD a else a) old

/-- Byte `o` of the area. -/
def State.lsaByte (s : State) (o : Nat) : Nat := (s.lsaNow (o / 256)).toNat / 2 ^ (8 * (o % 256)) % 256

/-- GET_LSA (R311). -/
def execGetLsa (port : Fin 4) (off len : BitVec 32) (s : State) : Result :=
  .next (s.mailbox port false (fun s =>
    if 4096 < len.toNat ∨ lsaSize < off.toNat + len.toNat then s.reply port mbInvalid
    else s.reply port mbOk ((List.range len.toNat).map (fun k => s.lsaByte (off.toNat + k)))))

/-- A page of the area with the bytes that lie on it replaced. -/
def lsaMerge (old : Page) (k off : Nat) (data : Bytes) : Page :=
  BitVec.ofNat 2048 ((List.range 256).foldl (fun a j =>
    let o := 256 * k + j
    let b := if off ≤ o ∧ o < off + data.length then (byteAt data (o - off)).toNat else old.toNat / 2 ^ (8 * j) % 256
    a + b * 2 ^ (8 * j)) 0)

/-- SET_LSA (R311): it returns once every page it touched has been written. DEDUCED, log 47. -/
def execSetLsa (port : Fin 4) (off : BitVec 32) (data : Bytes) (s : State) : Result :=
  .next (s.mailbox port false (fun s =>
    let o := off.toNat
    if 4088 < data.length ∨ lsaSize < o + data.length then s.reply port mbInvalid
    else if data = [] then s.reply port mbOk
    else
      let first := o / 256
      let n := (o + data.length - 1) / 256 + 1 - first
      let s1 := (List.range n).foldl (fun (a : State) j =>
        a.pageWrite (lsaPage + first + j) (some (lsaMerge (a.lsaNow (first + j)) (first + j) o data)) (.lsa port)) s
      s1.setPort port { s1.port port with lsaDue := true }))

/-! Health, alerts and shutdown state (R313, Table 10.7). -/

/-- Health status bits: maintenance needed, performance degraded, replacement needed. -/
def State.healthStatus (s : State) : Nat :=
  b2n (decide (s.rd D.CON_STAT_spare = 1)) +
    2 * b2n (s.bit D.GBL_STAT_degraded || decide (s.rd D.CON_REBUILD_state ≠ 0)) +
    4 * b2n (decide (s.rd D.CON_STAT_spare = 2))

/-- Media status: 0 Normal, 1 Not Ready, 2 Write Persistency Lost, 4 Write Persistency Loss in the Event of Power Loss. -/
def State.mediaStatus (s : State) : Nat :=
  if s.phase = stStarting then 1 else if s.wprot then 2 else if s.lowEnergy then 4 else 0

/-- GET_HEALTH_INFO (R313): the fields of Table 10.7 in its order, the three health bits in one word. -/
def execGetHealthInfo (port : Fin 4) (s : State) : Result :=
  .next (s.mailbox port false (fun s =>
    s.reply port mbOk [s.healthStatus, s.mediaStatus, min 100 (s.rd D.CON_HEALTH_wear),
      (maxInt ((List.range 16).map s.sensReading) % 65536).toNat, s.alertsNow.dirty,
      ((List.range 16).map (fun sl => s.rd D.VIT_SERR_corr sl)).sum % 2 ^ 32, s.rd D.CON_ERRCNT_recovered % 2 ^ 32]))

/-- Page 2 is written with new content. -/
def State.alertWrite (s : State) (a : Alerts) : State :=
  s.pageWrite 2 none (.alert a.life a.overC a.underC a.shutdown a.dirty)

/-- GET_ALERT_CONFIGURATION (Table 10.5): life used, and the over- and under-temperature thresholds. -/
def execGetAlertConfiguration (port : Fin 4) (s : State) : Result :=
  .next (s.mailbox port false (fun s => s.reply port mbOk [s.alertsNow.life, s.alertsNow.overC, s.alertsNow.underC]))

/-- SET_ALERT_CONFIGURATION (Table 10.5): the thresholds the command names as valid. DEDUCED, log 46. -/
def execSetAlertConfiguration (port : Fin 4) (life : Option (BitVec 8)) (overC underC : Option (BitVec 16)) (s : State) : Result :=
  .next (s.mailbox port false (fun s =>
    let a := s.alertsNow
    (s.alertWrite { a with life := (life.map BitVec.toNat).getD a.life, overC := (overC.map BitVec.toNat).getD a.overC,
                           underC := (underC.map BitVec.toNat).getD a.underC }).reply port mbOk))

/-- GET_SHUTDOWN_STATE (Table 10.5). -/
def execGetShutdownState (port : Fin 4) (s : State) : Result :=
  .next (s.mailbox port false (fun s => s.reply port mbOk [s.alertsNow.shutdown]))

/-- SET_SHUTDOWN_STATE (Table 10.5): 0 clean or 1 dirty. -/
def execSetShutdownState (port : Fin 4) (v : BitVec 8) (s : State) : Result :=
  .next (s.mailbox port false (fun s =>
    if 1 < v.toNat then s.reply port mbInvalid
    else (s.alertWrite { s.alertsNow with shutdown := v.toNat }).reply port mbOk))

/-! Poison (R172, R301, R310, Table 10.5). -/

/-- The poison list of the device: address of the first line, number of lines, and source, 1 external, 2 internal, 3 injected. -/
def State.poisonList (s : State) : List (Nat × Nat × Nat) :=
  s.med.lost.map (fun e => if e.wide then (e.n * 256, 256, 2) else (e.n, 1, if s.med.injected.contains e.n then 3 else 2)) ++
    s.med.overflowed.map (fun t => (t * 256, 256, 2)) ++
    (s.breachShown.filter (fun b => decide (s.mySeat = some b.seat))).map (fun b => (b.tile * 256, b.count * 256, 2)) ++
    (s.coh.vit.filter (fun e => e.2.poison && s.isLocal e.2.gl)).map (fun e => (llOf e.2.gl, 1, 1))

/-- Poison records that fit a payload. -/
def poisonPerReply : Nat := 254

/-- GET_POISON_LIST (Table 10.5, R172): the records in a range of lines. A command with the range of the last one goes on where that
one ended, while it had more. -/
def execGetPoisonList (port : Fin 4) (dpa lines : Word) (s : State) : Result :=
  .next (s.mailbox port false (fun s =>
    let a := dpa.toNat / 64
    let n := lines.toNat
    if dpa.toNat % 64 ≠ 0 ∨ n = 0 ∨ capLines < a + n then s.reply port mbInvalid
    else
      let x := s.port port
      let l := s.poisonList.filter (fun r => decide (r.1 < a + n ∧ a < r.1 + r.2.1))
      let k := match x.poisonAt with
        | some (a', n', k) => if a' = a ∧ n' = n then k else 0
        | none => 0
      let more := decide (k + poisonPerReply < l.length)
      let s1 := s.setPort port { x with poisonAt := if more then some (a, n, k + poisonPerReply) else none }
      s1.reply port mbOk ([b2n more, b2n (decide (s.med.overflowed ≠ []) && decide (1049600 < l.length))] ++
        ((l.drop k).take poisonPerReply).flatMap (fun r => [r.1 * 64, r.2.1, r.2.2]))))

/-- INJECT_POISON (Table 10.5): the line becomes a LOST entry; at most 256 injected lines are listed at a time. -/
def execInjectPoison (port : Fin 4) (dpa : Word) (s : State) : Result :=
  .next (s.mailbox port false (fun s =>
    let ll := dpa.toNat / 64
    let l := s.med.injected.filter s.isLost
    if dpa.toNat % 64 ≠ 0 ∨ capLines ≤ ll then s.reply port mbInvalid
    else if l.contains ll then s.reply port mbOk
    else if 256 ≤ l.length then s.reply port mbPoisonLimit
    else
      let s1 := s.loseLine ll
      ({ s1 with med := { s1.med with injected := l ++ [ll] } } : State).reply port mbOk))

/-- CLEAR_POISON (Table 10.5): a whole-line write of the bytes supplied; it waits while the line or the budget is not free.
DEDUCED, log 48. -/
def execClearPoison (port : Fin 4) (dpa : Word) (data : Line) (s : State) : Result :=
  .next (s.mailbox port false (fun s =>
    let ll := dpa.toNat / 64
    let gl := s.glOf ll
    if dpa.toNat % 64 ≠ 0 ∨ capLines ≤ ll then s.reply port mbInvalid
    else if s.lineFree gl = false then s
    else match s.writeNow gl data fullMask (.port port 0) with
      | (.hold, _) => s
      | (_, s1) => s1.reply port mbOk))

/-! Svapel commands. -/

/-- SVAPEL_REGISTER_READ (Table 10.5, R3, R4, R301). -/
def execSvapelRegisterRead (port : Fin 4) (off : BitVec 25) (size : BitVec 8) (s : State) : Result :=
  .next (s.mailbox port true (fun s =>
    let r := s.regRead port (windowOff false off.toNat) size.toNat
    r.2.reply port mbOk [r.1]))

/-- SVAPEL_REGISTER_WRITE (Table 10.5, R11 to R13). -/
def execSvapelRegisterWrite (port : Fin 4) (off : BitVec 25) (size : BitVec 8) (value : Word) (libOk : Bool) (s : State) :
    Result :=
  .next (s.mailbox port true (fun s =>
    (s.regWrite port (windowOff false off.toNat) size.toNat value.toNat libOk).reply port mbOk))

/-- The words of breach list entry `k` (Table 3.12). -/
def State.breachWords (s : State) (k : Nat) : List Nat :=
  let p := breachPage s.breachShown (k / 16)
  [pageWord p (k % 16 * 2), pageWord p (k % 16 * 2 + 1)]

/-- SVAPEL_GET_BREACH_LIST (Table 10.5): PWR_PGBRK, and up to 255 entries from an index. -/
def execSvapelGetBreachList (port : Fin 4) (index : BitVec 16) (s : State) : Result :=
  .next (s.mailbox port false (fun s =>
    let n := min 255 (s.breachShown.length - index.toNat)
    s.reply port mbOk ((s.rd D.PWR_PGBRK_coarse * 2 ^ 12 + s.rd D.PWR_PGBRK_count) ::
      (List.range n).flatMap (fun k => s.breachWords (index.toNat + k)))))

/-- SVAPEL_ACKNOWLEDGE_BREACH (R95): as a write of 0xB7 to PWR_PGBACK.key. -/
def execSvapelAcknowledgeBreach (port : Fin 4) (s : State) : Result :=
  .next (s.mailbox port false (fun s => (s.regWrite port 0x1084C 4 0xB7).reply port mbOk))

end Sys2Proof.Machine
end

