-- ==== Sys2Proof/Machine/SealRecord.lean ====
section
/-! DEFINITION. The record a seal leaves in its segment (R277, R280), written through to media at a start (R480). -/

namespace Sys2Proof.Machine

/-- The lines of a seal record (Table 9.7). -/
def sealLines (a : Acc) (x : Seal) : List Line :=
  [lineOfWords (sealWords a x),
    lineOfWords ((List.range 4).map (fun k => x.digest.toNat / 2 ^ (64 * k) % 2 ^ 64) ++
      (List.range 4).map (fun k => x.link.toNat / 2 ^ (64 * k) % 2 ^ 64))]

/-- A line written through to media in steps 7 to 9 of a start, uncharged (R480): none where the leaf or its stripe cannot
take it then. DEDUCED, log 82. -/
def State.writeThrough (s : State) (gl : Nat) (d : Line) : Option State :=
  let t := tileOf (llOf gl)
  let n := leafOf (llOf gl)
  let s0 := s.wholeWrite gl false
  let pick := if (s0.catEnt t).st = .unmapped then
      ((List.range stripeCount).find? (fun k => (s0.allocTile (s0.tileLight t) k).isSome)).getD 0
    else 0
  match s0.leafPlain t n, s0.placeFor t n pick, s0.baseKey t with
  | some b, some (p, _, s1), some k =>
    let st := s1.stripe (stripeOf p)
    if s1.updating (stripeOf p) n ∨ s1.unavail (partKey p) ∨ st.exposed.isSome ∨ s1.unavail (memberPart p st.ppos) then none
    else
      let old : Line := (b >>> (512 * lineIn (llOf gl))).setWidth 512
      let plain := b ^^^ (((old ^^^ d).setWidth 2048) <<< (512 * lineIn (llOf gl)))
      some (s1.writeWithParity p n (buildImage k st.light t n s1.now plain))
  | _, _, _ => none

/-- A seal record's line: written through at a start (R480), else a write of the device at its home. -/
def State.sealPut (s : State) (gl : Nat) (d : Line) : Option State :=
  let now := match s.writeNow gl d fullMask .dev with
    | (.accept, t) => some t
    | _ => none
  if s.phase = stStarting then (s.writeThrough gl d).orElse (fun _ => now) else now

/-- A committed seal's record is written and its entry takes the segment (step 7): none where a line must wait. -/
def State.sealFinish (s : State) (x : Seal) : Option State :=
  let a := s.acc x.acc
  let gl := s.glOf (a.base * 256 + a.limit / 64 + 2 * a.segments)
  let put (t : Option State) (e : Line × Nat) : Option State :=
    match t with
    | none => none
    | some t => if t.lineFree (gl + e.2) = false then none
      else t.sealPut (gl + e.2) e.1
  ((sealLines a x).zipIdx.foldl put (some s)).bind (fun t =>
    let t1 := t.setAcc x.acc { t.acc x.acc with
      st := .open, sealed := a.pending, pending := 0, segments := a.segments + 1, link := x.link }
    let t2 : State := { t1 with cur := { t1.cur with seals := t1.cur.seals.filter (fun y => y.acc ≠ x.acc) } }
    match x.ctx with
    | none => some t2
    | some c => t2.jobEnd c x.desc jobOk a.segments)

/-- SEAL_RECORD_WRITTEN (R277, R280). -/
def execSealRecordWritten (acc : Fin 65536) (s : State) : Result :=
  match s.sealOf acc with
  | none => .next s
  | some x => .next (if x.step = 7 ∧ s.isFlushing = false then (s.sealFinish x).getD s else s)

end Sys2Proof.Machine
end

