-- ==== Sys2Proof/Machine/Dispatch.lean ====
section
/-! DEFINITION. One arm per command: a direct call of its meaning, or its rejection by name. -/

namespace Sys2Proof.Machine

def exec (i : Instr) (s : State) : Host.Outcome State Fault Refusal :=
  match i with
  | .registerWrite port bar2 off size value libOk => Sys2Proof.Machine.execRegisterWrite port bar2 off size value libOk s
  | .readLowHalf port bar2 off size => Sys2Proof.Machine.execReadLowHalf port bar2 off size s
  | .deviceReset port => Sys2Proof.Machine.execDeviceReset port s
  | .clampClear port value => Sys2Proof.Machine.execClampClear port value s
  | .wingReset port wings => Sys2Proof.Machine.execWingReset port wings s
  | .wingResetRelease wing => Sys2Proof.Machine.execWingResetRelease wing s
  | .ringRetry ga => Sys2Proof.Machine.execRingRetry ga s
  | .ringRequestTimeout m load ga => Sys2Proof.Machine.execRingRequestTimeout m load ga s
  | .cxlMemRead port tag hpa => Sys2Proof.Machine.execCxlMemRead port tag hpa s
  | .cxlMemWrite port tag hpa data mask poison fl => Sys2Proof.Machine.execCxlMemWrite port tag hpa data mask poison fl s
  | .earlyAckDeliver port fl => Sys2Proof.Machine.execEarlyAckDeliver port fl s
  | .gpfPhase1 port => Sys2Proof.Machine.execGpfPhase1 port s
  | .gpfPhase2 port => Sys2Proof.Machine.execGpfPhase2 port s
  | .hdmCommit port n hpa size ways gran lock commit => Sys2Proof.Machine.execHdmCommit port n hpa size ways gran lock commit s
  | .perstDeassert port => Sys2Proof.Machine.execPerstDeassert port s
  | .portConfigLoaded port => Sys2Proof.Machine.execPortConfigLoaded port s
  | .hostLinkTrained port speed width cxl => Sys2Proof.Machine.execHostLinkTrained port speed width cxl s
  | .perstAssert port => Sys2Proof.Machine.execPerstAssert port s
  | .hotReset port => Sys2Proof.Machine.execHotReset port s
  | .portLinkDown port => Sys2Proof.Machine.execPortLinkDown port s
  | .getEventRecords port log => Sys2Proof.Machine.execGetEventRecords port log s
  | .clearEventRecords port log all handles => Sys2Proof.Machine.execClearEventRecords port log all handles s
  | .getEventInterruptPolicy port => Sys2Proof.Machine.execGetEventInterruptPolicy port s
  | .setEventInterruptPolicy port modes => Sys2Proof.Machine.execSetEventInterruptPolicy port modes s
  | .getFwInfo port => Sys2Proof.Machine.execGetFwInfo port s
  | .transferFwInitiate port data full => Sys2Proof.Machine.execTransferFwInitiate port data full s
  | .transferFwContinue port off data => Sys2Proof.Machine.execTransferFwContinue port off data s
  | .transferFwEnd port off data slot => Sys2Proof.Machine.execTransferFwEnd port off data slot s
  | .transferFwAbort port => Sys2Proof.Machine.execTransferFwAbort port s
  | .fwTransferCheckDone => Sys2Proof.Machine.execFwTransferCheckDone s
  | .transferIdleTimeout => Sys2Proof.Machine.execTransferIdleTimeout s
  | .activateFwOnline port slot libOk => Sys2Proof.Machine.execActivateFwOnline port slot libOk s
  | .activateFwOffline port slot => Sys2Proof.Machine.execActivateFwOffline port slot s
  | .getTimestamp port => Sys2Proof.Machine.execGetTimestamp port s
  | .getSupportedLogs port => Sys2Proof.Machine.execGetSupportedLogs port s
  | .getLog port effects off len => Sys2Proof.Machine.execGetLog port effects off len s
  | .identifyMemoryDevice port => Sys2Proof.Machine.execIdentifyMemoryDevice port s
  | .getPartitionInfo port => Sys2Proof.Machine.execGetPartitionInfo port s
  | .getLsa port off len => Sys2Proof.Machine.execGetLsa port off len s
  | .setLsa port off data => Sys2Proof.Machine.execSetLsa port off data s
  | .getHealthInfo port => Sys2Proof.Machine.execGetHealthInfo port s
  | .getAlertConfiguration port => Sys2Proof.Machine.execGetAlertConfiguration port s
  | .setAlertConfiguration port life overC underC => Sys2Proof.Machine.execSetAlertConfiguration port life overC underC s
  | .getShutdownState port => Sys2Proof.Machine.execGetShutdownState port s
  | .setShutdownState port v => Sys2Proof.Machine.execSetShutdownState port v s
  | .getPoisonList port dpa lines => Sys2Proof.Machine.execGetPoisonList port dpa lines s
  | .injectPoison port dpa => Sys2Proof.Machine.execInjectPoison port dpa s
  | .clearPoison port dpa data => Sys2Proof.Machine.execClearPoison port dpa data s
  | .svapelRegisterRead port off size => Sys2Proof.Machine.execSvapelRegisterRead port off size s
  | .svapelRegisterWrite port off size value libOk => Sys2Proof.Machine.execSvapelRegisterWrite port off size value libOk s
  | .svapelGetBreachList port index => Sys2Proof.Machine.execSvapelGetBreachList port index s
  | .svapelAcknowledgeBreach port => Sys2Proof.Machine.execSvapelAcknowledgeBreach port s
  | .mailboxUnsupported port opcode => Sys2Proof.Machine.execMailboxUnsupported port opcode s
  | .push port queue off size data => Sys2Proof.Machine.execPush port queue off size data s
  | .pushmore port queue off size data => Sys2Proof.Machine.execPushmore port queue off size data s
  | .pop port queue off size corr unc => Sys2Proof.Machine.execPop port queue off size corr unc s
  | .atqEnable port queue cfg => Sys2Proof.Machine.execAtqEnable port queue cfg s
  | .atqDisable port queue cfg => Sys2Proof.Machine.execAtqDisable port queue cfg s
  | .atqReset port queue => Sys2Proof.Machine.execAtqReset port queue s
  | .atqClose port queue => Sys2Proof.Machine.execAtqClose port queue s
  | .atqArm port queue => Sys2Proof.Machine.execAtqArm port queue s
  | .msixUnmask port vector => Sys2Proof.Machine.execMsixUnmask port vector s
  | .callDispatch corr unc => Sys2Proof.Machine.execCallDispatch corr unc s
  | .completionQueueRoom c => Sys2Proof.Machine.execCompletionQueueRoom c s
  | .programLoad port => Sys2Proof.Machine.execProgramLoad port s
  | .programLoadDone ext => Sys2Proof.Machine.execProgramLoadDone ext s
  | .programUnload port id => Sys2Proof.Machine.execProgramUnload port id s
  | .callAbort port ctx => Sys2Proof.Machine.execCallAbort port ctx s
  | .illegalInstruction c w => Sys2Proof.Machine.execIllegalInstruction c w s
  | .add c d a b => Sys2Proof.Machine.execAdd c d a b s
  | .sub c d a b => Sys2Proof.Machine.execSub c d a b s
  | .and c d a b => Sys2Proof.Machine.execAnd c d a b s
  | .or c d a b => Sys2Proof.Machine.execOr c d a b s
  | .xor c d a b => Sys2Proof.Machine.execXor c d a b s
  | .sll c d a b => Sys2Proof.Machine.execSll c d a b s
  | .srl c d a b => Sys2Proof.Machine.execSrl c d a b s
  | .sra c d a b => Sys2Proof.Machine.execSra c d a b s
  | .slt c d a b => Sys2Proof.Machine.execSlt c d a b s
  | .sltu c d a b => Sys2Proof.Machine.execSltu c d a b s
  | .min c d a b => Sys2Proof.Machine.execMin c d a b s
  | .max c d a b => Sys2Proof.Machine.execMax c d a b s
  | .minu c d a b => Sys2Proof.Machine.execMinu c d a b s
  | .maxu c d a b => Sys2Proof.Machine.execMaxu c d a b s
  | .mul c d a b => Sys2Proof.Machine.execMul c d a b s
  | .mulh c d a b => Sys2Proof.Machine.execMulh c d a b s
  | .mulhu c d a b => Sys2Proof.Machine.execMulhu c d a b s
  | .div c d a b => Sys2Proof.Machine.execDiv c d a b s
  | .divu c d a b => Sys2Proof.Machine.execDivu c d a b s
  | .rem c d a b => Sys2Proof.Machine.execRem c d a b s
  | .remu c d a b => Sys2Proof.Machine.execRemu c d a b s
  | .clz c d a => Sys2Proof.Machine.execClz c d a s
  | .ctz c d a => Sys2Proof.Machine.execCtz c d a s
  | .popc c d a => Sys2Proof.Machine.execPopc c d a s
  | .sextb c d a => Sys2Proof.Machine.execSextb c d a s
  | .sexth c d a => Sys2Proof.Machine.execSexth c d a s
  | .sextw c d a => Sys2Proof.Machine.execSextw c d a s
  | .zextw c d a => Sys2Proof.Machine.execZextw c d a s
  | .bswap c d a => Sys2Proof.Machine.execBswap c d a s
  | .addi c d a imm => Sys2Proof.Machine.execAddi c d a imm s
  | .andi c d a imm => Sys2Proof.Machine.execAndi c d a imm s
  | .ori c d a imm => Sys2Proof.Machine.execOri c d a imm s
  | .xori c d a imm => Sys2Proof.Machine.execXori c d a imm s
  | .slti c d a imm => Sys2Proof.Machine.execSlti c d a imm s
  | .sltiu c d a imm => Sys2Proof.Machine.execSltiu c d a imm s
  | .lui c d imm => Sys2Proof.Machine.execLui c d imm s
  | .slli c d a sh => Sys2Proof.Machine.execSlli c d a sh s
  | .srli c d a sh => Sys2Proof.Machine.execSrli c d a sh s
  | .srai c d a sh => Sys2Proof.Machine.execSrai c d a sh s
  | .shori c d a imm => Sys2Proof.Machine.execShori c d a imm s
  | .lb c d a imm fl => Sys2Proof.Machine.execLb c d a imm fl s
  | .lh c d a imm fl => Sys2Proof.Machine.execLh c d a imm fl s
  | .lw c d a imm fl => Sys2Proof.Machine.execLw c d a imm fl s
  | .ld c d a imm fl => Sys2Proof.Machine.execLd c d a imm fl s
  | .lbu c d a imm fl => Sys2Proof.Machine.execLbu c d a imm fl s
  | .lhu c d a imm fl => Sys2Proof.Machine.execLhu c d a imm fl s
  | .lwu c d a imm fl => Sys2Proof.Machine.execLwu c d a imm fl s
  | .sb c d a imm => Sys2Proof.Machine.execSb c d a imm s
  | .sh c d a imm => Sys2Proof.Machine.execSh c d a imm s
  | .sw c d a imm => Sys2Proof.Machine.execSw c d a imm s
  | .sd c d a imm => Sys2Proof.Machine.execSd c d a imm s
  | .aswap c wide d a b fl => Sys2Proof.Machine.execAswap c wide d a b fl s
  | .aadd c wide d a b fl => Sys2Proof.Machine.execAadd c wide d a b fl s
  | .aand c wide d a b fl => Sys2Proof.Machine.execAand c wide d a b fl s
  | .aor c wide d a b fl => Sys2Proof.Machine.execAor c wide d a b fl s
  | .axor c wide d a b fl => Sys2Proof.Machine.execAxor c wide d a b fl s
  | .amin c wide d a b fl => Sys2Proof.Machine.execAmin c wide d a b fl s
  | .amax c wide d a b fl => Sys2Proof.Machine.execAmax c wide d a b fl s
  | .aminu c wide d a b fl => Sys2Proof.Machine.execAminu c wide d a b fl s
  | .amaxu c wide d a b fl => Sys2Proof.Machine.execAmaxu c wide d a b fl s
  | .acas c wide d a b fl => Sys2Proof.Machine.execAcas c wide d a b fl s
  | .beq c d a imm => Sys2Proof.Machine.execBeq c d a imm s
  | .bne c d a imm => Sys2Proof.Machine.execBne c d a imm s
  | .blt c d a imm => Sys2Proof.Machine.execBlt c d a imm s
  | .bge c d a imm => Sys2Proof.Machine.execBge c d a imm s
  | .bltu c d a imm => Sys2Proof.Machine.execBltu c d a imm s
  | .bgeu c d a imm => Sys2Proof.Machine.execBgeu c d a imm s
  | .jal c d imm => Sys2Proof.Machine.execJal c d imm s
  | .jalr c d a imm => Sys2Proof.Machine.execJalr c d a imm s
  | .fence c => Sys2Proof.Machine.execFence c s
  | .fenceG c d => Sys2Proof.Machine.execFenceG c d s
  | .fenceI c => Sys2Proof.Machine.execFenceI c s
  | .cwrd c d cw => Sys2Proof.Machine.execCwrd c d cw s
  | .cwwr c d cw => Sys2Proof.Machine.execCwwr c d cw s
  | .trap c imm => Sys2Proof.Machine.execTrap c imm s
  | .pause c imm => Sys2Proof.Machine.execPause c imm s
  | .pauseEnd c => Sys2Proof.Machine.execPauseEnd c s
  | .psync c d => Sys2Proof.Machine.execPsync c d s
  | .zline c a => Sys2Proof.Machine.execZline c a s
  | .jsubC c d a ext => Sys2Proof.Machine.execJsubC c d a ext s
  | .jsubM c d a ext => Sys2Proof.Machine.execJsubM c d a ext s
  | .jsubS c d a ext => Sys2Proof.Machine.execJsubS c d a ext s
  | .jwait c d a ext => Sys2Proof.Machine.execJwait c d a ext s
  | .jpoll c d a ext => Sys2Proof.Machine.execJpoll c d a ext s
  | .qget c d a b corr unc => Sys2Proof.Machine.execQget c d a b corr unc s
  | .qgetw c d a b corr unc => Sys2Proof.Machine.execQgetw c d a b corr unc s
  | .qput c d a b ext => Sys2Proof.Machine.execQput c d a b ext s
  | .accreate c d a ext => Sys2Proof.Machine.execAccreate c d a ext s
  | .acinfo c d a b => Sys2Proof.Machine.execAcinfo c d a b s
  | .acdelete c d a => Sys2Proof.Machine.execAcdelete c d a s
  | .rgncreate c d a ext => Sys2Proof.Machine.execRgncreate c d a ext s
  | .rgnchange c d a ext => Sys2Proof.Machine.execRgnchange c d a ext s
  | .rgndelete c d a => Sys2Proof.Machine.execRgndelete c d a s
  | .keyset c d a b ext => Sys2Proof.Machine.execKeyset c d a b ext s
  | .keyclr c d a => Sys2Proof.Machine.execKeyclr c d a s
  | .admrd c d a => Sys2Proof.Machine.execAdmrd c d a s
  | .admwr c a b libOk => Sys2Proof.Machine.execAdmwr c a b libOk s
  | .done c => Sys2Proof.Machine.execDone c s
  | .sret c => Sys2Proof.Machine.execSret c s
  | .scall c imm => Sys2Proof.Machine.execScall c imm s
  | .loadResponse c fl => Sys2Proof.Machine.execLoadResponse c fl s
  | .storeBufferLeave c loan fl => Sys2Proof.Machine.execStoreBufferLeave c loan fl s
  | .storeRefusal c => Sys2Proof.Machine.execStoreRefusal c s
  | .deadlineReached c => Sys2Proof.Machine.execDeadlineReached c s
  | .faultDelivery c giveUp => Sys2Proof.Machine.execFaultDelivery c giveUp s
  | .jobStart c engine => Sys2Proof.Machine.execJobStart c engine s
  | .cipherJobComplete c desc ext wrote lost dup => Sys2Proof.Machine.execCipherJobComplete c desc ext wrote lost dup s
  | .moverJobComplete c desc ext wrote lost => Sys2Proof.Machine.execMoverJobComplete c desc ext wrote lost s
  | .sealPathSwitched acc => Sys2Proof.Machine.execSealPathSwitched acc s
  | .sealStripesOnMedia acc => Sys2Proof.Machine.execSealStripesOnMedia acc s
  | .sealHashDone acc dup => Sys2Proof.Machine.execSealHashDone acc dup s
  | .sealCommit acc => Sys2Proof.Machine.execSealCommit acc s
  | .sealRecordWritten acc => Sys2Proof.Machine.execSealRecordWritten acc s
  | .regionSliceSwitch region slice => Sys2Proof.Machine.execRegionSliceSwitch region slice s
  | .regionOpStatus region => Sys2Proof.Machine.execRegionOpStatus region s
  | .regionDeleteFree region => Sys2Proof.Machine.execRegionDeleteFree region s
  | .read c ga fetch fl => Sys2Proof.Machine.execRead c ga fetch fl s
  | .own c fl => Sys2Proof.Machine.execOwn c fl s
  | .peek port tag ga fl => Sys2Proof.Machine.execPeek port tag ga fl s
  | .write m ga data mask poison fl => Sys2Proof.Machine.execWrite m ga data mask poison fl s
  | .atomic m ga op wide off a b fl => Sys2Proof.Machine.execAtomic m ga op wide off a b fl s
  | .zero m ga fl => Sys2Proof.Machine.execZero m ga fl s
  | .writeback wing => Sys2Proof.Machine.execWriteback wing s
  | .homeRequestStart slice fl => Sys2Proof.Machine.execHomeRequestStart slice fl s
  | .snoopResponse ga fl => Sys2Proof.Machine.execSnoopResponse ga fl s
  | .allocationRetry ga fl => Sys2Proof.Machine.execAllocationRetry ga fl s
  | .evictionWriteback pos fl => Sys2Proof.Machine.execEvictionWriteback pos fl s
  | .governorEvict slice set => Sys2Proof.Machine.execGovernorEvict slice set s
  | .wingInvalidateAll port wings => Sys2Proof.Machine.execWingInvalidateAll port wings s
  | .wingInvalidateDone => Sys2Proof.Machine.execWingInvalidateDone s
  | .loanWaysChange port ways => Sys2Proof.Machine.execLoanWaysChange port ways s
  | .loanWaysDone => Sys2Proof.Machine.execLoanWaysDone s
  | .wayDisableDone slice way => Sys2Proof.Machine.execWayDisableDone slice way s
  | .wayCountWindow => Sys2Proof.Machine.execWayCountWindow s
  | .wayEnable port slice way => Sys2Proof.Machine.execWayEnable port slice way s
  | .vitLookupWrite port addr => Sys2Proof.Machine.execVitLookupWrite port addr s
  | .lread seat tag gen ga fl => Sys2Proof.Machine.execLread seat tag gen ga fl s
  | .lown seat tag gen ga fl => Sys2Proof.Machine.execLown seat tag gen ga fl s
  | .fread seat tag gen ga fl => Sys2Proof.Machine.execFread seat tag gen ga fl s
  | .fwrite seat tag gen ga data mask poison fl => Sys2Proof.Machine.execFwrite seat tag gen ga data mask poison fl s
  | .fabricOwn seat tag gen ga fl => Sys2Proof.Machine.execFabricOwn seat tag gen ga fl s
  | .dlv seat tag gen ga data mask poison fl => Sys2Proof.Machine.execDlv seat tag gen ga data mask poison fl s
  | .release seat tag gen ga fl => Sys2Proof.Machine.execRelease seat tag gen ga fl s
  | .recall seat tag gen ga => Sys2Proof.Machine.execRecall seat tag gen ga s
  | .inv seat tag gen ga => Sys2Proof.Machine.execInv seat tag gen ga s
  | .fatomic seat tag gen ga op wide off a b fl => Sys2Proof.Machine.execFatomic seat tag gen ga op wide off a b fl s
  | .fabricData seat tag gen data poison granted => Sys2Proof.Machine.execFabricData seat tag gen data poison granted s
  | .fabricDone seat tag gen granted => Sys2Proof.Machine.execFabricDone seat tag gen granted s
  | .granted seat tag gen ewa granted => Sys2Proof.Machine.execGranted seat tag gen ewa granted s
  | .invack seat tag gen fl => Sys2Proof.Machine.execInvack seat tag gen fl s
  | .fatomicResult seat tag gen data poison => Sys2Proof.Machine.execFatomicResult seat tag gen data poison s
  | .homedown seat tag gen => Sys2Proof.Machine.execHomedown seat tag gen s
  | .fabricAttemptTimeout seat tag => Sys2Proof.Machine.execFabricAttemptTimeout seat tag s
  | .fabricRequestLost seat tag fl => Sys2Proof.Machine.execFabricRequestLost seat tag fl s
  | .outboundLingerExpire ga fl => Sys2Proof.Machine.execOutboundLingerExpire ga fl s
  | .startAnnouncement seat => Sys2Proof.Machine.execStartAnnouncement seat s
  | .grantSweep seat => Sys2Proof.Machine.execGrantSweep seat s
  | .awayRelease port seat => Sys2Proof.Machine.execAwayRelease port seat s
  | .configExchange port uid nport seated fabid crypt nonce kcv => Sys2Proof.Machine.execConfigExchange port uid nport seated fabid crypt nonce kcv s
  | .fabricPortTrainTimeout port => Sys2Proof.Machine.execFabricPortTrainTimeout port s
  | .fabricPortDownRetry port => Sys2Proof.Machine.execFabricPortDownRetry port s
  | .fabricRetrain port => Sys2Proof.Machine.execFabricRetrain port s
  | .laneLockLoss port => Sys2Proof.Machine.execLaneLockLoss port s
  | .fabricRetrainTimeout port => Sys2Proof.Machine.execFabricRetrainTimeout port s
  | .fabPctlWrite port fport value => Sys2Proof.Machine.execFabPctlWrite port fport value s
  | .flitPayload port seq ack chan credits payload crc => Sys2Proof.Machine.execFlitPayload port seq ack chan credits payload crc s
  | .flitTag port seq ack chan credits payload crc => Sys2Proof.Machine.execFlitTag port seq ack chan credits payload crc s
  | .flitNak port seq ack chan credits expected payload crc => Sys2Proof.Machine.execFlitNak port seq ack chan credits expected payload crc s
  | .flitIdle port seq ack chan credits payload crc => Sys2Proof.Machine.execFlitIdle port seq ack chan credits payload crc s
  | .delayProbe port roundTrip turnaround => Sys2Proof.Machine.execDelayProbe port roundTrip turnaround s
  | .linkRekey port => Sys2Proof.Machine.execLinkRekey port s
  | .messageForward port dest hops words => Sys2Proof.Machine.execMessageForward port dest hops words s
  | .linkRecord port uid seat seq kprio links => Sys2Proof.Machine.execLinkRecord port uid seat seq kprio links s
  | .linkRecordTimer => Sys2Proof.Machine.execLinkRecordTimer s
  | .joinQuietEnd => Sys2Proof.Machine.execJoinQuietEnd s
  | .claim uid held fabid epoch seat record time => Sys2Proof.Machine.execClaim uid held fabid epoch seat record time s
  | .membershipCommit fabid epoch record => Sys2Proof.Machine.execMembershipCommit fabid epoch record s
  | .joinComplete => Sys2Proof.Machine.execJoinComplete s
  | .lateJoin uid held fabid epoch seat record time => Sys2Proof.Machine.execLateJoin uid held fabid epoch seat record time s
  | .assign port seat uid origin => Sys2Proof.Machine.execAssign port seat uid origin s
  | .evict port seat uid origin => Sys2Proof.Machine.execEvict port seat uid origin s
  | .dropfwd port seat uid origin => Sys2Proof.Machine.execDropfwd port seat uid origin s
  | .timeBeacon time delay depth => Sys2Proof.Machine.execTimeBeacon time delay depth s
  | .vtset port t => Sys2Proof.Machine.execVtset port t s
  | .vaultTimeSave => Sys2Proof.Machine.execVaultTimeSave s
  | .broadcast port arg origin => Sys2Proof.Machine.execBroadcast port arg origin s
  | .snapshot port arg origin t => Sys2Proof.Machine.execSnapshot port arg origin t s
  | .reset port arg origin => Sys2Proof.Machine.execReset port arg origin s
  | .snapshotTimeReached => Sys2Proof.Machine.execSnapshotTimeReached s
  | .gopMemberTimeout late => Sys2Proof.Machine.execGopMemberTimeout late s
  | .barrierArrive port arrive origin => Sys2Proof.Machine.execBarrierArrive port arrive origin s
  | .barrierComplete n => Sys2Proof.Machine.execBarrierComplete n s
  | .mediaReadRequest tile leaf left => Sys2Proof.Machine.execMediaReadRequest tile leaf left s
  | .leafReadDone tile leaf errs slow => Sys2Proof.Machine.execLeafReadDone tile leaf errs slow s
  | .reconstructSourceDone tile leaf member errs slow => Sys2Proof.Machine.execReconstructSourceDone tile leaf member errs slow s
  | .pauseMiss tile leaf => Sys2Proof.Machine.execPauseMiss tile leaf s
  | .bestwaitExpire tile leaf => Sys2Proof.Machine.execBestwaitExpire tile leaf s
  | .rowTokenGrant part => Sys2Proof.Machine.execRowTokenGrant part s
  | .leafWriteDone part ok => Sys2Proof.Machine.execLeafWriteDone part ok s
  | .inplaceWriteback tile leaf pick => Sys2Proof.Machine.execInplaceWriteback tile leaf pick s
  | .mediaRead ch die part leaf vref tsense errs parity => Sys2Proof.Machine.execMediaRead ch die part leaf vref tsense errs parity s
  | .mediaWrite ch die part leaf parity => Sys2Proof.Machine.execMediaWrite ch die part leaf parity s
  | .mediaSuspend ch die part parity => Sys2Proof.Machine.execMediaSuspend ch die part parity s
  | .mediaResume ch die part parity => Sys2Proof.Machine.execMediaResume ch die part parity s
  | .mediaStatus ch die commit vfail parity => Sys2Proof.Machine.execMediaStatus ch die commit vfail parity s
  | .mediaTemp ch die t parity => Sys2Proof.Machine.execMediaTemp ch die t parity s
  | .mediaIdent ch die page parity => Sys2Proof.Machine.execMediaIdent ch die page parity s
  | .mediaDiereset ch die parity => Sys2Proof.Machine.execMediaDiereset ch die parity s
  | .mediaCmdTimeout die => Sys2Proof.Machine.execMediaCmdTimeout die s
  | .malertN ch die => Sys2Proof.Machine.execMalertN ch die s
  | .journalWrite => Sys2Proof.Machine.execJournalWrite s
  | .checkpoint => Sys2Proof.Machine.execCheckpoint s
  | .checkpointDone => Sys2Proof.Machine.execCheckpointDone s
  | .builderLine line pick => Sys2Proof.Machine.execBuilderLine line pick s
  | .builderSpill builder slot leaf => Sys2Proof.Machine.execBuilderSpill builder slot leaf s
  | .builderAgeExpire builder => Sys2Proof.Machine.execBuilderAgeExpire builder s
  | .builderStripeVerified builder fails => Sys2Proof.Machine.execBuilderStripeVerified builder fails s
  | .channelPauseRequest ch => Sys2Proof.Machine.execChannelPauseRequest ch s
  | .channelPauseEnter ch => Sys2Proof.Machine.execChannelPauseEnter ch s
  | .channelPauseEnd ch => Sys2Proof.Machine.execChannelPauseEnd ch s
  | .conLogWrite => Sys2Proof.Machine.execConLogWrite s
  | .conCheckpointChunk => Sys2Proof.Machine.execConCheckpointChunk s
  | .conMetackpt => Sys2Proof.Machine.execConMetackpt s
  | .tileMove tile pick lost fail => Sys2Proof.Machine.execTileMove tile pick lost fail s
  | .tileMoveEnd tile => Sys2Proof.Machine.execTileMoveEnd tile s
  | .excision pick => Sys2Proof.Machine.execExcision pick s
  | .excisionEnd => Sys2Proof.Machine.execExcisionEnd s
  | .wearPass => Sys2Proof.Machine.execWearPass s
  | .driftPass die errs => Sys2Proof.Machine.execDriftPass die errs s
  | .sentinelRewrite die slot => Sys2Proof.Machine.execSentinelRewrite die slot s
  | .tileRefresh phys pick => Sys2Proof.Machine.execTileRefresh phys pick s
  | .scrubPosition errs late => Sys2Proof.Machine.execScrubPosition errs late s
  | .scrubRestart => Sys2Proof.Machine.execScrubRestart s
  | .reclaim pick => Sys2Proof.Machine.execReclaim pick s
  | .rebuildStripe pick => Sys2Proof.Machine.execRebuildStripe pick s
  | .tempHistogram => Sys2Proof.Machine.execTempHistogram s
  | .histogramSave => Sys2Proof.Machine.execHistogramSave s
  | .stagingRead line kind a b ch miss bad tamper both corr uncorr ct mac evicted => Sys2Proof.Machine.execStagingRead line kind a b ch miss bad tamper both corr uncorr ct mac evicted s
  | .stagingWrite line kind a b data miss evicted => Sys2Proof.Machine.execStagingWrite line kind a b data miss evicted s
  | .stagingMerge line kind a b data mask ch miss bad tamper corr uncorr ct mac evicted => Sys2Proof.Machine.execStagingMerge line kind a b data mask ch miss bad tamper corr uncorr ct mac evicted s
  | .stagingReinitDone => Sys2Proof.Machine.execStagingReinitDone s
  | .trngReseed rct apt => Sys2Proof.Machine.execTrngReseed rct apt s
  | .trngRestart port => Sys2Proof.Machine.execTrngRestart port s
  | .onchipScrub arr inst a b wrong fl => Sys2Proof.Machine.execOnchipScrub arr inst a b wrong fl s
  | .ddr4Scrub line ch corr uncorr => Sys2Proof.Machine.execDdr4Scrub line ch corr uncorr s
  | .injArm port slot => Sys2Proof.Machine.execInjArm port slot s
  | .injDisarm port slot => Sys2Proof.Machine.execInjDisarm port slot s
  | .injDisarmAll port value => Sys2Proof.Machine.execInjDisarmAll port value s
  | .eventArrival pos n => Sys2Proof.Machine.execEventArrival pos n s
  | .rateWindowClose src => Sys2Proof.Machine.execRateWindowClose src s
  | .annalWrite => Sys2Proof.Machine.execAnnalWrite s
  | .annalWriteDone => Sys2Proof.Machine.execAnnalWriteDone s
  | .annalPeriodic => Sys2Proof.Machine.execAnnalPeriodic s
  | .recFlush => Sys2Proof.Machine.execRecFlush s
  | .recordWindowCopy reader seq => Sys2Proof.Machine.execRecordWindowCopy reader seq s
  | .recordWindowReady reader => Sys2Proof.Machine.execRecordWindowReady reader s
  | .recIrqCoalesce port => Sys2Proof.Machine.execRecIrqCoalesce port s
  | .pageRead page outcome => Sys2Proof.Machine.execPageRead page outcome s
  | .pageWriteStart page supply reserve => Sys2Proof.Machine.execPageWriteStart page supply reserve s
  | .guardRetry page => Sys2Proof.Machine.execGuardRetry page s
  | .pageWriteDone page ok => Sys2Proof.Machine.execPageWriteDone page ok s
  | .ldgRawRead port => Sys2Proof.Machine.execLdgRawRead port s
  | .ldgRawWrite port => Sys2Proof.Machine.execLdgRawWrite port s
  | .twoCopyRead port pair => Sys2Proof.Machine.execTwoCopyRead port pair s
  | .twoCopyWrite port pair => Sys2Proof.Machine.execTwoCopyWrite port pair s
  | .ledgerScrub page outcome => Sys2Proof.Machine.execLedgerScrub page outcome s
  | .progressRecord => Sys2Proof.Machine.execProgressRecord s
  | .vauxValid hpMode recovery ebOpen => Sys2Proof.Machine.execVauxValid hpMode recovery ebOpen s
  | .vauxLost => Sys2Proof.Machine.execVauxLost s
  | .sledRecordRead ack bytes => Sys2Proof.Machine.execSledRecordRead ack bytes s
  | .powerUpStart => Sys2Proof.Machine.execPowerUpStart s
  | .gateOffFail rail => Sys2Proof.Machine.execGateOffFail rail s
  | .railEnable rail => Sys2Proof.Machine.execRailEnable rail s
  | .powerGoodChange rail high => Sys2Proof.Machine.execPowerGoodChange rail high s
  | .railQualified rail => Sys2Proof.Machine.execRailQualified rail s
  | .railPgwinExpire rail => Sys2Proof.Machine.execRailPgwinExpire rail s
  | .powerUpRetry => Sys2Proof.Machine.execPowerUpRetry s
  | .railPgLoss rail => Sys2Proof.Machine.execRailPgLoss rail s
  | .railDisable rail => Sys2Proof.Machine.execRailDisable rail s
  | .railFallTimeout rail => Sys2Proof.Machine.execRailFallTimeout rail s
  | .resetOutputRise k => Sys2Proof.Machine.execResetOutputRise k s
  | .adcConversion input code => Sys2Proof.Machine.execAdcConversion input code s
  | .inokQualified => Sys2Proof.Machine.execInokQualified s
  | .ebNOpen => Sys2Proof.Machine.execEbNOpen s
  | .ebTrigger => Sys2Proof.Machine.execEbTrigger s
  | .ebArm => Sys2Proof.Machine.execEbArm s
  | .sensorConversion k t => Sys2Proof.Machine.execSensorConversion k t s
  | .throttleFall => Sys2Proof.Machine.execThrottleFall s
  | .lockoutEnd => Sys2Proof.Machine.execLockoutEnd s
  | .dieTempRead die t => Sys2Proof.Machine.execDieTempRead die t s
  | .backoffEnd ch => Sys2Proof.Machine.execBackoffEnd ch s
  | .governorRecompute => Sys2Proof.Machine.execGovernorRecompute s
  | .holdRelease gl fl => Sys2Proof.Machine.execHoldRelease gl fl s
  | .lowenergyExit => Sys2Proof.Machine.execLowenergyExit s
  | .measureRequest port interval => Sys2Proof.Machine.execMeasureRequest port interval s
  | .measureInterval => Sys2Proof.Machine.execMeasureInterval s
  | .bankStable => Sys2Proof.Machine.execBankStable s
  | .measureStartTimeout => Sys2Proof.Machine.execMeasureStartTimeout s
  | .measureSampleV0 => Sys2Proof.Machine.execMeasureSampleV0 s
  | .measureLoadOn => Sys2Proof.Machine.execMeasureLoadOn s
  | .measureSampleV1 => Sys2Proof.Machine.execMeasureSampleV1 s
  | .measureSampleV2 => Sys2Proof.Machine.execMeasureSampleV2 s
  | .measureEnd => Sys2Proof.Machine.execMeasureEnd s
  | .measureRetry => Sys2Proof.Machine.execMeasureRetry s
  | .measureRepeat => Sys2Proof.Machine.execMeasureRepeat s
  | .breachAck port => Sys2Proof.Machine.execBreachAck port s
  | .flushStoreDrainDone => Sys2Proof.Machine.execFlushStoreDrainDone s
  | .flushWingWritebackDone => Sys2Proof.Machine.execFlushWingWritebackDone s
  | .flushStagingMoveDone => Sys2Proof.Machine.execFlushStagingMoveDone s
  | .flushForwardHold => Sys2Proof.Machine.execFlushForwardHold s
  | .flushDeliveryDone => Sys2Proof.Machine.execFlushDeliveryDone s
  | .flushJournalTailDone => Sys2Proof.Machine.execFlushJournalTailDone s
  | .flushRegistrarDone => Sys2Proof.Machine.execFlushRegistrarDone s
  | .flushStagingWriteDone => Sys2Proof.Machine.execFlushStagingWriteDone s
  | .flushJournalDone => Sys2Proof.Machine.execFlushJournalDone s
  | .flushRecordDone => Sys2Proof.Machine.execFlushRecordDone s
  | .flushEnergyCheck => Sys2Proof.Machine.execFlushEnergyCheck s
  | .flushAbandon => Sys2Proof.Machine.execFlushAbandon s
  | .resetHoldEnd => Sys2Proof.Machine.execResetHoldEnd s
  | .wardenRomDone recoveryLow okA okB lib => Sys2Proof.Machine.execWardenRomDone recoveryLow okA okB lib s
  | .selftestDone fails => Sys2Proof.Machine.execSelftestDone fails s
  | .stagingInitDone gib0 gib1 trng absent => Sys2Proof.Machine.execStagingInitDone gib0 gib1 trng absent s
  | .catalogueRebuildDone readable => Sys2Proof.Machine.execCatalogueRebuildDone readable s
  | .conservatorRestoreDone readable => Sys2Proof.Machine.execConservatorRestoreDone readable s
  | .dieAdmissionDone drift => Sys2Proof.Machine.execDieAdmissionDone drift s
  | .recoveryWorkDone => Sys2Proof.Machine.execRecoveryWorkDone s
  | .flushRecordExamined => Sys2Proof.Machine.execFlushRecordExamined s
  | .joinEnter => Sys2Proof.Machine.execJoinEnter s
  | .startOpen => Sys2Proof.Machine.execStartOpen s
  | .online port setB libOk => Sys2Proof.Machine.execOnline port setB libOk s
  | .offline port setB => Sys2Proof.Machine.execOffline port setB s
  | .commitSvn port setB => Sys2Proof.Machine.execCommitSvn port setB s
  | .cancel port setB => Sys2Proof.Machine.execCancel port setB s
  | .wfwHandover => Sys2Proof.Machine.execWfwHandover s
  | .wfwReadyTimeout => Sys2Proof.Machine.execWfwReadyTimeout s
  | .mcodeSwitch ch ok => Sys2Proof.Machine.execMcodeSwitch ch ok s
  | .serdesRetrain port ok => Sys2Proof.Machine.execSerdesRetrain port ok s
  | .rtlDrainExpire => Sys2Proof.Machine.execRtlDrainExpire s
  | .rtlReplaced lib ok => Sys2Proof.Machine.execRtlReplaced lib ok s
  | .tallyClear port n cfg => Sys2Proof.Machine.execTallyClear port n cfg s
  | .tallyClearAll port => Sys2Proof.Machine.execTallyClearAll port s
  | .tallySnap port => Sys2Proof.Machine.execTallySnap port s
  | .tallyPeriodic => Sys2Proof.Machine.execTallyPeriodic s
  | .tallyLatch => Sys2Proof.Machine.execTallyLatch s
  | .tallyGatherDone => Sys2Proof.Machine.execTallyGatherDone s
  | .ebNClose => Sys2Proof.Machine.execEbNClose s
  | .receiverDetect port => Sys2Proof.Machine.execReceiverDetect port s
  | .bitLock port speed width => Sys2Proof.Machine.execBitLock port speed width s
  | .snoop ga stop fl => Sys2Proof.Machine.execSnoop ga stop fl s
  | .sequencerFault ch => Sys2Proof.Machine.execSequencerFault ch s
  | .tallyOverflow n v => Sys2Proof.Machine.execTallyOverflow n v s
  | .jtagInstruction op => Sys2Proof.Machine.execJtagInstruction op s
  | .ddr4ParityAlert line => Sys2Proof.Machine.execDdr4ParityAlert line s

end Sys2Proof.Machine
end

