-- ==== Sys2Proof/Safety.lean ====
section
/-! DEFINITION. The words the statements use: what a command answers, which parts of the state and which register fields
it may change, and the invariants of the device. -/

namespace Sys2Proof.Machine

/-- A command runs to a next state of which `P` holds. -/
def AnswersCounting (i : Instr) (s : State) (P : State → Prop) : Prop := ∃ t, exec i s = .next t ∧ P t

/-- A command runs to a next state of which `P` holds, but for the tally's counters, which any command may advance (R514): `P` sees
them as they were. -/
def Answers (i : Instr) (s : State) (P : State → Prop) : Prop := AnswersCounting i s fun t => P { t with tcnt := s.tcnt }

/-- A port carries accesses, and no armed injection slot corrupts the packets it receives. -/
def State.portQuiet (s : State) (p : Nat) : Bool := s.regUp p && (s.injSlots 0x14 (hitInst1 p)).isEmpty

/-- One event, and nothing else, has been sent to the registrar. -/
def State.Logged (s : State) (code inst aux arg : Nat) (t : State) : Prop :=
  t.evq = s.evq ++ [⟨code, inst % 65536, aux % 65536, arg % 2 ^ 64, s.now, false⟩]

/-- The parts of the state. -/
inductive Comp where
  | regs | evq | rgr | ports | queues | regions | rops | coh | med | cur | slots | keyOps | drbg | gov | led | stgE
  | aon | boot | fab | fw | tal | tcnt | out | free | pending
  deriving DecidableEq, Repr

/-- One part is the same in two states. -/
def Comp.same (p : Comp) (s t : State) : Prop :=
  match p with
  | .regs => t.regs = s.regs
  | .evq => t.evq = s.evq
  | .rgr => t.rgr = s.rgr
  | .ports => t.ports = s.ports
  | .queues => t.queues = s.queues
  | .regions => t.regions = s.regions
  | .rops => t.rops = s.rops
  | .coh => t.coh = s.coh
  | .med => t.med = s.med
  | .cur => t.cur = s.cur
  | .slots => t.slots = s.slots
  | .keyOps => t.keyOps = s.keyOps
  | .drbg => t.drbg = s.drbg
  | .gov => t.gov = s.gov
  | .led => t.led = s.led
  | .stgE => t.stgE = s.stgE
  | .aon => t.aon = s.aon
  | .boot => t.boot = s.boot
  | .fab => t.fab = s.fab
  | .fw => t.fw = s.fw
  | .tal => t.tal = s.tal
  | .tcnt => t.tcnt = s.tcnt
  | .out => t.out = s.out
  | .free => t.free = s.free
  | .pending => t.pending = s.pending

/-- Nothing but the parts `ps` differs. -/
def State.Only (s : State) (ps : List Comp) (t : State) : Prop := ∀ p, p ∉ ps → p.same s t

/-- No register field but those with keys `ks` differs. -/
def State.RegsBut (s : State) (ks : List Nat) (t : State) : Prop :=
  ∀ k, k ∉ ks → SMap.find t.regs k = SMap.find s.regs k

/-- No register field outside window offsets `lo` to `hi - 1` differs. -/
def State.RegsIn (s : State) (lo hi : Nat) (t : State) : Prop :=
  ∀ k, k < lo * 64 ∨ hi * 64 ≤ k → SMap.find t.regs k = SMap.find s.regs k

/-- Context `c` executes the instruction at its pc now: it can issue, no boundary fault is pending, and the fetch is good
(R236, R241, R256). -/
abbrev State.Ready (s : State) (c : Nat) : Prop :=
  s.canIssue c = true ∧ s.boundary c = none ∧ s.inImage (s.ctx c) (s.ctx c).pc = true

/-- The general registers with `v` written to `d`; a write to x0 is discarded (R234). -/
def Ctx.regsWith (x : Ctx) (d : BitVec 5) (v : Word) : BitVec 5 → Word := fun r => if r = d ∧ d ≠ 0 then v else x.reg r

/-- Context `c` runs on at `next` with general registers `f`; no other context differs. -/
def State.RunsOn (s : State) (c next : Nat) (f : BitVec 5 → Word) (t : State) : Prop :=
  (t.ctx c).st = .running ∧ (t.ctx c).pc = next ∧ (∀ r, (t.ctx c).reg r = f r) ∧ ∀ k, k ≠ c → t.ctx k = s.ctx k

/-- What an instruction may change beside its own result: the tally registers, samples and events, and the curator. -/
def State.CurOnly (s : State) (t : State) : Prop := s.RegsIn 0x50000 0x60000 t ∧ s.Only [.regs, .evq, .cur, .tal, .tcnt, .free] t

/-- An instruction writes `v` to `d` and goes on to the next word (R236, R251); nothing but the curator, the tally and the
events differs. -/
def State.Sets (s : State) (c : Nat) (d : BitVec 5) (v : Word) (t : State) : Prop :=
  s.RunsOn c ((s.ctx c).pc + 4) ((s.ctx c).regsWith d v) t ∧ s.CurOnly t

/-- Context `c` has stopped with a fault (R254); no other context differs. -/
def State.Faults (s : State) (c code addr : Nat) (t : State) : Prop :=
  (t.ctx c).st = .stopped ∧ (t.ctx c).fault = some ⟨code, addr, (s.ctx c).pc, 0, (s.ctx c).priv⟩ ∧
    (∀ k, k ≠ c → t.ctx k = s.ctx k) ∧ s.CurOnly t

/-- No injection slot is armed (R415). -/
abbrev State.NoInj (s : State) : Prop := ∀ k ∈ List.range 8, s.bit D.INJ_PTCTL_armed k = false

/-- Every unit of a load of `n` bytes at `ea` has its data at hand, and none is poisoned; no buffered store covers a part of it
(R221, R238, R245). -/
abbrev State.LoadsNow (s : State) (c ea n : Nat) (fl : Flips) : Prop :=
  addrFault (unitAddrs ea n) = none ∧ s.coh.invBusy.getLsbD (wingOf c) = false ∧ (s.ctx c).sbPartial (unitAddrs ea n) = false ∧
    (s.loadUnits c (unitAddrs ea n) fl).1.all (fun u => u.got.isSome) = true ∧
    (s.loadUnits c (unitAddrs ea n) fl).1.find? LdUnit.poisoned = none

/-- The bytes such a load returns, the lower line first. -/
def State.loaded (s : State) (c ea n : Nat) (fl : Flips) : Nat :=
  (s.loadUnits c (unitAddrs ea n) fl).1.foldr (fun u (a : Nat) => u.value + a * 2 ^ (8 * u.n)) 0

/-- A load writes `v` to `d` and goes on; it may also move lines in the caches and fire injections. -/
def State.LoadSets (s : State) (c : Nat) (d : BitVec 5) (v : Word) (t : State) : Prop :=
  s.RunsOn c ((s.ctx c).pc + 4) ((s.ctx c).regsWith d v) t ∧ s.Only [.regs, .evq, .coh, .cur, .tal, .tcnt, .free] t

/-- A store of `n` bytes within one line is buffered as a new entry, and the context goes on (R246). -/
def State.Buffers (s : State) (c : Nat) (d a : BitVec 5) (imm : BitVec 16) (n : Nat) (t : State) : Prop :=
  let x := s.ctx c
  let ea := x.ea a imm
  s.RunsOn c (x.pc + 4) x.reg t ∧ s.CurOnly t ∧
    (t.ctx c).sb = x.sb ++ [⟨ea / 64, lineOfBytes (x.reg d).toNat (ea % 64) n, maskOf (ea % 64) n, x.pc, false, false⟩]

/-- A store of `n` bytes at register `a` plus `imm` within one line that joins no earlier entry (R201, R238). -/
abbrev State.StoresNow (s : State) (c : Nat) (a : BitVec 5) (imm : BitVec 16) (n : Nat) : Prop :=
  s.Ready c ∧ (s.ctx c).ea a imm % 64 + n ≤ 64 ∧ addrFault [((s.ctx c).ea a imm, n)] = none ∧
    s.coh.invBusy.getLsbD (wingOf c) = false ∧ s.joins c (s.ctx c).sb ((s.ctx c).ea a imm / 64) = false

/-- Operand bytes of an atomic. -/
def atomBytes (wide : Bool) : Nat := if wide then 8 else 4

/-- A near atomic on the local line `l` that the context's wing owns executes at once (R219, R247). -/
abbrev State.AtomNow (s : State) (c : Nat) (wide : Bool) (a : BitVec 5) (l : WLine) : Prop :=
  s.Ready c ∧ s.NoInj ∧ ((s.ctx c).reg a).toNat % 64 + atomBytes wide ≤ 64 ∧
    addrFault [(((s.ctx c).reg a).toNat, atomBytes wide)] = none ∧ (s.ctx c).sb = [] ∧
    s.coh.invBusy.getLsbD (wingOf c) = false ∧ s.isLocal (((s.ctx c).reg a).toNat / 64) = true ∧
    s.atomNear c (((s.ctx c).reg a).toNat / 64) = true ∧
    s.wfind (wingOf c) (((s.ctx c).reg a).toNat / 64) = some l ∧ l.st ≠ .shared ∧ l.poison = false ∧
    s.breached (((s.ctx c).reg a).toNat / 64) = false

/-- The old operand of such an atomic. -/
def State.atomOld (s : State) (c : Nat) (wide : Bool) (a : BitVec 5) (l : WLine) : Nat :=
  bytesAt l.data (((s.ctx c).reg a).toNat % 64) (atomBytes wide)

/-- The atomic returns the old operand in `d`, leaves `v` in its place and every other byte of the line as it was. -/
def State.Exchanges (s : State) (c : Nat) (wide : Bool) (d a : BitVec 5) (l : WLine) (v : Nat) (t : State) : Prop :=
  let ea := ((s.ctx c).reg a).toNat
  s.LoadSets c d (extendTo (atomBytes wide) (!wide) (s.atomOld c wide a l)) t ∧
    (t.wfind (wingOf c) (ea / 64)).map (fun y => (y.st, y.poison, bytesAt y.data (ea % 64) (atomBytes wide))) =
      some (.modified, false, v % 2 ^ (8 * atomBytes wide)) ∧
    ∀ k, k < 64 → k < ea % 64 ∨ ea % 64 + atomBytes wide ≤ k →
      (t.wfind (wingOf c) (ea / 64)).map (fun y => bytesAt y.data k 1) = some (bytesAt l.data k 1)

/-- A service instruction's fence is done: the context is ready and has nothing buffered (R261). -/
abbrev State.Served (s : State) (c : Nat) : Prop := s.Ready c ∧ (s.ctx c).sb = []

/-- Such an instruction names a line in range that reads as `l`; `u` is the state after the read, which may move lines in the
caches (R186, R260, R261). -/
abbrev State.Names (s : State) (c addr : Nat) (ext : Ext) (l : Line) (u : State) : Prop :=
  s.Served c ∧ lineFault addr = none ∧ s.devRead ext (addr / 64) = some ((l, false), u)

/-- The state after a line that an instruction writes has been accepted (R261); the state itself where it must wait. -/
def State.afterWrite (s : State) (c gl : Nat) (d : Line) : State :=
  ((s.devWrite c gl d fullMask (.job c 0)).map Prod.snd).getD s

/-- The line is accepted, and the context still runs. -/
abbrev State.Accepts (s : State) (c gl : Nat) (d : Line) : Prop :=
  (s.devWrite c gl d fullMask (.job c 0)).isSome = true ∧ ((s.afterWrite c gl d).ctx c).st = .running ∧
    (s.afterWrite c gl d).phase ≠ stRomRecovery

/-- A context is held by an operation whose status is due in `d` (R262). -/
def State.Held (s : State) (c major : Nat) (d : BitVec 5) (t : State) : Prop :=
  (t.ctx c).hold = .op major d ∧ (t.ctx c).pc = (s.ctx c).pc ∧ ∀ k, k ≠ c → t.ctx k = s.ctx k

/-- A local line with no request in progress or waiting, no wing copy marked, no loan and no grant; no injection armed. -/
abbrev State.Quiet (s : State) (gl : Nat) : Prop :=
  s.isLocal gl = true ∧ s.busyLine gl = false ∧ s.coh.conf = [] ∧ s.filterHas gl = false ∧ (s.loan gl).sharers = 0 ∧
    s.grant gl = none ∧ s.NoInj

/-- A way of the vitrine holds the line, unpoisoned, for this device, and no breach range covers it (R94). -/
abbrev State.Hits (s : State) (gl w : Nat) (v : VLine) : Prop :=
  s.vfind gl = some (w, v) ∧ v.poison = false ∧ v.lent = .local ∧ s.breached gl = false

/-- A line message of a seat and tag not seen before reaches its home, which has joined and serves it (R212, R357). -/
abbrev State.FabNew (s : State) (seat tag gl : Nat) : Prop :=
  SMap.find s.coh.dedup (tagKey seat tag) = none ∧ s.phase ≠ stFlushing ∧ s.phase ≠ stResetting ∧ s.stgE.blocked = [] ∧
    s.rd D.FAB_STAT_join = 4 ∧ gaValid (gaOf gl) = true ∧ s.coh.loans = [] ∧ s.coh.grants = []

/-- Keys strictly rise: every key is listed once, and equal maps are equal lists. -/
abbrev Rising {α : Type} (m : SMap α) : Prop := m.Pairwise (fun a b => a.1 < b.1)

/-- The key slot table and the region table are in canonical form; a region at its reset value is not listed. -/
abbrev State.TablesOk (s : State) : Prop :=
  Rising s.slots ∧ Rising s.regions ∧ ∀ e ∈ s.regions, e.2 ≠ Region.init e.1

end Sys2Proof.Machine
end

