-- ==== Sys2Proof/Certificates/Slice0/Obligations.lean ====
section
/-! DEFINITION. The statements for the provers. -/

open Sys2Proof Sys2Proof.Machine

/-- A step with a command at the front of the queue is that command's meaning on the state with the queue's
rest. -/
def Obligations.StepRunsFrontCommand : Prop :=
  ∀ (s : Sys2Proof.Machine.State) (c : Instr), step (s.withCommand c) = exec c s

/-- A write to GBL_SCRATCH through a port whose link is up leaves the written value and nothing else; while
GBL_CTL.scrlock is set it changes nothing; an access of a size other than 4 or 8 bytes changes no register
and logs GBL_BAD_ACCESS; a port that carries no accesses changes nothing. Where the rules leave a choice,
the model's own is in log entry 49. Each clause says that the command answers a next state under conditions
on the state and operands alone: registerWrite. -/
def Obligations.RegisterWritesOfScratch : Prop :=
  (∀ (port : Fin 4) (v : Word) (ok : Bool) (s : State), s.portQuiet port = true → s.bit D.GBL_CTL_scrlock =
    false → Answers (.registerWrite port false 0x40 8 v ok) s fun t => t.rd D.GBL_SCRATCH_value = v.toNat ∧
    s.RegsBut [D.GBL_SCRATCH_value.key 0] t ∧ s.Only [.regs] t) ∧
  (∀ (port : Fin 4) (v : Word) (ok : Bool) (s : State), s.portQuiet port = true → s.bit D.GBL_CTL_scrlock =
    true → Answers (.registerWrite port false 0x40 8 v ok) s fun t => t = s) ∧
  (∀ (port : Fin 4) (off : BitVec 25) (size : BitVec 8) (v : Word) (ok : Bool) (s : State), s.portQuiet port =
    true → size ≠ 4 → size ≠ 8 → s.phase ≠ stRomRecovery → Answers (.registerWrite port false off size v ok) s
    fun t => s.Logged E.GBL_BAD_ACCESS port size.toNat off.toNat t ∧ s.Only [.evq] t) ∧
  (∀ (port : Fin 4) (bar2 : Bool) (off : BitVec 25) (size : BitVec 8) (v : Word) (ok : Bool) (s : State),
    s.regUp port = false → Answers (.registerWrite port bar2 off size v ok) s fun t => t = s)

/-- A 4-byte read of the low half of a 64-bit register returns that half and latches the high half for the
port; the next 4-byte read of the high half of the same register from that port returns the latched value,
whatever the register holds by then; an 8-byte read returns both halves of one instant. Each clause says
that the command answers a next state under conditions on the state and operands alone: readLowHalf. -/
def Obligations.RegisterReadHalves : Prop :=
  (∀ (port : Fin 4) (off : BitVec 25) (r : RegRow) (i : Nat) (s : State), s.portQuiet port = true → s.blockUp
    off.toNat = true → regHit off.toNat 4 = .reg r i 0 32 → r.width = 64 → Answers (.readLowHalf port false off
    4) s fun t => t.out = .regData port (s.regWord port r i % 2 ^ 32) :: s.out ∧ (t.port port).latch = some
    (off.toNat, s.regWord port r i / 2 ^ 32) ∧ (∀ q, q ≠ port.val → t.port q = s.port q) ∧ s.Only [.ports, .out]
    t) ∧
  (∀ (port : Fin 4) (off : BitVec 25) (r : RegRow) (i h : Nat) (s : State), s.portQuiet port = true →
    s.blockUp off.toNat = true → regHit off.toNat 4 = .reg r i 32 32 → (s.port port).latch = some (off.toNat -
    4, h) → Answers (.readLowHalf port false off 4) s fun t => t.out = .regData port h :: s.out ∧ (∀ q, q ≠
    port.val → t.port q = s.port q) ∧ s.Only [.ports, .out] t) ∧
  (∀ (port : Fin 4) (off : BitVec 25) (r : RegRow) (i : Nat) (s : State), s.portQuiet port = true → s.blockUp
    off.toNat = true → regHit off.toNat 8 = .reg r i 0 64 → Answers (.readLowHalf port false off 8) s fun t =>
    t.out = .regData port (s.regWord port r i) :: s.out ∧ s.Only [.out] t)

/-- A device reset begins a flush of cause 2 while the device is OPEN and is ignored while it is FLUSHING or
RESETTING; clampclr clears the count; a wing reset makes busy exactly the named wings that self-test does
not hold, and its release clears that one busy bit; a repeated request changes nothing; a host write
unanswered for 2 ms completes normally. Where the rules leave a choice, the model's own is in log entries
22, 23. Each clause says that the command answers a next state under conditions on the state and operands
alone: deviceReset, clampClear, wingReset, wingResetRelease, ringRetry, ringRequestTimeout. -/
def Obligations.DeviceAndWingResets : Prop :=
  (∀ (port : Fin 4) (s : State), s.portQuiet port = true → s.phase = stOpen → Answers (.deviceReset port) s
    fun t => ∃ f, t.gov.flush = some f ∧ f.step = 2 ∧ f.cause = 2 ∧ f.t0 = s.now) ∧
  (∀ (port : Fin 4) (s : State), s.phase = stFlushing ∨ s.phase = stResetting → Answers (.deviceReset port) s
    fun t => t.phase = s.phase ∧ s.Only [.regs] t) ∧
  (∀ (port : Fin 4) (value : BitVec 32) (s : State), s.portQuiet port = true → value.toNat % 256 = 0 → Answers
    (.clampClear port value) s fun t => t.rd D.GBL_CLAMPCNT_count = 0) ∧
  (∀ (port : Fin 4) (value : BitVec 32) (s : State), s.portQuiet port = true → value.toNat % 256 ≠ 0 →
    value.toNat % 256 ≠ 0xD5 → Answers (.clampClear port value) s fun t => t.rd D.GBL_CLAMPCNT_count = 1) ∧
  (∀ (port : Fin 4) (wings : BitVec 8) (s : State), s.portQuiet port = true → s.phase = stOpen → Answers
    (.wingReset port wings) s fun t => t.coh.rstBusy = s.coh.rstBusy ||| (wings &&& ~~~s.boot.wingOff)) ∧
  (∀ (wing : Fin 8) (s : State), s.isFlushing = false → s.coh.rstBusy.getLsbD wing = true → s.wingDrained wing
    = true → (∀ k ∈ List.range 32, (s.ctx (wing * 32 + k)).st = .idle) → Answers (.wingResetRelease wing) s fun
    t => t.coh.rstBusy = s.coh.rstBusy &&& ~~~(BitVec.ofNat 8 (2 ^ wing.val))) ∧
  (∀ (ga : BitVec 50) (s : State), Answers (.ringRetry ga) s fun t => t = s) ∧
  (∀ (m : Master) (load : Bool) (ga : BitVec 50) (r : Req) (s : State), s.coh.conf = [r] → r.gl = ga.toNat /
    64 → timesOut m load r.src = true → s.phase ≠ stRomRecovery → Answers (.ringRequestTimeout m load ga) s fun
    t => t.coh.conf = [] ∧ ∃ rest, t.evq = s.evq ++ ⟨E.CLO_TARGET_TIMEOUT, sliceOf r.gl % 65536, 0, gaOf r.gl %
    2 ^ 64, s.now, false⟩ :: rest) ∧
  (∀ (m : Master) (ga : BitVec 50) (r : Req) (l : LdEnt) (u : LdUnit) (s : State), s.coh.conf = [] → (s.txn
    (ga.toNat / 64)).map Txn.req = some r → (s.txn (ga.toNat / 64)).bind Txn.got = none → r.gl = ga.toNat / 64 →
    m.kind = 1 → r.kind = .read → r.src = .load m.id → (s.ctx m.id).hold = .load l → l.units = [u] → u.gl = r.gl
    → u.got = none → Answers (.ringRequestTimeout m true ga) s fun t => t.txn r.gl = none ∧ (t.ctx m.id).hold =
    .load { l with units := [{ u with got := some (0, true) }] }) ∧
  (∀ (port : Fin 4) (tag : Nat) (r : Req) (s : State), s.coh.conf.find? (fun q => decide (q.gl = r.gl ∧ q.src
    = .port port tag)) = some r → r.kind = .write → r.gl < 2 ^ 44 → s.portMode port ≠ 0 → s.phase ≠
    stRomRecovery → Answers (.ringRequestTimeout ⟨0, Fin.castLE (by decide) port, tag⟩ false (BitVec.ofNat 50
    (r.gl * 64))) s fun t => t.out = .hostDone port tag :: s.out ∧ t.coh.conf = s.coh.conf.erase r ∧ s.Logged
    E.CLO_TARGET_TIMEOUT (sliceOf r.gl) 0 (gaOf r.gl) t ∧ s.Only [.evq, .coh, .out] t)

/-- Each step leads to the next once its condition holds and waits while it does not: calls interrupted,
wings written back, dirty lines staged, outbound lines held, the registrar committed and the builders
closing, every staged line on media, the journal written; the record keeps cause, time, start and head, and
the device restarts with input power or powers down without it; a watched flush at the reserve is due to
abandon, and it abandons when no partition is at work, recording the ranges whose charged data is not on
media, with no journal entry taking effect later; in step 2 the calls are interrupted all the same. Where
the rules leave a choice, the model's own is in log entries 25, 28, 29, 30, 32, 33, 34, 35, 36, 38, 70, 166,
167. Each clause says that the command answers a next state under conditions on the state and operands
alone: flushStoreDrainDone, flushWingWritebackDone, flushStagingMoveDone, flushForwardHold,
flushDeliveryDone, flushJournalTailDone, flushRegistrarDone, flushStagingWriteDone, flushJournalDone,
flushRecordDone, resetHoldEnd, flushEnergyCheck, flushAbandon. -/
def Obligations.FlushStepsRun : Prop :=
  (∀ (f : Flush) (s : State), s.phase = stFlushing → s.gov.flush = some f → f.step = 2 → s.coh.txns = [] →
    s.coh.conf = [] → (∀ c ∈ SMap.keys s.cur.ctxs, (s.ctx c).sb = []) → (SMap.keys s.cur.ctxs).Nodup →
    (SMap.keys s.cur.ctxs).any s.drainable = false → Answers .flushStoreDrainDone s fun t => t.gov.flush = some
    { f with step := 3 } ∧ t.cur.interrupted = s.cur.interrupted ++ s.busyCtxs.map (fun c => ((s.ctx c).cq,
    (s.ctx c).callProg, (s.ctx c).tag, (s.ctx c).lost, (s.ctx c).priv.code)) ∧ (∀ c, (t.ctx c).st = .idle) ∧
    s.Only [.cur, .gov] t) ∧
  (∀ (f : Flush) (s : State), s.phase = stFlushing → s.gov.flush = some f → f.step = 2 → s.coh.txns.any (fun e
    => e.2.req.hostWrite && decide (e.2.phase ≠ .loan)) = true → Answers .flushStoreDrainDone s fun t => t = s) ∧
  (∀ (f : Flush) (s : State), s.phase = stFlushing → s.gov.flush = some f → f.step = 3 → Answers
    .flushWingWritebackDone s fun t => t.gov.flush = some { f with step := 4 } ∧ t.coh.invBusy = 0 ∧ t.queues =
    s.queues ∧ t.ports = s.ports ∧ t.cur = s.cur ∧ t.slots = s.slots) ∧
  (∀ (f : Flush) (s : State), s.phase = stFlushing → s.gov.flush = some f → f.step = 4 → Answers
    .flushStagingMoveDone s fun t => t.gov.flush = some { f with step := 5 } ∧ t.queues = s.queues ∧ t.cur =
    s.cur ∧ t.slots = s.slots) ∧
  (∀ (f : Flush) (s : State), s.phase = stFlushing → s.gov.flush = some f → f.step = 5 → s.lentDirty = [] →
    s.coh.outb = [] → (∀ p, p < 4 → (s.port p).eab = []) → Answers .flushForwardHold s fun t => t.coh =
    { s.coh with freqs := [] } ∧ (∀ p, t.port p = s.port p) ∧ s.Only [.coh, .ports] t) ∧
  (∀ (f : Flush) (gl : Nat) (e : OutEnt) (s : State), s.phase = stFlushing → s.gov.flush = some f → f.step = 5
    → s.lentDirty = [] → s.coh.outb = [(gl, e)] → e.mask ≠ 0 → SMap.find s.coh.fwd gl = none → (∀ p, p < 4 →
    (s.port p).eab = []) → Answers .flushForwardHold s fun t => t.coh.outb = [] ∧ t.coh.freqs = [] ∧ (SMap.find
    t.coh.fwd gl).map (fun x => (x.data, x.mask, x.poison)) = some (e.data, e.mask, e.poison) ∧ t.gov = s.gov) ∧
  (∀ (f : Flush) (s : State), s.phase = stFlushing → s.gov.flush = some f → f.step = 5 → s.coh.outb = [] → (∀
    p ∈ List.range 4, (s.port p).eab = []) → Answers .flushDeliveryDone s fun t => t.gov.flush = some
    { f with step := 6 } ∧ s.Only [.gov] t) ∧
  (∀ (f : Flush) (s : State), s.phase = stFlushing → s.gov.flush = some f → f.step = 6 → s.med.jpend = [] →
    s.med.cpend = [] → Answers .flushJournalTailDone s fun t => t.gov.flush = some { f with step := 7 } ∧
    t.rgr.step7 = some (s.rd D.REC_HEAD_seq) ∧ t.queues = s.queues) ∧
  (∀ (f : Flush) (n : Nat) (s : State), s.phase = stFlushing → s.gov.flush = some f → f.step = 7 → s.rgr.step7
    = some n → Answers .flushRegistrarDone s fun t => t.gov.flush = some { f with step := 8, dflush := s.dirty }
    ∧ t.rgr.buf = SMap.keep (fun k _ => decide (n < k)) s.rgr.buf ∧ t.rd D.REC_FLUSHED_seq = max (s.rd
    D.REC_FLUSHED_seq) n % D.REC_FLUSHED_seq.cap ∧ t.rd D.REC_STAT_writing = 0 ∧ (∀ b ∈ t.med.builders,
    b.closing = true) ∧ t.med.stg = s.med.stg) ∧
  (∀ (f : Flush) (s : State), s.phase = stFlushing → s.gov.flush = some f → f.step = 8 → s.stagedDirty = [] →
    s.coh.gdirty = [] → s.med.builders = [] → s.med.updates = [] → s.med.moves = [] → Answers
    .flushStagingWriteDone s fun t => t.gov.flush = some { f with step := 9 } ∧ t.rd D.PWR_PGFLUSH_bytes =
    s.writtenUnits % D.PWR_PGFLUSH_bytes.cap ∧ s.RegsBut [D.PWR_PGFLUSH_bytes.key 0] t ∧ s.Only [.regs, .gov] t) ∧
  (∀ (f : Flush) (s : State), s.phase = stFlushing → s.gov.flush = some f → f.step = 8 → s.stagedDirty ≠ [] →
    (∀ ll ∈ s.stagedDirty, (s.baseKey (tileOf ll)).isSome = true) → Answers .flushStagingWriteDone s fun t => t
    = s) ∧
  (∀ (f : Flush) (s : State), s.phase = stFlushing → s.gov.flush = some f → f.step = 9 → s.aon.euFloor = true
    → Answers .flushJournalDone s fun t => t.gov.flush = some { f with step := 10 } ∧ t.med =
    { s.med with jpend := [], rels := [], cpend := [] } ∧ s.Only [.med, .gov] t) ∧
  (∀ (f : Flush) (s : State), s.phase = stFlushing → s.gov.flush = some f → f.step = 9 → s.aon.euFloor = false
    → Answers .flushJournalDone s fun t => t.gov.flush = some { f with step := 10 } ∧ t.queues = s.queues ∧
    t.ports = s.ports ∧ t.regions = s.regions) ∧
  (∀ (f : Flush) (s : State), s.phase = stFlushing → s.gov.flush = some f → f.step = 10 → s.seq = seqOn → 10 <
    s.boot.step → s.evq = [] → s.bit D.PWR_PFSTAT_inok = true → Answers .flushRecordDone s fun t =>
    t.gov.rec0.valid = true ∧ t.gov.rec0.abandoned = f.abandoned ∧ t.gov.rec0.cause = s.rd D.PWR_PGSTAT_cause ∧
    t.gov.rec0.time = s.now ∧ t.gov.rec0.start = s.boot.startCount ∧ t.gov.rec0.head = s.rd D.REC_HEAD_seq ∧
    t.gov.recCopy = 1 - s.gov.recCopy ∧ t.phase = stResetting ∧ t.boot.step = 2 ∧ t.gov.flush = none ∧ t.evq =
    [] ∧ t.queues = [] ∧ t.slots = s.slots ∧ t.regions = s.regions) ∧
  (∀ (f : Flush) (s : State), s.phase = stFlushing → s.gov.flush = some f → f.step = 10 → s.seq = seqOn → 10 <
    s.boot.step → s.evq = [] → s.bit D.PWR_PFSTAT_inok = false → f.cause ≠ 2 → s.rd D.PWR_SEQSTAT_en ≠ 0 →
    Answers .flushRecordDone s fun t => t.gov.rec0.valid = true ∧ t.gov.rec0.abandoned = f.abandoned ∧
    t.gov.rec0.cause = s.rd D.PWR_PGSTAT_cause ∧ t.gov.rec0.time = s.now ∧ t.gov.rec0.start = s.boot.startCount
    ∧ t.gov.rec0.head = s.rd D.REC_HEAD_seq ∧ t.gov.recCopy = 1 - s.gov.recCopy ∧ t.seq = seqDown ∧ t.phase =
    stFlushing ∧ ∀ k, k < 4 → t.rd D.PWR_RST_asserted k = 1) ∧
  (∀ (s : State), s.phase = stResetting → s.boot.step = 2 → Answers .resetHoldEnd s fun t => t.phase =
    stStarting ∧ t.boot = { s.boot with step := 3 } ∧ s.RegsBut [D.GBL_STAT_state.key 0] t ∧ s.Only [.regs,
    .boot] t) ∧
  (∀ (f : Flush) (s : State), s.phase = stFlushing → s.gov.flush = some f → f.step ≤ 9 → f.watch = true →
    f.abandoned = false → s.euNow ≤ s.rd D.PWR_PGPARAM_ereserve * 1000 → Answers .flushEnergyCheck s fun t =>
    t.gov.flush = some { f with abandonDue := true } ∧ s.Only [.gov] t) ∧
  (∀ (f : Flush) (s : State), s.phase = stFlushing → s.gov.flush = some f → f.step ≤ 9 → f.watch = false ∨
    s.rd D.PWR_PGPARAM_ereserve * 1000 < s.euNow → Answers .flushEnergyCheck s fun t => t = s) ∧
  (∀ (f : Flush) (s : State), s.phase = stFlushing → s.gov.flush = some f → f.abandonDue = true → f.step ≤ 8 →
    s.med.updates.all (fun u => u.dataDone == u.parDone) = true → f.step ≠ 7 → 2 < f.step → s.med.parts = [] →
    Answers .flushAbandon s fun t => t.gov.flush = some
    { f with step := 9, abandoned := true, abandonDue := false, ranges := s.chargedRanges, updates := s.openPairs, regLost := (if f.step < 7 then s.rgr.buf.length else 0) }
    ∧ s.Logged E.PWR_PG_ABANDON 0 f.step s.dirty t ∧ t.med =
    { s.med with updates := [], builders := [], jpend := [], rels := [] } ∧ (f.step < 7 → t.rgr.step7 = some
    (s.rd D.REC_HEAD_seq) ∧ t.rgr.buf = [])) ∧
  (∀ (f : Flush) (s : State), s.phase = stFlushing → s.gov.flush = some f → f.abandonDue = true → f.step ≤ 8 →
    s.med.updates.all (fun u => u.dataDone == u.parDone) = true → f.step = 2 → s.med.parts = [] → (∀ c ∈
    SMap.keys s.cur.ctxs, (s.ctx c).sb = []) → (SMap.keys s.cur.ctxs).Nodup → Answers .flushAbandon s fun t =>
    t.cur.interrupted = s.cur.interrupted ++ s.busyCtxs.map (fun c => ((s.ctx c).cq, (s.ctx c).callProg, (s.ctx
    c).tag, (s.ctx c).lost, (s.ctx c).priv.code)) ∧ (∀ c, (t.ctx c).st = .idle) ∧ s.Logged E.PWR_PG_ABANDON 0 2
    s.dirty t ∧ ∃ g, t.gov.flush = some g ∧ g.step = 9 ∧ g.abandoned = true) ∧
  (∀ (f : Flush) (s : State), s.phase = stFlushing → s.gov.flush = some f → f.abandonDue = true → f.step ≤ 8 →
    s.med.updates.all (fun u => u.dataDone == u.parDone) = true → s.med.parts.any (fun e => decide (e.2.op ≠
    .idle)) = true → Answers .flushAbandon s fun t => t = s)

/-- A BEST read goes direct, a BOUNDED one direct where its partition starts within 300 ns; a read of an
unavailable member reconstructs from the others; a direct read that decodes, carries its tag and verifies
ends, and a BOUNDED one that does not decode reconstructs; a source joins the XOR; a read at an idle
partition takes its array at once; a pause miss is logged and counted, and a BOUNDED read then reconstructs;
a waiting BEST read suspends the write and is read next; a token locks it; a verified write leaves its
image; an in-place write-back opens an update with the new data image and the parity image that R133 gives.
Where the rules leave a choice, the model's own is in log entries 4, 17, 21, 92, 184. Each clause says that
the command answers a next state under conditions on the state and operands alone: mediaReadRequest,
leafReadDone, reconstructSourceDone, pauseMiss, bestwaitExpire, rowTokenGrant, leafWriteDone,
inplaceWriteback. -/
def Obligations.MediaLeavesReadAndWrite : Prop :=
  (∀ (tile : Fin 536870912) (leaf : Fin 64) (left : List (Nat × Nat)) (r : MRead) (s : State), s.mread tile
    leaf = some r → r.bounded = false → r.path = .queued ∨ (r.path = .waiting ∧ r.tried = []) → s.unavail
    (partKey (s.readPlace r)) = false → Answers (.mediaReadRequest tile leaf left) s fun t => t.mread tile leaf
    = some
    { r with path := .direct, adm := [], tried := if r.tried = [] then [s.firstBin (s.readPlace r)] else r.tried }
    ∧ s.Only [.regs, .med] t) ∧
  (∀ (tile : Fin 536870912) (leaf : Fin 64) (left : List (Nat × Nat)) (r : MRead) (s : State), s.med.reads =
    [r] → s.mread tile leaf = some r → r.bounded = false → r.path = .queued → s.unavail (partKey (s.readPlace
    r)) = false → (s.part (partKey (s.readPlace r))).op = .idle → s.arrayRead (partKey (s.readPlace r)) = false
    → s.med.updates = [] → Answers (.mediaReadRequest tile leaf left) s fun t => (t.part (partKey (s.readPlace
    r))).reader = some r.key) ∧
  (∀ (tile : Fin 536870912) (leaf : Fin 64) (left : List (Nat × Nat)) (r : MRead) (s : State), s.mread tile
    leaf = some r → r.bounded = true → r.path = .queued ∨ (r.path = .waiting ∧ r.tried = []) → s.soon left
    (partKey (s.readPlace r)) = true → s.chanAdmits (partKey (s.readPlace r)) = true → s.partAdmits (partKey
    (s.readPlace r)) = true → Answers (.mediaReadRequest tile leaf left) s fun t => (t.mread tile leaf).map (fun
    q => (q.path, q.adm)) = some (.direct, [(partKey (s.readPlace r))]) ∧ s.Only [.regs, .med] t) ∧
  (∀ (tile : Fin 536870912) (leaf : Fin 64) (left : List (Nat × Nat)) (r : MRead) (s : State), s.mread tile
    leaf = some r → r.bounded = false → r.path = .queued ∨ (r.path = .waiting ∧ r.tried = []) → s.unavail
    (partKey (s.readPlace r)) = true → s.lostPart (partKey (s.readPlace r)) = false → (s.stripe (stripeOf
    (s.readPlace r))).exposed = none → (s.others (s.readPlace r)).all (fun j => !s.unavail (memberPart
    (s.readPlace r) j)) = true → Answers (.mediaReadRequest tile leaf left) s fun t => (t.mread tile leaf).map
    (fun q => (q.path, q.need, q.acc)) = some (.recon, s.others (s.readPlace r), 0) ∧ t.rd D.MED_RECON_count =
    (s.rd D.MED_RECON_count + 1) % D.MED_RECON_count.cap ∧ s.Only [.regs, .med] t) ∧
  (∀ (tile : Fin 536870912) (leaf : Fin 64) (errs : Image) (slow : Bool) (k : Bytes) (r : MRead) (s : State),
    s.mread tile leaf = some r → r.path = .direct → s.lostPart (partKey (s.readPlace r)) = false → s.holdsArray
    (partKey (s.readPlace r)) r = true → s.NoInj → r.tried.length ≤ 1 → r.reconTried = false → decodes
    (s.tileLight tile) errs = true → tagOk tile (s.imageNow (s.readPlace r) leaf) = true → s.baseKey tile = some
    k → macOk k tile leaf (s.imageNow (s.readPlace r) leaf) = true → s.coh.txns = [] → s.coh.conf = [] → Answers
    (.leafReadDone tile leaf errs slow) s fun t => t.med.reads = s.med.reads.filter (fun q => !decide (q.tile =
    tile.val ∧ q.leaf = leaf.val)) ∧ t.med.lost = s.med.lost ∧ t.med.img = s.med.img ∧ t.coh = s.coh) ∧
  (∀ (tile : Fin 536870912) (leaf : Fin 64) (errs : Image) (slow : Bool) (r : MRead) (s : State), s.mread tile
    leaf = some r → r.path = .direct → s.lostPart (partKey (s.readPlace r)) = false → s.holdsArray (partKey
    (s.readPlace r)) r = true → s.NoInj → r.bounded = true → r.reconTried = false → decodes (s.tileLight tile)
    errs = false → (s.stripe (stripeOf (s.readPlace r))).exposed = none → (s.others (s.readPlace r)).all (fun j
    => !s.unavail (memberPart (s.readPlace r) j)) = true → Answers (.leafReadDone tile leaf errs slow) s fun t
    => (t.mread tile leaf).map (fun q => (q.path, q.need)) = some (.recon, s.others (s.readPlace r)) ∧ t.rd
    D.MED_CHERR_uncorr (chanOf (s.readPlace r)) = min (D.MED_CHERR_uncorr.cap - 1) (s.rd D.MED_CHERR_uncorr
    (chanOf (s.readPlace r)) + 1)) ∧
  (∀ (tile : Fin 536870912) (leaf : Fin 64) (member : Fin 16) (slow : Bool) (r : MRead) (s : State), s.mread
    tile leaf = some r → r.path = .recon → r.need.contains member.val = true → s.fromBuffer r member = false →
    s.holdsArray (partKey (tileOfMember (stripeOf (s.readPlace r)) member)) r = true → r.need.filter (fun j =>
    decide (j ≠ member.val)) ≠ [] → Answers (.reconstructSourceDone tile leaf member [] slow) s fun t => t.mread
    tile leaf = some
    { r with need := r.need.filter (fun j => decide (j ≠ member.val)), acc := r.acc ^^^ s.imageNow (tileOfMember (stripeOf (s.readPlace r)) member) leaf, adm := r.adm.filter (fun k => decide (k ≠ partKey (tileOfMember (stripeOf (s.readPlace r)) member))) }
    ∧ s.Only [.regs, .med] t) ∧
  (∀ (tile : Fin 536870912) (leaf : Fin 64) (member : Fin 16) (slow : Bool) (k : Bytes) (r : MRead) (s :
    State), s.mread tile leaf = some r → r.path = .recon → r.need = [member.val] → r.tried = [] → s.fromBuffer r
    member = false → s.holdsArray (partKey (tileOfMember (stripeOf (s.readPlace r)) member)) r = true → s.NoInj
    → tagOk tile (r.acc ^^^ s.imageNow (tileOfMember (stripeOf (s.readPlace r)) member) leaf) = true → s.baseKey
    tile = some k → macOk k tile leaf (r.acc ^^^ s.imageNow (tileOfMember (stripeOf (s.readPlace r)) member)
    leaf) = true → s.coh.txns = [] → s.coh.conf = [] → s.med.updates = [] → Answers (.reconstructSourceDone tile
    leaf member [] slow) s fun t => t.med.reads = s.med.reads.filter (fun q => !decide (q.tile = tile.val ∧
    q.leaf = leaf.val)) ∧ t.med.lost = s.med.lost ∧ t.coh = s.coh) ∧
  (∀ (tile : Fin 536870912) (leaf : Fin 64) (member : Fin 16) (errs : List Image) (slow : Bool) (r : MRead) (s
    : State), s.mread tile leaf = some r → r.path = .recon → r.late = none → r.need.contains member.val = true →
    s.fromBuffer r member = false → s.holdsArray (partKey (tileOfMember (stripeOf (s.readPlace r)) member)) r =
    true → r.need.filter (fun j => decide (j ≠ member.val)) ≠ [] → errs.all (fun e => decodes (s.stripe
    (stripeOf (s.readPlace r))).light e) = true → Answers (.reconstructSourceDone tile leaf member errs slow) s
    fun t => (t.mread tile leaf).map (fun q => (q.path, q.need, q.late)) = some (.recon, r.need.filter (fun j =>
    decide (j ≠ member.val)), none)) ∧
  (∀ (tile : Fin 536870912) (leaf : Fin 64) (r : MRead) (s : State), s.mread tile leaf = some r → r.path =
    .direct → (s.part (partKey (s.readPlace r))).op = .suspended → s.holdsArray (partKey (s.readPlace r)) r =
    true → s.NoInj → (s.die (dieKey (s.readPlace r))).misses = [] → s.phase ≠ stRomRecovery → r.bounded = false
    → Answers (.pauseMiss tile leaf) s fun t => s.Logged E.MED_PAUSE_MISS (chanOf (s.readPlace r)) (dieOf
    (s.readPlace r)) 0 t ∧ (t.die (dieKey (s.readPlace r))).misses = [s.now] ∧ t.mread tile leaf = some r ∧
    s.Only [.evq, .med] t) ∧
  (∀ (tile : Fin 536870912) (leaf : Fin 64) (r : MRead) (s : State), s.mread tile leaf = some r → r.path =
    .direct → (s.part (partKey (s.readPlace r))).op = .suspended → s.holdsArray (partKey (s.readPlace r)) r =
    true → s.NoInj → (s.die (dieKey (s.readPlace r))).misses = [] → s.phase ≠ stRomRecovery → r.bounded = true →
    r.late = none → (s.stripe (stripeOf (s.readPlace r))).exposed = none → (s.others (s.readPlace r)).all (fun j
    => !s.unavail (memberPart (s.readPlace r) j)) = true → Answers (.pauseMiss tile leaf) s fun t => s.Logged
    E.MED_PAUSE_MISS (chanOf (s.readPlace r)) (dieOf (s.readPlace r)) 0 t ∧ (t.mread tile leaf).map (fun q =>
    (q.path, q.need, q.late)) = some (.recon, s.others (s.readPlace r), some latePauseMiss)) ∧
  (∀ (tile : Fin 536870912) (leaf : Fin 64) (r : MRead) (s : State), s.mread tile leaf = some r → r.path =
    .direct → r.adm = [] → (s.part (partKey (s.readPlace r))).op = .writing → (s.part (partKey (s.readPlace
    r))).commit = false → (s.part (partKey (s.readPlace r))).locked = false → s.arrayRead (partKey (s.readPlace
    r)) = false → Answers (.bestwaitExpire tile leaf) s fun t => t.part (partKey (s.readPlace r)) =
    { s.part (partKey (s.readPlace r)) with op := .suspended, susp := (s.part (partKey (s.readPlace r))).susp + 1, reader := some r.key }
    ∧ s.Only [.regs, .med] t) ∧
  (∀ (part : Fin 2048) (s : State), (s.part part).op ≠ .idle → s.rd D.MED_SCHED_maxsusp ≤ (s.part part).susp →
    (s.part part).locked = false → s.tokenFree (rowOfPart part) = true → s.arrayRead part = false → Answers
    (.rowTokenGrant part) s fun t => SMap.find t.med.tokens (rowOfPart part) = some part.val ∧ (t.part
    part).locked = true ∧ (t.part part).op = .writing ∧ s.Only [.med] t) ∧
  (∀ (part : Fin 2048) (s : State), (s.part part).op = .writing → s.NoInj → Answers (.leafWriteDone part true)
    s fun t => SMap.get 0 t.med.img (s.part part).wleaf = (s.part part).wimg ∧ (t.part part).op = .idle ∧ (t.die
    (part / 8)).cmdErr = 0) ∧
  (∀ (part : Fin 2048) (s : State), (s.part part).op = .writing → s.NoInj → Answers (.leafWriteDone part
    false) s fun t => (t.part part).op = .idle ∧ t.rd D.CON_ERRCNT_wvfail = min (D.CON_ERRCNT_wvfail.cap - 1)
    (s.rd D.CON_ERRCNT_wvfail + 1)) ∧
  (∀ (tile : Fin 536870912) (leaf : Fin 64) (pick : Fin 33554432) (errs perrs : Image) (k : Bytes) (s :
    State), s.atStep 8 = false → isSysTile tile = false → decodes (s.stripe (stripeOf (s.catEnt
    tile).phys)).light errs = true → decodes (s.stripe (stripeOf (s.catEnt tile).phys)).light perrs = true →
    s.dirtyOfLeaf tile leaf ≠ [] → s.inPlace tile = true → s.heldTile tile = false → s.med.stg.all (fun e =>
    !e.2.poison) = true → (s.catEnt tile).st = .mapped → (s.catEnt tile).written.getLsbD leaf = false →
    s.baseKey tile = some k → s.updating (stripeOf (s.catEnt tile).phys) leaf = false → s.unavail (partKey
    (s.catEnt tile).phys) = false → (s.stripe (stripeOf (s.catEnt tile).phys)).exposed = none → s.unavail
    (memberPart (s.catEnt tile).phys (s.stripe (stripeOf (s.catEnt tile).phys)).ppos) = false → Answers
    (.inplaceWriteback tile leaf (pick, errs, perrs)) s fun t => ∃ u, t.med.updates = s.med.updates ++ [u] ∧
    u.stripe = stripeOf (s.catEnt tile).phys ∧ u.pos = leaf.val ∧ u.tile = some tile.val ∧ u.newData =
    buildImage k (s.stripe (stripeOf (s.catEnt tile).phys)).light tile leaf s.now (s.mergeStaged tile leaf 0) ∧
    u.newPar = s.imageNow (tileOfMember (stripeOf (s.catEnt tile).phys) (s.stripe (stripeOf (s.catEnt
    tile).phys)).ppos) leaf ^^^ s.imageNow (s.catEnt tile).phys leaf ^^^ u.newData ∧ u.seq = s.med.jnext)

/-- Each command of a channel to a die that answers is sent and has its effect on the partitions of the die;
one with bad parity is ignored and counts as an error status; three failures in a row retire the die; a
sequencer fault reloads microcode once and then retires the channel; a die at the deferral temperature
defers writes, and no deferral begins during a flush; a back-off ends after a second with its dies cool;
IDCODE returns the identification, and outside ROM_RECOVERY a boundary scan instruction acts as BYPASS.
Where the rules leave a choice, the model's own is in log entries 3, 17, 42, 84, 88, 89, 90, 91. Each clause
says that the command answers a next state under conditions on the state and operands alone: mediaRead,
mediaWrite, mediaSuspend, mediaResume, mediaStatus, mediaTemp, mediaIdent, mediaDiereset, mediaCmdTimeout,
malertN, sequencerFault, ddr4ParityAlert, dieTempRead, backoffEnd, jtagInstruction. -/
def Obligations.MediaBusAndTemperatures : Prop :=
  (∀ (ch : Fin 32) (die part : Fin 8) (leaf : Fin 16777216) (vref : BitVec 8) (tsense : BitVec 4) (errs :
    Image) (s : State), s.dieUp (ch.val * 8 + die.val) = true → (s.part (partNo ch die part)).op ≠ .writing →
    Answers (.mediaRead ch die part leaf vref tsense errs true) s fun t => t.out = .mediaData ch (s.image
    (busTile ch die part leaf) (leaf.val % 64) ^^^ errs) :: .media ch die part 1 leaf :: s.out ∧ s.Only [.med,
    .out] t) ∧
  (∀ (ch : Fin 32) (die part : Fin 8) (leaf : Fin 16777216) (vref : BitVec 8) (tsense : BitVec 4) (errs :
    Image) (s : State), s.dieUp (ch.val * 8 + die.val) = true → (s.die (ch.val * 8 + die.val)).cmdErr < 2 →
    Answers (.mediaRead ch die part leaf vref tsense errs false) s fun t => t.out = .malert ch :: .media ch die
    part 1 leaf :: s.out ∧ (t.die (ch.val * 8 + die.val)).cmdErr = (s.die (ch.val * 8 + die.val)).cmdErr + 1 ∧
    s.Only [.med, .out] t) ∧
  (∀ (ch : Fin 32) (die part : Fin 8) (leaf : Fin 16777216) (i : Image) (s : State), s.dieUp (ch.val * 8 +
    die.val) = true → s.pendingImage (busTile ch die part leaf) (leaf.val % 64) = some i → (s.part (partNo ch
    die part)).op = .idle → s.arrayRead (partNo ch die part) = false → s.unavail (partNo ch die part) = false →
    s.noWrite (partNo ch die part) = false → s.firstWaits (partNo ch die part) = false → s.bestWaits ch = false
    → s.rd D.CON_DIE_nosusp (ch.val * 8 + die.val) = 0 → Answers (.mediaWrite ch die part leaf true) s fun t =>
    (t.part (partNo ch die part)).op = .writing ∧ (t.part (partNo ch die part)).wimg = i ∧ (t.part (partNo ch
    die part)).wleaf = busTile ch die part leaf * 64 + leaf.val % 64 ∧ t.out = .media ch die part 2 leaf ::
    s.out ∧ s.Only [.med, .out] t) ∧
  (∀ (ch : Fin 32) (die part : Fin 8) (s : State), s.dieUp (ch.val * 8 + die.val) = true → (s.part (partNo ch
    die part)).op = .writing → (s.part (partNo ch die part)).commit = false → (s.part (partNo ch die
    part)).locked = false → Answers (.mediaSuspend ch die part true) s fun t => (t.part (partNo ch die part)).op
    = .suspended ∧ t.out = .media ch die part 3 0 :: s.out ∧ s.Only [.regs, .med, .out] t) ∧
  (∀ (ch : Fin 32) (die part : Fin 8) (s : State), s.dieUp (ch.val * 8 + die.val) = true → (s.part (partNo ch
    die part)).op = .suspended → s.arrayRead (partNo ch die part) = false → Answers (.mediaResume ch die part
    true) s fun t => t.part (partNo ch die part) = { s.part (partNo ch die part) with op := .writing } ∧ t.out =
    .media ch die part 4 0 :: s.out ∧ s.Only [.med, .out] t) ∧
  (∀ (ch : Fin 32) (die : Fin 8) (commit vfail : BitVec 8) (s : State), s.dieUp (ch.val * 8 + die.val) = true
    → Answers (.mediaStatus ch die commit vfail true) s fun t => (∀ p, p < 8 → t.part (partNo ch die p) =
    { s.part (partNo ch die p) with commit := commit.getLsbD p && decide ((s.part (partNo ch die p)).op = .writing) })
    ∧ t.out.length = s.out.length + 2 ∧ s.Only [.med, .out] t) ∧
  (∀ (ch : Fin 32) (die : Fin 8) (temp : BitVec 8) (s : State), s.dieUp (ch.val * 8 + die.val) = true →
    Answers (.mediaTemp ch die temp true) s fun t => t.out = .mediaBytes ch 2 (temp.signExtend 16).toNat ::
    .media ch die 0 6 0 :: s.out ∧ s.Only [.med, .out] t) ∧
  (∀ (ch : Fin 32) (die : Fin 8) (page : Image) (s : State), s.dieUp (ch.val * 8 + die.val) = true → Answers
    (.mediaIdent ch die page true) s fun t => t.out = .mediaData ch page :: .media ch die 0 7 0 :: s.out ∧
    s.Only [.med, .out] t) ∧
  (∀ (ch : Fin 32) (die : Fin 8) (s : State), s.dieUp (ch.val * 8 + die.val) = true → Answers (.mediaDiereset
    ch die true) s fun t => (∀ p, p < 8 → (t.part (partNo ch die p)).op = .idle ∧ (s.med.reads = [] → (t.part
    (partNo ch die p)).reader = none)) ∧ t.out = .media ch die 0 8 0 :: s.out ∧ s.Only [.med, .out] t) ∧
  (∀ (ch : Fin 32) (die : Fin 8) (part : Fin 8) (leaf : Fin 16777216) (s : State), s.dieUp (ch.val * 8 +
    die.val) = true → (s.die (ch.val * 8 + die.val)).cmdErr < 2 → Answers (.mediaWrite ch die part leaf false) s
    fun t => t.out = .malert ch :: .media ch die part 2 leaf :: s.out ∧ (t.die (ch.val * 8 + die.val)).cmdErr =
    (s.die (ch.val * 8 + die.val)).cmdErr + 1 ∧ s.Only [.med, .out] t) ∧
  (∀ (ch : Fin 32) (die : Fin 8) (part : Fin 8) (s : State), s.dieUp (ch.val * 8 + die.val) = true → (s.die
    (ch.val * 8 + die.val)).cmdErr < 2 → Answers (.mediaSuspend ch die part false) s fun t => t.out = .malert ch
    :: .media ch die part 3 0 :: s.out ∧ (t.die (ch.val * 8 + die.val)).cmdErr = (s.die (ch.val * 8 +
    die.val)).cmdErr + 1 ∧ s.Only [.med, .out] t) ∧
  (∀ (ch : Fin 32) (die : Fin 8) (part : Fin 8) (s : State), s.dieUp (ch.val * 8 + die.val) = true → (s.die
    (ch.val * 8 + die.val)).cmdErr < 2 → Answers (.mediaResume ch die part false) s fun t => t.out = .malert ch
    :: .media ch die part 4 0 :: s.out ∧ (t.die (ch.val * 8 + die.val)).cmdErr = (s.die (ch.val * 8 +
    die.val)).cmdErr + 1 ∧ s.Only [.med, .out] t) ∧
  (∀ (ch : Fin 32) (die : Fin 8) (commit vfail : BitVec 8) (s : State), s.dieUp (ch.val * 8 + die.val) = true
    → (s.die (ch.val * 8 + die.val)).cmdErr < 2 → Answers (.mediaStatus ch die commit vfail false) s fun t =>
    t.out = .malert ch :: .media ch die 0 5 0 :: s.out ∧ (t.die (ch.val * 8 + die.val)).cmdErr = (s.die (ch.val
    * 8 + die.val)).cmdErr + 1 ∧ s.Only [.med, .out] t) ∧
  (∀ (ch : Fin 32) (die : Fin 8) (temp : BitVec 8) (s : State), s.dieUp (ch.val * 8 + die.val) = true → (s.die
    (ch.val * 8 + die.val)).cmdErr < 2 → Answers (.mediaTemp ch die temp false) s fun t => t.out = .malert ch ::
    .media ch die 0 6 0 :: s.out ∧ (t.die (ch.val * 8 + die.val)).cmdErr = (s.die (ch.val * 8 + die.val)).cmdErr
    + 1 ∧ s.Only [.med, .out] t) ∧
  (∀ (ch : Fin 32) (die : Fin 8) (page : Image) (s : State), s.dieUp (ch.val * 8 + die.val) = true → (s.die
    (ch.val * 8 + die.val)).cmdErr < 2 → Answers (.mediaIdent ch die page false) s fun t => t.out = .malert ch
    :: .media ch die 0 7 0 :: s.out ∧ (t.die (ch.val * 8 + die.val)).cmdErr = (s.die (ch.val * 8 +
    die.val)).cmdErr + 1 ∧ s.Only [.med, .out] t) ∧
  (∀ (ch : Fin 32) (die : Fin 8) (s : State), s.dieUp (ch.val * 8 + die.val) = true → (s.die (ch.val * 8 +
    die.val)).cmdErr < 2 → Answers (.mediaDiereset ch die false) s fun t => t.out = .malert ch :: .media ch die
    0 8 0 :: s.out ∧ (t.die (ch.val * 8 + die.val)).cmdErr = (s.die (ch.val * 8 + die.val)).cmdErr + 1 ∧ s.Only
    [.med, .out] t) ∧
  (∀ (die : Fin 256) (s : State), s.dieUp die = true → (s.die die).cmdErr < 2 → Answers (.mediaCmdTimeout die)
    s fun t => (t.die die).cmdErr = (s.die die).cmdErr + 1 ∧ s.Only [.med] t) ∧
  (∀ (die : Fin 256) (s : State), s.dieUp die = true → 2 ≤ (s.die die).cmdErr → Answers (.mediaCmdTimeout die)
    s fun t => (t.die die).retired = true) ∧
  (∀ (ch : Fin 32) (die : Fin 8) (s : State), s.dieUp (ch.val * 8 + die.val) = true → Answers (.malertN ch
    die) s fun t => t.out = .media ch die 0 5 0 :: s.out ∧ s.Only [.out] t) ∧
  (∀ (ch : Fin 32) (s : State), (s.chan ch).gone = false → (s.chan ch).reloaded = false → Answers
    (.sequencerFault ch) s fun t => t.chan ch = { s.chan ch with reloaded := true } ∧ s.Only [.med] t) ∧
  (∀ (ch : Fin 32) (s : State), (s.chan ch).gone = false → (s.chan ch).reloaded = true → Answers
    (.sequencerFault ch) s fun t => (t.chan ch).gone = true) ∧
  (∀ (line : Fin 4294967296) (s : State), SMap.get 0 s.stgE.alerts line < 3 → Answers (.ddr4ParityAlert line)
    s fun t => SMap.get 0 t.stgE.alerts line = SMap.get 0 s.stgE.alerts line + 1 ∧ s.Only [.stgE] t) ∧
  (∀ (die : Fin 256) (temp : BitVec 8) (s : State), s.dieUp die = true → s.isFlushing = false → (s.rd
    D.THM_MEDCFG_defer : Int) ≤ temp.toInt → temp.toInt < (s.rd D.THM_MEDCFG_backoff : Int) → Answers
    (.dieTempRead die temp) s fun t => t.rd D.CON_DIE_temp die = temp.toNat ∧ (t.die die).defer = true) ∧
  (∀ (die : Fin 256) (temp : BitVec 8) (s : State), s.dieUp die = true → s.isFlushing = false → temp.toInt <
    (s.rd D.THM_MEDCFG_defer : Int) - 5 → temp.toInt < (s.rd D.THM_MEDCFG_backoff : Int) → Answers (.dieTempRead
    die temp) s fun t => t.rd D.CON_DIE_temp die = temp.toNat ∧ (t.die die).defer = false ∧ s.Only [.regs, .med]
    t) ∧
  (∀ (die : Fin 256) (temp : BitVec 8) (s : State), s.dieUp die = true → s.isFlushing = true → Answers
    (.dieTempRead die temp) s fun t => t.rd D.CON_DIE_temp die = temp.toNat ∧ s.Only [.regs] t) ∧
  (∀ (ch : Fin 32) (s : State), (s.chan ch).backoff = true → (s.chan ch).since + 1000000000 ≤ s.now →
    (List.range 8).all (fun d => !s.dieUp (ch.val * 8 + d) || decide (s.dieTemp (ch.val * 8 + d) < (s.rd
    D.THM_MEDCFG_backoff : Int) - 5)) = true → Answers (.backoffEnd ch) s fun t => (t.chan ch).backoff = false ∧
    s.Only [.regs, .med] t) ∧
  (∀ (s : State), Answers (.jtagInstruction 1) s fun t => t.aon.jtag = 1 ∧ t.out = .jtag 0x17620001 :: s.out ∧
    s.Only [.aon, .out] t) ∧
  (∀ (s : State), Answers (.jtagInstruction 0) s fun t => t.aon.jtag = 0 ∧ s.Only [.aon] t) ∧
  (∀ (s : State), s.phase ≠ stRomRecovery → Answers (.jtagInstruction 2) s fun t => t.aon.jtag = 0 ∧ s.Only
    [.aon] t)

/-- A WRITTEN entry takes effect with its journal leaf, and a full journal writes none; a checkpoint starts
with its entry, by itself once 1 GiB of journal is not covered, and ends with its copy complete; a dirty
APPEND line joins the builder of its tile, an incomplete leaf spills, age closes a builder, and a closing
builder with no tile leaves its stripe FREE; a channel pauses when its half is free and resumes when it is
told to. Where the rules leave a choice, the model's own is in log entries 76, 99, 108. Each clause says
that the command answers a next state under conditions on the state and operands alone: journalWrite,
checkpoint, checkpointDone, builderLine, builderSpill, builderAgeExpire, builderStripeVerified,
channelPauseRequest, channelPauseEnter, channelPauseEnd. -/
def Obligations.JournalBuildersAndPauses : Prop :=
  (∀ (e : JEnt) (s : State), s.med.jpend = [e] → e.type = 3 → e.gcount = 1 → e.gindex = 0 → e.seq <
    s.med.jnext → s.med.rels = [] → s.journalFull = false → s.med.jnext + 7 < ckptEntries → Answers
    (.journalWrite) s fun t => (t.catEnt e.tile).written = (s.catEnt e.tile).written ||| BitVec.ofNat 64 e.arg0
    ∧ t.med.jpend = [] ∧ SMap.find t.med.jrnl e.seq = some e ∧ t.med.jnext = s.med.jnext + 7) ∧
  (∀ (e : JEnt) (s : State), s.med.jpend = [e] → e.type = 3 → s.med.rels = [] → s.journalFull = false →
    s.med.ckpt = none → ckptEntries + max 1 s.ckptS ≤ s.med.jnext + 7 → s.med.jnext + 7 < D.MED_JRNLSEQ_seq.cap
    → Answers (.journalWrite) s fun t => t.med.ckpt.map Prod.snd = some (s.med.jnext + 7) ∧ t.rd
    D.MED_CKPT_running = 1) ∧
  (∀ (s : State), s.med.jpend ≠ [] → s.journalFull = true → s.phase ≠ stRomRecovery → Answers (.journalWrite)
    s fun t => s.Logged E.MED_JRNL_FULL 0 0 (s.rd D.MED_JRNLSEQ_seq) t ∧ s.Only [.evq] t) ∧
  (∀ (s : State), s.med.ckpt = none → Answers (.checkpoint) s fun t => t.rd D.MED_CKPT_running = 1 ∧
    t.med.ckpt.map Prod.snd = some s.med.jnext ∧ t.med.jpend.length = s.med.jpend.length + 1 ∧ s.Only [.regs,
    .med] t) ∧
  (∀ (k q : Nat) (s : State), s.med.ckpt = some (k, q) → q ≤ s.rd D.MED_JRNLSEQ_seq → Answers
    (.checkpointDone) s fun t => t.med.ckpt = none ∧ SMap.find t.med.copies k = some ⟨q, true, s.med.cat⟩ ∧ t.rd
    D.MED_CKPT_running = 0 ∧ s.Only [.regs, .med] t) ∧
  (∀ (line : Fin 137438953472) (pick : Fin 33554432) (e : StLine) (b : Builder) (s : State), SMap.find
    s.med.stg line = some e → e.dirty = true → e.poison = false → s.inPlace (tileOf line) = false → (s.baseKey
    (tileOf line)).isSome = true → s.unmapDue (tileOf line) = false → s.med.builders = [b] → b.slots = [(tileOf
    line, 0)] → b.closing = false → Answers (.builderLine line pick) s fun t => SMap.find t.med.stg line = none
    ∧ ∃ c, t.med.builders = [c] ∧ c.id = b.id ∧ SMap.find c.lines (line.val % 256) = some (s.belowNow (s.glOf
    line)).1) ∧
  (∀ (builder : Nat) (slot : Fin 15) (leaf : Fin 64) (b : Builder) (s : State), s.med.builders = [b] → b.id =
    builder → (List.range 4).any (fun i => SMap.has b.lines (slot.val * 256 + leaf.val * 4 + i)) = true →
    b.leafFull slot leaf = false → b.spilled = [] → s.phase ≠ stRomRecovery → Answers (.builderSpill builder
    slot leaf) s fun t => t.med.builders = [{ b with spilled := [slot.val * 64 + leaf.val] }] ∧ s.Logged
    E.MED_BUILDER_SPILL (chanOf (tileOfMember b.stripe ((b.slots[slot.val]?.map Prod.snd).getD 0))) b.region 0 t
    ∧ s.Only [.evq, .med] t) ∧
  (∀ (builder : Nat) (b : Builder) (s : State), s.med.builders = [b] → b.id = builder → Answers
    (.builderAgeExpire builder) s fun t => t.med.builders = [{ b with closing := true }] ∧ s.Only [.med] t) ∧
  (∀ (builder : Nat) (b : Builder) (s : State), s.med.builders = [b] → b.id = builder → b.slots = [] →
    b.closing = true → (s.stripe b.stripe).members.any (fun j => s.noWrite (memberPart b.stripe j)) = false →
    Answers (.builderStripeVerified builder []) s fun t => t.med.builders = [] ∧ (t.stripe b.stripe).st = 0 ∧
    (t.stripe b.stripe).mapped = 0) ∧
  (∀ (builder : Nat) (tile j : Nat) (b : Builder) (s : State), s.med.builders = [b] → b.id = builder → b.slots
    = [(tile, j)] → b.closing = true → s.med.moves = [] → (List.range 64).all (fun n => b.written.contains n) =
    true → (s.stripe b.stripe).members.any (fun j => s.noWrite (memberPart b.stripe j)) = false → Answers
    (.builderStripeVerified builder []) s fun t => t.med.builders = [] ∧ (t.stripe b.stripe).st = 2 ∧ (t.stripe
    b.stripe).mapped = 1 ∧ ∃ e, e ∈ t.med.jpend ∧ e.type = 1 ∧ e.tile = tile) ∧
  (∀ (builder : Nat) (fails : List (Fin 16)) (b : Builder) (s : State), s.med.builders = [b] → b.id = builder
    → b.slots = [] → b.closing = true → (s.stripe b.stripe).members.any (fun j => s.noWrite (memberPart b.stripe
    j)) = false → Answers (.builderStripeVerified builder fails) s fun t => t.med.builders = []) ∧
  (∀ (ch : Fin 32) (s : State), (s.chan ch).gone = false → (s.chan ch).paused = false → s.isFlushing = false →
    Answers (.channelPauseRequest ch) s fun t => (t.chan ch).want = true ∧ t.rd D.MED_CHCTL_pause ch = 1 ∧
    s.Only [.regs, .med] t) ∧
  (∀ (ch : Fin 32) (s : State), (s.chan ch).want = true → (s.chan ch).paused = false → s.isFlushing = false →
    s.med.tokens = [] → (List.range 64).all (fun r => decide (s.rowUnavail (ch / 16 * 64 + r) = [])) = true →
    s.phase ≠ stRomRecovery → Answers (.channelPauseEnter ch) s fun t => (t.chan ch).paused = true ∧ s.Logged
    E.MED_CH_PAUSE ch (b2n (s.chan ch).activation) 0 t ∧ s.Only [.regs, .evq, .med] t) ∧
  (∀ (ch : Fin 32) (s : State), (s.chan ch).paused = true → (s.chan ch).activation = false → s.phase ≠
    stRomRecovery → Answers (.channelPauseEnd ch) s fun t => (t.chan ch).paused = false ∧ (t.chan ch).want =
    false ∧ s.Logged E.MED_CH_RESUME ch 0 0 t ∧ s.Only [.regs, .evq, .med] t)

/-- A pending record goes to media and takes effect; chunks rotate; a tile forced out or due for refresh
moves to the coldest FREE tile of an INUSE stripe with MOVE_BEGIN journalled, ends its copy with MOVE_END,
and leaves a FREE or RETIRED tile behind; an excision logs EXCISE_BEGIN, exposes its stripe and rewrites
parity without the member, and its end makes the member gone. Where the rules leave a choice, the model's
own is in log entries 76, 97, 102, 181. Each clause says that the command answers a next state under
conditions on the state and operands alone: conLogWrite, conCheckpointChunk, conMetackpt, tileMove,
tileMoveEnd, excision, excisionEnd. -/
def Obligations.ConservatorMovesAndExcises : Prop :=
  (∀ (e : LogEnt) (s : State), s.med.cpend = [e] → e.type = 0x04 → s.med.cnext ≤ e.seq + 8388608 → Answers
    (.conLogWrite) s fun t => (t.stripe e.a).ppos = e.b ∧ t.med.cpend = [] ∧ SMap.find t.med.clog e.seq = some
    e) ∧
  (∀ (e : LogEnt) (s : State), s.med.cpend = [e] → e.type = 0x03 → e.b < 16 → Answers (.conLogWrite) s fun t
    => (t.stripe e.a).isGone e.b = true ∧ (t.stripe e.a).ppos = e.c ∧ (t.stripe e.a).exposed = none ∧ (t.tile
    (tileOfMember e.a e.b)).st = 2) ∧
  (∀ (s : State), s.med.chunk < 4095 → Answers (.conCheckpointChunk) s fun t => t.med.chunk = s.med.chunk + 1
    ∧ SMap.find t.med.chunks s.med.chunk = some s.med.cnext ∧ t.rd D.CON_STAT_ckpt = 1 ∧ s.Only [.regs, .med] t) ∧
  (∀ (s : State), s.med.chunk = 4095 → Answers (.conCheckpointChunk) s fun t => t.med.chunk = 0 ∧ t.med.cbase
    = s.med.base ∧ t.rd D.CON_STAT_ckpt = 0 ∧ s.Only [.regs, .med] t) ∧
  (∀ (s : State), Answers (.conMetackpt) s fun t => t.med = { s.med with chunk := 0 } ∧ t.rd D.CON_STAT_ckpt =
    1 ∧ s.RegsBut [D.CON_STAT_ckpt.key 0] t ∧ s.Only [.regs, .med] t) ∧
  (∀ (tile : Fin 536870912) (pick : Fin 33554432) (lost : List (Fin 64)) (fail : Bool) (q : Nat) (s : State),
    SMap.find s.med.moves tile = none → (s.tile (s.catEnt tile).phys).forced = true ∨ (s.tile (s.catEnt
    tile).phys).refresh = true → (s.catEnt tile).st = .mapped → s.isFlushing = false → s.unmapDue tile = false →
    s.coldest (s.inuseFree (s.stripe (stripeOf (s.catEnt tile).phys)).light false) = some q → Answers (.tileMove
    tile pick lost fail) s fun t => SMap.find t.med.moves tile = some ⟨(s.catEnt tile).phys, q, (s.tile
    (s.catEnt tile).phys).forced, 0, 0, false, 0, false⟩ ∧ t.med.jpend = s.med.jpend ++ [⟨s.med.jnext, 4, 1, 0,
    tile, q, 0⟩] ∧ (t.tile q).st = 1) ∧
  (∀ (tile : Fin 536870912) (pick : Fin 33554432) (lost : List (Fin 64)) (m : Move) (s : State), SMap.find
    s.med.moves tile = some m → m.ended = false → m.aborted = false → s.noWrite (partKey m.dst) = false →
    s.noWrite (memberPart m.dst (s.stripe (stripeOf m.dst)).ppos) = false → s.med.updates = [] → (s.catEnt
    tile).st = .moving → s.unavail (partKey m.dst) = false → s.unavail (memberPart m.dst (s.stripe (stripeOf
    m.dst)).ppos) = false → s.toCopy tile m = [] → Answers (.tileMove tile pick lost false) s fun t => SMap.find
    t.med.moves tile = some
    { m with copied := (s.catEnt tile).written, recopy := 0, ended := true, ctime := s.now } ∧ t.med.jpend =
    s.med.jpend ++ [⟨s.med.jnext, 5, 1, 0, tile, m.dst, 0⟩] ∧ s.Only [.med] t) ∧
  (∀ (tile : Fin 536870912) (m : Move) (s : State), SMap.find s.med.moves tile = some m → m.ended = true →
    (s.catEnt tile).st = .mapped → (s.catEnt tile).phys = m.dst → Answers (.tileMoveEnd tile) s fun t =>
    SMap.find t.med.moves tile = none ∧ (t.tile m.src).st = (if (s.tile m.src).forced then 2 else 0)) ∧
  (∀ (pick : Fin 33554432) (st j np : Nat) (s : State), s.med.excise = [(st, j)] → (s.stripe st).exposed =
    none → s.med.updates = [] → s.med.cpend = [] → s.tooNarrow st = false → s.newPpos st j = some np → Answers
    (.excision pick) s fun t => SMap.find t.med.clog s.med.cnext = some ⟨s.med.cnext, 0x02, st, j, np⟩ ∧
    (t.stripe st).exposed = some (j, np) ∧ ∀ n, n < 64 → t.image (tileOfMember st np) n = ((s.stripe
    st).members.filter (fun k => decide (k ≠ j ∧ k ≠ np ∧ k ≠ (s.stripe st).ppos) && !s.lostPart (memberPart st
    k))).foldl (fun i k => i ^^^ s.image (tileOfMember st k) n) 0) ∧
  (∀ (st j np : Nat) (s : State), s.med.excise = [(st, j)] → (s.stripe st).exposed = some (j, np) →
    s.med.cpend = [] → j < 16 → Answers (.excisionEnd) s fun t => t.med.excise = [] ∧ (t.stripe st).isGone j =
    true ∧ (t.stripe st).ppos = np ∧ (t.stripe st).exposed = none)

/-- A wear pass reports the mean and starts at most CON_WEAR.maxmoves moves, none while off; after a drift
pass the references of a die do not fall with age; a refresh in place keeps every image; a sound stripe
position is scrubbed without a change and CLOSED and sentinel stripes are passed over; reclaim starts below
262,144 stripes and stops above 524,288; a rebuild makes the member gone stripe by stripe and stalls while
another member is paused; the histogram counts every present die. Where the rules leave a choice, the
model's own is in log entries 103, 172, 181. Each clause says that the command answers a next state under
conditions on the state and operands alone: wearPass, driftPass, sentinelRewrite, tileRefresh,
scrubPosition, scrubRestart, reclaim, rebuildStripe, tempHistogram, histogramSave. -/
def Obligations.ConservatorMaintains : Prop :=
  (∀ (s : State), s.bit D.CON_CTL_wear = false → Answers (.wearPass) s fun t => t.rd D.CON_HEALTH_wear = (min
    255 (100 * s.wearMean / 640000000)) ∧ s.Only [.regs] t) ∧
  (∀ (s : State), s.bit D.CON_CTL_wear = true → s.isFlushing = false → Answers (.wearPass) s fun t => t.rd
    D.CON_HEALTH_wear = (min 255 (100 * s.wearMean / 640000000)) ∧ t.med.moves.length ≤ s.med.moves.length +
    s.rd D.CON_WEAR_maxmoves) ∧
  (∀ (die : Fin 256) (errs : List (Nat × Nat × Nat)) (s : State), (s.die die).retired = false → (s.die
    die).present = true → s.bit D.CON_CTL_drift = true → s.isFlushing = false → s.shareStopped = false → Answers
    (.driftPass die errs) s fun t => (t.die die).skews = 0 ∧ (∀ i, i < 15 → vrefOf (t.dtab die i) ≤ vrefOf
    (t.dtab die (i + 1))) ∧ ∀ d b, d ≠ die.val → d < 256 → b < 16 → t.dtab d b = s.dtab d b) ∧
  (∀ (die : Fin 256) (slot : Fin 16) (s : State), (s.die die).retired = false → (s.die die).present = true →
    s.isFlushing = false → s.med.cpend = [] → Answers (.sentinelRewrite die slot) s fun t => SMap.find
    t.med.sentinels (die.val * 16 + slot) = some s.now ∧ SMap.find t.med.clog s.med.cnext = some ⟨s.med.cnext,
    0x0A, die, slot, s.now⟩ ∧ s.Only [.med] t) ∧
  (∀ (phys : Fin 536870912) (pick : Fin 33554432) (s : State), s.refreshDue phys = true → s.isFlushing = false
    → s.logicalOf phys = none → s.med.updates = [] → s.unavail (partKey phys) = false → s.noWrite (partKey phys)
    = false → (s.stripe (stripeOf phys)).isGone (memberOf phys) = false → (s.tile phys).st ≠ 2 → Answers
    (.tileRefresh phys pick) s fun t => (t.tile phys).refresh = false ∧ (t.tile phys).rcount = 0 ∧ (∀ p n, p < 2
    ^ 29 → n < 64 → t.image p n = s.image p n) ∧ s.Only [.med] t) ∧
  (∀ (s : State), s.bit D.CON_CTL_scrub = true → s.isFlushing = false → s.shareStopped = false → (s.stripe
    (s.rd D.CON_SCRUBPOS_stripe)).st ≠ 4 → (s.stripe (s.rd D.CON_SCRUBPOS_stripe)).st ≠ 3 → isSentinel (s.rd
    D.CON_SCRUBPOS_stripe) = false → (s.stripe (s.rd D.CON_SCRUBPOS_stripe)).exposed = none → s.med.updates = []
    → (s.stripe (s.rd D.CON_SCRUBPOS_stripe)).members.all (fun j => !s.unavail (partOfRow (rowOf (s.rd
    D.CON_SCRUBPOS_stripe)) j)) = true → (s.stripe (s.rd D.CON_SCRUBPOS_stripe)).members.foldl (fun (i : Image)
    j => i ^^^ s.image (tileOfMember (s.rd D.CON_SCRUBPOS_stripe) j) s.med.scrubLeaf) 0 = 0 → s.med.scrubLeaf <
    63 → Answers (.scrubPosition [] false) s fun t => t.med.scrubLeaf = s.med.scrubLeaf + 1 ∧ t.med.img =
    s.med.img ∧ t.rd D.CON_STAT_scrubbing = 1 ∧ s.Only [.regs, .med] t) ∧
  (∀ (errs : List (Nat × Image)) (s : State), s.bit D.CON_CTL_scrub = true → s.isFlushing = false →
    s.shareStopped = false → (s.stripe (s.rd D.CON_SCRUBPOS_stripe)).st = 4 ∨ isSentinel (s.rd
    D.CON_SCRUBPOS_stripe) = true → (s.rd D.CON_SCRUBPOS_stripe) + 1 < stripeCount → Answers (.scrubPosition
    errs false) s fun t => t.rd D.CON_SCRUBPOS_stripe = (s.rd D.CON_SCRUBPOS_stripe) + 1 ∧ t.med =
    { s.med with scrubLeaf := 0 } ∧ s.Only [.regs, .med] t) ∧
  (∀ (errs : List (Nat × Image)) (s : State), s.bit D.CON_CTL_scrub = true → s.isFlushing = false →
    s.shareStopped = false → (s.stripe (s.rd D.CON_SCRUBPOS_stripe)).st = 4 ∨ isSentinel (s.rd
    D.CON_SCRUBPOS_stripe) = true → (s.rd D.CON_SCRUBPOS_stripe) + 1 < stripeCount → s.phase ≠ stRomRecovery →
    Answers (.scrubPosition errs true) s fun t => t.rd D.CON_SCRUBPOS_stripe = (s.rd D.CON_SCRUBPOS_stripe) + 1
    ∧ t.med = { s.med with scrubLeaf := 0 } ∧ s.Logged E.CON_SCRUB_LATE 0 (s.rd D.CON_SCRUBPOS_pct) (s.rd
    D.CON_SCRUBPOS_stripe) t ∧ s.Only [.regs, .evq, .med] t) ∧
  (∀ (errs : List (Nat × Image)) (s : State), s.bit D.CON_CTL_scrub = true → s.isFlushing = false →
    s.shareStopped = false → (s.stripe (s.rd D.CON_SCRUBPOS_stripe)).st = 3 → isSentinel (s.rd
    D.CON_SCRUBPOS_stripe) = false → Answers (.scrubPosition errs false) s fun t => t = s.wr
    D.CON_STAT_scrubbing 1) ∧
  (∀ (errs : List (Nat × Image)) (late : Bool) (s : State), s.bit D.CON_CTL_scrub = true → s.isFlushing =
    false → s.shareStopped = false → (s.stripe (s.rd D.CON_SCRUBPOS_stripe)).st ≠ 4 → (s.stripe (s.rd
    D.CON_SCRUBPOS_stripe)).st ≠ 3 → isSentinel (s.rd D.CON_SCRUBPOS_stripe) = false → (s.stripe (s.rd
    D.CON_SCRUBPOS_stripe)).exposed = none → s.med.updates = [] → (s.stripe (s.rd
    D.CON_SCRUBPOS_stripe)).members.all (fun j => !s.unavail (partOfRow (rowOf (s.rd D.CON_SCRUBPOS_stripe)) j))
    = true → s.med.scrubLeaf < 63 → Answers (.scrubPosition errs late) s fun t => t.med.scrubLeaf =
    s.med.scrubLeaf + 1) ∧
  (∀ (s : State), Answers (.scrubRestart) s fun t => t.rd D.CON_SCRUBPOS_stripe = 0 ∧ t.rd D.CON_SCRUBPOS_pct
    = 0 ∧ t.rd D.CON_STAT_scrubbing = 1 ∧ t.med = { s.med with scrubLeaf := 0 } ∧ s.Only [.regs, .med] t) ∧
  (∀ (errs : List (Nat × Image)) (late : Bool) (s : State), 4 ≤ s.rd D.THM_STAT_level → Answers
    (.scrubPosition errs late) s fun t => t = s) ∧
  (∀ (pick : Fin 33554432) (s : State), 524288 < s.openStripes → Answers (.reclaim pick) s fun t => t =
    { s with med := { s.med with reclaim := false } }) ∧
  (∀ (pick : Fin 33554432) (s : State), s.openStripes < 262144 → s.isFlushing = false → Answers (.reclaim
    pick) s fun t => t.med.reclaim = true) ∧
  (∀ (pick : Fin 33554432) (r : Rebuild) (np : Nat) (s : State), s.med.rebuilds = [r] → (s.rowUnavail
    r.row).filter (fun j => decide (j ≠ r.member)) = [] → (s.stripe (r.row * 2 ^ 18 + r.index)).st = 1 →
    (s.stripe (r.row * 2 ^ 18 + r.index)).isGone r.member = false → s.med.updates = [] → s.logicalOf
    (tileOfMember (r.row * 2 ^ 18 + r.index) r.member) = none → s.newPpos (r.row * 2 ^ 18 + r.index) r.member =
    some np → s.tooNarrow (r.row * 2 ^ 18 + r.index) = false → s.med.cpend = [] → r.index + 1 < 2 ^ 18 → Answers
    (.rebuildStripe pick) s fun t => SMap.get 0 t.med.rowGone (r.row * 16 + r.member) = r.index + 1 ∧
    t.med.rebuilds = [{ r with index := r.index + 1 }] ∧ t.rd D.CON_REBUILD_index = r.index + 1 ∧ t.rd
    D.CON_REBUILD_state = 1) ∧
  (∀ (pick : Fin 33554432) (r : Rebuild) (j : Nat) (s : State), s.rebuildNow = some r → j ∈ s.rowUnavail r.row
    → j ≠ r.member → s.lostPart (partOfRow r.row j) = false → Answers (.rebuildStripe pick) s fun t => t.rd
    D.CON_REBUILD_state = 2 ∧ s.RegsBut [D.CON_REBUILD_state.key 0] t ∧ s.Only [.regs] t) ∧
  (∀ (k : Nat) (s : State), k < 32 → s.rd D.CON_THIST_dies k + 256 < D.CON_THIST_dies.cap → Answers
    (.tempHistogram) s fun t => t.rd D.CON_THIST_dies k = s.rd D.CON_THIST_dies k + ((List.range 256).filter
    (fun d => (s.die d).present && !(s.chan (d / 8)).gone && decide (tempBin (s.rd D.CON_DIE_temp d) =
    k))).length ∧ s.Only [.regs] t) ∧
  (∀ (s : State), s.phase ≠ stRomRecovery → s.phase ≠ stFlushing → s.phase ≠ stResetting → Answers
    (.histogramSave) s fun t => t.led.queue = s.led.queue ++ [⟨3, some (pageOfWords ((List.range 32).map (fun k
    => s.rd D.CON_THIST_dies k))), .hist, false, false, false⟩] ∧ s.Only [.led] t)

/-- A read or write through a port is answered with poison or completed without effect while the device
starts and on an HDM miss; a read that decodes waits as PEEK; with the line quiet and held by the vitrine
PEEK returns its bytes, READ gives them to the load and to its wing, OWN makes the wing MODIFIED and charges
the line, WRITE merges its bytes, a ZERO of a context clears the line and one of a host port does nothing,
ATOMIC applies its operation; over the budget a write is held and changes nothing. Where the rules leave a
choice, the model's own is in log entries 17, 42, 45, 52, 110, 123, 133. Each clause says that the command
answers a next state under conditions on the state and operands alone: peek, read, own, write, zero, atomic,
cxlMemRead, cxlMemWrite, earlyAckDeliver, hdmCommit, getPoisonList. -/
def Obligations.HostMemoryAccess : Prop :=
  (∀ (port : Fin 4) (tag : Nat) (ga : BitVec 50) (w : Nat) (v : VLine) (s : State), (s.port port).reads =
    [⟨tag, ga.toNat⟩] → (s.port port).eab = [] → s.Quiet (ga.toNat / 64) → s.asking (ga.toNat / 64) (.port port
    tag) = false → s.Hits (ga.toNat / 64) w v → Answers (.peek port tag ga Flips.none) s fun t => t.out.head? =
    some (.hostData port tag v.data false) ∧ (t.port port).reads = [] ∧ t.txn (ga.toNat / 64) = none ∧ (t.vfind
    (ga.toNat / 64)) = some (w, v)) ∧
  (∀ (c : Fin 256) (ga : BitVec 50) (w : Nat) (v : VLine) (l : LdEnt) (u : LdUnit) (s : State), (s.ctx c).hold
    = .load l → l.atom = none → l.units = [u] → u.gl = (ga.toNat / 64) → u.got = none → s.Quiet (ga.toNat / 64)
    → s.asking (ga.toNat / 64) (.load c) = false → s.Hits (ga.toNat / 64) w v → (s.attrOf (ga.toNat / 64)).wpol
    ≠ .uc → s.filterVictim (ga.toNat / 64) = none → Answers (.read c ga false Flips.none) s fun t => (t.ctx
    c).hold = .load { l with units := [{ u with got := some (v.data, false) }] } ∧ (t.wfind (wingOf c) (ga.toNat
    / 64)).map WLine.data = some v.data ∧ t.filterHas (ga.toNat / 64) = true) ∧
  (∀ (c : Fin 256) (ga : BitVec 50) (d : Line) (fl : Flips) (s : State), s.asking (ga.toNat / 64) (.fetch c) =
    false → s.l1iFind (coreOf c) (ga.toNat / 64) = some d → Answers (.read c ga true fl) s fun t => t.l1iFind
    (coreOf c) (ga.toNat / 64) = some d ∧ t.coh.wl = s.coh.wl ∧ s.Only [.coh] t) ∧
  (∀ (c : Fin 256) (ga : BitVec 50) (l : WLine) (s : State), s.NoInj → s.asking (ga.toNat / 64) (.fetch c) =
    false → s.l1iFind (coreOf c) (ga.toNat / 64) = none → s.wfind (wingOf c) (ga.toNat / 64) = some l → l.poison
    = false → s.breached (ga.toNat / 64) = false → Answers (.read c ga true Flips.none) s fun t => t.l1iFind
    (coreOf c) (ga.toNat / 64) = some l.data) ∧
  (∀ (c : Fin 256) (ga : BitVec 50) (w : Nat) (v : VLine) (s : State), s.Quiet (ga.toNat / 64) → s.asking
    (ga.toNat / 64) (.fetch c) = false → s.Hits (ga.toNat / 64) w v → (s.attrOf (ga.toNat / 64)).wpol ≠ .uc →
    s.filterVictim (ga.toNat / 64) = none → s.l1iFind (coreOf c) (ga.toNat / 64) = none → s.wfind (wingOf c)
    (ga.toNat / 64) = none → Answers (.read c ga true Flips.none) s fun t => t.l1iFind (coreOf c) (ga.toNat /
    64) = some v.data ∧ (t.wfind (wingOf c) (ga.toNat / 64)).map WLine.data = some v.data ∧ t.filterHas
    (ga.toNat / 64) = true) ∧
  (∀ (c : Fin 256) (e : SbEnt) (r : List SbEnt) (w : Nat) (v : VLine) (s : State), (s.ctx c).sb = e :: r →
    e.zline = false → s.Quiet e.gl → s.asking e.gl (.store c) = false → s.Hits e.gl w v → (s.attrOf e.gl).wpol =
    .wb → s.verdict e.gl e.mask (.store c) false = .accept → s.filterVictim e.gl = none → Answers (.own c
    Flips.none) s fun t => (t.wfind (wingOf c) e.gl) = some ⟨.modified, v.data, false⟩ ∧ t.charged e.gl = true ∧
    t.filterHas e.gl = true ∧ (t.ctx c).sb = e :: r) ∧
  (∀ (m : Master) (ga : BitVec 50) (data : Line) (mask : LineMask) (poison : Bool) (w : Nat) (v : VLine) (s :
    State), m.kind = 0 → s.storesClosed = false → s.Quiet (ga.toNat / 64) → s.asking (ga.toNat / 64) (masterSrc
    m) = false → s.Hits (ga.toNat / 64) w v → (s.attrOf (ga.toNat / 64)).wpol = .wb → s.portMode (m.id.val % 4)
    ≠ 0 → s.verdict (ga.toNat / 64) mask (masterSrc m) false = .accept → Answers (.write m ga data mask poison
    Flips.none) s fun t => t.vfind (ga.toNat / 64) = some (w,
    { v with data := merge v.data data mask, dirty := true, poison := poison }) ∧ t.out.head? = some (.hostDone
    (m.id.val % 4) m.tag) ∧ t.charged (ga.toNat / 64) = true ∧ t.txn (ga.toNat / 64) = none) ∧
  (∀ (m : Master) (ga : BitVec 50) (data : Line) (mask : LineMask) (poison : Bool) (w : Nat) (v : VLine) (s :
    State), m.kind = 0 → s.storesClosed = false → s.Quiet (ga.toNat / 64) → s.asking (ga.toNat / 64) (masterSrc
    m) = false → s.Hits (ga.toNat / 64) w v → (s.attrOf (ga.toNat / 64)).wpol = .wb → s.verdict (ga.toNat / 64)
    mask (masterSrc m) false = .hold → Answers (.write m ga data mask poison Flips.none) s fun t => (t.txn
    (ga.toNat / 64)).map Txn.phase = some .hold ∧ t.vfind (ga.toNat / 64) = some (w, v)) ∧
  (∀ (m : Master) (ga : BitVec 50) (e : SbEnt) (r : List SbEnt) (w : Nat) (v : VLine) (s : State), m.kind = 1
    → m.id.val < 256 → s.storesClosed = false → (s.ctx m.id).sb = e :: r → e.gl = (ga.toNat / 64) → e.zline =
    true → s.Quiet (ga.toNat / 64) → s.asking (ga.toNat / 64) (.store m.id) = false → s.Hits (ga.toNat / 64) w v
    → (s.attrOf (ga.toNat / 64)).wpol = .wb → s.verdict (ga.toNat / 64) fullMask (.store m.id) false = .accept →
    Answers (.zero m ga Flips.none) s fun t => t.vfind (ga.toNat / 64) = some (w,
    { v with data := 0, dirty := true }) ∧ (t.ctx m.id).sb = r ∧ t.charged (ga.toNat / 64) = true) ∧
  (∀ (m : Master) (ga : BitVec 50) (fl : Flips) (s : State), m.kind = 0 → Answers (.zero m ga fl) s fun t => t
    = s) ∧
  (∀ (m : Master) (ga : BitVec 50) (op : Fin 10) (wide : Bool) (off : Fin 64) (a b : Word) (x : Atom) (w :
    Nat) (v : VLine) (s : State), m.kind = 1 → m.id.val < 256 → s.storesClosed = false → s.wantsAtom m.id
    (ga.toNat / 64) = some x → s.Quiet (ga.toNat / 64) → s.asking (ga.toNat / 64) (.atom m.id) = false → s.Hits
    (ga.toNat / 64) w v → (s.attrOf (ga.toNat / 64)).wpol = .wb → s.verdict (ga.toNat / 64) x.mask (.atom m.id)
    true = .accept → Answers (.atomic m ga op wide off a b Flips.none) s fun t => (t.vfind (ga.toNat / 64)).map
    (fun e => (e.1, e.2.data)) = some (w, x.apply v.data) ∧ t.rd D.CLO_ATOM_home = (s.rd D.CLO_ATOM_home + 1) %
    D.CLO_ATOM_home.cap) ∧
  (∀ (port : Fin 4) (tag : Nat) (hpa : BitVec 52) (ga : Nat) (s : State), s.portMode port = 2 → s.isFlushing =
    false → s.phase ≠ stResetting → s.notOpen = false → s.hdmDecode port hpa.toNat = some ga → gaValid ga = true
    → (s.port port).reads.all (fun r => decide (r.tag ≠ tag)) = true → (s.port port).reads.length < 1024 →
    Answers (.cxlMemRead port tag hpa) s fun t => (t.port port).reads = (s.port port).reads ++ [⟨tag, ga⟩] ∧ (∀
    q, q ≠ port.val → t.port q = s.port q) ∧ s.Only [.ports] t) ∧
  (∀ (port : Fin 4) (tag : Nat) (hpa : BitVec 52) (s : State), s.portMode port = 2 → s.phase = stStarting →
    Answers (.cxlMemRead port tag hpa) s fun t => t.out = .hostData port tag 0 true :: s.out ∧ s.Logged
    E.GBL_NOT_OPEN 0 0 0 t ∧ s.Only [.regs, .evq, .out] t) ∧
  (∀ (port : Fin 4) (tag : Nat) (hpa : BitVec 52) (s : State), s.portMode port = 2 → s.isFlushing = false →
    s.phase = stOpen → s.hdmDecode port hpa.toNat = none → Answers (.cxlMemRead port tag hpa) s fun t => t.out =
    .hostData port tag 0 true :: s.out ∧ s.Logged E.GBL_HDM_MISS 0 0 0 t ∧ s.Only [.regs, .evq, .out] t) ∧
  (∀ (port : Fin 4) (tag : Nat) (hpa : BitVec 52) (data : Line) (mask : LineMask) (ga : Nat) (w : Nat) (v :
    VLine) (s : State), s.portMode port = 2 → s.isFlushing = false → s.phase ≠ stResetting → s.notOpen = false →
    s.hdmDecode port hpa.toNat = some ga → gaValid ga = true → s.portWrites port < 1024 → s.Quiet (ga / 64) →
    s.Hits (ga / 64) w v → (s.attrOf (ga / 64)).wpol = .wb → (s.attrOf (ga / 64)).ewa = false → (s.port
    port).eab = [] → (s.port port).reads = [] → s.verdict (ga / 64) mask (.port port tag) false = .accept →
    Answers (.cxlMemWrite port tag hpa data mask false Flips.none) s fun t => t.vfind (ga / 64) = some (w,
    { v with data := merge v.data data mask, dirty := true }) ∧ t.out.head? = some (.hostDone port tag)) ∧
  (∀ (port : Fin 4) (tag : Nat) (hpa : BitVec 52) (data : Line) (mask : LineMask) (poison : Bool) (fl : Flips)
    (s : State), s.portMode port = 2 → s.portWrites port < 1024 → s.isFlushing = false → s.phase = stOpen →
    s.hdmDecode port hpa.toNat = none → Answers (.cxlMemWrite port tag hpa data mask poison fl) s fun t => t.out
    = .hostDone port tag :: s.out ∧ s.Logged E.GBL_HDM_MISS 0 0 0 t ∧ s.Only [.regs, .evq, .out] t) ∧
  (∀ (port : Fin 4) (e : EabEntry) (r : List EabEntry) (w : Nat) (v : VLine) (s : State), (s.port port).eab =
    e :: r → s.lineFree (lineOf e.ga) = true → s.isLocal (lineOf e.ga) = true → s.NoInj → s.Hits (lineOf e.ga) w
    v → (s.attrOf (lineOf e.ga)).wpol = .wb → s.coh.wl = [] → s.coh.wbq = [] → (s.setPort port
    { s.port port with eab := r }).verdict (lineOf e.ga) e.mask (.eab port) false = .accept → Answers
    (.earlyAckDeliver port Flips.none) s fun t => (t.port port).eab = r ∧ t.vfind (lineOf e.ga) = some (w,
    { v with data := merge v.data e.data e.mask, dirty := true, poison := e.poison })) ∧
  (∀ (port : Fin 4) (n : Fin 8) (hpa size : Nat) (lock : Bool) (s : State), (SMap.get Decoder.init (s.port
    port).decs n).committed = false → 0 < size → s.rdP D.HST_GBASE_base port n * 2 ^ 28 / 2 ^ 43 % 2 = 0 → s.rdP
    D.HST_GBASE_base port n * 2 ^ 28 / 2 ^ 44 = (s.rdP D.HST_GBASE_base port n * 2 ^ 28 + size - 1) / 2 ^ 44 →
    Answers (.hdmCommit port n hpa size 1 256 lock true) s fun t => SMap.get Decoder.init (t.port port).decs n =
    ⟨hpa, size, 0, 8, true, lock⟩ ∧ t.out = .hdm port n true :: s.out ∧ (∀ q, q ≠ port.val → t.port q = s.port
    q) ∧ s.Only [.ports, .out] t) ∧
  (∀ (port : Fin 4) (n : Fin 8) (hpa size ways gran : Nat) (lock : Bool) (s : State), (SMap.get Decoder.init
    (s.port port).decs n).committed = false ∨ (SMap.get Decoder.init (s.port port).decs n).locked = false → ways
    ∈ [1, 2, 4, 8, 16] → gran ∈ [256, 512, 1024, 2048, 4096, 8192, 16384] → 0 < size → s.rdP D.HST_GBASE_base
    port n * 2 ^ 28 / 2 ^ 43 % 2 = 0 → s.rdP D.HST_GBASE_base port n * 2 ^ 28 / 2 ^ 44 = (s.rdP D.HST_GBASE_base
    port n * 2 ^ 28 + size / 2 ^ Nat.log2 ways - 1) / 2 ^ 44 → Answers (.hdmCommit port n hpa size ways gran
    lock true) s fun t => SMap.get Decoder.init (t.port port).decs n = ⟨hpa, size, Nat.log2 ways, Nat.log2 gran,
    true, lock⟩ ∧ t.out = .hdm port n true :: s.out ∧ (∀ q, q ≠ port.val → t.port q = s.port q) ∧ s.Only
    [.ports, .out] t) ∧
  (∀ (port : Fin 4) (n : Fin 8) (hpa size ways gran : Nat) (lock : Bool) (s : State), (SMap.get Decoder.init
    (s.port port).decs n).committed = false ∨ (SMap.get Decoder.init (s.port port).decs n).locked = false → ways
    ∉ [1, 2, 4, 8, 16] ∨ gran ∉ [256, 512, 1024, 2048, 4096, 8192, 16384] ∨ size = 0 → Answers (.hdmCommit port
    n hpa size ways gran lock true) s fun t => t.out = .hdm port n false :: s.out ∧ s.Only [.out] t) ∧
  (∀ (port : Fin 4) (n : Fin 8) (hpa size ways gran : Nat) (lock : Bool) (s : State), (SMap.get Decoder.init
    (s.port port).decs n).committed = false ∨ (SMap.get Decoder.init (s.port port).decs n).locked = false →
    Answers (.hdmCommit port n hpa size ways gran lock false) s fun t => SMap.get Decoder.init (t.port
    port).decs n = { SMap.get Decoder.init (s.port port).decs n with committed := false, locked := false } ∧ (∀
    q, q ≠ port.val → t.port q = s.port q) ∧ s.Only [.ports] t) ∧
  (∀ (port : Fin 4) (n : Fin 8) (hpa size ways gran : Nat) (lock commit : Bool) (s : State), (SMap.get
    Decoder.init (s.port port).decs n).committed = true → (SMap.get Decoder.init (s.port port).decs n).locked =
    true → Answers (.hdmCommit port n hpa size ways gran lock commit) s fun t => t = s) ∧
  (∀ (port : Fin 4) (dpa lines : Word) (s : State), s.mboxUp port = true → s.phase ≠ stRomRecovery → dpa.toNat
    % 64 ≠ 0 ∨ lines = 0 → Answers (.getPoisonList port dpa lines) s fun t => t.out = .mbox port mbInvalid [] ::
    s.out ∧ s.Only [.out] t) ∧
  (∀ (port : Fin 4) (dpa lines : Word) (s : State), s.mboxUp port = true → s.phase ≠ stRomRecovery → dpa.toNat
    % 64 = 0 → lines ≠ 0 → dpa.toNat / 64 + lines.toNat ≤ capLines → s.poisonList = [] → Answers (.getPoisonList
    port dpa lines) s fun t => t.out = .mbox port mbOk [0, 0] :: s.out ∧ (t.port port).poisonAt = none ∧ s.Only
    [.ports, .out] t)

/-- A waiting request whose line is free and marked starts its snoop; each stop answers once, a MODIFIED
copy giving up its bytes; the second response ends an invalidation and clears the filter; a request that
waited for a way or for the budget then has its effect; a write-back joins the snoop that waits for it or is
written at its home; an eviction moves to staging; the governor cleans the least recent charged line and
keeps its charge. Where the rules leave a choice, the model's own is in log entries 4, 114. Each clause says
that the command answers a next state under conditions on the state and operands alone: homeRequestStart,
snoop, snoopResponse, allocationRetry, holdRelease, writeback, evictionWriteback, governorEvict. -/
def Obligations.HomeSliceProtocol : Prop :=
  (∀ (slice : Fin 16) (r : Req) (s : State), s.coh.conf.find? (fun r => decide (sliceOf r.gl = slice.val) &&
    !s.busyLine r.gl) = some r → s.filterHas r.gl = true → Answers (.homeRequestStart slice Flips.none) s fun t
    => t.coh.conf = s.coh.conf.erase r ∧ (t.txn r.gl).map (fun x => (x.req, x.phase, x.waited)) = some (r,
    .snoop, true)) ∧
  (∀ (ga : BitVec 50) (stop : Fin 12) (t0 : Txn) (s : State), s.txn (ga.toNat / 64) = some t0 → t0.phase =
    .snoop → t0.answered.getLsbD stop = false → 8 ≤ stop.val → (s.loan (ga.toNat / 64)).sharers = 0 → s.grant
    (ga.toNat / 64) = none → Answers (.snoop ga stop Flips.none) s fun t => t.txn (ga.toNat / 64) = some
    { t0 with answered := t0.answered ||| BitVec.ofNat 12 (2 ^ stop.val) } ∧ s.Only [.coh] t) ∧
  (∀ (ga : BitVec 50) (stop : Fin 12) (t0 : Txn) (l : WLine) (s : State), s.txn (ga.toNat / 64) = some t0 →
    t0.phase = .snoop → t0.answered.getLsbD stop = false → stop.val < 8 → s.coh.wbq = [] → s.NoInj → s.wfind
    stop (ga.toNat / 64) = some l → l.poison = false → l.st = .modified → t0.req.kind = .write → Answers (.snoop
    ga stop Flips.none) s fun t => t.txn (ga.toNat / 64) = some
    { t0 with answered := t0.answered ||| BitVec.ofNat 12 (2 ^ stop.val), found := true, taken := t0.taken || decide (t0.req.src.atWing ≠ some stop.val), got := some (l.data, false) }
    ∧ t.wfind stop (ga.toNat / 64) = none) ∧
  (∀ (ga : BitVec 50) (t0 : Txn) (s : State) (fl : Flips), s.txn (ga.toNat / 64) = some t0 → t0.phase = .snoop
    → t0.back = 0 → Answers (.snoopResponse ga fl) s fun t => t.txn (ga.toNat / 64) = some { t0 with back := 1 }
    ∧ s.Only [.coh] t) ∧
  (∀ (ga : BitVec 50) (t0 : Txn) (s : State) (fl : Flips), s.txn (ga.toNat / 64) = some t0 → t0.req.gl =
    (ga.toNat / 64) → t0.phase = .snoop → t0.back = 1 → t0.answered = BitVec.allOnes 12 → t0.wbPend = false →
    t0.got = none → t0.req.kind = .inval → (s.loan (ga.toNat / 64)).sharers = 0 → s.grant (ga.toNat / 64) = none
    → Answers (.snoopResponse ga fl) s fun t => t.txn (ga.toNat / 64) = none ∧ t.filterHas (ga.toNat / 64) =
    false) ∧
  (∀ (ga : BitVec 50) (t0 : Txn) (port tag w : Nat) (v : VLine) (s : State), s.txn (ga.toNat / 64) = some t0 →
    t0.phase = .alloc → t0.req = ⟨.peek, (ga.toNat / 64), .port port tag, 0, 0, false, none⟩ → s.isLocal
    (ga.toNat / 64) = true → s.NoInj → (s.loan (ga.toNat / 64)).sharers = 0 → s.grant (ga.toNat / 64) = none →
    s.Hits (ga.toNat / 64) w v → (s.port port).reads = [⟨tag, ga.toNat⟩] → (s.port port).eab = [] → Answers
    (.allocationRetry ga Flips.none) s fun t => t.txn (ga.toNat / 64) = none ∧ t.out.head? = some (.hostData
    port tag v.data false)) ∧
  (∀ (gl : BitVec 44) (t0 : Txn) (fl : Flips) (w : Nat) (v : VLine) (s : State), SMap.find s.coh.txns gl.toNat
    = some t0 → t0.phase = .hold → t0.req.gl = gl.toNat → t0.req.kind = .zero → t0.req.mask = fullMask →
    t0.req.poison = false → t0.req.src = .dev → s.Hits gl.toNat w v → (s.attrOf gl.toNat).wpol = .wb → s.verdict
    gl.toNat fullMask .dev false = .accept → Answers (.holdRelease gl fl) s fun t => t.txn gl.toNat = none ∧
    (t.vfind gl.toNat).map (fun e => (e.1, e.2.data)) = some (w, merge v.data t0.req.data fullMask)) ∧
  (∀ (wing : Fin 8) (e : WbEnt) (t0 : Txn) (s : State), s.coh.wbq.find? (fun e => decide (e.wing = wing.val))
    = some e → s.txn e.gl = some t0 → t0.wbPend = true → Answers (.writeback wing) s fun t => t.coh.wbq =
    s.coh.wbq.erase e ∧ t.txn e.gl = some { t0 with got := some (e.data, e.poison), wbPend := false } ∧ s.Only
    [.coh] t) ∧
  (∀ (wing : Fin 8) (e : WbEnt) (w : Nat) (v : VLine) (s : State), s.coh.wbq.find? (fun e => decide (e.wing =
    wing.val)) = some e → s.txn e.gl = none → s.Hits e.gl w v → (s.attrOf e.gl).wpol = .wb → e.poison = false →
    Answers (.writeback wing) s fun t => t.coh.wbq = s.coh.wbq.erase e ∧ t.vfind e.gl = some (w,
    { v with data := merge v.data e.data fullMask, dirty := true })) ∧
  (∀ (pos : Nat) (e : EvEnt) (s : State), s.coh.evb[pos]? = some e → (s.coh.evb.take pos).all (fun x => decide
    (x.gl ≠ e.gl)) = true → s.isLocal e.gl = true → e.poison = false → s.NoInj → SMap.find s.med.stg (llOf e.gl)
    = none → Answers (.evictionWriteback pos Flips.none) s fun t => t.coh.evb = s.coh.evb.eraseIdx pos ∧
    SMap.find t.med.stg (llOf e.gl) = some ⟨merge 0 e.data e.mask, 0 ||| e.mask, if e.mask = fullMask then false
    else false, true⟩) ∧
  (∀ (slice : Fin 16) (set : Fin 3072) (w : Nat) (v : VLine) (s : State), s.writesBack = true → s.NoInj →
    s.governVictim slice set = some (w, v) → s.vfind v.gl = some (w, v) → s.evbRoom slice = true → Answers
    (.governorEvict slice set) s fun t => t.vfind v.gl = some (w, { v with dirty := false }) ∧ t.charged v.gl =
    s.charged v.gl ∧ t.coh.evb.map EvEnt.gl = s.coh.evb.map EvEnt.gl ++ [v.gl])

/-- A wing invalidate-all makes the named wings busy and is logged instead while one runs; once their stores
have drained the wings hold no line; a loan-way change is busy until its ways are empty; a way being
disabled is off and logged once it holds no line, and an enable brings it back; the count window clears
every count; a lookup shows the slice and set of its address. Where the rules leave a choice, the model's
own is in log entry 176. Each clause says that the command answers a next state under conditions on the
state and operands alone: wingInvalidateAll, wingInvalidateDone, loanWaysChange, loanWaysDone,
wayDisableDone, wayCountWindow, wayEnable, vitLookupWrite. -/
def Obligations.VitrineCommandsRun : Prop :=
  (∀ (port : Fin 4) (wings : BitVec 8) (s : State), s.portQuiet port = true → s.phase ≠ stRomRecovery → wings
    ≠ 0 → s.coh.invBusy = 0 → Answers (.wingInvalidateAll port wings) s fun t => t.coh.invBusy = wings ∧ t.rd
    D.VIT_WINGINV_busy = 1 ∧ s.Only [.regs, .coh] t) ∧
  (∀ (port : Fin 4) (wings : BitVec 8) (s : State), s.portQuiet port = true → s.phase ≠ stRomRecovery →
    s.coh.invBusy ≠ 0 → Answers (.wingInvalidateAll port wings) s fun t => t.coh = s.coh ∧ s.Logged
    E.VIT_WINGINV_BUSY 0 0 0 t) ∧
  (∀ (s : State), s.coh.invBusy ≠ 0 → (wingsIn s.coh.invBusy).all s.wingDrained = true → Answers
    .wingInvalidateDone s fun t => t.coh.invBusy = 0 ∧ t.rd D.VIT_WINGINV_busy = 0 ∧ ∀ w ∈ wingsIn
    s.coh.invBusy, t.wingLines w = []) ∧
  (∀ (port : Fin 4) (ways : BitVec 4) (s : State), s.portQuiet port = true → s.phase ≠ stRomRecovery → s.bit
    D.VIT_STAT_loanbusy = false → ways.toNat ≤ 8 → ways.toNat ≠ s.coh.loanWays → Answers (.loanWaysChange port
    ways) s fun t => t.rd D.VIT_LOANCFG_ways = ways.toNat ∧ t.bit D.VIT_STAT_loanbusy = true ∧ t.coh = s.coh) ∧
  (∀ (s : State), s.bit D.VIT_STAT_loanbusy = true → s.coh.vit = [] → Answers .loanWaysDone s fun t => t.bit
    D.VIT_STAT_loanbusy = false ∧ t.coh.loanWays = s.rd D.VIT_LOANCFG_ways) ∧
  (∀ (slice way : Fin 16) (s : State), (s.wayCnt slice way).disabling = true → s.isOpen = true → (s.waysOff
    slice).testBit way = false → s.coh.vit = [] → s.coh.evb = [] → Answers (.wayDisableDone slice way) s fun t
    => (t.waysOff slice).testBit way = true ∧ (t.wayCnt slice way).disabling = false ∧ s.Logged
    E.VIT_WAY_DISABLE slice way 0 t) ∧
  (∀ (sl w : Nat) (s : State), Answers .wayCountWindow s fun t => (t.wayCnt sl w).corr = 0 ∧ (t.wayCnt sl
    w).uncorr = 0 ∧ (t.wayCnt sl w).disabling = (s.wayCnt sl w).disabling ∧ s.Only [.coh] t) ∧
  (∀ (port : Fin 4) (slice way : Fin 16) (s : State), s.portQuiet port = true → s.phase ≠ stRomRecovery →
    (s.waysOff slice).testBit way = true → Answers (.wayEnable port slice way) s fun t => (t.waysOff
    slice).testBit way = false) ∧
  (∀ (port : Fin 4) (addr : Word) (s : State), s.portQuiet port = true → s.phase ≠ stRomRecovery → Answers
    (.vitLookupWrite port addr) s fun t => t.rd D.VIT_LOOKRES_slice = sliceOf (addr.toNat % 2 ^ 50 / 64) %
    D.VIT_LOOKRES_slice.cap ∧ t.rd D.VIT_LOOKRES_set = vitSet (addr.toNat % 2 ^ 50 / 64) % D.VIT_LOOKRES_set.cap
    ∧ s.Only [.regs] t)

/-- In a ready context each two-register integer instruction of Table 8.2 but the divisions and high
products writes its value to d, leaves x0 zero, moves pc to the next word, and changes no other register,
context, line or register field outside the tally. Each clause says that the command answers a next state
under conditions on the state and operands alone: add, sub, and, or, xor, sll, srl, sra, slt, sltu, min,
max, minu, maxu, mul. -/
def Obligations.RegisterInstructionsSet : Prop :=
  (∀ (c : Fin 256) (d a b : BitVec 5) (s : State), s.Ready c → Answers (.add c d a b) s fun t => s.Sets c d
    ((s.ctx c).reg a + (s.ctx c).reg b) t) ∧
  (∀ (c : Fin 256) (d a b : BitVec 5) (s : State), s.Ready c → Answers (.sub c d a b) s fun t => s.Sets c d
    ((s.ctx c).reg a - (s.ctx c).reg b) t) ∧
  (∀ (c : Fin 256) (d a b : BitVec 5) (s : State), s.Ready c → Answers (.and c d a b) s fun t => s.Sets c d
    ((s.ctx c).reg a &&& (s.ctx c).reg b) t) ∧
  (∀ (c : Fin 256) (d a b : BitVec 5) (s : State), s.Ready c → Answers (.or c d a b) s fun t => s.Sets c d
    ((s.ctx c).reg a ||| (s.ctx c).reg b) t) ∧
  (∀ (c : Fin 256) (d a b : BitVec 5) (s : State), s.Ready c → Answers (.xor c d a b) s fun t => s.Sets c d
    ((s.ctx c).reg a ^^^ (s.ctx c).reg b) t) ∧
  (∀ (c : Fin 256) (d a b : BitVec 5) (s : State), s.Ready c → Answers (.sll c d a b) s fun t => s.Sets c d
    ((s.ctx c).reg a <<< (((s.ctx c).reg b).toNat % 64)) t) ∧
  (∀ (c : Fin 256) (d a b : BitVec 5) (s : State), s.Ready c → Answers (.srl c d a b) s fun t => s.Sets c d
    ((s.ctx c).reg a >>> (((s.ctx c).reg b).toNat % 64)) t) ∧
  (∀ (c : Fin 256) (d a b : BitVec 5) (s : State), s.Ready c → Answers (.sra c d a b) s fun t => s.Sets c d
    (((s.ctx c).reg a).sshiftRight (((s.ctx c).reg b).toNat % 64)) t) ∧
  (∀ (c : Fin 256) (d a b : BitVec 5) (s : State), s.Ready c → Answers (.slt c d a b) s fun t => s.Sets c d
    (if ((s.ctx c).reg a).toInt < ((s.ctx c).reg b).toInt then 1 else 0) t) ∧
  (∀ (c : Fin 256) (d a b : BitVec 5) (s : State), s.Ready c → Answers (.sltu c d a b) s fun t => s.Sets c d
    (if ((s.ctx c).reg a).toNat < ((s.ctx c).reg b).toNat then 1 else 0) t) ∧
  (∀ (c : Fin 256) (d a b : BitVec 5) (s : State), s.Ready c → Answers (.min c d a b) s fun t => s.Sets c d
    (BitVec.ofInt 64 (min ((s.ctx c).reg a).toInt ((s.ctx c).reg b).toInt)) t) ∧
  (∀ (c : Fin 256) (d a b : BitVec 5) (s : State), s.Ready c → Answers (.max c d a b) s fun t => s.Sets c d
    (BitVec.ofInt 64 (max ((s.ctx c).reg a).toInt ((s.ctx c).reg b).toInt)) t) ∧
  (∀ (c : Fin 256) (d a b : BitVec 5) (s : State), s.Ready c → Answers (.minu c d a b) s fun t => s.Sets c d
    (BitVec.ofNat 64 (min ((s.ctx c).reg a).toNat ((s.ctx c).reg b).toNat)) t) ∧
  (∀ (c : Fin 256) (d a b : BitVec 5) (s : State), s.Ready c → Answers (.maxu c d a b) s fun t => s.Sets c d
    (BitVec.ofNat 64 (max ((s.ctx c).reg a).toNat ((s.ctx c).reg b).toNat)) t) ∧
  (∀ (c : Fin 256) (d a b : BitVec 5) (s : State), s.Ready c → Answers (.mul c d a b) s fun t => s.Sets c d
    (BitVec.ofNat 64 (((s.ctx c).reg a).toNat * ((s.ctx c).reg b).toNat)) t)

/-- mulh and mulhu write the high 64 bits of the exact product; div truncates toward zero and rem has the
sign of a; at the limits of R244 every division writes the value of its table and goes on. Each clause says
that the command answers a next state under conditions on the state and operands alone: mulh, mulhu, div,
divu, rem, remu. -/
def Obligations.ProductsAndDivisions : Prop :=
  (∀ (c : Fin 256) (d a b : BitVec 5) (s : State), s.Ready c → Answers (.mulh c d a b) s fun t => s.Sets c d
    (BitVec.ofInt 64 (((s.ctx c).reg a).toInt * ((s.ctx c).reg b).toInt / 2 ^ 64)) t) ∧
  (∀ (c : Fin 256) (d a b : BitVec 5) (s : State), s.Ready c → Answers (.mulhu c d a b) s fun t => s.Sets c d
    (BitVec.ofNat 64 (((s.ctx c).reg a).toNat * ((s.ctx c).reg b).toNat / 2 ^ 64)) t) ∧
  (∀ (c : Fin 256) (d a b : BitVec 5) (s : State), s.Ready c → Answers (.div c d a b) s fun t => s.Sets c d
    (if (s.ctx c).reg b = 0 then (if (s.ctx c).reg a = 0 then 0 else if ((s.ctx c).reg a).toInt < 0 then
    0x8000000000000000 else 0x7FFFFFFFFFFFFFFF) else if (s.ctx c).reg a = 0x8000000000000000 ∧ (s.ctx c).reg b =
    0xFFFFFFFFFFFFFFFF then 0x7FFFFFFFFFFFFFFF else BitVec.ofInt 64 (((s.ctx c).reg a).toInt.tdiv ((s.ctx c).reg
    b).toInt)) t) ∧
  (∀ (c : Fin 256) (d a b : BitVec 5) (s : State), s.Ready c → Answers (.divu c d a b) s fun t => s.Sets c d
    (if (s.ctx c).reg b = 0 then (if (s.ctx c).reg a = 0 then 0 else 0xFFFFFFFFFFFFFFFF) else BitVec.ofNat 64
    (((s.ctx c).reg a).toNat / ((s.ctx c).reg b).toNat)) t) ∧
  (∀ (c : Fin 256) (d a b : BitVec 5) (s : State), s.Ready c → Answers (.rem c d a b) s fun t => s.Sets c d
    (if (s.ctx c).reg b = 0 then 0 else BitVec.ofInt 64 (((s.ctx c).reg a).toInt.tmod ((s.ctx c).reg b).toInt))
    t) ∧
  (∀ (c : Fin 256) (d a b : BitVec 5) (s : State), s.Ready c → Answers (.remu c d a b) s fun t => s.Sets c d
    (if (s.ctx c).reg b = 0 then 0 else BitVec.ofNat 64 (((s.ctx c).reg a).toNat % ((s.ctx c).reg b).toNat)) t)

/-- Counts, extensions and the byte reversal of Table 8.2 write what the table says of register a and change
nothing else but the pc and the tally. Each clause says that the command answers a next state under
conditions on the state and operands alone: clz, ctz, popc, sextb, sexth, sextw, zextw, bswap. -/
def Obligations.OneRegisterInstructionsSet : Prop :=
  (∀ (c : Fin 256) (d a : BitVec 5) (s : State), s.Ready c → Answers (.clz c d a) s fun t => ∃ n, n ≤ 64 ∧
    s.Sets c d (BitVec.ofNat 64 n) t ∧ (∀ k, k < n → ((s.ctx c).reg a).getLsbD (63 - k) = false) ∧ (n < 64 →
    ((s.ctx c).reg a).getLsbD (63 - n) = true)) ∧
  (∀ (c : Fin 256) (d a : BitVec 5) (s : State), s.Ready c → Answers (.ctz c d a) s fun t => ∃ n, n ≤ 64 ∧
    s.Sets c d (BitVec.ofNat 64 n) t ∧ (∀ k, k < n → ((s.ctx c).reg a).getLsbD k = false) ∧ (n < 64 → ((s.ctx
    c).reg a).getLsbD n = true)) ∧
  (∀ (c : Fin 256) (d a : BitVec 5) (s : State), s.Ready c → Answers (.popc c d a) s fun t => s.Sets c d
    (BitVec.ofNat 64 ((List.range 64).filter (fun k => ((s.ctx c).reg a).getLsbD k)).length) t) ∧
  (∀ (c : Fin 256) (d a : BitVec 5) (s : State), s.Ready c → Answers (.sextb c d a) s fun t => s.Sets c d
    ((((s.ctx c).reg a).extractLsb' 0 8).signExtend 64) t) ∧
  (∀ (c : Fin 256) (d a : BitVec 5) (s : State), s.Ready c → Answers (.sexth c d a) s fun t => s.Sets c d
    ((((s.ctx c).reg a).extractLsb' 0 16).signExtend 64) t) ∧
  (∀ (c : Fin 256) (d a : BitVec 5) (s : State), s.Ready c → Answers (.sextw c d a) s fun t => s.Sets c d
    ((((s.ctx c).reg a).extractLsb' 0 32).signExtend 64) t) ∧
  (∀ (c : Fin 256) (d a : BitVec 5) (s : State), s.Ready c → Answers (.zextw c d a) s fun t => s.Sets c d
    (BitVec.ofNat 64 (((s.ctx c).reg a).toNat % 2 ^ 32)) t) ∧
  (∀ (c : Fin 256) (d a : BitVec 5) (s : State), s.Ready c → Answers (.bswap c d a) s fun t => s.Sets c d
    (((s.ctx c).reg a).extractLsb' 0 8 ++ ((s.ctx c).reg a).extractLsb' 8 8 ++ ((s.ctx c).reg a).extractLsb' 16
    8 ++ ((s.ctx c).reg a).extractLsb' 24 8 ++ ((s.ctx c).reg a).extractLsb' 32 8 ++ ((s.ctx c).reg
    a).extractLsb' 40 8 ++ ((s.ctx c).reg a).extractLsb' 48 8 ++ ((s.ctx c).reg a).extractLsb' 56 8) t)

/-- Each immediate instruction of Table 8.2 writes its value, the immediate sign- or zero-extended as the
table says, and changes nothing else but the pc and the tally. Each clause says that the command answers a
next state under conditions on the state and operands alone: addi, andi, ori, xori, slti, sltiu, lui, slli,
srli, srai, shori. -/
def Obligations.ImmediateInstructionsSet : Prop :=
  (∀ (c : Fin 256) (d a : BitVec 5) (imm : BitVec 16) (s : State), s.Ready c → Answers (.addi c d a imm) s fun
    t => s.Sets c d ((s.ctx c).reg a + imm.signExtend 64) t) ∧
  (∀ (c : Fin 256) (d a : BitVec 5) (imm : BitVec 16) (s : State), s.Ready c → Answers (.andi c d a imm) s fun
    t => s.Sets c d ((s.ctx c).reg a &&& imm.zeroExtend 64) t) ∧
  (∀ (c : Fin 256) (d a : BitVec 5) (imm : BitVec 16) (s : State), s.Ready c → Answers (.ori c d a imm) s fun
    t => s.Sets c d ((s.ctx c).reg a ||| imm.zeroExtend 64) t) ∧
  (∀ (c : Fin 256) (d a : BitVec 5) (imm : BitVec 16) (s : State), s.Ready c → Answers (.xori c d a imm) s fun
    t => s.Sets c d ((s.ctx c).reg a ^^^ imm.zeroExtend 64) t) ∧
  (∀ (c : Fin 256) (d a : BitVec 5) (imm : BitVec 16) (s : State), s.Ready c → Answers (.slti c d a imm) s fun
    t => s.Sets c d (if ((s.ctx c).reg a).toInt < imm.toInt then 1 else 0) t) ∧
  (∀ (c : Fin 256) (d a : BitVec 5) (imm : BitVec 16) (s : State), s.Ready c → Answers (.sltiu c d a imm) s
    fun t => s.Sets c d (if ((s.ctx c).reg a).toNat < (imm.signExtend 64).toNat then 1 else 0) t) ∧
  (∀ (c : Fin 256) (d : BitVec 5) (imm : BitVec 16) (s : State), s.Ready c → Answers (.lui c d imm) s fun t =>
    s.Sets c d (imm.signExtend 64 <<< 16) t) ∧
  (∀ (c : Fin 256) (d a : BitVec 5) (sh : BitVec 6) (s : State), s.Ready c → Answers (.slli c d a sh) s fun t
    => s.Sets c d ((s.ctx c).reg a <<< sh.toNat) t) ∧
  (∀ (c : Fin 256) (d a : BitVec 5) (sh : BitVec 6) (s : State), s.Ready c → Answers (.srli c d a sh) s fun t
    => s.Sets c d ((s.ctx c).reg a >>> sh.toNat) t) ∧
  (∀ (c : Fin 256) (d a : BitVec 5) (sh : BitVec 6) (s : State), s.Ready c → Answers (.srai c d a sh) s fun t
    => s.Sets c d (((s.ctx c).reg a).sshiftRight sh.toNat) t) ∧
  (∀ (c : Fin 256) (d a : BitVec 5) (imm : BitVec 16) (s : State), s.Ready c → Answers (.shori c d a imm) s
    fun t => s.Sets c d (((s.ctx c).reg a <<< 16) ||| imm.zeroExtend 64) t)

/-- A load whose units are at hand, unpoisoned and in range writes its bytes, sign- or zero-extended as
Table 8.3 says, to d and goes on; with nothing buffered and no injection armed a doubleword comes from the
wing copy; an address out of form or range faults with the lowest address of the unit that failed and
changes no register. Where the rules leave a choice, the model's own is in log entry 119. Each clause says
that the command answers a next state under conditions on the state and operands alone: lb, lh, lw, ld, lbu,
lhu, lwu. -/
def Obligations.LoadsReturn : Prop :=
  (∀ (c : Fin 256) (d a : BitVec 5) (imm : BitVec 16) (fl : Flips) (s : State), s.Ready c → s.LoadsNow c
    ((s.ctx c).ea a imm) 1 fl → Answers (.lb c d a imm fl) s fun t => s.LoadSets c d (extendTo 1 true (s.loaded
    c ((s.ctx c).ea a imm) 1 fl)) t) ∧
  (∀ (c : Fin 256) (d a : BitVec 5) (imm : BitVec 16) (fl : Flips) (s : State), s.Ready c → s.LoadsNow c
    ((s.ctx c).ea a imm) 2 fl → Answers (.lh c d a imm fl) s fun t => s.LoadSets c d (extendTo 2 true (s.loaded
    c ((s.ctx c).ea a imm) 2 fl)) t) ∧
  (∀ (c : Fin 256) (d a : BitVec 5) (imm : BitVec 16) (fl : Flips) (s : State), s.Ready c → s.LoadsNow c
    ((s.ctx c).ea a imm) 4 fl → Answers (.lw c d a imm fl) s fun t => s.LoadSets c d (extendTo 4 true (s.loaded
    c ((s.ctx c).ea a imm) 4 fl)) t) ∧
  (∀ (c : Fin 256) (d a : BitVec 5) (imm : BitVec 16) (fl : Flips) (s : State), s.Ready c → s.LoadsNow c
    ((s.ctx c).ea a imm) 8 fl → Answers (.ld c d a imm fl) s fun t => s.LoadSets c d (extendTo 8 false (s.loaded
    c ((s.ctx c).ea a imm) 8 fl)) t) ∧
  (∀ (c : Fin 256) (d a : BitVec 5) (imm : BitVec 16) (fl : Flips) (s : State), s.Ready c → s.LoadsNow c
    ((s.ctx c).ea a imm) 1 fl → Answers (.lbu c d a imm fl) s fun t => s.LoadSets c d (extendTo 1 false
    (s.loaded c ((s.ctx c).ea a imm) 1 fl)) t) ∧
  (∀ (c : Fin 256) (d a : BitVec 5) (imm : BitVec 16) (fl : Flips) (s : State), s.Ready c → s.LoadsNow c
    ((s.ctx c).ea a imm) 2 fl → Answers (.lhu c d a imm fl) s fun t => s.LoadSets c d (extendTo 2 false
    (s.loaded c ((s.ctx c).ea a imm) 2 fl)) t) ∧
  (∀ (c : Fin 256) (d a : BitVec 5) (imm : BitVec 16) (fl : Flips) (s : State), s.Ready c → s.LoadsNow c
    ((s.ctx c).ea a imm) 4 fl → Answers (.lwu c d a imm fl) s fun t => s.LoadSets c d (extendTo 4 false
    (s.loaded c ((s.ctx c).ea a imm) 4 fl)) t) ∧
  (∀ (c : Fin 256) (d a : BitVec 5) (imm : BitVec 16) (l : WLine) (s : State), s.Ready c → s.NoInj → (s.ctx
    c).ea a imm % 64 + 8 ≤ 64 → addrFault [((s.ctx c).ea a imm, 8)] = none → s.coh.invBusy.getLsbD (wingOf c) =
    false → (s.ctx c).sb = [] → s.wfind (wingOf c) ((s.ctx c).ea a imm / 64) = some l → l.poison = false →
    s.breached ((s.ctx c).ea a imm / 64) = false → Answers (.ld c d a imm Flips.none) s fun t => s.LoadSets c d
    (BitVec.ofNat 64 (bytesAt l.data ((s.ctx c).ea a imm % 64) 8)) t) ∧
  (∀ (c : Fin 256) (d a : BitVec 5) (imm : BitVec 16) (fl : Flips) (s : State) (code addr : Nat), s.Ready c →
    addrFault (unitAddrs ((s.ctx c).ea a imm) 8) = some (code, addr) → Answers (.ld c d a imm fl) s fun t =>
    s.Faults c code addr t)

/-- A store in range is buffered with its bytes and the context goes on, no line and no other context
changing; zline buffers a whole line of zeros; the oldest entry leaves into the line its wing owns; a
refused store stops its context with STORE_DISCARD, its pc and its address. Where the rules leave a choice,
the model's own is in log entry 122. Each clause says that the command answers a next state under conditions
on the state and operands alone: sb, sh, sw, sd, zline, storeBufferLeave, storeRefusal. -/
def Obligations.StoresAreBuffered : Prop :=
  (∀ (c : Fin 256) (d a : BitVec 5) (imm : BitVec 16) (s : State), s.StoresNow c a imm 1 → Answers (.sb c d a
    imm) s fun t => s.Buffers c d a imm 1 t) ∧
  (∀ (c : Fin 256) (d a : BitVec 5) (imm : BitVec 16) (s : State), s.StoresNow c a imm 2 → Answers (.sh c d a
    imm) s fun t => s.Buffers c d a imm 2 t) ∧
  (∀ (c : Fin 256) (d a : BitVec 5) (imm : BitVec 16) (s : State), s.StoresNow c a imm 4 → Answers (.sw c d a
    imm) s fun t => s.Buffers c d a imm 4 t) ∧
  (∀ (c : Fin 256) (d a : BitVec 5) (imm : BitVec 16) (s : State), s.StoresNow c a imm 8 → Answers (.sd c d a
    imm) s fun t => s.Buffers c d a imm 8 t) ∧
  (∀ (c : Fin 256) (d a : BitVec 5) (imm : BitVec 16) (s : State) (code addr : Nat), s.Ready c → addrFault
    (unitAddrs ((s.ctx c).ea a imm) 8) = some (code, addr) → Answers (.sd c d a imm) s fun t => s.Faults c code
    addr t) ∧
  (∀ (c : Fin 256) (a : BitVec 5) (s : State), s.Ready c → addrFault [(((s.ctx c).reg a).toNat, 1)] = none →
    s.coh.invBusy.getLsbD (wingOf c) = false → s.joins c (s.ctx c).sb (((s.ctx c).reg a).toNat / 64) = false →
    Answers (.zline c a) s fun t => s.RunsOn c ((s.ctx c).pc + 4) (s.ctx c).reg t ∧ s.CurOnly t ∧ (t.ctx c).sb =
    (s.ctx c).sb ++ [⟨((s.ctx c).reg a).toNat / 64, 0, fullMask, (s.ctx c).pc, true, false⟩]) ∧
  (∀ (c : Fin 256) (loan : Bool) (e : SbEnt) (r : List SbEnt) (l : WLine) (s : State), s.NoInj → (s.ctx c).sb
    = e :: r → s.isLocal e.gl = true → e.zline = false → s.wfind (wingOf c) e.gl = some l → l.st ≠ .shared →
    Answers (.storeBufferLeave c loan Flips.none) s fun t => (t.ctx c).sb = r ∧ (t.wfind (wingOf c) e.gl).map
    (fun y => (y.st, y.data)) = some (.modified, merge l.data e.data e.mask) ∧ s.Only [.coh, .cur] t) ∧
  (∀ (c : Fin 256) (pc addr : Nat) (s : State), s.cur.refusals.find? (fun r => decide (r.1 = c.val)) = some
    (c.val, pc, addr) → (s.ctx c).st = .running → (s.ctx c).hold = .none → (s.ctx c).gfence = none → (s.ctx
    c).pendAbort = false → (s.ctx c).pendDiscard = none → Answers (.storeRefusal c) s fun t => (t.ctx c).st =
    .stopped ∧ (t.ctx c).fault = some ⟨fltStoreDiscard, addr, (s.ctx c).pc, pc, (s.ctx c).priv⟩ ∧ (∀ k, k ≠
    c.val → t.ctx k = s.ctx k) ∧ s.Only [.cur] t)

/-- A near atomic on a line its wing owns returns the old operand, a 4-byte one sign-extended, leaves the
new value of Table 8.4 in its place and every other byte as it was; an operand that crosses a line faults
ALIGN; a load whose last line has come writes its register and goes on. Where the rules leave a choice, the
model's own is in log entry 119. Each clause says that the command answers a next state under conditions on
the state and operands alone: aswap, aadd, aand, aor, axor, amin, amax, aminu, amaxu, acas, loadResponse. -/
def Obligations.AtomicsExchange : Prop :=
  (∀ (c : Fin 256) (wide : Bool) (d a b : BitVec 5) (l : WLine) (s : State), s.AtomNow c wide a l → Answers
    (.aswap c wide d a b Flips.none) s fun t => s.Exchanges c wide d a l (((s.ctx c).reg b).toNat) t) ∧
  (∀ (c : Fin 256) (wide : Bool) (d a b : BitVec 5) (l : WLine) (s : State), s.AtomNow c wide a l → Answers
    (.aadd c wide d a b Flips.none) s fun t => s.Exchanges c wide d a l (s.atomOld c wide a l + ((s.ctx c).reg
    b).toNat) t) ∧
  (∀ (c : Fin 256) (wide : Bool) (d a b : BitVec 5) (l : WLine) (s : State), s.AtomNow c wide a l → Answers
    (.aand c wide d a b Flips.none) s fun t => s.Exchanges c wide d a l (s.atomOld c wide a l &&& ((s.ctx c).reg
    b).toNat) t) ∧
  (∀ (c : Fin 256) (wide : Bool) (d a b : BitVec 5) (l : WLine) (s : State), s.AtomNow c wide a l → Answers
    (.aor c wide d a b Flips.none) s fun t => s.Exchanges c wide d a l (s.atomOld c wide a l ||| ((s.ctx c).reg
    b).toNat) t) ∧
  (∀ (c : Fin 256) (wide : Bool) (d a b : BitVec 5) (l : WLine) (s : State), s.AtomNow c wide a l → Answers
    (.axor c wide d a b Flips.none) s fun t => s.Exchanges c wide d a l (s.atomOld c wide a l ^^^ ((s.ctx c).reg
    b).toNat) t) ∧
  (∀ (c : Fin 256) (wide : Bool) (d a b : BitVec 5) (l : WLine) (s : State), s.AtomNow c wide a l → Answers
    (.amin c wide d a b Flips.none) s fun t => s.Exchanges c wide d a l (if (BitVec.ofNat (8 * atomBytes wide)
    (s.atomOld c wide a l)).toInt ≤ (BitVec.ofNat (8 * atomBytes wide) (((s.ctx c).reg b).toNat)).toInt then
    s.atomOld c wide a l else ((s.ctx c).reg b).toNat) t) ∧
  (∀ (c : Fin 256) (wide : Bool) (d a b : BitVec 5) (l : WLine) (s : State), s.AtomNow c wide a l → Answers
    (.amax c wide d a b Flips.none) s fun t => s.Exchanges c wide d a l (if (BitVec.ofNat (8 * atomBytes wide)
    (s.atomOld c wide a l)).toInt ≤ (BitVec.ofNat (8 * atomBytes wide) (((s.ctx c).reg b).toNat)).toInt then
    ((s.ctx c).reg b).toNat else s.atomOld c wide a l) t) ∧
  (∀ (c : Fin 256) (wide : Bool) (d a b : BitVec 5) (l : WLine) (s : State), s.AtomNow c wide a l → Answers
    (.aminu c wide d a b Flips.none) s fun t => s.Exchanges c wide d a l (min (s.atomOld c wide a l) (((s.ctx
    c).reg b).toNat % 2 ^ (8 * atomBytes wide))) t) ∧
  (∀ (c : Fin 256) (wide : Bool) (d a b : BitVec 5) (l : WLine) (s : State), s.AtomNow c wide a l → Answers
    (.amaxu c wide d a b Flips.none) s fun t => s.Exchanges c wide d a l (max (s.atomOld c wide a l) (((s.ctx
    c).reg b).toNat % 2 ^ (8 * atomBytes wide))) t) ∧
  (∀ (c : Fin 256) (wide : Bool) (d a b : BitVec 5) (l : WLine) (s : State), s.AtomNow c wide a l → Answers
    (.acas c wide d a b Flips.none) s fun t => s.Exchanges c wide d a l (if s.atomOld c wide a l = ((s.ctx
    c).reg d).toNat % 2 ^ (8 * atomBytes wide) then ((s.ctx c).reg b).toNat else s.atomOld c wide a l) t) ∧
  (∀ (c : Fin 256) (wide : Bool) (d a b : BitVec 5) (fl : Flips) (s : State), s.Ready c → 64 < ((s.ctx c).reg
    a).toNat % 64 + atomBytes wide → Answers (.aadd c wide d a b fl) s fun t => s.Faults c fltAlign ((s.ctx
    c).reg a).toNat t) ∧
  (∀ (c : Fin 256) (fl : Flips) (l : LdEnt) (s : State), s.phase ≠ stRomRecovery → (s.ctx c).st = .running →
    (s.ctx c).hold = .load l → l.units.all (fun u => u.got.isSome) = true → l.units.find? LdUnit.poisoned = none
    → l.atom = none → Answers (.loadResponse c fl) s fun t => s.Sets c l.rd (extendTo l.n l.signed l.value) t ∧
    (t.ctx c).hold = .none)

/-- A branch goes to pc + sext(imm16) × 4 where its condition holds and to the next word where not; jal and
jalr write pc + 4 to d, jalr after computing its target, a target off a word faulting ALIGN; scall continues
at its export with the export's privilege and sret undoes it; no other register changes. Where the rules
leave a choice, the model's own is in log entry 129. Each clause says that the command answers a next state
under conditions on the state and operands alone: beq, bne, blt, bge, bltu, bgeu, jal, jalr, scall, sret. -/
def Obligations.BranchesJumpsAndLibraryCalls : Prop :=
  (∀ (c : Fin 256) (d a : BitVec 5) (imm : BitVec 16) (s : State), s.Ready c → Answers (.beq c d a imm) s fun
    t => s.RunsOn c (if (s.ctx c).reg d = (s.ctx c).reg a then (BitVec.ofNat 64 (s.ctx c).pc + imm.signExtend 64
    * 4).toNat else (s.ctx c).pc + 4) (s.ctx c).reg t ∧ s.CurOnly t) ∧
  (∀ (c : Fin 256) (d a : BitVec 5) (imm : BitVec 16) (s : State), s.Ready c → Answers (.bne c d a imm) s fun
    t => s.RunsOn c (if (s.ctx c).reg d ≠ (s.ctx c).reg a then (BitVec.ofNat 64 (s.ctx c).pc + imm.signExtend 64
    * 4).toNat else (s.ctx c).pc + 4) (s.ctx c).reg t ∧ s.CurOnly t) ∧
  (∀ (c : Fin 256) (d a : BitVec 5) (imm : BitVec 16) (s : State), s.Ready c → Answers (.blt c d a imm) s fun
    t => s.RunsOn c (if ((s.ctx c).reg d).toInt < ((s.ctx c).reg a).toInt then (BitVec.ofNat 64 (s.ctx c).pc +
    imm.signExtend 64 * 4).toNat else (s.ctx c).pc + 4) (s.ctx c).reg t ∧ s.CurOnly t) ∧
  (∀ (c : Fin 256) (d a : BitVec 5) (imm : BitVec 16) (s : State), s.Ready c → Answers (.bge c d a imm) s fun
    t => s.RunsOn c (if ((s.ctx c).reg a).toInt ≤ ((s.ctx c).reg d).toInt then (BitVec.ofNat 64 (s.ctx c).pc +
    imm.signExtend 64 * 4).toNat else (s.ctx c).pc + 4) (s.ctx c).reg t ∧ s.CurOnly t) ∧
  (∀ (c : Fin 256) (d a : BitVec 5) (imm : BitVec 16) (s : State), s.Ready c → Answers (.bltu c d a imm) s fun
    t => s.RunsOn c (if ((s.ctx c).reg d).toNat < ((s.ctx c).reg a).toNat then (BitVec.ofNat 64 (s.ctx c).pc +
    imm.signExtend 64 * 4).toNat else (s.ctx c).pc + 4) (s.ctx c).reg t ∧ s.CurOnly t) ∧
  (∀ (c : Fin 256) (d a : BitVec 5) (imm : BitVec 16) (s : State), s.Ready c → Answers (.bgeu c d a imm) s fun
    t => s.RunsOn c (if ((s.ctx c).reg a).toNat ≤ ((s.ctx c).reg d).toNat then (BitVec.ofNat 64 (s.ctx c).pc +
    imm.signExtend 64 * 4).toNat else (s.ctx c).pc + 4) (s.ctx c).reg t ∧ s.CurOnly t) ∧
  (∀ (c : Fin 256) (d : BitVec 5) (imm : BitVec 16) (s : State), s.Ready c → Answers (.jal c d imm) s fun t =>
    s.RunsOn c ((BitVec.ofNat 64 (s.ctx c).pc + imm.signExtend 64 * 4).toNat) ((s.ctx c).regsWith d
    (BitVec.ofNat 64 ((s.ctx c).pc + 4))) t ∧ s.CurOnly t) ∧
  (∀ (c : Fin 256) (d a : BitVec 5) (imm : BitVec 16) (s : State), s.Ready c → (s.ctx c).ea a imm % 4 = 0 →
    Answers (.jalr c d a imm) s fun t => s.RunsOn c ((s.ctx c).ea a imm) ((s.ctx c).regsWith d (BitVec.ofNat 64
    ((s.ctx c).pc + 4))) t ∧ s.CurOnly t) ∧
  (∀ (c : Fin 256) (d a : BitVec 5) (imm : BitVec 16) (s : State), s.Ready c → (s.ctx c).ea a imm % 4 ≠ 0 →
    Answers (.jalr c d a imm) s fun t => s.Faults c fltAlign ((s.ctx c).ea a imm) t) ∧
  (∀ (c : Fin 256) (imm : BitVec 16) (p e : Program) (q off : Nat) (s : State), s.Ready c → (s.ctx c).sb = []
    → s.prog (s.ctx c).prog = some p → p.imports[imm.toNat]? = some (q, off) → (s.ctx c).links.length < 4 →
    s.prog q = some e → Answers (.scall c imm) s fun t => s.RunsOn c (e.code + off) (s.ctx c).reg t ∧ s.CurOnly
    t ∧ (t.ctx c).priv = e.priv ∧ (t.ctx c).prog = q ∧ (t.ctx c).links = ⟨(s.ctx c).pc + 4, (s.ctx c).prog,
    (s.ctx c).priv⟩ :: (s.ctx c).links) ∧
  (∀ (c : Fin 256) (l : Link) (r : List Link) (s : State), s.Ready c → (s.ctx c).sb = [] → (s.ctx c).links = l
    :: r → Answers (.sret c) s fun t => s.RunsOn c (l.pc) (s.ctx c).reg t ∧ s.CurOnly t ∧ (t.ctx c).priv =
    l.priv ∧ (t.ctx c).prog = l.prog ∧ (t.ctx c).links = r) ∧
  (∀ (c : Fin 256) (s : State), s.Ready c → (s.ctx c).sb = [] → (s.ctx c).links = [] → Answers (.sret c) s fun
    t => s.Faults c fltCallDepth 0 t)

/-- A fence waits for the store buffer and changes nothing while it waits; fence.i ends the core's copies of
lines the context wrote; fence.g reports stores never performed; control words are read and written above
their floors and fault CW_ACCESS below; trap, an undefined word and a passed deadline stop the context with
their codes; a stopped context's fault is posted to its completion queue and it is IDLE. Where the rules
leave a choice, the model's own is in log entries 3, 118, 123, 124, 125, 128. Each clause says that the
command answers a next state under conditions on the state and operands alone: fence, fenceI, fenceG, psync,
cwrd, cwwr, trap, pause, pauseEnd, deadlineReached, illegalInstruction, faultDelivery. -/
def Obligations.FencesControlWordsAndFaults : Prop :=
  (∀ (c : Fin 256) (s : State), s.Ready c → (s.ctx c).sb = [] → Answers (.fence c) s fun t => s.RunsOn c
    ((s.ctx c).pc + 4) (s.ctx c).reg t ∧ s.CurOnly t) ∧
  (∀ (c : Fin 256) (s : State), s.Ready c → (s.ctx c).sb ≠ [] → Answers (.fence c) s fun t => t = s) ∧
  (∀ (c : Fin 256) (s : State), s.Ready c → (s.ctx c).sb = [] → Answers (.fenceI c) s fun t => s.RunsOn c
    ((s.ctx c).pc + 4) (s.ctx c).reg t ∧ s.Only [.regs, .evq, .coh, .cur, .tal, .tcnt, .free] t ∧ (t.ctx
    c).wrote = [] ∧ ∀ k, k / 128 = coreOf c → ∀ e ∈ SMap.get [] t.coh.l1i k, e.1 ∉ (s.ctx c).wrote) ∧
  (∀ (c : Fin 256) (d : BitVec 5) (s : State), s.Ready c → (s.ctx c).sb = [] → s.outOf c = [] → (s.ctx
    c).gfence = none → Answers (.fenceG c d) s fun t => s.RunsOn c ((s.ctx c).pc + 4) ((s.ctx c).regsWith d (if
    s.unperformed c then 1 else 0)) t) ∧
  (∀ (c : Fin 256) (d : BitVec 5) (s : State), s.Ready c → (s.ctx c).sb = [] → s.refusing c = false → Answers
    (.psync c d) s fun t => s.Sets c d (BitVec.ofNat 64 (s.ctx c).lost) t) ∧
  (∀ (c : Fin 256) (d : BitVec 5) (s : State), s.Ready c → Answers (.cwrd c d 1) s fun t => s.Sets c d
    (BitVec.ofNat 64 s.now) t) ∧
  (∀ (c : Fin 256) (d : BitVec 5) (cw : BitVec 6) (r : Nat) (w : Option Nat) (s : State), s.Ready c → cwFloors
    cw.toNat = some (r, w) → r ≤ (s.ctx c).priv.code → Answers (.cwrd c d cw) s fun t => s.Sets c d
    (BitVec.ofNat 64 (s.cwValue c cw.toNat)) t) ∧
  (∀ (c : Fin 256) (d : BitVec 5) (cw : BitVec 6) (r : Nat) (w : Option Nat) (s : State), s.Ready c → cwFloors
    cw.toNat = some (r, w) → (s.ctx c).priv.code < r → Answers (.cwrd c d cw) s fun t => s.Faults c fltCwAccess
    cw.toNat t) ∧
  (∀ (c : Fin 256) (d : BitVec 5) (cw : BitVec 6) (r w : Nat) (s : State), s.Ready c → cwFloors cw.toNat =
    some (r, some w) → w ≤ (s.ctx c).priv.code → Answers (.cwwr c d cw) s fun t => s.RunsOn c ((s.ctx c).pc + 4)
    (s.ctx c).reg t ∧ s.CurOnly t ∧ (if cw = 5 then (t.ctx c).deadline = ((s.ctx c).reg d).toNat ∧ (t.ctx c).scr
    = (s.ctx c).scr else SMap.get 0 (t.ctx c).scr cw.toNat = (s.ctx c).reg d ∧ (t.ctx c).deadline = (s.ctx
    c).deadline)) ∧
  (∀ (c : Fin 256) (d : BitVec 5) (cw : BitVec 6) (r w : Nat) (s : State), s.Ready c → cwFloors cw.toNat =
    some (r, some w) → (s.ctx c).priv.code < w → Answers (.cwwr c d cw) s fun t => s.Faults c fltCwAccess
    cw.toNat t) ∧
  (∀ (c : Fin 256) (imm : BitVec 16) (s : State), s.Ready c → Answers (.trap c imm) s fun t => s.Faults c
    fltTrap imm.toNat t) ∧
  (∀ (c : Fin 256) (imm : BitVec 16) (s : State), s.Ready c → Answers (.pause c imm) s fun t => s.RunsOn c
    ((s.ctx c).pc + 4) (s.ctx c).reg t ∧ s.CurOnly t ∧ (t.ctx c).hold = .pause (imm.toNat + 1)) ∧
  (∀ (c : Fin 256) (n : Nat) (s : State), (s.ctx c).hold = .pause n → (s.ctx c).st = .running → s.boundary c =
    none → Answers (.pauseEnd c) s fun t => t.ctx c = { s.ctx c with hold := .none } ∧ (∀ k, k ≠ c.val → t.ctx k
    = s.ctx k) ∧ s.Only [.cur] t) ∧
  (∀ (c : Fin 256) (s : State), (s.ctx c).st = .running → (s.ctx c).hold = .none → (s.ctx c).gfence = none →
    (s.ctx c).pendAbort = false → (s.ctx c).pendDiscard = none → (s.ctx c).deadline ≠ 0 → (s.ctx c).deadline ≤
    s.now → Answers (.deadlineReached c) s fun t => (t.ctx c).st = .stopped ∧ (t.ctx c).fault = some ⟨fltLimit,
    (s.ctx c).deadline, (s.ctx c).pc, 0, (s.ctx c).priv⟩ ∧ s.Only [.cur] t) ∧
  (∀ (c : Fin 256) (w : BitVec 32) (s : State), s.Ready c → legalWord w = false → Answers (.illegalInstruction
    c w) s fun t => s.Faults c fltIllegal 0 t) ∧
  (∀ (c : Fin 256) (giveUp : Bool) (f : FaultRec) (s : State), (s.ctx c).st = .stopped → (s.ctx c).fault =
    some f → f.priv ≠ .warden → (s.ctx c).sb = [] → (s.ctx c).jobs = [] → (s.ctx c).donePend = false → s.cqGood
    (s.ctx c).cq = true → s.qFull (s.ctx c).cq = false → Answers (.faultDelivery c giveUp) s fun t => (t.queue
    (s.ctx c).cq).vis = (s.queue (s.ctx c).cq).vis ++ (s.queue (s.ctx c).cq).held ++ [⟨s.callRecord c, false⟩] ∧
    (t.ctx c).st = .idle)

/-- qget takes the oldest entry into its line and writes status 0 once the line is accepted, and status 1
from an empty queue, where qgetw waits; qput appends its line as the newest entry, or writes 1 where the
queue is full or disabled; a queue not open to the program faults Q_ACCESS. Each clause says that the
command answers a next state under conditions on the state and operands alone: qget, qgetw, qput. -/
def Obligations.QueueInstructionsRun : Prop :=
  (∀ (c : Fin 256) (d a b : BitVec 5) (corr : Fin 9) (e : QEntry) (r : List QEntry) (s : State), s.Served c →
    s.NoInj → s.qOpenTo (s.ctx c) ((s.ctx c).reg a).toNat = true → lineFault ((s.ctx c).reg b).toNat = none →
    s.qOn ((s.ctx c).reg a).toNat = true → (s.queue ((s.ctx c).reg a).toNat).vis = e :: r → e.bad = false →
    (s.qTake ((s.ctx c).reg a).toNat corr false).2.Accepts c (((s.ctx c).reg b).toNat / 64) e.data → Answers
    (.qget c d a b corr false) s fun t => ((s.qTake ((s.ctx c).reg a).toNat corr false).2.afterWrite c (((s.ctx
    c).reg b).toNat / 64) e.data).Sets c d 0 t ∧ (t.queue ((s.ctx c).reg a).toNat).vis = r) ∧
  (∀ (c : Fin 256) (d a b : BitVec 5) (corr : Fin 9) (e : QEntry) (r : List QEntry) (s : State), s.Served c →
    s.NoInj → s.qOpenTo (s.ctx c) ((s.ctx c).reg a).toNat = true → lineFault ((s.ctx c).reg b).toNat = none →
    s.qOn ((s.ctx c).reg a).toNat = true → (s.queue ((s.ctx c).reg a).toNat).vis = e :: r → e.bad = false →
    (s.qTake ((s.ctx c).reg a).toNat corr false).2.Accepts c (((s.ctx c).reg b).toNat / 64) e.data → Answers
    (.qgetw c d a b corr false) s fun t => ((s.qTake ((s.ctx c).reg a).toNat corr false).2.afterWrite c (((s.ctx
    c).reg b).toNat / 64) e.data).Sets c d 0 t ∧ (t.queue ((s.ctx c).reg a).toNat).vis = r) ∧
  (∀ (c : Fin 256) (d a b : BitVec 5) (corr : Fin 9) (unc : Bool) (e : QEntry) (r : List QEntry) (s : State),
    s.Served c → s.qOpenTo (s.ctx c) ((s.ctx c).reg a).toNat = true → lineFault ((s.ctx c).reg b).toNat = none →
    s.qOn ((s.ctx c).reg a).toNat = true → (s.queue ((s.ctx c).reg a).toNat).vis = e :: r → unc = true ∨ e.bad =
    true → Answers (.qget c d a b corr unc) s fun t => (s.qTake ((s.ctx c).reg a).toNat corr unc).2.Sets c d 2 t
    ∧ (t.queue ((s.ctx c).reg a).toNat).vis = r) ∧
  (∀ (c : Fin 256) (d a b : BitVec 5) (corr : Fin 9) (unc : Bool) (e : QEntry) (r : List QEntry) (s : State),
    s.Served c → s.qOpenTo (s.ctx c) ((s.ctx c).reg a).toNat = true → lineFault ((s.ctx c).reg b).toNat = none →
    s.qOn ((s.ctx c).reg a).toNat = true → (s.queue ((s.ctx c).reg a).toNat).vis = e :: r → unc = true ∨ e.bad =
    true → Answers (.qgetw c d a b corr unc) s fun t => (s.qTake ((s.ctx c).reg a).toNat corr unc).2.Sets c d 2
    t ∧ (t.queue ((s.ctx c).reg a).toNat).vis = r) ∧
  (∀ (c : Fin 256) (d a b : BitVec 5) (corr : Fin 9) (unc : Bool) (s : State), s.Served c → s.qOpenTo (s.ctx
    c) ((s.ctx c).reg a).toNat = true → lineFault ((s.ctx c).reg b).toNat = none → s.qOn ((s.ctx c).reg a).toNat
    = false ∨ (s.queue ((s.ctx c).reg a).toNat).vis = [] → Answers (.qget c d a b corr unc) s fun t => s.Sets c
    d 1 t) ∧
  (∀ (c : Fin 256) (d a b : BitVec 5) (corr : Fin 9) (unc : Bool) (s : State), s.Served c → s.qOpenTo (s.ctx
    c) ((s.ctx c).reg a).toNat = true → lineFault ((s.ctx c).reg b).toNat = none → s.qOn ((s.ctx c).reg a).toNat
    = false ∨ (s.queue ((s.ctx c).reg a).toNat).vis = [] → Answers (.qgetw c d a b corr unc) s fun t => t = s) ∧
  (∀ (c : Fin 256) (d a b : BitVec 5) (corr : Fin 9) (unc : Bool) (s : State), s.Served c → s.qOpenTo (s.ctx
    c) ((s.ctx c).reg a).toNat = false → Answers (.qget c d a b corr unc) s fun t => s.Faults c fltQAccess
    ((s.ctx c).reg a).toNat t) ∧
  (∀ (c : Fin 256) (d a b : BitVec 5) (ext : Ext) (l : Line) (u : State) (s : State), s.Names c ((s.ctx c).reg
    b).toNat ext l u → u.qOpenTo (s.ctx c) ((s.ctx c).reg a).toNat = true → u.qOn ((s.ctx c).reg a).toNat = true
    → u.qFull ((s.ctx c).reg a).toNat = false → Answers (.qput c d a b ext) s fun t => u.RunsOn c ((s.ctx c).pc
    + 4) ((s.ctx c).regsWith d 0) t ∧ (t.queue ((s.ctx c).reg a).toNat).vis = (u.queue ((s.ctx c).reg
    a).toNat).vis ++ (u.queue ((s.ctx c).reg a).toNat).held ++ [⟨l, false⟩] ∧ ∀ k, k ≠ ((s.ctx c).reg a).toNat →
    t.queue k = u.queue k) ∧
  (∀ (c : Fin 256) (d a b : BitVec 5) (ext : Ext) (l : Line) (u : State) (s : State), s.Names c ((s.ctx c).reg
    b).toNat ext l u → u.qOpenTo (s.ctx c) ((s.ctx c).reg a).toNat = true → u.qOn ((s.ctx c).reg a).toNat =
    false ∨ u.qFull ((s.ctx c).reg a).toNat = true → Answers (.qput c d a b ext) s fun t => u.Sets c d 1 t)

/-- accreate with a good range and an HMAC slot takes the lowest free number and holds its context until its
page write ends, and writes 1 for a bad range; acinfo copies the entry into two lines, or writes 5; acdelete
removes an entry that has no segment, and writes 4 or 5 where it may not; the table itself changes only at
the commit. Where the rules leave a choice, the model's own is in log entry 106. Each clause says that the
command answers a next state under conditions on the state and operands alone: accreate, acinfo, acdelete.
-/
def Obligations.AccessionInstructionsRun : Prop :=
  (∀ (c : Fin 256) (d a : BitVec 5) (ext : Ext) (l : Line) (kp : Bytes) (n : Nat) (u : State) (s : State),
    s.Names c ((s.ctx c).reg a).toNat ext l u → u.accBadRange (wordAt l 0) (wordAt l 1) (wordAt l 2) = false →
    u.hmacKey ((wordAt l 3) % 64) = some kp → u.accFree = some n → Answers (.accreate c d a ext) s fun t =>
    u.Held c 0x3B d t ∧ t.cur.accs = u.cur.accs ∧ (∃ e, t.cur.accOps = u.cur.accOps ++ [(c.val, d.toNat, n, e)]
    ∧ e.st = .open ∧ e.base = (wordAt l 0) / 16384 ∧ e.limit = (wordAt l 1) ∧ e.maxsegs = (wordAt l 2) ∧
    e.provkey = (wordAt l 3) % 64 ∧ e.created = u.now ∧ e.sealed = 0 ∧ e.segments = 0)) ∧
  (∀ (c : Fin 256) (d a : BitVec 5) (ext : Ext) (l : Line) (u : State) (s : State), s.Names c ((s.ctx c).reg
    a).toNat ext l u → u.accBadRange (wordAt l 0) (wordAt l 1) (wordAt l 2) = true → Answers (.accreate c d a
    ext) s fun t => u.Sets c d 1 t) ∧
  (∀ (c : Fin 256) (d a b : BitVec 5) (s : State), s.Served c → ((s.ctx c).reg b).toNat % 64 = 0 → addrFault
    [(((s.ctx c).reg b).toNat, 64), (((s.ctx c).reg b).toNat + 64, 64)] = none → ((s.ctx c).reg a).toNat < 65536
    → s.Accepts c (((s.ctx c).reg b).toNat / 64) (lineOfWords ((List.range 8).map (s.acc ((s.ctx c).reg
    a).toNat).word)) → (s.afterWrite c (((s.ctx c).reg b).toNat / 64) (lineOfWords ((List.range 8).map (s.acc
    ((s.ctx c).reg a).toNat).word))).Accepts c (((s.ctx c).reg b).toNat / 64 + 1) (lineOfWords ((List.range
    8).map (fun w => (s.acc ((s.ctx c).reg a).toNat).word (8 + w)))) → Answers (.acinfo c d a b) s fun t =>
    ((s.afterWrite c (((s.ctx c).reg b).toNat / 64) (lineOfWords ((List.range 8).map (s.acc ((s.ctx c).reg
    a).toNat).word))).afterWrite c (((s.ctx c).reg b).toNat / 64 + 1) (lineOfWords ((List.range 8).map (fun w =>
    (s.acc ((s.ctx c).reg a).toNat).word (8 + w))))).Sets c d 0 t) ∧
  (∀ (c : Fin 256) (d a b : BitVec 5) (s : State), s.Served c → ((s.ctx c).reg b).toNat % 64 = 0 → addrFault
    [(((s.ctx c).reg b).toNat, 64), (((s.ctx c).reg b).toNat + 64, 64)] = none → 65536 ≤ ((s.ctx c).reg a).toNat
    → Answers (.acinfo c d a b) s fun t => s.Sets c d 5 t) ∧
  (∀ (c : Fin 256) (d a : BitVec 5) (s : State), s.Served c → 65536 ≤ ((s.ctx c).reg a).toNat ∨ (s.acc ((s.ctx
    c).reg a).toNat).st = .free → Answers (.acdelete c d a) s fun t => s.Sets c d 5 t) ∧
  (∀ (c : Fin 256) (d a : BitVec 5) (s : State), s.Served c → ((s.ctx c).reg a).toNat < 65536 → (s.acc ((s.ctx
    c).reg a).toNat).st = .open → (s.acc ((s.ctx c).reg a).toNat).segments = 0 → s.cur.accOps.any (fun o =>
    decide (o.2.2.1 = ((s.ctx c).reg a).toNat)) = false → Answers (.acdelete c d a) s fun t => s.Held c 0x3B d t
    ∧ t.cur.accs = s.cur.accs ∧ t.cur.accOps = s.cur.accOps ++ [(c.val, d.toNat, ((s.ctx c).reg a).toNat,
    Acc.init)]) ∧
  (∀ (c : Fin 256) (d a : BitVec 5) (s : State), s.Served c → ((s.ctx c).reg a).toNat < 65536 → 0 < (s.acc
    ((s.ctx c).reg a).toNat).segments → (s.acc ((s.ctx c).reg a).toNat).st = .open → s.cur.accOps.any (fun o =>
    decide (o.2.2.1 = ((s.ctx c).reg a).toNat)) = false → Answers (.acdelete c d a) s fun t => s.Sets c d 4 t)

/-- keyset and keyclr of a slot no region and no accession names wait for their page write with the new key
or none, the slots themselves unchanged; a slot in use or a bad descriptor gets its status; regions are
created, changed and deleted in the same way with resolved attributes; a GUEST faults PRIV; admrd returns a
register, admwr writes one and faults in the guarded blocks below WARDEN. Where the rules leave a choice,
the model's own is in log entries 13, 19, 78, 79. Each clause says that the command answers a next state
under conditions on the state and operands alone: keyset, keyclr, rgncreate, rgnchange, rgndelete, admrd,
admwr. -/
def Obligations.AdministrativeInstructionsRun : Prop :=
  (∀ (c : Fin 256) (d a b : BitVec 5) (ext : Ext) (l : Line) (ty : KeyType) (u : State) (s : State), s.Names c
    ((s.ctx c).reg b).toNat ext l u → 1 ≤ (s.ctx c).priv.code → u.keyOps = [] → wordAt l 0 / 2 ^ 56 = 0 →
    keyTypeOf (wordAt l 0 / 2 ^ 48 % 256) = some ty → u.slotInUse (((s.ctx c).reg a).toNat % 64) = false →
    Answers (.keyset c d a b ext) s fun t => u.Held c 0x3C d t ∧ t.slots = u.slots ∧ t.keyOps = [⟨c, d.toNat,
    (((s.ctx c).reg a).toNat % 64), some ⟨ty, 0, BitVec.ofNat 256 (bytesAt l 16 ty.size)⟩⟩]) ∧
  (∀ (c : Fin 256) (d a b : BitVec 5) (ext : Ext) (l : Line) (u : State) (s : State), s.Names c ((s.ctx c).reg
    b).toNat ext l u → 1 ≤ (s.ctx c).priv.code → u.keyOps = [] → 2 < wordAt l 0 / 2 ^ 56 ∨ keyTypeOf (wordAt l 0
    / 2 ^ 48 % 256) = none → Answers (.keyset c d a b ext) s fun t => u.Sets c d 1 t) ∧
  (∀ (c : Fin 256) (d a b : BitVec 5) (ext : Ext) (s : State), s.Served c → (s.ctx c).priv = .guest → Answers
    (.keyset c d a b ext) s fun t => s.Faults c fltPriv 0 t) ∧
  (∀ (c : Fin 256) (d a : BitVec 5) (s : State), s.Served c → 1 ≤ (s.ctx c).priv.code → s.keyOps = [] →
    s.slotInUse (((s.ctx c).reg a).toNat % 64) = false → Answers (.keyclr c d a) s fun t => s.Held c 0x3C d t ∧
    t.slots = s.slots ∧ t.keyOps = [⟨c, d.toNat, (((s.ctx c).reg a).toNat % 64), none⟩]) ∧
  (∀ (c : Fin 256) (d a : BitVec 5) (s : State), s.Served c → 1 ≤ (s.ctx c).priv.code → s.keyOps = [] →
    s.slotInUse (((s.ctx c).reg a).toNat % 64) = true → Answers (.keyclr c d a) s fun t => s.Sets c d 2 t) ∧
  (∀ (c : Fin 256) (d a : BitVec 5) (ext : Ext) (l : Line) (u : State) (s : State), s.Names c ((s.ctx c).reg
    a).toNat ext l u → 1 ≤ (s.ctx c).priv.code → u.rgnOp (bitsOf (wordAt l 0) 61 50) = none → u.keyBusy
    (fixKeyslot (attrOfWord (wordAt l 2)).keyslot) = false → (bitsOf (wordAt l 0) 61 50) ≠ 0 → (u.region (bitsOf
    (wordAt l 0) 61 50)).st = .free → bitsOf (wordAt l 1) 18 0 ≠ 0 → bitsOf (wordAt l 0) 42 24 + bitsOf (wordAt
    l 1) 18 0 ≤ 458752 → u.rgnOverlaps (bitsOf (wordAt l 0) 42 24) (bitsOf (wordAt l 1) 18 0) = false →
    u.rgnNoKeyAt (fixKeyslot (attrOfWord (wordAt l 2)).keyslot) = false → Answers (.rgncreate c d a ext) s fun t
    => u.Held c 0x3C d t ∧ t.regions = u.regions ∧ t.rops.map RgnOp.new = u.rops.map RgnOp.new ++ [⟨.live,
    bitsOf (wordAt l 0) 42 24, bitsOf (wordAt l 1) 18 0, 0, (attrOfWord (wordAt l 2)).resolve (bitsOf (wordAt l
    0) 61 50), 0⟩]) ∧
  (∀ (c : Fin 256) (d a : BitVec 5) (ext : Ext) (l : Line) (u : State) (s : State), s.Names c ((s.ctx c).reg
    a).toNat ext l u → 1 ≤ (s.ctx c).priv.code → u.rgnOp (bitsOf (wordAt l 0) 61 50) = none → u.keyBusy
    (fixKeyslot (attrOfWord (wordAt l 2)).keyslot) = false → (bitsOf (wordAt l 0) 61 50) = 0 ∨ (u.region (bitsOf
    (wordAt l 0) 61 50)).st ≠ .free → Answers (.rgncreate c d a ext) s fun t => u.Sets c d (BitVec.ofNat 64
    rgnInUse) t ∧ t.rops = u.rops) ∧
  (∀ (c : Fin 256) (d a : BitVec 5) (ext : Ext) (l : Line) (u : State) (s : State), s.Names c ((s.ctx c).reg
    a).toNat ext l u → 1 ≤ (s.ctx c).priv.code → u.rgnOp (bitsOf (wordAt l 0) 61 50) = none → u.keyBusy
    (fixKeyslot (attrOfWord (wordAt l 2)).keyslot) = false → (u.region (bitsOf (wordAt l 0) 61 50)).st ≠ .live →
    Answers (.rgnchange c d a ext) s fun t => u.Sets c d (BitVec.ofNat 64 rgnNoRegion) t ∧ t.rops = u.rops) ∧
  (∀ (c : Fin 256) (d a : BitVec 5) (ext : Ext) (l : Line) (u : State) (s : State), s.Names c ((s.ctx c).reg
    a).toNat ext l u → 1 ≤ (s.ctx c).priv.code → u.rgnOp (bitsOf (wordAt l 0) 61 50) = none → u.keyBusy
    (fixKeyslot (attrOfWord (wordAt l 2)).keyslot) = false → (u.region (bitsOf (wordAt l 0) 61 50)).st = .live →
    u.rgnNoKeyAt (fixKeyslot (attrOfWord (wordAt l 2)).keyslot) = false → ((attrOfWord (wordAt l 2)).resolve
    (bitsOf (wordAt l 0) 61 50)).light = (u.region (bitsOf (wordAt l 0) 61 50)).attr.light → ((attrOfWord
    (wordAt l 2)).resolve (bitsOf (wordAt l 0) 61 50)).append = (u.region (bitsOf (wordAt l 0) 61
    50)).attr.append → ((attrOfWord (wordAt l 2)).resolve (bitsOf (wordAt l 0) 61 50)).keyslot = (u.region
    (bitsOf (wordAt l 0) 61 50)).attr.keyslot → (u.region (bitsOf (wordAt l 0) 61 50)).attr.sealable = false →
    Answers (.rgnchange c d a ext) s fun t => u.Held c 0x3C d t ∧ t.regions = u.regions ∧ t.rops.map RgnOp.new =
    u.rops.map RgnOp.new ++
    [{ u.region (bitsOf (wordAt l 0) 61 50) with attr := (attrOfWord (wordAt l 2)).resolve (bitsOf (wordAt l 0) 61 50), gen := ((u.region (bitsOf (wordAt l 0) 61 50)).gen + 1) % 2 ^ 32 }]) ∧
  (∀ (c : Fin 256) (d a : BitVec 5) (s : State), s.Served c → 1 ≤ (s.ctx c).priv.code → ((s.ctx c).reg
    a).toNat < 4096 → ((s.ctx c).reg a).toNat ≠ 0 → s.rgnOp ((s.ctx c).reg a).toNat = none → (s.region ((s.ctx
    c).reg a).toNat).st = .live → s.rgnSealedIn ((s.ctx c).reg a).toNat = false → Answers (.rgndelete c d a) s
    fun t => s.Held c 0x3C d t ∧ t.regions = s.regions ∧ t.rops.map RgnOp.new = s.rops.map RgnOp.new ++
    [{ s.region ((s.ctx c).reg a).toNat with st := .deleting }]) ∧
  (∀ (c : Fin 256) (d a : BitVec 5) (s : State), s.Served c → 1 ≤ (s.ctx c).priv.code → 4096 ≤ ((s.ctx c).reg
    a).toNat → Answers (.rgndelete c d a) s fun t => s.Sets c d (BitVec.ofNat 64 rgnNoRegion) t) ∧
  (∀ (c : Fin 256) (d a : BitVec 5) (r : RegRow) (k : Nat) (s : State), s.Served c → 1 ≤ (s.ctx c).priv.code →
    ((s.ctx c).reg a).toNat < hstBase → regFind ((s.ctx c).reg a).toNat = some (r, k) → s.blockUp ((s.ctx c).reg
    a).toNat = true → Answers (.admrd c d a) s fun t => s.Sets c d (BitVec.ofNat 64 (s.regWord 4 r k)) t) ∧
  (∀ (c : Fin 256) (a b : BitVec 5) (libOk : Bool) (s : State), s.Served c → 1 ≤ (s.ctx c).priv.code → ((s.ctx
    c).reg a).toNat = 0x40 → s.bit D.GBL_CTL_scrlock = false → Answers (.admwr c a b libOk) s fun t => (t.ctx
    c).pc = (s.ctx c).pc + 4 ∧ (t.ctx c).st = .running ∧ t.rd D.GBL_SCRATCH_value = ((s.ctx c).reg b).toNat) ∧
  (∀ (c : Fin 256) (a b : BitVec 5) (libOk : Bool) (s : State), s.Served c → (s.ctx c).priv = .steward →
    ((s.ctx c).reg a).toNat / 0x10000 = 6 → Answers (.admwr c a b libOk) s fun t => s.Faults c fltPriv 0 t)

/-- A descriptor of the right kind at an address with no outstanding job is accepted as the youngest job
with d = 0, and one of the wrong kind gets JOB_BADDESC and nothing else; jwait and jpoll return the kept
status word of a job that is over, and while it is outstanding jpoll returns 0 and jwait waits; the oldest
job starts on a free engine; a started job whose checks or inputs end it, or whose last output line is
written, gets the status word and is removed, and one that has output writes it. Where the rules leave a
choice, the model's own is in log entries 132, 133, 134, 135. Each clause says that the command answers a
next state under conditions on the state and operands alone: jsubC, jsubM, jsubS, jwait, jpoll, jobStart,
moverJobComplete, cipherJobComplete. -/
def Obligations.JobsRun : Prop :=
  (∀ (c : Fin 256) (d a : BitVec 5) (ext : Ext) (l : Line) (u : State) (s : State), s.Names c ((s.ctx c).reg
    a).toNat ext l u → (s.ctx c).jobs.length < 16 → wordAt l 0 / 2 ^ 56 = JobKind.code .cipher → (s.ctx
    c).jobs.all (fun j => decide (j.desc ≠ ((s.ctx c).reg a).toNat)) = true → Answers (.jsubC c d a ext) s fun t
    => u.Sets c d 0 t ∧ (t.ctx c).jobs = (s.ctx c).jobs ++ [⟨((s.ctx c).reg a).toNat, .cipher, l, false, [], 0,
    false, none⟩]) ∧
  (∀ (c : Fin 256) (d a : BitVec 5) (ext : Ext) (l : Line) (u : State) (s : State), s.Names c ((s.ctx c).reg
    a).toNat ext l u → (s.ctx c).jobs.length < 16 → wordAt l 0 / 2 ^ 56 = JobKind.code .mover → (s.ctx
    c).jobs.all (fun j => decide (j.desc ≠ ((s.ctx c).reg a).toNat)) = true → Answers (.jsubM c d a ext) s fun t
    => u.Sets c d 0 t ∧ (t.ctx c).jobs = (s.ctx c).jobs ++ [⟨((s.ctx c).reg a).toNat, .mover, l, false, [], 0,
    false, none⟩]) ∧
  (∀ (c : Fin 256) (d a : BitVec 5) (ext : Ext) (l : Line) (u : State) (s : State), s.Names c ((s.ctx c).reg
    a).toNat ext l u → (s.ctx c).jobs.length < 16 → wordAt l 0 / 2 ^ 56 = JobKind.code .seal → (s.ctx
    c).jobs.all (fun j => decide (j.desc ≠ ((s.ctx c).reg a).toNat)) = true → Answers (.jsubS c d a ext) s fun t
    => u.Sets c d 0 t ∧ (t.ctx c).jobs = (s.ctx c).jobs ++ [⟨((s.ctx c).reg a).toNat, .seal, l, false, [], 0,
    false, none⟩]) ∧
  (∀ (c : Fin 256) (d a : BitVec 5) (ext : Ext) (l : Line) (u : State) (s : State), s.Names c ((s.ctx c).reg
    a).toNat ext l u → (s.ctx c).jobs.length < 16 → wordAt l 0 / 2 ^ 56 ≠ JobKind.code .mover → Answers (.jsubM
    c d a ext) s fun t => u.Sets c d (statusWord jobBadDesc 0) t ∧ (t.ctx c).jobs = (s.ctx c).jobs) ∧
  (∀ (c : Fin 256) (d a : BitVec 5) (ext : Ext) (w : Word) (s : State), s.Served c → lineFault ((s.ctx c).reg
    a).toNat = none → (s.ctx c).jobs.all (fun j => decide (j.desc ≠ ((s.ctx c).reg a).toNat)) = true → (s.ctx
    c).kept.find? (fun e => decide (e.1 = ((s.ctx c).reg a).toNat)) = some (((s.ctx c).reg a).toNat, w) →
    Answers (.jwait c d a ext) s fun t => s.Sets c d w t) ∧
  (∀ (c : Fin 256) (d a : BitVec 5) (ext : Ext) (w : Word) (s : State), s.Served c → lineFault ((s.ctx c).reg
    a).toNat = none → (s.ctx c).jobs.all (fun j => decide (j.desc ≠ ((s.ctx c).reg a).toNat)) = true → (s.ctx
    c).kept.find? (fun e => decide (e.1 = ((s.ctx c).reg a).toNat)) = some (((s.ctx c).reg a).toNat, w) →
    Answers (.jpoll c d a ext) s fun t => s.Sets c d w t) ∧
  (∀ (c : Fin 256) (d a : BitVec 5) (ext : Ext) (s : State), s.Served c → lineFault ((s.ctx c).reg a).toNat =
    none → (s.ctx c).jobs.any (fun j => decide (j.desc = ((s.ctx c).reg a).toNat)) = true → Answers (.jpoll c d
    a ext) s fun t => s.Sets c d 0 t) ∧
  (∀ (c : Fin 256) (d a : BitVec 5) (ext : Ext) (s : State), s.Served c → lineFault ((s.ctx c).reg a).toNat =
    none → (s.ctx c).jobs.any (fun j => decide (j.desc = ((s.ctx c).reg a).toNat)) = true → Answers (.jwait c d
    a ext) s fun t => t = s) ∧
  (∀ (c : Fin 256) (engine : Fin 8) (j : Job) (s : State), s.isFlushing = false → s.phase ≠ stResetting →
    (s.ctx c).jobs = [j] → j.started = false → j.cancelled = false → j.kind = .mover → j.keys = [] →
    s.engineUsed true engine = false → Answers (.jobStart c engine) s fun t => (t.ctx c).jobs =
    [{ j with started := true, engine := engine }] ∧ (∀ k, k ≠ c.val → t.ctx k = s.ctx k) ∧ s.Only [.cur] t) ∧
  (∀ (c : Fin 256) (desc : Nat) (ext : List (Nat × Line)) (wrote lost : List Nat) (j : Job) (code v : Nat) (u
    : State) (z : State) (s : State), s.job c desc = some j → j.started = true → s.isFlushing = false → j.kind =
    .mover → j.out = none → s.moverPlan j (jobExt ext lost) wrote = some (.stop code v, u) → u.jobEnd c desc
    code v = some z → Answers (.moverJobComplete c desc ext wrote lost) s fun t => t = z ∧ (t.ctx c).jobs.all
    (fun q => decide (q.desc ≠ desc)) = true) ∧
  (∀ (c : Fin 256) (desc : Nat) (ext : List (Nat × Line)) (wrote lost : List Nat) (j : Job) (o : JobOut) (z :
    State) (s : State), s.job c desc = some j → j.started = true → s.isFlushing = false → j.kind = .mover →
    j.out = some o → o.lines = [] → s.jobSends c desc = 0 → (s.setJob c { j with out := some o }).jobWritten c
    desc o = some z → Answers (.moverJobComplete c desc ext wrote lost) s fun t => t = z ∧ (t.ctx c).jobs.all
    (fun q => decide (q.desc ≠ desc)) = true) ∧
  (∀ (c : Fin 256) (desc : Nat) (ext : List (Nat × Line)) (wrote lost : List Nat) (j : Job) (code v : Nat) (u
    : State) (z : State) (s : State), s.job c desc = some j → j.started = true → s.isFlushing = false → j.kind =
    .cipher → j.out = none → u.NoInj → s.cipherPlan j (jobExt ext lost) wrote = some (.stop code v, u) → code ≠
    jobTagFail → u.jobEnd c desc code v = some z → Answers (.cipherJobComplete c desc ext wrote lost 0) s fun t
    => t = z ∧ (t.ctx c).jobs.all (fun q => decide (q.desc ≠ desc)) = true) ∧
  (∀ (c : Fin 256) (desc : Nat) (ext : List (Nat × Line)) (wrote lost : List Nat) (j : Job) (o : JobOut) (z :
    State) (s : State), s.job c desc = some j → j.started = true → s.isFlushing = false → j.kind = .cipher →
    j.out = some o → o.lines = [] → s.jobSends c desc = 0 → (s.setJob c { j with out := some o }).jobWritten c
    desc o = some z → Answers (.cipherJobComplete c desc ext wrote lost 0) s fun t => t = z ∧ (t.ctx c).jobs.all
    (fun q => decide (q.desc ≠ desc)) = true) ∧
  (∀ (c : Fin 256) (desc : Nat) (ext : List (Nat × Line)) (wrote lost : List Nat) (j : Job) (o : JobOut) (u :
    State) (s : State), s.job c desc = some j → j.started = true → s.isFlushing = false → j.kind = .mover →
    j.out = none → s.moverPlan j (jobExt ext lost) wrote = some (.out o, u) → Answers (.moverJobComplete c desc
    ext wrote lost) s fun t => t = (u.setJob c { j with out := some o }).jobDrive c desc) ∧
  (∀ (c : Fin 256) (desc : Nat) (ext : List (Nat × Line)) (wrote lost : List Nat) (j : Job) (o : JobOut) (u :
    State) (s : State), s.job c desc = some j → j.started = true → s.isFlushing = false → j.kind = .cipher →
    j.out = none → s.cipherPlan j (jobExt ext lost) wrote = some (.out o, u) → u.NoInj → Answers
    (.cipherJobComplete c desc ext wrote lost 0) s fun t => t = (u.setJob c { j with out := some o }).jobDrive c
    desc) ∧
  (∀ (c : Fin 256) (desc : Nat) (ext : List (Nat × Line)) (wrote lost : List Nat) (j : Job) (p : JobPlan) (u :
    State) (s : State), s.job c desc = some j → j.started = true → s.isFlushing = false → j.kind = .cipher →
    j.out = none → s.cipherPlan j (jobExt ext lost) wrote = some (p, u) → u.NoInj → u.job c desc = some j →
    Answers (.cipherJobComplete c desc ext wrote lost 2) s fun t => t.job c desc = some
    { j with started := false } ∧ t.engineOn j.engine = false)

/-- A seal passes from its switched path to its stripes on media, its hash over the segment in order, its
commit and its record; the entry then takes the segment as sealed with one segment more and the new link.
Where the rules leave a choice, the model's own is in log entries 80, 81, 82, 110. Each clause says that the
command answers a next state under conditions on the state and operands alone: sealPathSwitched,
sealStripesOnMedia, sealHashDone, sealCommit, sealRecordWritten. -/
def Obligations.SealsRun : Prop :=
  (∀ (acc : Fin 65536) (x : Seal) (s : State), s.sealOf acc = some x → s.isFlushing = false → x.step = 2 →
    (List.range 4).all (fun k => (s.port k).eab = []) = true → s.coh.loans = [] → s.coh.grants = [] → s.coh.txns
    = [] → s.coh.wbq = [] → s.coh.wl = [] → s.coh.vit = [] → Answers (.sealPathSwitched acc) s fun t => t =
    s.setSeal { x with step := 3 }) ∧
  (∀ (acc : Fin 65536) (x : Seal) (s : State), s.sealOf acc = some x → s.isFlushing = false → x.step = 3 →
    s.coh.chg.any (fun e => s.inSegment acc e.1) = false → Answers (.sealStripesOnMedia acc) s fun t => t =
    s.setSeal { x with step := 4 }) ∧
  (∀ (acc : Fin 65536) (x : Seal) (s : State), s.sealOf acc = some x → s.isFlushing = false → x.step = 3 →
    s.coh.wl = [] → s.coh.vit = [] → s.coh.chg.any (fun e => s.inSegment acc e.1) = true → Answers
    (.sealStripesOnMedia acc) s fun t => t.med.builders.length = s.med.builders.length ∧ s.Only [.med] t) ∧
  (∀ (acc : Fin 65536) (x : Seal) (s : State) (kp : Bytes) (ls : List (Nat × Line × Bool)) (u : State),
    s.sealOf acc = some x → s.isFlushing = false → x.step = 4 → s.NoInj → (s.segLines x.acc).all s.lineFree =
    true → s.engineOn (s.sealEngine x) = true → s.devReadAll [] (s.segLines x.acc) = some (ls, u) → ls.all (fun
    e => !e.2.2) = true → s.hmacKey (s.acc x.acc).provkey = some kp → Answers (.sealHashDone acc 0) s fun t =>
    t.cur.accs = s.cur.accs ∧ (∀ y ∈ t.cur.seals, y.acc = x.acc → y.step = 6 ∧ y.time = s.now ∧ y.digest =
    BitVec.ofNat 256 (ofLe (sha256 (ls.flatMap (fun e => leBytes e.2.1.toNat 64)))))) ∧
  (∀ (acc : Fin 65536) (x : Seal) (s : State), s.sealOf acc = some x → s.isFlushing = false → x.step = 4 →
    x.ctx = none → s.NoInj → (s.segLines x.acc).all s.lineFree = true → s.engineOn (s.sealEngine x) = true →
    Answers (.sealHashDone acc 2) s fun t => t.cur = s.cur ∧ t.engineOn (s.sealEngine x) = false) ∧
  (∀ (acc : Fin 65536) (x : Seal) (s : State), s.sealOf acc = some x → s.isFlushing = false → x.step = 6 →
    s.sealWritten acc = true → Answers (.sealCommit acc) s fun t => t = s.setSeal { x with step := 7 }) ∧
  (∀ (acc : Fin 65536) (x : Seal) (s : State), s.sealOf acc = some x → s.isFlushing = false → x.step = 7 →
    x.ctx = none → (s.sealFinish x).isSome = true → Answers (.sealRecordWritten acc) s fun t => (t.acc x.acc).st
    = .open ∧ (t.acc x.acc).sealed = (s.acc x.acc).pending ∧ (t.acc x.acc).segments = (s.acc x.acc).segments + 1
    ∧ (t.acc x.acc).link = x.link ∧ t.sealOf x.acc = none)

/-- A slice with no request in progress switches, each once; when every slice has switched and what remains
is done, the operation ends and its status goes to the context; a delete then unmaps its tiles and queues
the page write that frees the entry. Where the rules leave a choice, the model's own is in log entries 76,
77. Each clause says that the command answers a next state under conditions on the state and operands alone:
regionSliceSwitch, regionOpStatus, regionDeleteFree. -/
def Obligations.RegionOperationsEnd : Prop :=
  (∀ (region : Fin 4096) (slice : Fin 16) (o : RgnOp) (s : State), s.rgnOp region = some o → o.committed =
    true → o.switched.getLsbD slice = false → s.coh.txns = [] → s.coh.conf = [] → Answers (.regionSliceSwitch
    region slice) s fun t => t.rops.map RgnOp.switched = s.rops.map (fun q => if q.region = o.region then
    o.switched ||| BitVec.ofNat 16 (2 ^ slice.val) else q.switched)) ∧
  (∀ (region : Fin 4096) (o : RgnOp) (s : State), s.rgnOp region = some o → o.switched = BitVec.allOnes 16 →
    s.rgnSettled o = true → o.ctx = none → Answers (.regionOpStatus region) s fun t => t.rops = s.rops.filter
    (fun q => q.region ≠ region.val) ∧ s.Only [.rops] t) ∧
  (∀ (region : Fin 4096) (o : RgnOp) (s : State) (c : Nat) (d : BitVec 5), s.rgnOp region = some o →
    o.switched = BitVec.allOnes 16 → s.rgnSettled o = true → o.ctx = some c → c < 256 → (s.ctx c).hold = .op
    0x3C d → (s.ctx c).st = .running → (s.ctx c).gfence = none → s.boundary c = none → s.phase ≠ stRomRecovery →
    Answers (.regionOpStatus region) s fun t => t.rops = s.rops.filter (fun q => q.region ≠ region.val) ∧
    s.RunsOn c ((s.ctx c).pc + 4) ((s.ctx c).regsWith d (BitVec.ofNat 64 (rgnOk + b2n o.adjusted * 0x80))) t ∧
    (t.ctx c).hold = .none) ∧
  (∀ (region : Fin 4096) (o : RgnOp) (s : State), s.rgnOp region = some o → o.kind = .delete → o.committed =
    true → o.switched = BitVec.allOnes 16 → o.freeing = false → s.lentWhere (s.inRegion o) = false → Answers
    (.regionDeleteFree region) s fun t => (∀ q ∈ t.rops, q.region = o.region → q.freeing = true) ∧
    t.led.queue.any (fun w => decide (w.page = 256 + region.val / 8)) = true)

/-- GPF phases are answered on their port; PERST# deassertion, the loading of the configuration, link
training and every reset of a port leave what R97, R303, R304 and R306 say, on that port alone. Each clause
says that the command answers a next state under conditions on the state and operands alone: gpfPhase1,
gpfPhase2, perstDeassert, portConfigLoaded, hostLinkTrained, perstAssert, hotReset, portLinkDown. -/
def Obligations.HostPortEvents : Prop :=
  (∀ (port : Fin 4) (s : State), Answers (.gpfPhase1 port) s fun t => t.out = .gpf port 1 :: s.out ∧ s.Only
    [.ports, .out] t) ∧
  (∀ (port : Fin 4) (s : State), Answers (.gpfPhase2 port) s fun t => t.out = .gpf port 2 :: s.out ∧ s.Only
    [.ports, .out] t) ∧
  (∀ (port : Fin 4) (s : State), Answers (.perstDeassert port) s fun t => (t.port port).perst = false ∧ (∀ q,
    q ≠ port.val → t.port q = s.port q) ∧ s.Only [.ports] t) ∧
  (∀ (port : Fin 4) (s : State), (s.port port).perst = false → Answers (.portConfigLoaded port) s fun t =>
    (t.port port).loaded = true ∧ (∀ q, q ≠ port.val → t.port q = s.port q) ∧ s.Only [.ports] t) ∧
  (∀ (port : Fin 4) (speed width : Fin 6) (cxl : Bool) (s : State), s.canTrain port = true → speed.val ≠ 0 →
    width.val ≠ 0 → 2 ^ (width.val - 1) ≤ lanesOf s.aon.hpMode port → s.portMode port = 0 → s.phase ≠
    stRomRecovery → Answers (.hostLinkTrained port speed width cxl) s fun t => t.portMode port = (if cxl ∧ 3 ≤
    speed.val then 2 else 1) ∧ t.rdP D.HST_STAT_speed port = speed.val ∧ t.rdP D.HST_STAT_width port = width.val
    ∧ s.Only [.regs, .evq] t) ∧
  (∀ (port : Fin 4) (s : State), (s.port port).perst = false → Answers (.perstAssert port) s fun t => (t.port
    port).perst = true ∧ (t.port port).loaded = false ∧ (t.port port).decs = [] ∧ (t.port port).latch = none ∧ ∀
    q, q ≠ port.val → t.port q = s.port q) ∧
  (∀ (port : Fin 4) (s : State), Answers (.hotReset port) s fun t => t.portMode port = 0 ∧ (t.port port).decs
    = [] ∧ (t.port port).reads = [] ∧ (t.port port).logs = (s.port port).logs ∧ ∀ q, q ≠ port.val → t.port q =
    s.port q) ∧
  (∀ (port : Fin 4) (s : State), s.portMode port ≠ 0 → Answers (.portLinkDown port) s fun t => t.portMode port
    = 0 ∧ (t.port port).decs = [] ∧ (t.port port).reads = [] ∧ (t.port port).logs = (s.port port).logs ∧ ∀ q, q
    ≠ port.val → t.port q = s.port q)

/-- Each reporting command of Table 10.5 returns Success with the values its rule names and changes nothing
but the answer sent; a command the device does not support, or does not serve in ROM_RECOVERY, returns
Unsupported. Where the rules leave a choice, the model's own is in log entries 13, 19, 42, 43, 45, 47, 49.
Each clause says that the command answers a next state under conditions on the state and operands alone:
getTimestamp, getSupportedLogs, getLog, identifyMemoryDevice, getPartitionInfo, getAlertConfiguration,
getShutdownState, getHealthInfo, getFwInfo, getEventRecords, getEventInterruptPolicy, getLsa,
svapelGetBreachList, svapelRegisterRead, mailboxUnsupported. -/
def Obligations.MailboxReportsAnswer : Prop :=
  (∀ (port : Fin 4) (s : State), s.mboxUp port = true → s.phase ≠ stRomRecovery → Answers (.getTimestamp port)
    s fun t => t.out = .mbox port mbOk [s.now] :: s.out ∧ s.Only [.out] t) ∧
  (∀ (port : Fin 4) (s : State), s.mboxUp port = true → s.phase ≠ stRomRecovery → Answers (.getSupportedLogs
    port) s fun t => t.out = .mbox port mbOk [1, effectsLog.length] :: s.out ∧ s.Only [.out] t) ∧
  (∀ (port : Fin 4) (off len : BitVec 32) (s : State), s.mboxUp port = true → s.phase ≠ stRomRecovery →
    off.toNat + len.toNat ≤ effectsLog.length → Answers (.getLog port true off len) s fun t => t.out = .mbox
    port mbOk ((effectsLog.drop off.toNat).take len.toNat) :: s.out ∧ s.Only [.out] t) ∧
  (∀ (port : Fin 4) (s : State), s.mboxUp port = true → s.phase ≠ stRomRecovery → Answers
    (.identifyMemoryDevice port) s fun t => t.out = .mbox port mbOk [28672, 0, 28672, 0, 256, 256, 256, 256,
    131072, 1049600, 256] :: s.out ∧ s.Only [.out] t) ∧
  (∀ (port : Fin 4) (s : State), s.mboxUp port = true → s.phase ≠ stRomRecovery → Answers (.getPartitionInfo
    port) s fun t => t.out = .mbox port mbOk [0, 28672, 0, 0] :: s.out ∧ s.Only [.out] t) ∧
  (∀ (port : Fin 4) (s : State), s.mboxUp port = true → s.phase ≠ stRomRecovery → Answers
    (.getAlertConfiguration port) s fun t => t.out = .mbox port mbOk [s.alertsNow.life, s.alertsNow.overC,
    s.alertsNow.underC] :: s.out ∧ s.Only [.out] t) ∧
  (∀ (port : Fin 4) (s : State), s.mboxUp port = true → s.phase ≠ stRomRecovery → Answers (.getShutdownState
    port) s fun t => t.out = .mbox port mbOk [s.alertsNow.shutdown] :: s.out ∧ s.Only [.out] t) ∧
  (∀ (port : Fin 4) (s : State), s.mboxUp port = true → s.phase ≠ stRomRecovery → Answers (.getHealthInfo
    port) s fun t => (∃ ws, t.out = .mbox port mbOk ws :: s.out ∧ ws.length = 7 ∧ ws[2]? = some (min 100 (s.rd
    D.CON_HEALTH_wear)) ∧ ws[4]? = some s.alertsNow.dirty) ∧ s.Only [.out] t) ∧
  (∀ (port : Fin 4) (s : State), s.mboxUp port = true → s.phase ≠ stRomRecovery → Answers (.getFwInfo port) s
    fun t => (∃ rest, t.out = .mbox port mbOk ([2, s.fwActive + 1, (s.fwPending.map (· + 1)).getD 0, 1] ++ rest)
    :: s.out ∧ rest.length = 32) ∧ s.Only [.out] t) ∧
  (∀ (port : Fin 4) (log : BitVec 8) (s : State), s.mboxUp port = true → s.phase ≠ stRomRecovery → log.toNat <
    4 → Answers (.getEventRecords port log) s fun t => (∃ ws, t.out = .mbox port mbOk ([b2n ((s.port port).log
    log.toNat).overflow, b2n (decide (recsPerReply < ((s.port port).log log.toNat).recs.length))] ++ ws) ::
    s.out ∧ ws = (((s.port port).log log.toNat).recs.take recsPerReply).flatMap CxlRec.words) ∧ s.Only [.out] t) ∧
  (∀ (port : Fin 4) (s : State), s.mboxUp port = true → s.phase ≠ stRomRecovery → Answers
    (.getEventInterruptPolicy port) s fun t => t.out = .mbox port mbOk ((List.range 4).map (logPolicy (s.port
    port))) :: s.out ∧ s.Only [.out] t) ∧
  (∀ (port : Fin 4) (off len : BitVec 32) (s : State), s.mboxUp port = true → s.phase ≠ stRomRecovery →
    len.toNat ≤ 4096 → off.toNat + len.toNat ≤ lsaSize → Answers (.getLsa port off len) s fun t => t.out = .mbox
    port mbOk ((List.range len.toNat).map (fun k => s.lsaByte (off.toNat + k))) :: s.out ∧ s.Only [.out] t) ∧
  (∀ (port : Fin 4) (index : BitVec 16) (s : State), s.mboxUp port = true → s.phase ≠ stRomRecovery → Answers
    (.svapelGetBreachList port index) s fun t => (∃ ws, t.out = .mbox port mbOk ((s.rd D.PWR_PGBRK_coarse * 2 ^
    12 + s.rd D.PWR_PGBRK_count) :: ws) :: s.out ∧ ws.length = 2 * min 255 (s.gov.breach.length - index.toNat))
    ∧ s.Only [.out] t) ∧
  (∀ (port : Fin 4) (off : BitVec 25) (r : RegRow) (i : Nat) (s : State), s.mboxUp port = true → s.phase ≠
    stRomRecovery → off.toNat < hstBase → regHit off.toNat 8 = .reg r i 0 64 → Answers (.svapelRegisterRead port
    off 8) s fun t => t.out = .mbox port mbOk [s.regWord port r i] :: s.out ∧ s.Only [.out] t) ∧
  (∀ (port : Fin 4) (off : BitVec 25) (r : RegRow) (i : Nat) (s : State), s.mboxUp port = true → s.phase ≠
    stRomRecovery → off.toNat < hstBase → regHit off.toNat 4 = .reg r i 0 32 → r.width ≠ 32 → Answers
    (.svapelRegisterRead port off 4) s fun t => t.out = .mbox port mbOk [s.regWord port r i % 2 ^ 32] :: s.out ∧
    (t.port port).latch = some (off.toNat, s.regWord port r i / 2 ^ 32) ∧ (∀ q, q ≠ port.val → t.port q = s.port
    q) ∧ s.Only [.ports, .out] t) ∧
  (∀ (port : Fin 4) (off len : BitVec 32) (s : State), s.mboxUp port = true → s.phase ≠ stRomRecovery →
    Answers (.getLog port false off len) s fun t => t.out = .mbox port mbInvalid [] :: s.out ∧ s.Only [.out] t) ∧
  (∀ (port : Fin 4) (opcode : BitVec 16) (s : State), s.mboxUp port = true → Answers (.mailboxUnsupported port
    opcode) s fun t => t.out = .mbox port mbUnsupported [] :: s.out ∧ s.Only [.out] t) ∧
  (∀ (port : Fin 4) (s : State), s.mboxUp port = true → s.phase = stRomRecovery → Answers (.getPartitionInfo
    port) s fun t => t.out = .mbox port mbUnsupported [] :: s.out ∧ s.Only [.out] t)

/-- Clearing a log empties that log of the issuing port only; the interrupt policy sets each log's vector;
alert thresholds and the shutdown state read back as set; label bytes written read back and the command
returns once its pages are written; injected poison makes the line LOST; a register write through the
mailbox acts as the register write; acknowledging empties the breach list; each changes only what its rule
names. Where the rules leave a choice, the model's own is in log entries 19, 42, 44, 45, 46, 47, 48, 49.
Each clause says that the command answers a next state under conditions on the state and operands alone:
clearEventRecords, setEventInterruptPolicy, setAlertConfiguration, setShutdownState, setLsa, injectPoison,
clearPoison, svapelRegisterWrite, svapelAcknowledgeBreach. -/
def Obligations.MailboxChangesAnswer : Prop :=
  (∀ (port : Fin 4) (log : BitVec 8) (handles : List (BitVec 16)) (s : State), s.mboxUp port = true → s.phase
    ≠ stRomRecovery → log.toNat < 4 → Answers (.clearEventRecords port log true handles) s fun t => t.out =
    .mbox port mbOk [] :: s.out ∧ ((t.port port).log log.toNat).recs = [] ∧ ((t.port port).log
    log.toNat).overflow = false ∧ (∀ k, k ≠ log.toNat → (t.port port).log k = (s.port port).log k) ∧ (∀ q, q ≠
    port.val → t.port q = s.port q) ∧ s.Only [.ports, .out] t) ∧
  (∀ (port : Fin 4) (log : BitVec 8) (handles : List (BitVec 16)) (s : State), s.mboxUp port = true → s.phase
    ≠ stRomRecovery → log.toNat < 4 → handles.map BitVec.toNat = ((((s.port port).log log.toNat).recs.take
    handles.length).map CxlRec.handle) → Answers (.clearEventRecords port log false handles) s fun t => t.out =
    .mbox port mbOk [] :: s.out ∧ ((t.port port).log log.toNat).recs = ((s.port port).log log.toNat).recs.drop
    handles.length ∧ (∀ k, k ≠ log.toNat → (t.port port).log k = (s.port port).log k) ∧ (∀ q, q ≠ port.val →
    t.port q = s.port q) ∧ s.Only [.ports, .out] t) ∧
  (∀ (port : Fin 4) (log : BitVec 8) (all : Bool) (handles : List (BitVec 16)) (s : State), s.mboxUp port =
    true → s.phase ≠ stRomRecovery → 4 ≤ log.toNat ∨ (all = false ∧ handles.map BitVec.toNat ≠ ((((s.port
    port).log log.toNat).recs.take handles.length).map CxlRec.handle)) → Answers (.clearEventRecords port log
    all handles) s fun t => t.out = .mbox port mbInvalid [] :: s.out ∧ s.Only [.out] t) ∧
  (∀ (port : Fin 4) (a b c d : BitVec 2) (s : State), s.mboxUp port = true → s.phase ≠ stRomRecovery → 2 ≤
    a.toNat ∨ 2 ≤ b.toNat ∨ 2 ≤ c.toNat ∨ 2 ≤ d.toNat → Answers (.setEventInterruptPolicy port (a, b, c, d)) s
    fun t => t.out = .mbox port mbInvalid [] :: s.out ∧ s.Only [.out] t) ∧
  (∀ (port : Fin 4) (a b c d : BitVec 2) (s : State), s.mboxUp port = true → s.phase ≠ stRomRecovery → a.toNat
    ≤ 1 → b.toNat ≤ 1 → c.toNat ≤ 1 → d.toNat ≤ 1 → Answers (.setEventInterruptPolicy port (a, b, c, d)) s fun t
    => t.out = .mbox port mbOk [] :: s.out ∧ ((t.port port).log 0).vector = decide (a = 1) ∧ ((t.port port).log
    1).vector = decide (b = 1) ∧ ((t.port port).log 2).vector = decide (c = 1) ∧ ((t.port port).log 3).vector =
    decide (d = 1) ∧ (∀ q, q ≠ port.val → t.port q = s.port q) ∧ s.Only [.ports, .out] t) ∧
  (∀ (port : Fin 4) (life : Option (BitVec 8)) (over_ under_ : Option (BitVec 16)) (s : State), s.mboxUp port
    = true → s.phase ≠ stRomRecovery → s.phase = stOpen → Answers (.setAlertConfiguration port life over_
    under_) s fun t => t.out = .mbox port mbOk [] :: s.out ∧ t.alertsNow = ⟨(life.map BitVec.toNat).getD
    s.alertsNow.life, (over_.map BitVec.toNat).getD s.alertsNow.overC, (under_.map BitVec.toNat).getD
    s.alertsNow.underC, s.alertsNow.shutdown, s.alertsNow.dirty⟩ ∧ s.Only [.led, .out] t) ∧
  (∀ (port : Fin 4) (v : BitVec 8) (s : State), s.mboxUp port = true → s.phase ≠ stRomRecovery → s.phase =
    stOpen → v.toNat ≤ 1 → Answers (.setShutdownState port v) s fun t => t.out = .mbox port mbOk [] :: s.out ∧
    t.alertsNow = { s.alertsNow with shutdown := v.toNat } ∧ s.Only [.led, .out] t) ∧
  (∀ (port : Fin 4) (off : BitVec 32) (b : BitVec 8) (s : State), s.mboxUp port = true → s.phase ≠
    stRomRecovery → s.phase = stOpen → off.toNat < lsaSize → Answers (.setLsa port off [b]) s fun t => t.lsaByte
    off.toNat = b.toNat ∧ (t.port port).lsaDue = true ∧ t.out = s.out ∧ s.Only [.led, .ports] t) ∧
  (∀ (port : Fin 4) (off : BitVec 32) (data : List (BitVec 8)) (s : State), s.mboxUp port = true → s.phase ≠
    stRomRecovery → s.phase = stOpen → data ≠ [] → data.length ≤ 4088 → off.toNat + data.length ≤ lsaSize →
    Answers (.setLsa port off data) s fun t => (∀ k, k < data.length → some (t.lsaByte (off.toNat + k)) =
    data[k]?.map BitVec.toNat) ∧ (∀ k, k < off.toNat ∨ off.toNat + data.length ≤ k → t.lsaByte k = s.lsaByte k)
    ∧ (t.port port).lsaDue = true ∧ t.out = s.out ∧ s.Only [.led, .ports] t) ∧
  (∀ (port : Fin 4) (dpa : Word) (s : State), s.mboxUp port = true → s.phase ≠ stRomRecovery → dpa.toNat % 64
    = 0 → dpa.toNat / 64 < capLines → (s.med.injected.filter s.isLost).contains (dpa.toNat / 64) = false →
    (s.med.injected.filter s.isLost).length < 256 → Answers (.injectPoison port dpa) s fun t => t.out = .mbox
    port mbOk [] :: s.out ∧ t.med.injected = s.med.injected.filter s.isLost ++ [dpa.toNat / 64]) ∧
  (∀ (port : Fin 4) (dpa : Word) (data : Line) (s : State), s.mboxUp port = true → s.phase ≠ stRomRecovery →
    dpa.toNat % 64 ≠ 0 ∨ capLines ≤ dpa.toNat / 64 → Answers (.clearPoison port dpa data) s fun t => t.out =
    .mbox port mbInvalid [] :: s.out ∧ s.Only [.out] t) ∧
  (∀ (port : Fin 4) (dpa : Word) (data : Line) (w : Nat) (v : VLine) (s : State), s.mboxUp port = true →
    s.phase ≠ stRomRecovery → dpa.toNat % 64 = 0 → dpa.toNat / 64 < capLines → s.Quiet (s.glOf (dpa.toNat / 64))
    → s.coh.wl = [] → s.vfind (s.glOf (dpa.toNat / 64)) = some (w, v) → v.lent = .local → (s.attrOf (s.glOf
    (dpa.toNat / 64))).wpol = .wb → s.verdict (s.glOf (dpa.toNat / 64)) fullMask (.port port 0) false = .accept
    → Answers (.clearPoison port dpa data) s fun t => t.out = .mbox port mbOk [] :: s.out ∧ t.vfind (s.glOf
    (dpa.toNat / 64)) = some (w, { v with data := merge v.data data fullMask, dirty := true, poison := false })) ∧
  (∀ (port : Fin 4) (off : BitVec 25) (size : BitVec 8) (v : Word) (ok : Bool) (u : State) (s : State),
    s.mboxUp port = true → s.phase ≠ stRomRecovery → s.portQuiet port = true → exec (.registerWrite port false
    off size v ok) s = .next u → Answers (.svapelRegisterWrite port off size v ok) s fun t => t = u.emit (.mbox
    port mbOk [])) ∧
  (∀ (port : Fin 4) (v : Word) (ok : Bool) (s : State), s.mboxUp port = true → s.phase ≠ stRomRecovery → s.bit
    D.GBL_CTL_scrlock = false → Answers (.svapelRegisterWrite port 0x40 8 v ok) s fun t => t.out = .mbox port
    mbOk [] :: s.out ∧ t.rd D.GBL_SCRATCH_value = v.toNat ∧ s.RegsBut [D.GBL_SCRATCH_value.key 0] t ∧ s.Only
    [.regs, .out] t) ∧
  (∀ (port : Fin 4) (s : State), s.mboxUp port = true → s.phase ≠ stRomRecovery → Answers
    (.svapelAcknowledgeBreach port) s fun t => t.out = .mbox port mbOk [] :: s.out ∧ t.gov.breach = [] ∧
    t.coh.brkClean = [])

/-- A push that ends at byte 63 appends the gathered entry to its queue, visible after PUSH and held in the
open packet after PUSHMORE; bytes before the doorbell gather; a read of the POP window at byte 0 takes the
oldest visible entry and returns its bytes; unmasking a vector clears its mask and sends it where it was
pending. Where the rules leave a choice, the model's own is in log entries 14, 49. Each clause says that the
command answers a next state under conditions on the state and operands alone: push, pushmore, pop,
msixUnmask. -/
def Obligations.AtriumWindowsRun : Prop :=
  (∀ (port : Fin 4) (queue : Fin 4096) (data : Line) (s : State), s.portQuiet port = true → s.phase ≠
    stRomRecovery → s.qOn queue = true → s.qFull queue = false → s.qType queue ≠ qCompl → (s.port port).gather =
    [] → Answers (.push port queue 0 64 data) s fun t => (t.queue queue).vis = (s.queue queue).vis ++ (s.queue
    queue).held ++ [⟨merge 0 data fullMask, false⟩] ∧ (t.queue queue).held = [] ∧ (t.queue queue).packet = false
    ∧ ∀ n, n ≠ queue.val → t.queue n = s.queue n) ∧
  (∀ (port : Fin 4) (queue : Fin 4096) (data : Line) (s : State), s.portQuiet port = true → s.phase ≠
    stRomRecovery → s.qOn queue = true → s.qFull queue = false → s.qType queue ≠ qCompl → (s.port port).gather =
    [] → (s.queue queue).cut = false → s.rd D.ATQ_CFG_ct queue = 0 → Answers (.pushmore port queue 0 64 data) s
    fun t => (t.queue queue).vis = (s.queue queue).vis ∧ (t.queue queue).held = (s.queue queue).held ++ [⟨merge
    0 data fullMask, false⟩] ∧ (t.queue queue).packet = true ∧ ∀ n, n ≠ queue.val → t.queue n = s.queue n) ∧
  (∀ (port : Fin 4) (queue : Fin 4096) (off : Fin 64) (size : Nat) (data : Line) (s : State), s.portQuiet port
    = true → windowAccess off size = true → off.val + size < 64 → s.phase ≠ stRomRecovery → Answers (.push port
    queue off size data) s fun t => SMap.get 0 (t.port port).gather (queue.val * 2) = merge (SMap.get 0 (s.port
    port).gather (queue.val * 2)) data (maskOf off size) ∧ t.queues = s.queues) ∧
  (∀ (port : Fin 4) (queue : Fin 4096) (off : Fin 64) (size : Nat) (data : Line) (s : State), s.portQuiet port
    = true → windowAccess off size = true → off.val + size < 64 → s.phase ≠ stRomRecovery → Answers (.pushmore
    port queue off size data) s fun t => SMap.get 0 (t.port port).gather (queue.val * 2 + 1) = merge (SMap.get 0
    (s.port port).gather (queue.val * 2 + 1)) data (maskOf off size) ∧ t.queues = s.queues) ∧
  (∀ (port : Fin 4) (queue : Fin 4096) (off : Fin 64) (size : Nat) (corr : Fin 9) (unc : Bool) (s : State),
    s.portQuiet port = true → windowAccess off size = true → s.phase ≠ stRomRecovery → s.qType queue ≠ qCall →
    off.val ≠ 0 → Answers (.pop port queue off size corr unc) s fun t => t.out = .pop port queue (merge 0
    ((s.port port).pop.getD 0) (maskOf off size)) false :: s.out ∧ s.Only [.out] t) ∧
  (∀ (port : Fin 4) (queue : Fin 4096) (size : Nat) (corr : Fin 9) (unc : Bool) (e : QEntry) (r : List QEntry)
    (s : State), s.portQuiet port = true → windowAccess 0 size = true → s.phase ≠ stRomRecovery → s.qType queue
    ≠ qCall → s.qOn queue = true → (s.queue queue).vis = e :: r → unc = true ∨ e.bad = true → Answers (.pop port
    queue 0 size corr unc) s fun t => t.out.head? = some (.pop port queue 0 true) ∧ (t.queue queue).vis = r ∧
    (t.port port).pop = none) ∧
  (∀ (port : Fin 4) (queue : Fin 4096) (size : Nat) (corr : Fin 9) (e : QEntry) (r : List QEntry) (s : State),
    s.portQuiet port = true → windowAccess 0 size = true → s.phase ≠ stRomRecovery → s.qType queue ≠ qCall →
    s.qOn queue = true → (s.queue queue).vis = e :: r → e.bad = false → (s.qInject queue).1.2 = false → Answers
    (.pop port queue 0 size corr false) s fun t => t.out = .pop port queue (merge 0 e.data (maskOf 0 size))
    false :: s.out ∧ (t.queue queue).vis = r ∧ (t.queue queue).held = (s.queue queue).held ∧ (t.port port).pop =
    some e.data) ∧
  (∀ (port : Fin 4) (queue : Fin 4096) (size : Nat) (corr : Fin 9) (unc : Bool) (s : State), s.portQuiet port
    = true → windowAccess 0 size = true → s.phase ≠ stRomRecovery → s.qOn queue = false ∨ (s.queue queue).vis =
    [] → Answers (.pop port queue 0 size corr unc) s fun t => t.out = .pop port queue 0 false :: s.out ∧
    t.queues = s.queues) ∧
  (∀ (port : Fin 4) (vector : Fin 2048) (s : State), (SMap.get MsixVec.init (s.port port).msix vector).pending
    = false → Answers (.msixUnmask port vector) s fun t => SMap.get MsixVec.init (t.port port).msix vector =
    ⟨false, false⟩ ∧ t.out = s.out ∧ s.Only [.ports] t) ∧
  (∀ (port : Fin 4) (vector : Fin 2048) (s : State), (SMap.get MsixVec.init (s.port port).msix vector).pending
    = true → s.portMode port ≠ 0 → Answers (.msixUnmask port vector) s fun t => SMap.get MsixVec.init (t.port
    port).msix vector = ⟨false, false⟩ ∧ t.out = .msix port vector :: s.out ∧ s.Only [.ports, .out] t)

/-- Enabling allocates the capacity where the pool has room; disabling and reset discard every entry; close
makes the entries of the open packet visible; arming a COMPL or DATA queue with nothing visible leaves it
armed. Each clause says that the command answers a next state under conditions on the state and operands
alone: atqEnable, atqDisable, atqReset, atqClose, atqArm. -/
def Obligations.AtriumControlRuns : Prop :=
  (∀ (port : Fin 4) (queue : Fin 4096) (cfg : BitVec 63) (s : State), s.portQuiet port = true → s.phase ≠
    stRomRecovery → s.qOn queue = false → s.poolUsed + 65536 ≤ 16777216 → Answers (.atqEnable port queue cfg) s
    fun t => t.qOn queue = true ∧ t.rd D.ATQ_STAT_nospace queue = 0 ∧ t.queues = s.queues) ∧
  (∀ (port : Fin 4) (queue : Fin 4096) (cfg : BitVec 63) (s : State), s.portQuiet port = true → s.phase ≠
    stRomRecovery → s.qOn queue = true → Answers (.atqDisable port queue cfg) s fun t => t.qOn queue = false ∧
    t.queue queue = AQueue.init ∧ ∀ n, n ≠ queue.val → t.queue n = s.queue n) ∧
  (∀ (port : Fin 4) (queue : Fin 4096) (s : State), s.portQuiet port = true → s.phase ≠ stRomRecovery →
    Answers (.atqReset port queue) s fun t => t.queue queue = AQueue.init ∧ ∀ n, n ≠ queue.val → t.queue n =
    s.queue n) ∧
  (∀ (port : Fin 4) (queue : Fin 4096) (s : State), s.portQuiet port = true → s.phase ≠ stRomRecovery →
    (s.queue queue).packet = true → Answers (.atqClose port queue) s fun t => t.queue queue = ⟨(s.queue
    queue).vis ++ (s.queue queue).held, [], false, false⟩ ∧ ∀ n, n ≠ queue.val → t.queue n = s.queue n) ∧
  (∀ (port : Fin 4) (queue : Fin 4096) (s : State), s.portQuiet port = true → s.phase ≠ stRomRecovery →
    s.qType queue ≠ qCall → (s.queue queue).vis = [] → Answers (.atqArm port queue) s fun t => t.rd
    D.ATQ_STAT_armed queue = 1 ∧ s.Only [.regs] t)

/-- A visible call entry invokes its program in the lowest IDLE context, with the arguments in x10 to x15; a
finished call posts its record once its completion queue has room and its context is IDLE; a load begins and
ends with its status; an unloaded GUEST program drains; an aborted call takes ABORTED at its next boundary.
Where the rules leave a choice, the model's own is in log entries 1, 130. Each clause says that the command
answers a next state under conditions on the state and operands alone: callDispatch, completionQueueRoom,
programLoad, programLoadDone, programUnload, callAbort. -/
def Obligations.CallsRun : Prop :=
  (∀ (corr : Fin 9) (n c : Nat) (e : QEntry) (r : List QEntry) (p : Program) (s : State), s.nextCall = some n
    → (List.range 256).find? s.canCall = some c → s.isOpen = true → s.rtlWait = false → s.qOn n = true →
    (s.queue n).vis = e :: r → e.bad = false → (s.qInject n).1.2 = false → s.prog ((wordAt e.data 0) / 2 ^ 46 %
    1024) = some p → (wordAt e.data 0) / 2 ^ 56 = 1 → (wordAt e.data 0) % 2 ^ 26 = 0 → (wordAt e.data 0) / 2 ^
    46 % 1024 ≠ 0 → p.draining = false → (wordAt e.data 0) / 2 ^ 38 % 256 < p.entries.length → Answers
    (.callDispatch corr false) s fun t => (t.queue n).vis = r ∧ (t.ctx c).st = .running ∧ (t.ctx c).prog =
    (wordAt e.data 0) / 2 ^ 46 % 1024 ∧ (t.ctx c).priv = p.priv ∧ (t.ctx c).pc = p.code + (p.entries[(wordAt
    e.data 0) / 2 ^ 38 % 256]?).getD 0 ∧ (t.ctx c).tag = wordAt e.data 1 / 2 ^ 32 ∧ (t.ctx c).cq = (wordAt
    e.data 0) / 2 ^ 26 % 4096 ∧ ∀ k, k < 6 → (t.ctx c).reg (BitVec.ofNat 5 (10 + k)) = BitVec.ofNat 64 (wordAt
    e.data (2 + k))) ∧
  (∀ (corr : Fin 9) (unc : Bool) (n c : Nat) (e : QEntry) (r : List QEntry) (s : State), s.nextCall = some n →
    (List.range 256).find? s.canCall = some c → s.isOpen = true → s.rtlWait = false → s.qOn n = true → (s.queue
    n).vis = e :: r → unc = true ∨ e.bad = true → s.qFull ((wordAt e.data 0) / 2 ^ 26 % 4096) = false → Answers
    (.callDispatch corr unc) s fun t => (t.queue n).vis = r ∧ t.cur.ctxs = s.cur.ctxs ∧ t.cur.rot = (n + 1) %
    4096) ∧
  (∀ (corr : Fin 9) (n c : Nat) (e : QEntry) (r : List QEntry) (s : State), s.nextCall = some n → (List.range
    256).find? s.canCall = some c → s.isOpen = true → s.rtlWait = false → s.qOn n = true → s.qType n = qCall →
    (s.queue n).vis = e :: r → e.bad = false → s.NoInj → (wordAt e.data 0) / 2 ^ 56 ≠ 1 → s.cqGood ((wordAt
    e.data 0) / 2 ^ 26 % 4096) = true → s.qFull ((wordAt e.data 0) / 2 ^ 26 % 4096) = false → Answers
    (.callDispatch corr false) s fun t => (t.queue n).vis = r ∧ t.cur.ctxs = s.cur.ctxs ∧ (t.queue ((wordAt
    e.data 0) / 2 ^ 26 % 4096)).vis = (s.queue ((wordAt e.data 0) / 2 ^ 26 % 4096)).vis ++ (s.queue ((wordAt
    e.data 0) / 2 ^ 26 % 4096)).held ++ [⟨recordLine 3 fltCallBad 0 ((wordAt e.data 0) / 2 ^ 46 % 1024) (wordAt
    e.data 1 / 2 ^ 32) (wordAt e.data 0) 0 0 s.now 0 0, false⟩]) ∧
  (∀ (c : Fin 256) (s : State), (s.ctx c).donePend = true → s.cqGood (s.ctx c).cq = true → s.qFull (s.ctx
    c).cq = false → Answers (.completionQueueRoom c) s fun t => (t.queue (s.ctx c).cq).vis = (s.queue (s.ctx
    c).cq).vis ++ (s.queue (s.ctx c).cq).held ++ [⟨s.callRecord c, false⟩] ∧ (t.ctx c).st = .idle) ∧
  (∀ (port : Fin 4) (s : State), s.portQuiet port = true → s.phase ≠ stRomRecovery → s.cur.load = none →
    Answers (.programLoad port) s fun t => t.cur.load = some ⟨s.rd D.CUR_LOADSRC_addr * 64, s.rd
    D.CUR_LOADLEN_bytes⟩ ∧ t.rd D.CUR_STAT_loadbusy = 1) ∧
  (∀ (ext : List (Nat × Line × Bool)) (l : LoadOp) (ls : List (Nat × Line × Bool)) (u : State) (s : State),
    s.cur.load = some l → rangeOk l.src l.len = true → s.devReadAll ext (linesOf l.src l.len) = some (ls, u) →
    ls.any (fun e => e.2.2) = false → s.phase ≠ stRomRecovery → Answers (.programLoadDone ext) s fun t =>
    t.cur.load = none ∧ t.rd D.CUR_STAT_loadbusy = 0 ∧ t.rd D.CUR_LOADRES_status = (u.loadImage (bytesFrom ls
    l.src l.len)).1 % D.CUR_LOADRES_status.cap) ∧
  (∀ (port : Fin 4) (id : Fin 1024) (p : Program) (s : State), s.portQuiet port = true → s.phase ≠
    stRomRecovery → s.prog id = some p → p.priv = .guest → Answers (.programUnload port id) s fun t =>
    (s.progRuns id = true ∧ t.prog id = some { p with draining := true }) ∨ (s.progRuns id = false ∧ t.prog id =
    none)) ∧
  (∀ (port : Fin 4) (ctx : Fin 256) (s : State), s.portQuiet port = true → s.phase ≠ stRomRecovery → (s.ctx
    ctx).st = .running → (s.ctx ctx).donePend = false → (s.ctx ctx).priv ≠ .warden → Answers (.callAbort port
    ctx) s fun t => (t.ctx ctx).pendAbort = true ∨ (t.ctx ctx).st = .stopped)

/-- With the line quiet and held by the vitrine, LREAD returns its bytes and records the sharer where the
region lends, LOWN and OWN record the grant, FREAD leaves no loan, FWRITE merges, FATOMIC applies its
operation and returns the old bytes; a message already performed gets its stored reply; DLV writes the bytes
of the seat that holds the grant and clears it, and without a grant writes nothing and is logged; RELEASE
clears the grant; the last INVACK clears the sharer. Where the rules leave a choice, the model's own is in
log entries 163, 179. Each clause says that the command answers a next state under conditions on the state
and operands alone: lread, lown, fabricOwn, fread, fwrite, fatomic, dlv, release, invack. -/
def Obligations.HomeAnswersTheFabric : Prop :=
  (∀ (seat : Fin 64) (tag : Fin 4096) (gen : Bool) (ga : BitVec 50) (w : Nat) (v : VLine) (s : State),
    s.FabNew seat tag (ga.toNat / 64) → s.Quiet (ga.toNat / 64) → s.Hits (ga.toNat / 64) w v → (s.attrOf
    (ga.toNat / 64)).loan = true → s.filterVictim (ga.toNat / 64) = none → Answers (.lread seat tag gen ga
    Flips.none) s fun t => t.out.head? = some (.fabReply seat tag gen .lread v.data false true) ∧ (t.loan
    (ga.toNat / 64)).sharers.getLsbD seat = true ∧ t.filterHas (ga.toNat / 64) = true) ∧
  (∀ (seat : Fin 64) (tag : Fin 4096) (gen : Bool) (ga : BitVec 50) (w : Nat) (v : VLine) (s : State),
    s.FabNew seat tag (ga.toNat / 64) → s.Quiet (ga.toNat / 64) → s.Hits (ga.toNat / 64) w v → (s.attrOf
    (ga.toNat / 64)).loan = false → Answers (.lread seat tag gen ga Flips.none) s fun t => t.out.head? = some
    (.fabReply seat tag gen .lread v.data false false) ∧ (t.loan (ga.toNat / 64)).sharers = 0) ∧
  (∀ (seat : Fin 64) (tag : Fin 4096) (gen : Bool) (ga : BitVec 50) (w : Nat) (v : VLine) (s : State),
    s.FabNew seat tag (ga.toNat / 64) → s.Quiet (ga.toNat / 64) → s.Hits (ga.toNat / 64) w v → (s.attrOf
    (ga.toNat / 64)).loan = true → s.filterVictim (ga.toNat / 64) = none → s.grantRaises s.grantSlot = false →
    Answers (.lown seat tag gen ga Flips.none) s fun t => t.out.head? = some (.fabReply seat tag gen .lown
    v.data false true) ∧ t.grant (ga.toNat / 64) = some ⟨seat, false, s.now + 1, s.grantSlot⟩ ∧ t.filterHas
    (ga.toNat / 64) = true) ∧
  (∀ (seat : Fin 64) (tag : Fin 4096) (gen : Bool) (ga : BitVec 50) (w : Nat) (v : VLine) (s : State),
    s.FabNew seat tag (ga.toNat / 64) → s.Quiet (ga.toNat / 64) → s.Hits (ga.toNat / 64) w v → (s.attrOf
    (ga.toNat / 64)).loan = false → s.filterVictim (ga.toNat / 64) = none → s.grantRaises s.grantSlot = false →
    Answers (.lown seat tag gen ga Flips.none) s fun t => t.out.head? = some (.fabReply seat tag gen .lown 0
    true false) ∧ t.grant (ga.toNat / 64) = none) ∧
  (∀ (seat : Fin 64) (tag : Fin 4096) (gen : Bool) (ga : BitVec 50) (w : Nat) (v : VLine) (s : State),
    s.FabNew seat tag (ga.toNat / 64) → s.Quiet (ga.toNat / 64) → s.Hits (ga.toNat / 64) w v → s.filterVictim
    (ga.toNat / 64) = none → s.grantRaises s.grantSlot = false → Answers (.fabricOwn seat tag gen ga Flips.none)
    s fun t => t.out.head? = some (.fabReply seat tag gen .own 0 false (s.attrOf (ga.toNat / 64)).ewa) ∧ t.grant
    (ga.toNat / 64) = some ⟨seat, false, s.now + 1, s.grantSlot⟩) ∧
  (∀ (seat : Fin 64) (tag : Fin 4096) (gen : Bool) (ga : BitVec 50) (w : Nat) (v : VLine) (s : State),
    s.FabNew seat tag (ga.toNat / 64) → s.Quiet (ga.toNat / 64) → s.Hits (ga.toNat / 64) w v → Answers (.fread
    seat tag gen ga Flips.none) s fun t => t.out.head? = some (.fabReply seat tag gen .fread v.data false false)
    ∧ (t.loan (ga.toNat / 64)).sharers = 0 ∧ t.grant (ga.toNat / 64) = none ∧ t.vfind (ga.toNat / 64) = some (w,
    v)) ∧
  (∀ (seat : Fin 64) (tag : Fin 4096) (gen : Bool) (ga : BitVec 50) (data : Line) (mask : LineMask) (poison :
    Bool) (w : Nat) (v : VLine) (s : State), s.FabNew seat tag (ga.toNat / 64) → s.Quiet (ga.toNat / 64) →
    s.Hits (ga.toNat / 64) w v → (s.attrOf (ga.toNat / 64)).wpol = .wb → (s.attrOf (ga.toNat / 64)).ewa = false
    → s.storesClosed = false → s.verdict (ga.toNat / 64) mask (.fabric seat tag gen) false = .accept → Answers
    (.fwrite seat tag gen ga data mask poison Flips.none) s fun t => t.out.head? = some (.fabReply seat tag gen
    .fwrite 0 false false) ∧ t.vfind (ga.toNat / 64) = some (w,
    { v with data := merge v.data data mask, dirty := true, poison := poison })) ∧
  (∀ (seat : Fin 64) (tag : Fin 4096) (gen : Bool) (ga : BitVec 50) (op : Fin 10) (wide : Bool) (off : Fin 64)
    (a b : Word) (w : Nat) (v : VLine) (s : State), s.FabNew seat tag (ga.toNat / 64) → s.Quiet (ga.toNat / 64)
    → s.Hits (ga.toNat / 64) w v → (s.attrOf (ga.toNat / 64)).wpol = .wb → s.storesClosed = false → s.verdict
    (ga.toNat / 64) (maskOf off (if wide then 8 else 4)) (.fabric seat tag gen) true = .accept → Answers
    (.fatomic seat tag gen ga op wide off a b Flips.none) s fun t => t.out.head? = some (.fabReply seat tag gen
    .fatomic v.data false false) ∧ (t.vfind (ga.toNat / 64)).map (fun e => e.2.data) = some (Atom.apply
    ⟨atomOpOf op, if wide then 8 else 4, off, a, b⟩ v.data)) ∧
  (∀ (seat : Fin 64) (tag : Fin 4096) (gen : Bool) (ga : BitVec 50) (fl : Flips) (e : Dedup) (s : State),
    SMap.find s.coh.dedup (tagKey seat tag) = some e → e.gen = gen → e.done = true → Answers (.fread seat tag
    gen ga fl) s fun t => t.out = .fabReply seat tag gen e.kind e.data e.poison e.flag :: s.out ∧ s.Only [.out]
    t) ∧
  (∀ (seat : Fin 64) (tag : Fin 4096) (gen : Bool) (ga : BitVec 50) (data : Line) (mask : LineMask) (poison :
    Bool) (w : Nat) (v : VLine) (g : Grant) (s : State), SMap.find s.coh.dedup (tagKey seat tag) = none →
    s.phase ≠ stFlushing → s.phase ≠ stResetting → s.stgE.blocked = [] → s.rd D.FAB_STAT_join = 4 → gaValid
    (gaOf (ga.toNat / 64)) = true → s.isLocal (ga.toNat / 64) = true → s.coh.conf = [] → s.txn (ga.toNat / 64) =
    none → s.grant (ga.toNat / 64) = some g → g.seat = seat.val → s.grantRaises g.slot = false → s.storesClosed
    = false → (s.ungrant (ga.toNat / 64)).mayCharge (ga.toNat / 64) = true → s.NoInj → s.coh.wl = [] → s.rops =
    [] → (s.regionOf (ga.toNat / 64)).st ≠ .deleting → s.sealedIn (llOf (ga.toNat / 64)) = none → (s.attrOf
    (ga.toNat / 64)).wpol = .wb → s.Hits (ga.toNat / 64) w v → Answers (.dlv seat tag gen ga data mask poison
    Flips.none) s fun t => t.out.head? = some (.fabReply seat tag gen .dlv 0 false false) ∧ t.grant (ga.toNat /
    64) = none ∧ t.vfind (ga.toNat / 64) = some (w,
    { v with data := merge v.data data mask, dirty := true, poison := poison })) ∧
  (∀ (seat : Fin 64) (tag : Fin 4096) (gen : Bool) (ga : BitVec 50) (data : Line) (mask : LineMask) (poison :
    Bool) (s : State), SMap.find s.coh.dedup (tagKey seat tag) = none → s.phase ≠ stFlushing → s.phase ≠
    stResetting → s.stgE.blocked = [] → s.rd D.FAB_STAT_join = 4 → gaValid (gaOf (ga.toNat / 64)) = true →
    s.isLocal (ga.toNat / 64) = true → s.coh.conf = [] → s.txn (ga.toNat / 64) = none → s.phase ≠ stRomRecovery
    → s.storesClosed = false → s.grant (ga.toNat / 64) = none → Answers (.dlv seat tag gen ga data mask poison
    Flips.none) s fun t => t.out.head? = some (.fabReply seat tag gen .dlv 0 false false) ∧ t.coh.vit =
    s.coh.vit ∧ s.Logged E.CLO_STALE_DELIVERY seat 0 (gaOf (ga.toNat / 64)) t) ∧
  (∀ (seat : Fin 64) (tag : Fin 4096) (gen : Bool) (ga : BitVec 50) (fl : Flips) (g : Grant) (s : State),
    SMap.find s.coh.dedup (tagKey seat tag) = none → s.phase ≠ stFlushing → s.phase ≠ stResetting →
    s.stgE.blocked = [] → s.rd D.FAB_STAT_join = 4 → gaValid (gaOf (ga.toNat / 64)) = true → s.isLocal (ga.toNat
    / 64) = true → s.coh.conf = [] → s.txn (ga.toNat / 64) = none → s.grant (ga.toNat / 64) = some g → g.seat =
    seat.val → s.grantRaises g.slot = false → Answers (.release seat tag gen ga fl) s fun t => t.out.head? =
    some (.fabReply seat tag gen .release 0 false false) ∧ t.grant (ga.toNat / 64) = none ∧ t.coh.vit =
    s.coh.vit) ∧
  (∀ (seat : Fin 64) (tag : Fin 4096) (gen : Bool) (fl : Flips) (r : FReq) (s : State), SMap.find s.coh.freqs
    (tagKey seat tag) = some r → r.kind = .inv → r.gen = gen → s.txn r.gl = none → Answers (.invack seat tag gen
    fl) s fun t => (t.loan r.gl).sharers = (s.loan r.gl).sharers &&& ~~~(BitVec.ofNat 64 (2 ^ seat.val)) ∧
    SMap.find t.coh.freqs (tagKey seat tag) = none ∧ s.Only [.coh] t)

/-- RECALL moves a modified loan into a delivery, INV drops a shared one and answers; the reply of a request
ends it and goes to whoever asked; an attempt that times out is repeated up to three times, and only then is
a request lost: a read is poison, a recalled line is away; a lingering entry delivers; a start announcement
ends the loans of its seat; a sweep clears and counts its grants. Where the rules leave a choice, the
model's own is in log entries 117, 118, 122, 142, 155, 163, 164. Each clause says that the command answers a
next state under conditions on the state and operands alone: recall, inv, fabricData, fabricDone, granted,
fatomicResult, homedown, fabricAttemptTimeout, fabricRequestLost, outboundLingerExpire, startAnnouncement,
grantSweep. -/
def Obligations.BorrowerOfTheFabric : Prop :=
  (∀ (seat : Fin 64) (tag : Fin 4096) (gen : Bool) (ga : BitVec 50) (w : Nat) (v : VLine) (s : State),
    s.isLocal (ga.toNat / 64) = false → seatOf (ga.toNat / 64) = seat.val → s.coh.vit = [(wayKey (sliceOf
    (ga.toNat / 64)) (vitSet (ga.toNat / 64)) w, v)] → s.vfind (ga.toNat / 64) = some (w, v) → v.lent =
    .modified → s.coh.wl = [] → s.coh.outb = [] → (s.freeTag seat).isSome = true → Answers (.recall seat tag gen
    ga) s fun t => t.vfind (ga.toNat / 64) = none ∧ (t.outEnt (ga.toNat / 64)).map (fun e => (e.st, e.data)) =
    some (.delivering, v.data)) ∧
  (∀ (seat : Fin 64) (tag : Fin 4096) (gen : Bool) (ga : BitVec 50) (w : Nat) (v : VLine) (s : State),
    s.isLocal (ga.toNat / 64) = false → seatOf (ga.toNat / 64) = seat.val → s.coh.vit = [(wayKey (sliceOf
    (ga.toNat / 64)) (vitSet (ga.toNat / 64)) w, v)] → s.vfind (ga.toNat / 64) = some (w, v) → v.lent = .shared
    → Answers (.inv seat tag gen ga) s fun t => t.vfind (ga.toNat / 64) = none ∧ t.out = .fabReply seat tag gen
    .inv 0 false false :: s.out ∧ s.Only [.coh, .out] t) ∧
  (∀ (seat : Fin 64) (tag : Fin 4096) (gen : Bool) (data : Line) (granted : Bool) (r : FReq) (port ptag ga :
    Nat) (s : State), SMap.find s.coh.freqs (tagKey seat tag) = some r → r.gen = gen → r.kind = .fread → r.src =
    .port port ptag → (s.port port).reads = [⟨ptag, ga⟩] → (s.port port).eab = [] → Answers (.fabricData seat
    tag gen data false granted) s fun t => t.out = .hostData port ptag data false :: s.out ∧ (t.port port).reads
    = [] ∧ SMap.find t.coh.freqs (tagKey seat tag) = none) ∧
  (∀ (seat : Fin 64) (tag : Fin 4096) (gen : Bool) (data : Line) (poison granted : Bool) (r : FReq) (port ptag
    ga : Nat) (s : State), SMap.find s.coh.freqs (tagKey seat tag) = some r → r.gen = gen → r.kind = .fread →
    r.src = .port port ptag → (s.port port).reads = [⟨ptag, ga⟩] → (s.port port).eab = [] → Answers (.fabricData
    seat tag gen data poison granted) s fun t => t.out = .hostData port ptag (if poison then 0 else data) poison
    :: s.out ∧ (t.port port).reads = [] ∧ SMap.find t.coh.freqs (tagKey seat tag) = none) ∧
  (∀ (seat : Fin 64) (tag : Fin 4096) (gen : Bool) (data : Line) (poison : Bool) (r : FReq) (c : Nat) (l :
    LdEnt) (u : LdUnit) (s : State), SMap.find s.coh.freqs (tagKey seat tag) = some r → r.gen = gen → r.kind =
    .lread ∨ r.kind = .fread → r.src = .load c → (s.ctx c).hold = .load l → l.units = [u] → u.gl = r.gl → u.got
    = none → Answers (.fabricData seat tag gen data poison false) s fun t => (t.ctx c).hold = .load
    { l with units := [{ u with got := some (data, poison) }] } ∧ SMap.find t.coh.freqs (tagKey seat tag) =
    none) ∧
  (∀ (seat : Fin 64) (tag : Fin 4096) (gen : Bool) (data : Line) (poison : Bool) (r : FReq) (c : Nat) (l :
    LdEnt) (u : LdUnit) (w : Nat) (s : State), SMap.find s.coh.freqs (tagKey seat tag) = some r → r.gen = gen →
    r.kind = .lread → r.src = .load c → (s.ctx c).hold = .load l → l.units = [u] → u.gl = r.gl → u.got = none →
    (s.eligible r.gl true).head? = some w → SMap.find s.coh.vit (wayKey (sliceOf r.gl) (vitSet r.gl) w) = none →
    s.vfind r.gl = none → Answers (.fabricData seat tag gen data poison true) s fun t => (t.ctx c).hold = .load
    { l with units := [{ u with got := some (data, poison) }] } ∧ (t.vfind r.gl).map (fun e => (e.2.data,
    e.2.poison, e.2.lent)) = some (data, poison, .shared) ∧ SMap.find t.coh.freqs (tagKey seat tag) = none) ∧
  (∀ (seat : Fin 64) (tag : Fin 4096) (gen : Bool) (data : Line) (poison : Bool) (r : FReq) (w : Nat) (s :
    State), SMap.find s.coh.freqs (tagKey seat tag) = some r → r.gen = gen → r.kind = .lown → (s.freqDel seat
    tag).mayHold = true → s.mayCharge r.gl = true → (s.eligible r.gl true).head? = some w → SMap.find s.coh.vit
    (wayKey (sliceOf r.gl) (vitSet r.gl) w) = none → s.vfind r.gl = none → Answers (.fabricData seat tag gen
    data poison true) s fun t => (t.vfind r.gl).map (fun e => (e.2.data, e.2.poison, e.2.lent)) = some (data,
    poison, .modified) ∧ t.charged r.gl = true ∧ SMap.find t.coh.freqs (tagKey seat tag) = none) ∧
  (∀ (seat : Fin 64) (tag : Fin 4096) (gen : Bool) (data : Line) (poison : Bool) (r : FReq) (c : Nat) (e :
    SbEnt) (k : List SbEnt) (s : State), SMap.find s.coh.freqs (tagKey seat tag) = some r → r.gen = gen → r.kind
    = .lown → r.src = .store c → (s.ctx c).sb = e :: k → e.gl = r.gl → ((s.freqDel seat tag).freeTag (seatOf
    r.gl)).isSome = true → Answers (.fabricData seat tag gen data poison false) s fun t => (t.ctx c).sb = (s.ctx
    c).sb ∧ t.coh.freqs.any (fun q => decide (q.2.kind = .fwrite ∧ q.2.gl = r.gl ∧ q.2.data = e.data ∧ q.2.mask
    = e.mask ∧ q.2.src = .store c)) = true ∧ t.out.length = s.out.length + 1) ∧
  (∀ (seat : Fin 64) (tag : Fin 4096) (gen : Bool) (data : Line) (r : FReq) (c : Nat) (l : LdEnt) (u : LdUnit)
    (s : State), SMap.find s.coh.freqs (tagKey seat tag) = some r → r.gen = gen → r.kind = .lread → r.src =
    .load c → (s.ctx c).hold = .load l → l.units = [u] → u.gl = r.gl → u.got = none → Answers (.fabricData seat
    tag gen data false false) s fun t => (t.ctx c).hold = .load
    { l with units := [{ u with got := some (data, false) }] } ∧ SMap.find t.coh.freqs (tagKey seat tag) = none) ∧
  (∀ (seat : Fin 64) (tag : Fin 4096) (gen : Bool) (r : FReq) (port ptag : Nat) (s : State), SMap.find
    s.coh.freqs (tagKey seat tag) = some r → r.gen = gen → r.kind = .fwrite → r.src = .port port ptag →
    s.portMode port ≠ 0 → Answers (.fabricDone seat tag gen false) s fun t => t.out = .hostDone port ptag ::
    s.out ∧ SMap.find t.coh.freqs (tagKey seat tag) = none ∧ s.Only [.coh, .out] t) ∧
  (∀ (seat : Fin 64) (tag : Fin 4096) (gen : Bool) (granted : Bool) (r : FReq) (e : OutEnt) (s : State),
    SMap.find s.coh.freqs (tagKey seat tag) = some r → r.gen = gen → r.kind = .dlv → s.outEnt r.gl = some e →
    e.st = .delivering → s.coh.fwd = [] → Answers (.fabricDone seat tag gen granted) s fun t => t.outEnt r.gl =
    none ∧ t.charged r.gl = false ∧ SMap.find t.coh.freqs (tagKey seat tag) = none) ∧
  (∀ (seat : Fin 64) (tag : Fin 4096) (gen : Bool) (ewa : Bool) (r : FReq) (s : State), SMap.find s.coh.freqs
    (tagKey seat tag) = some r → r.gen = gen → r.kind = .own → s.outEnt r.gl = none → (s.freqDel seat
    tag).mayHold = true → s.mayCharge r.gl = true → Answers (.granted seat tag gen ewa true) s fun t => t.outEnt
    r.gl = some ⟨.owned, 0, 0, false, ewa, []⟩ ∧ t.charged r.gl = true ∧ SMap.find t.coh.freqs (tagKey seat tag)
    = none) ∧
  (∀ (seat : Fin 64) (tag : Fin 4096) (gen : Bool) (data : Line) (r : FReq) (c : Nat) (l : LdEnt) (u : LdUnit)
    (s : State), SMap.find s.coh.freqs (tagKey seat tag) = some r → r.gen = gen → r.kind = .fatomic → r.src =
    .atom c → (s.ctx c).hold = .load l → l.units = [u] → u.gl = r.gl → u.got = none → Answers (.fatomicResult
    seat tag gen data false) s fun t => (t.ctx c).hold = .load
    { l with units := [{ u with got := some (data, false) }] } ∧ SMap.find t.coh.freqs (tagKey seat tag) = none) ∧
  (∀ (seat : Fin 64) (tag : Fin 4096) (gen : Bool) (ewa : Bool) (r : FReq) (c : Nat) (e : SbEnt) (k : List
    SbEnt) (s : State), SMap.find s.coh.freqs (tagKey seat tag) = some r → r.gen = gen → r.kind = .own → r.src =
    .store c → s.outEnt r.gl = none → (s.ctx c).sb = e :: k → e.gl = r.gl → ((s.freqDel seat tag).freeTag
    (seatOf r.gl)).isSome = true → Answers (.granted seat tag gen ewa false) s fun t => t.outEnt r.gl = none ∧
    (t.ctx c).sb = (s.ctx c).sb ∧ t.coh.freqs.any (fun q => decide (q.2.kind = .fwrite ∧ q.2.gl = r.gl ∧
    q.2.data = e.data ∧ q.2.mask = e.mask ∧ q.2.src = .store c)) = true ∧ t.out.length = s.out.length + 1) ∧
  (∀ (seat : Fin 64) (tag : Fin 4096) (gen : Bool) (data : Line) (poison : Bool) (r : FReq) (c : Nat) (l :
    LdEnt) (u : LdUnit) (s : State), SMap.find s.coh.freqs (tagKey seat tag) = some r → r.gen = gen → r.kind =
    .fatomic → r.src = .atom c → (s.ctx c).hold = .load l → l.units = [u] → u.gl = r.gl → u.got = none → Answers
    (.fatomicResult seat tag gen data poison) s fun t => (t.ctx c).hold = .load
    { l with units := [{ u with got := some (data, poison) }] } ∧ SMap.find t.coh.freqs (tagKey seat tag) =
    none) ∧
  (∀ (seat : Fin 64) (tag : Fin 4096) (gen : Bool) (r : FReq) (s : State), SMap.find s.coh.freqs (tagKey seat
    tag) = some r → r.gen = gen → r.kind = .fwrite → r.src = .dev → s.outEnt r.gl = none → (s.freqDel seat
    tag).mayHold = true → s.mayCharge r.gl = true → Answers (.fabricDone seat tag gen true) s fun t => t.outEnt
    r.gl = some ⟨.owned, 0, 0, false, true, []⟩ ∧ t.charged r.gl = true ∧ SMap.find t.coh.freqs (tagKey seat
    tag) = none) ∧
  (∀ (seat : Fin 64) (tag : Fin 4096) (gen : Bool) (r : FReq) (s : State), SMap.find s.coh.freqs (tagKey seat
    tag) = some r → r.gen = gen → r.seat = seat.val → r.tag = tag.val → Answers (.homedown seat tag gen) s fun t
    => SMap.find t.coh.freqs (tagKey seat tag) = some { r with ended := true } ∧ s.Only [.coh] t) ∧
  (∀ (seat : Fin 64) (tag : Fin 4096) (r : FReq) (s : State), SMap.find s.coh.freqs (tagKey seat tag) = some r
    → r.seat = seat.val → r.tag = tag.val → r.attempt < 3 → Answers (.fabricAttemptTimeout seat tag) s fun t =>
    SMap.find t.coh.freqs (tagKey seat tag) = some { r with attempt := r.attempt + 1, ended := false } ∧ t.out =
    .fabReq r.seat r.tag r.gen r.kind r.gl r.data r.mask r.poison (r.attempt + 1) :: s.out ∧ s.Only [.coh, .out]
    t) ∧
  (∀ (seat : Fin 64) (tag : Fin 4096) (r : FReq) (s : State), SMap.find s.coh.freqs (tagKey seat tag) = some r
    → r.attempt < 3 → Answers (.fabricRequestLost seat tag Flips.none) s fun t => t = s) ∧
  (∀ (seat : Fin 64) (tag : Fin 4096) (r : FReq) (s : State) (port ptag ga : Nat), SMap.find s.coh.freqs
    (tagKey seat tag) = some r → r.seat = seat.val → r.tag = tag.val → 3 ≤ r.attempt → r.kind = .fread → r.src =
    .port port ptag → (s.port port).reads = [⟨ptag, ga⟩] → (s.port port).eab = [] → Answers (.fabricRequestLost
    seat tag Flips.none) s fun t => t.out = .hostData port ptag 0 true :: s.out ∧ SMap.find t.coh.freqs (tagKey
    seat tag) = none) ∧
  (∀ (seat : Fin 64) (tag : Fin 4096) (r : FReq) (s : State) (g : Grant), SMap.find s.coh.freqs (tagKey seat
    tag) = some r → r.seat = seat.val → r.tag = tag.val → 3 ≤ r.attempt → r.kind = .recall → s.grant r.gl = some
    g → g.seat = r.seat → s.txn r.gl = none → Answers (.fabricRequestLost seat tag Flips.none) s fun t =>
    t.grant r.gl = some { g with away := true } ∧ SMap.find t.coh.freqs (tagKey seat tag) = none) ∧
  (∀ (ga : BitVec 50) (e : OutEnt) (s : State), s.NoInj → s.outEnt (ga.toNat / 64) = some e → e.st = .owned →
    (s.freeTag (seatOf (ga.toNat / 64))).isSome = true → Answers (.outboundLingerExpire ga Flips.none) s fun t
    => t.outEnt (ga.toNat / 64) = some { e with st := .delivering } ∧ t.out.length = s.out.length + 1 ∧ s.Only
    [.coh, .out] t) ∧
  (∀ (seat : Fin 64) (w : Nat) (v : VLine) (s : State), s.mySeat ≠ some seat.val → s.coh.vit = [(wayKey
    (sliceOf v.gl) (vitSet v.gl) w, v)] → s.vfind v.gl = some (w, v) → v.lent = .shared → seatOf v.gl = seat.val
    → s.coh.outb = [] → s.coh.fwd = [] → Answers (.startAnnouncement seat) s fun t => t.vfind v.gl = none ∧
    s.Only [.coh] t) ∧
  (∀ (seat : Fin 64) (gl : Nat) (g : Grant) (s : State), s.grant gl = some g → g.seat = seat.val →
    s.coh.grants.length = 1 → Answers (.grantSweep seat) s fun t => t.coh.grants = [] ∧ t.rd D.CLO_LOSS_swept =
    min (D.CLO_LOSS_swept.cap - 1) (s.rd D.CLO_LOSS_swept + 1))

/-- A port goes from DETECT to POLL on detection, from POLL to CONFIG on bit lock, from CONFIG to ACTIVE on
an exchange that agrees, to CRYPTFAIL where one end alone encrypts, and to FOREIGN where both ends hold
records of different fabrics; loss of lock, eight replays or an exhausted key retrain it, the third retrain
within a second or a timed-out one takes it DOWN, and it returns to DETECT. Where the rules leave a choice,
the model's own is in log entries 3, 17, 18, 64, 139. Each clause says that the command answers a next state
under conditions on the state and operands alone: receiverDetect, bitLock, fabricPortTrainTimeout,
fabricPortDownRetry, fabricRetrain, laneLockLoss, fabricRetrainTimeout, linkRekey, configExchange,
fabPctlWrite. -/
def Obligations.FabricPortsTrain : Prop :=
  (∀ (port : Fin 16) (s : State), s.fpState port = fpDetect → Answers (.receiverDetect port) s fun t =>
    t.fpState port = fpPoll ∧ s.RegsBut [D.FAB_PSTAT_state.key port] t ∧ s.Only [.regs] t) ∧
  (∀ (port : Fin 16) (speed width : Fin 4) (s : State), s.fpState port = fpPoll → speed.val ≠ 0 → width.val ≠
    0 → speed.val ≤ s.rd D.FAB_PCTL_maxrate port → s.drbg < 2 ^ 32 → Answers (.bitLock port speed width) s fun t
    => t.fpState port = fpConfig ∧ (t.fport port).speed = speed ∧ (t.fport port).width = width ∧ s.RegsBut
    [D.FAB_PSTAT_state.key port] t ∧ s.Only [.regs, .fab, .free, .drbg, .out] t) ∧
  (∀ (port : Fin 16) (speed width : Fin 4) (s : State), s.fpState port = fpRetrain → speed.val ≠ 0 → width.val
    ≠ 0 → speed.val ≤ s.rd D.FAB_PCTL_maxrate port → s.drbg < 2 ^ 32 → Answers (.bitLock port speed width) s fun
    t => (t.fport port).locked = true ∧ s.Only [.fab, .free, .drbg, .out] t) ∧
  (∀ (port : Fin 16) (speed width : Fin 4) (s : State), s.fpState port = fpPoll → speed.val ≠ 0 → width.val ≠
    0 → speed.val ≤ s.rd D.FAB_PCTL_maxrate port → 2 ^ 32 ≤ s.drbg → Answers (.bitLock port speed width) s fun t
    => t.fpState port = fpDetect ∧ s.Only [.regs, .fab] t) ∧
  (∀ (port : Fin 16) (s : State), s.fpState port = fpPoll ∨ s.fpState port = fpConfig → Answers
    (.fabricPortTrainTimeout port) s fun t => t.fpState port = fpDetect ∧ s.Only [.regs, .fab] t) ∧
  (∀ (port : Fin 16) (s : State), s.fpState port = fpDown → s.fpOff port = false → Answers
    (.fabricPortDownRetry port) s fun t => t.fpState port = fpDetect ∧ s.Only [.regs, .fab] t) ∧
  (∀ (port : Fin 16) (s : State), s.fpState port = fpActive → 8 ≤ (s.fport port).again → ((s.fport
    port).retrains.filter (fun t => decide (s.now < t + 1000000000))).length < 2 → Answers (.fabricRetrain port)
    s fun t => t.fpState port = fpRetrain ∧ (t.fport port).again = 0 ∧ s.Only [.regs, .fab] t) ∧
  (∀ (port : Fin 16) (s : State), s.fpState port = fpActive → ((s.fport port).retrains.filter (fun t => decide
    (s.now < t + 1000000000))).length < 2 → Answers (.laneLockLoss port) s fun t => t.fpState port = fpRetrain ∧
    (t.fport port).locked = false ∧ s.Only [.regs, .fab] t) ∧
  (∀ (port : Fin 16) (s : State), s.fpState port = fpActive → 2 ≤ ((s.fport port).retrains.filter (fun t =>
    decide (s.now < t + 1000000000))).length → Answers (.laneLockLoss port) s fun t => t.fpState port = fpDown) ∧
  (∀ (port : Fin 16) (s : State), s.fpState port = fpRetrain → Answers (.fabricRetrainTimeout port) s fun t =>
    t.fpState port = fpDown) ∧
  (∀ (port : Fin 16) (s : State), s.fpState port = fpActive → s.rd D.FAB_PSTAT_enc port = 1 → 2 ^ 32 ≤
    (s.fport port).batches → ((s.fport port).retrains.filter (fun t => decide (s.now < t + 1000000000))).length
    < 2 → Answers (.linkRekey port) s fun t => t.fpState port = fpRetrain ∧ (t.fport port).rekeys = (s.fport
    port).rekeys + 1 ∧ (t.fport port).batches = 0 ∧ s.Only [.regs, .fab] t) ∧
  (∀ (port : Fin 16) (uid : Word) (nport : Fin 16) (fabid : Word) (nonce : BitVec 128) (kcv : BitVec 32) (s :
    State), s.fpState port = fpConfig → s.rd D.FAB_PCTL_crypt port ≠ 1 → Answers (.configExchange port uid nport
    false fabid false nonce kcv) s fun t => t.fpState port = fpActive ∧ t.rd D.FAB_PNBR_uid port = uid.toNat ∧
    t.rd D.FAB_PSTAT_nport port = nport ∧ t.rd D.FAB_PSTAT_enc port = 0) ∧
  (∀ (port : Fin 16) (uid : Word) (nport : Fin 16) (fabid : Word) (nonce : BitVec 128) (kcv : BitVec 32) (s :
    State), s.fpState port = fpConfig → s.rd D.FAB_PCTL_crypt port ≠ 1 → s.phase ≠ stRomRecovery → Answers
    (.configExchange port uid nport false fabid true nonce kcv) s fun t => t.fpState port = fpCryptfail ∧
    s.Logged E.FAB_LINK_CRYPT 0 0 0 t) ∧
  (∀ (port : Fin 16) (uid : Word) (nport : Fin 16) (fabid : Word) (nonce : BitVec 128) (kcv : BitVec 32) (s :
    State), s.fpState port = fpConfig → s.rd D.FAB_PCTL_crypt port ≠ 1 → s.storedSeat.isSome = true →
    fabid.toNat ≠ s.rd D.FAB_FABID_id → s.phase ≠ stRomRecovery → Answers (.configExchange port uid nport true
    fabid false nonce kcv) s fun t => t.fpState port = fpForeign ∧ s.Logged E.FAB_LINK_FOREIGN 0 0 0 t) ∧
  (∀ (port : Fin 16) (uid : Word) (nport : Fin 16) (seated : Bool) (fabid : Word) (nonce : BitVec 128) (kcv :
    BitVec 32) (s : State), s.fpState port = fpConfig → s.rd D.FAB_PCTL_crypt port ≠ 1 → seated = false ∨
    s.storedSeat = none ∨ fabid.toNat = s.rd D.FAB_FABID_id → Answers (.configExchange port uid nport seated
    fabid false nonce kcv) s fun t => t.fpState port = fpActive ∧ t.rd D.FAB_PNBR_uid port = uid.toNat ∧ t.rd
    D.FAB_PSTAT_nport port = nport ∧ t.rd D.FAB_PSTAT_enc port = 0) ∧
  (∀ (port : Fin 16) (uid : Word) (nport : Fin 16) (seated : Bool) (fabid : Word) (nonce : BitVec 128) (kcv :
    BitVec 32) (fk : Bytes) (s : State), s.fpState port = fpConfig → s.rd D.FAB_PCTL_crypt port = 1 →
    s.fabricKey = some fk → linkKcv (linkKey fk myUid uid.toNat (s.fport port).nonce nonce) = kcv.toNat → seated
    = false ∨ s.storedSeat = none ∨ fabid.toNat = s.rd D.FAB_FABID_id → Answers (.configExchange port uid nport
    seated fabid true nonce kcv) s fun t => t.fpState port = fpActive ∧ t.rd D.FAB_PNBR_uid port = uid.toNat ∧
    t.rd D.FAB_PSTAT_enc port = 1 ∧ (t.fport port).key = some (BitVec.ofNat 256 (ofLe (linkKey fk myUid
    uid.toNat (s.fport port).nonce nonce)))) ∧
  (∀ (port : Fin 16) (uid : Word) (nport : Fin 16) (seated : Bool) (fabid : Word) (nonce : BitVec 128) (kcv :
    BitVec 32) (s : State), s.fpState port = fpRetrain → (s.fport port).locked = true → s.rd D.FAB_PCTL_crypt
    port ≠ 1 → seated = false ∨ s.storedSeat = none ∨ fabid.toNat = s.rd D.FAB_FABID_id → Answers
    (.configExchange port uid nport seated fabid false nonce kcv) s fun t => t.fpState port = fpActive ∧
    (t.fport port).locked = false ∧ (t.fport port).replay = (s.fport port).replay ∧ (t.fport port).rx = (s.fport
    port).rx) ∧
  (∀ (port : Fin 4) (fport : Fin 16) (value : BitVec 32) (s : State), s.portQuiet port = true → s.phase ≠
    stRomRecovery → Answers (.fabPctlWrite port fport value) s fun t => t.rd D.FAB_PCTL_dis fport = value.toNat
    % 2 ∧ t.rd D.FAB_PCTL_crypt fport = value.toNat / 16 % 2)

/-- A flit of the expected number is released, or joins its batch where the link is encrypted; one with a
bad CRC asks for the number expected; a good tag releases the batch; a NAK replays every unacknowledged flit
and an acknowledgement drops those up to its number; a message in transit leaves with one hop more, and
after ten hops is dropped and logged; a new link record is kept and flooded, one not newer changes nothing;
releasing a seat clears and counts its grants. Where the rules leave a choice, the model's own is in log
entries 64, 140, 141, 142, 146, 182. Each clause says that the command answers a next state under conditions
on the state and operands alone: flitPayload, flitTag, flitNak, flitIdle, delayProbe, messageForward,
linkRecord, linkRecordTimer, awayRelease. -/
def Obligations.FabricLinksCarry : Prop :=
  (∀ (port : Fin 16) (seq ack : Fin 1024) (chan : Fin 64) (credits : Fin 16) (payload : BitVec 480) (crc :
    BitVec 32) (s : State), s.fpState port = fpActive → s.injSlots 0x10 (hitInst1 port) = [] → (FlitHdr.mk 1 seq
    ack chan credits).crcOk payload crc = true → seq.val = (s.fport port).rx → (s.fport port).replay = [] → s.rd
    D.FAB_PSTAT_enc port = 0 → Answers (.flitPayload port seq ack chan credits payload crc) s fun t => t.fport
    port =
    { s.fport port with rx := (seq.val + 1) % 1024, nak := false, stream := (s.fport port).stream ++ [payload] }
    ∧ ∀ q, q ≠ port.val → t.fport q = s.fport q) ∧
  (∀ (port : Fin 16) (seq ack : Fin 1024) (chan : Fin 64) (credits : Fin 16) (payload : BitVec 480) (crc :
    BitVec 32) (s : State), s.fpState port = fpActive → s.injSlots 0x10 (hitInst1 port) = [] → (FlitHdr.mk 1 seq
    ack chan credits).crcOk payload crc = true → seq.val = (s.fport port).rx → (s.fport port).replay = [] → s.rd
    D.FAB_PSTAT_enc port = 1 → Answers (.flitPayload port seq ack chan credits payload crc) s fun t => (t.fport
    port).batch = (s.fport port).batch ++ [(BitVec.ofNat 32 (FlitHdr.mk 1 seq ack chan credits).word, payload)]
    ∧ (t.fport port).stream = (s.fport port).stream) ∧
  (∀ (port : Fin 16) (seq ack : Fin 1024) (chan : Fin 64) (credits : Fin 16) (payload : BitVec 480) (crc :
    BitVec 32) (s : State), s.fpState port = fpActive → s.injSlots 0x10 (hitInst1 port) = [] → (FlitHdr.mk 1 seq
    ack chan credits).crcOk payload crc = false → (s.fport port).nak = false → Answers (.flitPayload port seq
    ack chan credits payload crc) s fun t => (t.fport port) = { s.fport port with nak := true } ∧ t.out =
    .fabMsg msgFlit none [port, (s.fport port).rx] :: s.out ∧ s.Only [.regs, .fab, .out] t) ∧
  (∀ (port : Fin 16) (k : BitVec 256) (seq ack : Fin 1024) (chan : Fin 64) (credits : Fin 16) (payload :
    BitVec 480) (crc : BitVec 32) (s : State), s.fpState port = fpActive → s.injSlots 0x10 (hitInst1 port) = []
    → s.injSlots 0x11 (hitInst1 port) = [] → (FlitHdr.mk 2 seq ack chan credits).crcOk payload crc = true →
    seq.val = (s.fport port).rx → (s.fport port).replay = [] → (s.fport port).key = some k → gcmTag (leBytes
    k.toNat 32) (batchNonce (decide (s.rd D.FAB_PNBR_uid port < myUid)) (s.fport port).rekeys (s.fport
    port).batches) (batchAad (s.fport port).batch) (batchBytes (s.fport port).batch) = leBytes payload.toNat 16
    → Answers (.flitTag port seq ack chan credits payload crc) s fun t => (t.fport port).batch = [] ∧ (t.fport
    port).batches = (s.fport port).batches + 1 ∧ (s.fport port).stream <+: (t.fport port).stream ∧ ∀ q, q ≠
    port.val → t.fport q = s.fport q) ∧
  (∀ (port : Fin 16) (seq ack : Fin 1024) (chan : Fin 64) (credits : Fin 16) (expected : Fin 1024) (payload :
    BitVec 480) (crc : BitVec 32) (s : State), s.fpState port = fpActive → s.injSlots 0x10 (hitInst1 port) = []
    → (FlitHdr.mk 3 seq ack chan credits).crcOk payload crc = true → (s.fport port).replay.contains
    ((expected.val + 1023) % 1024) = false → Answers (.flitNak port seq ack chan credits expected payload crc) s
    fun t => t.out = .fabMsg msgFlit none (port :: (s.fport port).replay) :: s.out ∧ (t.fport port).replay =
    (s.fport port).replay ∧ t.rd D.FAB_PERR_replays port = min (D.FAB_PERR_replays.cap - 1) (s.rd
    D.FAB_PERR_replays port + 1)) ∧
  (∀ (port : Fin 16) (seq ack : Fin 1024) (chan : Fin 64) (credits : Fin 16) (payload : BitVec 480) (crc :
    BitVec 32) (s : State), s.fpState port = fpActive → s.injSlots 0x10 (hitInst1 port) = [] → (FlitHdr.mk 0 seq
    ack chan credits).crcOk payload crc = true → seq.val = (s.fport port).rx → (s.fport port).replay = [] →
    Answers (.flitIdle port seq ack chan credits payload crc) s fun t => t.fab = s.fab ∧ t.out = s.out) ∧
  (∀ (port : Fin 16) (seq ack : Fin 1024) (chan : Fin 64) (credits : Fin 16) (payload : BitVec 480) (crc :
    BitVec 32) (s : State) (i : Nat), s.fpState port = fpActive → s.injSlots 0x10 (hitInst1 port) = [] →
    (FlitHdr.mk 0 seq ack chan credits).crcOk payload crc = true → seq.val = (s.fport port).rx → (s.fport
    port).replay[i]? = some ack.val → (∀ j, j < i → (s.fport port).replay[j]? ≠ some ack.val) → (s.fport
    port).wait = 0 → Answers (.flitIdle port seq ack chan credits payload crc) s fun t => (t.fport port).replay
    = (s.fport port).replay.drop (i + 1)) ∧
  (∀ (port : Fin 16) (roundTrip turnaround : Nat) (s : State), s.fpState port = fpActive → Answers
    (.delayProbe port roundTrip turnaround) s fun t => t.fport port =
    { s.fport port with delay := (roundTrip - turnaround) / 2 } ∧ s.Only [.fab] t) ∧
  (∀ (port : Fin 16) (dest : Fin 64) (hops : Fin 16) (words : Nat) (s : State), s.fpState port = fpActive →
    s.mySeat ≠ some dest.val → hops.val < 10 → Answers (.messageForward port dest hops words) s fun t => t.out =
    .fabMsg msgFlit (some dest.val) [hops.val + 1, words] :: s.out) ∧
  (∀ (port : Fin 16) (dest : Fin 64) (hops : Fin 16) (words : Nat) (s : State), s.fpState port = fpActive →
    s.mySeat ≠ some dest.val → 10 ≤ hops.val → s.phase ≠ stRomRecovery → Answers (.messageForward port dest hops
    words) s fun t => s.Logged E.FAB_HOP_DROP 0 0 0 t ∧ t.rd D.FAB_PERR_loopdrop port = min
    (D.FAB_PERR_loopdrop.cap - 1) (s.rd D.FAB_PERR_loopdrop port + 1) ∧ s.Only [.regs, .evq] t) ∧
  (∀ (port : Fin 16) (uid : Word) (seq : Nat) (kprio : BitVec 8) (r : LinkRec) (s : State), SMap.find
    s.fab.recs uid.toNat = some r → seq ≤ r.seq → Answers (.linkRecord port uid none seq kprio []) s fun t => t
    = s) ∧
  (∀ (port : Fin 16) (uid : Word) (seat : Option (Fin 64)) (seq : Nat) (kprio : BitVec 8) (links : List (Fin
    16 × Word × Fin 16)) (s : State), s.fpState port = fpActive → SMap.find s.fab.recs uid.toNat = none → uid ≠
    0 → uid ≠ Config.uid → Answers (.linkRecord port uid seat seq kprio links) s fun t => SMap.find t.fab.recs
    uid.toNat = some ⟨seat.map (fun (x : Fin 64) => x.val), seq, kprio.toNat, links.map (fun l => (l.1.val,
    l.2.1.toNat, l.2.2.val))⟩ ∧ s.out.length < t.out.length) ∧
  (∀ (s : State), s.rd D.FAB_STAT_join ≠ 0 → Answers (.linkRecordTimer) s fun t => t.fab.linkSeq =
    s.fab.linkSeq + 1 ∧ t.out.length = s.out.length + 1 ∧ s.Only [.fab, .out] t) ∧
  (∀ (port : Fin 4) (seat : Fin 64) (gl : Nat) (g : Grant) (s : State), s.portQuiet port = true → s.phase ≠
    stRomRecovery → s.grant gl = some g → g.seat = seat.val → s.coh.grants.length = 1 → Answers (.awayRelease
    port seat) s fun t => t.coh.grants = [] ∧ t.rd D.CLO_LOSS_swept = min (D.CLO_LOSS_swept.cap - 1) (s.rd
    D.CLO_LOSS_swept + 1))

/-- The end of the quiet time resolves; the keeper keeps the newest claim of a UID and follows its time; a
record that comes first is adopted; a device with no seat ends its join unseated and logs it; ASSIGN and
EVICT at a keeper that performs them set and clear the holder of the seat, DROPFWD discards the forward hold
of a UID, and one written at a device that is not the keeper goes to it. Where the rules leave a choice, the
model's own is in log entry 18. Each clause says that the command answers a next state under conditions on
the state and operands alone: joinQuietEnd, claim, lateJoin, membershipCommit, joinComplete, assign, evict,
dropfwd. -/
def Obligations.JoinAndSeatCommands : Prop :=
  (∀ (s : State), s.rd D.FAB_STAT_join = 1 ∨ s.rd D.FAB_STAT_join = 2 → Answers (.joinQuietEnd) s fun t =>
    t.rd D.FAB_STAT_join = 3 ∧ t.fab.resolving = true) ∧
  (∀ (uid fabid epoch : Word) (seat : Option (Fin 64 × BitVec 48)) (time : Word) (s : State), s.isKeeper =
    true → s.fab.committed = false → s.rd D.FAB_STAT_join ≠ 0 → Answers (.claim uid false fabid epoch seat []
    time) s fun t => t.fab.claims = s.fab.claims.filter (fun x => decide (x.uid ≠ uid.toNat)) ++ [⟨uid.toNat,
    none, seat.map (fun k => (k.1.val, k.2.toNat)), time.toNat⟩] ∧ t.now = max s.now time.toNat ∧ s.Only [.regs,
    .evq, .fab, .aon, .led] t) ∧
  (∀ (uid fabid epoch : Word) (seat : Option (Fin 64 × BitVec 48)) (time : Word) (s : State), s.isKeeper =
    true → s.fab.committed = true → Answers (.lateJoin uid false fabid epoch seat [] time) s fun t =>
    t.fab.claims = [⟨uid.toNat, none, seat.map (fun k => (k.1.val, k.2.toNat)), time.toNat⟩] ∧ t.fab.committed =
    true ∧ t.now = max s.now time.toNat) ∧
  (∀ (uid fabid epoch : Word) (seat : Option (Fin 64 × BitVec 48)) (record : List (Fin 64 × Word × BitVec 48))
    (time : Word) (s : State), s.isKeeper = true → s.fab.committed = false → s.rd D.FAB_STAT_join ≠ 0 → Answers
    (.claim uid true fabid epoch seat record time) s fun t => t.fab.claims.getLast? = some ⟨uid.toNat, some
    (fabid.toNat, epoch.toNat), seat.map (fun k => (k.1.val, k.2.toNat)), time.toNat⟩ ∧ (s.betterRecord
    fabid.toNat epoch.toNat = true → t.rd D.FAB_FABID_id = fabid.toNat ∧ t.rd D.FAB_EPOCH_e = epoch.toNat ∧
    t.fab.record = true)) ∧
  (∀ (k e : Nat) (uid fabid epoch : Word) (time : Word) (s : State), s.isKeeper = true → s.fab.committed =
    true → uid ≠ 0 → s.bit D.FAB_CFG_autoseat = true → s.quorum = true → s.seatRecs.find? (fun x => decide
    (x.2.1 = 0)) = some (k, 0, e) → Answers (.lateJoin uid false fabid epoch none [] time) s fun t => t.rd
    D.FAB_MEMUID_uid k = uid.toNat ∧ t.fab.committed = true ∧ t.fab.record = true) ∧
  (∀ (fabid epoch : Word) (seat : Fin 64) (uid : Word) (e : BitVec 48) (s : State), s.isKeeper = false → s.rd
    D.FAB_STAT_join ≠ 0 → s.betterRecord fabid.toNat epoch.toNat = true → Answers (.membershipCommit fabid epoch
    [(seat, uid, e)]) s fun t => t.rd D.FAB_FABID_id = fabid.toNat ∧ t.rd D.FAB_EPOCH_e = epoch.toNat ∧ t.rd
    D.FAB_MEMUID_uid seat = uid.toNat ∧ t.rd D.FAB_MEMST_epoch seat = e.toNat) ∧
  (∀ (fabid epoch : Word) (record : List (Fin 64 × Word × BitVec 48)) (o : SeatOp) (s : State), s.isKeeper =
    true → s.fab.seatOp = some o → o.origin = myUid → Answers (.membershipCommit fabid epoch record) s fun t =>
    t.fab.seatOp = none ∧ t.bit D.FAB_SEATCMD_busy = false ∧ t.rd D.FAB_SEATCMD_status = 0 ∧ s.Only [.regs,
    .fab] t) ∧
  (∀ (fabid epoch : Word) (s : State), s.isKeeper = false → s.rd D.FAB_STAT_join ≠ 0 → s.betterRecord
    fabid.toNat epoch.toNat = true → Answers (.membershipCommit fabid epoch []) s fun t => t.rd D.FAB_FABID_id =
    fabid.toNat ∧ t.rd D.FAB_EPOCH_e = epoch.toNat ∧ t.fab.record = true) ∧
  (∀ (fabid epoch : Word) (s : State), s.isKeeper = true → s.fab.seatOp = none → s.fab.resolving = true →
    s.fab.committed = false → s.proposal = s.seatRecs → Answers (.membershipCommit fabid epoch []) s fun t => t
    = ({ s with fab := { s.fab with committed := true } } : State).emit (.fabMsg msgCommit none (s.rd
    D.FAB_FABID_id :: s.rd D.FAB_EPOCH_e :: recordWords s.seatRecs))) ∧
  (∀ (s : State), s.isKeeper = false → s.rd D.FAB_STAT_join = 3 → s.fab.record = false → s.phase ≠
    stRomRecovery → Answers (.joinComplete) s fun t => t.rd D.FAB_STAT_join = 5 ∧ t.fab.resolving = false ∧
    s.Logged E.FAB_UNSEATED 0 0 0 t ∧ s.Only [.regs, .evq, .fab] t) ∧
  (∀ (seat : Fin 64) (uid origin : Word) (s : State), s.isKeeper = true → s.seatRefusal 1 seat uid.toNat =
    none → s.fab.seatOp = none → Answers (.assign none seat uid origin) s fun t => t.rd D.FAB_MEMUID_uid seat =
    uid.toNat) ∧
  (∀ (seat : Fin 64) (uid origin : Word) (s : State), s.isKeeper = true → s.seatRefusal 2 seat uid.toNat =
    none → s.fab.seatOp = none → Answers (.evict none seat uid origin) s fun t => t.rd D.FAB_MEMUID_uid seat =
    0) ∧
  (∀ (gl : Nat) (e : FwdEnt) (seat : Fin 64) (uid origin : Word) (s : State), s.isKeeper = true →
    s.seatRefusal 3 seat uid.toNat = none → s.fab.seatOp = none → s.coh.fwd = [(gl, e)] → e.uid = uid.toNat →
    Answers (.dropfwd none seat uid origin) s fun t => t.coh.fwd = []) ∧
  (∀ (port : Fin 4) (seat : Fin 64) (uid origin : Word) (s : State), s.portQuiet port = true → s.phase ≠
    stRomRecovery → s.isKeeper = false → s.bit D.FAB_SEATCMD_busy = false → Answers (.assign (some port) seat
    uid origin) s fun t => t.bit D.FAB_SEATCMD_busy = true ∧ t.rd D.FAB_SEATUID_uid = uid.toNat ∧ t.out =
    .fabMsg msgSeatCmd none [1, seat, uid.toNat, myUid] :: s.out) ∧
  (∀ (port : Fin 4) (seat : Fin 64) (uid origin : Word) (s : State), s.portQuiet port = true → s.phase ≠
    stRomRecovery → s.isKeeper = false → s.bit D.FAB_SEATCMD_busy = false → Answers (.evict (some port) seat uid
    origin) s fun t => t.bit D.FAB_SEATCMD_busy = true ∧ t.rd D.FAB_SEATUID_uid = uid.toNat ∧ t.out = .fabMsg
    msgSeatCmd none [2, seat, uid.toNat, myUid] :: s.out) ∧
  (∀ (port : Fin 4) (seat : Fin 64) (uid origin : Word) (s : State), s.portQuiet port = true → s.phase ≠
    stRomRecovery → s.isKeeper = false → s.bit D.FAB_SEATCMD_busy = false → Answers (.dropfwd (some port) seat
    uid origin) s fun t => t.bit D.FAB_SEATCMD_busy = true ∧ t.rd D.FAB_SEATUID_uid = uid.toNat ∧ t.out =
    .fabMsg msgSeatCmd none [3, seat, uid.toNat, myUid] :: s.out)

/-- A beacon more than 100 us ahead steps vault time to it, a nearer one slews it by at most 200 ns (the
model applies 200 ppm to a beacon period of 1 ms), and one behind leaves it and has it stand for up to 200
ns of the time that follows; a time set goes to the keeper, which steps; each global operation has its
effect at a member, ends at its originator, and a barrier ends with its generation one higher. Where the
rules leave a choice, the model's own is in log entries 18, 144, 145. Each clause says that the command
answers a next state under conditions on the state and operands alone: timeBeacon, vtset, vaultTimeSave,
broadcast, snapshot, snapshotTimeReached, reset, barrierArrive, gopMemberTimeout, barrierComplete. -/
def Obligations.TimeAndGlobalOperations : Prop :=
  (∀ (time : Word) (delay depth : Nat) (s : State), s.isKeeper = false → 3 ≤ s.rd D.FAB_STAT_join → s.now +
    100000 < time.toNat + delay → time.toNat + delay < 2 ^ 64 → Answers (.timeBeacon time delay depth) s fun t
    => t.now = time.toNat + delay) ∧
  (∀ (time : Word) (delay depth : Nat) (s : State), s.isKeeper = false → 3 ≤ s.rd D.FAB_STAT_join → s.now <
    time.toNat + delay → time.toNat + delay ≤ s.now + 100000 → time.toNat + delay < 2 ^ 64 → Answers
    (.timeBeacon time delay depth) s fun t => t.now = min (time.toNat + delay) (s.now + 200) ∧ t.evq = s.evq) ∧
  (∀ (time : Word) (delay depth : Nat) (s : State), s.isKeeper = false → 3 ≤ s.rd D.FAB_STAT_join → time.toNat
    + delay ≤ s.now → Answers (.timeBeacon time delay depth) s fun t => t.now = s.now ∧ t.fab.ahead = min 200
    (s.now - (time.toNat + delay)) ∧ t.evq = s.evq) ∧
  (∀ (time : Word) (delay depth : Nat) (s : State), s.isKeeper = true → 3 ≤ s.rd D.FAB_STAT_join → Answers
    (.timeBeacon time delay depth) s fun t => t.now = s.now ∧ t.rd D.FAB_VTSTAT_offset = 0 ∧ t.out = .fabMsg
    msgBeacon none [s.now] :: s.out ∧ s.Only [.regs, .out] t) ∧
  (∀ (t0 : Word) (s : State), s.isKeeper = true → s.now < t0.toNat → s.phase ≠ stRomRecovery → Answers (.vtset
    none t0) s fun t => t.now = t0.toNat ∧ t.evq = s.evq ++ [⟨E.FAB_VT_STEP, 0, 0, t0.toNat - s.now, t0.toNat,
    false⟩]) ∧
  (∀ (port : Fin 4) (t0 : Word) (s : State), s.portQuiet port = true → s.phase ≠ stRomRecovery → s.isKeeper =
    false → s.rd D.FAB_STAT_join ≠ 0 → Answers (.vtset (some port) t0) s fun t => t.rd D.FAB_VTSTAT_hostset = 1
    ∧ t.now = s.now ∧ t.out = .fabMsg msgVtSet none [max s.now t0.toNat] :: s.out) ∧
  (∀ (s : State), s.isOpen = true → Answers (.vaultTimeSave) s fun t => t.led.progSeq = s.led.progSeq + 1 ∧
    t.led.progAt = s.now) ∧
  (∀ (arg origin : Word) (s : State), s.isKeeper = false → 3 ≤ s.rd D.FAB_STAT_join → s.phase ≠ stRomRecovery
    → Answers (.broadcast none arg origin) s fun t => t.rd D.FAB_GOPIN_value = arg.toNat ∧ s.Logged E.FAB_BCAST
    0 0 0 t ∧ s.RegsBut [D.FAB_GOPIN_value.key 0] t ∧ s.Only [.regs, .evq] t) ∧
  (∀ (port : Fin 4) (arg origin : Word) (s : State), s.portQuiet port = true → s.phase ≠ stRomRecovery →
    s.isKeeper = false → s.bit D.FAB_GOPCTL_busy = false → Answers (.broadcast (some port) arg origin) s fun t
    => t.bit D.FAB_GOPCTL_busy = true ∧ t.rd D.FAB_GOPARG_value = arg.toNat ∧ t.out = .fabMsg msgGop none
    [gopBroadcast, arg.toNat, myUid, 0] :: s.out) ∧
  (∀ (arg origin t0 : Word) (s : State), s.isKeeper = false → 3 ≤ s.rd D.FAB_STAT_join → Answers (.snapshot
    none arg origin t0) s fun t => t.fab.snapAt = some t0.toNat ∧ t.bit D.TAL_STAT_pending = true ∧ s.Only
    [.regs, .fab, .tal] t) ∧
  (∀ (s : State) (t0 : Nat), s.fab.snapAt = some t0 → t0 < 2 ^ 64 → Answers (.snapshotTimeReached) s fun t =>
    t.rd D.FAB_SNAPT_ns = t0 ∧ t.rd D.REC_SNAPSEQ_seq = s.rd D.REC_HEAD_seq % 2 ^ 64 ∧ t.fab.snapAt = none ∧
    s.Only [.regs, .fab] t) ∧
  (∀ (port : Fin 4) (arg origin t0 : Word) (s : State), s.portQuiet port = true → s.phase ≠ stRomRecovery →
    s.isKeeper = false → s.bit D.FAB_GOPCTL_busy = false → Answers (.snapshot (some port) arg origin t0) s fun t
    => t.bit D.FAB_GOPCTL_busy = true ∧ t.rd D.FAB_GOPARG_value = arg.toNat ∧ t.out = .fabMsg msgGop none
    [gopSnapshot, arg.toNat, myUid, 0] :: s.out) ∧
  (∀ (port : Fin 4) (arg origin t0 : Word) (s : State), s.portQuiet port = true → s.phase ≠ stRomRecovery →
    s.isKeeper = false → s.bit D.FAB_GOPCTL_busy = false → Answers (.reset (some port) arg origin) s fun t =>
    t.bit D.FAB_GOPCTL_busy = true ∧ t.rd D.FAB_GOPARG_value = arg.toNat ∧ t.out = .fabMsg msgGop none
    [gopReset, arg.toNat, myUid, 0] :: s.out) ∧
  (∀ (arrive : BitVec 16) (origin : Word) (s : State), s.isKeeper = true → Answers (.barrierArrive none arrive
    origin) s fun t => (∀ n, n < 16 → arrive.toNat.testBit n = true → (SMap.get [] t.fab.arrived n).contains
    origin.toNat = true) ∧ (∀ n, n < 16 → arrive.toNat.testBit n = false → SMap.get [] t.fab.arrived n =
    SMap.get [] s.fab.arrived n) ∧ s.Only [.fab] t) ∧
  (∀ (arg origin : Word) (s : State), s.isKeeper = false → 3 ≤ s.rd D.FAB_STAT_join → s.phase = stOpen →
    Answers (.reset none arg origin) s fun t => ∃ f, t.gov.flush = some f ∧ f.step = 2 ∧ f.cause = 2 ∧ f.t0 =
    s.now) ∧
  (∀ (arg origin : Word) (s : State), s.isKeeper = false → 3 ≤ s.rd D.FAB_STAT_join → s.phase = stFlushing ∨
    s.phase = stResetting → Answers (.reset none arg origin) s fun t => t = s) ∧
  (∀ (late : Nat) (g : Gop) (m : List Nat) (s : State), s.fab.gop = some (g, m) → g.op = gopBroadcast →
    s.fab.gops = [] → 0 < late → s.phase ≠ stRomRecovery → Answers (.gopMemberTimeout late) s fun t => t.fab.gop
    = none ∧ s.Logged E.FAB_GOP_PARTIAL 0 0 late t ∧ s.Only [.regs, .evq, .fab] t) ∧
  (∀ (n : Fin 16) (origin : Word) (s : State), s.isKeeper = true → Answers (.barrierArrive none (BitVec.ofNat
    16 (2 ^ n.val)) origin) s fun t => (SMap.get [] t.fab.arrived n).contains origin.toNat = true ∧ s.Only
    [.fab] t) ∧
  (∀ (port : Fin 4) (n : Fin 16) (origin : Word) (s : State), s.portQuiet port = true → s.phase ≠
    stRomRecovery → s.isKeeper = false → (s.rd D.FAB_BARRIER_waiting).testBit n = false → Answers
    (.barrierArrive (some port) (BitVec.ofNat 16 (2 ^ n.val)) origin) s fun t => (t.rd
    D.FAB_BARRIER_waiting).testBit n = true ∧ t.out = .fabMsg msgBarrier none [n.val, myUid] :: s.out) ∧
  (∀ (n : Fin 16) (s : State), s.isKeeper = false → (s.rd D.FAB_BARRIER_waiting).testBit n = true → s.phase ≠
    stRomRecovery → Answers (.barrierComplete n) s fun t => (t.rd D.FAB_BARRIER_waiting).testBit n = false ∧
    t.rd D.FAB_BARGEN_gen / 2 ^ (4 * n.val) % 16 = (s.rd D.FAB_BARGEN_gen / 2 ^ (4 * n.val) % 16 + 1) % 16 ∧
    s.Logged E.FAB_BARRIER_DONE 0 0 0 t)

/-- done with nothing buffered, no call open and no job running posts a DONE record with the tag and x10 and
x11 of the context in the completion queue of the call, and the context becomes IDLE. Each clause says that
the command answers a next state under conditions on the state and operands alone: done. -/
def Obligations.DoneEndsCalls : Prop :=
  ∀ (c : Fin 256) (s : State), s.Served c → s.refusing c = false → (s.ctx c).links = [] → (s.ctx c).jobs = []
    → (s.ctx c).fault = none → s.cqGood (s.ctx c).cq = true → s.qFull (s.ctx c).cq = false → Answers (.done c) s
    fun t => (t.ctx c).st = .idle ∧ ∃ d, (t.queue (s.ctx c).cq).vis = (s.queue (s.ctx c).cq).vis ++ (s.queue
    (s.ctx c).cq).held ++ [⟨d, false⟩] ∧ wordAt d 0 / 2 ^ 56 = 2 ∧ wordAt d 0 % 2 ^ 32 = (s.ctx c).tag % 2 ^ 32
    ∧ wordAt d 1 = ((s.ctx c).reg 10).toNat ∧ wordAt d 2 = ((s.ctx c).reg 11).toNat

/-- A write and a merge store the ciphertext and MAC of the line under the present W, which increments; a
sound read changes no line and raises nothing, and one whose MAC differs poisons the line, sets its alarm
and is logged; a reseed that passes both tests resets the generator and a failure stops it; one wrong bit of
a word is corrected, counted and logged, two in the ring table reset the device; a slot arms only where
injection is on and the device OPEN. Where the rules leave a choice, the model's own is in log entries 83,
84, 108, 183, 185. Each clause says that the command answers a next state under conditions on the state and
operands alone: stagingWrite, stagingRead, stagingMerge, stagingReinitDone, trngReseed, trngRestart,
onchipScrub, ddr4Scrub, injArm, injDisarm, injDisarmAll. -/
def Obligations.StagingAndIntegrity : Prop :=
  (∀ (line : Fin 4294967296) (ke km : BitVec 256) (h : BitVec 128) (kind : Fin 7) (a b : Nat) (data : Line)
    (miss : Fin 6) (s : State), s.rd D.STG_STAT_state ≠ 0 → s.stgWaits line = false → s.stgE.keys = some (ke,
    km, h) → Answers (.stagingWrite line kind a b data miss []) s fun t => SMap.find t.stgE.lines line = some
    ⟨(s.rd D.STG_WCOUNT_w), stgCrypt ke line (s.rd D.STG_WCOUNT_w) (s.useBytes (useOf kind a b) data), lineMac
    km h line (s.rd D.STG_WCOUNT_w) (stgCrypt ke line (s.rd D.STG_WCOUNT_w) (s.useBytes (useOf kind a b) data))⟩
    ∧ t.rd D.STG_WCOUNT_w = ((s.rd D.STG_WCOUNT_w) + 1) % D.STG_WCOUNT_w.cap ∧ s.Only [.regs, .stgE] t) ∧
  (∀ (line : Fin 4294967296) (ke km : BitVec 256) (h : BitVec 128) (kind : Fin 7) (a b : Nat) (data : Line)
    (miss : Fin 6) (evicted : List (Nat × Nat)) (s : State), s.rd D.STG_STAT_state ≠ 0 → s.stgWaits line = false
    → s.stgE.keys = some (ke, km, h) → Answers (.stagingWrite line kind a b data miss evicted) s fun t => (∃ w,
    SMap.find t.stgE.lines line = some ⟨w, stgCrypt ke line w (s.useBytes (useOf kind a b) data), lineMac km h
    line w (stgCrypt ke line w (s.useBytes (useOf kind a b) data))⟩) ∧ s.Only [.regs, .stgE] t) ∧
  (∀ (line : Fin 4294967296) (ke km : BitVec 256) (h : BitVec 128) (l : DdrLine) (a b : Nat) (ch : Fin 2) (s :
    State), s.rd D.STG_STAT_state ≠ 0 → s.NoInj → s.stgPoisoned line = false → SMap.find s.stgE.lines line =
    some l → lineMac km h line l.ctr l.ct = l.mac → s.stgE.keys = some (ke, km, h) → SMap.find s.stgE.uses line
    = none → Answers (.stagingRead line 1 a b ch 0 0 false false 0 0 0 0 []) s fun t => t.evq = s.evq ∧
    t.stgE.lines = s.stgE.lines ∧ t.stgE.ranges = s.stgE.ranges ∧ s.Only [.regs, .stgE] t) ∧
  (∀ (line : Fin 4294967296) (ke km : BitVec 256) (h : BitVec 128) (l : DdrLine) (kind : Fin 7) (a b : Nat)
    (ch : Fin 2) (miss : Fin 6) (tamper both : Bool) (corr : Fin 9) (evicted : List (Nat × Nat)) (s : State),
    s.rd D.STG_STAT_state ≠ 0 → s.NoInj → s.stgPoisoned line = false → SMap.find s.stgE.lines line = some l →
    lineMac km h line l.ctr l.ct = l.mac → s.stgE.keys = some (ke, km, h) → SMap.find s.stgE.uses line = none →
    s.coh.txns = [] → Answers (.stagingRead line kind a b ch miss 0 tamper both corr 0 0 0 evicted) s fun t =>
    t.stgE.lines = s.stgE.lines ∧ t.stgE.ranges = s.stgE.ranges ∧ s.Only [.regs, .evq, .stgE] t) ∧
  (∀ (line : Fin 4294967296) (a b : Nat) (ch : Fin 2) (miss bad : Fin 6) (both : Bool) (corr : Fin 9) (uncorr
    : Fin 3) (ct : Line) (mac : Word) (evicted : List (Nat × Nat)) (s : State), s.rd D.STG_STAT_state ≠ 0 →
    s.NoInj → s.stgPoisoned line = false → s.stgE.ranges = [] → s.stgE.uses = [] → 1 ≤ bad.val → bad.val ≤
    miss.val → Answers (.stagingRead line 1 a b ch miss bad true both corr uncorr ct mac evicted) s fun t =>
    t.rd D.STG_ALARM_tamper = 1 ∧ t.rd D.STG_CNT_node = min (D.STG_CNT_node.cap - 1) (s.rd D.STG_CNT_node + 1) ∧
    ∃ w, t.stgE.ranges = [⟨bad.val, line.val / 7 ^ bad.val * 7 ^ bad.val, w⟩]) ∧
  (∀ (line : Fin 4294967296) (a b : Nat) (ch : Fin 2) (miss bad : Fin 6) (both : Bool) (corr : Fin 9) (uncorr
    : Fin 3) (ct : Line) (mac : Word) (evicted : List (Nat × Nat)) (s : State), s.rd D.STG_STAT_state ≠ 0 →
    s.NoInj → s.stgPoisoned line = false → s.stgE.ranges = [] → s.stgE.uses = [] → 1 ≤ bad.val → bad.val ≤
    miss.val → Answers (.stagingRead line 1 a b ch miss bad false both corr uncorr ct mac evicted) s fun t =>
    t.rd D.STG_ALARM_nodeuc = 1 ∧ t.rd D.STG_CNT_node = min (D.STG_CNT_node.cap - 1) (s.rd D.STG_CNT_node + 1) ∧
    ∃ w, t.stgE.ranges = [⟨bad.val, line.val / 7 ^ bad.val * 7 ^ bad.val, w⟩]) ∧
  (∀ (line : Fin 4294967296) (a b : Nat) (ch : Fin 2) (miss : Fin 6) (tamper both : Bool) (corr : Fin 9) (ct :
    Line) (mac : Word) (evicted : List (Nat × Nat)) (s : State), s.rd D.STG_STAT_state ≠ 0 → s.NoInj →
    s.stgPoisoned line = false → s.stgE.ranges = [] → s.stgE.uses = [] → Answers (.stagingRead line 1 a b ch
    miss 0 tamper both corr 1 ct mac evicted) s fun t => t.rd D.STG_ALARM_lineuc = 1 ∧ t.rd D.STG_CNT_lineuc =
    min (D.STG_CNT_lineuc.cap - 1) (s.rd D.STG_CNT_lineuc + 1) ∧ ∃ w, t.stgE.ranges = [⟨0, line, w⟩]) ∧
  (∀ (line : Fin 4294967296) (a b : Nat) (ch : Fin 2) (miss : Fin 6) (tamper both : Bool) (corr : Fin 9) (ct :
    Line) (mac : Word) (evicted : List (Nat × Nat)) (s : State), s.rd D.STG_STAT_state ≠ 0 → s.NoInj →
    s.stgPoisoned line = false → s.stgE.ranges = [] → s.stgE.uses = [] → Answers (.stagingRead line 1 a b ch
    miss 0 tamper both corr 2 ct mac evicted) s fun t => t.rd D.STG_ALARM_lineuc = 1 ∧ t.stgE.ranges.map
    StgRange.first = (List.range 8).map (fun k => line.val / 8 * 8 + k)) ∧
  (∀ (line : Fin 4294967296) (ke km : BitVec 256) (h : BitVec 128) (l : DdrLine) (a b : Nat) (ch : Fin 2) (mac
    : Word) (s : State), s.rd D.STG_STAT_state ≠ 0 → s.NoInj → s.stgPoisoned line = false → SMap.find
    s.stgE.lines line = some l → lineMac km h line l.ctr l.ct = l.mac → s.stgE.keys = some (ke, km, h) →
    SMap.find s.stgE.uses line = none → mac ≠ 0 → s.stgE.ranges = [] → s.stgE.uses = [] → s.phase ≠
    stRomRecovery → Answers (.stagingRead line 1 a b ch 0 0 false false 0 0 0 mac []) s fun t => s.Logged
    E.STG_TAG_FAIL 0 0 0 t ∧ t.stgE.ranges = [⟨0, line, (s.rd D.STG_WCOUNT_w)⟩] ∧ t.stgPoisoned line = true ∧
    t.rd D.STG_ALARM_tag = 1) ∧
  (∀ (line : Fin 4294967296) (ke km : BitVec 256) (h : BitVec 128) (l : DdrLine) (a b : Nat) (data : Line)
    (mask : LineMask) (ch : Fin 2) (s : State), s.rd D.STG_STAT_state ≠ 0 → s.NoInj → s.stgPoisoned line = false
    → SMap.find s.stgE.lines line = some l → lineMac km h line l.ctr l.ct = l.mac → s.stgE.keys = some (ke, km,
    h) → SMap.find s.stgE.uses line = none → s.stgWaits line = false → Answers (.stagingMerge line 1 a b data
    mask ch 0 0 false 0 0 0 0 []) s fun t => SMap.find t.stgE.lines line = some ⟨(s.rd D.STG_WCOUNT_w), stgCrypt
    ke line (s.rd D.STG_WCOUNT_w) (merge 0 data mask), lineMac km h line (s.rd D.STG_WCOUNT_w) (stgCrypt ke line
    (s.rd D.STG_WCOUNT_w) (merge 0 data mask))⟩ ∧ t.rd D.STG_WCOUNT_w = ((s.rd D.STG_WCOUNT_w) + 1) %
    D.STG_WCOUNT_w.cap ∧ s.Only [.regs, .stgE] t) ∧
  (∀ (line : Fin 4294967296) (ke km : BitVec 256) (h : BitVec 128) (l : DdrLine) (kind : Fin 7) (a b : Nat)
    (data : Line) (mask : LineMask) (ch : Fin 2) (miss : Fin 6) (tamper : Bool) (corr : Fin 9) (evicted : List
    (Nat × Nat)) (s : State), s.rd D.STG_STAT_state ≠ 0 → s.NoInj → s.stgPoisoned line = false → SMap.find
    s.stgE.lines line = some l → lineMac km h line l.ctr l.ct = l.mac → s.stgE.keys = some (ke, km, h) →
    SMap.find s.stgE.uses line = none → s.stgWaits line = false → 1 ≤ kind.val → Answers (.stagingMerge line
    kind a b data mask ch miss 0 tamper corr 0 0 0 evicted) s fun t => (∃ w, SMap.find t.stgE.lines line = some
    ⟨w, stgCrypt ke line w (merge 0 data mask), lineMac km h line w (stgCrypt ke line w (merge 0 data mask))⟩) ∧
    s.Only [.regs, .evq, .stgE] t) ∧
  (∀ (line : Fin 4294967296) (ke km : BitVec 256) (h : BitVec 128) (l : DdrLine) (ll b : Nat) (data : Line)
    (mask : LineMask) (ch : Fin 2) (miss : Fin 6) (tamper : Bool) (corr : Fin 9) (evicted : List (Nat × Nat)) (s
    : State), s.rd D.STG_STAT_state ≠ 0 → s.NoInj → s.stgPoisoned line = false → SMap.find s.stgE.lines line =
    some l → lineMac km h line l.ctr l.ct = l.mac → s.stgE.keys = some (ke, km, h) → SMap.find s.stgE.uses line
    = none → s.stgWaits line = false → Answers (.stagingMerge line 0 ll b data mask ch miss 0 tamper corr 0 0 0
    evicted) s fun t => (∃ w, SMap.find t.stgE.lines line = some ⟨w, stgCrypt ke line w (s.belowNow (s.glOf
    ll)).1, lineMac km h line w (stgCrypt ke line w (s.belowNow (s.glOf ll)).1)⟩) ∧ s.Only [.regs, .evq, .stgE]
    t) ∧
  (∀ (line : Fin 4294967296) (a b : Nat) (data : Line) (mask : LineMask) (ch : Fin 2) (miss : Fin 6) (tamper :
    Bool) (corr : Fin 9) (ct : Line) (mac : Word) (evicted : List (Nat × Nat)) (s : State), s.rd
    D.STG_STAT_state ≠ 0 → s.NoInj → s.stgPoisoned line = false → s.stgE.ranges = [] → s.stgE.uses = [] →
    s.stgWaits line = false → Answers (.stagingMerge line 1 a b data mask ch miss 0 tamper corr 1 ct mac
    evicted) s fun t => t.rd D.STG_ALARM_merge = 1 ∧ t.rd D.STG_ALARM_lineuc = 1 ∧ ∃ w, t.stgE.ranges = [⟨0,
    line, w⟩]) ∧
  (∀ (line : Fin 4294967296) (a b : Nat) (data : Line) (mask : LineMask) (ch : Fin 2) (miss bad : Fin 6)
    (tamper : Bool) (corr : Fin 9) (uncorr : Fin 3) (ct : Line) (mac : Word) (evicted : List (Nat × Nat)) (s :
    State), s.rd D.STG_STAT_state ≠ 0 → s.NoInj → s.stgPoisoned line = false → s.stgE.ranges = [] → s.stgE.uses
    = [] → s.stgWaits line = false → 1 ≤ bad.val → bad.val ≤ miss.val → Answers (.stagingMerge line 1 a b data
    mask ch miss bad tamper corr uncorr ct mac evicted) s fun t => t.rd D.STG_ALARM_merge = 1 ∧ ∃ w,
    t.stgE.ranges = [⟨bad.val, line.val / 7 ^ bad.val * 7 ^ bad.val, w⟩]) ∧
  (∀ (r : StgRange) (rest : List StgRange) (s : State), s.stgE.reinit = r :: rest → Answers
    (.stagingReinitDone) s fun t => t.stgE.reinit = rest ∧ t.rd D.STG_STAT_reinit = b2n (decide (rest ≠ [])) ∧
    t.stgE.ranges = s.stgE.ranges ∧ t.stgE.lines = s.stgE.lines ∧ s.Only [.regs, .stgE] t) ∧
  (∀ (s : State), s.NoInj → s.rd D.CIP_STAT_trng ≠ 2 → Answers (.trngReseed false false) s fun t => t.rd
    D.CIP_STAT_trng = 0 ∧ t.rd D.CIP_TRNG_reseeds = (s.rd D.CIP_TRNG_reseeds + 1) % D.CIP_TRNG_reseeds.cap ∧
    t.drbg = 0 ∧ s.Only [.regs, .drbg] t) ∧
  (∀ (rct apt : Bool) (s : State), s.NoInj → (rct || apt) = true → s.phase ≠ stRomRecovery → Answers
    (.trngReseed rct apt) s fun t => t.rd D.CIP_STAT_trng = 2 ∧ t.rd D.CIP_ALARM_trng = 1 ∧ s.Logged
    E.CIP_TRNG_FAIL 0 0 0 t ∧ s.Only [.regs, .evq] t) ∧
  (∀ (port : Fin 4) (s : State), s.portQuiet port = true → s.phase ≠ stRomRecovery → Answers (.trngRestart
    port) s fun t => t.rd D.CIP_STAT_trng = 1) ∧
  (∀ (arr : Fin 10) (inst a b : Nat) (fl : Flips) (s : State), s.isOpen = true → s.NoInj → arr.val < 7 →
    Answers (.onchipScrub arr inst a b 0 fl) s fun t => t = s) ∧
  (∀ (arr : Fin 10) (inst a b : Nat) (fl : Flips) (s : State), s.isOpen = true → s.NoInj → arr.val < 7 →
    Answers (.onchipScrub arr inst a b 1 fl) s fun t => s.Logged E.GBL_SRAM_CORR 0 0 0 t ∧ t.rd D.INJ_SRAM_corr
    = min (D.INJ_SRAM_corr.cap - 1) (s.rd D.INJ_SRAM_corr + 1) ∧ s.Only [.regs, .evq] t) ∧
  (∀ (inst a b : Nat) (fl : Flips) (s : State), s.isOpen = true → s.NoInj → Answers (.onchipScrub 0 inst a b 2
    fl) s fun t => (∃ f, t.gov.flush = some f ∧ f.cause = 2) ∧ t.rd D.INJ_SRAM_uncorr = min
    (D.INJ_SRAM_uncorr.cap - 1) (s.rd D.INJ_SRAM_uncorr + 1)) ∧
  (∀ (inst a b w : Nat) (v : VLine) (s : State), s.isOpen = true → s.NoInj → s.vfind b = some (w, v) → Answers
    (.onchipScrub 7 inst a b 0 Flips.none) s fun t => t = s) ∧
  (∀ (arr : Fin 10) (inst a b : Nat) (wrong : Fin 73) (fl : Flips) (s : State), s.isOpen = true → s.NoInj →
    arr.val = 3 → 2 ≤ wrong.val → s.phase ≠ stRomRecovery → Answers (.onchipScrub arr inst a b wrong fl) s fun t
    => s.Logged E.GBL_SRAM_UNCORR 0 0 0 t ∧ t.rd D.INJ_SRAM_uncorr = min (D.INJ_SRAM_uncorr.cap - 1) (s.rd
    D.INJ_SRAM_uncorr + 1) ∧ s.Only [.regs, .evq] t) ∧
  (∀ (arr : Fin 10) (inst a b : Nat) (wrong : Fin 73) (fl : Flips) (s : State), s.isOpen = true → s.NoInj →
    arr.val = 1 ∨ arr.val = 2 ∨ arr.val = 4 ∨ arr.val = 5 ∨ arr.val = 6 → 2 ≤ wrong.val → Answers (.onchipScrub
    arr inst a b wrong fl) s fun t => s.rd D.INJ_SRAM_uncorr ≤ t.rd D.INJ_SRAM_uncorr) ∧
  (∀ (inst a b : Nat) (wrong : Fin 73) (fl : Flips) (s : State), s.isOpen = true → s.vfind b = none → Answers
    (.onchipScrub 7 inst a b wrong fl) s fun t => t = s) ∧
  (∀ (inst a b w : Nat) (v : VLine) (d : Line) (wrong : Fin 73) (fl : Flips) (s : State), s.isOpen = true →
    s.NoInj → s.vfind b = some (w, v) → v.poison = false → readCheck v.data fl = .corrected d → Answers
    (.onchipScrub 7 inst a b wrong fl) s fun t => s.rd D.VIT_SERR_corr (sliceOf b) ≤ t.rd D.VIT_SERR_corr
    (sliceOf b)) ∧
  (∀ (arr : Fin 10) (inst a b : Nat) (l : WLine) (wrong : Fin 73) (s : State), s.isOpen = true → s.NoInj → 8 ≤
    arr.val → s.wfind a b = some l → l.poison = false → Answers (.onchipScrub arr inst a b wrong Flips.none) s
    fun t => t = s) ∧
  (∀ (arr : Fin 10) (inst a b : Nat) (wrong : Fin 73) (fl : Flips) (s : State), s.isOpen = true → 8 ≤ arr.val
    → s.wfind a b = none → Answers (.onchipScrub arr inst a b wrong fl) s fun t => t = s) ∧
  (∀ (line : Fin 4294967296) (ch : Fin 2) (s : State), s.isOpen = true → s.stgPoisoned line = false → s.NoInj
    → s.phase ≠ stRomRecovery → Answers (.ddr4Scrub line ch true 0) s fun t => s.Logged E.STG_DDR_CORR 0 0 0 t ∧
    t.stgE = s.stgE ∧ s.Only [.regs, .evq] t) ∧
  (∀ (line : Fin 4294967296) (ch : Fin 2) (s : State), s.isOpen = true → s.stgPoisoned line = false → s.NoInj
    → s.stgE.ranges = [] → s.stgE.uses = [] → s.phase ≠ stRomRecovery → Answers (.ddr4Scrub line ch false 1) s
    fun t => s.Logged E.STG_LINE_UNCORR 0 0 0 t ∧ t.stgPoisoned line = true ∧ t.stgE.ranges = [⟨0, line, (s.rd
    D.STG_WCOUNT_w)⟩]) ∧
  (∀ (line : Fin 4294967296) (ch : Fin 2) (s : State), s.isOpen = true → s.stgPoisoned line = false → s.NoInj
    → Answers (.ddr4Scrub line ch false 0) s fun t => t = s) ∧
  (∀ (line : Fin 4294967296) (ch : Fin 2) (corr : Bool) (uncorr : Fin 3) (s : State), s.stgPoisoned line =
    true → Answers (.ddr4Scrub line ch corr uncorr) s fun t => t = s) ∧
  (∀ (line : Fin 4294967296) (ch : Fin 2) (corr : Bool) (s : State), s.isOpen = true → s.stgPoisoned line =
    false → s.NoInj → s.stgE.ranges = [] → s.stgE.uses = [] → Answers (.ddr4Scrub line ch corr 2) s fun t =>
    t.rd D.STG_ALARM_lineuc = 1 ∧ t.stgE.ranges.map StgRange.first = (List.range 8).map (fun k => line.val / 8 *
    8 + k)) ∧
  (∀ (line : Fin 4294967296) (ch : Fin 2) (s : State), s.isOpen = true → s.stgPoisoned line = false → s.NoInj
    → s.stgE.ranges = [] → s.stgE.uses = [] → Answers (.ddr4Scrub line ch true 1) s fun t => t.rd
    D.STG_ALARM_lineuc = 1 ∧ t.stgPoisoned line = true ∧ t.stgE.ranges = [⟨0, line, (s.rd D.STG_WCOUNT_w)⟩]) ∧
  (∀ (port : Fin 4) (slot : Fin 8) (s : State), s.portQuiet port = true → s.bit D.INJ_CTL_enable = true →
    s.isOpen = true → 0 < s.rd D.INJ_PT_point slot → s.rd D.INJ_PT_point slot ≤ 0x17 → Answers (.injArm port
    slot) s fun t => t.bit D.INJ_PTCTL_armed slot = true ∧ t.rd D.INJ_PTCTL_fired slot = 0 ∧ s.Only [.regs] t) ∧
  (∀ (port : Fin 4) (slot : Fin 8) (s : State), s.portQuiet port = true → s.bit D.INJ_CTL_enable = false →
    Answers (.injArm port slot) s fun t => t.bit D.INJ_PTCTL_armed slot = s.bit D.INJ_PTCTL_armed slot) ∧
  (∀ (port : Fin 4) (slot : Fin 8) (s : State), s.portQuiet port = true → Answers (.injDisarm port slot) s fun
    t => t.bit D.INJ_PTCTL_armed slot = false ∧ ∀ k, k < 8 → k ≠ slot.val → t.bit D.INJ_PTCTL_armed k = s.bit
    D.INJ_PTCTL_armed k) ∧
  (∀ (port : Fin 4) (value : BitVec 32) (s : State), s.portQuiet port = true → Answers (.injDisarmAll port
    value) s fun t => ∀ k, k < 8 → t.bit D.INJ_PTCTL_armed k = false)

/-- An event that opens a window is recorded under the next number; one beyond the limit of its window, of
severity below Failure, is suppressed and counted; before the counter is read events are held; a window that
closes records its summary; an annal write starts with the newest number, extends if asked again, and its
end moves the records to media; a record window copies at one instant; the interrupt goes out at the end of
its interval where a record fell inside it. Where the rules leave a choice, the model's own is in log entry
53. Each clause says that the command answers a next state under conditions on the state and operands alone:
eventArrival, rateWindowClose, annalWrite, annalPeriodic, recFlush, annalWriteDone, recordWindowCopy,
recordWindowReady, recIrqCoalesce. -/
def Obligations.RegistrarRecords : Prop :=
  (∀ (e : Ev) (s : State), s.evq = [e] → s.rgr.running = true → SMap.find s.rgr.wins (srcOf e.code) = none → 2
    ≤ (evSeverity e.code).getD 0 ∨ 0 < s.rd D.REC_SRC_limit (srcOf e.code) → s.rgr.buf.length < 32768 → (s.rd
    D.REC_HEAD_seq) + 1 < 2 ^ 64 → Answers (.eventArrival 0 0) s fun t => t.evq = [] ∧ t.rd D.REC_HEAD_seq =
    (s.rd D.REC_HEAD_seq) + 1 ∧ SMap.find t.rgr.buf ((s.rd D.REC_HEAD_seq) + 1) = some
    { e.rcd with seq := (s.rd D.REC_HEAD_seq) + 1 }) ∧
  (∀ (e : Ev) (w : RateWin) (s : State), s.evq = [e] → s.rgr.running = true → SMap.find s.rgr.wins (srcOf
    e.code) = some w → s.now < w.opened + w.len → (evSeverity e.code).getD 0 < 2 → s.rd D.REC_SRC_limit (srcOf
    e.code) ≤ w.seen → Answers (.eventArrival 0 0) s fun t => t.evq = [] ∧ t.rgr.buf = s.rgr.buf ∧ t.rd
    D.REC_HEAD_seq = s.rd D.REC_HEAD_seq ∧ SMap.find t.rgr.wins (srcOf e.code) = some
    { w with supp := w.supp + 1, inst := e.inst, aux := e.aux } ∧ s.Only [.regs, .evq, .rgr] t) ∧
  (∀ (e : Ev) (s : State), s.evq = [e] → s.rgr.running = false → Answers (.eventArrival 0 0) s fun t => t.evq
    = [] ∧ t.rgr = { s.rgr with held := s.rgr.held ++ [e] } ∧ s.Only [.evq, .rgr] t) ∧
  (∀ (pos n : Nat) (s : State), s.rgr.running = false → Answers (.eventArrival pos n) s fun t => t.evq =
    s.evq.take pos ++ s.evq.drop (pos + n + 1) ∧ t.rgr =
    { s.rgr with held := s.rgr.held ++ sortByCode ((s.evq.drop pos).take (n + 1)) } ∧ s.Only [.evq, .rgr] t) ∧
  (∀ (pos : Nat) (e : Ev) (s : State), s.evq[pos]? = some e → s.rgr.running = true → SMap.find s.rgr.wins
    (srcOf e.code) = none → 2 ≤ (evSeverity e.code).getD 0 ∨ 0 < s.rd D.REC_SRC_limit (srcOf e.code) →
    s.rgr.buf.length < 32768 → (s.rd D.REC_HEAD_seq) + 1 < 2 ^ 64 → Answers (.eventArrival pos 0) s fun t =>
    t.evq = s.evq.take pos ++ s.evq.drop (pos + 1) ∧ t.rd D.REC_HEAD_seq = (s.rd D.REC_HEAD_seq) + 1 ∧ SMap.find
    t.rgr.buf ((s.rd D.REC_HEAD_seq) + 1) = some { e.rcd with seq := (s.rd D.REC_HEAD_seq) + 1 }) ∧
  (∀ (pos n : Nat) (s : State), s.rgr.running = true → s.evq.length ≤ pos → Answers (.eventArrival pos n) s
    fun t => t = s) ∧
  (∀ (src : Fin 1280) (w : RateWin) (s : State), SMap.find s.rgr.wins src = some w → 0 < w.supp → s.rd
    D.REC_SRC_limit src ≠ 0 → s.rgr.buf.length < 32768 → (s.rd D.REC_HEAD_seq) + 1 < 2 ^ 64 → Answers
    (.rateWindowClose src) s fun t => SMap.find t.rgr.wins src = none ∧ SMap.find t.rgr.buf ((s.rd
    D.REC_HEAD_seq) + 1) = some ⟨(s.rd D.REC_HEAD_seq) + 1, w.opened + w.len, w.inst, w.aux, (evSeverity (codeOf
    src)).getD 0, false, true, false, codeOf src, w.supp⟩) ∧
  (∀ (s : State), s.annalDue = true → s.rgr.running = true → s.rgr.buf ≠ [] → s.rgr.writing = none → Answers
    (.annalWrite) s fun t => t.rgr.writing = some (s.rd D.REC_HEAD_seq) ∧ t.rd D.REC_STAT_writing = 1 ∧
    t.rgr.buf = s.rgr.buf ∧ s.Only [.regs, .rgr, .led] t) ∧
  (∀ (s : State), s.rgr.running = true → s.rgr.buf ≠ [] → s.rgr.writing = none → Answers (.annalPeriodic) s
    fun t => t.rgr.writing = some (s.rd D.REC_HEAD_seq) ∧ t.rd D.REC_STAT_writing = 1 ∧ t.rgr.buf = s.rgr.buf ∧
    s.Only [.regs, .rgr, .led] t) ∧
  (∀ (s : State), s.rgr.running = true → s.rgr.buf ≠ [] → s.rgr.writing = none → Answers (.recFlush) s fun t
    => t.rgr.writing = some (s.rd D.REC_HEAD_seq) ∧ t.rd D.REC_STAT_writing = 1 ∧ t.rgr.buf = s.rgr.buf ∧ s.Only
    [.regs, .rgr, .led] t) ∧
  (∀ (k : Nat) (s : State), s.rgr.running = true → s.rgr.buf ≠ [] → s.rgr.writing = some k → Answers
    (.recFlush) s fun t => t = { s with rgr := { s.rgr with writing := some 0 } }) ∧
  (∀ (n k : Nat) (r : Rcd) (s : State), s.rgr.writing = some n → n ≠ 0 → s.rgr.buf = [(k, r)] → k ≤ n →
    s.rgr.dropPend = 0 → annalTail (s.rd D.REC_TAIL_seq) n ≤ k → Answers (.annalWriteDone) s fun t => t.rgr.buf
    = [] ∧ SMap.find t.rgr.annal k = some r ∧ t.rgr.writing = none ∧ t.rd D.REC_STAT_writing = 0 ∧ t.rd
    D.REC_FLUSHED_seq = max (s.rd D.REC_FLUSHED_seq) n % D.REC_FLUSHED_seq.cap ∧ s.Only [.regs, .rgr] t) ∧
  (∀ (reader : Fin 5) (seq : Word) (s : State), Answers (.recordWindowCopy reader seq) s fun t => t.reader
    reader = { s.reader reader with seq := seq.toNat, busy := true } ∧ (∀ q, q ≠ reader.val → t.reader q =
    s.reader q) ∧ s.Only [.rgr] t) ∧
  (∀ (reader : Fin 5) (s : State), (s.reader reader).busy = true → Answers (.recordWindowReady reader) s fun t
    => t.reader reader = ⟨(s.reader reader).seq, false, (s.reader reader).seq, s.windowAt (s.reader reader).seq⟩
    ∧ (∀ q, q ≠ reader.val → t.reader q = s.reader q) ∧ s.Only [.rgr] t) ∧
  (∀ (port : Fin 4) (s : State), s.rgr.irqDue &&& (BitVec.ofNat 4 (2 ^ port.val)) = 0 → Answers
    (.recIrqCoalesce port) s fun t => t.rgr.irqBusy = s.rgr.irqBusy &&& ~~~(BitVec.ofNat 4 (2 ^ port.val)) ∧
    s.Only [.rgr] t) ∧
  (∀ (port : Fin 4) (s : State), s.rgr.irqDue &&& (BitVec.ofNat 4 (2 ^ port.val)) ≠ 0 → s.portMode port ≠ 0 →
    (SMap.get MsixVec.init (s.port port).msix 5).masked = false → Answers (.recIrqCoalesce port) s fun t =>
    t.out = .msix port 5 :: s.out ∧ t.rgr.irqDue = s.rgr.irqDue &&& ~~~(BitVec.ofNat 4 (2 ^ port.val)) ∧ s.Only
    [.rgr, .out] t)

/-- A page read gives a raw command its bytes; a corrected one is counted, logged and keeps its bytes, an
uncorrectable one is marked, counted and logged, and the key of a key page is then EMPTY; a write that the
guard passes stores its bytes and commits its operation as it starts, and one it refuses stores nothing and
is logged; a verified write makes the page readable again; raw and two-copy commands start, or end at once
with their status. Where the rules leave a choice, the model's own is in log entries 4, 74, 75. Each clause
says that the command answers a next state under conditions on the state and operands alone: pageRead,
ledgerScrub, pageWriteStart, guardRetry, pageWriteDone, ldgRawRead, ldgRawWrite, twoCopyRead, twoCopyWrite,
progressRecord. -/
def Obligations.LedgerStoreReadsAndWrites : Prop :=
  (∀ (page : Fin 16384) (b : Page) (s : State), s.led.queue = [] → s.NoInj → s.led.bad.contains page.val =
    false → SMap.find s.led.pages page = some b → s.led.cmd = some (.read page) → Answers (.pageRead page 0) s
    fun t => (∀ w, w < 32 → t.rd D.LDG_PGDATA_data w = pageWord b w) ∧ t.rd D.LDG_PGCMD_status = 0 ∧ t.bit
    D.LDG_STAT_cmdbusy = false ∧ t.led.cmd = none ∧ s.Only [.regs, .led] t) ∧
  (∀ (page : Fin 16384) (s : State), s.led.queue = [] → s.NoInj → s.led.cmd = none → 3 < page.val → s.phase ≠
    stRomRecovery → Answers (.pageRead page 2) s fun t => t.led.bad.contains page.val = true ∧ s.Logged
    E.LDG_PAGE_UNCORR 0 0 page t ∧ t.rd D.LDG_ERR_uncorr = min (D.LDG_ERR_uncorr.cap - 1) (s.rd D.LDG_ERR_uncorr
    + 1)) ∧
  (∀ (page : Fin 16384) (s : State), s.led.queue = [] → s.NoInj → s.led.bad.contains page.val = false →
    s.led.cmd = none → s.phase ≠ stRomRecovery → Answers (.pageRead page 1) s fun t => s.Logged E.LDG_PAGE_CORR
    0 0 0 t ∧ t.rd D.LDG_ERR_corr = min (D.LDG_ERR_corr.cap - 1) (s.rd D.LDG_ERR_corr + 1) ∧ t.led.pages =
    s.led.pages ∧ t.led.bad = s.led.bad) ∧
  (∀ (page : Fin 16384) (s : State), s.led.queue = [] → s.NoInj → s.led.cmd = none → 3 < page.val → s.phase ≠
    stRomRecovery → Answers (.ledgerScrub page 2) s fun t => t.led.bad.contains page.val = true ∧ s.Logged
    E.LDG_PAGE_UNCORR 0 0 page t ∧ t.rd D.LDG_ERR_uncorr = min (D.LDG_ERR_uncorr.cap - 1) (s.rd D.LDG_ERR_uncorr
    + 1)) ∧
  (∀ (page : Fin 16384) (s : State), s.led.queue = [] → s.NoInj → s.led.bad.contains page.val = false →
    s.led.cmd = none → s.phase ≠ stRomRecovery → Answers (.ledgerScrub page 1) s fun t => s.Logged
    E.LDG_PAGE_CORR 0 0 0 t ∧ t.rd D.LDG_ERR_corr = min (D.LDG_ERR_corr.cap - 1) (s.rd D.LDG_ERR_corr + 1) ∧
    t.led.pages = s.led.pages ∧ t.led.bad = s.led.bad) ∧
  (∀ (page : Fin 16384) (s : State), s.led.queue = [] → s.NoInj → ldgKeyPage page = true → Answers (.pageRead
    page 2) s fun t => SMap.find t.slots (page.val - 8) = none ∧ ∀ k, k ≠ page.val - 8 → SMap.find t.slots k =
    SMap.find s.slots k) ∧
  (∀ (page : Fin 16384) (b : Page) (s : State), s.led.queue = [⟨page.val, some b, .bytes, false, false,
    false⟩] → Answers (.pageWriteStart page true true) s fun t => SMap.find t.led.pages page = some b ∧
    t.led.queue = [⟨page.val, some b, .bytes, true, false, false⟩] ∧ t.led.bad = s.led.bad ∧ s.Only [.regs,
    .led] t) ∧
  (∀ (page : Fin 16384) (b : Page) (supply reserve : Bool) (s : State), s.led.queue = [⟨page.val, some b,
    .bytes, false, false, false⟩] → supply = false ∨ reserve = false → s.phase ≠ stRomRecovery → Answers
    (.pageWriteStart page supply reserve) s fun t => t.led.pages = s.led.pages ∧ t.led.queue = [⟨page.val, some
    b, .bytes, false, true, false⟩] ∧ s.Logged E.LDG_GUARD_REFUSE 0 0 page t ∧ t.rd D.LDG_ERR_guardref = min
    (D.LDG_ERR_guardref.cap - 1) (s.rd D.LDG_ERR_guardref + 1)) ∧
  (∀ (page : Fin 16384) (b : Page) (o : KeyOp) (s : State), s.led.queue = [⟨page.val, some b, .key o.slot,
    false, false, false⟩] → s.keyOps = [o] → Answers (.pageWriteStart page true true) s fun t => SMap.find
    t.slots o.slot = o.new ∧ ∀ k, k ≠ o.slot → SMap.find t.slots k = SMap.find s.slots k) ∧
  (∀ (page : Fin 16384) (s : State), Answers (.guardRetry page) s fun t => (∀ w, w ∈ t.led.queue → w.page =
    page.val → w.refused = false) ∧ t.led.queue.length = s.led.queue.length ∧ s.Only [.led] t) ∧
  (∀ (page : Fin 16384) (b : Page) (s : State), s.led.queue = [⟨page.val, some b, .bytes, true, false, false⟩]
    → Answers (.pageWriteDone page true) s fun t => t.led.queue = [] ∧ t.led.bad = s.led.bad.filter (fun q =>
    decide (q ≠ page.val)) ∧ t.rd D.LDG_STAT_busy = 0 ∧ s.Only [.regs, .led] t) ∧
  (∀ (page : Fin 16384) (b : Page) (s : State), s.led.queue = [⟨page.val, some b, .bytes, true, false, false⟩]
    → 3 < page.val → s.phase ≠ stRomRecovery → Answers (.pageWriteDone page false) s fun t => t.led.queue = [] ∧
    t.led.bad.contains page.val = true ∧ s.Logged E.LDG_PAGE_UNCORR 0 0 page t) ∧
  (∀ (port : Fin 4) (s : State), s.portQuiet port = true → s.bit D.LDG_STAT_cmdbusy = false → ldgKeyPage (s.rd
    D.LDG_PGADDR_page) = false → ldgReserved (s.rd D.LDG_PGADDR_page) = false → Answers (.ldgRawRead port) s fun
    t => t.led.cmd = some (.read (s.rd D.LDG_PGADDR_page)) ∧ t.bit D.LDG_STAT_cmdbusy = true) ∧
  (∀ (port : Fin 4) (s : State), s.portQuiet port = true → s.bit D.LDG_STAT_cmdbusy = false → ldgKeyPage (s.rd
    D.LDG_PGADDR_page) = true → Answers (.ldgRawRead port) s fun t => t.rd D.LDG_PGCMD_status = 4 ∧ t.bit
    D.LDG_STAT_cmdbusy = false ∧ ∀ w, w < 32 → t.rd D.LDG_PGDATA_data w = 0) ∧
  (∀ (port : Fin 4) (s : State), s.portQuiet port = true → s.bit D.LDG_STAT_cmdbusy = false → s.phase = stOpen
    → ldgKeyPage (s.rd D.LDG_PGADDR_page) = false → s.ldgProtected (s.rd D.LDG_PGADDR_page) = false →
    ldgReserved (s.rd D.LDG_PGADDR_page) = false → Answers (.ldgRawWrite port) s fun t => t.led.queue =
    s.led.queue ++ [⟨(s.rd D.LDG_PGADDR_page), some s.ldgBufferPage, .raw, false, false, false⟩] ∧ t.led.cmd =
    some (.write (s.rd D.LDG_PGADDR_page)) ∧ t.bit D.LDG_STAT_cmdbusy = true) ∧
  (∀ (port : Fin 4) (s : State), s.portQuiet port = true → s.bit D.LDG_STAT_cmdbusy = false → s.phase = stOpen
    → ldgKeyPage (s.rd D.LDG_PGADDR_page) = false → s.ldgProtected (s.rd D.LDG_PGADDR_page) = true → Answers
    (.ldgRawWrite port) s fun t => t.led = s.led ∧ t.rd D.LDG_PGCMD_status = 3 ∧ s.Logged E.LDG_PROTECT_WRITE 0
    0 (s.rd D.LDG_PGADDR_page) t) ∧
  (∀ (port : Fin 4) (pair : Fin 2048) (s : State), s.portQuiet port = true → s.bit D.LDG_STAT_cmdbusy = false
    → pair.val < s.rd D.LDG_TCCFG_count → Answers (.twoCopyRead port pair) s fun t => t.led.cmd = some (.tcRead
    pair .due .due) ∧ t.bit D.LDG_STAT_cmdbusy = true) ∧
  (∀ (port : Fin 4) (pair : Fin 2048) (s : State), s.portQuiet port = true → s.bit D.LDG_STAT_cmdbusy = false
    → s.rd D.LDG_TCCFG_count ≤ pair.val → Answers (.twoCopyRead port pair) s fun t => t.led.cmd = none ∧ t.rd
    D.LDG_TCSTAT_status = 3) ∧
  (∀ (port : Fin 4) (pair : Fin 2048) (s : State), s.portQuiet port = true → s.bit D.LDG_STAT_cmdbusy = false
    → s.phase = stOpen → pair.val < s.rd D.LDG_TCCFG_count → s.ldgProtected (s.rd D.LDG_TCCFG_base + 2 *
    pair.val) = false → Answers (.twoCopyWrite port pair) s fun t => t.led.cmd = some (.tcWrite pair .due .due)
    ∧ t.bit D.LDG_STAT_cmdbusy = true) ∧
  (∀ (s : State), s.isOpen = true → Answers (.progressRecord) s fun t => t.led.progSeq = s.led.progSeq + 1 ∧
    t.led.queue.length = s.led.queue.length + 1 ∧ t.led.progAt = s.now ∧ s.Only [.led] t)

/-- A clear zeroes its counter alone and a clear of all zeroes every one; a snapshot is asked for 2 us ahead
unless one is pending, latches every counter with its overflow bit, and its end fills the older buffer,
makes it the newest and is logged; an addition that carries beyond bit 47 wraps, sets ovf and is logged, at
once or, for an event of another command, by this one; a page write that ends is counted by a counter of the
warden that sums that source. Where the rules leave a choice, the model's own is in log entries 4, 18, 74,
153. Each clause says that the command answers a next state under conditions on the state and operands
alone: tallyClear, tallyClearAll, tallySnap, tallyPeriodic, tallyLatch, tallyGatherDone, tallyOverflow,
pageWriteDone. -/
def Obligations.TallyCounts : Prop :=
  (∀ (port : Fin 4) (n : Fin 304) (cfg : Word) (s : State), s.portQuiet port = true → s.phase ≠ stRomRecovery
    → AnswersCounting (.tallyClear port n cfg) s fun t => SMap.get 0 t.tcnt.count n = 0 ∧ t.tcnt.ovf.getLsbD n =
    false ∧ ∀ k, k < 304 → k ≠ n.val → SMap.get 0 t.tcnt.count k = SMap.get 0 s.tcnt.count k ∧
    t.tcnt.ovf.getLsbD k = s.tcnt.ovf.getLsbD k) ∧
  (∀ (port : Fin 4) (s : State), s.portQuiet port = true → s.phase ≠ stRomRecovery → AnswersCounting
    (.tallyClearAll port) s fun t => ∀ k, k < 304 → SMap.get 0 t.tcnt.count k = 0 ∧ t.tcnt.ovf.getLsbD k =
    false) ∧
  (∀ (port : Fin 4) (s : State), s.portQuiet port = true → s.phase ≠ stRomRecovery → s.bit D.TAL_STAT_pending
    = false → Answers (.tallySnap port) s fun t => t.bit D.TAL_STAT_pending = true ∧ t.tal.snap = some (0, s.now
    + 2000)) ∧
  (∀ (port : Fin 4) (s : State), s.portQuiet port = true → s.phase ≠ stRomRecovery → s.bit D.TAL_STAT_pending
    = true → Answers (.tallySnap port) s fun t => t.tal = s.tal ∧ t.bit D.TAL_STAT_pending = true) ∧
  (∀ (s : State), s.rd D.TAL_SNAPCFG_period ≠ 0 → s.bit D.TAL_STAT_pending = false → Answers (.tallyPeriodic)
    s fun t => t.bit D.TAL_STAT_pending = true ∧ t.tal.snap = some (1, s.now + 2000) ∧ s.Only [.regs, .tal] t) ∧
  (∀ (s : State), s.tal.snap.isSome = true → s.tal.latched = none → Answers (.tallyLatch) s fun t =>
    t.tal.latched = some ((List.range 304).map (fun n => b2n (s.tcnt.ovf.getLsbD n) * 2 ^ 63 + SMap.get 0
    s.tcnt.count n)) ∧ t.tal.snap = s.tal.snap ∧ s.Only [.tal] t) ∧
  (∀ (src t0 : Nat) (vs : List Nat) (s : State), s.tal.snap = some (src, t0) → s.tal.latched = some vs →
    vs.length = 304 → s.tal.next = none → s.phase ≠ stRomRecovery → Answers (.tallyGatherDone) s fun t => t.rd
    D.TAL_SNAPSTAT_buf = 1 - s.rd D.TAL_SNAPSTAT_buf ∧ (∀ n, n < 304 → t.rd D.TAL_SNAPVAL_value (512 * (1 - s.rd
    D.TAL_SNAPSTAT_buf) + n) = vs[n]?.getD 0 % 2 ^ 64) ∧ t.rd D.TAL_SNAPSTAT_gen = (s.rd D.TAL_SNAPSTAT_gen + 1)
    % D.TAL_SNAPSTAT_gen.cap ∧ t.bit D.TAL_STAT_pending = false ∧ t.tal.snap = none ∧ t.tal.latched = none ∧
    s.Logged E.TAL_SNAPSHOT 0 0 0 t ∧ s.Only [.regs, .evq, .tal] t) ∧
  (∀ (n : Fin 304) (v : Nat) (s : State), s.isFlushing = false → s.tcnt.carry = [] → s.rd D.TAL_CFG_mode n = 1
    → 2 ^ 48 ≤ SMap.get 0 s.tcnt.count n + v → s.phase ≠ stRomRecovery → AnswersCounting (.tallyOverflow n v) s
    fun t => SMap.get 0 t.tcnt.count n = (SMap.get 0 s.tcnt.count n + v) % 2 ^ 48 ∧ t.tcnt.ovf.getLsbD n = true
    ∧ s.Logged E.TAL_OVERFLOW n 0 0 t ∧ (∀ k, k ≠ n.val → SMap.get 0 t.tcnt.count k = SMap.get 0 s.tcnt.count k)
    ∧ s.Only [.evq, .tcnt] t) ∧
  (∀ (n : Fin 304) (v : Nat) (s : State), n.val ∈ s.tcnt.carry → s.phase ≠ stRomRecovery → AnswersCounting
    (.tallyOverflow n v) s fun t => t.tcnt.count = s.tcnt.count ∧ t.tcnt.ovf = s.tcnt.ovf ∧ s.Logged
    E.TAL_OVERFLOW n 0 0 t ∧ s.Only [.evq, .tcnt] t) ∧
  (∀ (page : Fin 16384) (ok : Bool) (w : PgWrite) (k : Nat) (s : State), k < 8 → s.isFlushing = false →
    s.led.queue.find? (fun x => decide (x.page = page.val) && x.started) = some w → w.owner = .bytes → s.rd
    D.TAL_CFG_event (288 + k) = 3 → s.rd D.TAL_CFG_mode (288 + k) = 1 → ok = true → AnswersCounting
    (.pageWriteDone page ok) s fun t => SMap.get 0 t.tcnt.count (288 + k) = (SMap.get 0 s.tcnt.count (288 + k) +
    1) % 2 ^ 48)

/-- Posting the record of a context whose cq does not name an enabled COMPL queue logs CUR_CQ_BAD, changes
no queue and leaves the context IDLE: at the end of done, and when a waiting record is tried again. Each
clause says that the command answers a next state under conditions on the state and operands alone: done,
completionQueueRoom, faultDelivery. -/
def Obligations.CompletionQueueNotNamed : Prop :=
  (∀ (c : Fin 256) (s : State), s.cqGood (s.ctx c).cq = false → s.Served c → s.refusing c = false → (s.ctx
    c).links = [] → (s.ctx c).jobs = [] → s.phase ≠ stRomRecovery → Answers (.done c) s fun t => t.queues =
    s.queues ∧ (t.ctx c).st = .idle ∧ ⟨E.CUR_CQ_BAD, 0, 0, 0, s.now, false⟩ ∈ t.evq) ∧
  (∀ (c : Fin 256) (s : State), s.cqGood (s.ctx c).cq = false → (s.ctx c).donePend = true → s.phase ≠
    stRomRecovery → Answers (.completionQueueRoom c) s fun t => t.queues = s.queues ∧ (t.ctx c).st = .idle ∧
    s.Logged E.CUR_CQ_BAD 0 0 0 t) ∧
  (∀ (c : Fin 256) (f : FaultRec) (s : State), s.cqGood (s.ctx c).cq = false → (s.ctx c).st = .stopped →
    (s.ctx c).donePend = false → (s.ctx c).jobs = [] → (s.ctx c).sb = [] → (s.ctx c).fault = some f → f.priv ≠
    .warden → s.phase ≠ stRomRecovery → Answers (.faultDelivery c false) s fun t => t.queues = s.queues ∧ (t.ctx
    c).st = .idle ∧ s.Logged E.CUR_CQ_BAD 0 0 0 t)

/-- VAUX brings the sequencer to GATE with every enable and reset output low; a valid sled record is loaded,
an unread one leaves the defaults; power-up begins from GATE with input power good and every rail low; rails
enable, qualify and bounce; the last qualified rail brings ON and the warden out of reset; an expired window
takes the rails down and counts; a loss in power-down counts as fallen, in ON it puts eu at the reserve or
drops every enable at once; rails fall one by one until GATE; a reset output rises and is logged. Where the
rules leave a choice, the model's own is in log entries 3, 9, 23, 24, 148. Each clause says that the command
answers a next state under conditions on the state and operands alone: vauxValid, vauxLost, sledRecordRead,
powerUpStart, gateOffFail, railEnable, powerGoodChange, railQualified, railPgwinExpire, powerUpRetry,
railPgLoss, railDisable, railFallTimeout, resetOutputRise. -/
def Obligations.PowerSequencerRuns : Prop :=
  (∀ (hp : Fin 4) (rec eb : Bool) (s : State), s.aon.vaux = false → Answers (.vauxValid hp rec eb) s fun t =>
    t.aon.vaux = true ∧ t.aon.hpMode = hp ∧ t.aon.recovery = rec ∧ t.aon.ebClosed = !eb ∧ t.seq = seqGate ∧
    t.boot.step = 1 ∧ (∀ r, r < 12 → t.rd D.PWR_RAILST_en r = 0) ∧ (∀ k, k < 4 → t.rd D.PWR_RST_asserted k = 1)
    ∧ t.evq = [] ∧ t.slots = s.slots) ∧
  (∀ (s : State), s.aon.vaux = true → Answers .vauxLost s fun t => t.aon.vaux = false ∧ t.seq = seqOff ∧ (∀ r,
    r < 12 → t.rd D.PWR_RAILST_en r = 0) ∧ t.evq = [] ∧ t.queues = [] ∧ t.med.img = s.med.img ∧ t.slots =
    s.slots ∧ t.regions = s.regions) ∧
  (∀ (bytes : BitVec 1280) (s : State), s.aon.vaux = true → s.boot.step = 1 → Answers (.sledRecordRead false
    bytes) s fun t => t.rd D.PWR_AONSTAT_fru = 0 ∧ t.boot.step = 2 ∧ s.RegsBut [D.PWR_AONSTAT_fru.key 0] t ∧
    s.Only [.regs, .boot] t) ∧
  (∀ (bytes : BitVec 1280) (s : State), s.aon.vaux = true → s.boot.step = 1 → sledOk bytes.toNat = true →
    Answers (.sledRecordRead true bytes) s fun t => t.rd D.PWR_AONSTAT_fru = 1 ∧ t.boot.step = 2 ∧ t.rd
    D.PWR_SEQCFG_retries = D.PWR_SEQCFG_retries.effective 0 (bitsOf (bytes.toNat / 2 ^ 64 % 2 ^ 32)
    D.PWR_SEQCFG_retries.hi D.PWR_SEQCFG_retries.lo) % D.PWR_SEQCFG_retries.cap ∧ s.Only [.regs, .boot] t) ∧
  (∀ (s : State), s.seq = seqGate → s.boot.step = 2 → s.aon.retryWait = false → s.bit D.PWR_PFSTAT_inok = true
    → rails.all s.railLow = true → Answers .powerUpStart s fun t => t.seq = seqUp ∧ s.RegsBut
    [D.PWR_SEQSTAT_state.key 0] t ∧ s.Only [.regs] t) ∧
  (∀ (rail : Fin 12) (s : State), s.seq = seqGate → s.railLow rail = false → s.aon.gateLogged.getLsbD rail =
    false → s.aon.held.length < 32 → Answers (.gateOffFail rail) s fun t => (t.rd
    D.PWR_SEQFAULT_offfail).testBit rail = true ∧ t.aon.gateLogged.getLsbD rail = true ∧ t.aon.held = s.aon.held
    ++ [⟨E.PWR_RAIL_OFF_FAIL, rail, 2, 0, s.now, false⟩] ∧ s.Only [.regs, .aon] t) ∧
  (∀ (rail : Fin 12) (s : State), s.seq = seqUp → s.rd D.PWR_RAILST_en rail ≠ 1 → (s.prevStep D.PWR_RAIL_ondly
    rail).all (fun q => decide (s.rd D.PWR_RAILST_state q = 2)) = true → Answers (.railEnable rail) s fun t =>
    t.rd D.PWR_RAILST_en rail = 1 ∧ t.rd D.PWR_RAILST_state rail = 1 ∧ (t.rd D.PWR_SEQSTAT_en).testBit rail =
    true ∧ s.Only [.regs, .aon] t) ∧
  (∀ (rail : Fin 12) (s : State), s.aon.vaux = true → s.aon.pg.getLsbD rail = false → s.rd D.PWR_RAILST_state
    rail = 1 → Answers (.powerGoodChange rail true) s fun t => t.aon.pg.getLsbD rail = true ∧ t.regs = s.regs ∧
    s.Only [.aon] t) ∧
  (∀ (rail : Fin 12) (s : State), s.aon.vaux = true → s.aon.pg.getLsbD rail = true → s.rd D.PWR_RAILST_state
    rail = 1 → SMap.get 0 s.aon.bounce rail + 1 < s.rd D.PWR_SEQCFG_chatmax → Answers (.powerGoodChange rail
    false) s fun t => t.aon.pg.getLsbD rail = false ∧ t.rd D.PWR_RAILST_chatter rail = min
    (D.PWR_RAILST_chatter.cap - 1) (s.rd D.PWR_RAILST_chatter rail + 1) ∧ SMap.get 0 t.aon.bounce rail =
    SMap.get 0 s.aon.bounce rail + 1 ∧ s.Only [.regs, .aon] t) ∧
  (∀ (rail : Fin 12) (s : State), s.seq = seqUp → s.boot.step = 2 → s.rd D.PWR_RAILST_state rail = 1 →
    s.aon.pg.getLsbD rail = true → (∀ q ∈ rails, q ≠ rail.val → s.rd D.PWR_RAILST_state q = 2) → Answers
    (.railQualified rail) s fun t => t.seq = seqOn ∧ t.rd D.PWR_SEQSTAT_attempts = 0 ∧ t.boot.step = 3 ∧ t.rd
    D.PWR_RAILST_state rail = 2 ∧ (t.rd D.PWR_SEQSTAT_good).testBit rail = true ∧ s.Only [.regs, .aon, .boot] t) ∧
  (∀ (rail : Fin 12) (s : State), s.seq = seqUp → s.rd D.PWR_RAILST_state rail = 1 → s.rd D.PWR_SEQSTAT_en ≠ 0
    → Answers (.railPgwinExpire rail) s fun t => t.seq = seqDown ∧ t.aon.retryWait = true ∧ (t.rd
    D.PWR_SEQFAULT_railfail).testBit rail = true ∧ t.rd D.PWR_SEQSTAT_attempts = min (D.PWR_SEQSTAT_attempts.cap
    - 1) (s.rd D.PWR_SEQSTAT_attempts + 1) ∧ ∀ k, k < 4 → t.rd D.PWR_RST_asserted k = 1) ∧
  (∀ (s : State), s.seq = seqGate → Answers .powerUpRetry s fun t => t.aon.retryWait = false ∧ s.Only [.aon]
    t) ∧
  (∀ (rail : Fin 12) (s : State), s.seq = seqDown → s.rd D.PWR_RAILST_state rail = 2 → s.aon.pg.getLsbD rail =
    false → Answers (.railPgLoss rail) s fun t => t.aon.fallen.getLsbD rail = true ∧ (t.rd
    D.PWR_SEQFAULT_railfail).testBit rail = true ∧ t.rd D.PWR_RAILST_state rail = 1 ∧ t.seq = seqDown) ∧
  (∀ (rail : Fin 12) (s : State), s.seq = seqOn → s.rd D.PWR_RAILST_state rail = 2 → s.aon.pg.getLsbD rail =
    false → 4 ≤ rail.val → rail.val ≤ 9 → Answers (.railPgLoss rail) s fun t => t.aon.euFloor = true) ∧
  (∀ (rail : Fin 12) (s : State), s.seq = seqOn → s.rd D.PWR_RAILST_state rail = 2 → s.aon.pg.getLsbD rail =
    false → rail.val < 2 ∨ 9 < rail.val → Answers (.railPgLoss rail) s fun t => t.seq = seqGate ∧ t.phase =
    stStarting ∧ t.boot.step = 2 ∧ t.gov.flush = none ∧ t.evq = [] ∧ ∀ r, r < 12 → t.rd D.PWR_RAILST_en r = 0) ∧
  (∀ (rail : Fin 12) (s : State), s.seq = seqDown → s.rd D.PWR_RAILST_en rail = 1 → (s.prevStep
    D.PWR_RAIL_offdly rail).all s.railLow = true → (s.rd D.PWR_SEQSTAT_en).testBit rail = true → s.rd
    D.PWR_SEQSTAT_en < 4096 → s.rd D.PWR_SEQSTAT_en ≠ 2 ^ rail.val → Answers (.railDisable rail) s fun t => t.rd
    D.PWR_RAILST_en rail = 0 ∧ t.rd D.PWR_RAILST_state rail = 0 ∧ t.rd D.PWR_SEQSTAT_en = s.rd D.PWR_SEQSTAT_en
    - 2 ^ rail.val ∧ t.seq = seqDown ∧ s.Only [.regs] t) ∧
  (∀ (rail : Fin 12) (s : State), s.seq = seqDown → s.rd D.PWR_RAILST_en rail = 1 → (s.prevStep
    D.PWR_RAIL_offdly rail).all s.railLow = true → s.rd D.PWR_SEQSTAT_en = 2 ^ rail.val → s.aon.retryWait =
    false → Answers (.railDisable rail) s fun t => t.seq = seqGate ∧ t.phase = stStarting ∧ t.boot.step = 2 ∧
    t.rd D.PWR_RAILST_en rail = 0) ∧
  (∀ (rail : Fin 12) (s : State), s.seq = seqDown → s.rd D.PWR_RAILST_en rail ≠ 0 → (s.prevStep
    D.PWR_RAIL_offdly rail).all s.railLow = false → (s.rd D.PWR_SEQSTAT_en).testBit rail = true → s.rd
    D.PWR_SEQSTAT_en < 4096 → s.rd D.PWR_SEQSTAT_en ≠ 2 ^ rail.val → Answers (.railFallTimeout rail) s fun t =>
    t.rd D.PWR_RAILST_en rail = 0 ∧ ∀ q ∈ s.prevStep D.PWR_RAIL_offdly rail, s.railLow q = false → (t.rd
    D.PWR_SEQFAULT_offfail).testBit q = true) ∧
  (∀ (k : Fin 4) (s : State), s.rd D.PWR_RST_asserted k = 1 → s.seq = seqOn → s.phase ≠ stResetting → s.phase
    ≠ stRomRecovery → 3 ≤ s.boot.step → s.gov.flush = none → rails.all (fun r => !(s.rd D.PWR_RST_mask
    k).testBit r || decide (s.rd D.PWR_RAILST_state r = 2)) = true → Answers (.resetOutputRise k) s fun t =>
    t.rd D.PWR_RST_asserted k = 0 ∧ s.Logged E.PWR_RESET_OUT k 1 0 t ∧ s.Only [.regs, .evq] t)

/-- A conversion shows as code times scale over 4095; a VIN in range clears the counts, and deb conversions
below vinth assert PFAIL, which begins a flush of an OPEN device and makes a reset flush watch its energy;
the presence pin opens, closes, arms and begins a surprise flush; a sensor below 112 °C only updates its
reading, one at 112 °C locks the device out; the throttle falls by one and the lockout ends. Where the rules
leave a choice, the model's own is in log entries 147, 148. Each clause says that the command answers a next
state under conditions on the state and operands alone: adcConversion, inokQualified, ebNOpen, ebNClose,
ebArm, ebTrigger, sensorConversion, throttleFall, lockoutEnd. -/
def Obligations.SupervisorWatches : Prop :=
  (∀ (code : Fin 4096) (s : State), s.aon.vaux = true → s.rd D.PWR_PFCFG_vinth ≤ code * s.rd
    D.PWR_SENSCFG_vinscale / 4095 → code * s.rd D.PWR_SENSCFG_vinscale / 4095 ≤ s.rd D.PWR_PFCFG_vinhi → s.rd
    D.PWR_PFCFG_vinok ≤ code * s.rd D.PWR_SENSCFG_vinscale / 4095 → 0 < s.rd D.PWR_PFCFG_deb → Answers
    (.adcConversion 0 code) s fun t => t.rd D.PWR_SENS_vin = code * s.rd D.PWR_SENSCFG_vinscale / 4095 %
    D.PWR_SENS_vin.cap ∧ t.aon.vinLow = 0 ∧ t.aon.vinHigh = 0 ∧ t.aon.vinGood = true ∧ s.RegsBut
    [D.PWR_SENS_vin.key 0] t ∧ s.Only [.regs, .aon] t) ∧
  (∀ (f : Flush) (code : Fin 4096) (s : State), s.aon.vaux = true → code * s.rd D.PWR_SENSCFG_vinscale / 4095
    < s.rd D.PWR_PFCFG_vinth → s.rd D.PWR_PFCFG_deb ≤ s.aon.vinLow + 1 → s.bit D.PWR_PFSTAT_pfail = false →
    s.seq = seqOn → s.phase = stFlushing → s.gov.flush = some f → f.cause = 2 → Answers (.adcConversion 0 code)
    s fun t => t.bit D.PWR_PFSTAT_pfail = true ∧ t.rd D.PWR_PFSTAT_cause = 1 ∧ t.bit D.GBL_STAT_pfail = true ∧
    t.phase = stFlushing ∧ t.gov.flush = some { f with watch := true }) ∧
  (∀ (code : Fin 4096) (s : State), s.aon.vaux = true → code * s.rd D.PWR_SENSCFG_vinscale / 4095 < s.rd
    D.PWR_PFCFG_vinth → s.rd D.PWR_PFCFG_deb ≤ s.aon.vinLow + 1 → s.bit D.PWR_PFSTAT_pfail = false → s.seq =
    seqOn → s.isOpen = true → Answers (.adcConversion 0 code) s fun t => ∃ f, t.gov.flush = some f ∧ f.step = 2
    ∧ f.cause = 1 ∧ f.watch = true ∧ f.t0 = s.now) ∧
  (∀ (code : Fin 4096) (s : State), s.aon.vaux = true → Answers (.adcConversion 1 code) s fun t => t.rd
    D.PWR_SENS_bank = code * s.rd D.PWR_SENSCFG_hubscale / 4095 % D.PWR_SENS_bank.cap ∧ t.aon.bankNum =
    s.aon.bankNum + 1 ∧ s.RegsBut [D.PWR_SENS_bank.key 0] t ∧ s.Only [.regs, .aon] t) ∧
  (∀ (input : Fin 14) (code : Fin 4096) (s : State), s.aon.vaux = true → 2 ≤ input.val → s.NoInj → Answers
    (.adcConversion input code) s fun t => t.rd D.PWR_RAILST_mv (input - 2) = code % D.PWR_RAILST_mv.cap ∧
    s.RegsBut [D.PWR_RAILST_mv.key (input - 2)] t ∧ s.Only [.regs] t) ∧
  (∀ (s : State), s.aon.vaux = true → s.aon.vinGood = true → s.bit D.PWR_PFSTAT_lockout = false → s.seq ≠
    seqFault → Answers .inokQualified s fun t => t.bit D.PWR_PFSTAT_inok = true ∧ s.RegsBut
    [D.PWR_PFSTAT_inok.key 0] t ∧ s.Only [.regs] t) ∧
  (∀ (s : State), s.aon.vaux = true → s.aon.ebClosed = true → Answers .ebNOpen s fun t => t.bit
    D.PWR_PFSTAT_eb = true ∧ t.aon.ebClosed = false ∧ t.aon.ebOpened = s.aon.ebArmed ∧ t.bit D.PWR_PFSTAT_pfail
    = s.bit D.PWR_PFSTAT_pfail ∧ s.Only [.regs, .aon] t) ∧
  (∀ (s : State), s.aon.vaux = true → Answers .ebNClose s fun t => t.bit D.PWR_PFSTAT_eb = false ∧
    t.aon.ebClosed = true ∧ t.aon.ebOpened = false ∧ s.Only [.regs, .aon] t) ∧
  (∀ (s : State), s.aon.vaux = true → s.aon.ebClosed = true → Answers .ebArm s fun t => t.aon.ebArmed = true ∧
    s.Only [.aon] t) ∧
  (∀ (s : State), s.aon.vaux = true → s.aon.ebOpened = true → s.aon.ebClosed = false → s.isOpen = true →
    Answers .ebTrigger s fun t => ∃ f, t.gov.flush = some f ∧ f.step = 2 ∧ f.cause = 3 ∧ f.watch = true) ∧
  (∀ (k : Fin 16) (temp : BitVec 8) (s : State), s.aon.vaux = true → s.NoInj → temp.toInt < 112 → (∀ q, q < 16
    → s.sensReading q < 112) → Answers (.sensorConversion k temp) s fun t => t.rd D.THM_SENS_reading k =
    temp.toNat ∧ t.aon.converted.getLsbD k = true ∧ t.bit D.PWR_PFSTAT_lockout = s.bit D.PWR_PFSTAT_lockout ∧
    t.bit D.PWR_PFSTAT_pfail = s.bit D.PWR_PFSTAT_pfail ∧ t.phase = s.phase ∧ ∀ q, q < 16 → q ≠ k.val → t.rd
    D.THM_SENS_reading q = s.rd D.THM_SENS_reading q) ∧
  (∀ (k : Fin 16) (temp : BitVec 8) (s : State), s.aon.vaux = true → s.NoInj → 112 ≤ temp.toInt → s.bit
    D.PWR_PFSTAT_pfail = true → (s.rd D.THM_SUSPECT_suspect).testBit k = false → SMap.get 0 s.aon.out k < 2 →
    Answers (.sensorConversion k temp) s fun t => t.bit D.PWR_PFSTAT_lockout = true ∧ t.phase = s.phase ∧ t.gov
    = s.gov ∧ (s.bit D.PWR_PFSTAT_lockout = false → t.bit D.THM_STAT_lockout = true ∧ t.bit D.PWR_PFSTAT_inok =
    false)) ∧
  (∀ (s : State), s.phase ≠ stFlushing → 1 < s.rd D.THM_STAT_level → s.rd D.THM_STAT_level < 8 →
    s.aon.coolAt.isSome = true → Answers .throttleFall s fun t => t.rd D.THM_STAT_level = s.rd D.THM_STAT_level
    - 1 ∧ t.aon.coolAt = some s.now ∧ s.Only [.regs, .aon] t) ∧
  (∀ (s : State), s.phase ≠ stFlushing → s.rd D.THM_STAT_level = 1 → s.aon.coolAt.isSome = true →
    s.registrarDown = false → s.phase ≠ stRomRecovery → Answers .throttleFall s fun t => t.rd D.THM_STAT_level =
    0 ∧ s.Logged E.THM_THROTTLE_END 0 0 0 t) ∧
  (∀ (s : State), s.bit D.PWR_PFSTAT_lockout = true → sgn8 (s.rd D.THM_STAT_hot) ≤ sgn8 (s.rd
    D.THM_CTL_tlimit) - 20 → Answers .lockoutEnd s fun t => t.bit D.PWR_PFSTAT_lockout = false ∧ t.bit
    D.THM_STAT_lockout = false ∧ s.Only [.regs] t)

/-- A recomputation shows the energy and the budget of the formulas, none without a measurement, and below
25 J the mode is LOWENERGY; a measurement steps through its samples with the charger off and the load on; a
plausible result is stored and used, an implausible one tried again and at the third derated by 20 % and
logged; a breach acknowledged empties the list and is logged. Where the rules leave a choice, the model's
own is in log entries 3, 41, 158. Each clause says that the command answers a next state under conditions on
the state and operands alone: governorRecompute, lowenergyExit, measureRequest, measureInterval, bankStable,
measureStartTimeout, measureRepeat, measureSampleV0, measureLoadOn, measureSampleV1, measureSampleV2,
measureEnd, measureRetry, breachAck. -/
def Obligations.GovernorMeasures : Prop :=
  (∀ (s : State), s.gov.stored = none → s.rd D.PWR_PGSTAT_mode ≠ 5 → Answers .governorRecompute s fun t =>
    t.rd D.PWR_PGEU_eu = 0 ∧ t.rd D.PWR_PGBUD_bytes = 0 ∧ t.rd D.PWR_PGSTAT_mode = 4 ∧ s.Only [.regs, .aon,
    .gov] t) ∧
  (∀ (s : State), s.gov.stored.isSome = true → s.aon.euFloor = false → Answers .governorRecompute s fun t =>
    t.rd D.PWR_PGEU_eu = (s.euOf (s.rd D.PWR_PGCAP_c) (s.rd D.PWR_PGCAP_esr) s.bankMean) % D.PWR_PGEU_eu.cap ∧
    t.rd D.PWR_PGBUD_bytes = s.budgetOf (s.euOf (s.rd D.PWR_PGCAP_c) (s.rd D.PWR_PGCAP_esr) s.bankMean) %
    D.PWR_PGBUD_bytes.cap ∧ t.aon.bankNum = 0 ∧ (s.rd D.PWR_PGSTAT_mode ≠ 5 → (s.euOf (s.rd D.PWR_PGCAP_c) (s.rd
    D.PWR_PGCAP_esr) s.bankMean) < 25000 → t.rd D.PWR_PGSTAT_mode = 4)) ∧
  (∀ (s : State), s.rd D.PWR_PGSTAT_mode = 4 → s.gov.stored.isSome = true → s.gov.goodSince.isSome = true →
    s.phase ≠ stRomRecovery → Answers .lowenergyExit s fun t => t.rd D.PWR_PGSTAT_mode = (s.wr D.PWR_PGSTAT_mode
    0).modeOf ∧ s.RegsBut [D.PWR_PGSTAT_mode.key 0] t ∧ s.Only [.regs, .evq, .med] t) ∧
  (∀ (port : Fin 4) (h : BitVec 8) (s : State), s.gov.meas = none → s.gov.tries = 0 → s.governs = true →
    s.portQuiet port = true → Answers (.measureRequest port h) s fun t => t.gov.meas = some ⟨1, 0, 0, 0, 0, 0⟩ ∧
    t.aon.hubChg = false ∧ t.rd D.PWR_PGSTAT_meas = (if s.hasMeasure then 1 else 5) ∧ s.Only [.regs, .gov, .aon]
    t) ∧
  (∀ (port : Fin 4) (h : BitVec 8) (s : State), s.gov.meas.isSome = true → s.portQuiet port = true → Answers
    (.measureRequest port h) s fun t => t.gov = s.gov ∧ t.aon = s.aon) ∧
  (∀ (s : State), s.gov.meas = none → s.gov.tries = 0 → s.governs = true → Answers .measureInterval s fun t =>
    t.gov.meas = some ⟨1, 0, 0, 0, 0, 0⟩ ∧ t.aon.hubChg = false ∧ t.rd D.PWR_PGSTAT_meas = (if s.hasMeasure then
    1 else 5) ∧ s.Only [.regs, .gov, .aon] t) ∧
  (∀ (s : State), s.gov.meas = none → s.gov.tries = 0 → s.gov.measured = false → s.governs = true → Answers
    .bankStable s fun t => t.gov.meas = some ⟨1, 0, 0, 0, 0, 0⟩ ∧ t.aon.hubChg = false ∧ t.rd D.PWR_PGSTAT_meas
    = (if s.hasMeasure then 1 else 5) ∧ s.Only [.regs, .gov, .aon] t) ∧
  (∀ (s : State), s.gov.meas = none → s.gov.tries = 0 → s.gov.measured = false → s.governs = true → Answers
    .measureStartTimeout s fun t => t.gov.meas = some ⟨1, 0, 0, 0, 0, 0⟩ ∧ t.aon.hubChg = false ∧ t.rd
    D.PWR_PGSTAT_meas = (if s.hasMeasure then 1 else 5) ∧ s.Only [.regs, .gov, .aon] t) ∧
  (∀ (s : State), s.gov.meas = none → s.gov.tries = 0 → s.gov.measured = true → s.gov.stored = none →
    s.governs = true → Answers .measureRepeat s fun t => t.gov.meas = some ⟨1, 0, 0, 0, 0, 0⟩ ∧ t.aon.hubChg =
    false ∧ t.rd D.PWR_PGSTAT_meas = (if s.hasMeasure then 1 else 5) ∧ s.Only [.regs, .gov, .aon] t) ∧
  (∀ (m : Meas) (s : State), s.gov.meas = some m → m.step = 1 → Answers .measureSampleV0 s fun t => t.gov.meas
    = some { m with step := 2, v0 := s.bankSample } ∧ s.Only [.gov] t) ∧
  (∀ (m : Meas) (s : State), s.gov.meas = some m → m.step = 2 → Answers .measureLoadOn s fun t => t.gov.meas =
    some { m with step := 3 } ∧ t.aon.hubLoad = true ∧ s.Only [.gov, .aon] t) ∧
  (∀ (m : Meas) (s : State), s.gov.meas = some m → m.step = 3 → Answers .measureSampleV1 s fun t => t.gov.meas
    = some
    { m with step := 4, v1 := s.bankSample, esr := (m.v0 - s.bankSample) * 1000 / s.rd D.PWR_PGSLED_iload } ∧
    s.Only [.gov] t) ∧
  (∀ (m : Meas) (s : State), s.gov.meas = some m → m.step = 4 → s.bankSample < m.v1 → Answers .measureSampleV2
    s fun t => t.gov.meas = some
    { m with step := 5, v2 := s.bankSample, c := s.rd D.PWR_PGSLED_iload * 100000 / (m.v1 - s.bankSample) } ∧
    s.Only [.gov] t) ∧
  (∀ (m : Meas) (s : State), s.gov.meas = some m → m.step = 5 → s.plausible m = true → s.phase ≠ stFlushing →
    s.phase ≠ stResetting → s.phase ≠ stRomRecovery → m.esr ≤ s.rd D.PWR_PGSLED_esrmax → m.c < D.PWR_PGCAP_c.cap
    → m.esr < D.PWR_PGCAP_esr.cap → Answers .measureEnd s fun t => t.gov.meas = none ∧ t.gov.stored = some (m.c,
    m.esr) ∧ t.gov.measured = true ∧ t.gov.tries = 0 ∧ t.gov.mtime = s.now ∧ t.rd D.PWR_PGCAP_c = m.c ∧ t.rd
    D.PWR_PGCAP_esr = m.esr ∧ t.rd D.PWR_PGSTAT_meas = 2 ∧ t.aon.hubLoad = false ∧ t.aon.hubChg = true ∧ t.evq =
    s.evq ∧ t.led.queue = s.led.queue ++ [⟨0, none, .meas, false, false, false⟩]) ∧
  (∀ (m : Meas) (s : State), s.gov.meas = some m → m.step = 5 → s.plausible m = false → s.gov.tries < 2 →
    s.gov.stored.isSome = true ∨ s.gov.measured = false → Answers .measureEnd s fun t => t.gov.meas = none ∧
    t.gov.tries = s.gov.tries + 1 ∧ t.gov.stored = s.gov.stored ∧ t.rd D.PWR_PGSTAT_meas = (if s.hasMeasure then
    3 else 5) ∧ t.aon.hubLoad = false ∧ t.aon.hubChg = true ∧ s.Only [.regs, .gov, .aon] t) ∧
  (∀ (m : Meas) (c e : Nat) (s : State), s.gov.meas = some m → m.step = 5 → s.plausible m = false → 2 ≤
    s.gov.tries → s.gov.stored = some (c, e) → s.phase ≠ stRomRecovery → Answers .measureEnd s fun t =>
    t.gov.stored = some (c, e) ∧ t.rd D.PWR_PGCAP_c = c * 80 / 100 % D.PWR_PGCAP_c.cap ∧ t.rd D.PWR_PGCAP_esr =
    e % D.PWR_PGCAP_esr.cap ∧ t.rd D.PWR_PGSTAT_meas = 4 ∧ t.gov.tries = 0 ∧ t.gov.measured = true ∧ s.Logged
    E.PWR_PG_MEAS_FAIL 0 0 0 t) ∧
  (∀ (s : State), s.gov.meas = none → 0 < s.gov.tries → s.governs = true → Answers .measureRetry s fun t =>
    t.gov.meas = some ⟨1, 0, 0, 0, 0, 0⟩ ∧ t.aon.hubChg = false ∧ t.rd D.PWR_PGSTAT_meas = (if s.hasMeasure then
    1 else 5) ∧ s.Only [.regs, .gov, .aon] t ∧ t.gov.tries = s.gov.tries) ∧
  (∀ (port : Fin 4) (s : State), s.portQuiet port = true → s.phase ≠ stRomRecovery → Answers (.breachAck port)
    s fun t => t.gov.breach = [] ∧ t.rd D.PWR_PGBRK_count = 0 ∧ t.rd D.PWR_PGBRK_coarse = 0 ∧ t.bit
    D.GBL_STAT_breach = false ∧ t.coh.brkClean = [] ∧ s.Logged E.PWR_PG_BREACH_ACK 0 0 s.gov.breach.length t)

/-- The recovery strap leads to ROM_RECOVERY, an empty ledger store to a first start with the shipped set;
the self-test goes on, disables what a failure names or stops; staging is sized and keyed, or the start
stops; the catalogue is that of the newest checkpoint; the conservator, admission and recovery work end
their steps, with every committed region operation carried out and every recorded position resynchronised;
an unflushed stop lists the whole device; the device opens once measured and joined, and posts the
interrupted calls. Where the rules leave a choice, the model's own is in log entries 1, 39, 40, 54, 59, 61,
62, 64, 66, 67, 68, 72. Each clause says that the command answers a next state under conditions on the state
and operands alone: wardenRomDone, selftestDone, stagingInitDone, catalogueRebuildDone,
conservatorRestoreDone, dieAdmissionDone, recoveryWorkDone, flushRecordExamined, joinEnter, startOpen. -/
def Obligations.StartStepsRun : Prop :=
  (∀ (low okA okB : Bool) (lib : List Bytes) (s : State), s.phase = stStarting → s.boot.step = 3 → s.seq =
    seqOn → s.boot.resample = false → s.aon.recovery = true → s.boot.resetDue = false → Answers (.wardenRomDone
    low okA okB lib) s fun t => t.phase = stRomRecovery ∧ t.evq = []) ∧
  (∀ (low okB : Bool) (s : State), s.phase = stStarting → s.boot.step = 3 → s.seq = seqOn → s.boot.resample =
    false → s.aon.recovery = false → s.boot.resetDue = false → s.boot.saved = [] → s.led.pages = [] → s.led.bad
    = [] → s.fw.shipped = 3 → s.rd D.FWU_STAT_trial = 0 → s.rd D.FWU_STAT_active = 0 → Answers (.wardenRomDone
    low true okB []) s fun t => t.phase = stStarting ∧ t.boot.step = 4 ∧ t.boot.first = true ∧ t.boot.unflushed
    = false ∧ t.rd D.FWU_PARTS_fromb = 0 ∧ t.slots = s.slots ∧ t.regions = s.regions ∧ t.fab.record = false) ∧
  (∀ (s : State), s.phase = stStarting → s.boot.step = 4 → s.boot.engineOff = 0 → Answers (.selftestDone []) s
    fun t => t.phase = stStarting ∧ t.boot = { s.boot with step := 5 } ∧ t.rd D.CIP_STAT_engines = 15 ∧ s.Only
    [.regs, .boot] t) ∧
  (∀ (inst : Fin 256) (sub : BitVec 16) (rep : Bool) (s : State), s.phase = stStarting → s.boot.step = 4 →
    Answers (.selftestDone [(2, inst, sub, rep)]) s fun t => t.phase = stRomRecovery ∧ t.evq = []) ∧
  (∀ (w : Fin 8) (sub : BitVec 16) (s : State), s.phase = stStarting → s.boot.step = 4 → s.rd D.INJ_BIST_fail
    = 0 → Answers (.selftestDone [(3, ⟨w.val, by omega⟩, sub, false)]) s fun t => t.phase = stStarting ∧
    t.boot.step = 5 ∧ t.boot.wingOff = s.boot.wingOff ||| BitVec.ofNat 8 (2 ^ w.val) ∧ t.rd D.INJ_BIST_fail = 8
    ∧ t.rd D.INJ_BISTINST_class = 3 ∧ t.rd D.INJ_BISTINST_inst = w % D.INJ_BISTINST_inst.cap ∧ s.Logged
    E.INJ_BIST_FAIL w 3 sub.toNat t) ∧
  (∀ (fails : List (Fin 11 × Fin 256 × BitVec 16 × Bool)) (s : State), s.phase = stStarting → s.boot.step = 4
    → fails.any (fun f => bistStops f.1 f.2.1 f.2.2.2) = false → Answers (.selftestDone fails) s fun t =>
    t.phase = stStarting ∧ t.boot.step = 5) ∧
  (∀ (fails : List (Fin 11 × Fin 256 × BitVec 16 × Bool)) (s : State), s.phase = stStarting → s.boot.step = 4
    → fails.any (fun f => bistStops f.1 f.2.1 f.2.2.2) = true → Answers (.selftestDone fails) s fun t => t.phase
    = stRomRecovery ∧ t.evq = []) ∧
  (∀ (a b : Fin 3) (absent : BitVec 256) (s : State), s.phase = stStarting → s.boot.step = 5 → 2 ^ 32 ≤
    dirtyWindow (16 * 2 ^ a.val + 16 * 2 ^ b.val) → s.boot.ddrOff = 0 → s.boot.kat = false → Answers
    (.stagingInitDone (some a) (some b) true absent) s fun t => t.phase = stStarting ∧ t.boot.step = 7 ∧
    t.boot.window = dirtyWindow (16 * 2 ^ a.val + 16 * 2 ^ b.val) ∧ t.rd D.STG_GEOM_lines = protectedLines (16 *
    2 ^ a.val + 16 * 2 ^ b.val) % D.STG_GEOM_lines.cap ∧ t.rd D.STG_WCOUNT_w = 1 ∧ t.rd D.STG_STAT_state = 1 ∧
    t.rd D.CIP_STAT_trng = 0 ∧ t.stgE.keys.isSome = true ∧ t.stgE.lines = [] ∧ t.evq = s.evq) ∧
  (∀ (a b : Fin 3) (absent : BitVec 256) (s : State), s.phase = stStarting → s.boot.step = 5 → 2 ^ 32 ≤
    dirtyWindow (16 * 2 ^ a.val + 16 * 2 ^ b.val) → s.boot.ddrOff = 0 → Answers (.stagingInitDone (some a) (some
    b) false absent) s fun t => t.phase = stRomRecovery ∧ t.rd D.CIP_STAT_trng = 2 ∧ t.stgE = s.stgE) ∧
  (∀ (a : Fin 3) (absent : BitVec 256) (s : State), s.phase = stStarting → s.boot.step = 5 → 2 ^ 32 ≤
    dirtyWindow (16 * 2 ^ a.val) → s.boot.ddrOff = 0 → s.boot.kat = false → Answers (.stagingInitDone (some a)
    none true absent) s fun t => t.phase = stStarting ∧ t.boot.step = 7 ∧ t.boot.window = dirtyWindow (16 * 2 ^
    a.val) ∧ t.rd D.STG_WCOUNT_w = 1 ∧ t.rd D.STG_STAT_state = 1 ∧ t.stgE.keys.isSome = true ∧ t.evq = s.evq) ∧
  (∀ (a : Fin 3) (absent : BitVec 256) (s : State), s.phase = stStarting → s.boot.step = 5 → 2 ^ 32 ≤
    dirtyWindow (16 * 2 ^ a.val) → s.boot.ddrOff = 0 → s.boot.kat = false → Answers (.stagingInitDone none (some
    a) true absent) s fun t => t.phase = stStarting ∧ t.boot.step = 7 ∧ t.boot.window = dirtyWindow (16 * 2 ^
    a.val) ∧ t.rd D.STG_WCOUNT_w = 1 ∧ t.rd D.STG_STAT_state = 1 ∧ t.stgE.keys.isSome = true ∧ t.evq = s.evq) ∧
  (∀ (a b : Fin 3) (absent : BitVec 256) (s : State), s.phase = stStarting → s.boot.step = 5 → 2 ^ 32 ≤
    dirtyWindow (16 * 2 ^ a.val + 16 * 2 ^ b.val) → s.boot.ddrOff = 0 → s.boot.kat = true → Answers
    (.stagingInitDone (some a) (some b) true absent) s fun t => t.phase = stRomRecovery ∧ t.rd D.CIP_STAT_trng =
    0) ∧
  (∀ (absent : BitVec 256) (s : State), s.phase = stStarting → s.boot.step = 5 → Answers (.stagingInitDone
    none none true absent) s fun t => t.phase = stRomRecovery ∧ t.rd D.STG_STAT_state = 0 ∧ t.stgE = s.stgE) ∧
  (∀ (readable : Bool) (s : State), s.phase = stStarting → s.boot.step = 7 → s.boot.first = true → Answers
    (.catalogueRebuildDone readable) s fun t => t.boot.step = 8 ∧ t.phase = stStarting ∧ t.med.cat = [] ∧
    t.med.jrnl = [] ∧ t.med.copies = [(0, ⟨1, true, []⟩)] ∧ t.rd D.MED_JRNLSEQ_seq = 0 ∧ t.rd D.MED_CKPT_s = 1) ∧
  (∀ (k : Nat) (c : CkptCopy) (s : State), s.phase = stStarting → s.boot.step = 7 → s.boot.first = false →
    s.newestCopy = some (k, c) → s.med.jrnl = [] → Answers (.catalogueRebuildDone true) s fun t => t.boot.step =
    8 ∧ t.phase = stStarting ∧ t.med.cat = c.cat ∧ t.rd D.MED_CKPT_copy = k % D.MED_CKPT_copy.cap ∧ t.rd
    D.MED_CKPT_s = c.s % D.MED_CKPT_s.cap) ∧
  (∀ (s : State), s.phase = stStarting → s.boot.step = 7 → s.boot.first = false → Answers
    (.catalogueRebuildDone false) s fun t => t.phase = stRomRecovery ∧ t.med = s.med) ∧
  (∀ (s : State), s.phase = stStarting → s.boot.step = 8 → s.boot.first = false → Answers
    (.conservatorRestoreDone false) s fun t => t.phase = stRomRecovery ∧ t.med = s.med) ∧
  (∀ (readable : Bool) (s : State), s.phase = stStarting → s.boot.step = 8 → s.boot.first = true →
    s.boot.saved = [] → s.boot.unflushed = false → s.gov.rec0.valid = false → s.cur.accs = [] → (∀ d, d < 256 →
    (s.die d).present = true) → s.boot.chanOff = 0 → s.med.jpend = [] → s.med.cpend = [] → Answers
    (.conservatorRestoreDone readable) s fun t => t.boot = { s.boot with step := 9 } ∧ t.phase = stStarting ∧
    t.med.cat = s.med.cat ∧ t.med.dies = s.med.dies) ∧
  (∀ (s : State), s.phase = stStarting → s.boot.first = true → 8 ≤ s.boot.step → s.boot.admitted = false →
    Answers (.dieAdmissionDone []) s fun t => t.boot = { s.boot with admitted := true } ∧ t.med.img = [] ∧
    t.med.stripes = [] ∧ t.med.tiles = [] ∧ t.med.base.tnew = tileTime s.now ∧ t.med.cat = s.med.cat) ∧
  (∀ (drift : List (Fin 256 × List (BitVec 16))) (s : State), s.phase = stStarting → s.boot.first = true → 8 ≤
    s.boot.step → s.boot.admitted = false → Answers (.dieAdmissionDone drift) s fun t => t.boot =
    { s.boot with admitted := true } ∧ t.med.img = [] ∧ t.med.stripes = [] ∧ t.med.tiles = [] ∧ t.med.cat =
    s.med.cat) ∧
  (∀ (s : State), s.phase = stStarting → s.boot.step = 9 → s.boot.first = false → s.boot.unflushed = false →
    s.gov.rec0.valid = false → s.med.jpend = [] → s.med.cpend = [] → s.cur.seals = [] → s.rops = [] → Answers
    .recoveryWorkDone s fun t => t.boot = { s.boot with step := 10 } ∧ t.regions = s.regions ∧ t.med.img =
    s.med.img ∧ t.rops = []) ∧
  (∀ (s : State), s.phase = stStarting → s.boot.step = 9 → s.cur.seals ≠ [] → Answers .recoveryWorkDone s fun
    t => t = s) ∧
  (∀ (o : RgnOp) (s : State), s.phase = stStarting → s.boot.step = 9 → s.boot.first = false → s.boot.unflushed
    = false → s.gov.rec0.valid = false → s.med.jpend = [] → s.med.cpend = [] → s.cur.seals = [] → s.rops = [o] →
    o.kind = .delete → o.freed = false → o.unmapped = true → Answers .recoveryWorkDone s fun t => t.boot.step =
    10 ∧ t.rops = [] ∧ t.region o.region = Region.init o.region ∧ ∀ n, n ≠ o.region → t.region n = s.region n) ∧
  (∀ (u : Nat × Nat) (s : State), s.phase = stStarting → s.boot.step = 9 → s.boot.first = false →
    s.boot.unflushed = false → s.gov.rec0.valid = true → s.gov.rec0.updates = [u] → s.med.jpend = [] →
    s.med.cpend = [] → s.cur.seals = [] → s.rops = [] → Answers .recoveryWorkDone s fun t => t.boot.step = 10 ∧
    ∃ e ∈ t.evq, e.code = E.MED_RESYNC ∧ e.aux = u.2 % 65536 ∧ e.arg = u.1 % 2 ^ 64) ∧
  (∀ (s : State), s.phase = stStarting → s.boot.step = 10 → s.boot.saved = [] → s.aon.held = [] → s.rd
    D.PWR_AONSTAT_dropped = 0 → s.rgr.held = [] → s.led.pages = [] → s.boot.unflushed = false → s.gov.rec0.valid
    = false → Answers .flushRecordExamined s fun t => t.boot = { s.boot with step := 11 } ∧ t.rgr.running = true
    ∧ t.rd D.REC_HEAD_seq = s.annalNewest % D.REC_HEAD_seq.cap ∧ t.gov = s.gov ∧ t.bit D.GBL_STAT_breach =
    decide (s.gov.breach ≠ []) ∧ t.evq = s.evq) ∧
  (∀ (s : State), s.phase = stStarting → s.boot.step = 10 → s.boot.saved = [] → s.aon.held = [] → s.rd
    D.PWR_AONSTAT_dropped = 0 → s.rgr.held = [] → s.led.pages = [] → s.boot.unflushed = true → s.gov.breach = []
    → Answers .flushRecordExamined s fun t => t.boot.step = 11 ∧ t.gov.breach = [s.wholeDevice] ∧ t.bit
    D.GBL_STAT_breach = true ∧ t.rd D.PWR_PGBRK_coarse = 1 ∧ t.cur.interrupted = [] ∧ t.rd D.REC_HEAD_seq = (max
    1 s.annalNewest + 32768) % D.REC_HEAD_seq.cap ∧ t.rgr.running = true) ∧
  (∀ (s : State), s.phase = stStarting → s.boot.step = 11 → s.rd D.FAB_STAT_join = 0 → (∀ p, p < 16 →
    s.fpState p ≠ fpDisabled ∧ s.fpState p ≠ fpDown) → Answers .joinEnter s fun t => t.rd D.FAB_STAT_join = 1 ∧
    t.boot = s.boot ∧ t.phase = s.phase) ∧
  (∀ (s : State), s.phase = stStarting → s.boot.step = 11 → s.gov.measured = true → s.boot.eleven = true →
    s.boot.first = false → s.boot.unflushed = false → s.coh.fwd = [] → s.rd D.FWU_STAT_trial = 0 →
    s.cur.interrupted = [] → Answers .startOpen s fun t => t.phase = stOpen ∧ t.boot =
    { s.boot with step := 12 } ∧ t.gov = s.gov ∧ s.RegsBut [D.GBL_STAT_state.key 0] t ∧ s.Only [.regs, .boot,
    .led, .cur] t) ∧
  (∀ (q p tag lost priv : Nat) (s : State), s.phase = stStarting → s.boot.step = 11 → s.gov.measured = true →
    s.boot.eleven = true → s.boot.first = false → s.boot.unflushed = false → s.coh.fwd = [] → s.rd
    D.FWU_STAT_trial = 0 → s.cur.interrupted = [(q, p, tag, lost, priv)] → q < 4096 → s.cqGood q = true →
    s.qFull q = false → Answers .startOpen s fun t => t.phase = stOpen ∧ t.cur.interrupted = [] ∧ (t.queue
    q).vis = (s.queue q).vis ++ (s.queue q).held ++ [⟨recordLine 3 fltPowerInterrupted priv p tag 0 0 lost s.now
    0 0, false⟩]) ∧
  (∀ (s : State), s.phase = stStarting → s.boot.step = 11 → s.gov.measured = false → Answers .startOpen s fun
    t => t = s)

/-- Initiate opens a session on its port and marks the target INVALID; blocks continue in ascending
contiguous order; the end starts the checks; an abort or an idle session ends with ABORTED; the checks, once
every byte is in the ledger store, mark the set and end the background command. Where the rules leave a
choice, the model's own is in log entry 149. Each clause says that the command answers a next state under
conditions on the state and operands alone: transferFwInitiate, transferFwContinue, transferFwEnd,
transferFwAbort, transferIdleTimeout, fwTransferCheckDone. -/
def Obligations.FirmwareTransferRuns : Prop :=
  (∀ (port : Fin 4) (data : List (BitVec 8)) (s : State), s.mboxUp port = true → s.bit D.FWU_XFER_open = false
    → s.rd D.FWU_STAT_state = 0 → s.fwTarget ≠ none → data.length < 512 → Answers (.transferFwInitiate port data
    none) s fun t => t.out = .mbox port 0 [] :: s.out ∧ t.bit D.FWU_XFER_open = true ∧ t.rd D.FWU_XFER_port =
    port.val ∧ t.rd D.FWU_STAT_state = 1 ∧ t.rd D.FWU_XFER_next = data.length ∧ some t.fw.target = s.fwTarget) ∧
  (∀ (port : Fin 4) (data : List (BitVec 8)) (s : State), s.mboxUp port = true → (s.fwInitiate port data).1 =
    0 → data.length < 2 ^ 32 → Answers (.transferFwInitiate port data none) s fun t => t.out = .mbox port 0 []
    :: s.out ∧ t.bit D.FWU_XFER_open = true ∧ t.rd D.FWU_XFER_port = port.val ∧ t.rd D.FWU_STAT_state = 1 ∧ t.rd
    D.FWU_XFER_next = data.length ∧ some t.fw.target = s.fwTarget) ∧
  (∀ (port : Fin 4) (data : List (BitVec 8)) (slot : Fin 256) (s : State), s.mboxUp port = true →
    (s.fwInitiate port data).1 = 0 → s.fwTarget = some (slot.val - 1) → slot.val ≠ 0 → s.bgBusy = false →
    Answers (.transferFwInitiate port data (some slot)) s fun t => t.out = .mbox port 1 [] :: s.out ∧ t.bit
    D.FWU_XFER_open = false ∧ t.rd D.FWU_STAT_state = 2 ∧ (t.port port).bg = some 0x0201) ∧
  (∀ (port : Fin 4) (data : List (BitVec 8)) (full : Option (Fin 256)) (s : State), s.mboxUp port = true →
    s.bit D.FWU_XFER_open = true → Answers (.transferFwInitiate port data full) s fun t => t.out = .mbox port 8
    [] :: s.out ∧ s.Only [.out] t) ∧
  (∀ (port : Fin 4) (off : BitVec 32) (data : List (BitVec 8)) (s : State), s.mboxUp port = true →
    (s.fwContinue port (off.toNat * 128) data).1 = 0 → off.toNat * 128 + data.length < 2 ^ 32 → Answers
    (.transferFwContinue port off data) s fun t => t.out = .mbox port 0 [] :: s.out ∧ t.rd D.FWU_XFER_next =
    off.toNat * 128 + data.length ∧ t.bit D.FWU_XFER_open = true) ∧
  (∀ (port : Fin 4) (off : BitVec 32) (data : List (BitVec 8)) (s : State), s.mboxUp port = true → s.bit
    D.FWU_XFER_open = true → s.rd D.FWU_XFER_port = port.val → s.rd D.FWU_XFER_next = off.toNat * 128 →
    off.toNat * 128 + data.length < 512 → Answers (.transferFwContinue port off data) s fun t => t.out = .mbox
    port 0 [] :: s.out ∧ t.rd D.FWU_XFER_next = off.toNat * 128 + data.length ∧ t.bit D.FWU_XFER_open = true) ∧
  (∀ (port : Fin 4) (off : BitVec 32) (data : List (BitVec 8)) (s : State), s.mboxUp port = true → s.bit
    D.FWU_XFER_open = true → s.rd D.FWU_XFER_port = port.val → s.rd D.FWU_XFER_next ≠ off.toNat * 128 → Answers
    (.transferFwContinue port off data) s fun t => t.out = .mbox port 9 [] :: s.out ∧ s.Only [.out] t) ∧
  (∀ (port : Fin 4) (off : BitVec 32) (data : List (BitVec 8)) (s : State), s.mboxUp port = true → s.bit
    D.FWU_XFER_open = true → s.rd D.FWU_XFER_port = port.val → s.rd D.FWU_XFER_next = off.toNat * 128 → 512 ≤
    off.toNat * 128 → off.toNat * 128 + data.length ≤ packageLen s.fw.header → off.toNat * 128 + data.length < 2
    ^ 32 → Answers (.transferFwContinue port off data) s fun t => t.out = .mbox port 0 [] :: s.out ∧ t.rd
    D.FWU_XFER_next = off.toNat * 128 + data.length ∧ t.bit D.FWU_XFER_open = true) ∧
  (∀ (port : Fin 4) (off : BitVec 32) (data : List (BitVec 8)) (slot : Fin 256) (s : State), s.mboxUp port =
    true → (s.fwContinue port (off.toNat * 128) data).1 = 0 → slot.val = s.fw.target + 1 → s.bgBusy = false →
    Answers (.transferFwEnd port off data slot) s fun t => t.out = .mbox port 1 [] :: s.out ∧ t.bit
    D.FWU_XFER_open = false ∧ t.rd D.FWU_STAT_state = 2 ∧ (t.port port).bg = some 0x0201) ∧
  (∀ (port : Fin 4) (s : State), s.mboxUp port = true → s.bit D.FWU_XFER_open = true → s.rd D.FWU_XFER_port =
    port.val → Answers (.transferFwAbort port) s fun t => t.out = .mbox port 0 [] :: s.out ∧ t.bit
    D.FWU_XFER_open = false ∧ t.rd D.FWU_STAT_state = 0 ∧ t.rd D.FWU_RESULT_status = 0x08 ∧ s.Only [.regs, .out]
    t) ∧
  (∀ (s : State), s.bit D.FWU_XFER_open = true → Answers .transferIdleTimeout s fun t => t.bit D.FWU_XFER_open
    = false ∧ t.rd D.FWU_STAT_state = 0 ∧ t.rd D.FWU_RESULT_status = 0x08 ∧ s.Only [.regs] t) ∧
  (∀ (s : State), s.rd D.FWU_STAT_state = 2 → s.led.queue = [] → s.phase ≠ stRomRecovery → Answers
    .fwTransferCheckDone s fun t => t.rd D.FWU_STAT_state = 0 ∧ t.rd D.FWU_RESULT_status = (if s.rd
    D.FWU_XFER_next ≠ packageLen s.fw.header then 1 else s.setCheck s.fw.header s.fw.target) ∧ ∀ p, p < 4 →
    (t.port p).bg ≠ some 0x0201)

/-- An online activation that passes its checks begins at step 1 and goes on channel by channel, port by
port, to the library, after which its set is active; an offline one is committed as pending with the trial
flag; a failed one returns every part and clears pending and trial; CANCEL clears a pending set; COMMIT_SVN
raises minsvn to the active svn. Where the rules leave a choice, the model's own is in log entries 18, 151,
152. Each clause says that the command answers a next state under conditions on the state and operands
alone: activateFwOnline, activateFwOffline, online, offline, commitSvn, cancel, wfwHandover,
wfwReadyTimeout, mcodeSwitch, serdesRetrain, rtlReplaced, rtlDrainExpire. -/
def Obligations.FirmwareActivationRuns : Prop :=
  (∀ (port : Fin 4) (slot : Fin 256) (libOk : Bool) (s : State), s.mboxUp port = true → slot.val = 1 ∨
    slot.val = 2 → s.phase ≠ stRomRecovery → s.bgBusy = false → s.fwRefuse (slot.val - 1) true libOk = 0 →
    Answers (.activateFwOnline port slot libOk) s fun t => t.out = .mbox port 1 [] :: s.out ∧ t.fw.act = some
    ⟨slot.val - 1, 1, 0⟩ ∧ t.rd D.FWU_STAT_state = 3 ∧ t.rd D.FWU_STAT_pending = slot.val ∧ (t.port port).bg =
    some 0x0202) ∧
  (∀ (port : Fin 4) (slot : Fin 256) (s : State), s.mboxUp port = true → slot.val = 1 ∨ slot.val = 2 →
    s.fwRefuse (slot.val - 1) false true = 0 → Answers (.activateFwOffline port slot) s fun t => t.out = .mbox
    port 0 [] :: s.out ∧ t.rd D.FWU_STAT_pending = slot.val ∧ t.rd D.FWU_STAT_trial = 1 ∧ t.rd
    D.FWU_RESULT_status = 0) ∧
  (∀ (port : Fin 4) (setB libOk : Bool) (s : State), s.portQuiet port = true → s.phase = stOpen → s.fwRefuse
    (b2n setB) true libOk = 0 → Answers (.online port setB libOk) s fun t => t.fw.act = some ⟨b2n setB, 1, 0⟩ ∧
    t.rd D.FWU_STAT_state = 3 ∧ t.rd D.FWU_STAT_pending = b2n setB + 1) ∧
  (∀ (port : Fin 4) (setB : Bool) (s : State), s.portQuiet port = true → s.fwRefuse (b2n setB) false true = 0
    → Answers (.offline port setB) s fun t => t.rd D.FWU_STAT_pending = b2n setB + 1 ∧ t.rd D.FWU_STAT_trial = 1
    ∧ t.rd D.FWU_RESULT_status = 0) ∧
  (∀ (port : Fin 4) (setB : Bool) (s : State), s.portQuiet port = true → s.fwPending = none → Answers
    (.commitSvn port setB) s fun t => t.rd D.FWU_ARB_minsvn = max (s.rd D.FWU_ARB_minsvn) (hdrSvn (s.fwHdr
    s.fwActive)) ∧ t.rd D.FWU_RESULT_status = 0) ∧
  (∀ (port : Fin 4) (setB : Bool) (s : State), s.portQuiet port = true → s.fwPending.isSome = true → s.rd
    D.FWU_STAT_state = 0 → s.fw.trials = 0 → Answers (.cancel port setB) s fun t => t.rd D.FWU_STAT_pending = 0
    ∧ t.rd D.FWU_STAT_trial = 0) ∧
  (∀ (a : FwAct) (k : Nat) (s : State), s.fw.act = some a → a.step = 1 → s.nextChan 0 = some k → Answers
    .wfwHandover s fun t => t.fw.wfw = hdrVersion (s.fwHdr a.set) ∧ t.fw.act = some
    { a with step := 2, done := k }) ∧
  (∀ (a : FwAct) (s : State), s.fw.act = some a → a.step = 1 → s.phase ≠ stRomRecovery → Answers
    .wfwReadyTimeout s fun t => t.fw.act = none ∧ t.rd D.FWU_STAT_pending = 0 ∧ t.rd D.FWU_STAT_trial = 0 ∧ t.rd
    D.FWU_STAT_state = 0 ∧ t.rd D.FWU_RESULT_status = 5) ∧
  (∀ (a : FwAct) (ch : Fin 32) (s : State), s.fw.act = some a → a.step = 2 → a.done = ch.val → (s.chan
    ch).paused = true → Answers (.mcodeSwitch ch true) s fun t => (t.chan ch).paused = false ∧ ∃ b, t.fw.act =
    some b ∧ (b.step = 2 ∧ ch.val < b.done ∨ b.step = 3)) ∧
  (∀ (a : FwAct) (ch : Fin 32) (s : State), s.fw.act = some a → a.step = 2 → a.done = ch.val → (s.chan
    ch).paused = true → Answers (.mcodeSwitch ch false) s fun t => t.fw.act = none ∧ t.rd D.FWU_STAT_pending = 0
    ∧ t.rd D.FWU_STAT_trial = 0 ∧ t.rd D.FWU_STAT_state = 0 ∧ t.rd D.FWU_RESULT_status = 5) ∧
  (∀ (a : FwAct) (port : Fin 16) (s : State), s.fw.act = some a → a.step = 3 → a.done = port.val → (∀ p ∈
    List.range 16, s.fpState p ≠ fpRetrain) → Answers (.serdesRetrain port false) s fun t => t.fw.act = none ∧
    t.rd D.FWU_STAT_pending = 0 ∧ t.rd D.FWU_STAT_trial = 0 ∧ t.rd D.FWU_STAT_state = 0 ∧ t.rd
    D.FWU_RESULT_status = 5) ∧
  (∀ (a : FwAct) (lib : List Bytes) (s : State), s.fw.act = some a → a.step = 4 → (SMap.keys s.cur.ctxs).all
    (fun c => decide ((s.ctx c).st = .idle)) = true → Answers (.rtlReplaced lib false) s fun t => t.fw.act =
    none ∧ t.rd D.FWU_STAT_pending = 0 ∧ t.rd D.FWU_STAT_trial = 0 ∧ t.rd D.FWU_STAT_state = 0 ∧ t.rd
    D.FWU_RESULT_status = 5) ∧
  (∀ (a : FwAct) (port : Fin 16) (s : State), s.fw.act = some a → a.step = 3 → a.done = port.val → (∀ p ∈
    List.range 16, s.fpState p ≠ fpRetrain) → Answers (.serdesRetrain port true) s fun t => t.fw.act = some
    { a with step := if port.val = 15 then 4 else 3, done := if port.val = 15 then 0 else port.val + 1 }) ∧
  (∀ (c : Nat) (s : State), s.rtlWait = true → c ∈ SMap.keys s.cur.ctxs → (s.ctx c).st = .running → (s.ctx
    c).donePend = false → (s.ctx c).priv ≠ .warden → Answers .rtlDrainExpire s fun t => (t.ctx c).pendAbort =
    true ∨ (t.ctx c).st = .stopped) ∧
  (∀ (a : FwAct) (lib : List (List (BitVec 8))) (s : State), s.fw.act = some a → a.step = 4 → a.set < 2 → (∀ c
    ∈ SMap.keys s.cur.ctxs, (s.ctx c).st = .idle) → s.phase ≠ stRomRecovery → Answers (.rtlReplaced lib true) s
    fun t => t.fw.act = none ∧ t.rd D.FWU_STAT_active = a.set ∧ t.rd D.FWU_STAT_pending = 0 ∧ t.rd
    D.FWU_STAT_state = 0 ∧ t.rd D.FWU_RESULT_status = 0)

/-- From any state whose key slot table and region table are canonical (entries in strictly ascending order,
and no region listed that stands at its reset value), a step that runs gives a state whose tables are
canonical, whatever command is in front of the queue or none. -/
def Obligations.TablesStayCanonical : Prop :=
  ∀ (s t : Sys2Proof.Machine.State), s.TablesOk → step s = .next t → t.TablesOk

/-- The key slot table and the region table of the state at reset are canonical. -/
def Obligations.TablesCanonicalAtReset : Prop :=
  State.reset.TablesOk

/-- No command changes any key slot but the reads and writes of the ledger store's pages, its scrub, and the
start step that takes the slots whose pages cannot be read: no instruction, register access, job, mailbox
command or fabric message reaches a key. Where the rules leave a choice, the model's own is in log entries
4, 62, 74. -/
def Obligations.KeySlotsChangeOnlyAtPages : Prop :=
  ∀ (c : Instr) (s t : Sys2Proof.Machine.State), exec c s = .next t → ((∀ p o, c ≠ .pageRead p o)) → ((∀ p a
    b, c ≠ .pageWriteStart p a b)) → ((∀ p o, c ≠ .pageWriteDone p o)) → ((∀ p o, c ≠ .ledgerScrub p o)) → ((∀ a
    b d e, c ≠ .stagingInitDone a b d e)) → t.slots = s.slots

/-- No command changes the region table but a page write that starts, the warden ROM reading the ledger
store, and the recovery work of a start. Where the rules leave a choice, the model's own is in log entries
1, 59, 61, 66. -/
def Obligations.RegionTableChangesOnlyAtCommits : Prop :=
  ∀ (c : Instr) (s t : Sys2Proof.Machine.State), exec c s = .next t → ((∀ p a b, c ≠ .pageWriteStart p a b))
    → ((∀ a b d l, c ≠ .wardenRomDone a b d l)) → c ≠ .recoveryWorkDone → t.regions = s.regions

/-- The commands that wait are the model's queue of what the outside sends: no command's own effect adds to
it, removes from it or reorders it. -/
def Obligations.CommandsLeaveTheQueue : Prop :=
  ∀ (c : Instr) (s t : Sys2Proof.Machine.State), exec c s = .next t → t.pending = s.pending

/-- Every command, in every state and with every operand, has a next state: none ends in a fault or a
refusal. -/
def Obligations.EveryCommandRuns : Prop :=
  ∀ (c : Instr) (s : Sys2Proof.Machine.State), ∃ t, exec c s = .next t

/-- With an empty queue a step adds 1 ns to vault time while VAUX is valid; while the device still has to
slew back it takes one nanosecond off what is due instead, and with VAUX lost it changes nothing. That the
tick is 1 ns, and that slewing back lets nanoseconds pass uncounted, is the model's choice (log entries 2
and 144). -/
def Obligations.IdleStepTakesOneNanosecond : Prop :=
  (∀ (s : Sys2Proof.Machine.State), s.pending = [] → s.aon.vaux = true → s.fab.ahead = 0 → step s = .next
    (s.wr D.GBL_VTIME_ns ((s.rd D.GBL_VTIME_ns + 1) % D.GBL_VTIME_ns.cap))) ∧
  (∀ (n : Nat) (s : Sys2Proof.Machine.State), s.pending = [] → s.aon.vaux = true → s.fab.ahead = n + 1 → step
    s = .next { s with fab := { s.fab with ahead := n } }) ∧
  (∀ (s : Sys2Proof.Machine.State), s.pending = [] → s.aon.vaux = false → step s = .next s)

/-- A device reset flush does not watch energy: an OPEN device that is reset begins a flush that does not
watch, and an energy check of one that does not watch changes nothing. PFAIL asserted while it runs sets the
watch, and a check of a watched flush at the reserve makes it due to abandon. -/
def Obligations.DeviceResetFlushWatchesFromPfail : Prop :=
  (∀ (s : Sys2Proof.Machine.State), s.isOpen = true → ∃ f, (s.trigger 2).gov.flush = some f ∧ f.cause = 2 ∧
    f.watch = false) ∧
  (∀ (f : Flush) (s : Sys2Proof.Machine.State), s.phase = stFlushing → s.gov.flush = some f → f.cause = 2 →
    f.watch = false → exec .flushEnergyCheck s = .next s) ∧
  (∀ (f : Flush) (cause rail : Nat) (s : Sys2Proof.Machine.State), s.phase = stFlushing → s.gov.flush = some f
    → f.cause = 2 → s.bit D.PWR_PFSTAT_pfail = false → s.seq = seqUp ∨ s.seq = seqOn ∨ s.seq = seqDown →
    (s.pfail cause rail).gov.flush = some { f with watch := true } ∧ (s.pfail cause rail).bit D.PWR_PFSTAT_pfail
    = true) ∧
  (∀ (f : Flush) (s : Sys2Proof.Machine.State), s.phase = stFlushing → s.gov.flush = some f → f.cause = 2 →
    f.watch = true → f.step ≤ 9 → f.abandoned = false → s.euNow ≤ s.rd D.PWR_PGPARAM_ereserve * 1000 → exec
    .flushEnergyCheck s = .next (s.flushMod (fun g => { g with abandonDue := true })))
end

