-- ==== Sys2Proof/Laws/Bytes.lean ====
section
/-! SUPPORT. Byte strings and their numbers, and good MACs, tags and CRCs for the tests. -/

namespace Sys2Proof.Machine

/-- A string of `n` bytes spells a number below 256 to the `n`. -/
theorem ofLe_lt (b : Bytes) : ofLe b < 256 ^ b.length := by
  induction b with
  | nil => simp [ofLe]
  | cons x b ih =>
    have hx := x.isLt
    simp only [ofLe, List.foldr_cons, List.length_cons, pow_succ] at ih ⊢
    omega

/-- Reading back the bytes of the number a string spells gives the string. -/
theorem leBytes_ofLe (b : Bytes) : leBytes (ofLe b) b.length = b := by
  induction b with
  | nil => rfl
  | cons x b ih =>
    have hx := x.isLt
    rw [leBytes, List.length_cons, List.range_succ_eq_map, List.map_cons, List.map_map]
    congr 1
    · simp [ofLe, BitVec.ofNat_add, BitVec.ofNat_mul]
    · refine Eq.trans (List.map_congr_left fun k _ => ?_) ih
      have h : ofLe (x :: b) / 2 ^ (8 * (k + 1)) = ofLe b / 2 ^ (8 * k) := by
        rw [Nat.mul_add, Nat.pow_add', mul_one, ← Nat.div_div_eq_div_mul]
        congr 1
        simp only [ofLe, List.foldr_cons]
        omega
      simp [h]

/-- An AES block is at most 16 bytes long. -/
theorem aesEnc_length_le (key blk : Bytes) : (aesEnc key blk).length ≤ 16 := by
  simp [aesEnc, xorB, shiftRows]

/-- A leaf's MAC has 128 bits. -/
theorem leafMac_lt (base : Bytes) (tile leaf te : Nat) (ct : Bytes) : leafMac base tile leaf te ct < 2 ^ 128 := by
  have h := ofLe_lt (cmac (kdf base "HTMC" (8 * base.length)) (leBytes te 6 ++ leBytes ((tile * 64 + leaf) * 256) 8 ++ ct))
  refine lt_of_lt_of_le h ?_
  calc 256 ^ _ ≤ 256 ^ 16 := Nat.pow_le_pow_right (by decide) (aesEnc_length_le _ _)
    _ = 2 ^ 128 := by decide


/-- The tag of an empty batch under the key 5. -/
def tagOf5 (low : Bool) : BitVec 480 := BitVec.ofNat 480 (ofLe (gcmTag (leBytes 5 32) (batchNonce low 0 0) [] []))

theorem tag5_length (low : Bool) : (gcmTag (leBytes 5 32) (batchNonce low 0 0) [] []).length = 16 := by
  have h : (roundKey (keySchedule (leBytes 5 32)) 14).length = 16 := by decide +kernel
  have h2 : (leBytes 5 32).length / 4 + 6 = 14 := by decide
  simp [gcmTag, xorB, beBytes, leBytes, aesEnc, shiftRows] at h h2 ⊢
  simp [h]

theorem tag5_bytes (low : Bool) :
    gcmTag (leBytes 5 32) (batchNonce low 0 0) [] [] = leBytes (tagOf5 low).toNat 16 := by
  have h := ofLe_lt (gcmTag (leBytes 5 32) (batchNonce low 0 0) [] [])
  have e := leBytes_ofLe (gcmTag (leBytes 5 32) (batchNonce low 0 0) [] [])
  rw [tag5_length] at h e
  rw [tagOf5, BitVec.toNat_ofNat, Nat.mod_eq_of_lt (lt_of_lt_of_le h (le_trans (by norm_num : 256 ^ 16 ≤ 2 ^ 128) (Nat.pow_le_pow_right (by decide) (by decide)))), e]

theorem crcOk_self (h : FlitHdr) (p : Payload) :
    h.crcOk p (BitVec.ofNat 32 (crc32 (h.word + p.toNat * 2 ^ 32) 64)) = true := by
  refine decide_eq_true ?_
  rw [BitVec.toNat_ofNat, Nat.mod_eq_of_lt]
  exact BitVec.isLt _

theorem img_fields (P Q te m N : Nat) (hP : 0 < P) (ht : te < Q) (hN : (m + 1) * (P * Q) ≤ N) :
    (te * P + m * (P * Q)) % N / (P * Q) = m ∧ (te * P + m * (P * Q)) % N / P % Q = te ∧ (te * P + m * (P * Q)) % N % P = 0 := by
  have hQ : 0 < Q := by omega
  have hlt : te * P + m * (P * Q) < N := by
    have h1 : te * P < P * Q := by rw [mul_comm te]; exact Nat.mul_lt_mul_of_pos_left ht hP
    have h2 : (m + 1) * (P * Q) = P * Q + m * (P * Q) := by ring
    omega
  rw [Nat.mod_eq_of_lt hlt]
  have e : te * P + m * (P * Q) = P * (te + Q * m) := by ring
  refine ⟨?_, ?_, ?_⟩
  · rw [e, Nat.mul_div_mul_left _ _ hP, Nat.add_mul_div_left _ _ hQ, Nat.div_eq_of_lt ht, Nat.zero_add]
  · rw [e, Nat.mul_div_cancel_left _ hP, Nat.add_mul_mod_self_left, Nat.mod_eq_of_lt ht]
  · rw [e, Nat.mul_mod_right]

/-- An image of zeros whose tag names tile 5, with a MAC. -/
def imgOf (m : Nat) : Image := BitVec.ofNat 2560 ((2 ^ 31 + 5) * 2 ^ 2048 + m * (2 ^ 2048 * 2 ^ 48))

theorem imgOf_fields (m : Nat) (hm : m < 2 ^ 128) : imgBytes (imgOf m) 262 16 = m ∧
    imgBytes (imgOf m) 256 6 = 2 ^ 31 + 5 ∧ imgBytes (imgOf m) 0 256 = 0 := by
  obtain ⟨a, b, c⟩ := img_fields (2 ^ 2048) (2 ^ 48) (2 ^ 31 + 5) m (2 ^ 2560)
    (by positivity) (by norm_num) (by
      calc (m + 1) * (2 ^ 2048 * 2 ^ 48)
        _ ≤ 2 ^ 128 * (2 ^ 2048 * 2 ^ 48) := Nat.mul_le_mul_right _ hm
        _ ≤ 2 ^ 2560 := by rw [← pow_add, ← pow_add]; exact Nat.pow_le_pow_right (by norm_num) (by norm_num))
  refine ⟨?_, ?_, ?_⟩
  · rw [imgBytes, imgOf, BitVec.toNat_ofNat, show 8 * 262 = 2048 + 48 from rfl, pow_add, a]; exact Nat.mod_eq_of_lt hm
  · rw [imgBytes, imgOf, BitVec.toNat_ofNat]; exact b
  · rw [imgBytes, imgOf, BitVec.toNat_ofNat]; simpa using c

theorem macOk_imgOf (base : Bytes) (tile leaf m : Nat) (hm : m < 2 ^ 128)
    (h : m = leafMac base tile leaf (2 ^ 31 + 5) (leBytes 0 256)) : macOk base tile leaf (imgOf m) = true := by
  obtain ⟨a, b, c⟩ := imgOf_fields m hm
  refine decide_eq_true ?_
  rw [a, b, c]; exact h

theorem tagOk_imgOf (m : Nat) (hm : m < 2 ^ 128) : tagOk 5 (imgOf m) = true := by
  have b := (imgOf_fields m hm).2.1
  refine decide_eq_true ?_
  have : imgBytes (imgOf m) 256 4 = imgBytes (imgOf m) 256 6 % 2 ^ 32 := by
    simp only [imgBytes]; rw [Nat.mod_mod_of_dvd]; exact pow_dvd_pow 2 (by norm_num)
  rw [this, b]; norm_num

/-- Some image of tile 5 is good under a key. -/
theorem exists_img (base : Bytes) (leaf : Nat) : ∃ i, tagOk 5 i = true ∧ macOk base 5 leaf i = true :=
  ⟨imgOf _, tagOk_imgOf _ (leafMac_lt base 5 leaf _ _), macOk_imgOf base 5 leaf _ (leafMac_lt _ _ _ _ _) rfl⟩

end Sys2Proof.Machine
end

