-- ==== Sys2Proof/Laws/Store.lean ====
section
/-! SUPPORT. The laws of the sparse map: a read after a write gives what was written, a write leaves every other key alone,
and every write keeps the canonical form. -/

namespace Sys2Proof.SMap

variable {α : Type}

@[simp] theorem get_nil (d : α) (k : Nat) : get d [] k = d := rfl
@[simp] theorem find_nil (k : Nat) : find ([] : SMap α) k = none := rfl
@[simp] theorem has_nil (k : Nat) : has ([] : SMap α) k = false := rfl

theorem get_eq_find (d : α) (m : SMap α) (k : Nat) : get d m k = (find m k).getD d := by
  induction m with
  | nil => rfl
  | cons e t ih => obtain ⟨k', v⟩ := e; by_cases h : k' = k <;> simp [get, find, h, ih]

theorem has_eq_find (m : SMap α) (k : Nat) : has m k = (find m k).isSome := by
  induction m with
  | nil => rfl
  | cons e t ih => obtain ⟨k', v⟩ := e; by_cases h : k' = k <;> simp [has, find, h, ih]

@[simp] theorem find_ins_same (m : SMap α) (k : Nat) (v : α) : find (ins m k v) k = some v := by
  induction m with
  | nil => simp [ins, find]
  | cons e t ih =>
    obtain ⟨k', v'⟩ := e
    rcases Nat.lt_trichotomy k k' with h | h | h
    · simp [ins, find, h]
    · simp [ins, find, h]
    · simp [ins, find, Nat.not_lt_of_gt h, Nat.ne_of_gt h, Nat.ne_of_lt h, ih]

theorem find_ins_ne (m : SMap α) {k j : Nat} (v : α) (h : k ≠ j) : find (ins m k v) j = find m j := by
  induction m with
  | nil => simp [ins, find, h]
  | cons e t ih =>
    obtain ⟨k', v'⟩ := e
    rcases Nat.lt_trichotomy k k' with g | g | g
    · simp [ins, find, g, h]
    · subst g; simp [ins, find, h]
    · by_cases e : k' = j
      · subst e; simp [ins, find, Nat.not_lt_of_gt g, Nat.ne_of_gt g]
      · simp [ins, find, Nat.not_lt_of_gt g, Nat.ne_of_gt g, e, ih]

@[simp] theorem find_del_same (m : SMap α) (k : Nat) : find (del m k) k = none := by
  induction m with
  | nil => rfl
  | cons e t ih => obtain ⟨k', v⟩ := e; by_cases h : k' = k <;> simp [del, find, h, ih]

theorem find_del_ne (m : SMap α) {k j : Nat} (h : k ≠ j) : find (del m k) j = find m j := by
  induction m with
  | nil => rfl
  | cons e t ih =>
    obtain ⟨k', v⟩ := e
    by_cases g : k' = k
    · subst g; simp [del, find, h, ih]
    · by_cases e : k' = j
      · subst e; simp [del, find, g]
      · simp [del, find, g, e, ih]

@[simp] theorem get_ins_same (d : α) (m : SMap α) (k : Nat) (v : α) : get d (ins m k v) k = v := by simp [get_eq_find]

theorem get_ins_ne (d : α) (m : SMap α) {k j : Nat} (v : α) (h : k ≠ j) : get d (ins m k v) j = get d m j := by
  simp [get_eq_find, find_ins_ne m v h]

@[simp] theorem get_del_same (d : α) (m : SMap α) (k : Nat) : get d (del m k) k = d := by simp [get_eq_find]

theorem get_del_ne (d : α) (m : SMap α) {k j : Nat} (h : k ≠ j) : get d (del m k) j = get d m j := by
  simp [get_eq_find, find_del_ne m h]

@[simp] theorem get_put_same [DecidableEq α] (d : α) (m : SMap α) (k : Nat) (v : α) : get d (put d m k v) k = v := by
  by_cases h : v = d <;> simp [put, h]

theorem find_put_ne [DecidableEq α] (d : α) (m : SMap α) {k j : Nat} (v : α) (h : k ≠ j) :
    find (put d m k v) j = find m j := by
  by_cases g : v = d <;> simp [put, g, find_del_ne m h, find_ins_ne m _ h]

theorem get_put_ne [DecidableEq α] (d e : α) (m : SMap α) {k j : Nat} (v : α) (h : k ≠ j) :
    get e (put d m k v) j = get e m j := by
  simp [get_eq_find, find_put_ne d m v h]

/-! The canonical form. -/

theorem rising_mono {lo lo' : Nat} (h : lo ≤ lo') : ∀ {m : SMap α}, rising lo' m = true → rising lo m = true
  | [], _ => rfl
  | (k, _) :: _, hm => by
    simp only [rising, Bool.and_eq_true, decide_eq_true_eq] at hm ⊢
    exact ⟨Nat.le_trans h hm.1, hm.2⟩

theorem rising_ins {lo k : Nat} (v : α) (h : lo ≤ k) : ∀ {m : SMap α}, rising lo m = true → rising lo (ins m k v) = true
  | [], _ => by simp [ins, rising, h]
  | (k', v') :: t, hm => by
    simp only [rising, Bool.and_eq_true, decide_eq_true_eq] at hm
    rcases Nat.lt_trichotomy k k' with g | g | g
    · simp [ins, g, rising, h, Nat.succ_le_of_lt g, hm.2]
    · subst g; simp [ins, rising, h, hm.2]
    · have := rising_ins (lo := k' + 1) v (Nat.succ_le_of_lt g) hm.2
      simp [ins, Nat.not_lt_of_gt g, Nat.ne_of_gt g, rising, hm.1, this]

theorem rising_del {k : Nat} : ∀ {lo : Nat} {m : SMap α}, rising lo m = true → rising lo (del m k) = true
  | _, [], _ => rfl
  | lo, (k', v') :: t, hm => by
    simp only [rising, Bool.and_eq_true, decide_eq_true_eq] at hm
    by_cases g : k' = k
    · simpa [del, g] using rising_del (rising_mono (Nat.le_succ_of_le hm.1) hm.2)
    · simpa [del, g, rising, hm.1] using rising_del hm.2

theorem wf_ins {m : SMap α} (k : Nat) (v : α) (h : wf m = true) : wf (ins m k v) = true := rising_ins v (Nat.zero_le k) h
theorem wf_del {m : SMap α} (k : Nat) (h : wf m = true) : wf (del m k) = true := rising_del h

theorem wf_put [DecidableEq α] {m : SMap α} (d : α) (k : Nat) (v : α) (h : wf m = true) : wf (put d m k v) = true := by
  unfold put; split
  · exact wf_del k h
  · exact wf_ins k v h

theorem rising_keep (p : Nat → α → Bool) : ∀ {lo : Nat} {m : SMap α}, rising lo m = true → rising lo (keep p m) = true
  | _, [], _ => rfl
  | lo, (k', v') :: t, hm => by
    simp only [rising, Bool.and_eq_true, decide_eq_true_eq] at hm
    have ih := rising_keep p hm.2
    by_cases g : p k' v' = true
    · simpa [keep, g, rising, hm.1] using ih
    · simpa [keep, g] using rising_mono (Nat.le_succ_of_le hm.1) ih

theorem wf_keep {m : SMap α} (p : Nat → α → Bool) (h : wf m = true) : wf (keep p m) = true := rising_keep p h

end Sys2Proof.SMap
end

