-- ==== Sys2Proof/Laws/Retire.lean ====
section
/-! SUPPORT. What retiring an instruction may change: its context, the tally's own registers, samples and events. -/

namespace Sys2Proof.Machine

/-- What the tally may change. -/
def State.TalOnly (s t : State) : Prop := s.RegsIn 0x50000 0x60000 t ∧ s.Only [.regs, .evq, .tal, .tcnt, .free] t

theorem State.TalOnly.refl (s : State) : s.TalOnly s := by
  refine ⟨fun _ _ => rfl, fun p _ => ?_⟩
  cases p <;> rfl

theorem State.Only.trans {s t u : State} {ps : List Comp} (h : s.Only ps t) (g : t.Only ps u) : s.Only ps u := by
  intro p hp
  have := h p hp
  have := g p hp
  cases p <;> simp only [Comp.same] at * <;> simp_all

theorem State.RegsIn.trans {s t u : State} {a b : Nat} (h : s.RegsIn a b t) (g : t.RegsIn a b u) : s.RegsIn a b u :=
  fun k hk => (g k hk).trans (h k hk)

theorem State.TalOnly.trans {s t u : State} (h : s.TalOnly t) (g : t.TalOnly u) : s.TalOnly u :=
  ⟨h.1.trans g.1, h.2.trans g.2⟩

theorem State.phase_of_find {s t : State} (h : SMap.find t.regs (D.GBL_STAT_state.key 0) = SMap.find s.regs (D.GBL_STAT_state.key 0)) :
    t.phase = s.phase := by
  unfold State.phase State.rd
  rw [SMap.get_eq_find, SMap.get_eq_find, h]

theorem State.TalOnly.phase {s t : State} (h : s.TalOnly t) : t.phase = s.phase :=
  State.phase_of_find (h.1 _ (by decide))

theorem State.TalOnly.ctx {s t : State} (h : s.TalOnly t) (c : Nat) : t.ctx c = s.ctx c := by
  have := h.2 .cur (by decide)
  simp only [Comp.same] at this
  simp [State.ctx, this]

theorem State.wr_tallies (s : State) (f : FldDesc) (v i : Nat) (h : 0x50000 * 64 ≤ f.key i ∧ f.key i < 0x60000 * 64) :
    s.TalOnly (s.wr f v i) := by
  refine ⟨fun k hk => ?_, fun p hp => ?_⟩
  · simp only [State.wr]
    exact SMap.find_put_ne _ _ _ (by omega)
  · cases p <;> first | rfl | (simp at hp)

theorem State.log_tal (s : State) (code a b c : Nat) (inj : Bool) (h : s.phase ≠ stRomRecovery) :
    s.TalOnly (s.log code a b c inj) := by
  simp only [State.log, h, if_false]
  refine ⟨fun _ _ => rfl, fun p hp => ?_⟩
  cases p <;> first | rfl | (simp at hp)

theorem State.fresh_tal (s : State) : s.TalOnly s.fresh.2 := by
  refine ⟨fun _ _ => rfl, fun p hp => ?_⟩
  cases p <;> first | rfl | (simp at hp)

/-- Counting changes nothing but the counters. -/
theorem State.tally_tal (s : State) (first k code v : Nat) : s.TalOnly (s.tally first k code v) := by
  refine ⟨fun _ _ => rfl, fun p hp => ?_⟩
  cases p <;> first | rfl | (simp at hp)

theorem State.tWing_tal (s : State) (w code v : Nat) : s.TalOnly (s.tWing w code v) := s.tally_tal _ _ _ _

theorem State.setTal (s : State) (x : Tally) : s.TalOnly { s with tal := x } := by
  refine ⟨fun _ _ => rfl, fun p hp => ?_⟩
  cases p <;> first | rfl | (simp at hp)

theorem State.tagDraw_tal (s : State) (core : Nat) : s.TalOnly (s.tagDraw core) :=
  s.fresh_tal.trans (State.setTal _ _)

theorem State.tagRecord_tal (s : State) (ws : List Nat) : s.TalOnly (s.tagRecord ws) := by
  unfold State.tagRecord
  dsimp only
  split
  · exact s.wr_tallies _ _ _ (by decide)
  · exact (s.setTal _).trans (State.wr_tallies _ _ _ _ (by decide))

theorem State.sample_tal (s : State) (c pc prog priv major outcome ea : Nat) :
    s.TalOnly (s.sample c pc prog priv major outcome ea) := by
  unfold State.sample
  dsimp only
  split
  · exact .refl s
  · split
    · exact s.tagDraw_tal _
    · split
      · exact s.setTal _
      · exact .refl s
    · generalize List.cons _ _ = ws
      have h1 := s.fresh_tal.trans ((State.tagRecord_tal _ ws).trans (State.tagDraw_tal _ (c / 4)))
      exact h1.trans (State.tWing_tal _ _ _ _)

theorem State.setCtx_cur (s : State) (c : Nat) (x : Ctx) : s.RegsIn 0x50000 0x60000 (s.setCtx c x) ∧ s.Only [.regs, .evq, .cur, .tal, .tcnt, .free] (s.setCtx c x) := by
  refine ⟨fun _ _ => rfl, fun p hp => ?_⟩
  cases p <;> first | rfl | (simp at hp)

@[simp] theorem State.setCtx_same (s : State) (c : Nat) (x : Ctx) : (s.setCtx c x).ctx c = x := by
  simp [State.setCtx, State.ctx]

theorem State.setCtx_ne (s : State) {c k : Nat} (x : Ctx) (h : k ≠ c) : (s.setCtx c x).ctx k = s.ctx k := by
  simp only [State.setCtx, State.ctx]
  exact SMap.get_put_ne _ _ _ _ (Ne.symm h)

@[simp] theorem State.setCtx_phase (s : State) (c : Nat) (x : Ctx) : (s.setCtx c x).phase = s.phase := rfl

theorem State.TalOnly.curOnly {s t : State} (h : s.TalOnly t) : s.CurOnly t := by
  refine ⟨h.1, fun p hp => h.2 p ?_⟩
  cases p <;> simp_all

/-- Retiring runs the context on at `next` with the registers of `x`, and changes nothing but the curator, the tally and the
events. -/
theorem State.retire_runsOn (s : State) (c : Nat) (x : Ctx) (next major ea : Nat) (hx : x.st = .running) :
    s.RunsOn c next x.reg (s.retire c x next major ea) ∧ s.CurOnly (s.retire c x next major ea) := by
  have h2 := (s.setCtx c { x with pc := next, instret := x.instret + 1 }).tWing_tal (c / 32) 1 1
  have h3 := State.sample_tal ((s.setCtx c { x with pc := next, instret := x.instret + 1 }).tWing (c / 32) 1 1)
    c (s.ctx c).pc (s.ctx c).prog (s.ctx c).priv.code major 0 ea
  have h4 := h2.trans h3
  have e : s.retire c x next major ea = ((s.setCtx c { x with pc := next, instret := x.instret + 1 }).tWing (c / 32) 1 1).sample
    c (s.ctx c).pc (s.ctx c).prog (s.ctx c).priv.code major 0 ea := rfl
  rw [e]
  refine ⟨⟨?_, ?_, fun r => ?_, fun k hk => ?_⟩, ?_⟩
  · rw [h4.ctx, State.setCtx_same]; exact hx
  · rw [h4.ctx, State.setCtx_same]
  · rw [h4.ctx, State.setCtx_same]; rfl
  · rw [h4.ctx, State.setCtx_ne _ _ hk]
  · have h5 := h4.curOnly
    exact ⟨(s.setCtx_cur c _).1.trans h5.1, (s.setCtx_cur c _).2.trans h5.2⟩

theorem Ctx.reg_setReg (x : Ctx) (d r : BitVec 5) (v : Word) : (x.setReg d v).reg r = x.regsWith d v r := by
  by_cases hd : d = 0
  · simp only [Ctx.setReg, Ctx.regsWith, hd, if_true, ne_eq, not_true, and_false, if_false]
  · by_cases hr : r = 0
    · simp only [Ctx.setReg, Ctx.regsWith, Ctx.reg, hd, hr, if_true, if_false, Ne.symm hd, false_and]
    · by_cases hrd : r = d
      · subst hrd
        simp only [Ctx.setReg, Ctx.regsWith, Ctx.reg, hr, if_false, SMap.get_put_same, true_and, ne_eq, not_false_iff, if_true]
      · have : d.toNat ≠ r.toNat := fun e => hrd (BitVec.eq_of_toNat_eq e.symm)
        simp only [Ctx.setReg, Ctx.regsWith, Ctx.reg, hd, hr, hrd, if_false, false_and, SMap.get_put_ne _ _ _ _ this]

theorem State.running_of_canIssue {s : State} {c : Nat} (h : s.canIssue c = true) : (s.ctx c).st = .running := by
  simp [State.canIssue, Ctx.between] at h
  exact h.1.1.1.1

/-- `setAndGo` writes its register and goes on. -/
theorem State.setAndGo_sets (s : State) (c : Nat) (d : BitVec 5) (v : Word) (major : Nat) (h : s.canIssue c = true) :
    s.Sets c d v (s.setAndGo c (s.ctx c) d v major) := by
  have hx : ((s.ctx c).setReg d v).st = .running := by
    unfold Ctx.setReg; split <;> exact s.running_of_canIssue h
  have := s.retire_runsOn c ((s.ctx c).setReg d v) ((s.ctx c).pc + 4) major 0 hx
  refine ⟨⟨this.1.1, this.1.2.1, fun r => ?_, this.1.2.2.2⟩, this.2⟩
  have e := this.1.2.2.1 r
  rw [Ctx.reg_setReg] at e
  exact e

/-- A ready context's attempt is the run itself. -/
theorem State.attempt_ready (s : State) (c : Nat) (run : Ctx → State) (h : s.Ready c) : s.attempt c run = run (s.ctx c) := by
  obtain ⟨h1, h2, h3⟩ := h
  simp [State.attempt, h1, h2, h3]

/-- What an instruction writes is seen whatever the tally has counted. -/
theorem State.Sets.masked {s t : State} {c : Nat} {d : BitVec 5} {v : Word} (h : s.Sets c d v t) :
    s.Sets c d v { t with tcnt := s.tcnt } := by
  refine ⟨h.1, h.2.1, fun p hp => ?_⟩
  cases p <;> first | rfl | exact h.2.2 _ hp

theorem State.alu_sets (s : State) (c major : Nat) (d : BitVec 5) (f : Ctx → Word) (h : s.Ready c) :
    s.Sets c d (f (s.ctx c)) (s.alu c major d f) := by
  unfold State.alu
  rw [State.attempt_ready _ _ _ h]
  exact s.setAndGo_sets c d _ major h.1

end Sys2Proof.Machine
end

