-- ==== Sys2Proof/Laws/State.lean ====
section
/-! SUPPORT. What the updates of State leave and what they change: one lemma a field for each plain update, and the
reads of registers, ports, queues, contexts and regions after a write. -/

namespace Sys2Proof.Machine

/-! Reads after writes. -/

@[simp] theorem State.rd_wr_same (s : State) (f : FldDesc) (v i : Nat) : (s.wr f v i).rd f i = v % f.cap := by
  simp [State.rd, State.wr]
theorem State.rd_wr_ne (s : State) (f g : FldDesc) (v i j : Nat) (h : f.key i ≠ g.key j) : (s.wr f v i).rd g j = s.rd g j :=
  SMap.get_put_ne _ _ _ _ h
@[simp] theorem State.rdP_wrP_same (s : State) (f : FldDesc) (p v i : Nat) : (s.wrP f p v i).rdP f p i = v % f.cap := by
  simp [State.rdP, State.wrP]
theorem State.rdP_wrP_ne (s : State) (f g : FldDesc) (p q v i j : Nat) (h : f.keyP p i ≠ g.keyP q j) :
    (s.wrP f p v i).rdP g q j = s.rdP g q j := SMap.get_put_ne _ _ _ _ h
theorem State.rd_wrP_ne (s : State) (f g : FldDesc) (p v i j : Nat) (h : f.keyP p i ≠ g.key j) :
    (s.wrP f p v i).rd g j = s.rd g j := SMap.get_put_ne _ _ _ _ h
theorem State.rdP_wr_ne (s : State) (f g : FldDesc) (q v i j : Nat) (h : f.key i ≠ g.keyP q j) :
    (s.wr f v i).rdP g q j = s.rdP g q j := SMap.get_put_ne _ _ _ _ h
theorem State.rd_of_regs {s t : State} (h : t.regs = s.regs) (f : FldDesc) (i : Nat) : t.rd f i = s.rd f i := by
  rw [State.rd, State.rd, h]
theorem State.rdP_of_regs {s t : State} (h : t.regs = s.regs) (f : FldDesc) (p i : Nat) : t.rdP f p i = s.rdP f p i := by
  rw [State.rdP, State.rdP, h]
@[simp] theorem State.port_setPort_same (s : State) (p : Nat) (x : Port) : (s.setPort p x).port p = x := by
  simp [State.port, State.setPort]
theorem State.port_setPort_ne (s : State) {p q : Nat} (x : Port) (h : p ≠ q) : (s.setPort p x).port q = s.port q :=
  SMap.get_put_ne _ _ _ _ h
@[simp] theorem State.queue_setQueue_same (s : State) (n : Nat) (q : AQueue) : (s.setQueue n q).queue n = q := by
  simp [State.queue, State.setQueue]
theorem State.queue_setQueue_ne (s : State) {n k : Nat} (q : AQueue) (h : n ≠ k) : (s.setQueue n q).queue k = s.queue k :=
  SMap.get_put_ne _ _ _ _ h
@[simp] theorem State.region_setRegion_same (s : State) (n : Nat) (r : Region) : (s.setRegion n r).region n = r := by
  simp [State.region, State.setRegion]
theorem State.region_setRegion_ne (s : State) {n k : Nat} (r : Region) (h : n ≠ k) :
    (s.setRegion n r).region k = s.region k := SMap.get_put_ne _ _ _ _ h
theorem State.wr_regs_wf (s : State) (f : FldDesc) (v i : Nat) (h : SMap.wf s.regs = true) :
    SMap.wf (s.wr f v i).regs = true := SMap.wf_put _ _ _ h
theorem State.wrP_regs_wf (s : State) (f : FldDesc) (p v i : Nat) (h : SMap.wf s.regs = true) :
    SMap.wf (s.wrP f p v i).regs = true := SMap.wf_put _ _ _ h

/-! Plain updates: every other field stays. -/

section
variable (s : State) (f : FldDesc) (v : Nat) (i : Nat)
@[simp] theorem State.wr_evq : (s.wr f v i).evq = s.evq := rfl
@[simp] theorem State.wr_rgr : (s.wr f v i).rgr = s.rgr := rfl
@[simp] theorem State.wr_ports : (s.wr f v i).ports = s.ports := rfl
@[simp] theorem State.wr_queues : (s.wr f v i).queues = s.queues := rfl
@[simp] theorem State.wr_regions : (s.wr f v i).regions = s.regions := rfl
@[simp] theorem State.wr_rops : (s.wr f v i).rops = s.rops := rfl
@[simp] theorem State.wr_coh : (s.wr f v i).coh = s.coh := rfl
@[simp] theorem State.wr_med : (s.wr f v i).med = s.med := rfl
@[simp] theorem State.wr_cur : (s.wr f v i).cur = s.cur := rfl
@[simp] theorem State.wr_slots : (s.wr f v i).slots = s.slots := rfl
@[simp] theorem State.wr_keyOps : (s.wr f v i).keyOps = s.keyOps := rfl
@[simp] theorem State.wr_drbg : (s.wr f v i).drbg = s.drbg := rfl
@[simp] theorem State.wr_gov : (s.wr f v i).gov = s.gov := rfl
@[simp] theorem State.wr_led : (s.wr f v i).led = s.led := rfl
@[simp] theorem State.wr_stgE : (s.wr f v i).stgE = s.stgE := rfl
@[simp] theorem State.wr_aon : (s.wr f v i).aon = s.aon := rfl
@[simp] theorem State.wr_boot : (s.wr f v i).boot = s.boot := rfl
@[simp] theorem State.wr_fab : (s.wr f v i).fab = s.fab := rfl
@[simp] theorem State.wr_fw : (s.wr f v i).fw = s.fw := rfl
@[simp] theorem State.wr_tal : (s.wr f v i).tal = s.tal := rfl
@[simp] theorem State.wr_tcnt : (s.wr f v i).tcnt = s.tcnt := rfl
@[simp] theorem State.wr_out : (s.wr f v i).out = s.out := rfl
@[simp] theorem State.wr_free : (s.wr f v i).free = s.free := rfl
@[simp] theorem State.wr_pending : (s.wr f v i).pending = s.pending := rfl
end

section
variable (s : State) (f : FldDesc) (p v : Nat) (i : Nat)
@[simp] theorem State.wrP_evq : (s.wrP f p v i).evq = s.evq := rfl
@[simp] theorem State.wrP_rgr : (s.wrP f p v i).rgr = s.rgr := rfl
@[simp] theorem State.wrP_ports : (s.wrP f p v i).ports = s.ports := rfl
@[simp] theorem State.wrP_queues : (s.wrP f p v i).queues = s.queues := rfl
@[simp] theorem State.wrP_regions : (s.wrP f p v i).regions = s.regions := rfl
@[simp] theorem State.wrP_rops : (s.wrP f p v i).rops = s.rops := rfl
@[simp] theorem State.wrP_coh : (s.wrP f p v i).coh = s.coh := rfl
@[simp] theorem State.wrP_med : (s.wrP f p v i).med = s.med := rfl
@[simp] theorem State.wrP_cur : (s.wrP f p v i).cur = s.cur := rfl
@[simp] theorem State.wrP_slots : (s.wrP f p v i).slots = s.slots := rfl
@[simp] theorem State.wrP_keyOps : (s.wrP f p v i).keyOps = s.keyOps := rfl
@[simp] theorem State.wrP_drbg : (s.wrP f p v i).drbg = s.drbg := rfl
@[simp] theorem State.wrP_gov : (s.wrP f p v i).gov = s.gov := rfl
@[simp] theorem State.wrP_led : (s.wrP f p v i).led = s.led := rfl
@[simp] theorem State.wrP_stgE : (s.wrP f p v i).stgE = s.stgE := rfl
@[simp] theorem State.wrP_aon : (s.wrP f p v i).aon = s.aon := rfl
@[simp] theorem State.wrP_boot : (s.wrP f p v i).boot = s.boot := rfl
@[simp] theorem State.wrP_fab : (s.wrP f p v i).fab = s.fab := rfl
@[simp] theorem State.wrP_fw : (s.wrP f p v i).fw = s.fw := rfl
@[simp] theorem State.wrP_tal : (s.wrP f p v i).tal = s.tal := rfl
@[simp] theorem State.wrP_tcnt : (s.wrP f p v i).tcnt = s.tcnt := rfl
@[simp] theorem State.wrP_out : (s.wrP f p v i).out = s.out := rfl
@[simp] theorem State.wrP_free : (s.wrP f p v i).free = s.free := rfl
@[simp] theorem State.wrP_pending : (s.wrP f p v i).pending = s.pending := rfl
end

section
variable (s : State) (p : Nat) (x : FPort)
@[simp] theorem State.setFport_regs : (s.setFport p x).regs = s.regs := rfl
@[simp] theorem State.setFport_evq : (s.setFport p x).evq = s.evq := rfl
@[simp] theorem State.setFport_rgr : (s.setFport p x).rgr = s.rgr := rfl
@[simp] theorem State.setFport_ports : (s.setFport p x).ports = s.ports := rfl
@[simp] theorem State.setFport_queues : (s.setFport p x).queues = s.queues := rfl
@[simp] theorem State.setFport_regions : (s.setFport p x).regions = s.regions := rfl
@[simp] theorem State.setFport_rops : (s.setFport p x).rops = s.rops := rfl
@[simp] theorem State.setFport_coh : (s.setFport p x).coh = s.coh := rfl
@[simp] theorem State.setFport_med : (s.setFport p x).med = s.med := rfl
@[simp] theorem State.setFport_cur : (s.setFport p x).cur = s.cur := rfl
@[simp] theorem State.setFport_slots : (s.setFport p x).slots = s.slots := rfl
@[simp] theorem State.setFport_keyOps : (s.setFport p x).keyOps = s.keyOps := rfl
@[simp] theorem State.setFport_drbg : (s.setFport p x).drbg = s.drbg := rfl
@[simp] theorem State.setFport_gov : (s.setFport p x).gov = s.gov := rfl
@[simp] theorem State.setFport_led : (s.setFport p x).led = s.led := rfl
@[simp] theorem State.setFport_stgE : (s.setFport p x).stgE = s.stgE := rfl
@[simp] theorem State.setFport_aon : (s.setFport p x).aon = s.aon := rfl
@[simp] theorem State.setFport_boot : (s.setFport p x).boot = s.boot := rfl
@[simp] theorem State.setFport_fw : (s.setFport p x).fw = s.fw := rfl
@[simp] theorem State.setFport_tal : (s.setFport p x).tal = s.tal := rfl
@[simp] theorem State.setFport_tcnt : (s.setFport p x).tcnt = s.tcnt := rfl
@[simp] theorem State.setFport_out : (s.setFport p x).out = s.out := rfl
@[simp] theorem State.setFport_free : (s.setFport p x).free = s.free := rfl
@[simp] theorem State.setFport_pending : (s.setFport p x).pending = s.pending := rfl
end

section
variable (s : State) (p : Nat) (x : Port)
@[simp] theorem State.setPort_regs : (s.setPort p x).regs = s.regs := rfl
@[simp] theorem State.setPort_evq : (s.setPort p x).evq = s.evq := rfl
@[simp] theorem State.setPort_rgr : (s.setPort p x).rgr = s.rgr := rfl
@[simp] theorem State.setPort_queues : (s.setPort p x).queues = s.queues := rfl
@[simp] theorem State.setPort_regions : (s.setPort p x).regions = s.regions := rfl
@[simp] theorem State.setPort_rops : (s.setPort p x).rops = s.rops := rfl
@[simp] theorem State.setPort_coh : (s.setPort p x).coh = s.coh := rfl
@[simp] theorem State.setPort_med : (s.setPort p x).med = s.med := rfl
@[simp] theorem State.setPort_cur : (s.setPort p x).cur = s.cur := rfl
@[simp] theorem State.setPort_slots : (s.setPort p x).slots = s.slots := rfl
@[simp] theorem State.setPort_keyOps : (s.setPort p x).keyOps = s.keyOps := rfl
@[simp] theorem State.setPort_drbg : (s.setPort p x).drbg = s.drbg := rfl
@[simp] theorem State.setPort_gov : (s.setPort p x).gov = s.gov := rfl
@[simp] theorem State.setPort_led : (s.setPort p x).led = s.led := rfl
@[simp] theorem State.setPort_stgE : (s.setPort p x).stgE = s.stgE := rfl
@[simp] theorem State.setPort_aon : (s.setPort p x).aon = s.aon := rfl
@[simp] theorem State.setPort_boot : (s.setPort p x).boot = s.boot := rfl
@[simp] theorem State.setPort_fab : (s.setPort p x).fab = s.fab := rfl
@[simp] theorem State.setPort_fw : (s.setPort p x).fw = s.fw := rfl
@[simp] theorem State.setPort_tal : (s.setPort p x).tal = s.tal := rfl
@[simp] theorem State.setPort_tcnt : (s.setPort p x).tcnt = s.tcnt := rfl
@[simp] theorem State.setPort_out : (s.setPort p x).out = s.out := rfl
@[simp] theorem State.setPort_free : (s.setPort p x).free = s.free := rfl
@[simp] theorem State.setPort_pending : (s.setPort p x).pending = s.pending := rfl
end

section
variable (s : State) (n : Nat) (q : AQueue)
@[simp] theorem State.setQueue_regs : (s.setQueue n q).regs = s.regs := rfl
@[simp] theorem State.setQueue_evq : (s.setQueue n q).evq = s.evq := rfl
@[simp] theorem State.setQueue_rgr : (s.setQueue n q).rgr = s.rgr := rfl
@[simp] theorem State.setQueue_ports : (s.setQueue n q).ports = s.ports := rfl
@[simp] theorem State.setQueue_regions : (s.setQueue n q).regions = s.regions := rfl
@[simp] theorem State.setQueue_rops : (s.setQueue n q).rops = s.rops := rfl
@[simp] theorem State.setQueue_coh : (s.setQueue n q).coh = s.coh := rfl
@[simp] theorem State.setQueue_med : (s.setQueue n q).med = s.med := rfl
@[simp] theorem State.setQueue_cur : (s.setQueue n q).cur = s.cur := rfl
@[simp] theorem State.setQueue_slots : (s.setQueue n q).slots = s.slots := rfl
@[simp] theorem State.setQueue_keyOps : (s.setQueue n q).keyOps = s.keyOps := rfl
@[simp] theorem State.setQueue_drbg : (s.setQueue n q).drbg = s.drbg := rfl
@[simp] theorem State.setQueue_gov : (s.setQueue n q).gov = s.gov := rfl
@[simp] theorem State.setQueue_led : (s.setQueue n q).led = s.led := rfl
@[simp] theorem State.setQueue_stgE : (s.setQueue n q).stgE = s.stgE := rfl
@[simp] theorem State.setQueue_aon : (s.setQueue n q).aon = s.aon := rfl
@[simp] theorem State.setQueue_boot : (s.setQueue n q).boot = s.boot := rfl
@[simp] theorem State.setQueue_fab : (s.setQueue n q).fab = s.fab := rfl
@[simp] theorem State.setQueue_fw : (s.setQueue n q).fw = s.fw := rfl
@[simp] theorem State.setQueue_tal : (s.setQueue n q).tal = s.tal := rfl
@[simp] theorem State.setQueue_tcnt : (s.setQueue n q).tcnt = s.tcnt := rfl
@[simp] theorem State.setQueue_out : (s.setQueue n q).out = s.out := rfl
@[simp] theorem State.setQueue_free : (s.setQueue n q).free = s.free := rfl
@[simp] theorem State.setQueue_pending : (s.setQueue n q).pending = s.pending := rfl
end

section
variable (s : State) (c : Nat) (x : Ctx)
@[simp] theorem State.setCtx_regs : (s.setCtx c x).regs = s.regs := rfl
@[simp] theorem State.setCtx_evq : (s.setCtx c x).evq = s.evq := rfl
@[simp] theorem State.setCtx_rgr : (s.setCtx c x).rgr = s.rgr := rfl
@[simp] theorem State.setCtx_ports : (s.setCtx c x).ports = s.ports := rfl
@[simp] theorem State.setCtx_queues : (s.setCtx c x).queues = s.queues := rfl
@[simp] theorem State.setCtx_regions : (s.setCtx c x).regions = s.regions := rfl
@[simp] theorem State.setCtx_rops : (s.setCtx c x).rops = s.rops := rfl
@[simp] theorem State.setCtx_coh : (s.setCtx c x).coh = s.coh := rfl
@[simp] theorem State.setCtx_med : (s.setCtx c x).med = s.med := rfl
@[simp] theorem State.setCtx_slots : (s.setCtx c x).slots = s.slots := rfl
@[simp] theorem State.setCtx_keyOps : (s.setCtx c x).keyOps = s.keyOps := rfl
@[simp] theorem State.setCtx_drbg : (s.setCtx c x).drbg = s.drbg := rfl
@[simp] theorem State.setCtx_gov : (s.setCtx c x).gov = s.gov := rfl
@[simp] theorem State.setCtx_led : (s.setCtx c x).led = s.led := rfl
@[simp] theorem State.setCtx_stgE : (s.setCtx c x).stgE = s.stgE := rfl
@[simp] theorem State.setCtx_aon : (s.setCtx c x).aon = s.aon := rfl
@[simp] theorem State.setCtx_boot : (s.setCtx c x).boot = s.boot := rfl
@[simp] theorem State.setCtx_fab : (s.setCtx c x).fab = s.fab := rfl
@[simp] theorem State.setCtx_fw : (s.setCtx c x).fw = s.fw := rfl
@[simp] theorem State.setCtx_tal : (s.setCtx c x).tal = s.tal := rfl
@[simp] theorem State.setCtx_tcnt : (s.setCtx c x).tcnt = s.tcnt := rfl
@[simp] theorem State.setCtx_out : (s.setCtx c x).out = s.out := rfl
@[simp] theorem State.setCtx_free : (s.setCtx c x).free = s.free := rfl
@[simp] theorem State.setCtx_pending : (s.setCtx c x).pending = s.pending := rfl
end

section
variable (s : State) (n : Nat) (r : Region)
@[simp] theorem State.setRegion_regs : (s.setRegion n r).regs = s.regs := rfl
@[simp] theorem State.setRegion_evq : (s.setRegion n r).evq = s.evq := rfl
@[simp] theorem State.setRegion_rgr : (s.setRegion n r).rgr = s.rgr := rfl
@[simp] theorem State.setRegion_ports : (s.setRegion n r).ports = s.ports := rfl
@[simp] theorem State.setRegion_queues : (s.setRegion n r).queues = s.queues := rfl
@[simp] theorem State.setRegion_rops : (s.setRegion n r).rops = s.rops := rfl
@[simp] theorem State.setRegion_coh : (s.setRegion n r).coh = s.coh := rfl
@[simp] theorem State.setRegion_med : (s.setRegion n r).med = s.med := rfl
@[simp] theorem State.setRegion_cur : (s.setRegion n r).cur = s.cur := rfl
@[simp] theorem State.setRegion_slots : (s.setRegion n r).slots = s.slots := rfl
@[simp] theorem State.setRegion_keyOps : (s.setRegion n r).keyOps = s.keyOps := rfl
@[simp] theorem State.setRegion_drbg : (s.setRegion n r).drbg = s.drbg := rfl
@[simp] theorem State.setRegion_gov : (s.setRegion n r).gov = s.gov := rfl
@[simp] theorem State.setRegion_led : (s.setRegion n r).led = s.led := rfl
@[simp] theorem State.setRegion_stgE : (s.setRegion n r).stgE = s.stgE := rfl
@[simp] theorem State.setRegion_aon : (s.setRegion n r).aon = s.aon := rfl
@[simp] theorem State.setRegion_boot : (s.setRegion n r).boot = s.boot := rfl
@[simp] theorem State.setRegion_fab : (s.setRegion n r).fab = s.fab := rfl
@[simp] theorem State.setRegion_fw : (s.setRegion n r).fw = s.fw := rfl
@[simp] theorem State.setRegion_tal : (s.setRegion n r).tal = s.tal := rfl
@[simp] theorem State.setRegion_tcnt : (s.setRegion n r).tcnt = s.tcnt := rfl
@[simp] theorem State.setRegion_out : (s.setRegion n r).out = s.out := rfl
@[simp] theorem State.setRegion_free : (s.setRegion n r).free = s.free := rfl
@[simp] theorem State.setRegion_pending : (s.setRegion n r).pending = s.pending := rfl
end

section
variable (s : State) (l : Ledger)
@[simp] theorem State.setLed_regs : (s.setLed l).regs = s.regs := rfl
@[simp] theorem State.setLed_evq : (s.setLed l).evq = s.evq := rfl
@[simp] theorem State.setLed_rgr : (s.setLed l).rgr = s.rgr := rfl
@[simp] theorem State.setLed_ports : (s.setLed l).ports = s.ports := rfl
@[simp] theorem State.setLed_queues : (s.setLed l).queues = s.queues := rfl
@[simp] theorem State.setLed_regions : (s.setLed l).regions = s.regions := rfl
@[simp] theorem State.setLed_rops : (s.setLed l).rops = s.rops := rfl
@[simp] theorem State.setLed_coh : (s.setLed l).coh = s.coh := rfl
@[simp] theorem State.setLed_med : (s.setLed l).med = s.med := rfl
@[simp] theorem State.setLed_cur : (s.setLed l).cur = s.cur := rfl
@[simp] theorem State.setLed_slots : (s.setLed l).slots = s.slots := rfl
@[simp] theorem State.setLed_keyOps : (s.setLed l).keyOps = s.keyOps := rfl
@[simp] theorem State.setLed_drbg : (s.setLed l).drbg = s.drbg := rfl
@[simp] theorem State.setLed_gov : (s.setLed l).gov = s.gov := rfl
@[simp] theorem State.setLed_stgE : (s.setLed l).stgE = s.stgE := rfl
@[simp] theorem State.setLed_aon : (s.setLed l).aon = s.aon := rfl
@[simp] theorem State.setLed_boot : (s.setLed l).boot = s.boot := rfl
@[simp] theorem State.setLed_fab : (s.setLed l).fab = s.fab := rfl
@[simp] theorem State.setLed_fw : (s.setLed l).fw = s.fw := rfl
@[simp] theorem State.setLed_tal : (s.setLed l).tal = s.tal := rfl
@[simp] theorem State.setLed_tcnt : (s.setLed l).tcnt = s.tcnt := rfl
@[simp] theorem State.setLed_out : (s.setLed l).out = s.out := rfl
@[simp] theorem State.setLed_free : (s.setLed l).free = s.free := rfl
@[simp] theorem State.setLed_pending : (s.setLed l).pending = s.pending := rfl
end

section
variable (s : State) (e : Stg)
@[simp] theorem State.setStg_regs : (s.setStg e).regs = s.regs := rfl
@[simp] theorem State.setStg_evq : (s.setStg e).evq = s.evq := rfl
@[simp] theorem State.setStg_rgr : (s.setStg e).rgr = s.rgr := rfl
@[simp] theorem State.setStg_ports : (s.setStg e).ports = s.ports := rfl
@[simp] theorem State.setStg_queues : (s.setStg e).queues = s.queues := rfl
@[simp] theorem State.setStg_regions : (s.setStg e).regions = s.regions := rfl
@[simp] theorem State.setStg_rops : (s.setStg e).rops = s.rops := rfl
@[simp] theorem State.setStg_coh : (s.setStg e).coh = s.coh := rfl
@[simp] theorem State.setStg_med : (s.setStg e).med = s.med := rfl
@[simp] theorem State.setStg_cur : (s.setStg e).cur = s.cur := rfl
@[simp] theorem State.setStg_slots : (s.setStg e).slots = s.slots := rfl
@[simp] theorem State.setStg_keyOps : (s.setStg e).keyOps = s.keyOps := rfl
@[simp] theorem State.setStg_drbg : (s.setStg e).drbg = s.drbg := rfl
@[simp] theorem State.setStg_gov : (s.setStg e).gov = s.gov := rfl
@[simp] theorem State.setStg_led : (s.setStg e).led = s.led := rfl
@[simp] theorem State.setStg_aon : (s.setStg e).aon = s.aon := rfl
@[simp] theorem State.setStg_boot : (s.setStg e).boot = s.boot := rfl
@[simp] theorem State.setStg_fab : (s.setStg e).fab = s.fab := rfl
@[simp] theorem State.setStg_fw : (s.setStg e).fw = s.fw := rfl
@[simp] theorem State.setStg_tal : (s.setStg e).tal = s.tal := rfl
@[simp] theorem State.setStg_tcnt : (s.setStg e).tcnt = s.tcnt := rfl
@[simp] theorem State.setStg_out : (s.setStg e).out = s.out := rfl
@[simp] theorem State.setStg_free : (s.setStg e).free = s.free := rfl
@[simp] theorem State.setStg_pending : (s.setStg e).pending = s.pending := rfl
end

section
variable (s : State) (k : Nat) (p : Part)
@[simp] theorem State.setPart_regs : (s.setPart k p).regs = s.regs := rfl
@[simp] theorem State.setPart_evq : (s.setPart k p).evq = s.evq := rfl
@[simp] theorem State.setPart_rgr : (s.setPart k p).rgr = s.rgr := rfl
@[simp] theorem State.setPart_ports : (s.setPart k p).ports = s.ports := rfl
@[simp] theorem State.setPart_queues : (s.setPart k p).queues = s.queues := rfl
@[simp] theorem State.setPart_regions : (s.setPart k p).regions = s.regions := rfl
@[simp] theorem State.setPart_rops : (s.setPart k p).rops = s.rops := rfl
@[simp] theorem State.setPart_coh : (s.setPart k p).coh = s.coh := rfl
@[simp] theorem State.setPart_cur : (s.setPart k p).cur = s.cur := rfl
@[simp] theorem State.setPart_slots : (s.setPart k p).slots = s.slots := rfl
@[simp] theorem State.setPart_keyOps : (s.setPart k p).keyOps = s.keyOps := rfl
@[simp] theorem State.setPart_drbg : (s.setPart k p).drbg = s.drbg := rfl
@[simp] theorem State.setPart_gov : (s.setPart k p).gov = s.gov := rfl
@[simp] theorem State.setPart_led : (s.setPart k p).led = s.led := rfl
@[simp] theorem State.setPart_stgE : (s.setPart k p).stgE = s.stgE := rfl
@[simp] theorem State.setPart_aon : (s.setPart k p).aon = s.aon := rfl
@[simp] theorem State.setPart_boot : (s.setPart k p).boot = s.boot := rfl
@[simp] theorem State.setPart_fab : (s.setPart k p).fab = s.fab := rfl
@[simp] theorem State.setPart_fw : (s.setPart k p).fw = s.fw := rfl
@[simp] theorem State.setPart_tal : (s.setPart k p).tal = s.tal := rfl
@[simp] theorem State.setPart_tcnt : (s.setPart k p).tcnt = s.tcnt := rfl
@[simp] theorem State.setPart_out : (s.setPart k p).out = s.out := rfl
@[simp] theorem State.setPart_free : (s.setPart k p).free = s.free := rfl
@[simp] theorem State.setPart_pending : (s.setPart k p).pending = s.pending := rfl
end

section
variable (s : State) (c : Nat) (x : Chan)
@[simp] theorem State.setChan_regs : (s.setChan c x).regs = s.regs := rfl
@[simp] theorem State.setChan_evq : (s.setChan c x).evq = s.evq := rfl
@[simp] theorem State.setChan_rgr : (s.setChan c x).rgr = s.rgr := rfl
@[simp] theorem State.setChan_ports : (s.setChan c x).ports = s.ports := rfl
@[simp] theorem State.setChan_queues : (s.setChan c x).queues = s.queues := rfl
@[simp] theorem State.setChan_regions : (s.setChan c x).regions = s.regions := rfl
@[simp] theorem State.setChan_rops : (s.setChan c x).rops = s.rops := rfl
@[simp] theorem State.setChan_coh : (s.setChan c x).coh = s.coh := rfl
@[simp] theorem State.setChan_cur : (s.setChan c x).cur = s.cur := rfl
@[simp] theorem State.setChan_slots : (s.setChan c x).slots = s.slots := rfl
@[simp] theorem State.setChan_keyOps : (s.setChan c x).keyOps = s.keyOps := rfl
@[simp] theorem State.setChan_drbg : (s.setChan c x).drbg = s.drbg := rfl
@[simp] theorem State.setChan_gov : (s.setChan c x).gov = s.gov := rfl
@[simp] theorem State.setChan_led : (s.setChan c x).led = s.led := rfl
@[simp] theorem State.setChan_stgE : (s.setChan c x).stgE = s.stgE := rfl
@[simp] theorem State.setChan_aon : (s.setChan c x).aon = s.aon := rfl
@[simp] theorem State.setChan_boot : (s.setChan c x).boot = s.boot := rfl
@[simp] theorem State.setChan_fab : (s.setChan c x).fab = s.fab := rfl
@[simp] theorem State.setChan_fw : (s.setChan c x).fw = s.fw := rfl
@[simp] theorem State.setChan_tal : (s.setChan c x).tal = s.tal := rfl
@[simp] theorem State.setChan_tcnt : (s.setChan c x).tcnt = s.tcnt := rfl
@[simp] theorem State.setChan_out : (s.setChan c x).out = s.out := rfl
@[simp] theorem State.setChan_free : (s.setChan c x).free = s.free := rfl
@[simp] theorem State.setChan_pending : (s.setChan c x).pending = s.pending := rfl
end

section
variable (s : State) (d : Nat) (x : DieCnt)
@[simp] theorem State.setDie_regs : (s.setDie d x).regs = s.regs := rfl
@[simp] theorem State.setDie_evq : (s.setDie d x).evq = s.evq := rfl
@[simp] theorem State.setDie_rgr : (s.setDie d x).rgr = s.rgr := rfl
@[simp] theorem State.setDie_ports : (s.setDie d x).ports = s.ports := rfl
@[simp] theorem State.setDie_queues : (s.setDie d x).queues = s.queues := rfl
@[simp] theorem State.setDie_regions : (s.setDie d x).regions = s.regions := rfl
@[simp] theorem State.setDie_rops : (s.setDie d x).rops = s.rops := rfl
@[simp] theorem State.setDie_coh : (s.setDie d x).coh = s.coh := rfl
@[simp] theorem State.setDie_cur : (s.setDie d x).cur = s.cur := rfl
@[simp] theorem State.setDie_slots : (s.setDie d x).slots = s.slots := rfl
@[simp] theorem State.setDie_keyOps : (s.setDie d x).keyOps = s.keyOps := rfl
@[simp] theorem State.setDie_drbg : (s.setDie d x).drbg = s.drbg := rfl
@[simp] theorem State.setDie_gov : (s.setDie d x).gov = s.gov := rfl
@[simp] theorem State.setDie_led : (s.setDie d x).led = s.led := rfl
@[simp] theorem State.setDie_stgE : (s.setDie d x).stgE = s.stgE := rfl
@[simp] theorem State.setDie_aon : (s.setDie d x).aon = s.aon := rfl
@[simp] theorem State.setDie_boot : (s.setDie d x).boot = s.boot := rfl
@[simp] theorem State.setDie_fab : (s.setDie d x).fab = s.fab := rfl
@[simp] theorem State.setDie_fw : (s.setDie d x).fw = s.fw := rfl
@[simp] theorem State.setDie_tal : (s.setDie d x).tal = s.tal := rfl
@[simp] theorem State.setDie_tcnt : (s.setDie d x).tcnt = s.tcnt := rfl
@[simp] theorem State.setDie_out : (s.setDie d x).out = s.out := rfl
@[simp] theorem State.setDie_free : (s.setDie d x).free = s.free := rfl
@[simp] theorem State.setDie_pending : (s.setDie d x).pending = s.pending := rfl
end

section
variable (s : State) (p : Nat) (t : TileRec)
@[simp] theorem State.setTile_regs : (s.setTile p t).regs = s.regs := rfl
@[simp] theorem State.setTile_evq : (s.setTile p t).evq = s.evq := rfl
@[simp] theorem State.setTile_rgr : (s.setTile p t).rgr = s.rgr := rfl
@[simp] theorem State.setTile_ports : (s.setTile p t).ports = s.ports := rfl
@[simp] theorem State.setTile_queues : (s.setTile p t).queues = s.queues := rfl
@[simp] theorem State.setTile_regions : (s.setTile p t).regions = s.regions := rfl
@[simp] theorem State.setTile_rops : (s.setTile p t).rops = s.rops := rfl
@[simp] theorem State.setTile_coh : (s.setTile p t).coh = s.coh := rfl
@[simp] theorem State.setTile_cur : (s.setTile p t).cur = s.cur := rfl
@[simp] theorem State.setTile_slots : (s.setTile p t).slots = s.slots := rfl
@[simp] theorem State.setTile_keyOps : (s.setTile p t).keyOps = s.keyOps := rfl
@[simp] theorem State.setTile_drbg : (s.setTile p t).drbg = s.drbg := rfl
@[simp] theorem State.setTile_gov : (s.setTile p t).gov = s.gov := rfl
@[simp] theorem State.setTile_led : (s.setTile p t).led = s.led := rfl
@[simp] theorem State.setTile_stgE : (s.setTile p t).stgE = s.stgE := rfl
@[simp] theorem State.setTile_aon : (s.setTile p t).aon = s.aon := rfl
@[simp] theorem State.setTile_boot : (s.setTile p t).boot = s.boot := rfl
@[simp] theorem State.setTile_fab : (s.setTile p t).fab = s.fab := rfl
@[simp] theorem State.setTile_fw : (s.setTile p t).fw = s.fw := rfl
@[simp] theorem State.setTile_tal : (s.setTile p t).tal = s.tal := rfl
@[simp] theorem State.setTile_tcnt : (s.setTile p t).tcnt = s.tcnt := rfl
@[simp] theorem State.setTile_out : (s.setTile p t).out = s.out := rfl
@[simp] theorem State.setTile_free : (s.setTile p t).free = s.free := rfl
@[simp] theorem State.setTile_pending : (s.setTile p t).pending = s.pending := rfl
end

section
variable (s : State) (n : Nat) (r : StripeRec)
@[simp] theorem State.setStripe_regs : (s.setStripe n r).regs = s.regs := rfl
@[simp] theorem State.setStripe_evq : (s.setStripe n r).evq = s.evq := rfl
@[simp] theorem State.setStripe_rgr : (s.setStripe n r).rgr = s.rgr := rfl
@[simp] theorem State.setStripe_ports : (s.setStripe n r).ports = s.ports := rfl
@[simp] theorem State.setStripe_queues : (s.setStripe n r).queues = s.queues := rfl
@[simp] theorem State.setStripe_regions : (s.setStripe n r).regions = s.regions := rfl
@[simp] theorem State.setStripe_rops : (s.setStripe n r).rops = s.rops := rfl
@[simp] theorem State.setStripe_coh : (s.setStripe n r).coh = s.coh := rfl
@[simp] theorem State.setStripe_cur : (s.setStripe n r).cur = s.cur := rfl
@[simp] theorem State.setStripe_slots : (s.setStripe n r).slots = s.slots := rfl
@[simp] theorem State.setStripe_keyOps : (s.setStripe n r).keyOps = s.keyOps := rfl
@[simp] theorem State.setStripe_drbg : (s.setStripe n r).drbg = s.drbg := rfl
@[simp] theorem State.setStripe_gov : (s.setStripe n r).gov = s.gov := rfl
@[simp] theorem State.setStripe_led : (s.setStripe n r).led = s.led := rfl
@[simp] theorem State.setStripe_stgE : (s.setStripe n r).stgE = s.stgE := rfl
@[simp] theorem State.setStripe_aon : (s.setStripe n r).aon = s.aon := rfl
@[simp] theorem State.setStripe_boot : (s.setStripe n r).boot = s.boot := rfl
@[simp] theorem State.setStripe_fab : (s.setStripe n r).fab = s.fab := rfl
@[simp] theorem State.setStripe_fw : (s.setStripe n r).fw = s.fw := rfl
@[simp] theorem State.setStripe_tal : (s.setStripe n r).tal = s.tal := rfl
@[simp] theorem State.setStripe_tcnt : (s.setStripe n r).tcnt = s.tcnt := rfl
@[simp] theorem State.setStripe_out : (s.setStripe n r).out = s.out := rfl
@[simp] theorem State.setStripe_free : (s.setStripe n r).free = s.free := rfl
@[simp] theorem State.setStripe_pending : (s.setStripe n r).pending = s.pending := rfl
end

section
variable (s : State) (t : Nat) (e : CatEnt)
@[simp] theorem State.setCat_regs : (s.setCat t e).regs = s.regs := rfl
@[simp] theorem State.setCat_evq : (s.setCat t e).evq = s.evq := rfl
@[simp] theorem State.setCat_rgr : (s.setCat t e).rgr = s.rgr := rfl
@[simp] theorem State.setCat_ports : (s.setCat t e).ports = s.ports := rfl
@[simp] theorem State.setCat_queues : (s.setCat t e).queues = s.queues := rfl
@[simp] theorem State.setCat_regions : (s.setCat t e).regions = s.regions := rfl
@[simp] theorem State.setCat_rops : (s.setCat t e).rops = s.rops := rfl
@[simp] theorem State.setCat_coh : (s.setCat t e).coh = s.coh := rfl
@[simp] theorem State.setCat_cur : (s.setCat t e).cur = s.cur := rfl
@[simp] theorem State.setCat_slots : (s.setCat t e).slots = s.slots := rfl
@[simp] theorem State.setCat_keyOps : (s.setCat t e).keyOps = s.keyOps := rfl
@[simp] theorem State.setCat_drbg : (s.setCat t e).drbg = s.drbg := rfl
@[simp] theorem State.setCat_gov : (s.setCat t e).gov = s.gov := rfl
@[simp] theorem State.setCat_led : (s.setCat t e).led = s.led := rfl
@[simp] theorem State.setCat_stgE : (s.setCat t e).stgE = s.stgE := rfl
@[simp] theorem State.setCat_aon : (s.setCat t e).aon = s.aon := rfl
@[simp] theorem State.setCat_boot : (s.setCat t e).boot = s.boot := rfl
@[simp] theorem State.setCat_fab : (s.setCat t e).fab = s.fab := rfl
@[simp] theorem State.setCat_fw : (s.setCat t e).fw = s.fw := rfl
@[simp] theorem State.setCat_tal : (s.setCat t e).tal = s.tal := rfl
@[simp] theorem State.setCat_tcnt : (s.setCat t e).tcnt = s.tcnt := rfl
@[simp] theorem State.setCat_out : (s.setCat t e).out = s.out := rfl
@[simp] theorem State.setCat_free : (s.setCat t e).free = s.free := rfl
@[simp] theorem State.setCat_pending : (s.setCat t e).pending = s.pending := rfl
end

section
variable (s : State) (n : Nat) (a : Acc)
@[simp] theorem State.setAcc_regs : (s.setAcc n a).regs = s.regs := rfl
@[simp] theorem State.setAcc_evq : (s.setAcc n a).evq = s.evq := rfl
@[simp] theorem State.setAcc_rgr : (s.setAcc n a).rgr = s.rgr := rfl
@[simp] theorem State.setAcc_ports : (s.setAcc n a).ports = s.ports := rfl
@[simp] theorem State.setAcc_queues : (s.setAcc n a).queues = s.queues := rfl
@[simp] theorem State.setAcc_regions : (s.setAcc n a).regions = s.regions := rfl
@[simp] theorem State.setAcc_rops : (s.setAcc n a).rops = s.rops := rfl
@[simp] theorem State.setAcc_coh : (s.setAcc n a).coh = s.coh := rfl
@[simp] theorem State.setAcc_med : (s.setAcc n a).med = s.med := rfl
@[simp] theorem State.setAcc_slots : (s.setAcc n a).slots = s.slots := rfl
@[simp] theorem State.setAcc_keyOps : (s.setAcc n a).keyOps = s.keyOps := rfl
@[simp] theorem State.setAcc_drbg : (s.setAcc n a).drbg = s.drbg := rfl
@[simp] theorem State.setAcc_gov : (s.setAcc n a).gov = s.gov := rfl
@[simp] theorem State.setAcc_led : (s.setAcc n a).led = s.led := rfl
@[simp] theorem State.setAcc_stgE : (s.setAcc n a).stgE = s.stgE := rfl
@[simp] theorem State.setAcc_aon : (s.setAcc n a).aon = s.aon := rfl
@[simp] theorem State.setAcc_boot : (s.setAcc n a).boot = s.boot := rfl
@[simp] theorem State.setAcc_fab : (s.setAcc n a).fab = s.fab := rfl
@[simp] theorem State.setAcc_fw : (s.setAcc n a).fw = s.fw := rfl
@[simp] theorem State.setAcc_tal : (s.setAcc n a).tal = s.tal := rfl
@[simp] theorem State.setAcc_tcnt : (s.setAcc n a).tcnt = s.tcnt := rfl
@[simp] theorem State.setAcc_out : (s.setAcc n a).out = s.out := rfl
@[simp] theorem State.setAcc_free : (s.setAcc n a).free = s.free := rfl
@[simp] theorem State.setAcc_pending : (s.setAcc n a).pending = s.pending := rfl
end

section
variable (s : State) (x : Seal)
@[simp] theorem State.setSeal_regs : (s.setSeal x).regs = s.regs := rfl
@[simp] theorem State.setSeal_evq : (s.setSeal x).evq = s.evq := rfl
@[simp] theorem State.setSeal_rgr : (s.setSeal x).rgr = s.rgr := rfl
@[simp] theorem State.setSeal_ports : (s.setSeal x).ports = s.ports := rfl
@[simp] theorem State.setSeal_queues : (s.setSeal x).queues = s.queues := rfl
@[simp] theorem State.setSeal_regions : (s.setSeal x).regions = s.regions := rfl
@[simp] theorem State.setSeal_rops : (s.setSeal x).rops = s.rops := rfl
@[simp] theorem State.setSeal_coh : (s.setSeal x).coh = s.coh := rfl
@[simp] theorem State.setSeal_med : (s.setSeal x).med = s.med := rfl
@[simp] theorem State.setSeal_slots : (s.setSeal x).slots = s.slots := rfl
@[simp] theorem State.setSeal_keyOps : (s.setSeal x).keyOps = s.keyOps := rfl
@[simp] theorem State.setSeal_drbg : (s.setSeal x).drbg = s.drbg := rfl
@[simp] theorem State.setSeal_gov : (s.setSeal x).gov = s.gov := rfl
@[simp] theorem State.setSeal_led : (s.setSeal x).led = s.led := rfl
@[simp] theorem State.setSeal_stgE : (s.setSeal x).stgE = s.stgE := rfl
@[simp] theorem State.setSeal_aon : (s.setSeal x).aon = s.aon := rfl
@[simp] theorem State.setSeal_boot : (s.setSeal x).boot = s.boot := rfl
@[simp] theorem State.setSeal_fab : (s.setSeal x).fab = s.fab := rfl
@[simp] theorem State.setSeal_fw : (s.setSeal x).fw = s.fw := rfl
@[simp] theorem State.setSeal_tal : (s.setSeal x).tal = s.tal := rfl
@[simp] theorem State.setSeal_tcnt : (s.setSeal x).tcnt = s.tcnt := rfl
@[simp] theorem State.setSeal_out : (s.setSeal x).out = s.out := rfl
@[simp] theorem State.setSeal_free : (s.setSeal x).free = s.free := rfl
@[simp] theorem State.setSeal_pending : (s.setSeal x).pending = s.pending := rfl
end

section
variable (s : State) (gl : Nat) (l : Loan)
@[simp] theorem State.setLoan_regs : (s.setLoan gl l).regs = s.regs := rfl
@[simp] theorem State.setLoan_evq : (s.setLoan gl l).evq = s.evq := rfl
@[simp] theorem State.setLoan_rgr : (s.setLoan gl l).rgr = s.rgr := rfl
@[simp] theorem State.setLoan_ports : (s.setLoan gl l).ports = s.ports := rfl
@[simp] theorem State.setLoan_queues : (s.setLoan gl l).queues = s.queues := rfl
@[simp] theorem State.setLoan_regions : (s.setLoan gl l).regions = s.regions := rfl
@[simp] theorem State.setLoan_rops : (s.setLoan gl l).rops = s.rops := rfl
@[simp] theorem State.setLoan_med : (s.setLoan gl l).med = s.med := rfl
@[simp] theorem State.setLoan_cur : (s.setLoan gl l).cur = s.cur := rfl
@[simp] theorem State.setLoan_slots : (s.setLoan gl l).slots = s.slots := rfl
@[simp] theorem State.setLoan_keyOps : (s.setLoan gl l).keyOps = s.keyOps := rfl
@[simp] theorem State.setLoan_drbg : (s.setLoan gl l).drbg = s.drbg := rfl
@[simp] theorem State.setLoan_gov : (s.setLoan gl l).gov = s.gov := rfl
@[simp] theorem State.setLoan_led : (s.setLoan gl l).led = s.led := rfl
@[simp] theorem State.setLoan_stgE : (s.setLoan gl l).stgE = s.stgE := rfl
@[simp] theorem State.setLoan_aon : (s.setLoan gl l).aon = s.aon := rfl
@[simp] theorem State.setLoan_boot : (s.setLoan gl l).boot = s.boot := rfl
@[simp] theorem State.setLoan_fab : (s.setLoan gl l).fab = s.fab := rfl
@[simp] theorem State.setLoan_fw : (s.setLoan gl l).fw = s.fw := rfl
@[simp] theorem State.setLoan_tal : (s.setLoan gl l).tal = s.tal := rfl
@[simp] theorem State.setLoan_tcnt : (s.setLoan gl l).tcnt = s.tcnt := rfl
@[simp] theorem State.setLoan_out : (s.setLoan gl l).out = s.out := rfl
@[simp] theorem State.setLoan_free : (s.setLoan gl l).free = s.free := rfl
@[simp] theorem State.setLoan_pending : (s.setLoan gl l).pending = s.pending := rfl
end

section
variable (s : State) (gl w : Nat) (v : VLine)
@[simp] theorem State.setWay_regs : (s.setWay gl w v).regs = s.regs := rfl
@[simp] theorem State.setWay_evq : (s.setWay gl w v).evq = s.evq := rfl
@[simp] theorem State.setWay_rgr : (s.setWay gl w v).rgr = s.rgr := rfl
@[simp] theorem State.setWay_ports : (s.setWay gl w v).ports = s.ports := rfl
@[simp] theorem State.setWay_queues : (s.setWay gl w v).queues = s.queues := rfl
@[simp] theorem State.setWay_regions : (s.setWay gl w v).regions = s.regions := rfl
@[simp] theorem State.setWay_rops : (s.setWay gl w v).rops = s.rops := rfl
@[simp] theorem State.setWay_med : (s.setWay gl w v).med = s.med := rfl
@[simp] theorem State.setWay_cur : (s.setWay gl w v).cur = s.cur := rfl
@[simp] theorem State.setWay_slots : (s.setWay gl w v).slots = s.slots := rfl
@[simp] theorem State.setWay_keyOps : (s.setWay gl w v).keyOps = s.keyOps := rfl
@[simp] theorem State.setWay_drbg : (s.setWay gl w v).drbg = s.drbg := rfl
@[simp] theorem State.setWay_gov : (s.setWay gl w v).gov = s.gov := rfl
@[simp] theorem State.setWay_led : (s.setWay gl w v).led = s.led := rfl
@[simp] theorem State.setWay_stgE : (s.setWay gl w v).stgE = s.stgE := rfl
@[simp] theorem State.setWay_aon : (s.setWay gl w v).aon = s.aon := rfl
@[simp] theorem State.setWay_boot : (s.setWay gl w v).boot = s.boot := rfl
@[simp] theorem State.setWay_fab : (s.setWay gl w v).fab = s.fab := rfl
@[simp] theorem State.setWay_fw : (s.setWay gl w v).fw = s.fw := rfl
@[simp] theorem State.setWay_tal : (s.setWay gl w v).tal = s.tal := rfl
@[simp] theorem State.setWay_tcnt : (s.setWay gl w v).tcnt = s.tcnt := rfl
@[simp] theorem State.setWay_out : (s.setWay gl w v).out = s.out := rfl
@[simp] theorem State.setWay_free : (s.setWay gl w v).free = s.free := rfl
@[simp] theorem State.setWay_pending : (s.setWay gl w v).pending = s.pending := rfl
end

section
variable (s : State) (r : MRead)
@[simp] theorem State.setRead_regs : (s.setRead r).regs = s.regs := rfl
@[simp] theorem State.setRead_evq : (s.setRead r).evq = s.evq := rfl
@[simp] theorem State.setRead_rgr : (s.setRead r).rgr = s.rgr := rfl
@[simp] theorem State.setRead_ports : (s.setRead r).ports = s.ports := rfl
@[simp] theorem State.setRead_queues : (s.setRead r).queues = s.queues := rfl
@[simp] theorem State.setRead_regions : (s.setRead r).regions = s.regions := rfl
@[simp] theorem State.setRead_rops : (s.setRead r).rops = s.rops := rfl
@[simp] theorem State.setRead_coh : (s.setRead r).coh = s.coh := rfl
@[simp] theorem State.setRead_cur : (s.setRead r).cur = s.cur := rfl
@[simp] theorem State.setRead_slots : (s.setRead r).slots = s.slots := rfl
@[simp] theorem State.setRead_keyOps : (s.setRead r).keyOps = s.keyOps := rfl
@[simp] theorem State.setRead_drbg : (s.setRead r).drbg = s.drbg := rfl
@[simp] theorem State.setRead_gov : (s.setRead r).gov = s.gov := rfl
@[simp] theorem State.setRead_led : (s.setRead r).led = s.led := rfl
@[simp] theorem State.setRead_stgE : (s.setRead r).stgE = s.stgE := rfl
@[simp] theorem State.setRead_aon : (s.setRead r).aon = s.aon := rfl
@[simp] theorem State.setRead_boot : (s.setRead r).boot = s.boot := rfl
@[simp] theorem State.setRead_fab : (s.setRead r).fab = s.fab := rfl
@[simp] theorem State.setRead_fw : (s.setRead r).fw = s.fw := rfl
@[simp] theorem State.setRead_tal : (s.setRead r).tal = s.tal := rfl
@[simp] theorem State.setRead_tcnt : (s.setRead r).tcnt = s.tcnt := rfl
@[simp] theorem State.setRead_out : (s.setRead r).out = s.out := rfl
@[simp] theorem State.setRead_free : (s.setRead r).free = s.free := rfl
@[simp] theorem State.setRead_pending : (s.setRead r).pending = s.pending := rfl
end

section
variable (s : State) (o : RgnOp)
@[simp] theorem State.setRgnOp_regs : (s.setRgnOp o).regs = s.regs := rfl
@[simp] theorem State.setRgnOp_evq : (s.setRgnOp o).evq = s.evq := rfl
@[simp] theorem State.setRgnOp_rgr : (s.setRgnOp o).rgr = s.rgr := rfl
@[simp] theorem State.setRgnOp_ports : (s.setRgnOp o).ports = s.ports := rfl
@[simp] theorem State.setRgnOp_queues : (s.setRgnOp o).queues = s.queues := rfl
@[simp] theorem State.setRgnOp_regions : (s.setRgnOp o).regions = s.regions := rfl
@[simp] theorem State.setRgnOp_coh : (s.setRgnOp o).coh = s.coh := rfl
@[simp] theorem State.setRgnOp_med : (s.setRgnOp o).med = s.med := rfl
@[simp] theorem State.setRgnOp_cur : (s.setRgnOp o).cur = s.cur := rfl
@[simp] theorem State.setRgnOp_slots : (s.setRgnOp o).slots = s.slots := rfl
@[simp] theorem State.setRgnOp_keyOps : (s.setRgnOp o).keyOps = s.keyOps := rfl
@[simp] theorem State.setRgnOp_drbg : (s.setRgnOp o).drbg = s.drbg := rfl
@[simp] theorem State.setRgnOp_gov : (s.setRgnOp o).gov = s.gov := rfl
@[simp] theorem State.setRgnOp_led : (s.setRgnOp o).led = s.led := rfl
@[simp] theorem State.setRgnOp_stgE : (s.setRgnOp o).stgE = s.stgE := rfl
@[simp] theorem State.setRgnOp_aon : (s.setRgnOp o).aon = s.aon := rfl
@[simp] theorem State.setRgnOp_boot : (s.setRgnOp o).boot = s.boot := rfl
@[simp] theorem State.setRgnOp_fab : (s.setRgnOp o).fab = s.fab := rfl
@[simp] theorem State.setRgnOp_fw : (s.setRgnOp o).fw = s.fw := rfl
@[simp] theorem State.setRgnOp_tal : (s.setRgnOp o).tal = s.tal := rfl
@[simp] theorem State.setRgnOp_tcnt : (s.setRgnOp o).tcnt = s.tcnt := rfl
@[simp] theorem State.setRgnOp_out : (s.setRgnOp o).out = s.out := rfl
@[simp] theorem State.setRgnOp_free : (s.setRgnOp o).free = s.free := rfl
@[simp] theorem State.setRgnOp_pending : (s.setRgnOp o).pending = s.pending := rfl
end

section
variable (s : State) (n : Nat)
@[simp] theorem State.bootTo_regs : (s.bootTo n).regs = s.regs := rfl
@[simp] theorem State.bootTo_evq : (s.bootTo n).evq = s.evq := rfl
@[simp] theorem State.bootTo_rgr : (s.bootTo n).rgr = s.rgr := rfl
@[simp] theorem State.bootTo_ports : (s.bootTo n).ports = s.ports := rfl
@[simp] theorem State.bootTo_queues : (s.bootTo n).queues = s.queues := rfl
@[simp] theorem State.bootTo_regions : (s.bootTo n).regions = s.regions := rfl
@[simp] theorem State.bootTo_rops : (s.bootTo n).rops = s.rops := rfl
@[simp] theorem State.bootTo_coh : (s.bootTo n).coh = s.coh := rfl
@[simp] theorem State.bootTo_med : (s.bootTo n).med = s.med := rfl
@[simp] theorem State.bootTo_cur : (s.bootTo n).cur = s.cur := rfl
@[simp] theorem State.bootTo_slots : (s.bootTo n).slots = s.slots := rfl
@[simp] theorem State.bootTo_keyOps : (s.bootTo n).keyOps = s.keyOps := rfl
@[simp] theorem State.bootTo_drbg : (s.bootTo n).drbg = s.drbg := rfl
@[simp] theorem State.bootTo_gov : (s.bootTo n).gov = s.gov := rfl
@[simp] theorem State.bootTo_led : (s.bootTo n).led = s.led := rfl
@[simp] theorem State.bootTo_stgE : (s.bootTo n).stgE = s.stgE := rfl
@[simp] theorem State.bootTo_aon : (s.bootTo n).aon = s.aon := rfl
@[simp] theorem State.bootTo_fab : (s.bootTo n).fab = s.fab := rfl
@[simp] theorem State.bootTo_fw : (s.bootTo n).fw = s.fw := rfl
@[simp] theorem State.bootTo_tal : (s.bootTo n).tal = s.tal := rfl
@[simp] theorem State.bootTo_tcnt : (s.bootTo n).tcnt = s.tcnt := rfl
@[simp] theorem State.bootTo_out : (s.bootTo n).out = s.out := rfl
@[simp] theorem State.bootTo_free : (s.bootTo n).free = s.free := rfl
@[simp] theorem State.bootTo_pending : (s.bootTo n).pending = s.pending := rfl
end

section
variable (s : State) (f : Flush → Flush)
@[simp] theorem State.flushMod_regs : (s.flushMod f).regs = s.regs := rfl
@[simp] theorem State.flushMod_evq : (s.flushMod f).evq = s.evq := rfl
@[simp] theorem State.flushMod_rgr : (s.flushMod f).rgr = s.rgr := rfl
@[simp] theorem State.flushMod_ports : (s.flushMod f).ports = s.ports := rfl
@[simp] theorem State.flushMod_queues : (s.flushMod f).queues = s.queues := rfl
@[simp] theorem State.flushMod_regions : (s.flushMod f).regions = s.regions := rfl
@[simp] theorem State.flushMod_rops : (s.flushMod f).rops = s.rops := rfl
@[simp] theorem State.flushMod_coh : (s.flushMod f).coh = s.coh := rfl
@[simp] theorem State.flushMod_med : (s.flushMod f).med = s.med := rfl
@[simp] theorem State.flushMod_cur : (s.flushMod f).cur = s.cur := rfl
@[simp] theorem State.flushMod_slots : (s.flushMod f).slots = s.slots := rfl
@[simp] theorem State.flushMod_keyOps : (s.flushMod f).keyOps = s.keyOps := rfl
@[simp] theorem State.flushMod_drbg : (s.flushMod f).drbg = s.drbg := rfl
@[simp] theorem State.flushMod_led : (s.flushMod f).led = s.led := rfl
@[simp] theorem State.flushMod_stgE : (s.flushMod f).stgE = s.stgE := rfl
@[simp] theorem State.flushMod_aon : (s.flushMod f).aon = s.aon := rfl
@[simp] theorem State.flushMod_boot : (s.flushMod f).boot = s.boot := rfl
@[simp] theorem State.flushMod_fab : (s.flushMod f).fab = s.fab := rfl
@[simp] theorem State.flushMod_fw : (s.flushMod f).fw = s.fw := rfl
@[simp] theorem State.flushMod_tal : (s.flushMod f).tal = s.tal := rfl
@[simp] theorem State.flushMod_tcnt : (s.flushMod f).tcnt = s.tcnt := rfl
@[simp] theorem State.flushMod_out : (s.flushMod f).out = s.out := rfl
@[simp] theorem State.flushMod_free : (s.flushMod f).free = s.free := rfl
@[simp] theorem State.flushMod_pending : (s.flushMod f).pending = s.pending := rfl
end

end Sys2Proof.Machine
end

