-- ==== Sys2Proof/WellFormed.lean ====
section
/-! DEFINITION. Which commands are well formed: what the outside can send at all. Every relation the spec itself checks is checked
by the command's meaning; here stand only the sizes and the uniqueness that the carriers of the operands impose. -/

namespace Sys2Proof

/-- A mailbox payload holds at most 4,096 bytes (R312). -/
def payloadOk (b : List (BitVec 8)) : Bool := decide (b.length ≤ 4096)

/-- The lines of other devices that a command carries: each a gallery line, named once, in rising order. -/
def extOk : List (Nat × Line × Bool) → Bool
  | [] => true
  | e :: r => decide (e.1 < 2 ^ 44) && r.all (fun x => decide (e.1 < x.1)) && extOk r

/-- The remote lines a job has read, each named once, rising in both lists. -/
def jobLinesOk (ext : List (Nat × Line)) (lost : List Nat) : Bool :=
  extOk (ext.map (fun e => (e.1, e.2, false))) && extOk (lost.map (fun l => (l, 0, true))) &&
    ext.all (fun e => !lost.contains e.1)

/-- A membership record names each seat at most once (R344). -/
def seatsOk (l : List (Fin 64 × Word × BitVec 48)) : Bool := decide (l.map Prod.fst).Nodup


/-- Whether a command is well formed. DESIGN CHOICE, log 11. -/
def Instr.wf (i : Instr) : Bool :=
  match i with
  | .registerWrite _ _ _ _ _ _ => true
  | .readLowHalf _ _ _ _ => true
  | .deviceReset _ => true
  | .clampClear _ _ => true
  | .wingReset _ _ => true
  | .wingResetRelease _ => true
  | .ringRetry _ => true
  | .ringRequestTimeout _ _ _ => true
  | .cxlMemRead _ _ _ => true
  | .cxlMemWrite _ _ _ _ _ _ _ => true
  | .earlyAckDeliver _ _ => true
  | .gpfPhase1 _ => true
  | .gpfPhase2 _ => true
  | .hdmCommit _ _ _ _ _ _ _ _ => true
  | .perstDeassert _ => true
  | .portConfigLoaded _ => true
  | .hostLinkTrained _ _ _ _ => true
  | .perstAssert _ => true
  | .hotReset _ => true
  | .portLinkDown _ => true
  | .getEventRecords _ _ => true
  | .clearEventRecords _ _ _ handles => decide (handles.length ≤ 256)
  | .getEventInterruptPolicy _ => true
  | .setEventInterruptPolicy _ _ => true
  | .getFwInfo _ => true
  | .transferFwInitiate _ data _ => payloadOk data
  | .transferFwContinue _ _ data => payloadOk data
  | .transferFwEnd _ _ data _ => payloadOk data
  | .transferFwAbort _ => true
  | .fwTransferCheckDone => true
  | .transferIdleTimeout => true
  | .activateFwOnline _ _ _ => true
  | .activateFwOffline _ _ => true
  | .getTimestamp _ => true
  | .getSupportedLogs _ => true
  | .getLog _ _ _ _ => true
  | .identifyMemoryDevice _ => true
  | .getPartitionInfo _ => true
  | .getLsa _ _ _ => true
  | .setLsa _ _ data => payloadOk data
  | .getHealthInfo _ => true
  | .getAlertConfiguration _ => true
  | .setAlertConfiguration _ _ _ _ => true
  | .getShutdownState _ => true
  | .setShutdownState _ _ => true
  | .getPoisonList _ _ _ => true
  | .injectPoison _ _ => true
  | .clearPoison _ _ _ => true
  | .svapelRegisterRead _ _ _ => true
  | .svapelRegisterWrite _ _ _ _ _ => true
  | .svapelGetBreachList _ _ => true
  | .svapelAcknowledgeBreach _ => true
  | .mailboxUnsupported _ _ => true
  | .push _ _ _ _ _ => true
  | .pushmore _ _ _ _ _ => true
  | .pop _ _ _ _ _ _ => true
  | .atqEnable _ _ _ => true
  | .atqDisable _ _ _ => true
  | .atqReset _ _ => true
  | .atqClose _ _ => true
  | .atqArm _ _ => true
  | .msixUnmask _ _ => true
  | .callDispatch _ _ => true
  | .completionQueueRoom _ => true
  | .programLoad _ => true
  | .programLoadDone ext => extOk ext
  | .programUnload _ _ => true
  | .callAbort _ _ => true
  | .illegalInstruction _ _ => true
  | .add _ _ _ _ => true
  | .sub _ _ _ _ => true
  | .and _ _ _ _ => true
  | .or _ _ _ _ => true
  | .xor _ _ _ _ => true
  | .sll _ _ _ _ => true
  | .srl _ _ _ _ => true
  | .sra _ _ _ _ => true
  | .slt _ _ _ _ => true
  | .sltu _ _ _ _ => true
  | .min _ _ _ _ => true
  | .max _ _ _ _ => true
  | .minu _ _ _ _ => true
  | .maxu _ _ _ _ => true
  | .mul _ _ _ _ => true
  | .mulh _ _ _ _ => true
  | .mulhu _ _ _ _ => true
  | .div _ _ _ _ => true
  | .divu _ _ _ _ => true
  | .rem _ _ _ _ => true
  | .remu _ _ _ _ => true
  | .clz _ _ _ => true
  | .ctz _ _ _ => true
  | .popc _ _ _ => true
  | .sextb _ _ _ => true
  | .sexth _ _ _ => true
  | .sextw _ _ _ => true
  | .zextw _ _ _ => true
  | .bswap _ _ _ => true
  | .addi _ _ _ _ => true
  | .andi _ _ _ _ => true
  | .ori _ _ _ _ => true
  | .xori _ _ _ _ => true
  | .slti _ _ _ _ => true
  | .sltiu _ _ _ _ => true
  | .lui _ _ _ => true
  | .slli _ _ _ _ => true
  | .srli _ _ _ _ => true
  | .srai _ _ _ _ => true
  | .shori _ _ _ _ => true
  | .lb _ _ _ _ _ => true
  | .lh _ _ _ _ _ => true
  | .lw _ _ _ _ _ => true
  | .ld _ _ _ _ _ => true
  | .lbu _ _ _ _ _ => true
  | .lhu _ _ _ _ _ => true
  | .lwu _ _ _ _ _ => true
  | .sb _ _ _ _ => true
  | .sh _ _ _ _ => true
  | .sw _ _ _ _ => true
  | .sd _ _ _ _ => true
  | .aswap _ _ _ _ _ _ => true
  | .aadd _ _ _ _ _ _ => true
  | .aand _ _ _ _ _ _ => true
  | .aor _ _ _ _ _ _ => true
  | .axor _ _ _ _ _ _ => true
  | .amin _ _ _ _ _ _ => true
  | .amax _ _ _ _ _ _ => true
  | .aminu _ _ _ _ _ _ => true
  | .amaxu _ _ _ _ _ _ => true
  | .acas _ _ _ _ _ _ => true
  | .beq _ _ _ _ => true
  | .bne _ _ _ _ => true
  | .blt _ _ _ _ => true
  | .bge _ _ _ _ => true
  | .bltu _ _ _ _ => true
  | .bgeu _ _ _ _ => true
  | .jal _ _ _ => true
  | .jalr _ _ _ _ => true
  | .fence _ => true
  | .fenceG _ _ => true
  | .fenceI _ => true
  | .cwrd _ _ _ => true
  | .cwwr _ _ _ => true
  | .trap _ _ => true
  | .pause _ _ => true
  | .pauseEnd _ => true
  | .psync _ _ => true
  | .zline _ _ => true
  | .jsubC _ _ _ ext => extOk ext
  | .jsubM _ _ _ ext => extOk ext
  | .jsubS _ _ _ ext => extOk ext
  | .jwait _ _ _ ext => extOk ext
  | .jpoll _ _ _ ext => extOk ext
  | .qget _ _ _ _ _ _ => true
  | .qgetw _ _ _ _ _ _ => true
  | .qput _ _ _ _ ext => extOk ext
  | .accreate _ _ _ ext => extOk ext
  | .acinfo _ _ _ _ => true
  | .acdelete _ _ _ => true
  | .rgncreate _ _ _ ext => extOk ext
  | .rgnchange _ _ _ ext => extOk ext
  | .rgndelete _ _ _ => true
  | .keyset _ _ _ _ ext => extOk ext
  | .keyclr _ _ _ => true
  | .admrd _ _ _ => true
  | .admwr _ _ _ _ => true
  | .done _ => true
  | .sret _ => true
  | .scall _ _ => true
  | .loadResponse _ _ => true
  | .storeBufferLeave _ _ _ => true
  | .storeRefusal _ => true
  | .deadlineReached _ => true
  | .faultDelivery _ _ => true
  | .jobStart _ _ => true
  | .cipherJobComplete _ _ ext _ lost _ => jobLinesOk ext lost
  | .moverJobComplete _ _ ext _ lost => jobLinesOk ext lost
  | .sealPathSwitched _ => true
  | .sealStripesOnMedia _ => true
  | .sealHashDone _ _ => true
  | .sealCommit _ => true
  | .sealRecordWritten _ => true
  | .regionSliceSwitch _ _ => true
  | .regionOpStatus _ => true
  | .regionDeleteFree _ => true
  | .read _ _ _ _ => true
  | .own _ _ => true
  | .peek _ _ _ _ => true
  | .write _ _ _ _ _ _ => true
  | .atomic _ _ _ _ _ _ _ _ => true
  | .zero _ _ _ => true
  | .writeback _ => true
  | .homeRequestStart _ _ => true
  | .snoopResponse _ _ => true
  | .allocationRetry _ _ => true
  | .evictionWriteback _ _ => true
  | .governorEvict _ _ => true
  | .wingInvalidateAll _ _ => true
  | .wingInvalidateDone => true
  | .loanWaysChange _ _ => true
  | .loanWaysDone => true
  | .wayDisableDone _ _ => true
  | .wayCountWindow => true
  | .wayEnable _ _ _ => true
  | .vitLookupWrite _ _ => true
  | .lread _ _ _ _ _ => true
  | .lown _ _ _ _ _ => true
  | .fread _ _ _ _ _ => true
  | .fwrite _ _ _ _ _ _ _ _ => true
  | .fabricOwn _ _ _ _ _ => true
  | .dlv _ _ _ _ _ _ _ _ => true
  | .release _ _ _ _ _ => true
  | .recall _ _ _ _ => true
  | .inv _ _ _ _ => true
  | .fatomic _ _ _ _ _ _ _ _ _ _ => true
  | .fabricData _ _ _ _ _ _ => true
  | .fabricDone _ _ _ _ => true
  | .granted _ _ _ _ _ => true
  | .invack _ _ _ _ => true
  | .fatomicResult _ _ _ _ _ => true
  | .homedown _ _ _ => true
  | .fabricAttemptTimeout _ _ => true
  | .fabricRequestLost _ _ _ => true
  | .outboundLingerExpire _ _ => true
  | .startAnnouncement _ => true
  | .grantSweep _ => true
  | .awayRelease _ _ => true
  | .configExchange _ _ _ _ _ _ _ _ => true
  | .fabricPortTrainTimeout _ => true
  | .fabricPortDownRetry _ => true
  | .fabricRetrain _ => true
  | .laneLockLoss _ => true
  | .fabricRetrainTimeout _ => true
  | .fabPctlWrite _ _ _ => true
  | .flitPayload _ _ _ _ _ _ _ => true
  | .flitTag _ _ _ _ _ _ _ => true
  | .flitNak _ _ _ _ _ _ _ _ => true
  | .flitIdle _ _ _ _ _ _ _ => true
  | .delayProbe _ _ _ => true
  | .linkRekey _ => true
  | .messageForward _ _ _ _ => true
  | .linkRecord _ _ _ _ _ _ => true
  | .linkRecordTimer => true
  | .joinQuietEnd => true
  | .claim _ _ _ _ _ record _ => seatsOk record
  | .membershipCommit _ _ record => seatsOk record
  | .joinComplete => true
  | .lateJoin _ _ _ _ _ record _ => seatsOk record
  | .assign _ _ _ _ => true
  | .evict _ _ _ _ => true
  | .dropfwd _ _ _ _ => true
  | .timeBeacon _ _ _ => true
  | .vtset _ _ => true
  | .vaultTimeSave => true
  | .broadcast _ _ _ => true
  | .snapshot _ _ _ _ => true
  | .reset _ _ _ => true
  | .snapshotTimeReached => true
  | .gopMemberTimeout _ => true
  | .barrierArrive _ _ _ => true
  | .barrierComplete _ => true
  | .mediaReadRequest _ _ _ => true
  | .leafReadDone _ _ _ _ => true
  | .reconstructSourceDone _ _ _ _ _ => true
  | .pauseMiss _ _ => true
  | .bestwaitExpire _ _ => true
  | .rowTokenGrant _ => true
  | .leafWriteDone _ _ => true
  | .inplaceWriteback _ _ _ => true
  | .mediaRead _ _ _ _ _ _ _ _ => true
  | .mediaWrite _ _ _ _ _ => true
  | .mediaSuspend _ _ _ _ => true
  | .mediaResume _ _ _ _ => true
  | .mediaStatus _ _ _ _ _ => true
  | .mediaTemp _ _ _ _ => true
  | .mediaIdent _ _ _ _ => true
  | .mediaDiereset _ _ _ => true
  | .mediaCmdTimeout _ => true
  | .malertN _ _ => true
  | .journalWrite => true
  | .checkpoint => true
  | .checkpointDone => true
  | .builderLine _ _ => true
  | .builderSpill _ _ _ => true
  | .builderAgeExpire _ => true
  | .builderStripeVerified _ fails => decide fails.Nodup
  | .channelPauseRequest _ => true
  | .channelPauseEnter _ => true
  | .channelPauseEnd _ => true
  | .conLogWrite => true
  | .conCheckpointChunk => true
  | .conMetackpt => true
  | .tileMove _ _ lost _ => decide lost.Nodup
  | .tileMoveEnd _ => true
  | .excision _ => true
  | .excisionEnd => true
  | .wearPass => true
  | .driftPass _ _ => true
  | .sentinelRewrite _ _ => true
  | .tileRefresh _ _ => true
  | .scrubPosition _ _ => true
  | .scrubRestart => true
  | .reclaim _ => true
  | .rebuildStripe _ => true
  | .tempHistogram => true
  | .histogramSave => true
  | .stagingRead _ _ _ _ _ _ _ _ _ _ _ _ _ _ => true
  | .stagingWrite _ _ _ _ _ _ _ => true
  | .stagingMerge _ _ _ _ _ _ _ _ _ _ _ _ _ _ _ => true
  | .stagingReinitDone => true
  | .trngReseed _ _ => true
  | .trngRestart _ => true
  | .onchipScrub _ _ _ _ _ _ => true
  | .ddr4Scrub _ _ _ _ => true
  | .injArm _ _ => true
  | .injDisarm _ _ => true
  | .injDisarmAll _ _ => true
  | .eventArrival _ _ => true
  | .rateWindowClose _ => true
  | .annalWrite => true
  | .annalWriteDone => true
  | .annalPeriodic => true
  | .recFlush => true
  | .recordWindowCopy _ _ => true
  | .recordWindowReady _ => true
  | .recIrqCoalesce _ => true
  | .pageRead _ _ => true
  | .pageWriteStart _ _ _ => true
  | .guardRetry _ => true
  | .pageWriteDone _ _ => true
  | .ldgRawRead _ => true
  | .ldgRawWrite _ => true
  | .twoCopyRead _ _ => true
  | .twoCopyWrite _ _ => true
  | .ledgerScrub _ _ => true
  | .progressRecord => true
  | .vauxValid _ _ _ => true
  | .vauxLost => true
  | .sledRecordRead _ _ => true
  | .powerUpStart => true
  | .gateOffFail _ => true
  | .railEnable _ => true
  | .powerGoodChange _ _ => true
  | .railQualified _ => true
  | .railPgwinExpire _ => true
  | .powerUpRetry => true
  | .railPgLoss _ => true
  | .railDisable _ => true
  | .railFallTimeout _ => true
  | .resetOutputRise _ => true
  | .adcConversion _ _ => true
  | .inokQualified => true
  | .ebNOpen => true
  | .ebTrigger => true
  | .ebArm => true
  | .sensorConversion _ _ => true
  | .throttleFall => true
  | .lockoutEnd => true
  | .dieTempRead _ _ => true
  | .backoffEnd _ => true
  | .governorRecompute => true
  | .holdRelease _ _ => true
  | .lowenergyExit => true
  | .measureRequest _ _ => true
  | .measureInterval => true
  | .bankStable => true
  | .measureStartTimeout => true
  | .measureSampleV0 => true
  | .measureLoadOn => true
  | .measureSampleV1 => true
  | .measureSampleV2 => true
  | .measureEnd => true
  | .measureRetry => true
  | .measureRepeat => true
  | .breachAck _ => true
  | .flushStoreDrainDone => true
  | .flushWingWritebackDone => true
  | .flushStagingMoveDone => true
  | .flushForwardHold => true
  | .flushDeliveryDone => true
  | .flushJournalTailDone => true
  | .flushRegistrarDone => true
  | .flushStagingWriteDone => true
  | .flushJournalDone => true
  | .flushRecordDone => true
  | .flushEnergyCheck => true
  | .flushAbandon => true
  | .resetHoldEnd => true
  | .wardenRomDone _ _ _ lib => decide (lib.length ≤ 15)
  | .selftestDone _ => true
  | .stagingInitDone _ _ _ _ => true
  | .catalogueRebuildDone _ => true
  | .conservatorRestoreDone _ => true
  | .dieAdmissionDone _ => true
  | .recoveryWorkDone => true
  | .flushRecordExamined => true
  | .joinEnter => true
  | .startOpen => true
  | .online _ _ _ => true
  | .offline _ _ => true
  | .commitSvn _ _ => true
  | .cancel _ _ => true
  | .wfwHandover => true
  | .wfwReadyTimeout => true
  | .mcodeSwitch _ _ => true
  | .serdesRetrain _ _ => true
  | .rtlDrainExpire => true
  | .rtlReplaced lib _ => decide (lib.length ≤ 15)
  | .tallyClear _ _ _ => true
  | .tallyClearAll _ => true
  | .tallySnap _ => true
  | .tallyPeriodic => true
  | .tallyLatch => true
  | .tallyGatherDone => true
  | .ebNClose => true
  | .receiverDetect _ => true
  | .bitLock _ _ _ => true
  | .snoop _ _ _ => true
  | .sequencerFault _ => true
  | .tallyOverflow _ _ => true
  | .jtagInstruction _ => true
  | .ddr4ParityAlert _ => true

end Sys2Proof
end

