-- ==== Sys2Proof/Tests/Slice0.lean ====
section
/-! SUPPORT. The model's own tests: small states, a term refused by each well-formedness check, the spec's worked
examples, single steps, and for each obligation `meets_<Name>`: concrete values that meet the hypotheses of each of its
clauses. -/

set_option maxRecDepth 200000
set_option linter.unusedVariables false
set_option Elab.async false

namespace Sys2Proof.Machine

/-- OPEN with port 0 up: link mode CXL, configuration loaded. -/
def sUp : State :=
  ((State.reset.wr D.GBL_STAT_state stOpen).wrP D.HST_STAT_mode 0 2).setPort 0
    { Port.init with perst := false, loaded := true }

/-- `sUp` with queue 5 enabled and of type DATA. -/
def sQueue : State := (sUp.wr D.ATQ_CFG_enable 1 5).wr D.ATQ_CFG_type 2 5

/-- The first register row that holds offset 0x40. -/
def REG0x40 : RegRow :=
  match regHit 0x40 8 with
  | .reg r _ _ _ => r
  | _ => ⟨"", 0, 0, 0, 0, []⟩

/-- `sUp` with a valid set B of data format 1. -/
def sFw : State :=
  { (sUp.wr D.FWU_STAT_validb 1).wr D.FWU_ARB_fmtcur 1 with fw := { Fw.init with hdrB := BitVec.ofNat 4096 (0x010101 * 2 ^ 112) } }

/-- A program of one entry. -/
def progOne : Program :=
  { priv := .guest, guestExports := false, page := 0, pages := 2, code := 0, size := 4096, entries := [0, 8], imports := [],
    exports := [], lib := 0, version := 0, draining := false }

/-- A call entry of program 20. -/
def callLine : Line := BitVec.ofNat 512 (20 * 2 ^ 46 + 2 ^ 56)

/-- `sUp` with program 20 loaded and a call waiting in queue 3. -/
def sCall : State :=
  let q := ((sUp.wr D.ATQ_CFG_enable 1 3).wr D.ATQ_CFG_type 0 3).setQueue 3 ⟨[⟨callLine, false⟩], [], false, false⟩
  { q with cur := { q.cur with progs := [(20, progOne)] } }

/-- `sCall` with context 3 running program 20 and two registers set. -/
def sRun : State :=
  sCall.setCtx 3 { Ctx.init with st := .running, prog := 20, callProg := 20, x := [(2, 40), (4, 0xFFFFFFFFFFFFFFFE#64)] }

/-- `sRun` with seat 0. -/
def sSeat : State :=
  (((sRun.wr D.GBL_STAT_seated 1).wr D.FAB_STAT_seat 0).wr D.PWR_PGBUD_bytes 65536).wr D.CIP_STAT_engines 15

/-- `sSeat` whose context 3 has a store buffered. -/
def sBuf : State := sSeat.setCtx 3 { sSeat.ctx 3 with sb := [⟨0, BitVec.ofNat 512 (0x88 * 2 ^ 64), fullMask, 0, false, false⟩] }

/-- `sSeat` whose wing 0 owns line 0. -/
def sOwn : State := (sSeat.wset 0 0 ⟨.modified, 0x77, false⟩).wr D.CLO_CTL_atompl 2

/-- `sSeat` whose context 3 names line 1 by x5 and queue 5 by x6; queue 5 holds an entry, and wing 0 owns line 1. -/
def sGet : State :=
  ((((sSeat.setCtx 3 { sSeat.ctx 3 with x := [(4, 0xFFFFFFFFFFFFFFFE#64), (5, 64), (6, 5)] }).wr D.ATQ_CFG_enable 1 5).wr
    D.ATQ_CFG_type 2 5).wr D.ATQ_CFG_priv 0 5).setQueue 5 ⟨[⟨7, false⟩], [], false, false⟩ |>.wset 0 1 ⟨.modified, 9, false⟩

/-- `sGet` at STEWARD. -/
def sSteward : State := sGet.setCtx 3 { sGet.ctx 3 with priv := .steward, x := [(2, 7), (5, 64), (6, 5), (4, 0xFFFFFFFFFFFFFFFE#64)] }

/-- A descriptor of one tile in region 3, and `sGet` with it in line 1, a LIVE region and an HMAC key. -/
def accLine : Line := BitVec.ofNat 512 (5 * 2 ^ 24 + 16384 * 2 ^ 64 + 2 ^ 128)
def attrSeal : Attr := ⟨.wb, false, true, false, true, 127, false, false⟩
def sAcc : State :=
  { sGet.wset 0 1 ⟨.modified, accLine, false⟩ with
    regions := [(3, ⟨.live, 5, 1, 0, attrSeal, 0⟩)], slots := [(0, ⟨.hmac, 0, 7⟩)] }

/-- A region descriptor of one granule, and `sSteward` with it in line 1. -/
def rgnLine : Line := BitVec.ofNat 512 (3 * 2 ^ 50 + 5 * 2 ^ 24 + 2 ^ 64 + 127 * 2 ^ 128)
def sRgn : State := sSteward.wset 0 1 ⟨.modified, rgnLine, false⟩

/-- `sGet` with a mover job. -/
def sJob : State := sGet.setCtx 3 { sGet.ctx 3 with jobs := [⟨64, .mover, 9, false, [], 0, false, none⟩] }
def sMover : State := sGet.setCtx 3 { sGet.ctx 3 with jobs := [⟨64, .mover, BitVec.ofNat 512 (2 * 2 ^ 56), true, [], 0, false, none⟩] }

/-- A seal of accession 0. -/
def seal2 : Seal := ⟨0, none, 0, 0, 64, 2, 0, 0, 0, false⟩
def sSeal (x : Seal) : State :=
  let u := ({ sSeat with slots := [(0, ⟨.hmac, 0, 7⟩)] } : State).setAcc 0 { Acc.init with st := .sealing, limit := 16384, maxsegs := 1 }
  { u with cur := { u.cur with seals := [x] } }

/-- A create of region 3. -/
def rop3 : RgnOp := ⟨.create, 3, some 3, Region.init 3, ⟨.live, 5, 1, 0, attrSeal, 0⟩, false, true, 0, [], false, false, false⟩
def sRop (o : RgnOp) : State := { sSteward with rops := [o] }

/-- `sSeat` whose vitrine holds line 1, with a read of it waiting at port 0. -/
def sPeek : State :=
  (sSeat.setWay 1 0 ⟨1, 9, false, false, .local⟩).setPort 0 { sSeat.port 0 with reads := [⟨7, 64⟩] }

/-- `sPeek` with decoder 0 of port 0 over the first 4 KiB and no read. -/
def sHdm : State :=
  sPeek.setPort 0 { sPeek.port 0 with reads := [], decs := [(0, ⟨0, 4096, 0, 8, true, false⟩)] }

/-- A request in progress for line 1 at its snoop. -/
def txn1 : Txn := { Txn.start ⟨.peek, 1, .dev, 0, 0, false, none⟩ false true with phase := .snoop }
def sTxn (t : Txn) : State := sPeek.setTxn 1 t

/-- `sPeek` joined, with no read waiting; the same with line 1 in a region that lends; and a request outstanding toward
seat 1. -/
def sJoined : State := sPeek.wr D.FAB_STAT_join 4
def sLend : State :=
  { sJoined with regions := [(3, ⟨.live, 0, 1, 0, ⟨.wb, false, false, false, false, 127, false, true⟩, 0⟩)] }
def freqOf (k : FKind) : FReq := ⟨k, 1, 7, true, 2 ^ 38, .dev, 0, 0, false, none, 1, false⟩
def sReq (r : FReq) : State := { sJoined with coh := { sJoined.coh with freqs := [(tagKey 1 7, r)] } }

/-- A UID that is not this device's. -/
def otherUid : Word := if Config.uid = 5 then 6 else 5

/-- A device that holds a membership record. -/
def withRecord (s : State) : State := { s with fab := { s.fab with record := true } }

/-- A keeper whose port 2 is ACTIVE toward the unseated device 9. -/
def sMember : State :=
  let u := ((sUp.wr D.FAB_STAT_keeper 1).wr D.FAB_PSTAT_state 4 2).wr D.FAB_PNBR_uid 9 2
  { u with fab := { u.fab with recs := [(9, ⟨none, 1, 0, []⟩)] } }

/-- A posted write of port 0. -/
def reqW : Req := ⟨.write, 1, .port 0 3, 5, fullMask, false, none⟩

/-- A media read of leaf 2 of tile 5; `sUp` with that tile at physical tile 100, region 0 under key slot 0, and a read. -/
def read5 : MRead := ⟨5, 2, false, .queued, [], [], [], 0, none, false, false⟩
def sMed (r : MRead) : State :=
  { sUp with
    regions := [(0, { Region.init 0 with attr := { Attr.default with keyslot := 0 } })], slots := [(0, ⟨.aes128, 0, 7⟩)]
    med := { sUp.med with cat := [(5, ⟨.mapped, false, false, 0, 100, 4⟩)], reads := [r] } }

/-- The state with an image of leaf 2 of tile 5. -/
def sImg (i : Image) (s : State) : State := { s with med := { s.med with img := [(6402, i)] } }

/-- An APPEND region with a builder and a dirty line of tile 5. -/
def sBld (b : Builder) : State :=
  { sUp with
    regions := [(0, { Region.init 0 with attr := { Attr.default with append := true } })]
    med := { sUp.med with stg := [(1292, ⟨9, fullMask, false, true⟩)], builders := [b] } }

/-- `sUp` with tile 5 on physical tile 100, whose retirement is forced, in INUSE stripe 100. -/
def sCon : State :=
  { sUp with med := { sUp.med with
      cat := [(5, ⟨.mapped, false, false, 0, 100, 4⟩)], tiles := [(100, { TileRec.init 100 with st := 1, forced := true })]
      stripes := [(100, { StripeRec.init 100 with st := 2, mapped := 1 })] } }

/-- A device with almost every stripe in use. -/
def sFull : State :=
  { sUp with med := { sUp.med with stripes := List.replicate 33554000 (5, { StripeRec.init 5 with st := 2, mapped := 9 }) } }

/-- `sUp` with the staging engine on under fixed keys, holding protected line 9. -/
def line9 : DdrLine := ⟨3, 77, lineMac 2 3 9 3 77⟩
def sStg : State :=
  ({ sUp with stgE := { sUp.stgE with keys := some (1, 2, 3), lines := [(9, line9)] } } : State).wr D.STG_STAT_state 2

/-- `sUp` with the registrar running. -/
def sRgr : State := { sUp with rgr := { sUp.rgr with running := true } }

/-- A sled power record of zeros behind a good header; and a flush at its second step. -/
def sledRec : BitVec 1280 :=
  let v := 0x5350_5448 + 2 ^ 32 + 160 * 2 ^ 48
  BitVec.ofNat 1280 (v + crc32 v 156 * 2 ^ 1248)
def flushOf : Flush := ⟨2, 1, true, false, false, 0, 0, [], [], [], 0⟩

/-- A port in CONFIG of a device whose stored record gives it seat 0. -/
def sForeign : State :=
  let u := sUp.wr D.FAB_PSTAT_state fpConfig 2
  { u with regs := SMap.ins u.regs (D.FAB_MEMUID_uid.key 0) Config.uid.toNat, fab := { u.fab with record := true } }

theorem sForeign_seat : sForeign.storedSeat.isSome = true := by
  rw [State.storedSeat, if_pos (show sForeign.fab.record = true from rfl), List.find?_isSome]
  exact ⟨0, by decide, decide_eq_true rfl⟩

theorem otherUid_ne : otherUid ≠ 0 ∧ otherUid ≠ Config.uid := by
  unfold otherUid
  split
  · next h => rw [h]; decide
  · next h => exact ⟨by decide, fun e => h e.symm⟩

theorem sFull_open : sFull.openStripes < 262144 := by
  have h : (sFull.med.stripes.filter (fun e => decide (1 < e.2.st) && !isSentinel e.1)).length = 33554000 := by
    rw [show sFull.med.stripes = List.replicate 33554000 (5, { StripeRec.init 5 with st := 2, mapped := 9 }) from rfl,
      List.filter_replicate, if_pos (by decide), List.length_replicate]
  rw [State.openStripes, h]
  decide

theorem line9_found : SMap.find sStg.stgE.lines 9 = some line9 := rfl

theorem tag_hyp (s : State) (p : Nat) (h1 : s.rd D.FAB_PNBR_uid p = 0) (h2 : (s.fport p).rekeys = 0)
    (h3 : (s.fport p).batches = 0) (h4 : (s.fport p).batch = []) :
    gcmTag (leBytes (5 : BitVec 256).toNat 32) (batchNonce (decide (s.rd D.FAB_PNBR_uid p < myUid)) (s.fport p).rekeys
      (s.fport p).batches) (batchAad (s.fport p).batch) (batchBytes (s.fport p).batch) =
      leBytes (tagOf5 (decide (0 < myUid))).toNat 16 := by
  rw [h1, h2, h3, h4]; exact tag5_bytes _

/-- A port in CONFIG that encrypts, under a fabric key. -/
def sCrypt : State :=
  let u := (sUp.wr D.FAB_PSTAT_state fpConfig 2).wr D.FAB_PCTL_crypt 1 2
  { u with slots := [(u.rd D.FAB_CFG_lkslot, ⟨.hmac, 0, 7⟩)] }


/-- A direct read of leaf 2 of tile 5, whose image is `i` and whose partition reads for it. -/
def readD : MRead := { read5 with path := .direct }
def sDirect (i : Image) : State := sImg i ((sMed readD).setPart 0 { Part.init with reader := some 322 })

theorem sDirect_holds (i : Image) : (sDirect i).holdsArray (partKey ((sDirect i).readPlace readD)) readD = true := by
  rw [show (sDirect i).readPlace readD = 100 from rfl, show partKey 100 = 0 by decide]
  rfl

theorem sDirect_found (i : Image) : (sDirect i).lostPart (partKey ((sDirect i).readPlace readD)) = false := by
  rw [show (sDirect i).readPlace readD = 100 from rfl, show partKey 100 = 0 by decide]
  rfl

/-- A reconstruction of leaf 2 of tile 5 that waits for member 3 alone, whose partition reads for it. -/
def readR (i : Image) : MRead := { read5 with path := .recon, need := [3], acc := i }
def sRecon (i : Image) : State := (sMed (readR i)).setPart 192 { Part.init with reader := some 322 }

theorem sRecon_holds (i : Image) : (sRecon i).holdsArray
    (partKey (tileOfMember (stripeOf ((sRecon i).readPlace (readR i))) (3 : Fin 16))) (readR i) = true := by
  rw [show (sRecon i).readPlace (readR i) = 100 from rfl, show partKey (tileOfMember (stripeOf 100) (3 : Fin 16)) = 192 by decide]
  rfl

theorem tag_xor0 {i : Image} (h : tagOk 5 i = true) : tagOk 5 (i ^^^ (0 : Image)) = true := by
  rw [show i ^^^ (0 : Image) = i from BitVec.xor_zero]; exact h

theorem mac_xor0 {k : Bytes} {i : Image} (h : macOk k 5 2 i = true) : macOk k 5 2 (i ^^^ (0 : Image)) = true := by
  rw [show i ^^^ (0 : Image) = i from BitVec.xor_zero]; exact h

theorem linkKcv_self (x : Bytes) : linkKcv x = (BitVec.ofNat 32 (linkKcv x)).toNat := by
  rw [BitVec.toNat_ofNat, Nat.mod_eq_of_lt]
  exact lt_of_lt_of_le (ofLe_lt _) (Nat.pow_le_pow_right (by decide) (List.length_take_le 4 _))

/-! Well-formedness: one ill-formed command for each check, which the check refuses. -/

theorem test_wf_payload : (Instr.setLsa 0 0 (List.replicate 4097 0)).wf = false := by decide +kernel
theorem test_wf_handles : (Instr.clearEventRecords 0 0 false (List.replicate 257 0)).wf = false := by decide +kernel
theorem test_wf_lines_rise : (Instr.programLoadDone [(5, 0, false), (5, 1, false)]).wf = false := by decide +kernel
theorem test_wf_lines_exist : (Instr.programLoadDone [(2 ^ 44, 0, false)]).wf = false := by decide +kernel
theorem test_wf_seats : (Instr.membershipCommit 0 0 [(3, 7, 0), (3, 8, 0)]).wf = false := by decide +kernel
theorem test_wf_fails_once : (Instr.builderStripeVerified 0 [1, 1]).wf = false := by decide +kernel
theorem test_wf_library : (Instr.wardenRomDone false true true (List.replicate 16 [])).wf = false := by decide +kernel
theorem test_wf_good : (Instr.membershipCommit 0 0 [(3, 7, 0), (4, 8, 0)]).wf = true := by decide +kernel

/-! The spec's worked examples. -/

/-- The example after R37: a host load from 0x40_0012_3456 through a 4-way decoder of granularity 4 KiB. -/
theorem test_hdm_example : hdmAddress ⟨0x4000000000, 2 ^ 30, 2, 12, true, false⟩ 0x500000000000 0x4000123456 = 0x500000048456 := by
  decide +kernel

/-- The example after R37: seat 5, tile 0x12, leaf 4, line 1, and the ring. -/
theorem test_address_fields : let gl := lineOf 0x500000048456
    seatOf gl = 5 ∧ tileOf (llOf gl) = 0x12 ∧ llOf gl / 4 % 64 = 4 ∧ llOf gl % 4 = 1 ∧ ringOf gl = 1 := by decide +kernel

/-- The example of Chapter 6: slice 6, set 2,337; the next line goes to slice 5. -/
theorem test_slice_example : sliceOf 0x14000001211 = 6 ∧ vitSet 0x14000001211 = 2337 ∧ sliceOf 0x14000001212 = 5 ∧
    vitSet 0x14000001212 = 2337 := by decide +kernel

/-- The example of Chapter 4: physical tile 0x13AC_2A7B. -/
theorem test_physical_example : chanOf 0x13AC2A7B = 19 ∧ dieOf 0x13AC2A7B = 5 ∧ partOf 0x13AC2A7B = 3 ∧
    indexOf 0x13AC2A7B = 0x2A7B ∧ memberOf 0x13AC2A7B = 3 ∧ stripeOf 0x13AC2A7B = 0x1AC2A7B ∧ rowOf 0x1AC2A7B = 107 ∧
    0x13AC2A7B * 64 + 4 = 0x4EB0A9EC4 ∧ chanOf (tileOfMember 0x1AC2A7B 11) = 27 ∧ ageBin (172800 * 1000000000) = 9 := by
  decide +kernel

/-- The reference sled of Chapter 3. -/
theorem test_governor_example : (State.reset.wr D.PWR_PGPARAM_eff 90).euOf 120000 26 33000 = 49398 ∧ State.reset.budgetOf 49398 = 8755111111 := by
  decide +kernel

/-- The aged bank of Chapter 3, and one channel retired. -/
theorem test_governor_aged : (State.reset.wr D.PWR_PGPARAM_eff 90).euOf 84000 60 33000 = 34314 ∧ State.reset.budgetOf 34314 = 5403111111 ∧
    (State.reset.setChan 3 { Chan.init with gone := true }).budgetOf 34314 = 5234263888 := by decide +kernel

/-- The staging tree of Chapter 12: the blocks above protected line 1,000,000, and its level-3 block's range. -/
theorem test_staging_tree : (List.range 5).map (fun k => 1000000 / 7 ^ (k + 1)) = [142857, 20408, 2915, 416, 59] ∧
    StgRange.covers ⟨3, 2915 * 343, 1⟩ 1000000 = true ∧ StgRange.covers ⟨3, 2915 * 343, 1⟩ 1000188 = false := by
  decide +kernel

/-- The recorder of Chapter 17: one channel of 32 GiB. -/
theorem test_window_example : protectedLines 32 * 64 = 26601085952 ∧ dirtyWindow 32 = 7936433152 := by decide +kernel

/-- The spare of Chapter 5 with everything in service. -/
theorem test_headroom : State.reset.headroom = 31981568 := by decide +kernel

/-- CRC-32 of "123456789", the check value of its catalogue entry. -/
theorem test_crc32 : crc32 (ofLe (ascii "123456789")) 9 = 0xCBF43926 := by decide +kernel

/-! Single steps. -/

/-- Commands leave the queue first in, first out. -/
theorem test_fifo : ∃ t, step { sUp with pending := [.injDisarm 0 3, .powerUpRetry] } = .next t ∧ t.pending = [.powerUpRetry] :=
  ⟨_, rfl, rfl⟩

/-- With none waiting, 1 ns passes. -/
theorem test_idle : ∃ t, step State.reset = .next t ∧ t.now = 1 := ⟨_, rfl, by decide +kernel⟩

/-- A register holds what is written to it. -/
theorem test_scratch : ∃ t, execRegisterWrite 0 false 0x40 8 0x123456789ABCDEF0 false sUp = .next t ∧
    t.rd D.GBL_SCRATCH_value = 0x123456789ABCDEF0 := ⟨_, rfl, by decide +kernel⟩

/-- VIN below vinth for deb conversions asserts PFAIL and starts the flush of an OPEN device. -/
theorem test_pfail : ∃ t u, execAdcConversion 0 0 sUp = .next t ∧ execAdcConversion 0 0 t = .next u ∧ t.phase = stOpen ∧
    u.phase = stFlushing ∧ u.rd D.PWR_PFSTAT_cause = 1 := ⟨_, _, rfl, rfl, by decide +kernel⟩

/-- A device reset while FLUSHING is ignored. -/
theorem test_reset_ignored : (sUp.wr D.GBL_STAT_state 2).deviceReset = sUp.wr D.GBL_STAT_state 2 := by decide +kernel

/-! For each obligation, values that meet the hypotheses of every clause. -/

theorem meets_RegisterWritesOfScratch :
    (∃ (port : Fin 4) (v : Word) (ok : Bool) (s : State), (s.portQuiet port = true) ∧ (s.bit D.GBL_CTL_scrlock =
      false)) ∧
    (∃ (port : Fin 4) (v : Word) (ok : Bool) (s : State), (s.portQuiet port = true) ∧ (s.bit D.GBL_CTL_scrlock =
      true)) ∧
    (∃ (port : Fin 4) (off : BitVec 25) (size : BitVec 8) (v : Word) (ok : Bool) (s : State), (s.portQuiet port
      = true) ∧ (size ≠ 4) ∧ (size ≠ 8) ∧ (s.phase ≠ stRomRecovery)) ∧
    (∃ (port : Fin 4) (bar2 : Bool) (off : BitVec 25) (size : BitVec 8) (v : Word) (ok : Bool) (s : State),
      (s.regUp port = false)) :=
  ⟨⟨0, 5, true, sUp, by decide +kernel⟩,
    ⟨0, 5, true, (sUp.wr D.GBL_CTL_scrlock 1), by decide +kernel⟩,
    ⟨0, 0x40, 2, 5, true, sUp, by decide +kernel⟩,
    ⟨0, false, 0x40, 8, 5, true, State.reset, by decide +kernel⟩⟩

theorem meets_RegisterReadHalves :
    (∃ (port : Fin 4) (off : BitVec 25) (r : RegRow) (i : Nat) (s : State), (s.portQuiet port = true) ∧
      (s.blockUp off.toNat = true) ∧ (regHit off.toNat 4 = .reg r i 0 32) ∧ (r.width = 64)) ∧
    (∃ (port : Fin 4) (off : BitVec 25) (r : RegRow) (i h : Nat) (s : State), (s.portQuiet port = true) ∧
      (s.blockUp off.toNat = true) ∧ (regHit off.toNat 4 = .reg r i 32 32) ∧ ((s.port port).latch = some
      (off.toNat - 4, h))) ∧
    (∃ (port : Fin 4) (off : BitVec 25) (r : RegRow) (i : Nat) (s : State), (s.portQuiet port = true) ∧
      (s.blockUp off.toNat = true) ∧ (regHit off.toNat 8 = .reg r i 0 64)) :=
  ⟨⟨0, 0x40, REG0x40, 0, sUp, by decide +kernel⟩,
    ⟨0, 0x44, REG0x40, 0, 7, (sUp.setPort 0 { sUp.port 0 with latch := some (0x40, 7) }), by decide +kernel⟩,
    ⟨0, 0x40, REG0x40, 0, sUp, by decide +kernel⟩⟩

theorem meets_DeviceAndWingResets :
    (∃ (port : Fin 4) (s : State), (s.portQuiet port = true) ∧ (s.phase = stOpen)) ∧
    (∃ (port : Fin 4) (s : State), (s.phase = stFlushing ∨ s.phase = stResetting)) ∧
    (∃ (port : Fin 4) (value : BitVec 32) (s : State), (s.portQuiet port = true) ∧ (value.toNat % 256 = 0)) ∧
    (∃ (port : Fin 4) (value : BitVec 32) (s : State), (s.portQuiet port = true) ∧ (value.toNat % 256 ≠ 0) ∧
      (value.toNat % 256 ≠ 0xD5)) ∧
    (∃ (port : Fin 4) (wings : BitVec 8) (s : State), (s.portQuiet port = true) ∧ (s.phase = stOpen)) ∧
    (∃ (wing : Fin 8) (s : State), (s.isFlushing = false) ∧ (s.coh.rstBusy.getLsbD wing = true) ∧ (s.wingDrained
      wing = true) ∧ (∀ k ∈ List.range 32, (s.ctx (wing * 32 + k)).st = .idle)) ∧
    (∃ (m : Master) (load : Bool) (ga : BitVec 50) (r : Req) (s : State), (s.coh.conf = [r]) ∧ (r.gl = ga.toNat
      / 64) ∧ (timesOut m load r.src = true) ∧ (s.phase ≠ stRomRecovery)) ∧
    (∃ (m : Master) (ga : BitVec 50) (r : Req) (l : LdEnt) (u : LdUnit) (s : State), (s.coh.conf = []) ∧ ((s.txn
      (ga.toNat / 64)).map Txn.req = some r) ∧ ((s.txn (ga.toNat / 64)).bind Txn.got = none) ∧ (r.gl = ga.toNat /
      64) ∧ (m.kind = 1) ∧ (r.kind = .read) ∧ (r.src = .load m.id) ∧ ((s.ctx m.id).hold = .load l) ∧ (l.units =
      [u]) ∧ (u.gl = r.gl) ∧ (u.got = none)) ∧
    (∃ (port : Fin 4) (tag : Nat) (r : Req) (s : State), (s.coh.conf.find? (fun q => decide (q.gl = r.gl ∧ q.src
      = .port port tag)) = some r) ∧ (r.kind = .write) ∧ (r.gl < 2 ^ 44) ∧ (s.portMode port ≠ 0) ∧ (s.phase ≠
      stRomRecovery)) :=
  ⟨⟨0, sUp, by decide +kernel⟩,
    ⟨0, (sUp.wr D.GBL_STAT_state stFlushing), by decide +kernel⟩,
    ⟨0, 0, (sUp.wr D.GBL_CLAMPCNT_count 5), by decide +kernel⟩,
    ⟨0, 7, (sUp.wr D.GBL_CLAMPCNT_count 5), by decide +kernel⟩,
    ⟨0, 5, sUp, by decide +kernel⟩,
    ⟨1, { sUp with coh := { sUp.coh with rstBusy := 2 } }, by decide +kernel⟩,
    ⟨⟨0, 0, 3⟩, false, 64, reqW, { sUp with coh := { sUp.coh with conf := [reqW] } }, by decide +kernel⟩,
    ⟨⟨1, 3, 0⟩, 64, ⟨.read, 1, .load 3, 0, 0, false, none⟩, ⟨0x13, 1, 8, false, 64, [⟨1, 0, 8, 0, 0, none⟩],
      none, false⟩, ⟨1, 0, 8, 0, 0, none⟩, (sTxn
      { txn1 with req := ⟨.read, 1, .load 3, 0, 0, false, none⟩ }).setCtx 3
      { sPeek.ctx 3 with hold := .load ⟨0x13, 1, 8, false, 64, [⟨1, 0, 8, 0, 0, none⟩], none, false⟩ },
      by decide +kernel⟩,
    ⟨0, 3, reqW, { sUp with coh := { sUp.coh with conf := [reqW] } }, by decide +kernel⟩⟩

theorem meets_FlushStepsRun :
    (∃ (f : Flush) (s : State), (s.phase = stFlushing) ∧ (s.gov.flush = some f) ∧ (f.step = 2) ∧ (s.coh.txns =
      []) ∧ (s.coh.conf = []) ∧ (∀ c ∈ SMap.keys s.cur.ctxs, (s.ctx c).sb = []) ∧ ((SMap.keys s.cur.ctxs).Nodup) ∧
      ((SMap.keys s.cur.ctxs).any s.drainable = false)) ∧
    (∃ (f : Flush) (s : State), (s.phase = stFlushing) ∧ (s.gov.flush = some f) ∧ (f.step = 2) ∧ (s.coh.txns.any
      (fun e => e.2.req.hostWrite && decide (e.2.phase ≠ .loan)) = true)) ∧
    (∃ (f : Flush) (s : State), (s.phase = stFlushing) ∧ (s.gov.flush = some f) ∧ (f.step = 3)) ∧
    (∃ (f : Flush) (s : State), (s.phase = stFlushing) ∧ (s.gov.flush = some f) ∧ (f.step = 4)) ∧
    (∃ (f : Flush) (s : State), (s.phase = stFlushing) ∧ (s.gov.flush = some f) ∧ (f.step = 5) ∧ (s.lentDirty =
      []) ∧ (s.coh.outb = []) ∧ (∀ p, p < 4 → (s.port p).eab = [])) ∧
    (∃ (f : Flush) (gl : Nat) (e : OutEnt) (s : State), (s.phase = stFlushing) ∧ (s.gov.flush = some f) ∧
      (f.step = 5) ∧ (s.lentDirty = []) ∧ (s.coh.outb = [(gl, e)]) ∧ (e.mask ≠ 0) ∧ (SMap.find s.coh.fwd gl =
      none) ∧ (∀ p, p < 4 → (s.port p).eab = [])) ∧
    (∃ (f : Flush) (s : State), (s.phase = stFlushing) ∧ (s.gov.flush = some f) ∧ (f.step = 5) ∧ (s.coh.outb =
      []) ∧ (∀ p ∈ List.range 4, (s.port p).eab = [])) ∧
    (∃ (f : Flush) (s : State), (s.phase = stFlushing) ∧ (s.gov.flush = some f) ∧ (f.step = 6) ∧ (s.med.jpend =
      []) ∧ (s.med.cpend = [])) ∧
    (∃ (f : Flush) (n : Nat) (s : State), (s.phase = stFlushing) ∧ (s.gov.flush = some f) ∧ (f.step = 7) ∧
      (s.rgr.step7 = some n)) ∧
    (∃ (f : Flush) (s : State), (s.phase = stFlushing) ∧ (s.gov.flush = some f) ∧ (f.step = 8) ∧ (s.stagedDirty
      = []) ∧ (s.coh.gdirty = []) ∧ (s.med.builders = []) ∧ (s.med.updates = []) ∧ (s.med.moves = [])) ∧
    (∃ (f : Flush) (s : State), (s.phase = stFlushing) ∧ (s.gov.flush = some f) ∧ (f.step = 8) ∧ (s.stagedDirty
      ≠ []) ∧ (∀ ll ∈ s.stagedDirty, (s.baseKey (tileOf ll)).isSome = true)) ∧
    (∃ (f : Flush) (s : State), (s.phase = stFlushing) ∧ (s.gov.flush = some f) ∧ (f.step = 9) ∧ (s.aon.euFloor
      = true)) ∧
    (∃ (f : Flush) (s : State), (s.phase = stFlushing) ∧ (s.gov.flush = some f) ∧ (f.step = 9) ∧ (s.aon.euFloor
      = false)) ∧
    (∃ (f : Flush) (s : State), (s.phase = stFlushing) ∧ (s.gov.flush = some f) ∧ (f.step = 10) ∧ (s.seq =
      seqOn) ∧ (10 < s.boot.step) ∧ (s.evq = []) ∧ (s.bit D.PWR_PFSTAT_inok = true)) ∧
    (∃ (f : Flush) (s : State), (s.phase = stFlushing) ∧ (s.gov.flush = some f) ∧ (f.step = 10) ∧ (s.seq =
      seqOn) ∧ (10 < s.boot.step) ∧ (s.evq = []) ∧ (s.bit D.PWR_PFSTAT_inok = false) ∧ (f.cause ≠ 2) ∧ (s.rd
      D.PWR_SEQSTAT_en ≠ 0)) ∧
    (∃ (s : State), (s.phase = stResetting) ∧ (s.boot.step = 2)) ∧
    (∃ (f : Flush) (s : State), (s.phase = stFlushing) ∧ (s.gov.flush = some f) ∧ (f.step ≤ 9) ∧ (f.watch =
      true) ∧ (f.abandoned = false) ∧ (s.euNow ≤ s.rd D.PWR_PGPARAM_ereserve * 1000)) ∧
    (∃ (f : Flush) (s : State), (s.phase = stFlushing) ∧ (s.gov.flush = some f) ∧ (f.step ≤ 9) ∧ (f.watch =
      false ∨ s.rd D.PWR_PGPARAM_ereserve * 1000 < s.euNow)) ∧
    (∃ (f : Flush) (s : State), (s.phase = stFlushing) ∧ (s.gov.flush = some f) ∧ (f.abandonDue = true) ∧
      (f.step ≤ 8) ∧ (s.med.updates.all (fun u => u.dataDone == u.parDone) = true) ∧ (f.step ≠ 7) ∧ (2 < f.step) ∧
      (s.med.parts = [])) ∧
    (∃ (f : Flush) (s : State), (s.phase = stFlushing) ∧ (s.gov.flush = some f) ∧ (f.abandonDue = true) ∧
      (f.step ≤ 8) ∧ (s.med.updates.all (fun u => u.dataDone == u.parDone) = true) ∧ (f.step = 2) ∧ (s.med.parts =
      []) ∧ (∀ c ∈ SMap.keys s.cur.ctxs, (s.ctx c).sb = []) ∧ ((SMap.keys s.cur.ctxs).Nodup)) ∧
    (∃ (f : Flush) (s : State), (s.phase = stFlushing) ∧ (s.gov.flush = some f) ∧ (f.abandonDue = true) ∧
      (f.step ≤ 8) ∧ (s.med.updates.all (fun u => u.dataDone == u.parDone) = true) ∧ (s.med.parts.any (fun e =>
      decide (e.2.op ≠ .idle)) = true)) :=
  ⟨⟨{ flushOf with step := 2 },
      { (sRun.wr D.GBL_STAT_state 2) with gov := { sUp.gov with flush := some { flushOf with step := 2 } } },
      by decide +kernel⟩,
    ⟨{ flushOf with step := 2 },
      { ((sTxn { txn1 with req := reqW }).wr D.GBL_STAT_state 2) with gov := { sUp.gov with flush := some { flushOf with step := 2 } } },
      by decide +kernel⟩,
    ⟨{ flushOf with step := 3 },
      { (sOwn.wr D.GBL_STAT_state 2) with gov := { sUp.gov with flush := some { flushOf with step := 3 } } },
      by decide +kernel⟩,
    ⟨{ flushOf with step := 4 },
      { (sPeek.wr D.GBL_STAT_state 2) with gov := { sUp.gov with flush := some { flushOf with step := 4 } } },
      by decide +kernel⟩,
    ⟨{ flushOf with step := 5 },
      { (sUp.wr D.GBL_STAT_state 2) with gov := { sUp.gov with flush := some { flushOf with step := 5 } } },
      by decide +kernel⟩,
    ⟨{ flushOf with step := 5 }, 7, ⟨.owned, 9, fullMask, false, false, []⟩,
      { (sUp.wr D.GBL_STAT_state 2) with gov := { sUp.gov with flush := some { flushOf with step := 5 } }, coh := { sUp.coh with outb := [(7, ⟨.owned, 9, fullMask, false, false, []⟩)] } },
      by decide +kernel⟩,
    ⟨{ flushOf with step := 5 },
      { (sUp.wr D.GBL_STAT_state 2) with gov := { sUp.gov with flush := some { flushOf with step := 5 } } },
      by decide +kernel⟩,
    ⟨{ flushOf with step := 6 },
      { (sUp.wr D.GBL_STAT_state 2) with gov := { sUp.gov with flush := some { flushOf with step := 6 } } },
      by decide +kernel⟩,
    ⟨{ flushOf with step := 7 }, 5,
      { (sUp.wr D.GBL_STAT_state 2) with gov := { sUp.gov with flush := some { flushOf with step := 7 } }, rgr := { sUp.rgr with step7 := some 5 } },
      by decide +kernel⟩,
    ⟨{ flushOf with step := 8 },
      { (sUp.wr D.GBL_STAT_state 2) with gov := { sUp.gov with flush := some { flushOf with step := 8 } } },
      by decide +kernel⟩,
    ⟨{ flushOf with step := 8 },
      { ((sMed read5).wr D.GBL_STAT_state 2) with gov := { sUp.gov with flush := some { flushOf with step := 8 } }, med := { (sMed read5).med with stg := [(1292, ⟨9, fullMask, false, true⟩)] } },
      by decide +kernel⟩,
    ⟨{ flushOf with step := 9 },
      { (sUp.wr D.GBL_STAT_state 2) with gov := { sUp.gov with flush := some { flushOf with step := 9 } }, aon := { sUp.aon with euFloor := true } },
      by decide +kernel⟩,
    ⟨{ flushOf with step := 9 },
      { (sUp.wr D.GBL_STAT_state 2) with gov := { sUp.gov with flush := some { flushOf with step := 9 } } },
      by decide +kernel⟩,
    ⟨{ flushOf with step := 10 },
      { ((sUp.wr D.PWR_PFSTAT_inok 1).wr D.GBL_STAT_state 2) with gov := { sUp.gov with flush := some { flushOf with step := 10 } }, boot := { sUp.boot with step := 12 } },
      by decide +kernel⟩,
    ⟨{ flushOf with step := 10 },
      { ((sUp.wr D.PWR_PFSTAT_inok 0).wr D.GBL_STAT_state 2) with gov := { sUp.gov with flush := some { flushOf with step := 10 } }, boot := { sUp.boot with step := 12 } },
      by decide +kernel⟩,
    ⟨{ (sUp.wr D.GBL_STAT_state 3) with boot := { sUp.boot with step := 2 } }, by decide +kernel⟩,
    ⟨{ flushOf with step := 8 },
      { (sUp.wr D.GBL_STAT_state 2) with gov := { sUp.gov with flush := some { flushOf with step := 8 } } },
      by decide +kernel⟩,
    ⟨{ flushOf with step := 8, watch := false },
      { (sUp.wr D.GBL_STAT_state 2) with gov := { sUp.gov with flush := some { flushOf with step := 8, watch := false } } },
      by decide +kernel⟩,
    ⟨{ flushOf with step := 8, abandonDue := true },
      { (sUp.wr D.GBL_STAT_state 2) with gov := { sUp.gov with flush := some { flushOf with step := 8, abandonDue := true } } },
      by decide +kernel⟩,
    ⟨{ flushOf with step := 2, abandonDue := true },
      { (sRun.wr D.GBL_STAT_state 2) with gov := { sUp.gov with flush := some { flushOf with step := 2, abandonDue := true } } },
      by decide +kernel⟩,
    ⟨{ flushOf with step := 8, abandonDue := true },
      { (sUp.wr D.GBL_STAT_state 2) with gov := { sUp.gov with flush := some { flushOf with step := 8, abandonDue := true } }, med := { sUp.med with parts := [(3, { Part.init with op := .writing })] } },
      by decide +kernel⟩⟩

theorem meets_MediaLeavesReadAndWrite :
    (∃ (tile : Fin 536870912) (leaf : Fin 64) (left : List (Nat × Nat)) (r : MRead) (s : State), (s.mread tile
      leaf = some r) ∧ (r.bounded = false) ∧ (r.path = .queued ∨ (r.path = .waiting ∧ r.tried = [])) ∧ (s.unavail
      (partKey (s.readPlace r)) = false)) ∧
    (∃ (tile : Fin 536870912) (leaf : Fin 64) (left : List (Nat × Nat)) (r : MRead) (s : State), (s.med.reads =
      [r]) ∧ (s.mread tile leaf = some r) ∧ (r.bounded = false) ∧ (r.path = .queued) ∧ (s.unavail (partKey
      (s.readPlace r)) = false) ∧ ((s.part (partKey (s.readPlace r))).op = .idle) ∧ (s.arrayRead (partKey
      (s.readPlace r)) = false) ∧ (s.med.updates = [])) ∧
    (∃ (tile : Fin 536870912) (leaf : Fin 64) (left : List (Nat × Nat)) (r : MRead) (s : State), (s.mread tile
      leaf = some r) ∧ (r.bounded = true) ∧ (r.path = .queued ∨ (r.path = .waiting ∧ r.tried = [])) ∧ (s.soon left
      (partKey (s.readPlace r)) = true) ∧ (s.chanAdmits (partKey (s.readPlace r)) = true) ∧ (s.partAdmits (partKey
      (s.readPlace r)) = true)) ∧
    (∃ (tile : Fin 536870912) (leaf : Fin 64) (left : List (Nat × Nat)) (r : MRead) (s : State), (s.mread tile
      leaf = some r) ∧ (r.bounded = false) ∧ (r.path = .queued ∨ (r.path = .waiting ∧ r.tried = [])) ∧ (s.unavail
      (partKey (s.readPlace r)) = true) ∧ (s.lostPart (partKey (s.readPlace r)) = false) ∧ ((s.stripe (stripeOf
      (s.readPlace r))).exposed = none) ∧ ((s.others (s.readPlace r)).all (fun j => !s.unavail (memberPart
      (s.readPlace r) j)) = true)) ∧
    (∃ (tile : Fin 536870912) (leaf : Fin 64) (errs : Image) (slow : Bool) (k : Bytes) (r : MRead) (s : State),
      (s.mread tile leaf = some r) ∧ (r.path = .direct) ∧ (s.lostPart (partKey (s.readPlace r)) = false) ∧
      (s.holdsArray (partKey (s.readPlace r)) r = true) ∧ (s.NoInj) ∧ (r.tried.length ≤ 1) ∧ (r.reconTried =
      false) ∧ (decodes (s.tileLight tile) errs = true) ∧ (tagOk tile (s.imageNow (s.readPlace r) leaf) = true) ∧
      (s.baseKey tile = some k) ∧ (macOk k tile leaf (s.imageNow (s.readPlace r) leaf) = true) ∧ (s.coh.txns = [])
      ∧ (s.coh.conf = [])) ∧
    (∃ (tile : Fin 536870912) (leaf : Fin 64) (errs : Image) (slow : Bool) (r : MRead) (s : State), (s.mread
      tile leaf = some r) ∧ (r.path = .direct) ∧ (s.lostPart (partKey (s.readPlace r)) = false) ∧ (s.holdsArray
      (partKey (s.readPlace r)) r = true) ∧ (s.NoInj) ∧ (r.bounded = true) ∧ (r.reconTried = false) ∧ (decodes
      (s.tileLight tile) errs = false) ∧ ((s.stripe (stripeOf (s.readPlace r))).exposed = none) ∧ ((s.others
      (s.readPlace r)).all (fun j => !s.unavail (memberPart (s.readPlace r) j)) = true)) ∧
    (∃ (tile : Fin 536870912) (leaf : Fin 64) (member : Fin 16) (slow : Bool) (r : MRead) (s : State), (s.mread
      tile leaf = some r) ∧ (r.path = .recon) ∧ (r.need.contains member.val = true) ∧ (s.fromBuffer r member =
      false) ∧ (s.holdsArray (partKey (tileOfMember (stripeOf (s.readPlace r)) member)) r = true) ∧ (r.need.filter
      (fun j => decide (j ≠ member.val)) ≠ [])) ∧
    (∃ (tile : Fin 536870912) (leaf : Fin 64) (member : Fin 16) (slow : Bool) (k : Bytes) (r : MRead) (s :
      State), (s.mread tile leaf = some r) ∧ (r.path = .recon) ∧ (r.need = [member.val]) ∧ (r.tried = []) ∧
      (s.fromBuffer r member = false) ∧ (s.holdsArray (partKey (tileOfMember (stripeOf (s.readPlace r)) member)) r
      = true) ∧ (s.NoInj) ∧ (tagOk tile (r.acc ^^^ s.imageNow (tileOfMember (stripeOf (s.readPlace r)) member)
      leaf) = true) ∧ (s.baseKey tile = some k) ∧ (macOk k tile leaf (r.acc ^^^ s.imageNow (tileOfMember (stripeOf
      (s.readPlace r)) member) leaf) = true) ∧ (s.coh.txns = []) ∧ (s.coh.conf = []) ∧ (s.med.updates = [])) ∧
    (∃ (tile : Fin 536870912) (leaf : Fin 64) (member : Fin 16) (errs : List Image) (slow : Bool) (r : MRead) (s
      : State), (s.mread tile leaf = some r) ∧ (r.path = .recon) ∧ (r.late = none) ∧ (r.need.contains member.val =
      true) ∧ (s.fromBuffer r member = false) ∧ (s.holdsArray (partKey (tileOfMember (stripeOf (s.readPlace r))
      member)) r = true) ∧ (r.need.filter (fun j => decide (j ≠ member.val)) ≠ []) ∧ (errs.all (fun e => decodes
      (s.stripe (stripeOf (s.readPlace r))).light e) = true)) ∧
    (∃ (tile : Fin 536870912) (leaf : Fin 64) (r : MRead) (s : State), (s.mread tile leaf = some r) ∧ (r.path =
      .direct) ∧ ((s.part (partKey (s.readPlace r))).op = .suspended) ∧ (s.holdsArray (partKey (s.readPlace r)) r
      = true) ∧ (s.NoInj) ∧ ((s.die (dieKey (s.readPlace r))).misses = []) ∧ (s.phase ≠ stRomRecovery) ∧
      (r.bounded = false)) ∧
    (∃ (tile : Fin 536870912) (leaf : Fin 64) (r : MRead) (s : State), (s.mread tile leaf = some r) ∧ (r.path =
      .direct) ∧ ((s.part (partKey (s.readPlace r))).op = .suspended) ∧ (s.holdsArray (partKey (s.readPlace r)) r
      = true) ∧ (s.NoInj) ∧ ((s.die (dieKey (s.readPlace r))).misses = []) ∧ (s.phase ≠ stRomRecovery) ∧
      (r.bounded = true) ∧ (r.late = none) ∧ ((s.stripe (stripeOf (s.readPlace r))).exposed = none) ∧ ((s.others
      (s.readPlace r)).all (fun j => !s.unavail (memberPart (s.readPlace r) j)) = true)) ∧
    (∃ (tile : Fin 536870912) (leaf : Fin 64) (r : MRead) (s : State), (s.mread tile leaf = some r) ∧ (r.path =
      .direct) ∧ (r.adm = []) ∧ ((s.part (partKey (s.readPlace r))).op = .writing) ∧ ((s.part (partKey
      (s.readPlace r))).commit = false) ∧ ((s.part (partKey (s.readPlace r))).locked = false) ∧ (s.arrayRead
      (partKey (s.readPlace r)) = false)) ∧
    (∃ (part : Fin 2048) (s : State), ((s.part part).op ≠ .idle) ∧ (s.rd D.MED_SCHED_maxsusp ≤ (s.part
      part).susp) ∧ ((s.part part).locked = false) ∧ (s.tokenFree (rowOfPart part) = true) ∧ (s.arrayRead part =
      false)) ∧
    (∃ (part : Fin 2048) (s : State), ((s.part part).op = .writing) ∧ (s.NoInj)) ∧
    (∃ (part : Fin 2048) (s : State), ((s.part part).op = .writing) ∧ (s.NoInj)) ∧
    (∃ (tile : Fin 536870912) (leaf : Fin 64) (pick : Fin 33554432) (errs perrs : Image) (k : Bytes) (s :
      State), (s.atStep 8 = false) ∧ (isSysTile tile = false) ∧ (decodes (s.stripe (stripeOf (s.catEnt
      tile).phys)).light errs = true) ∧ (decodes (s.stripe (stripeOf (s.catEnt tile).phys)).light perrs = true) ∧
      (s.dirtyOfLeaf tile leaf ≠ []) ∧ (s.inPlace tile = true) ∧ (s.heldTile tile = false) ∧ (s.med.stg.all (fun e
      => !e.2.poison) = true) ∧ ((s.catEnt tile).st = .mapped) ∧ ((s.catEnt tile).written.getLsbD leaf = false) ∧
      (s.baseKey tile = some k) ∧ (s.updating (stripeOf (s.catEnt tile).phys) leaf = false) ∧ (s.unavail (partKey
      (s.catEnt tile).phys) = false) ∧ ((s.stripe (stripeOf (s.catEnt tile).phys)).exposed = none) ∧ (s.unavail
      (memberPart (s.catEnt tile).phys (s.stripe (stripeOf (s.catEnt tile).phys)).ppos) = false)) :=
  ⟨⟨5, 2, [], read5, sMed read5, by decide +kernel⟩,
    ⟨5, 2, [], read5, sMed read5, by decide +kernel⟩,
    ⟨5, 2, [], { read5 with bounded := true }, sMed { read5 with bounded := true }, by decide +kernel⟩,
    ⟨5, 2, [], read5, (sMed read5).setChan 0 { Chan.init with paused := true }, by decide +kernel⟩,
    (exists_img (leBytes 7 16) 2).elim fun i h => ⟨5, 2, 0, false, leBytes 7 16, readD, sDirect i, rfl, rfl,
      sDirect_found i, sDirect_holds i, (by decide +kernel : sUp.NoInj), by decide, rfl, (by decide +kernel :
      decodes ((sMed read5).tileLight 5) 0 = true), h.1, rfl, h.2, rfl, rfl⟩,
    ⟨5, 2, -1, false, { read5 with bounded := true, path := .direct }, (sMed
      { read5 with bounded := true, path := .direct }).setPart 0
      { Part.init with reader := some 322, op := .idle }, by decide +kernel⟩,
    ⟨5, 2, 3, false, { read5 with path := .recon, need := [1, 3] }, (sMed
      { read5 with path := .recon, need := [1, 3] }).setPart (partKey (tileOfMember (stripeOf 100) 3))
      { Part.init with reader := some 322 }, by decide +kernel⟩,
    (exists_img (leBytes 7 16) 2).elim fun i h => ⟨5, 2, 3, false, leBytes 7 16, readR i, sRecon i, rfl, rfl,
      rfl, rfl, rfl, sRecon_holds i, (by decide +kernel : sUp.NoInj), tag_xor0 h.1, rfl, mac_xor0 h.2, rfl, rfl,
      rfl⟩,
    ⟨5, 2, 3, [0], false, { read5 with path := .recon, need := [1, 3] }, (sMed
      { read5 with path := .recon, need := [1, 3] }).setPart (partKey (tileOfMember (stripeOf 100) 3))
      { Part.init with reader := some 322 }, by decide +kernel⟩,
    ⟨5, 2, { read5 with path := .direct }, (sMed { read5 with path := .direct }).setPart 0
      { Part.init with reader := some 322, op := .suspended }, by decide +kernel⟩,
    ⟨5, 2, { read5 with path := .direct, bounded := true }, (sMed
      { read5 with path := .direct, bounded := true }).setPart 0
      { Part.init with reader := some 322, op := .suspended }, by decide +kernel⟩,
    ⟨5, 2, { read5 with path := .direct }, (sMed { read5 with path := .direct }).setPart 0
      { Part.init with op := .writing }, by decide +kernel⟩,
    ⟨0, sUp.setPart 0 { Part.init with op := .suspended, susp := 900 }, by decide +kernel⟩,
    ⟨0, sUp.setPart 0 { Part.init with op := .writing, wleaf := 6402, wimg := 9 }, by decide +kernel⟩,
    ⟨0, sUp.setPart 0 { Part.init with op := .writing, wleaf := 6402, wimg := 9 }, by decide +kernel⟩,
    ⟨5, 3, 0, 0, 0, leBytes 7 16, ((fun (u : State) =>
      { u with med := { u.med with stg := [(1292, ⟨9, fullMask, false, true⟩)] } }) (sMed read5)),
      by decide +kernel⟩⟩

theorem meets_MediaBusAndTemperatures :
    (∃ (ch : Fin 32) (die part : Fin 8) (leaf : Fin 16777216) (vref : BitVec 8) (tsense : BitVec 4) (errs :
      Image) (s : State), (s.dieUp (ch.val * 8 + die.val) = true) ∧ ((s.part (partNo ch die part)).op ≠ .writing)) ∧
    (∃ (ch : Fin 32) (die part : Fin 8) (leaf : Fin 16777216) (vref : BitVec 8) (tsense : BitVec 4) (errs :
      Image) (s : State), (s.dieUp (ch.val * 8 + die.val) = true) ∧ ((s.die (ch.val * 8 + die.val)).cmdErr < 2)) ∧
    (∃ (ch : Fin 32) (die part : Fin 8) (leaf : Fin 16777216) (i : Image) (s : State), (s.dieUp (ch.val * 8 +
      die.val) = true) ∧ (s.pendingImage (busTile ch die part leaf) (leaf.val % 64) = some i) ∧ ((s.part (partNo
      ch die part)).op = .idle) ∧ (s.arrayRead (partNo ch die part) = false) ∧ (s.unavail (partNo ch die part) =
      false) ∧ (s.noWrite (partNo ch die part) = false) ∧ (s.firstWaits (partNo ch die part) = false) ∧
      (s.bestWaits ch = false) ∧ (s.rd D.CON_DIE_nosusp (ch.val * 8 + die.val) = 0)) ∧
    (∃ (ch : Fin 32) (die part : Fin 8) (s : State), (s.dieUp (ch.val * 8 + die.val) = true) ∧ ((s.part (partNo
      ch die part)).op = .writing) ∧ ((s.part (partNo ch die part)).commit = false) ∧ ((s.part (partNo ch die
      part)).locked = false)) ∧
    (∃ (ch : Fin 32) (die part : Fin 8) (s : State), (s.dieUp (ch.val * 8 + die.val) = true) ∧ ((s.part (partNo
      ch die part)).op = .suspended) ∧ (s.arrayRead (partNo ch die part) = false)) ∧
    (∃ (ch : Fin 32) (die : Fin 8) (commit vfail : BitVec 8) (s : State), (s.dieUp (ch.val * 8 + die.val) =
      true)) ∧
    (∃ (ch : Fin 32) (die : Fin 8) (temp : BitVec 8) (s : State), (s.dieUp (ch.val * 8 + die.val) = true)) ∧
    (∃ (ch : Fin 32) (die : Fin 8) (page : Image) (s : State), (s.dieUp (ch.val * 8 + die.val) = true)) ∧
    (∃ (ch : Fin 32) (die : Fin 8) (s : State), (s.dieUp (ch.val * 8 + die.val) = true)) ∧
    (∃ (ch : Fin 32) (die : Fin 8) (part : Fin 8) (leaf : Fin 16777216) (s : State), (s.dieUp (ch.val * 8 +
      die.val) = true) ∧ ((s.die (ch.val * 8 + die.val)).cmdErr < 2)) ∧
    (∃ (ch : Fin 32) (die : Fin 8) (part : Fin 8) (s : State), (s.dieUp (ch.val * 8 + die.val) = true) ∧ ((s.die
      (ch.val * 8 + die.val)).cmdErr < 2)) ∧
    (∃ (ch : Fin 32) (die : Fin 8) (part : Fin 8) (s : State), (s.dieUp (ch.val * 8 + die.val) = true) ∧ ((s.die
      (ch.val * 8 + die.val)).cmdErr < 2)) ∧
    (∃ (ch : Fin 32) (die : Fin 8) (commit vfail : BitVec 8) (s : State), (s.dieUp (ch.val * 8 + die.val) =
      true) ∧ ((s.die (ch.val * 8 + die.val)).cmdErr < 2)) ∧
    (∃ (ch : Fin 32) (die : Fin 8) (temp : BitVec 8) (s : State), (s.dieUp (ch.val * 8 + die.val) = true) ∧
      ((s.die (ch.val * 8 + die.val)).cmdErr < 2)) ∧
    (∃ (ch : Fin 32) (die : Fin 8) (page : Image) (s : State), (s.dieUp (ch.val * 8 + die.val) = true) ∧ ((s.die
      (ch.val * 8 + die.val)).cmdErr < 2)) ∧
    (∃ (ch : Fin 32) (die : Fin 8) (s : State), (s.dieUp (ch.val * 8 + die.val) = true) ∧ ((s.die (ch.val * 8 +
      die.val)).cmdErr < 2)) ∧
    (∃ (die : Fin 256) (s : State), (s.dieUp die = true) ∧ ((s.die die).cmdErr < 2)) ∧
    (∃ (die : Fin 256) (s : State), (s.dieUp die = true) ∧ (2 ≤ (s.die die).cmdErr)) ∧
    (∃ (ch : Fin 32) (die : Fin 8) (s : State), (s.dieUp (ch.val * 8 + die.val) = true)) ∧
    (∃ (ch : Fin 32) (s : State), ((s.chan ch).gone = false) ∧ ((s.chan ch).reloaded = false)) ∧
    (∃ (ch : Fin 32) (s : State), ((s.chan ch).gone = false) ∧ ((s.chan ch).reloaded = true)) ∧
    (∃ (line : Fin 4294967296) (s : State), (SMap.get 0 s.stgE.alerts line < 3)) ∧
    (∃ (die : Fin 256) (temp : BitVec 8) (s : State), (s.dieUp die = true) ∧ (s.isFlushing = false) ∧ ((s.rd
      D.THM_MEDCFG_defer : Int) ≤ temp.toInt) ∧ (temp.toInt < (s.rd D.THM_MEDCFG_backoff : Int))) ∧
    (∃ (die : Fin 256) (temp : BitVec 8) (s : State), (s.dieUp die = true) ∧ (s.isFlushing = false) ∧
      (temp.toInt < (s.rd D.THM_MEDCFG_defer : Int) - 5) ∧ (temp.toInt < (s.rd D.THM_MEDCFG_backoff : Int))) ∧
    (∃ (die : Fin 256) (temp : BitVec 8) (s : State), (s.dieUp die = true) ∧ (s.isFlushing = true)) ∧
    (∃ (ch : Fin 32) (s : State), ((s.chan ch).backoff = true) ∧ ((s.chan ch).since + 1000000000 ≤ s.now) ∧
      ((List.range 8).all (fun d => !s.dieUp (ch.val * 8 + d) || decide (s.dieTemp (ch.val * 8 + d) < (s.rd
      D.THM_MEDCFG_backoff : Int) - 5)) = true)) ∧
    (∃ (s : State), (s.phase ≠ stRomRecovery)) :=
  ⟨⟨1, 2, 3, 70, 0, 0, 5, sUp, by decide +kernel⟩,
    ⟨1, 2, 3, 70, 0, 0, 5, sUp, by decide +kernel⟩,
    ⟨0, 0, 0, 70, 9, { sUp with med := { sUp.med with updates := [⟨1, 6, none, 0, 9, 0, false, false, 0⟩] } },
      by decide +kernel⟩,
    ⟨0, 0, 0, sUp.setPart 0 { Part.init with op := .writing }, by decide +kernel⟩,
    ⟨0, 0, 0, sUp.setPart 0 { Part.init with op := .suspended }, by decide +kernel⟩,
    ⟨1, 2, 3, 4, sUp, by decide +kernel⟩,
    ⟨1, 2, -3, sUp, by decide +kernel⟩,
    ⟨1, 2, 3, sUp, by decide +kernel⟩,
    ⟨1, 2, sUp, by decide +kernel⟩,
    ⟨1, 2, 3, 70, sUp, by decide +kernel⟩,
    ⟨1, 2, 3, sUp, by decide +kernel⟩,
    ⟨1, 2, 3, sUp, by decide +kernel⟩,
    ⟨1, 2, 3, 4, sUp, by decide +kernel⟩,
    ⟨1, 2, 3, sUp, by decide +kernel⟩,
    ⟨1, 2, 3, sUp, by decide +kernel⟩,
    ⟨1, 2, sUp, by decide +kernel⟩,
    ⟨9, sUp, by decide +kernel⟩,
    ⟨9, sUp.setDie 9 { DieCnt.init with cmdErr := 2 }, by decide +kernel⟩,
    ⟨1, 2, sUp, by decide +kernel⟩,
    ⟨3, sUp, by decide +kernel⟩,
    ⟨3, sUp.setChan 3 { Chan.init with reloaded := true }, by decide +kernel⟩,
    ⟨3, sUp, by decide +kernel⟩,
    ⟨9, 95, (sUp.wr D.THM_MEDCFG_defer 90).wr D.THM_MEDCFG_backoff 100, by decide +kernel⟩,
    ⟨9, -5, sUp, by decide +kernel⟩,
    ⟨9, 120, sUp.wr D.GBL_STAT_state stFlushing, by decide +kernel⟩,
    ⟨3, (sUp.setChan 3 { Chan.init with backoff := true }).wr D.GBL_VTIME_ns 1000000000, by decide +kernel⟩,
    ⟨sUp, by decide +kernel⟩⟩

theorem meets_JournalBuildersAndPauses :
    (∃ (e : JEnt) (s : State), (s.med.jpend = [e]) ∧ (e.type = 3) ∧ (e.gcount = 1) ∧ (e.gindex = 0) ∧ (e.seq <
      s.med.jnext) ∧ (s.med.rels = []) ∧ (s.journalFull = false) ∧ (s.med.jnext + 7 < ckptEntries)) ∧
    (∃ (e : JEnt) (s : State), (s.med.jpend = [e]) ∧ (e.type = 3) ∧ (s.med.rels = []) ∧ (s.journalFull = false)
      ∧ (s.med.ckpt = none) ∧ (ckptEntries + max 1 s.ckptS ≤ s.med.jnext + 7) ∧ (s.med.jnext + 7 <
      D.MED_JRNLSEQ_seq.cap)) ∧
    (∃ (s : State), (s.med.jpend ≠ []) ∧ (s.journalFull = true) ∧ (s.phase ≠ stRomRecovery)) ∧
    (∃ (s : State), (s.med.ckpt = none)) ∧
    (∃ (k q : Nat) (s : State), (s.med.ckpt = some (k, q)) ∧ (q ≤ s.rd D.MED_JRNLSEQ_seq)) ∧
    (∃ (line : Fin 137438953472) (pick : Fin 33554432) (e : StLine) (b : Builder) (s : State), (SMap.find
      s.med.stg line = some e) ∧ (e.dirty = true) ∧ (e.poison = false) ∧ (s.inPlace (tileOf line) = false) ∧
      ((s.baseKey (tileOf line)).isSome = true) ∧ (s.unmapDue (tileOf line) = false) ∧ (s.med.builders = [b]) ∧
      (b.slots = [(tileOf line, 0)]) ∧ (b.closing = false)) ∧
    (∃ (builder : Nat) (slot : Fin 15) (leaf : Fin 64) (b : Builder) (s : State), (s.med.builders = [b]) ∧ (b.id
      = builder) ∧ ((List.range 4).any (fun i => SMap.has b.lines (slot.val * 256 + leaf.val * 4 + i)) = true) ∧
      (b.leafFull slot leaf = false) ∧ (b.spilled = []) ∧ (s.phase ≠ stRomRecovery)) ∧
    (∃ (builder : Nat) (b : Builder) (s : State), (s.med.builders = [b]) ∧ (b.id = builder)) ∧
    (∃ (builder : Nat) (b : Builder) (s : State), (s.med.builders = [b]) ∧ (b.id = builder) ∧ (b.slots = []) ∧
      (b.closing = true) ∧ ((s.stripe b.stripe).members.any (fun j => s.noWrite (memberPart b.stripe j)) = false)) ∧
    (∃ (builder : Nat) (tile j : Nat) (b : Builder) (s : State), (s.med.builders = [b]) ∧ (b.id = builder) ∧
      (b.slots = [(tile, j)]) ∧ (b.closing = true) ∧ (s.med.moves = []) ∧ ((List.range 64).all (fun n =>
      b.written.contains n) = true) ∧ ((s.stripe b.stripe).members.any (fun j => s.noWrite (memberPart b.stripe
      j)) = false)) ∧
    (∃ (builder : Nat) (fails : List (Fin 16)) (b : Builder) (s : State), (s.med.builders = [b]) ∧ (b.id =
      builder) ∧ (b.slots = []) ∧ (b.closing = true) ∧ ((s.stripe b.stripe).members.any (fun j => s.noWrite
      (memberPart b.stripe j)) = false)) ∧
    (∃ (ch : Fin 32) (s : State), ((s.chan ch).gone = false) ∧ ((s.chan ch).paused = false) ∧ (s.isFlushing =
      false)) ∧
    (∃ (ch : Fin 32) (s : State), ((s.chan ch).want = true) ∧ ((s.chan ch).paused = false) ∧ (s.isFlushing =
      false) ∧ (s.med.tokens = []) ∧ ((List.range 64).all (fun r => decide (s.rowUnavail (ch / 16 * 64 + r) = []))
      = true) ∧ (s.phase ≠ stRomRecovery)) ∧
    (∃ (ch : Fin 32) (s : State), ((s.chan ch).paused = true) ∧ ((s.chan ch).activation = false) ∧ (s.phase ≠
      stRomRecovery)) :=
  ⟨⟨⟨1, 3, 1, 0, 5, 4, 0⟩, { sUp with med := { sUp.med with jpend := [⟨1, 3, 1, 0, 5, 4, 0⟩], jnext := 2 } },
      by decide +kernel⟩,
    ⟨⟨1, 3, 1, 0, 5, 4, 0⟩,
      { sUp with med := { sUp.med with jpend := [⟨1, 3, 1, 0, 5, 4, 0⟩], jnext := 33554432 } }, by decide +kernel⟩,
    ⟨({ sUp with med := { sUp.med with jpend := [⟨1, 3, 1, 0, 5, 4, 0⟩], jnext := 2 } } : State).wr
      D.MED_JRNLSEQ_seq 67108864, by decide +kernel⟩,
    ⟨sUp, by decide +kernel⟩,
    ⟨1, 1, ({ sUp with med := { sUp.med with ckpt := some (1, 1) } } : State).wr D.MED_JRNLSEQ_seq 8,
      by decide +kernel⟩,
    ⟨1292, 0, ⟨9, fullMask, false, true⟩, ⟨4, 0, 32, [(5, 0)], [], [], [], 0, false⟩, sBld ⟨4, 0, 32, [(5, 0)],
      [], [], [], 0, false⟩, by decide +kernel⟩,
    ⟨4, 0, 3, { (⟨4, 0, 32, [(5, 0)], [], [], [], 0, false⟩ : Builder) with lines := [(12, 9)] }, sBld
      { (⟨4, 0, 32, [(5, 0)], [], [], [], 0, false⟩ : Builder) with lines := [(12, 9)] }, by decide +kernel⟩,
    ⟨4, ⟨4, 0, 32, [(5, 0)], [], [], [], 0, false⟩, sBld ⟨4, 0, 32, [(5, 0)], [], [], [], 0, false⟩,
      by decide +kernel⟩,
    ⟨4, ⟨4, 0, 32, [], [], [], [], 0, true⟩, sBld ⟨4, 0, 32, [], [], [], [], 0, true⟩, by decide +kernel⟩,
    ⟨4, 5, 0, ⟨4, 0, 32, [(5, 0)], [], List.range 64, [], 0, true⟩, sBld ⟨4, 0, 32, [(5, 0)], [], List.range 64,
      [], 0, true⟩, by decide +kernel⟩,
    ⟨4, [3], ⟨4, 0, 32, [], [], [], [], 0, true⟩, sBld ⟨4, 0, 32, [], [], [], [], 0, true⟩, by decide +kernel⟩,
    ⟨3, sUp, by decide +kernel⟩,
    ⟨3, sUp.setChan 3 { Chan.init with want := true }, by decide +kernel⟩,
    ⟨3, sUp.setChan 3 { Chan.init with paused := true }, by decide +kernel⟩⟩

theorem meets_ConservatorMovesAndExcises :
    (∃ (e : LogEnt) (s : State), (s.med.cpend = [e]) ∧ (e.type = 0x04) ∧ (s.med.cnext ≤ e.seq + 8388608)) ∧
    (∃ (e : LogEnt) (s : State), (s.med.cpend = [e]) ∧ (e.type = 0x03) ∧ (e.b < 16)) ∧
    (∃ (s : State), (s.med.chunk < 4095)) ∧
    (∃ (s : State), (s.med.chunk = 4095)) ∧
    (∃ (tile : Fin 536870912) (pick : Fin 33554432) (lost : List (Fin 64)) (fail : Bool) (q : Nat) (s : State),
      (SMap.find s.med.moves tile = none) ∧ ((s.tile (s.catEnt tile).phys).forced = true ∨ (s.tile (s.catEnt
      tile).phys).refresh = true) ∧ ((s.catEnt tile).st = .mapped) ∧ (s.isFlushing = false) ∧ (s.unmapDue tile =
      false) ∧ (s.coldest (s.inuseFree (s.stripe (stripeOf (s.catEnt tile).phys)).light false) = some q)) ∧
    (∃ (tile : Fin 536870912) (pick : Fin 33554432) (lost : List (Fin 64)) (m : Move) (s : State), (SMap.find
      s.med.moves tile = some m) ∧ (m.ended = false) ∧ (m.aborted = false) ∧ (s.noWrite (partKey m.dst) = false) ∧
      (s.noWrite (memberPart m.dst (s.stripe (stripeOf m.dst)).ppos) = false) ∧ (s.med.updates = []) ∧ ((s.catEnt
      tile).st = .moving) ∧ (s.unavail (partKey m.dst) = false) ∧ (s.unavail (memberPart m.dst (s.stripe (stripeOf
      m.dst)).ppos) = false) ∧ (s.toCopy tile m = [])) ∧
    (∃ (tile : Fin 536870912) (m : Move) (s : State), (SMap.find s.med.moves tile = some m) ∧ (m.ended = true) ∧
      ((s.catEnt tile).st = .mapped) ∧ ((s.catEnt tile).phys = m.dst)) ∧
    (∃ (pick : Fin 33554432) (st j np : Nat) (s : State), (s.med.excise = [(st, j)]) ∧ ((s.stripe st).exposed =
      none) ∧ (s.med.updates = []) ∧ (s.med.cpend = []) ∧ (s.tooNarrow st = false) ∧ (s.newPpos st j = some np)) ∧
    (∃ (st j np : Nat) (s : State), (s.med.excise = [(st, j)]) ∧ ((s.stripe st).exposed = some (j, np)) ∧
      (s.med.cpend = []) ∧ (j < 16)) :=
  ⟨⟨⟨1, 4, 32, 5, 0⟩, { sUp with med := { sUp.med with cpend := [⟨1, 4, 32, 5, 0⟩] } }, by decide +kernel⟩,
    ⟨⟨1, 3, 32, 5, 6⟩, { sUp with med := { sUp.med with cpend := [⟨1, 3, 32, 5, 6⟩] } }, by decide +kernel⟩,
    ⟨sUp, by decide +kernel⟩,
    ⟨{ sUp with med := { sUp.med with chunk := 4095 } }, by decide +kernel⟩,
    ⟨5, 0, [], false, 2 ^ 24 + 100, sCon, by decide +kernel⟩,
    ⟨5, 0, [], ⟨100, 2 ^ 24 + 100, true, 0, 0, false, 0, false⟩,
      { sCon with med := { sCon.med with cat := [(5, ⟨.moving, false, false, 2 ^ 24 + 100, 100, 0⟩)], moves := [(5, ⟨100, 2 ^ 24 + 100, true, 0, 0, false, 0, false⟩)] } },
      by decide +kernel⟩,
    ⟨5, ⟨100, 2 ^ 24 + 100, true, 0, 0, true, 0, false⟩,
      { sCon with med := { sCon.med with cat := [(5, ⟨.mapped, false, false, 0, 2 ^ 24 + 100, 0⟩)], moves := [(5, ⟨100, 2 ^ 24 + 100, true, 0, 0, true, 0, false⟩)] } },
      by decide +kernel⟩,
    ⟨0, 32, 5, 0, { sUp with med := { sUp.med with excise := [(32, 5)] } }, by decide +kernel⟩,
    ⟨32, 5, 0,
      { sUp with med := { sUp.med with excise := [(32, 5)], stripes := [(32, { StripeRec.init 32 with exposed := some (5, 0) })] } },
      by decide +kernel⟩⟩

theorem meets_ConservatorMaintains :
    (∃ (s : State), (s.bit D.CON_CTL_wear = false)) ∧
    (∃ (s : State), (s.bit D.CON_CTL_wear = true) ∧ (s.isFlushing = false)) ∧
    (∃ (die : Fin 256) (errs : List (Nat × Nat × Nat)) (s : State), ((s.die die).retired = false) ∧ ((s.die
      die).present = true) ∧ (s.bit D.CON_CTL_drift = true) ∧ (s.isFlushing = false) ∧ (s.shareStopped = false)) ∧
    (∃ (die : Fin 256) (slot : Fin 16) (s : State), ((s.die die).retired = false) ∧ ((s.die die).present = true)
      ∧ (s.isFlushing = false) ∧ (s.med.cpend = [])) ∧
    (∃ (phys : Fin 536870912) (pick : Fin 33554432) (s : State), (s.refreshDue phys = true) ∧ (s.isFlushing =
      false) ∧ (s.logicalOf phys = none) ∧ (s.med.updates = []) ∧ (s.unavail (partKey phys) = false) ∧ (s.noWrite
      (partKey phys) = false) ∧ ((s.stripe (stripeOf phys)).isGone (memberOf phys) = false) ∧ ((s.tile phys).st ≠
      2)) ∧
    (∃ (s : State), (s.bit D.CON_CTL_scrub = true) ∧ (s.isFlushing = false) ∧ (s.shareStopped = false) ∧
      ((s.stripe (s.rd D.CON_SCRUBPOS_stripe)).st ≠ 4) ∧ ((s.stripe (s.rd D.CON_SCRUBPOS_stripe)).st ≠ 3) ∧
      (isSentinel (s.rd D.CON_SCRUBPOS_stripe) = false) ∧ ((s.stripe (s.rd D.CON_SCRUBPOS_stripe)).exposed = none)
      ∧ (s.med.updates = []) ∧ ((s.stripe (s.rd D.CON_SCRUBPOS_stripe)).members.all (fun j => !s.unavail
      (partOfRow (rowOf (s.rd D.CON_SCRUBPOS_stripe)) j)) = true) ∧ ((s.stripe (s.rd
      D.CON_SCRUBPOS_stripe)).members.foldl (fun (i : Image) j => i ^^^ s.image (tileOfMember (s.rd
      D.CON_SCRUBPOS_stripe) j) s.med.scrubLeaf) 0 = 0) ∧ (s.med.scrubLeaf < 63)) ∧
    (∃ (errs : List (Nat × Image)) (s : State), (s.bit D.CON_CTL_scrub = true) ∧ (s.isFlushing = false) ∧
      (s.shareStopped = false) ∧ ((s.stripe (s.rd D.CON_SCRUBPOS_stripe)).st = 4 ∨ isSentinel (s.rd
      D.CON_SCRUBPOS_stripe) = true) ∧ ((s.rd D.CON_SCRUBPOS_stripe) + 1 < stripeCount)) ∧
    (∃ (errs : List (Nat × Image)) (s : State), (s.bit D.CON_CTL_scrub = true) ∧ (s.isFlushing = false) ∧
      (s.shareStopped = false) ∧ ((s.stripe (s.rd D.CON_SCRUBPOS_stripe)).st = 4 ∨ isSentinel (s.rd
      D.CON_SCRUBPOS_stripe) = true) ∧ ((s.rd D.CON_SCRUBPOS_stripe) + 1 < stripeCount) ∧ (s.phase ≠
      stRomRecovery)) ∧
    (∃ (errs : List (Nat × Image)) (s : State), (s.bit D.CON_CTL_scrub = true) ∧ (s.isFlushing = false) ∧
      (s.shareStopped = false) ∧ ((s.stripe (s.rd D.CON_SCRUBPOS_stripe)).st = 3) ∧ (isSentinel (s.rd
      D.CON_SCRUBPOS_stripe) = false)) ∧
    (∃ (errs : List (Nat × Image)) (late : Bool) (s : State), (s.bit D.CON_CTL_scrub = true) ∧ (s.isFlushing =
      false) ∧ (s.shareStopped = false) ∧ ((s.stripe (s.rd D.CON_SCRUBPOS_stripe)).st ≠ 4) ∧ ((s.stripe (s.rd
      D.CON_SCRUBPOS_stripe)).st ≠ 3) ∧ (isSentinel (s.rd D.CON_SCRUBPOS_stripe) = false) ∧ ((s.stripe (s.rd
      D.CON_SCRUBPOS_stripe)).exposed = none) ∧ (s.med.updates = []) ∧ ((s.stripe (s.rd
      D.CON_SCRUBPOS_stripe)).members.all (fun j => !s.unavail (partOfRow (rowOf (s.rd D.CON_SCRUBPOS_stripe)) j))
      = true) ∧ (s.med.scrubLeaf < 63)) ∧
    (∃ (errs : List (Nat × Image)) (late : Bool) (s : State), (4 ≤ s.rd D.THM_STAT_level)) ∧
    (∃ (pick : Fin 33554432) (s : State), (524288 < s.openStripes)) ∧
    (∃ (pick : Fin 33554432) (s : State), (s.openStripes < 262144) ∧ (s.isFlushing = false)) ∧
    (∃ (pick : Fin 33554432) (r : Rebuild) (np : Nat) (s : State), (s.med.rebuilds = [r]) ∧ ((s.rowUnavail
      r.row).filter (fun j => decide (j ≠ r.member)) = []) ∧ ((s.stripe (r.row * 2 ^ 18 + r.index)).st = 1) ∧
      ((s.stripe (r.row * 2 ^ 18 + r.index)).isGone r.member = false) ∧ (s.med.updates = []) ∧ (s.logicalOf
      (tileOfMember (r.row * 2 ^ 18 + r.index) r.member) = none) ∧ (s.newPpos (r.row * 2 ^ 18 + r.index) r.member
      = some np) ∧ (s.tooNarrow (r.row * 2 ^ 18 + r.index) = false) ∧ (s.med.cpend = []) ∧ (r.index + 1 < 2 ^ 18)) ∧
    (∃ (pick : Fin 33554432) (r : Rebuild) (j : Nat) (s : State), (s.rebuildNow = some r) ∧ (j ∈ s.rowUnavail
      r.row) ∧ (j ≠ r.member) ∧ (s.lostPart (partOfRow r.row j) = false)) ∧
    (∃ (k : Nat) (s : State), (k < 32) ∧ (s.rd D.CON_THIST_dies k + 256 < D.CON_THIST_dies.cap)) ∧
    (∃ (s : State), (s.phase ≠ stRomRecovery) ∧ (s.phase ≠ stFlushing) ∧ (s.phase ≠ stResetting)) :=
  ⟨⟨sUp.wr D.CON_CTL_wear 0, by decide +kernel⟩,
    ⟨sUp.wr D.CON_CTL_wear 1, by decide +kernel⟩,
    ⟨3, [], sUp.wr D.CON_CTL_drift 1, by decide +kernel⟩,
    ⟨3, 2, sUp, by decide +kernel⟩,
    ⟨100, 0, sUp.setTile 100 { TileRec.init 100 with refresh := true }, by decide +kernel⟩,
    ⟨sUp.wr D.CON_CTL_scrub 1, by decide +kernel⟩,
    ⟨[], (sUp.wr D.CON_CTL_scrub 1).wr D.CON_SCRUBPOS_stripe 262143, by decide +kernel⟩,
    ⟨[], (sUp.wr D.CON_CTL_scrub 1).wr D.CON_SCRUBPOS_stripe 262143, by decide +kernel⟩,
    ⟨[], (sUp.wr D.CON_CTL_scrub 1).setStripe 0 { StripeRec.init 0 with st := 3 }, by decide +kernel⟩,
    ⟨[(1, -1)], true, sUp.wr D.CON_CTL_scrub 1, by decide +kernel⟩,
    ⟨[], true, sUp.wr D.THM_STAT_level 4, by decide +kernel⟩,
    ⟨0, sUp, by decide +kernel⟩,
    ⟨0, sFull, sFull_open, rfl⟩,
    ⟨0, ⟨0, 3, 8⟩, 8, { sUp with med := { sUp.med with rebuilds := [⟨0, 3, 8⟩] } }, by decide +kernel⟩,
    ⟨0, ⟨0, 3, 8⟩, 4, ({ sUp with med := { sUp.med with rebuilds := [⟨0, 3, 8⟩] } } : State).setChan 4
      { Chan.init with paused := true }, by decide +kernel⟩,
    ⟨8, sUp, by decide +kernel⟩,
    ⟨sUp, by decide +kernel⟩⟩

theorem meets_HostMemoryAccess :
    (∃ (port : Fin 4) (tag : Nat) (ga : BitVec 50) (w : Nat) (v : VLine) (s : State), ((s.port port).reads =
      [⟨tag, ga.toNat⟩]) ∧ ((s.port port).eab = []) ∧ (s.Quiet (ga.toNat / 64)) ∧ (s.asking (ga.toNat / 64) (.port
      port tag) = false) ∧ (s.Hits (ga.toNat / 64) w v)) ∧
    (∃ (c : Fin 256) (ga : BitVec 50) (w : Nat) (v : VLine) (l : LdEnt) (u : LdUnit) (s : State), ((s.ctx
      c).hold = .load l) ∧ (l.atom = none) ∧ (l.units = [u]) ∧ (u.gl = (ga.toNat / 64)) ∧ (u.got = none) ∧
      (s.Quiet (ga.toNat / 64)) ∧ (s.asking (ga.toNat / 64) (.load c) = false) ∧ (s.Hits (ga.toNat / 64) w v) ∧
      ((s.attrOf (ga.toNat / 64)).wpol ≠ .uc) ∧ (s.filterVictim (ga.toNat / 64) = none)) ∧
    (∃ (c : Fin 256) (ga : BitVec 50) (d : Line) (fl : Flips) (s : State), (s.asking (ga.toNat / 64) (.fetch c)
      = false) ∧ (s.l1iFind (coreOf c) (ga.toNat / 64) = some d)) ∧
    (∃ (c : Fin 256) (ga : BitVec 50) (l : WLine) (s : State), (s.NoInj) ∧ (s.asking (ga.toNat / 64) (.fetch c)
      = false) ∧ (s.l1iFind (coreOf c) (ga.toNat / 64) = none) ∧ (s.wfind (wingOf c) (ga.toNat / 64) = some l) ∧
      (l.poison = false) ∧ (s.breached (ga.toNat / 64) = false)) ∧
    (∃ (c : Fin 256) (ga : BitVec 50) (w : Nat) (v : VLine) (s : State), (s.Quiet (ga.toNat / 64)) ∧ (s.asking
      (ga.toNat / 64) (.fetch c) = false) ∧ (s.Hits (ga.toNat / 64) w v) ∧ ((s.attrOf (ga.toNat / 64)).wpol ≠ .uc)
      ∧ (s.filterVictim (ga.toNat / 64) = none) ∧ (s.l1iFind (coreOf c) (ga.toNat / 64) = none) ∧ (s.wfind (wingOf
      c) (ga.toNat / 64) = none)) ∧
    (∃ (c : Fin 256) (e : SbEnt) (r : List SbEnt) (w : Nat) (v : VLine) (s : State), ((s.ctx c).sb = e :: r) ∧
      (e.zline = false) ∧ (s.Quiet e.gl) ∧ (s.asking e.gl (.store c) = false) ∧ (s.Hits e.gl w v) ∧ ((s.attrOf
      e.gl).wpol = .wb) ∧ (s.verdict e.gl e.mask (.store c) false = .accept) ∧ (s.filterVictim e.gl = none)) ∧
    (∃ (m : Master) (ga : BitVec 50) (data : Line) (mask : LineMask) (poison : Bool) (w : Nat) (v : VLine) (s :
      State), (m.kind = 0) ∧ (s.storesClosed = false) ∧ (s.Quiet (ga.toNat / 64)) ∧ (s.asking (ga.toNat / 64)
      (masterSrc m) = false) ∧ (s.Hits (ga.toNat / 64) w v) ∧ ((s.attrOf (ga.toNat / 64)).wpol = .wb) ∧
      (s.portMode (m.id.val % 4) ≠ 0) ∧ (s.verdict (ga.toNat / 64) mask (masterSrc m) false = .accept)) ∧
    (∃ (m : Master) (ga : BitVec 50) (data : Line) (mask : LineMask) (poison : Bool) (w : Nat) (v : VLine) (s :
      State), (m.kind = 0) ∧ (s.storesClosed = false) ∧ (s.Quiet (ga.toNat / 64)) ∧ (s.asking (ga.toNat / 64)
      (masterSrc m) = false) ∧ (s.Hits (ga.toNat / 64) w v) ∧ ((s.attrOf (ga.toNat / 64)).wpol = .wb) ∧ (s.verdict
      (ga.toNat / 64) mask (masterSrc m) false = .hold)) ∧
    (∃ (m : Master) (ga : BitVec 50) (e : SbEnt) (r : List SbEnt) (w : Nat) (v : VLine) (s : State), (m.kind =
      1) ∧ (m.id.val < 256) ∧ (s.storesClosed = false) ∧ ((s.ctx m.id).sb = e :: r) ∧ (e.gl = (ga.toNat / 64)) ∧
      (e.zline = true) ∧ (s.Quiet (ga.toNat / 64)) ∧ (s.asking (ga.toNat / 64) (.store m.id) = false) ∧ (s.Hits
      (ga.toNat / 64) w v) ∧ ((s.attrOf (ga.toNat / 64)).wpol = .wb) ∧ (s.verdict (ga.toNat / 64) fullMask (.store
      m.id) false = .accept)) ∧
    (∃ (m : Master) (ga : BitVec 50) (fl : Flips) (s : State), (m.kind = 0)) ∧
    (∃ (m : Master) (ga : BitVec 50) (op : Fin 10) (wide : Bool) (off : Fin 64) (a b : Word) (x : Atom) (w :
      Nat) (v : VLine) (s : State), (m.kind = 1) ∧ (m.id.val < 256) ∧ (s.storesClosed = false) ∧ (s.wantsAtom m.id
      (ga.toNat / 64) = some x) ∧ (s.Quiet (ga.toNat / 64)) ∧ (s.asking (ga.toNat / 64) (.atom m.id) = false) ∧
      (s.Hits (ga.toNat / 64) w v) ∧ ((s.attrOf (ga.toNat / 64)).wpol = .wb) ∧ (s.verdict (ga.toNat / 64) x.mask
      (.atom m.id) true = .accept)) ∧
    (∃ (port : Fin 4) (tag : Nat) (hpa : BitVec 52) (ga : Nat) (s : State), (s.portMode port = 2) ∧
      (s.isFlushing = false) ∧ (s.phase ≠ stResetting) ∧ (s.notOpen = false) ∧ (s.hdmDecode port hpa.toNat = some
      ga) ∧ (gaValid ga = true) ∧ ((s.port port).reads.all (fun r => decide (r.tag ≠ tag)) = true) ∧ ((s.port
      port).reads.length < 1024)) ∧
    (∃ (port : Fin 4) (tag : Nat) (hpa : BitVec 52) (s : State), (s.portMode port = 2) ∧ (s.phase = stStarting)) ∧
    (∃ (port : Fin 4) (tag : Nat) (hpa : BitVec 52) (s : State), (s.portMode port = 2) ∧ (s.isFlushing = false)
      ∧ (s.phase = stOpen) ∧ (s.hdmDecode port hpa.toNat = none)) ∧
    (∃ (port : Fin 4) (tag : Nat) (hpa : BitVec 52) (data : Line) (mask : LineMask) (ga : Nat) (w : Nat) (v :
      VLine) (s : State), (s.portMode port = 2) ∧ (s.isFlushing = false) ∧ (s.phase ≠ stResetting) ∧ (s.notOpen =
      false) ∧ (s.hdmDecode port hpa.toNat = some ga) ∧ (gaValid ga = true) ∧ (s.portWrites port < 1024) ∧
      (s.Quiet (ga / 64)) ∧ (s.Hits (ga / 64) w v) ∧ ((s.attrOf (ga / 64)).wpol = .wb) ∧ ((s.attrOf (ga / 64)).ewa
      = false) ∧ ((s.port port).eab = []) ∧ ((s.port port).reads = []) ∧ (s.verdict (ga / 64) mask (.port port
      tag) false = .accept)) ∧
    (∃ (port : Fin 4) (tag : Nat) (hpa : BitVec 52) (data : Line) (mask : LineMask) (poison : Bool) (fl : Flips)
      (s : State), (s.portMode port = 2) ∧ (s.portWrites port < 1024) ∧ (s.isFlushing = false) ∧ (s.phase =
      stOpen) ∧ (s.hdmDecode port hpa.toNat = none)) ∧
    (∃ (port : Fin 4) (e : EabEntry) (r : List EabEntry) (w : Nat) (v : VLine) (s : State), ((s.port port).eab =
      e :: r) ∧ (s.lineFree (lineOf e.ga) = true) ∧ (s.isLocal (lineOf e.ga) = true) ∧ (s.NoInj) ∧ (s.Hits (lineOf
      e.ga) w v) ∧ ((s.attrOf (lineOf e.ga)).wpol = .wb) ∧ (s.coh.wl = []) ∧ (s.coh.wbq = []) ∧ ((s.setPort port
      { s.port port with eab := r }).verdict (lineOf e.ga) e.mask (.eab port) false = .accept)) ∧
    (∃ (port : Fin 4) (n : Fin 8) (hpa size : Nat) (lock : Bool) (s : State), ((SMap.get Decoder.init (s.port
      port).decs n).committed = false) ∧ (0 < size) ∧ (s.rdP D.HST_GBASE_base port n * 2 ^ 28 / 2 ^ 43 % 2 = 0) ∧
      (s.rdP D.HST_GBASE_base port n * 2 ^ 28 / 2 ^ 44 = (s.rdP D.HST_GBASE_base port n * 2 ^ 28 + size - 1) / 2 ^
      44)) ∧
    (∃ (port : Fin 4) (n : Fin 8) (hpa size ways gran : Nat) (lock : Bool) (s : State), ((SMap.get Decoder.init
      (s.port port).decs n).committed = false ∨ (SMap.get Decoder.init (s.port port).decs n).locked = false) ∧
      (ways ∈ [1, 2, 4, 8, 16]) ∧ (gran ∈ [256, 512, 1024, 2048, 4096, 8192, 16384]) ∧ (0 < size) ∧ (s.rdP
      D.HST_GBASE_base port n * 2 ^ 28 / 2 ^ 43 % 2 = 0) ∧ (s.rdP D.HST_GBASE_base port n * 2 ^ 28 / 2 ^ 44 =
      (s.rdP D.HST_GBASE_base port n * 2 ^ 28 + size / 2 ^ Nat.log2 ways - 1) / 2 ^ 44)) ∧
    (∃ (port : Fin 4) (n : Fin 8) (hpa size ways gran : Nat) (lock : Bool) (s : State), ((SMap.get Decoder.init
      (s.port port).decs n).committed = false ∨ (SMap.get Decoder.init (s.port port).decs n).locked = false) ∧
      (ways ∉ [1, 2, 4, 8, 16] ∨ gran ∉ [256, 512, 1024, 2048, 4096, 8192, 16384] ∨ size = 0)) ∧
    (∃ (port : Fin 4) (n : Fin 8) (hpa size ways gran : Nat) (lock : Bool) (s : State), ((SMap.get Decoder.init
      (s.port port).decs n).committed = false ∨ (SMap.get Decoder.init (s.port port).decs n).locked = false)) ∧
    (∃ (port : Fin 4) (n : Fin 8) (hpa size ways gran : Nat) (lock commit : Bool) (s : State), ((SMap.get
      Decoder.init (s.port port).decs n).committed = true) ∧ ((SMap.get Decoder.init (s.port port).decs n).locked
      = true)) ∧
    (∃ (port : Fin 4) (dpa lines : Word) (s : State), (s.mboxUp port = true) ∧ (s.phase ≠ stRomRecovery) ∧
      (dpa.toNat % 64 ≠ 0 ∨ lines = 0)) ∧
    (∃ (port : Fin 4) (dpa lines : Word) (s : State), (s.mboxUp port = true) ∧ (s.phase ≠ stRomRecovery) ∧
      (dpa.toNat % 64 = 0) ∧ (lines ≠ 0) ∧ (dpa.toNat / 64 + lines.toNat ≤ capLines) ∧ (s.poisonList = [])) :=
  ⟨⟨0, 7, 64, 0, ⟨1, 9, false, false, .local⟩, sPeek, by decide +kernel⟩,
    ⟨3, 64, 0, ⟨1, 9, false, false, .local⟩, ⟨0x13, 1, 8, false, 64, [⟨1, 0, 8, 0, 0, none⟩], none, false⟩, ⟨1,
      0, 8, 0, 0, none⟩, (sPeek.setCtx 3
      { sPeek.ctx 3 with hold := .load ⟨0x13, 1, 8, false, 64, [⟨1, 0, 8, 0, 0, none⟩], none, false⟩ }),
      by decide +kernel⟩,
    ⟨3, 64, 9, Flips.none, sPeek.l1iFill 0 1 9, by decide +kernel⟩,
    ⟨3, 64, ⟨.owned, 9, false⟩, sPeek.wset 0 1 ⟨.owned, 9, false⟩, by decide +kernel⟩,
    ⟨3, 64, 0, ⟨1, 9, false, false, .local⟩, sPeek, by decide +kernel⟩,
    ⟨3, ⟨1, 0x88, 0xFF, 0, false, false⟩, [], 0, ⟨1, 9, false, false, .local⟩, sPeek.setCtx 3
      { sPeek.ctx 3 with sb := [⟨1, 0x88, 0xFF, 0, false, false⟩] }, by decide +kernel⟩,
    ⟨⟨0, 0, 7⟩, 64, 5, fullMask, false, 0, ⟨1, 9, false, false, .local⟩, sPeek, by decide +kernel⟩,
    ⟨⟨0, 0, 7⟩, 64, 5, fullMask, false, 0, ⟨1, 9, false, false, .local⟩, (sPeek.wr D.PWR_PGBUD_bytes 0),
      by decide +kernel⟩,
    ⟨⟨1, 3, 0⟩, 64, ⟨1, 0, fullMask, 0, true, false⟩, [], 0, ⟨1, 9, false, false, .local⟩, sPeek.setCtx 3
      { sPeek.ctx 3 with sb := [⟨1, 0, fullMask, 0, true, false⟩] }, by decide +kernel⟩,
    ⟨⟨0, 0, 7⟩, 64, Flips.none, sPeek, by decide +kernel⟩,
    ⟨⟨1, 3, 0⟩, 64, 1, true, 0, 0, 0, ⟨.add, 8, 0, 0, 5⟩, 0, ⟨1, 9, false, false, .local⟩, (sPeek.setCtx 3
      { sPeek.ctx 3 with hold := .load ⟨0x1C, 1, 8, false, 64, [⟨1, 0, 8, 0, 0, none⟩], some ⟨.add, 8, 0, 0, 5⟩, false⟩ }),
      by decide +kernel⟩,
    ⟨0, 7, 64, 64, sHdm, by decide +kernel⟩,
    ⟨0, 7, 64, (State.reset.wrP D.HST_STAT_mode 0 2), by decide +kernel⟩,
    ⟨0, 7, 64, sUp, by decide +kernel⟩,
    ⟨0, 7, 64, 5, fullMask, 64, 0, ⟨1, 9, false, false, .local⟩, sHdm, by decide +kernel⟩,
    ⟨0, 7, 64, 5, fullMask, false, Flips.none, sUp, by decide +kernel⟩,
    ⟨0, ⟨64, 5, fullMask, false⟩, [], 0, ⟨1, 9, false, false, .local⟩, sPeek.setPort 0
      { sPeek.port 0 with eab := [⟨64, 5, fullMask, false⟩] }, by decide +kernel⟩,
    ⟨0, 0, 0, 4096, false, sUp, by decide +kernel⟩,
    ⟨0, 0, 0, 4096, 4, 1024, false, sUp, by decide +kernel⟩,
    ⟨0, 0, 0, 4096, 3, 1024, false, sUp, by decide +kernel⟩,
    ⟨0, 0, 0, 4096, 3, 1024, false, sHdm, by decide +kernel⟩,
    ⟨0, 0, 0, 4096, 1, 256, true, true, sUp.setPort 0
      { sUp.port 0 with decs := [(0, ⟨0, 4096, 0, 8, true, true⟩)] }, by decide +kernel⟩,
    ⟨0, 1, 1, sUp, by decide +kernel⟩,
    ⟨0, 0, 4, sUp, by decide +kernel⟩⟩

theorem meets_HomeSliceProtocol :
    (∃ (slice : Fin 16) (r : Req) (s : State), (s.coh.conf.find? (fun r => decide (sliceOf r.gl = slice.val) &&
      !s.busyLine r.gl) = some r) ∧ (s.filterHas r.gl = true)) ∧
    (∃ (ga : BitVec 50) (stop : Fin 12) (t0 : Txn) (s : State), (s.txn (ga.toNat / 64) = some t0) ∧ (t0.phase =
      .snoop) ∧ (t0.answered.getLsbD stop = false) ∧ (8 ≤ stop.val) ∧ ((s.loan (ga.toNat / 64)).sharers = 0) ∧
      (s.grant (ga.toNat / 64) = none)) ∧
    (∃ (ga : BitVec 50) (stop : Fin 12) (t0 : Txn) (l : WLine) (s : State), (s.txn (ga.toNat / 64) = some t0) ∧
      (t0.phase = .snoop) ∧ (t0.answered.getLsbD stop = false) ∧ (stop.val < 8) ∧ (s.coh.wbq = []) ∧ (s.NoInj) ∧
      (s.wfind stop (ga.toNat / 64) = some l) ∧ (l.poison = false) ∧ (l.st = .modified) ∧ (t0.req.kind = .write)) ∧
    (∃ (ga : BitVec 50) (t0 : Txn) (s : State) (fl : Flips), (s.txn (ga.toNat / 64) = some t0) ∧ (t0.phase =
      .snoop) ∧ (t0.back = 0)) ∧
    (∃ (ga : BitVec 50) (t0 : Txn) (s : State) (fl : Flips), (s.txn (ga.toNat / 64) = some t0) ∧ (t0.req.gl =
      (ga.toNat / 64)) ∧ (t0.phase = .snoop) ∧ (t0.back = 1) ∧ (t0.answered = BitVec.allOnes 12) ∧ (t0.wbPend =
      false) ∧ (t0.got = none) ∧ (t0.req.kind = .inval) ∧ ((s.loan (ga.toNat / 64)).sharers = 0) ∧ (s.grant
      (ga.toNat / 64) = none)) ∧
    (∃ (ga : BitVec 50) (t0 : Txn) (port tag w : Nat) (v : VLine) (s : State), (s.txn (ga.toNat / 64) = some t0)
      ∧ (t0.phase = .alloc) ∧ (t0.req = ⟨.peek, (ga.toNat / 64), .port port tag, 0, 0, false, none⟩) ∧ (s.isLocal
      (ga.toNat / 64) = true) ∧ (s.NoInj) ∧ ((s.loan (ga.toNat / 64)).sharers = 0) ∧ (s.grant (ga.toNat / 64) =
      none) ∧ (s.Hits (ga.toNat / 64) w v) ∧ ((s.port port).reads = [⟨tag, ga.toNat⟩]) ∧ ((s.port port).eab = [])) ∧
    (∃ (gl : BitVec 44) (t0 : Txn) (fl : Flips) (w : Nat) (v : VLine) (s : State), (SMap.find s.coh.txns
      gl.toNat = some t0) ∧ (t0.phase = .hold) ∧ (t0.req.gl = gl.toNat) ∧ (t0.req.kind = .zero) ∧ (t0.req.mask =
      fullMask) ∧ (t0.req.poison = false) ∧ (t0.req.src = .dev) ∧ (s.Hits gl.toNat w v) ∧ ((s.attrOf
      gl.toNat).wpol = .wb) ∧ (s.verdict gl.toNat fullMask .dev false = .accept)) ∧
    (∃ (wing : Fin 8) (e : WbEnt) (t0 : Txn) (s : State), (s.coh.wbq.find? (fun e => decide (e.wing = wing.val))
      = some e) ∧ (s.txn e.gl = some t0) ∧ (t0.wbPend = true)) ∧
    (∃ (wing : Fin 8) (e : WbEnt) (w : Nat) (v : VLine) (s : State), (s.coh.wbq.find? (fun e => decide (e.wing =
      wing.val)) = some e) ∧ (s.txn e.gl = none) ∧ (s.Hits e.gl w v) ∧ ((s.attrOf e.gl).wpol = .wb) ∧ (e.poison =
      false)) ∧
    (∃ (pos : Nat) (e : EvEnt) (s : State), (s.coh.evb[pos]? = some e) ∧ ((s.coh.evb.take pos).all (fun x =>
      decide (x.gl ≠ e.gl)) = true) ∧ (s.isLocal e.gl = true) ∧ (e.poison = false) ∧ (s.NoInj) ∧ (SMap.find
      s.med.stg (llOf e.gl) = none)) ∧
    (∃ (slice : Fin 16) (set : Fin 3072) (w : Nat) (v : VLine) (s : State), (s.writesBack = true) ∧ (s.NoInj) ∧
      (s.governVictim slice set = some (w, v)) ∧ (s.vfind v.gl = some (w, v)) ∧ (s.evbRoom slice = true)) :=
  ⟨⟨0, ⟨.peek, 0, .dev, 0, 0, false, none⟩, ((fun (u : State) =>
      { u with coh := { u.coh with conf := [⟨.peek, 0, .dev, 0, 0, false, none⟩], filter := [0] } }) (sPeek)),
      by decide +kernel⟩,
    ⟨64, 9, txn1, sTxn txn1, by decide +kernel⟩,
    ⟨64, 2, { txn1 with req := { txn1.req with kind := .write } }, ⟨.modified, 9, false⟩, (sTxn
      { txn1 with req := { txn1.req with kind := .write } }).wset 2 1 ⟨.modified, 9, false⟩, by decide +kernel⟩,
    ⟨64, txn1, sTxn txn1, Flips.none, by decide +kernel⟩,
    ⟨64, { txn1 with back := 1, answered := BitVec.allOnes 12, req := { txn1.req with kind := .inval } }, sTxn
      { txn1 with back := 1, answered := BitVec.allOnes 12, req := { txn1.req with kind := .inval } }, Flips.none,
      by decide +kernel⟩,
    ⟨64, { txn1 with phase := .alloc, req := ⟨.peek, 1, .port 0 7, 0, 0, false, none⟩ }, 0, 7, 0, ⟨1, 9, false,
      false, .local⟩, sTxn { txn1 with phase := .alloc, req := ⟨.peek, 1, .port 0 7, 0, 0, false, none⟩ },
      by decide +kernel⟩,
    ⟨1, { txn1 with phase := .hold, req := ⟨.zero, 1, .dev, 0, fullMask, false, none⟩ }, Flips.none, 0, ⟨1, 9,
      false, false, .local⟩, sTxn { txn1 with phase := .hold, req := ⟨.zero, 1, .dev, 0, fullMask, false, none⟩ },
      by decide +kernel⟩,
    ⟨2, ⟨2, 1, 9, false⟩, { txn1 with wbPend := true }, ((fun (u : State) =>
      { u with coh := { u.coh with wbq := [⟨2, 1, 9, false⟩] } }) (sTxn { txn1 with wbPend := true })),
      by decide +kernel⟩,
    ⟨2, ⟨2, 1, 9, false⟩, 0, ⟨1, 9, false, false, .local⟩,
      { sPeek with coh := { sPeek.coh with wbq := [⟨2, 1, 9, false⟩] } }, by decide +kernel⟩,
    ⟨0, ⟨1, .victim, 9, fullMask, false⟩,
      { sPeek with coh := { sPeek.coh with evb := [⟨1, .victim, 9, fullMask, false⟩] } }, by decide +kernel⟩,
    ⟨(BitVec.ofNat 4 (sliceOf 1)).toFin, (⟨vitSet 1, by decide⟩ : Fin 3072), 0, ⟨1, 9, true, false, .local⟩,
      ((fun (u : State) =>
      { u.setWay 1 0 ⟨1, 9, true, false, .local⟩ with coh := { (u.setWay 1 0 ⟨1, 9, true, false, .local⟩).coh with chg := [(1, 64)], vrec := [(sliceOf 1 * 3072 + vitSet 1, [0])] } })
      (sPeek.wr D.PWR_PGSTAT_mode 1)), by decide +kernel⟩⟩

theorem meets_VitrineCommandsRun :
    (∃ (port : Fin 4) (wings : BitVec 8) (s : State), (s.portQuiet port = true) ∧ (s.phase ≠ stRomRecovery) ∧
      (wings ≠ 0) ∧ (s.coh.invBusy = 0)) ∧
    (∃ (port : Fin 4) (wings : BitVec 8) (s : State), (s.portQuiet port = true) ∧ (s.phase ≠ stRomRecovery) ∧
      (s.coh.invBusy ≠ 0)) ∧
    (∃ (s : State), (s.coh.invBusy ≠ 0) ∧ ((wingsIn s.coh.invBusy).all s.wingDrained = true)) ∧
    (∃ (port : Fin 4) (ways : BitVec 4) (s : State), (s.portQuiet port = true) ∧ (s.phase ≠ stRomRecovery) ∧
      (s.bit D.VIT_STAT_loanbusy = false) ∧ (ways.toNat ≤ 8) ∧ (ways.toNat ≠ s.coh.loanWays)) ∧
    (∃ (s : State), (s.bit D.VIT_STAT_loanbusy = true) ∧ (s.coh.vit = [])) ∧
    (∃ (slice way : Fin 16) (s : State), ((s.wayCnt slice way).disabling = true) ∧ (s.isOpen = true) ∧
      ((s.waysOff slice).testBit way = false) ∧ (s.coh.vit = []) ∧ (s.coh.evb = [])) ∧
    (∃ (port : Fin 4) (slice way : Fin 16) (s : State), (s.portQuiet port = true) ∧ (s.phase ≠ stRomRecovery) ∧
      ((s.waysOff slice).testBit way = true)) ∧
    (∃ (port : Fin 4) (addr : Word) (s : State), (s.portQuiet port = true) ∧ (s.phase ≠ stRomRecovery)) :=
  ⟨⟨0, 5, sUp, by decide +kernel⟩,
    ⟨0, 5, { sUp with coh := { sUp.coh with invBusy := 2 } }, by decide +kernel⟩,
    ⟨((fun (u : State) => { u with coh := { u.coh with invBusy := 2 } }) (sSeat.wset 1 1 ⟨.shared, 9, false⟩)),
      by decide +kernel⟩,
    ⟨0, 5, sUp, by decide +kernel⟩,
    ⟨(sUp.wr D.VIT_STAT_loanbusy 1).wr D.VIT_LOANCFG_ways 4, by decide +kernel⟩,
    ⟨1, 2, sUp.setWayCnt 1 2 { WayCnt.init with disabling := true }, by decide +kernel⟩,
    ⟨0, 1, 2, sUp.setWayDis 1 2 true, by decide +kernel⟩,
    ⟨0, 64, sUp, by decide +kernel⟩⟩

theorem meets_RegisterInstructionsSet :
    (∃ (c : Fin 256) (d a b : BitVec 5) (s : State), (s.Ready c)) ∧
    (∃ (c : Fin 256) (d a b : BitVec 5) (s : State), (s.Ready c)) ∧
    (∃ (c : Fin 256) (d a b : BitVec 5) (s : State), (s.Ready c)) ∧
    (∃ (c : Fin 256) (d a b : BitVec 5) (s : State), (s.Ready c)) ∧
    (∃ (c : Fin 256) (d a b : BitVec 5) (s : State), (s.Ready c)) ∧
    (∃ (c : Fin 256) (d a b : BitVec 5) (s : State), (s.Ready c)) ∧
    (∃ (c : Fin 256) (d a b : BitVec 5) (s : State), (s.Ready c)) ∧
    (∃ (c : Fin 256) (d a b : BitVec 5) (s : State), (s.Ready c)) ∧
    (∃ (c : Fin 256) (d a b : BitVec 5) (s : State), (s.Ready c)) ∧
    (∃ (c : Fin 256) (d a b : BitVec 5) (s : State), (s.Ready c)) ∧
    (∃ (c : Fin 256) (d a b : BitVec 5) (s : State), (s.Ready c)) ∧
    (∃ (c : Fin 256) (d a b : BitVec 5) (s : State), (s.Ready c)) ∧
    (∃ (c : Fin 256) (d a b : BitVec 5) (s : State), (s.Ready c)) ∧
    (∃ (c : Fin 256) (d a b : BitVec 5) (s : State), (s.Ready c)) ∧
    (∃ (c : Fin 256) (d a b : BitVec 5) (s : State), (s.Ready c)) :=
  ⟨⟨3, 1, 2, 4, sRun, by decide +kernel⟩,
    ⟨3, 1, 2, 4, sRun, by decide +kernel⟩,
    ⟨3, 1, 2, 4, sRun, by decide +kernel⟩,
    ⟨3, 1, 2, 4, sRun, by decide +kernel⟩,
    ⟨3, 1, 2, 4, sRun, by decide +kernel⟩,
    ⟨3, 1, 2, 4, sRun, by decide +kernel⟩,
    ⟨3, 1, 2, 4, sRun, by decide +kernel⟩,
    ⟨3, 1, 2, 4, sRun, by decide +kernel⟩,
    ⟨3, 1, 2, 4, sRun, by decide +kernel⟩,
    ⟨3, 1, 2, 4, sRun, by decide +kernel⟩,
    ⟨3, 1, 2, 4, sRun, by decide +kernel⟩,
    ⟨3, 1, 2, 4, sRun, by decide +kernel⟩,
    ⟨3, 1, 2, 4, sRun, by decide +kernel⟩,
    ⟨3, 1, 2, 4, sRun, by decide +kernel⟩,
    ⟨3, 1, 2, 4, sRun, by decide +kernel⟩⟩

theorem meets_ProductsAndDivisions :
    (∃ (c : Fin 256) (d a b : BitVec 5) (s : State), (s.Ready c)) ∧
    (∃ (c : Fin 256) (d a b : BitVec 5) (s : State), (s.Ready c)) ∧
    (∃ (c : Fin 256) (d a b : BitVec 5) (s : State), (s.Ready c)) ∧
    (∃ (c : Fin 256) (d a b : BitVec 5) (s : State), (s.Ready c)) ∧
    (∃ (c : Fin 256) (d a b : BitVec 5) (s : State), (s.Ready c)) ∧
    (∃ (c : Fin 256) (d a b : BitVec 5) (s : State), (s.Ready c)) :=
  ⟨⟨3, 1, 2, 4, sRun, by decide +kernel⟩,
    ⟨3, 1, 2, 4, sRun, by decide +kernel⟩,
    ⟨3, 1, 2, 4, sRun, by decide +kernel⟩,
    ⟨3, 1, 2, 4, sRun, by decide +kernel⟩,
    ⟨3, 1, 2, 4, sRun, by decide +kernel⟩,
    ⟨3, 1, 2, 4, sRun, by decide +kernel⟩⟩

theorem meets_OneRegisterInstructionsSet :
    (∃ (c : Fin 256) (d a : BitVec 5) (s : State), (s.Ready c)) ∧
    (∃ (c : Fin 256) (d a : BitVec 5) (s : State), (s.Ready c)) ∧
    (∃ (c : Fin 256) (d a : BitVec 5) (s : State), (s.Ready c)) ∧
    (∃ (c : Fin 256) (d a : BitVec 5) (s : State), (s.Ready c)) ∧
    (∃ (c : Fin 256) (d a : BitVec 5) (s : State), (s.Ready c)) ∧
    (∃ (c : Fin 256) (d a : BitVec 5) (s : State), (s.Ready c)) ∧
    (∃ (c : Fin 256) (d a : BitVec 5) (s : State), (s.Ready c)) ∧
    (∃ (c : Fin 256) (d a : BitVec 5) (s : State), (s.Ready c)) :=
  ⟨⟨3, 1, 4, sRun, by decide +kernel⟩,
    ⟨3, 1, 4, sRun, by decide +kernel⟩,
    ⟨3, 1, 4, sRun, by decide +kernel⟩,
    ⟨3, 1, 4, sRun, by decide +kernel⟩,
    ⟨3, 1, 4, sRun, by decide +kernel⟩,
    ⟨3, 1, 4, sRun, by decide +kernel⟩,
    ⟨3, 1, 4, sRun, by decide +kernel⟩,
    ⟨3, 1, 4, sRun, by decide +kernel⟩⟩

theorem meets_ImmediateInstructionsSet :
    (∃ (c : Fin 256) (d a : BitVec 5) (imm : BitVec 16) (s : State), (s.Ready c)) ∧
    (∃ (c : Fin 256) (d a : BitVec 5) (imm : BitVec 16) (s : State), (s.Ready c)) ∧
    (∃ (c : Fin 256) (d a : BitVec 5) (imm : BitVec 16) (s : State), (s.Ready c)) ∧
    (∃ (c : Fin 256) (d a : BitVec 5) (imm : BitVec 16) (s : State), (s.Ready c)) ∧
    (∃ (c : Fin 256) (d a : BitVec 5) (imm : BitVec 16) (s : State), (s.Ready c)) ∧
    (∃ (c : Fin 256) (d a : BitVec 5) (imm : BitVec 16) (s : State), (s.Ready c)) ∧
    (∃ (c : Fin 256) (d : BitVec 5) (imm : BitVec 16) (s : State), (s.Ready c)) ∧
    (∃ (c : Fin 256) (d a : BitVec 5) (sh : BitVec 6) (s : State), (s.Ready c)) ∧
    (∃ (c : Fin 256) (d a : BitVec 5) (sh : BitVec 6) (s : State), (s.Ready c)) ∧
    (∃ (c : Fin 256) (d a : BitVec 5) (sh : BitVec 6) (s : State), (s.Ready c)) ∧
    (∃ (c : Fin 256) (d a : BitVec 5) (imm : BitVec 16) (s : State), (s.Ready c)) :=
  ⟨⟨3, 1, 4, 0xFFF0, sRun, by decide +kernel⟩,
    ⟨3, 1, 4, 0xFFF0, sRun, by decide +kernel⟩,
    ⟨3, 1, 4, 0xFFF0, sRun, by decide +kernel⟩,
    ⟨3, 1, 4, 0xFFF0, sRun, by decide +kernel⟩,
    ⟨3, 1, 4, 0xFFF0, sRun, by decide +kernel⟩,
    ⟨3, 1, 4, 0xFFF0, sRun, by decide +kernel⟩,
    ⟨3, 1, 0xFFF0, sRun, by decide +kernel⟩,
    ⟨3, 1, 4, 7, sRun, by decide +kernel⟩,
    ⟨3, 1, 4, 7, sRun, by decide +kernel⟩,
    ⟨3, 1, 4, 7, sRun, by decide +kernel⟩,
    ⟨3, 1, 4, 0xFFF0, sRun, by decide +kernel⟩⟩

theorem meets_LoadsReturn :
    (∃ (c : Fin 256) (d a : BitVec 5) (imm : BitVec 16) (fl : Flips) (s : State), (s.Ready c) ∧ (s.LoadsNow c
      ((s.ctx c).ea a imm) 1 fl)) ∧
    (∃ (c : Fin 256) (d a : BitVec 5) (imm : BitVec 16) (fl : Flips) (s : State), (s.Ready c) ∧ (s.LoadsNow c
      ((s.ctx c).ea a imm) 2 fl)) ∧
    (∃ (c : Fin 256) (d a : BitVec 5) (imm : BitVec 16) (fl : Flips) (s : State), (s.Ready c) ∧ (s.LoadsNow c
      ((s.ctx c).ea a imm) 4 fl)) ∧
    (∃ (c : Fin 256) (d a : BitVec 5) (imm : BitVec 16) (fl : Flips) (s : State), (s.Ready c) ∧ (s.LoadsNow c
      ((s.ctx c).ea a imm) 8 fl)) ∧
    (∃ (c : Fin 256) (d a : BitVec 5) (imm : BitVec 16) (fl : Flips) (s : State), (s.Ready c) ∧ (s.LoadsNow c
      ((s.ctx c).ea a imm) 1 fl)) ∧
    (∃ (c : Fin 256) (d a : BitVec 5) (imm : BitVec 16) (fl : Flips) (s : State), (s.Ready c) ∧ (s.LoadsNow c
      ((s.ctx c).ea a imm) 2 fl)) ∧
    (∃ (c : Fin 256) (d a : BitVec 5) (imm : BitVec 16) (fl : Flips) (s : State), (s.Ready c) ∧ (s.LoadsNow c
      ((s.ctx c).ea a imm) 4 fl)) ∧
    (∃ (c : Fin 256) (d a : BitVec 5) (imm : BitVec 16) (l : WLine) (s : State), (s.Ready c) ∧ (s.NoInj) ∧
      ((s.ctx c).ea a imm % 64 + 8 ≤ 64) ∧ (addrFault [((s.ctx c).ea a imm, 8)] = none) ∧ (s.coh.invBusy.getLsbD
      (wingOf c) = false) ∧ ((s.ctx c).sb = []) ∧ (s.wfind (wingOf c) ((s.ctx c).ea a imm / 64) = some l) ∧
      (l.poison = false) ∧ (s.breached ((s.ctx c).ea a imm / 64) = false)) ∧
    (∃ (c : Fin 256) (d a : BitVec 5) (imm : BitVec 16) (fl : Flips) (s : State) (code addr : Nat), (s.Ready c)
      ∧ (addrFault (unitAddrs ((s.ctx c).ea a imm) 8) = some (code, addr))) :=
  ⟨⟨3, 1, 0, 8, Flips.none, sBuf, by decide +kernel⟩,
    ⟨3, 1, 0, 8, Flips.none, sBuf, by decide +kernel⟩,
    ⟨3, 1, 0, 8, Flips.none, sBuf, by decide +kernel⟩,
    ⟨3, 1, 0, 8, Flips.none, sBuf, by decide +kernel⟩,
    ⟨3, 1, 0, 8, Flips.none, sBuf, by decide +kernel⟩,
    ⟨3, 1, 0, 8, Flips.none, sBuf, by decide +kernel⟩,
    ⟨3, 1, 0, 8, Flips.none, sBuf, by decide +kernel⟩,
    ⟨3, 1, 0, 8, ⟨.modified, 0x77, false⟩, sOwn, by decide +kernel⟩,
    ⟨3, 1, 4, 0, Flips.none, sRun, fltAddrForm, 0xFFFFFFFFFFFFFFFE, by decide +kernel⟩⟩

theorem meets_StoresAreBuffered :
    (∃ (c : Fin 256) (d a : BitVec 5) (imm : BitVec 16) (s : State), (s.StoresNow c a imm 1)) ∧
    (∃ (c : Fin 256) (d a : BitVec 5) (imm : BitVec 16) (s : State), (s.StoresNow c a imm 2)) ∧
    (∃ (c : Fin 256) (d a : BitVec 5) (imm : BitVec 16) (s : State), (s.StoresNow c a imm 4)) ∧
    (∃ (c : Fin 256) (d a : BitVec 5) (imm : BitVec 16) (s : State), (s.StoresNow c a imm 8)) ∧
    (∃ (c : Fin 256) (d a : BitVec 5) (imm : BitVec 16) (s : State) (code addr : Nat), (s.Ready c) ∧ (addrFault
      (unitAddrs ((s.ctx c).ea a imm) 8) = some (code, addr))) ∧
    (∃ (c : Fin 256) (a : BitVec 5) (s : State), (s.Ready c) ∧ (addrFault [(((s.ctx c).reg a).toNat, 1)] = none)
      ∧ (s.coh.invBusy.getLsbD (wingOf c) = false) ∧ (s.joins c (s.ctx c).sb (((s.ctx c).reg a).toNat / 64) =
      false)) ∧
    (∃ (c : Fin 256) (loan : Bool) (e : SbEnt) (r : List SbEnt) (l : WLine) (s : State), (s.NoInj) ∧ ((s.ctx
      c).sb = e :: r) ∧ (s.isLocal e.gl = true) ∧ (e.zline = false) ∧ (s.wfind (wingOf c) e.gl = some l) ∧ (l.st ≠
      .shared)) ∧
    (∃ (c : Fin 256) (pc addr : Nat) (s : State), (s.cur.refusals.find? (fun r => decide (r.1 = c.val)) = some
      (c.val, pc, addr)) ∧ ((s.ctx c).st = .running) ∧ ((s.ctx c).hold = .none) ∧ ((s.ctx c).gfence = none) ∧
      ((s.ctx c).pendAbort = false) ∧ ((s.ctx c).pendDiscard = none)) :=
  ⟨⟨3, 2, 0, 8, sRun, by decide +kernel⟩,
    ⟨3, 2, 0, 8, sRun, by decide +kernel⟩,
    ⟨3, 2, 0, 8, sRun, by decide +kernel⟩,
    ⟨3, 2, 0, 8, sRun, by decide +kernel⟩,
    ⟨3, 1, 4, 0, sRun, fltAddrForm, 0xFFFFFFFFFFFFFFFE, by decide +kernel⟩,
    ⟨3, 2, sRun, by decide +kernel⟩,
    ⟨3, false, ⟨0, 0x88, 0xFF, 0, false, false⟩, [], ⟨.modified, 0x77, false⟩, sOwn.setCtx 3
      { sOwn.ctx 3 with sb := [⟨0, 0x88, 0xFF, 0, false, false⟩] }, by decide +kernel⟩,
    ⟨3, 4, 64, { sRun with cur := { sRun.cur with refusals := [(3, 4, 64)] } }, by decide +kernel⟩⟩

theorem meets_AtomicsExchange :
    (∃ (c : Fin 256) (wide : Bool) (d a b : BitVec 5) (l : WLine) (s : State), (s.AtomNow c wide a l)) ∧
    (∃ (c : Fin 256) (wide : Bool) (d a b : BitVec 5) (l : WLine) (s : State), (s.AtomNow c wide a l)) ∧
    (∃ (c : Fin 256) (wide : Bool) (d a b : BitVec 5) (l : WLine) (s : State), (s.AtomNow c wide a l)) ∧
    (∃ (c : Fin 256) (wide : Bool) (d a b : BitVec 5) (l : WLine) (s : State), (s.AtomNow c wide a l)) ∧
    (∃ (c : Fin 256) (wide : Bool) (d a b : BitVec 5) (l : WLine) (s : State), (s.AtomNow c wide a l)) ∧
    (∃ (c : Fin 256) (wide : Bool) (d a b : BitVec 5) (l : WLine) (s : State), (s.AtomNow c wide a l)) ∧
    (∃ (c : Fin 256) (wide : Bool) (d a b : BitVec 5) (l : WLine) (s : State), (s.AtomNow c wide a l)) ∧
    (∃ (c : Fin 256) (wide : Bool) (d a b : BitVec 5) (l : WLine) (s : State), (s.AtomNow c wide a l)) ∧
    (∃ (c : Fin 256) (wide : Bool) (d a b : BitVec 5) (l : WLine) (s : State), (s.AtomNow c wide a l)) ∧
    (∃ (c : Fin 256) (wide : Bool) (d a b : BitVec 5) (l : WLine) (s : State), (s.AtomNow c wide a l)) ∧
    (∃ (c : Fin 256) (wide : Bool) (d a b : BitVec 5) (fl : Flips) (s : State), (s.Ready c) ∧ (64 < ((s.ctx
      c).reg a).toNat % 64 + atomBytes wide)) ∧
    (∃ (c : Fin 256) (fl : Flips) (l : LdEnt) (s : State), (s.phase ≠ stRomRecovery) ∧ ((s.ctx c).st = .running)
      ∧ ((s.ctx c).hold = .load l) ∧ (l.units.all (fun u => u.got.isSome) = true) ∧ (l.units.find? LdUnit.poisoned
      = none) ∧ (l.atom = none)) :=
  ⟨⟨3, false, 2, 0, 4, ⟨.modified, 0x77, false⟩, sOwn, by decide +kernel⟩,
    ⟨3, false, 2, 0, 4, ⟨.modified, 0x77, false⟩, sOwn, by decide +kernel⟩,
    ⟨3, false, 2, 0, 4, ⟨.modified, 0x77, false⟩, sOwn, by decide +kernel⟩,
    ⟨3, false, 2, 0, 4, ⟨.modified, 0x77, false⟩, sOwn, by decide +kernel⟩,
    ⟨3, false, 2, 0, 4, ⟨.modified, 0x77, false⟩, sOwn, by decide +kernel⟩,
    ⟨3, false, 2, 0, 4, ⟨.modified, 0x77, false⟩, sOwn, by decide +kernel⟩,
    ⟨3, false, 2, 0, 4, ⟨.modified, 0x77, false⟩, sOwn, by decide +kernel⟩,
    ⟨3, false, 2, 0, 4, ⟨.modified, 0x77, false⟩, sOwn, by decide +kernel⟩,
    ⟨3, false, 2, 0, 4, ⟨.modified, 0x77, false⟩, sOwn, by decide +kernel⟩,
    ⟨3, false, 2, 0, 4, ⟨.modified, 0x77, false⟩, sOwn, by decide +kernel⟩,
    ⟨3, true, 2, 4, 4, Flips.none, sRun, by decide +kernel⟩,
    ⟨3, Flips.none, ⟨0x13, 1, 8, false, 64, [⟨1, 0, 8, 0, 0, some (5, false)⟩], none, false⟩, sRun.setCtx 3
      { sRun.ctx 3 with hold := .load ⟨0x13, 1, 8, false, 64, [⟨1, 0, 8, 0, 0, some (5, false)⟩], none, false⟩ },
      by decide +kernel⟩⟩

theorem meets_BranchesJumpsAndLibraryCalls :
    (∃ (c : Fin 256) (d a : BitVec 5) (imm : BitVec 16) (s : State), (s.Ready c)) ∧
    (∃ (c : Fin 256) (d a : BitVec 5) (imm : BitVec 16) (s : State), (s.Ready c)) ∧
    (∃ (c : Fin 256) (d a : BitVec 5) (imm : BitVec 16) (s : State), (s.Ready c)) ∧
    (∃ (c : Fin 256) (d a : BitVec 5) (imm : BitVec 16) (s : State), (s.Ready c)) ∧
    (∃ (c : Fin 256) (d a : BitVec 5) (imm : BitVec 16) (s : State), (s.Ready c)) ∧
    (∃ (c : Fin 256) (d a : BitVec 5) (imm : BitVec 16) (s : State), (s.Ready c)) ∧
    (∃ (c : Fin 256) (d : BitVec 5) (imm : BitVec 16) (s : State), (s.Ready c)) ∧
    (∃ (c : Fin 256) (d a : BitVec 5) (imm : BitVec 16) (s : State), (s.Ready c) ∧ ((s.ctx c).ea a imm % 4 = 0)) ∧
    (∃ (c : Fin 256) (d a : BitVec 5) (imm : BitVec 16) (s : State), (s.Ready c) ∧ ((s.ctx c).ea a imm % 4 ≠ 0)) ∧
    (∃ (c : Fin 256) (imm : BitVec 16) (p e : Program) (q off : Nat) (s : State), (s.Ready c) ∧ ((s.ctx c).sb =
      []) ∧ (s.prog (s.ctx c).prog = some p) ∧ (p.imports[imm.toNat]? = some (q, off)) ∧ ((s.ctx c).links.length <
      4) ∧ (s.prog q = some e)) ∧
    (∃ (c : Fin 256) (l : Link) (r : List Link) (s : State), (s.Ready c) ∧ ((s.ctx c).sb = []) ∧ ((s.ctx
      c).links = l :: r)) ∧
    (∃ (c : Fin 256) (s : State), (s.Ready c) ∧ ((s.ctx c).sb = []) ∧ ((s.ctx c).links = [])) :=
  ⟨⟨3, 1, 4, 0xFFF0, sRun, by decide +kernel⟩,
    ⟨3, 1, 4, 0xFFF0, sRun, by decide +kernel⟩,
    ⟨3, 1, 4, 0xFFF0, sRun, by decide +kernel⟩,
    ⟨3, 1, 4, 0xFFF0, sRun, by decide +kernel⟩,
    ⟨3, 1, 4, 0xFFF0, sRun, by decide +kernel⟩,
    ⟨3, 1, 4, 0xFFF0, sRun, by decide +kernel⟩,
    ⟨3, 1, 0xFFF0, sRun, by decide +kernel⟩,
    ⟨3, 1, 0, 8, sRun, by decide +kernel⟩,
    ⟨3, 1, 0, 7, sRun, by decide +kernel⟩,
    ⟨3, 0, { progOne with imports := [(20, 8)] }, { progOne with imports := [(20, 8)] }, 20, 8,
      { sRun with cur := { sRun.cur with progs := [(20, { progOne with imports := [(20, 8)] })] } },
      by decide +kernel⟩,
    ⟨3, ⟨8, 20, .guest⟩, [], sRun.setCtx 3 { sRun.ctx 3 with links := [⟨8, 20, .guest⟩] }, by decide +kernel⟩,
    ⟨3, sRun, by decide +kernel⟩⟩

theorem meets_FencesControlWordsAndFaults :
    (∃ (c : Fin 256) (s : State), (s.Ready c) ∧ ((s.ctx c).sb = [])) ∧
    (∃ (c : Fin 256) (s : State), (s.Ready c) ∧ ((s.ctx c).sb ≠ [])) ∧
    (∃ (c : Fin 256) (s : State), (s.Ready c) ∧ ((s.ctx c).sb = [])) ∧
    (∃ (c : Fin 256) (d : BitVec 5) (s : State), (s.Ready c) ∧ ((s.ctx c).sb = []) ∧ (s.outOf c = []) ∧ ((s.ctx
      c).gfence = none)) ∧
    (∃ (c : Fin 256) (d : BitVec 5) (s : State), (s.Ready c) ∧ ((s.ctx c).sb = []) ∧ (s.refusing c = false)) ∧
    (∃ (c : Fin 256) (d : BitVec 5) (s : State), (s.Ready c)) ∧
    (∃ (c : Fin 256) (d : BitVec 5) (cw : BitVec 6) (r : Nat) (w : Option Nat) (s : State), (s.Ready c) ∧
      (cwFloors cw.toNat = some (r, w)) ∧ (r ≤ (s.ctx c).priv.code)) ∧
    (∃ (c : Fin 256) (d : BitVec 5) (cw : BitVec 6) (r : Nat) (w : Option Nat) (s : State), (s.Ready c) ∧
      (cwFloors cw.toNat = some (r, w)) ∧ ((s.ctx c).priv.code < r)) ∧
    (∃ (c : Fin 256) (d : BitVec 5) (cw : BitVec 6) (r w : Nat) (s : State), (s.Ready c) ∧ (cwFloors cw.toNat =
      some (r, some w)) ∧ (w ≤ (s.ctx c).priv.code)) ∧
    (∃ (c : Fin 256) (d : BitVec 5) (cw : BitVec 6) (r w : Nat) (s : State), (s.Ready c) ∧ (cwFloors cw.toNat =
      some (r, some w)) ∧ ((s.ctx c).priv.code < w)) ∧
    (∃ (c : Fin 256) (imm : BitVec 16) (s : State), (s.Ready c)) ∧
    (∃ (c : Fin 256) (imm : BitVec 16) (s : State), (s.Ready c)) ∧
    (∃ (c : Fin 256) (n : Nat) (s : State), ((s.ctx c).hold = .pause n) ∧ ((s.ctx c).st = .running) ∧
      (s.boundary c = none)) ∧
    (∃ (c : Fin 256) (s : State), ((s.ctx c).st = .running) ∧ ((s.ctx c).hold = .none) ∧ ((s.ctx c).gfence =
      none) ∧ ((s.ctx c).pendAbort = false) ∧ ((s.ctx c).pendDiscard = none) ∧ ((s.ctx c).deadline ≠ 0) ∧ ((s.ctx
      c).deadline ≤ s.now)) ∧
    (∃ (c : Fin 256) (w : BitVec 32) (s : State), (s.Ready c) ∧ (legalWord w = false)) ∧
    (∃ (c : Fin 256) (giveUp : Bool) (f : FaultRec) (s : State), ((s.ctx c).st = .stopped) ∧ ((s.ctx c).fault =
      some f) ∧ (f.priv ≠ .warden) ∧ ((s.ctx c).sb = []) ∧ ((s.ctx c).jobs = []) ∧ ((s.ctx c).donePend = false) ∧
      (s.cqGood (s.ctx c).cq = true) ∧ (s.qFull (s.ctx c).cq = false)) :=
  ⟨⟨3, sRun, by decide +kernel⟩,
    ⟨3, sBuf, by decide +kernel⟩,
    ⟨3, sRun, by decide +kernel⟩,
    ⟨3, 1, sRun, by decide +kernel⟩,
    ⟨3, 1, sRun, by decide +kernel⟩,
    ⟨3, 1, sRun, by decide +kernel⟩,
    ⟨3, 1, 8, 0, some 0, sRun, by decide +kernel⟩,
    ⟨3, 1, 50, 2, some 2, sRun, by decide +kernel⟩,
    ⟨3, 2, 8, 0, 0, sRun, by decide +kernel⟩,
    ⟨3, 2, 5, 0, 1, sRun, by decide +kernel⟩,
    ⟨3, 7, sRun, by decide +kernel⟩,
    ⟨3, 7, sRun, by decide +kernel⟩,
    ⟨3, 5, sRun.setCtx 3 { sRun.ctx 3 with hold := .pause 5 }, by decide +kernel⟩,
    ⟨3, (sRun.setCtx 3 { sRun.ctx 3 with deadline := 5 }).wr D.GBL_VTIME_ns 9, by decide +kernel⟩,
    ⟨3, 0, sRun, by decide +kernel⟩,
    ⟨3, false, ⟨fltTrap, 7, 0, 0, .guest⟩, ((sRun.wr D.ATQ_CFG_enable 1 5).wr D.ATQ_CFG_type 1 5).setCtx 3
      { sRun.ctx 3 with st := .stopped, fault := some ⟨fltTrap, 7, 0, 0, .guest⟩, cq := 5 }, by decide +kernel⟩⟩

theorem meets_QueueInstructionsRun :
    (∃ (c : Fin 256) (d a b : BitVec 5) (corr : Fin 9) (e : QEntry) (r : List QEntry) (s : State), (s.Served c)
      ∧ (s.NoInj) ∧ (s.qOpenTo (s.ctx c) ((s.ctx c).reg a).toNat = true) ∧ (lineFault ((s.ctx c).reg b).toNat =
      none) ∧ (s.qOn ((s.ctx c).reg a).toNat = true) ∧ ((s.queue ((s.ctx c).reg a).toNat).vis = e :: r) ∧ (e.bad =
      false) ∧ ((s.qTake ((s.ctx c).reg a).toNat corr false).2.Accepts c (((s.ctx c).reg b).toNat / 64) e.data)) ∧
    (∃ (c : Fin 256) (d a b : BitVec 5) (corr : Fin 9) (e : QEntry) (r : List QEntry) (s : State), (s.Served c)
      ∧ (s.NoInj) ∧ (s.qOpenTo (s.ctx c) ((s.ctx c).reg a).toNat = true) ∧ (lineFault ((s.ctx c).reg b).toNat =
      none) ∧ (s.qOn ((s.ctx c).reg a).toNat = true) ∧ ((s.queue ((s.ctx c).reg a).toNat).vis = e :: r) ∧ (e.bad =
      false) ∧ ((s.qTake ((s.ctx c).reg a).toNat corr false).2.Accepts c (((s.ctx c).reg b).toNat / 64) e.data)) ∧
    (∃ (c : Fin 256) (d a b : BitVec 5) (corr : Fin 9) (unc : Bool) (e : QEntry) (r : List QEntry) (s : State),
      (s.Served c) ∧ (s.qOpenTo (s.ctx c) ((s.ctx c).reg a).toNat = true) ∧ (lineFault ((s.ctx c).reg b).toNat =
      none) ∧ (s.qOn ((s.ctx c).reg a).toNat = true) ∧ ((s.queue ((s.ctx c).reg a).toNat).vis = e :: r) ∧ (unc =
      true ∨ e.bad = true)) ∧
    (∃ (c : Fin 256) (d a b : BitVec 5) (corr : Fin 9) (unc : Bool) (e : QEntry) (r : List QEntry) (s : State),
      (s.Served c) ∧ (s.qOpenTo (s.ctx c) ((s.ctx c).reg a).toNat = true) ∧ (lineFault ((s.ctx c).reg b).toNat =
      none) ∧ (s.qOn ((s.ctx c).reg a).toNat = true) ∧ ((s.queue ((s.ctx c).reg a).toNat).vis = e :: r) ∧ (unc =
      true ∨ e.bad = true)) ∧
    (∃ (c : Fin 256) (d a b : BitVec 5) (corr : Fin 9) (unc : Bool) (s : State), (s.Served c) ∧ (s.qOpenTo
      (s.ctx c) ((s.ctx c).reg a).toNat = true) ∧ (lineFault ((s.ctx c).reg b).toNat = none) ∧ (s.qOn ((s.ctx
      c).reg a).toNat = false ∨ (s.queue ((s.ctx c).reg a).toNat).vis = [])) ∧
    (∃ (c : Fin 256) (d a b : BitVec 5) (corr : Fin 9) (unc : Bool) (s : State), (s.Served c) ∧ (s.qOpenTo
      (s.ctx c) ((s.ctx c).reg a).toNat = true) ∧ (lineFault ((s.ctx c).reg b).toNat = none) ∧ (s.qOn ((s.ctx
      c).reg a).toNat = false ∨ (s.queue ((s.ctx c).reg a).toNat).vis = [])) ∧
    (∃ (c : Fin 256) (d a b : BitVec 5) (corr : Fin 9) (unc : Bool) (s : State), (s.Served c) ∧ (s.qOpenTo
      (s.ctx c) ((s.ctx c).reg a).toNat = false)) ∧
    (∃ (c : Fin 256) (d a b : BitVec 5) (ext : Ext) (l : Line) (u : State) (s : State), (s.Names c ((s.ctx
      c).reg b).toNat ext l u) ∧ (u.qOpenTo (s.ctx c) ((s.ctx c).reg a).toNat = true) ∧ (u.qOn ((s.ctx c).reg
      a).toNat = true) ∧ (u.qFull ((s.ctx c).reg a).toNat = false)) ∧
    (∃ (c : Fin 256) (d a b : BitVec 5) (ext : Ext) (l : Line) (u : State) (s : State), (s.Names c ((s.ctx
      c).reg b).toNat ext l u) ∧ (u.qOpenTo (s.ctx c) ((s.ctx c).reg a).toNat = true) ∧ (u.qOn ((s.ctx c).reg
      a).toNat = false ∨ u.qFull ((s.ctx c).reg a).toNat = true)) :=
  ⟨⟨3, 1, 6, 5, 0, ⟨7, false⟩, [], sGet, by decide +kernel⟩,
    ⟨3, 1, 6, 5, 0, ⟨7, false⟩, [], sGet, by decide +kernel⟩,
    ⟨3, 1, 6, 5, 0, true, ⟨7, false⟩, [], sGet, by decide +kernel⟩,
    ⟨3, 1, 6, 5, 0, true, ⟨7, false⟩, [], sGet, by decide +kernel⟩,
    ⟨3, 1, 6, 5, 0, false, (sGet.setQueue 5 AQueue.init), by decide +kernel⟩,
    ⟨3, 1, 6, 5, 0, false, (sGet.setQueue 5 AQueue.init), by decide +kernel⟩,
    ⟨3, 1, 4, 5, 0, false, sGet, by decide +kernel⟩,
    ⟨3, 1, 6, 5, [], 9, sGet, sGet, by decide +kernel⟩,
    ⟨3, 1, 6, 5, [], 9, (sGet.wr D.ATQ_CFG_enable 0 5), (sGet.wr D.ATQ_CFG_enable 0 5), by decide +kernel⟩⟩

theorem meets_AccessionInstructionsRun :
    (∃ (c : Fin 256) (d a : BitVec 5) (ext : Ext) (l : Line) (kp : Bytes) (n : Nat) (u : State) (s : State),
      (s.Names c ((s.ctx c).reg a).toNat ext l u) ∧ (u.accBadRange (wordAt l 0) (wordAt l 1) (wordAt l 2) = false)
      ∧ (u.hmacKey ((wordAt l 3) % 64) = some kp) ∧ (u.accFree = some n)) ∧
    (∃ (c : Fin 256) (d a : BitVec 5) (ext : Ext) (l : Line) (u : State) (s : State), (s.Names c ((s.ctx c).reg
      a).toNat ext l u) ∧ (u.accBadRange (wordAt l 0) (wordAt l 1) (wordAt l 2) = true)) ∧
    (∃ (c : Fin 256) (d a b : BitVec 5) (s : State), (s.Served c) ∧ (((s.ctx c).reg b).toNat % 64 = 0) ∧
      (addrFault [(((s.ctx c).reg b).toNat, 64), (((s.ctx c).reg b).toNat + 64, 64)] = none) ∧ (((s.ctx c).reg
      a).toNat < 65536) ∧ (s.Accepts c (((s.ctx c).reg b).toNat / 64) (lineOfWords ((List.range 8).map (s.acc
      ((s.ctx c).reg a).toNat).word))) ∧ ((s.afterWrite c (((s.ctx c).reg b).toNat / 64) (lineOfWords ((List.range
      8).map (s.acc ((s.ctx c).reg a).toNat).word))).Accepts c (((s.ctx c).reg b).toNat / 64 + 1) (lineOfWords
      ((List.range 8).map (fun w => (s.acc ((s.ctx c).reg a).toNat).word (8 + w)))))) ∧
    (∃ (c : Fin 256) (d a b : BitVec 5) (s : State), (s.Served c) ∧ (((s.ctx c).reg b).toNat % 64 = 0) ∧
      (addrFault [(((s.ctx c).reg b).toNat, 64), (((s.ctx c).reg b).toNat + 64, 64)] = none) ∧ (65536 ≤ ((s.ctx
      c).reg a).toNat)) ∧
    (∃ (c : Fin 256) (d a : BitVec 5) (s : State), (s.Served c) ∧ (65536 ≤ ((s.ctx c).reg a).toNat ∨ (s.acc
      ((s.ctx c).reg a).toNat).st = .free)) ∧
    (∃ (c : Fin 256) (d a : BitVec 5) (s : State), (s.Served c) ∧ (((s.ctx c).reg a).toNat < 65536) ∧ ((s.acc
      ((s.ctx c).reg a).toNat).st = .open) ∧ ((s.acc ((s.ctx c).reg a).toNat).segments = 0) ∧ (s.cur.accOps.any
      (fun o => decide (o.2.2.1 = ((s.ctx c).reg a).toNat)) = false)) ∧
    (∃ (c : Fin 256) (d a : BitVec 5) (s : State), (s.Served c) ∧ (((s.ctx c).reg a).toNat < 65536) ∧ (0 <
      (s.acc ((s.ctx c).reg a).toNat).segments) ∧ ((s.acc ((s.ctx c).reg a).toNat).st = .open) ∧ (s.cur.accOps.any
      (fun o => decide (o.2.2.1 = ((s.ctx c).reg a).toNat)) = false)) :=
  ⟨⟨3, 1, 5, [], accLine, leBytes 7 32, 0, sAcc, sAcc, by decide +kernel⟩,
    ⟨3, 1, 5, [], 9, sGet, sGet, by decide +kernel⟩,
    ⟨3, 1, 0, 5, sGet, by decide +kernel⟩,
    ⟨3, 1, 4, 5, sGet, by decide +kernel⟩,
    ⟨3, 1, 4, sGet, by decide +kernel⟩,
    ⟨3, 1, 0, (sGet.setAcc 0 { Acc.init with st := .open }), by decide +kernel⟩,
    ⟨3, 1, 0, (sGet.setAcc 0 { Acc.init with st := .open, segments := 1 }), by decide +kernel⟩⟩

theorem meets_AdministrativeInstructionsRun :
    (∃ (c : Fin 256) (d a b : BitVec 5) (ext : Ext) (l : Line) (ty : KeyType) (u : State) (s : State), (s.Names
      c ((s.ctx c).reg b).toNat ext l u) ∧ (1 ≤ (s.ctx c).priv.code) ∧ (u.keyOps = []) ∧ (wordAt l 0 / 2 ^ 56 = 0)
      ∧ (keyTypeOf (wordAt l 0 / 2 ^ 48 % 256) = some ty) ∧ (u.slotInUse (((s.ctx c).reg a).toNat % 64) = false)) ∧
    (∃ (c : Fin 256) (d a b : BitVec 5) (ext : Ext) (l : Line) (u : State) (s : State), (s.Names c ((s.ctx
      c).reg b).toNat ext l u) ∧ (1 ≤ (s.ctx c).priv.code) ∧ (u.keyOps = []) ∧ (2 < wordAt l 0 / 2 ^ 56 ∨
      keyTypeOf (wordAt l 0 / 2 ^ 48 % 256) = none)) ∧
    (∃ (c : Fin 256) (d a b : BitVec 5) (ext : Ext) (s : State), (s.Served c) ∧ ((s.ctx c).priv = .guest)) ∧
    (∃ (c : Fin 256) (d a : BitVec 5) (s : State), (s.Served c) ∧ (1 ≤ (s.ctx c).priv.code) ∧ (s.keyOps = []) ∧
      (s.slotInUse (((s.ctx c).reg a).toNat % 64) = false)) ∧
    (∃ (c : Fin 256) (d a : BitVec 5) (s : State), (s.Served c) ∧ (1 ≤ (s.ctx c).priv.code) ∧ (s.keyOps = []) ∧
      (s.slotInUse (((s.ctx c).reg a).toNat % 64) = true)) ∧
    (∃ (c : Fin 256) (d a : BitVec 5) (ext : Ext) (l : Line) (u : State) (s : State), (s.Names c ((s.ctx c).reg
      a).toNat ext l u) ∧ (1 ≤ (s.ctx c).priv.code) ∧ (u.rgnOp (bitsOf (wordAt l 0) 61 50) = none) ∧ (u.keyBusy
      (fixKeyslot (attrOfWord (wordAt l 2)).keyslot) = false) ∧ ((bitsOf (wordAt l 0) 61 50) ≠ 0) ∧ ((u.region
      (bitsOf (wordAt l 0) 61 50)).st = .free) ∧ (bitsOf (wordAt l 1) 18 0 ≠ 0) ∧ (bitsOf (wordAt l 0) 42 24 +
      bitsOf (wordAt l 1) 18 0 ≤ 458752) ∧ (u.rgnOverlaps (bitsOf (wordAt l 0) 42 24) (bitsOf (wordAt l 1) 18 0) =
      false) ∧ (u.rgnNoKeyAt (fixKeyslot (attrOfWord (wordAt l 2)).keyslot) = false)) ∧
    (∃ (c : Fin 256) (d a : BitVec 5) (ext : Ext) (l : Line) (u : State) (s : State), (s.Names c ((s.ctx c).reg
      a).toNat ext l u) ∧ (1 ≤ (s.ctx c).priv.code) ∧ (u.rgnOp (bitsOf (wordAt l 0) 61 50) = none) ∧ (u.keyBusy
      (fixKeyslot (attrOfWord (wordAt l 2)).keyslot) = false) ∧ ((bitsOf (wordAt l 0) 61 50) = 0 ∨ (u.region
      (bitsOf (wordAt l 0) 61 50)).st ≠ .free)) ∧
    (∃ (c : Fin 256) (d a : BitVec 5) (ext : Ext) (l : Line) (u : State) (s : State), (s.Names c ((s.ctx c).reg
      a).toNat ext l u) ∧ (1 ≤ (s.ctx c).priv.code) ∧ (u.rgnOp (bitsOf (wordAt l 0) 61 50) = none) ∧ (u.keyBusy
      (fixKeyslot (attrOfWord (wordAt l 2)).keyslot) = false) ∧ ((u.region (bitsOf (wordAt l 0) 61 50)).st ≠
      .live)) ∧
    (∃ (c : Fin 256) (d a : BitVec 5) (ext : Ext) (l : Line) (u : State) (s : State), (s.Names c ((s.ctx c).reg
      a).toNat ext l u) ∧ (1 ≤ (s.ctx c).priv.code) ∧ (u.rgnOp (bitsOf (wordAt l 0) 61 50) = none) ∧ (u.keyBusy
      (fixKeyslot (attrOfWord (wordAt l 2)).keyslot) = false) ∧ ((u.region (bitsOf (wordAt l 0) 61 50)).st =
      .live) ∧ (u.rgnNoKeyAt (fixKeyslot (attrOfWord (wordAt l 2)).keyslot) = false) ∧ (((attrOfWord (wordAt l
      2)).resolve (bitsOf (wordAt l 0) 61 50)).light = (u.region (bitsOf (wordAt l 0) 61 50)).attr.light) ∧
      (((attrOfWord (wordAt l 2)).resolve (bitsOf (wordAt l 0) 61 50)).append = (u.region (bitsOf (wordAt l 0) 61
      50)).attr.append) ∧ (((attrOfWord (wordAt l 2)).resolve (bitsOf (wordAt l 0) 61 50)).keyslot = (u.region
      (bitsOf (wordAt l 0) 61 50)).attr.keyslot) ∧ ((u.region (bitsOf (wordAt l 0) 61 50)).attr.sealable = false)) ∧
    (∃ (c : Fin 256) (d a : BitVec 5) (s : State), (s.Served c) ∧ (1 ≤ (s.ctx c).priv.code) ∧ (((s.ctx c).reg
      a).toNat < 4096) ∧ (((s.ctx c).reg a).toNat ≠ 0) ∧ (s.rgnOp ((s.ctx c).reg a).toNat = none) ∧ ((s.region
      ((s.ctx c).reg a).toNat).st = .live) ∧ (s.rgnSealedIn ((s.ctx c).reg a).toNat = false)) ∧
    (∃ (c : Fin 256) (d a : BitVec 5) (s : State), (s.Served c) ∧ (1 ≤ (s.ctx c).priv.code) ∧ (4096 ≤ ((s.ctx
      c).reg a).toNat)) ∧
    (∃ (c : Fin 256) (d a : BitVec 5) (r : RegRow) (k : Nat) (s : State), (s.Served c) ∧ (1 ≤ (s.ctx
      c).priv.code) ∧ (((s.ctx c).reg a).toNat < hstBase) ∧ (regFind ((s.ctx c).reg a).toNat = some (r, k)) ∧
      (s.blockUp ((s.ctx c).reg a).toNat = true)) ∧
    (∃ (c : Fin 256) (a b : BitVec 5) (libOk : Bool) (s : State), (s.Served c) ∧ (1 ≤ (s.ctx c).priv.code) ∧
      (((s.ctx c).reg a).toNat = 0x40) ∧ (s.bit D.GBL_CTL_scrlock = false)) ∧
    (∃ (c : Fin 256) (a b : BitVec 5) (libOk : Bool) (s : State), (s.Served c) ∧ ((s.ctx c).priv = .steward) ∧
      (((s.ctx c).reg a).toNat / 0x10000 = 6)) :=
  ⟨⟨3, 1, 0, 5, [], 9, .aes128, sSteward, sSteward, by decide +kernel⟩,
    ⟨3, 1, 0, 5, [], BitVec.ofNat 512 (9 * 2 ^ 48), sSteward.wset 0 1 ⟨.modified, BitVec.ofNat 512 (9 * 2 ^ 48),
      false⟩, sSteward.wset 0 1 ⟨.modified, BitVec.ofNat 512 (9 * 2 ^ 48), false⟩, by decide +kernel⟩,
    ⟨3, 1, 0, 5, [], sGet, by decide +kernel⟩,
    ⟨3, 1, 0, sSteward, by decide +kernel⟩,
    ⟨3, 1, 0, (sSteward.setAcc 0 { Acc.init with st := .open }), by decide +kernel⟩,
    ⟨3, 1, 5, [], rgnLine, sRgn, sRgn, by decide +kernel⟩,
    ⟨3, 1, 5, [], 9, sSteward, sSteward, by decide +kernel⟩,
    ⟨3, 1, 5, [], rgnLine, sRgn, sRgn, by decide +kernel⟩,
    ⟨3, 1, 5, [], rgnLine,
      { sRgn with regions := [(3, ⟨.live, 5, 1, 0, (attrOfWord (wordAt rgnLine 2)).resolve 3, 0⟩)] },
      { sRgn with regions := [(3, ⟨.live, 5, 1, 0, (attrOfWord (wordAt rgnLine 2)).resolve 3, 0⟩)] },
      by decide +kernel⟩,
    ⟨3, 1, 6,
      { (sRgn.setCtx 3 { sRgn.ctx 3 with x := [(6, 3)] }) with regions := [(3, ⟨.live, 5, 1, 0, (attrOfWord (wordAt rgnLine 2)).resolve 3, 0⟩)] },
      by decide +kernel⟩,
    ⟨3, 1, 4, sSteward, by decide +kernel⟩,
    ⟨3, 1, 5, REG0x40, 0, sSteward, by decide +kernel⟩,
    ⟨3, 5, 2, true, sSteward, by decide +kernel⟩,
    ⟨3, 6, 2, true, (sSteward.setCtx 3 { sSteward.ctx 3 with x := [(6, 0x60000)] }), by decide +kernel⟩⟩

theorem meets_JobsRun :
    (∃ (c : Fin 256) (d a : BitVec 5) (ext : Ext) (l : Line) (u : State) (s : State), (s.Names c ((s.ctx c).reg
      a).toNat ext l u) ∧ ((s.ctx c).jobs.length < 16) ∧ (wordAt l 0 / 2 ^ 56 = JobKind.code .cipher) ∧ ((s.ctx
      c).jobs.all (fun j => decide (j.desc ≠ ((s.ctx c).reg a).toNat)) = true)) ∧
    (∃ (c : Fin 256) (d a : BitVec 5) (ext : Ext) (l : Line) (u : State) (s : State), (s.Names c ((s.ctx c).reg
      a).toNat ext l u) ∧ ((s.ctx c).jobs.length < 16) ∧ (wordAt l 0 / 2 ^ 56 = JobKind.code .mover) ∧ ((s.ctx
      c).jobs.all (fun j => decide (j.desc ≠ ((s.ctx c).reg a).toNat)) = true)) ∧
    (∃ (c : Fin 256) (d a : BitVec 5) (ext : Ext) (l : Line) (u : State) (s : State), (s.Names c ((s.ctx c).reg
      a).toNat ext l u) ∧ ((s.ctx c).jobs.length < 16) ∧ (wordAt l 0 / 2 ^ 56 = JobKind.code .seal) ∧ ((s.ctx
      c).jobs.all (fun j => decide (j.desc ≠ ((s.ctx c).reg a).toNat)) = true)) ∧
    (∃ (c : Fin 256) (d a : BitVec 5) (ext : Ext) (l : Line) (u : State) (s : State), (s.Names c ((s.ctx c).reg
      a).toNat ext l u) ∧ ((s.ctx c).jobs.length < 16) ∧ (wordAt l 0 / 2 ^ 56 ≠ JobKind.code .mover)) ∧
    (∃ (c : Fin 256) (d a : BitVec 5) (ext : Ext) (w : Word) (s : State), (s.Served c) ∧ (lineFault ((s.ctx
      c).reg a).toNat = none) ∧ ((s.ctx c).jobs.all (fun j => decide (j.desc ≠ ((s.ctx c).reg a).toNat)) = true) ∧
      ((s.ctx c).kept.find? (fun e => decide (e.1 = ((s.ctx c).reg a).toNat)) = some (((s.ctx c).reg a).toNat,
      w))) ∧
    (∃ (c : Fin 256) (d a : BitVec 5) (ext : Ext) (w : Word) (s : State), (s.Served c) ∧ (lineFault ((s.ctx
      c).reg a).toNat = none) ∧ ((s.ctx c).jobs.all (fun j => decide (j.desc ≠ ((s.ctx c).reg a).toNat)) = true) ∧
      ((s.ctx c).kept.find? (fun e => decide (e.1 = ((s.ctx c).reg a).toNat)) = some (((s.ctx c).reg a).toNat,
      w))) ∧
    (∃ (c : Fin 256) (d a : BitVec 5) (ext : Ext) (s : State), (s.Served c) ∧ (lineFault ((s.ctx c).reg a).toNat
      = none) ∧ ((s.ctx c).jobs.any (fun j => decide (j.desc = ((s.ctx c).reg a).toNat)) = true)) ∧
    (∃ (c : Fin 256) (d a : BitVec 5) (ext : Ext) (s : State), (s.Served c) ∧ (lineFault ((s.ctx c).reg a).toNat
      = none) ∧ ((s.ctx c).jobs.any (fun j => decide (j.desc = ((s.ctx c).reg a).toNat)) = true)) ∧
    (∃ (c : Fin 256) (engine : Fin 8) (j : Job) (s : State), (s.isFlushing = false) ∧ (s.phase ≠ stResetting) ∧
      ((s.ctx c).jobs = [j]) ∧ (j.started = false) ∧ (j.cancelled = false) ∧ (j.kind = .mover) ∧ (j.keys = []) ∧
      (s.engineUsed true engine = false)) ∧
    (∃ (c : Fin 256) (desc : Nat) (ext : List (Nat × Line)) (wrote lost : List Nat) (j : Job) (code v : Nat) (u
      : State) (z : State) (s : State), (s.job c desc = some j) ∧ (j.started = true) ∧ (s.isFlushing = false) ∧
      (j.kind = .mover) ∧ (j.out = none) ∧ (s.moverPlan j (jobExt ext lost) wrote = some (.stop code v, u)) ∧
      (u.jobEnd c desc code v = some z)) ∧
    (∃ (c : Fin 256) (desc : Nat) (ext : List (Nat × Line)) (wrote lost : List Nat) (j : Job) (o : JobOut) (z :
      State) (s : State), (s.job c desc = some j) ∧ (j.started = true) ∧ (s.isFlushing = false) ∧ (j.kind =
      .mover) ∧ (j.out = some o) ∧ (o.lines = []) ∧ (s.jobSends c desc = 0) ∧ ((s.setJob c
      { j with out := some o }).jobWritten c desc o = some z)) ∧
    (∃ (c : Fin 256) (desc : Nat) (ext : List (Nat × Line)) (wrote lost : List Nat) (j : Job) (code v : Nat) (u
      : State) (z : State) (s : State), (s.job c desc = some j) ∧ (j.started = true) ∧ (s.isFlushing = false) ∧
      (j.kind = .cipher) ∧ (j.out = none) ∧ (u.NoInj) ∧ (s.cipherPlan j (jobExt ext lost) wrote = some (.stop code
      v, u)) ∧ (code ≠ jobTagFail) ∧ (u.jobEnd c desc code v = some z)) ∧
    (∃ (c : Fin 256) (desc : Nat) (ext : List (Nat × Line)) (wrote lost : List Nat) (j : Job) (o : JobOut) (z :
      State) (s : State), (s.job c desc = some j) ∧ (j.started = true) ∧ (s.isFlushing = false) ∧ (j.kind =
      .cipher) ∧ (j.out = some o) ∧ (o.lines = []) ∧ (s.jobSends c desc = 0) ∧ ((s.setJob c
      { j with out := some o }).jobWritten c desc o = some z)) ∧
    (∃ (c : Fin 256) (desc : Nat) (ext : List (Nat × Line)) (wrote lost : List Nat) (j : Job) (o : JobOut) (u :
      State) (s : State), (s.job c desc = some j) ∧ (j.started = true) ∧ (s.isFlushing = false) ∧ (j.kind =
      .mover) ∧ (j.out = none) ∧ (s.moverPlan j (jobExt ext lost) wrote = some (.out o, u))) ∧
    (∃ (c : Fin 256) (desc : Nat) (ext : List (Nat × Line)) (wrote lost : List Nat) (j : Job) (o : JobOut) (u :
      State) (s : State), (s.job c desc = some j) ∧ (j.started = true) ∧ (s.isFlushing = false) ∧ (j.kind =
      .cipher) ∧ (j.out = none) ∧ (s.cipherPlan j (jobExt ext lost) wrote = some (.out o, u)) ∧ (u.NoInj)) ∧
    (∃ (c : Fin 256) (desc : Nat) (ext : List (Nat × Line)) (wrote lost : List Nat) (j : Job) (p : JobPlan) (u :
      State) (s : State), (s.job c desc = some j) ∧ (j.started = true) ∧ (s.isFlushing = false) ∧ (j.kind =
      .cipher) ∧ (j.out = none) ∧ (s.cipherPlan j (jobExt ext lost) wrote = some (p, u)) ∧ (u.NoInj) ∧ (u.job c
      desc = some j)) :=
  ⟨⟨3, 1, 5, [], BitVec.ofNat 512 (1 * 2 ^ 56), sGet.wset 0 1 ⟨.modified, BitVec.ofNat 512 (1 * 2 ^ 56),
      false⟩, sGet.wset 0 1 ⟨.modified, BitVec.ofNat 512 (1 * 2 ^ 56), false⟩, by decide +kernel⟩,
    ⟨3, 1, 5, [], BitVec.ofNat 512 (2 * 2 ^ 56), sGet.wset 0 1 ⟨.modified, BitVec.ofNat 512 (2 * 2 ^ 56),
      false⟩, sGet.wset 0 1 ⟨.modified, BitVec.ofNat 512 (2 * 2 ^ 56), false⟩, by decide +kernel⟩,
    ⟨3, 1, 5, [], BitVec.ofNat 512 (3 * 2 ^ 56), sGet.wset 0 1 ⟨.modified, BitVec.ofNat 512 (3 * 2 ^ 56),
      false⟩, sGet.wset 0 1 ⟨.modified, BitVec.ofNat 512 (3 * 2 ^ 56), false⟩, by decide +kernel⟩,
    ⟨3, 1, 5, [], 9, sGet, sGet, by decide +kernel⟩,
    ⟨3, 1, 5, [], 7, sGet.setCtx 3 { sGet.ctx 3 with kept := [(64, 7)] }, by decide +kernel⟩,
    ⟨3, 1, 5, [], 7, sGet.setCtx 3 { sGet.ctx 3 with kept := [(64, 7)] }, by decide +kernel⟩,
    ⟨3, 1, 5, [], sJob, by decide +kernel⟩,
    ⟨3, 1, 5, [], sJob, by decide +kernel⟩,
    ⟨3, 1, ⟨64, .mover, 9, false, [], 0, false, none⟩, sJob, by decide +kernel⟩,
    ⟨3, 64, [], [], [], ⟨64, .mover, BitVec.ofNat 512 (2 * 2 ^ 56), true, [], 0, false, none⟩, jobBadDesc, 0,
      (sMover.setCtx 3
      { sMover.ctx 3 with jobs := [⟨64, .mover, BitVec.ofNat 512 (2 * 2 ^ 56), true, [], 0, false, none⟩] }),
      (((sMover.setCtx 3
      { sMover.ctx 3 with jobs := [⟨64, .mover, BitVec.ofNat 512 (2 * 2 ^ 56), true, [], 0, false, none⟩] })).jobEnd
      3 64 jobBadDesc 0).getD State.reset, (sMover.setCtx 3
      { sMover.ctx 3 with jobs := [⟨64, .mover, BitVec.ofNat 512 (2 * 2 ^ 56), true, [], 0, false, none⟩] }),
      by decide +kernel⟩,
    ⟨3, 64, [], [], [], ⟨64, .mover, 0, true, [], 0, false, some ⟨[], false, 0, 0, none, 64⟩⟩, ⟨[], false, 0, 0,
      none, 64⟩, (((sMover.setCtx 3
      { sMover.ctx 3 with jobs := [⟨64, .mover, 0, true, [], 0, false, some ⟨[], false, 0, 0, none, 64⟩⟩] })).jobWritten
      3 64 ⟨[], false, 0, 0, none, 64⟩).getD State.reset, (sMover.setCtx 3
      { sMover.ctx 3 with jobs := [⟨64, .mover, 0, true, [], 0, false, some ⟨[], false, 0, 0, none, 64⟩⟩] }),
      by decide +kernel⟩,
    ⟨3, 64, [], [], [], ⟨64, .cipher, BitVec.ofNat 512 (9 * 2 ^ 48), true, [], 0, false, none⟩, jobBadDesc, 0,
      (sMover.setCtx 3
      { sMover.ctx 3 with jobs := [⟨64, .cipher, BitVec.ofNat 512 (9 * 2 ^ 48), true, [], 0, false, none⟩] }),
      (((sMover.setCtx 3
      { sMover.ctx 3 with jobs := [⟨64, .cipher, BitVec.ofNat 512 (9 * 2 ^ 48), true, [], 0, false, none⟩] })).jobEnd
      3 64 jobBadDesc 0).getD State.reset, (sMover.setCtx 3
      { sMover.ctx 3 with jobs := [⟨64, .cipher, BitVec.ofNat 512 (9 * 2 ^ 48), true, [], 0, false, none⟩] }),
      by decide +kernel⟩,
    ⟨3, 64, [], [], [], ⟨64, .cipher, 0, true, [], 0, false, some ⟨[], false, 0, 0, none, 64⟩⟩, ⟨[], false, 0,
      0, none, 64⟩, (((sMover.setCtx 3
      { sMover.ctx 3 with jobs := [⟨64, .cipher, 0, true, [], 0, false, some ⟨[], false, 0, 0, none, 64⟩⟩] })).jobWritten
      3 64 ⟨[], false, 0, 0, none, 64⟩).getD State.reset, (sMover.setCtx 3
      { sMover.ctx 3 with jobs := [⟨64, .cipher, 0, true, [], 0, false, some ⟨[], false, 0, 0, none, 64⟩⟩] }),
      by decide +kernel⟩,
    ⟨3, 64, [], [], [], ⟨64, .mover, BitVec.ofNat 512 (2 * 2 ^ 56 + 64 * 2 ^ 128 + 64 * 2 ^ 192 + 2 ^ 48), true,
      [], 0, false, none⟩, ⟨outputLines 64 ((List.range 64).map (fun _ => 0)), true, 0, 0, none, 64⟩,
      (sMover.setCtx 3
      { sMover.ctx 3 with jobs := [⟨64, .mover, BitVec.ofNat 512 (2 * 2 ^ 56 + 64 * 2 ^ 128 + 64 * 2 ^ 192 + 2 ^ 48), true, [], 0, false, none⟩] }),
      (sMover.setCtx 3
      { sMover.ctx 3 with jobs := [⟨64, .mover, BitVec.ofNat 512 (2 * 2 ^ 56 + 64 * 2 ^ 128 + 64 * 2 ^ 192 + 2 ^ 48), true, [], 0, false, none⟩] }),
      by decide +kernel⟩,
    ⟨3, 64, [], [], [], ⟨64, .cipher, BitVec.ofNat 512 (2 ^ 56 + 6 * 2 ^ 48 + 0x7F * 2 ^ 32 + 64 * 2 ^ 64 + 128
      * 2 ^ 128 + 4 * 2 ^ 192), true, [], 0, false, none⟩, ⟨outputLines 128 (sha256 (leBytes 9 4)), false, 0, 0,
      none, 32⟩, (sMover.setCtx 3
      { sMover.ctx 3 with jobs := [⟨64, .cipher, BitVec.ofNat 512 (2 ^ 56 + 6 * 2 ^ 48 + 0x7F * 2 ^ 32 + 64 * 2 ^ 64 + 128 * 2 ^ 128 + 4 * 2 ^ 192), true, [], 0, false, none⟩] }),
      (sMover.setCtx 3
      { sMover.ctx 3 with jobs := [⟨64, .cipher, BitVec.ofNat 512 (2 ^ 56 + 6 * 2 ^ 48 + 0x7F * 2 ^ 32 + 64 * 2 ^ 64 + 128 * 2 ^ 128 + 4 * 2 ^ 192), true, [], 0, false, none⟩] }),
      by decide +kernel⟩,
    ⟨3, 64, [], [], [], ⟨64, .cipher, BitVec.ofNat 512 (2 ^ 56 + 6 * 2 ^ 48 + 0x7F * 2 ^ 32 + 64 * 2 ^ 64 + 128
      * 2 ^ 128 + 4 * 2 ^ 192), true, [], 0, false, none⟩, .out ⟨outputLines 128 (sha256 (leBytes 9 4)), false, 0,
      0, none, 32⟩, (sMover.setCtx 3
      { sMover.ctx 3 with jobs := [⟨64, .cipher, BitVec.ofNat 512 (2 ^ 56 + 6 * 2 ^ 48 + 0x7F * 2 ^ 32 + 64 * 2 ^ 64 + 128 * 2 ^ 128 + 4 * 2 ^ 192), true, [], 0, false, none⟩] }),
      (sMover.setCtx 3
      { sMover.ctx 3 with jobs := [⟨64, .cipher, BitVec.ofNat 512 (2 ^ 56 + 6 * 2 ^ 48 + 0x7F * 2 ^ 32 + 64 * 2 ^ 64 + 128 * 2 ^ 128 + 4 * 2 ^ 192), true, [], 0, false, none⟩] }),
      by decide +kernel⟩⟩

theorem meets_SealsRun :
    (∃ (acc : Fin 65536) (x : Seal) (s : State), (s.sealOf acc = some x) ∧ (s.isFlushing = false) ∧ (x.step = 2)
      ∧ ((List.range 4).all (fun k => (s.port k).eab = []) = true) ∧ (s.coh.loans = []) ∧ (s.coh.grants = []) ∧
      (s.coh.txns = []) ∧ (s.coh.wbq = []) ∧ (s.coh.wl = []) ∧ (s.coh.vit = [])) ∧
    (∃ (acc : Fin 65536) (x : Seal) (s : State), (s.sealOf acc = some x) ∧ (s.isFlushing = false) ∧ (x.step = 3)
      ∧ (s.coh.chg.any (fun e => s.inSegment acc e.1) = false)) ∧
    (∃ (acc : Fin 65536) (x : Seal) (s : State), (s.sealOf acc = some x) ∧ (s.isFlushing = false) ∧ (x.step = 3)
      ∧ (s.coh.wl = []) ∧ (s.coh.vit = []) ∧ (s.coh.chg.any (fun e => s.inSegment acc e.1) = true)) ∧
    (∃ (acc : Fin 65536) (x : Seal) (s : State) (kp : Bytes) (ls : List (Nat × Line × Bool)) (u : State),
      (s.sealOf acc = some x) ∧ (s.isFlushing = false) ∧ (x.step = 4) ∧ (s.NoInj) ∧ ((s.segLines x.acc).all
      s.lineFree = true) ∧ (s.engineOn (s.sealEngine x) = true) ∧ (s.devReadAll [] (s.segLines x.acc) = some (ls,
      u)) ∧ (ls.all (fun e => !e.2.2) = true) ∧ (s.hmacKey (s.acc x.acc).provkey = some kp)) ∧
    (∃ (acc : Fin 65536) (x : Seal) (s : State), (s.sealOf acc = some x) ∧ (s.isFlushing = false) ∧ (x.step = 4)
      ∧ (x.ctx = none) ∧ (s.NoInj) ∧ ((s.segLines x.acc).all s.lineFree = true) ∧ (s.engineOn (s.sealEngine x) =
      true)) ∧
    (∃ (acc : Fin 65536) (x : Seal) (s : State), (s.sealOf acc = some x) ∧ (s.isFlushing = false) ∧ (x.step = 6)
      ∧ (s.sealWritten acc = true)) ∧
    (∃ (acc : Fin 65536) (x : Seal) (s : State), (s.sealOf acc = some x) ∧ (s.isFlushing = false) ∧ (x.step = 7)
      ∧ (x.ctx = none) ∧ ((s.sealFinish x).isSome = true)) :=
  ⟨⟨0, seal2, sSeal seal2, by decide +kernel⟩,
    ⟨0, { seal2 with step := 3 }, sSeal { seal2 with step := 3 }, by decide +kernel⟩,
    ⟨0, { seal2 with step := 3 }, ((fun (u : State) =>
      ({ u.setAcc 0 { Acc.init with st := .sealing, limit := 64, pending := 64 } with coh := { u.coh with chg := [(0, 1)] } }
      : State)) (sSeal { seal2 with step := 3 })), by decide +kernel⟩,
    ⟨0, { seal2 with step := 4 }, (sSeal { seal2 with step := 4 }), leBytes 7 32, [], sSeal
      { seal2 with step := 4 }, by decide +kernel⟩,
    ⟨0, { seal2 with step := 4 }, (sSeal { seal2 with step := 4 }), by decide +kernel⟩,
    ⟨0, { seal2 with step := 6, committed := true }, sSeal { seal2 with step := 6, committed := true },
      by decide +kernel⟩,
    ⟨0, { seal2 with step := 7, committed := true, ctx := none }, sSeal
      { seal2 with step := 7, committed := true, ctx := none }, by decide +kernel⟩⟩

theorem meets_RegionOperationsEnd :
    (∃ (region : Fin 4096) (slice : Fin 16) (o : RgnOp) (s : State), (s.rgnOp region = some o) ∧ (o.committed =
      true) ∧ (o.switched.getLsbD slice = false) ∧ (s.coh.txns = []) ∧ (s.coh.conf = [])) ∧
    (∃ (region : Fin 4096) (o : RgnOp) (s : State), (s.rgnOp region = some o) ∧ (o.switched = BitVec.allOnes 16)
      ∧ (s.rgnSettled o = true) ∧ (o.ctx = none)) ∧
    (∃ (region : Fin 4096) (o : RgnOp) (s : State) (c : Nat) (d : BitVec 5), (s.rgnOp region = some o) ∧
      (o.switched = BitVec.allOnes 16) ∧ (s.rgnSettled o = true) ∧ (o.ctx = some c) ∧ (c < 256) ∧ ((s.ctx c).hold
      = .op 0x3C d) ∧ ((s.ctx c).st = .running) ∧ ((s.ctx c).gfence = none) ∧ (s.boundary c = none) ∧ (s.phase ≠
      stRomRecovery)) ∧
    (∃ (region : Fin 4096) (o : RgnOp) (s : State), (s.rgnOp region = some o) ∧ (o.kind = .delete) ∧
      (o.committed = true) ∧ (o.switched = BitVec.allOnes 16) ∧ (o.freeing = false) ∧ (s.lentWhere (s.inRegion o)
      = false)) :=
  ⟨⟨3, 0, rop3, sRop rop3, by decide +kernel⟩,
    ⟨3, { rop3 with switched := BitVec.allOnes 16, unmapped := true, ctx := none }, sRop
      { rop3 with switched := BitVec.allOnes 16, unmapped := true, ctx := none }, by decide +kernel⟩,
    ⟨3, { rop3 with switched := BitVec.allOnes 16, unmapped := true }, ((fun (u : State) => u.setCtx 3
      { u.ctx 3 with hold := .op 0x3C 1 }) (sRop { rop3 with switched := BitVec.allOnes 16, unmapped := true })),
      3, 1, by decide +kernel⟩,
    ⟨3, { rop3 with kind := .delete, switched := BitVec.allOnes 16, old := { rop3.new with st := .live } }, sRop
      { rop3 with kind := .delete, switched := BitVec.allOnes 16, old := { rop3.new with st := .live } },
      by decide +kernel⟩⟩

theorem meets_HostPortEvents :
    (∃ (port : Fin 4) (s : State), ((s.port port).perst = false)) ∧
    (∃ (port : Fin 4) (speed width : Fin 6) (cxl : Bool) (s : State), (s.canTrain port = true) ∧ (speed.val ≠ 0)
      ∧ (width.val ≠ 0) ∧ (2 ^ (width.val - 1) ≤ lanesOf s.aon.hpMode port) ∧ (s.portMode port = 0) ∧ (s.phase ≠
      stRomRecovery)) ∧
    (∃ (port : Fin 4) (s : State), ((s.port port).perst = false)) ∧
    (∃ (port : Fin 4) (s : State), (s.portMode port ≠ 0)) :=
  ⟨⟨0, State.reset.setPort 0 { Port.init with perst := false }, by decide +kernel⟩,
    ⟨0, 5, 5, true, State.reset.setPort 0 { Port.init with perst := false }, by decide +kernel⟩,
    ⟨0, State.reset.setPort 0 { Port.init with perst := false }, by decide +kernel⟩,
    ⟨0, State.reset.wrP D.HST_STAT_mode 0 2, by decide +kernel⟩⟩

theorem meets_MailboxReportsAnswer :
    (∃ (port : Fin 4) (s : State), (s.mboxUp port = true) ∧ (s.phase ≠ stRomRecovery)) ∧
    (∃ (port : Fin 4) (s : State), (s.mboxUp port = true) ∧ (s.phase ≠ stRomRecovery)) ∧
    (∃ (port : Fin 4) (off len : BitVec 32) (s : State), (s.mboxUp port = true) ∧ (s.phase ≠ stRomRecovery) ∧
      (off.toNat + len.toNat ≤ effectsLog.length)) ∧
    (∃ (port : Fin 4) (s : State), (s.mboxUp port = true) ∧ (s.phase ≠ stRomRecovery)) ∧
    (∃ (port : Fin 4) (s : State), (s.mboxUp port = true) ∧ (s.phase ≠ stRomRecovery)) ∧
    (∃ (port : Fin 4) (s : State), (s.mboxUp port = true) ∧ (s.phase ≠ stRomRecovery)) ∧
    (∃ (port : Fin 4) (s : State), (s.mboxUp port = true) ∧ (s.phase ≠ stRomRecovery)) ∧
    (∃ (port : Fin 4) (s : State), (s.mboxUp port = true) ∧ (s.phase ≠ stRomRecovery)) ∧
    (∃ (port : Fin 4) (s : State), (s.mboxUp port = true) ∧ (s.phase ≠ stRomRecovery)) ∧
    (∃ (port : Fin 4) (log : BitVec 8) (s : State), (s.mboxUp port = true) ∧ (s.phase ≠ stRomRecovery) ∧
      (log.toNat < 4)) ∧
    (∃ (port : Fin 4) (s : State), (s.mboxUp port = true) ∧ (s.phase ≠ stRomRecovery)) ∧
    (∃ (port : Fin 4) (off len : BitVec 32) (s : State), (s.mboxUp port = true) ∧ (s.phase ≠ stRomRecovery) ∧
      (len.toNat ≤ 4096) ∧ (off.toNat + len.toNat ≤ lsaSize)) ∧
    (∃ (port : Fin 4) (index : BitVec 16) (s : State), (s.mboxUp port = true) ∧ (s.phase ≠ stRomRecovery)) ∧
    (∃ (port : Fin 4) (off : BitVec 25) (r : RegRow) (i : Nat) (s : State), (s.mboxUp port = true) ∧ (s.phase ≠
      stRomRecovery) ∧ (off.toNat < hstBase) ∧ (regHit off.toNat 8 = .reg r i 0 64)) ∧
    (∃ (port : Fin 4) (off : BitVec 25) (r : RegRow) (i : Nat) (s : State), (s.mboxUp port = true) ∧ (s.phase ≠
      stRomRecovery) ∧ (off.toNat < hstBase) ∧ (regHit off.toNat 4 = .reg r i 0 32) ∧ (r.width ≠ 32)) ∧
    (∃ (port : Fin 4) (off len : BitVec 32) (s : State), (s.mboxUp port = true) ∧ (s.phase ≠ stRomRecovery)) ∧
    (∃ (port : Fin 4) (opcode : BitVec 16) (s : State), (s.mboxUp port = true)) ∧
    (∃ (port : Fin 4) (s : State), (s.mboxUp port = true) ∧ (s.phase = stRomRecovery)) :=
  ⟨⟨0, sUp, by decide +kernel⟩,
    ⟨0, sUp, by decide +kernel⟩,
    ⟨0, 0, 8, sUp, by decide +kernel⟩,
    ⟨0, sUp, by decide +kernel⟩,
    ⟨0, sUp, by decide +kernel⟩,
    ⟨0, sUp, by decide +kernel⟩,
    ⟨0, sUp, by decide +kernel⟩,
    ⟨0, sUp, by decide +kernel⟩,
    ⟨0, sUp, by decide +kernel⟩,
    ⟨0, 3, sUp, by decide +kernel⟩,
    ⟨0, sUp, by decide +kernel⟩,
    ⟨0, 0, 8, sUp, by decide +kernel⟩,
    ⟨0, 0, sUp, by decide +kernel⟩,
    ⟨0, 0x40, REG0x40, 0, sUp, by decide +kernel⟩,
    ⟨0, 0x40, REG0x40, 0, sUp, by decide +kernel⟩,
    ⟨0, 0, 8, sUp, by decide +kernel⟩,
    ⟨0, 0, sUp, by decide +kernel⟩,
    ⟨0, sUp.wr D.GBL_STAT_state stRomRecovery, by decide +kernel⟩⟩

theorem meets_MailboxChangesAnswer :
    (∃ (port : Fin 4) (log : BitVec 8) (handles : List (BitVec 16)) (s : State), (s.mboxUp port = true) ∧
      (s.phase ≠ stRomRecovery) ∧ (log.toNat < 4)) ∧
    (∃ (port : Fin 4) (log : BitVec 8) (handles : List (BitVec 16)) (s : State), (s.mboxUp port = true) ∧
      (s.phase ≠ stRomRecovery) ∧ (log.toNat < 4) ∧ (handles.map BitVec.toNat = ((((s.port port).log
      log.toNat).recs.take handles.length).map CxlRec.handle))) ∧
    (∃ (port : Fin 4) (log : BitVec 8) (all : Bool) (handles : List (BitVec 16)) (s : State), (s.mboxUp port =
      true) ∧ (s.phase ≠ stRomRecovery) ∧ (4 ≤ log.toNat ∨ (all = false ∧ handles.map BitVec.toNat ≠ ((((s.port
      port).log log.toNat).recs.take handles.length).map CxlRec.handle)))) ∧
    (∃ (port : Fin 4) (a b c d : BitVec 2) (s : State), (s.mboxUp port = true) ∧ (s.phase ≠ stRomRecovery) ∧ (2
      ≤ a.toNat ∨ 2 ≤ b.toNat ∨ 2 ≤ c.toNat ∨ 2 ≤ d.toNat)) ∧
    (∃ (port : Fin 4) (a b c d : BitVec 2) (s : State), (s.mboxUp port = true) ∧ (s.phase ≠ stRomRecovery) ∧
      (a.toNat ≤ 1) ∧ (b.toNat ≤ 1) ∧ (c.toNat ≤ 1) ∧ (d.toNat ≤ 1)) ∧
    (∃ (port : Fin 4) (life : Option (BitVec 8)) (over_ under_ : Option (BitVec 16)) (s : State), (s.mboxUp port
      = true) ∧ (s.phase ≠ stRomRecovery) ∧ (s.phase = stOpen)) ∧
    (∃ (port : Fin 4) (v : BitVec 8) (s : State), (s.mboxUp port = true) ∧ (s.phase ≠ stRomRecovery) ∧ (s.phase
      = stOpen) ∧ (v.toNat ≤ 1)) ∧
    (∃ (port : Fin 4) (off : BitVec 32) (b : BitVec 8) (s : State), (s.mboxUp port = true) ∧ (s.phase ≠
      stRomRecovery) ∧ (s.phase = stOpen) ∧ (off.toNat < lsaSize)) ∧
    (∃ (port : Fin 4) (off : BitVec 32) (data : List (BitVec 8)) (s : State), (s.mboxUp port = true) ∧ (s.phase
      ≠ stRomRecovery) ∧ (s.phase = stOpen) ∧ (data ≠ []) ∧ (data.length ≤ 4088) ∧ (off.toNat + data.length ≤
      lsaSize)) ∧
    (∃ (port : Fin 4) (dpa : Word) (s : State), (s.mboxUp port = true) ∧ (s.phase ≠ stRomRecovery) ∧ (dpa.toNat
      % 64 = 0) ∧ (dpa.toNat / 64 < capLines) ∧ ((s.med.injected.filter s.isLost).contains (dpa.toNat / 64) =
      false) ∧ ((s.med.injected.filter s.isLost).length < 256)) ∧
    (∃ (port : Fin 4) (dpa : Word) (data : Line) (s : State), (s.mboxUp port = true) ∧ (s.phase ≠ stRomRecovery)
      ∧ (dpa.toNat % 64 ≠ 0 ∨ capLines ≤ dpa.toNat / 64)) ∧
    (∃ (port : Fin 4) (dpa : Word) (data : Line) (w : Nat) (v : VLine) (s : State), (s.mboxUp port = true) ∧
      (s.phase ≠ stRomRecovery) ∧ (dpa.toNat % 64 = 0) ∧ (dpa.toNat / 64 < capLines) ∧ (s.Quiet (s.glOf (dpa.toNat
      / 64))) ∧ (s.coh.wl = []) ∧ (s.vfind (s.glOf (dpa.toNat / 64)) = some (w, v)) ∧ (v.lent = .local) ∧
      ((s.attrOf (s.glOf (dpa.toNat / 64))).wpol = .wb) ∧ (s.verdict (s.glOf (dpa.toNat / 64)) fullMask (.port
      port 0) false = .accept)) ∧
    (∃ (port : Fin 4) (off : BitVec 25) (size : BitVec 8) (v : Word) (ok : Bool) (u : State) (s : State),
      (s.mboxUp port = true) ∧ (s.phase ≠ stRomRecovery) ∧ (s.portQuiet port = true) ∧ (exec (.registerWrite port
      false off size v ok) s = .next u)) ∧
    (∃ (port : Fin 4) (v : Word) (ok : Bool) (s : State), (s.mboxUp port = true) ∧ (s.phase ≠ stRomRecovery) ∧
      (s.bit D.GBL_CTL_scrlock = false)) ∧
    (∃ (port : Fin 4) (s : State), (s.mboxUp port = true) ∧ (s.phase ≠ stRomRecovery)) :=
  ⟨⟨0, 3, [], sUp, by decide +kernel⟩,
    ⟨0, 3, [], sUp, by decide +kernel⟩,
    ⟨0, 3, false, [7], sUp, by decide +kernel⟩,
    ⟨0, 1, 0, 2, 0, sUp, by decide +kernel⟩,
    ⟨0, 1, 0, 1, 0, sUp, by decide +kernel⟩,
    ⟨0, some 5, none, none, sUp, by decide +kernel⟩,
    ⟨0, 1, sUp, by decide +kernel⟩,
    ⟨0, 9, 7, sUp, by decide +kernel⟩,
    ⟨0, 9, [7, 8, 9], sUp, by decide +kernel⟩,
    ⟨0, 64, sUp, by decide +kernel⟩,
    ⟨0, 1, 0, sUp, by decide +kernel⟩,
    ⟨0, 64, 7, 0, ⟨1, 9, false, true, .local⟩, sPeek.setWay 1 0 ⟨1, 9, false, true, .local⟩, by decide +kernel⟩,
    ⟨0, 0x40, 8, 9, true, sUp.regWrite 0 0x40 8 9 true, sUp, by decide +kernel, by decide +kernel,
      by decide +kernel, rfl⟩,
    ⟨0, 9, true, sUp, by decide +kernel⟩,
    ⟨0, sUp, by decide +kernel⟩⟩

theorem meets_AtriumWindowsRun :
    (∃ (port : Fin 4) (queue : Fin 4096) (data : Line) (s : State), (s.portQuiet port = true) ∧ (s.phase ≠
      stRomRecovery) ∧ (s.qOn queue = true) ∧ (s.qFull queue = false) ∧ (s.qType queue ≠ qCompl) ∧ ((s.port
      port).gather = [])) ∧
    (∃ (port : Fin 4) (queue : Fin 4096) (data : Line) (s : State), (s.portQuiet port = true) ∧ (s.phase ≠
      stRomRecovery) ∧ (s.qOn queue = true) ∧ (s.qFull queue = false) ∧ (s.qType queue ≠ qCompl) ∧ ((s.port
      port).gather = []) ∧ ((s.queue queue).cut = false) ∧ (s.rd D.ATQ_CFG_ct queue = 0)) ∧
    (∃ (port : Fin 4) (queue : Fin 4096) (off : Fin 64) (size : Nat) (data : Line) (s : State), (s.portQuiet
      port = true) ∧ (windowAccess off size = true) ∧ (off.val + size < 64) ∧ (s.phase ≠ stRomRecovery)) ∧
    (∃ (port : Fin 4) (queue : Fin 4096) (off : Fin 64) (size : Nat) (data : Line) (s : State), (s.portQuiet
      port = true) ∧ (windowAccess off size = true) ∧ (off.val + size < 64) ∧ (s.phase ≠ stRomRecovery)) ∧
    (∃ (port : Fin 4) (queue : Fin 4096) (off : Fin 64) (size : Nat) (corr : Fin 9) (unc : Bool) (s : State),
      (s.portQuiet port = true) ∧ (windowAccess off size = true) ∧ (s.phase ≠ stRomRecovery) ∧ (s.qType queue ≠
      qCall) ∧ (off.val ≠ 0)) ∧
    (∃ (port : Fin 4) (queue : Fin 4096) (size : Nat) (corr : Fin 9) (unc : Bool) (e : QEntry) (r : List QEntry)
      (s : State), (s.portQuiet port = true) ∧ (windowAccess 0 size = true) ∧ (s.phase ≠ stRomRecovery) ∧ (s.qType
      queue ≠ qCall) ∧ (s.qOn queue = true) ∧ ((s.queue queue).vis = e :: r) ∧ (unc = true ∨ e.bad = true)) ∧
    (∃ (port : Fin 4) (queue : Fin 4096) (size : Nat) (corr : Fin 9) (e : QEntry) (r : List QEntry) (s : State),
      (s.portQuiet port = true) ∧ (windowAccess 0 size = true) ∧ (s.phase ≠ stRomRecovery) ∧ (s.qType queue ≠
      qCall) ∧ (s.qOn queue = true) ∧ ((s.queue queue).vis = e :: r) ∧ (e.bad = false) ∧ ((s.qInject queue).1.2 =
      false)) ∧
    (∃ (port : Fin 4) (queue : Fin 4096) (size : Nat) (corr : Fin 9) (unc : Bool) (s : State), (s.portQuiet port
      = true) ∧ (windowAccess 0 size = true) ∧ (s.phase ≠ stRomRecovery) ∧ (s.qOn queue = false ∨ (s.queue
      queue).vis = [])) ∧
    (∃ (port : Fin 4) (vector : Fin 2048) (s : State), ((SMap.get MsixVec.init (s.port port).msix
      vector).pending = false)) ∧
    (∃ (port : Fin 4) (vector : Fin 2048) (s : State), ((SMap.get MsixVec.init (s.port port).msix
      vector).pending = true) ∧ (s.portMode port ≠ 0)) :=
  ⟨⟨0, 5, 77, sQueue, by decide +kernel⟩,
    ⟨0, 5, 77, sQueue, by decide +kernel⟩,
    ⟨0, 5, 8, 8, 77, sQueue, by decide +kernel⟩,
    ⟨0, 5, 8, 8, 77, sQueue, by decide +kernel⟩,
    ⟨0, 5, 8, 8, 0, false, sQueue, by decide +kernel⟩,
    ⟨0, 5, 64, 0, true, ⟨7, false⟩, [], (sQueue.setQueue 5 ⟨[⟨7, false⟩], [], false, false⟩), by decide +kernel⟩,
    ⟨0, 5, 64, 0, ⟨7, false⟩, [], (sQueue.setQueue 5 ⟨[⟨7, false⟩], [], false, false⟩), by decide +kernel⟩,
    ⟨0, 5, 64, 0, false, sUp, by decide +kernel⟩,
    ⟨0, 17, sUp, by decide +kernel⟩,
    ⟨0, 17, (sUp.setPort 0 { sUp.port 0 with msix := [(17, ⟨true, true⟩)] }), by decide +kernel⟩⟩

theorem meets_AtriumControlRuns :
    (∃ (port : Fin 4) (queue : Fin 4096) (cfg : BitVec 63) (s : State), (s.portQuiet port = true) ∧ (s.phase ≠
      stRomRecovery) ∧ (s.qOn queue = false) ∧ (s.poolUsed + 65536 ≤ 16777216)) ∧
    (∃ (port : Fin 4) (queue : Fin 4096) (cfg : BitVec 63) (s : State), (s.portQuiet port = true) ∧ (s.phase ≠
      stRomRecovery) ∧ (s.qOn queue = true)) ∧
    (∃ (port : Fin 4) (queue : Fin 4096) (s : State), (s.portQuiet port = true) ∧ (s.phase ≠ stRomRecovery)) ∧
    (∃ (port : Fin 4) (queue : Fin 4096) (s : State), (s.portQuiet port = true) ∧ (s.phase ≠ stRomRecovery) ∧
      ((s.queue queue).packet = true)) ∧
    (∃ (port : Fin 4) (queue : Fin 4096) (s : State), (s.portQuiet port = true) ∧ (s.phase ≠ stRomRecovery) ∧
      (s.qType queue ≠ qCall) ∧ ((s.queue queue).vis = [])) :=
  ⟨⟨0, 5, 0, sUp, by decide +kernel⟩,
    ⟨0, 5, 0, sQueue, by decide +kernel⟩,
    ⟨0, 5, sQueue, by decide +kernel⟩,
    ⟨0, 5, (sQueue.setQueue 5 ⟨[], [⟨7, false⟩], true, false⟩), by decide +kernel⟩,
    ⟨0, 5, sQueue, by decide +kernel⟩⟩

theorem meets_CallsRun :
    (∃ (corr : Fin 9) (n c : Nat) (e : QEntry) (r : List QEntry) (p : Program) (s : State), (s.nextCall = some
      n) ∧ ((List.range 256).find? s.canCall = some c) ∧ (s.isOpen = true) ∧ (s.rtlWait = false) ∧ (s.qOn n =
      true) ∧ ((s.queue n).vis = e :: r) ∧ (e.bad = false) ∧ ((s.qInject n).1.2 = false) ∧ (s.prog ((wordAt e.data
      0) / 2 ^ 46 % 1024) = some p) ∧ ((wordAt e.data 0) / 2 ^ 56 = 1) ∧ ((wordAt e.data 0) % 2 ^ 26 = 0) ∧
      ((wordAt e.data 0) / 2 ^ 46 % 1024 ≠ 0) ∧ (p.draining = false) ∧ ((wordAt e.data 0) / 2 ^ 38 % 256 <
      p.entries.length)) ∧
    (∃ (corr : Fin 9) (unc : Bool) (n c : Nat) (e : QEntry) (r : List QEntry) (s : State), (s.nextCall = some n)
      ∧ ((List.range 256).find? s.canCall = some c) ∧ (s.isOpen = true) ∧ (s.rtlWait = false) ∧ (s.qOn n = true) ∧
      ((s.queue n).vis = e :: r) ∧ (unc = true ∨ e.bad = true) ∧ (s.qFull ((wordAt e.data 0) / 2 ^ 26 % 4096) =
      false)) ∧
    (∃ (corr : Fin 9) (n c : Nat) (e : QEntry) (r : List QEntry) (s : State), (s.nextCall = some n) ∧
      ((List.range 256).find? s.canCall = some c) ∧ (s.isOpen = true) ∧ (s.rtlWait = false) ∧ (s.qOn n = true) ∧
      (s.qType n = qCall) ∧ ((s.queue n).vis = e :: r) ∧ (e.bad = false) ∧ (s.NoInj) ∧ ((wordAt e.data 0) / 2 ^ 56
      ≠ 1) ∧ (s.cqGood ((wordAt e.data 0) / 2 ^ 26 % 4096) = true) ∧ (s.qFull ((wordAt e.data 0) / 2 ^ 26 % 4096)
      = false)) ∧
    (∃ (c : Fin 256) (s : State), ((s.ctx c).donePend = true) ∧ (s.cqGood (s.ctx c).cq = true) ∧ (s.qFull (s.ctx
      c).cq = false)) ∧
    (∃ (port : Fin 4) (s : State), (s.portQuiet port = true) ∧ (s.phase ≠ stRomRecovery) ∧ (s.cur.load = none)) ∧
    (∃ (ext : List (Nat × Line × Bool)) (l : LoadOp) (ls : List (Nat × Line × Bool)) (u : State) (s : State),
      (s.cur.load = some l) ∧ (rangeOk l.src l.len = true) ∧ (s.devReadAll ext (linesOf l.src l.len) = some (ls,
      u)) ∧ (ls.any (fun e => e.2.2) = false) ∧ (s.phase ≠ stRomRecovery)) ∧
    (∃ (port : Fin 4) (id : Fin 1024) (p : Program) (s : State), (s.portQuiet port = true) ∧ (s.phase ≠
      stRomRecovery) ∧ (s.prog id = some p) ∧ (p.priv = .guest)) ∧
    (∃ (port : Fin 4) (ctx : Fin 256) (s : State), (s.portQuiet port = true) ∧ (s.phase ≠ stRomRecovery) ∧
      ((s.ctx ctx).st = .running) ∧ ((s.ctx ctx).donePend = false) ∧ ((s.ctx ctx).priv ≠ .warden)) :=
  ⟨⟨0, 3, 0, ⟨callLine, false⟩, [], progOne, sCall, by decide +kernel⟩,
    ⟨0, true, 3, 0, ⟨callLine, false⟩, [], sCall, by decide +kernel⟩,
    ⟨0, 3, 0, ⟨5 * 2 ^ 26, false⟩, [], ((sCall.wr D.ATQ_CFG_enable 1 5).wr D.ATQ_CFG_type 1 5).setQueue 3 ⟨[⟨5 *
      2 ^ 26, false⟩], [], false, false⟩, by decide +kernel⟩,
    ⟨0, (sQueue.wr D.ATQ_CFG_type 1 5).setCtx 0 { Ctx.init with donePend := true, cq := 5, st := .running },
      by decide +kernel⟩,
    ⟨0, sUp, by decide +kernel⟩,
    ⟨[], ⟨0, 0⟩, [], { sUp with cur := { sUp.cur with load := some ⟨0, 0⟩ } },
      { sUp with cur := { sUp.cur with load := some ⟨0, 0⟩ } }, by decide +kernel⟩,
    ⟨0, 20, progOne, sCall, by decide +kernel⟩,
    ⟨0, 3, sUp.setCtx 3 { Ctx.init with st := .running }, by decide +kernel⟩⟩

theorem meets_HomeAnswersTheFabric :
    (∃ (seat : Fin 64) (tag : Fin 4096) (gen : Bool) (ga : BitVec 50) (w : Nat) (v : VLine) (s : State),
      (s.FabNew seat tag (ga.toNat / 64)) ∧ (s.Quiet (ga.toNat / 64)) ∧ (s.Hits (ga.toNat / 64) w v) ∧ ((s.attrOf
      (ga.toNat / 64)).loan = true) ∧ (s.filterVictim (ga.toNat / 64) = none)) ∧
    (∃ (seat : Fin 64) (tag : Fin 4096) (gen : Bool) (ga : BitVec 50) (w : Nat) (v : VLine) (s : State),
      (s.FabNew seat tag (ga.toNat / 64)) ∧ (s.Quiet (ga.toNat / 64)) ∧ (s.Hits (ga.toNat / 64) w v) ∧ ((s.attrOf
      (ga.toNat / 64)).loan = false)) ∧
    (∃ (seat : Fin 64) (tag : Fin 4096) (gen : Bool) (ga : BitVec 50) (w : Nat) (v : VLine) (s : State),
      (s.FabNew seat tag (ga.toNat / 64)) ∧ (s.Quiet (ga.toNat / 64)) ∧ (s.Hits (ga.toNat / 64) w v) ∧ ((s.attrOf
      (ga.toNat / 64)).loan = true) ∧ (s.filterVictim (ga.toNat / 64) = none) ∧ (s.grantRaises s.grantSlot =
      false)) ∧
    (∃ (seat : Fin 64) (tag : Fin 4096) (gen : Bool) (ga : BitVec 50) (w : Nat) (v : VLine) (s : State),
      (s.FabNew seat tag (ga.toNat / 64)) ∧ (s.Quiet (ga.toNat / 64)) ∧ (s.Hits (ga.toNat / 64) w v) ∧ ((s.attrOf
      (ga.toNat / 64)).loan = false) ∧ (s.filterVictim (ga.toNat / 64) = none) ∧ (s.grantRaises s.grantSlot =
      false)) ∧
    (∃ (seat : Fin 64) (tag : Fin 4096) (gen : Bool) (ga : BitVec 50) (w : Nat) (v : VLine) (s : State),
      (s.FabNew seat tag (ga.toNat / 64)) ∧ (s.Quiet (ga.toNat / 64)) ∧ (s.Hits (ga.toNat / 64) w v) ∧
      (s.filterVictim (ga.toNat / 64) = none) ∧ (s.grantRaises s.grantSlot = false)) ∧
    (∃ (seat : Fin 64) (tag : Fin 4096) (gen : Bool) (ga : BitVec 50) (w : Nat) (v : VLine) (s : State),
      (s.FabNew seat tag (ga.toNat / 64)) ∧ (s.Quiet (ga.toNat / 64)) ∧ (s.Hits (ga.toNat / 64) w v)) ∧
    (∃ (seat : Fin 64) (tag : Fin 4096) (gen : Bool) (ga : BitVec 50) (data : Line) (mask : LineMask) (poison :
      Bool) (w : Nat) (v : VLine) (s : State), (s.FabNew seat tag (ga.toNat / 64)) ∧ (s.Quiet (ga.toNat / 64)) ∧
      (s.Hits (ga.toNat / 64) w v) ∧ ((s.attrOf (ga.toNat / 64)).wpol = .wb) ∧ ((s.attrOf (ga.toNat / 64)).ewa =
      false) ∧ (s.storesClosed = false) ∧ (s.verdict (ga.toNat / 64) mask (.fabric seat tag gen) false = .accept)) ∧
    (∃ (seat : Fin 64) (tag : Fin 4096) (gen : Bool) (ga : BitVec 50) (op : Fin 10) (wide : Bool) (off : Fin 64)
      (a b : Word) (w : Nat) (v : VLine) (s : State), (s.FabNew seat tag (ga.toNat / 64)) ∧ (s.Quiet (ga.toNat /
      64)) ∧ (s.Hits (ga.toNat / 64) w v) ∧ ((s.attrOf (ga.toNat / 64)).wpol = .wb) ∧ (s.storesClosed = false) ∧
      (s.verdict (ga.toNat / 64) (maskOf off (if wide then 8 else 4)) (.fabric seat tag gen) true = .accept)) ∧
    (∃ (seat : Fin 64) (tag : Fin 4096) (gen : Bool) (ga : BitVec 50) (fl : Flips) (e : Dedup) (s : State),
      (SMap.find s.coh.dedup (tagKey seat tag) = some e) ∧ (e.gen = gen) ∧ (e.done = true)) ∧
    (∃ (seat : Fin 64) (tag : Fin 4096) (gen : Bool) (ga : BitVec 50) (data : Line) (mask : LineMask) (poison :
      Bool) (w : Nat) (v : VLine) (g : Grant) (s : State), (SMap.find s.coh.dedup (tagKey seat tag) = none) ∧
      (s.phase ≠ stFlushing) ∧ (s.phase ≠ stResetting) ∧ (s.stgE.blocked = []) ∧ (s.rd D.FAB_STAT_join = 4) ∧
      (gaValid (gaOf (ga.toNat / 64)) = true) ∧ (s.isLocal (ga.toNat / 64) = true) ∧ (s.coh.conf = []) ∧ (s.txn
      (ga.toNat / 64) = none) ∧ (s.grant (ga.toNat / 64) = some g) ∧ (g.seat = seat.val) ∧ (s.grantRaises g.slot =
      false) ∧ (s.storesClosed = false) ∧ ((s.ungrant (ga.toNat / 64)).mayCharge (ga.toNat / 64) = true) ∧
      (s.NoInj) ∧ (s.coh.wl = []) ∧ (s.rops = []) ∧ ((s.regionOf (ga.toNat / 64)).st ≠ .deleting) ∧ (s.sealedIn
      (llOf (ga.toNat / 64)) = none) ∧ ((s.attrOf (ga.toNat / 64)).wpol = .wb) ∧ (s.Hits (ga.toNat / 64) w v)) ∧
    (∃ (seat : Fin 64) (tag : Fin 4096) (gen : Bool) (ga : BitVec 50) (data : Line) (mask : LineMask) (poison :
      Bool) (s : State), (SMap.find s.coh.dedup (tagKey seat tag) = none) ∧ (s.phase ≠ stFlushing) ∧ (s.phase ≠
      stResetting) ∧ (s.stgE.blocked = []) ∧ (s.rd D.FAB_STAT_join = 4) ∧ (gaValid (gaOf (ga.toNat / 64)) = true)
      ∧ (s.isLocal (ga.toNat / 64) = true) ∧ (s.coh.conf = []) ∧ (s.txn (ga.toNat / 64) = none) ∧ (s.phase ≠
      stRomRecovery) ∧ (s.storesClosed = false) ∧ (s.grant (ga.toNat / 64) = none)) ∧
    (∃ (seat : Fin 64) (tag : Fin 4096) (gen : Bool) (ga : BitVec 50) (fl : Flips) (g : Grant) (s : State),
      (SMap.find s.coh.dedup (tagKey seat tag) = none) ∧ (s.phase ≠ stFlushing) ∧ (s.phase ≠ stResetting) ∧
      (s.stgE.blocked = []) ∧ (s.rd D.FAB_STAT_join = 4) ∧ (gaValid (gaOf (ga.toNat / 64)) = true) ∧ (s.isLocal
      (ga.toNat / 64) = true) ∧ (s.coh.conf = []) ∧ (s.txn (ga.toNat / 64) = none) ∧ (s.grant (ga.toNat / 64) =
      some g) ∧ (g.seat = seat.val) ∧ (s.grantRaises g.slot = false)) ∧
    (∃ (seat : Fin 64) (tag : Fin 4096) (gen : Bool) (fl : Flips) (r : FReq) (s : State), (SMap.find s.coh.freqs
      (tagKey seat tag) = some r) ∧ (r.kind = .inv) ∧ (r.gen = gen) ∧ (s.txn r.gl = none)) :=
  ⟨⟨1, 7, true, 64, 0, ⟨1, 9, false, false, .local⟩, sLend, by decide +kernel⟩,
    ⟨1, 7, true, 64, 0, ⟨1, 9, false, false, .local⟩, sJoined, by decide +kernel⟩,
    ⟨1, 7, true, 64, 0, ⟨1, 9, false, false, .local⟩, sLend, by decide +kernel⟩,
    ⟨1, 7, true, 64, 0, ⟨1, 9, false, false, .local⟩, sJoined, by decide +kernel⟩,
    ⟨1, 7, true, 64, 0, ⟨1, 9, false, false, .local⟩, sJoined, by decide +kernel⟩,
    ⟨1, 7, true, 64, 0, ⟨1, 9, false, false, .local⟩, sJoined, by decide +kernel⟩,
    ⟨1, 7, true, 64, 5, fullMask, false, 0, ⟨1, 9, false, false, .local⟩, sJoined, by decide +kernel⟩,
    ⟨1, 7, true, 64, 1, true, 0, 0, 5, 0, ⟨1, 9, false, false, .local⟩, sJoined, by decide +kernel⟩,
    ⟨1, 7, true, 64, Flips.none, ⟨true, true, .fread, 1, 9, false, false⟩,
      { sJoined with coh := { sJoined.coh with dedup := [(tagKey 1 7, ⟨true, true, .fread, 1, 9, false, false⟩)] } },
      by decide +kernel⟩,
    ⟨1, 7, true, 64, 5, fullMask, false, 0, ⟨1, 9, false, false, .local⟩, ⟨1, false, 0, 0⟩,
      { sJoined with coh := { sJoined.coh with grants := [(1, ⟨1, false, 0, 0⟩)] } }, by decide +kernel⟩,
    ⟨1, 7, true, 64, 5, fullMask, false, { sJoined with coh := { sJoined.coh with grants := [] } },
      by decide +kernel⟩,
    ⟨1, 7, true, 64, Flips.none, ⟨1, false, 0, 0⟩,
      { sJoined with coh := { sJoined.coh with grants := [(1, ⟨1, false, 0, 0⟩)] } }, by decide +kernel⟩,
    ⟨1, 7, true, Flips.none, freqOf .inv, sReq (freqOf .inv), by decide +kernel⟩⟩

theorem meets_BorrowerOfTheFabric :
    (∃ (seat : Fin 64) (tag : Fin 4096) (gen : Bool) (ga : BitVec 50) (w : Nat) (v : VLine) (s : State),
      (s.isLocal (ga.toNat / 64) = false) ∧ (seatOf (ga.toNat / 64) = seat.val) ∧ (s.coh.vit = [(wayKey (sliceOf
      (ga.toNat / 64)) (vitSet (ga.toNat / 64)) w, v)]) ∧ (s.vfind (ga.toNat / 64) = some (w, v)) ∧ (v.lent =
      .modified) ∧ (s.coh.wl = []) ∧ (s.coh.outb = []) ∧ ((s.freeTag seat).isSome = true)) ∧
    (∃ (seat : Fin 64) (tag : Fin 4096) (gen : Bool) (ga : BitVec 50) (w : Nat) (v : VLine) (s : State),
      (s.isLocal (ga.toNat / 64) = false) ∧ (seatOf (ga.toNat / 64) = seat.val) ∧ (s.coh.vit = [(wayKey (sliceOf
      (ga.toNat / 64)) (vitSet (ga.toNat / 64)) w, v)]) ∧ (s.vfind (ga.toNat / 64) = some (w, v)) ∧ (v.lent =
      .shared)) ∧
    (∃ (seat : Fin 64) (tag : Fin 4096) (gen : Bool) (data : Line) (granted : Bool) (r : FReq) (port ptag ga :
      Nat) (s : State), (SMap.find s.coh.freqs (tagKey seat tag) = some r) ∧ (r.gen = gen) ∧ (r.kind = .fread) ∧
      (r.src = .port port ptag) ∧ ((s.port port).reads = [⟨ptag, ga⟩]) ∧ ((s.port port).eab = [])) ∧
    (∃ (seat : Fin 64) (tag : Fin 4096) (gen : Bool) (data : Line) (poison granted : Bool) (r : FReq) (port ptag
      ga : Nat) (s : State), (SMap.find s.coh.freqs (tagKey seat tag) = some r) ∧ (r.gen = gen) ∧ (r.kind =
      .fread) ∧ (r.src = .port port ptag) ∧ ((s.port port).reads = [⟨ptag, ga⟩]) ∧ ((s.port port).eab = [])) ∧
    (∃ (seat : Fin 64) (tag : Fin 4096) (gen : Bool) (data : Line) (poison : Bool) (r : FReq) (c : Nat) (l :
      LdEnt) (u : LdUnit) (s : State), (SMap.find s.coh.freqs (tagKey seat tag) = some r) ∧ (r.gen = gen) ∧
      (r.kind = .lread ∨ r.kind = .fread) ∧ (r.src = .load c) ∧ ((s.ctx c).hold = .load l) ∧ (l.units = [u]) ∧
      (u.gl = r.gl) ∧ (u.got = none)) ∧
    (∃ (seat : Fin 64) (tag : Fin 4096) (gen : Bool) (data : Line) (poison : Bool) (r : FReq) (c : Nat) (l :
      LdEnt) (u : LdUnit) (w : Nat) (s : State), (SMap.find s.coh.freqs (tagKey seat tag) = some r) ∧ (r.gen =
      gen) ∧ (r.kind = .lread) ∧ (r.src = .load c) ∧ ((s.ctx c).hold = .load l) ∧ (l.units = [u]) ∧ (u.gl = r.gl)
      ∧ (u.got = none) ∧ ((s.eligible r.gl true).head? = some w) ∧ (SMap.find s.coh.vit (wayKey (sliceOf r.gl)
      (vitSet r.gl) w) = none) ∧ (s.vfind r.gl = none)) ∧
    (∃ (seat : Fin 64) (tag : Fin 4096) (gen : Bool) (data : Line) (poison : Bool) (r : FReq) (w : Nat) (s :
      State), (SMap.find s.coh.freqs (tagKey seat tag) = some r) ∧ (r.gen = gen) ∧ (r.kind = .lown) ∧ ((s.freqDel
      seat tag).mayHold = true) ∧ (s.mayCharge r.gl = true) ∧ ((s.eligible r.gl true).head? = some w) ∧ (SMap.find
      s.coh.vit (wayKey (sliceOf r.gl) (vitSet r.gl) w) = none) ∧ (s.vfind r.gl = none)) ∧
    (∃ (seat : Fin 64) (tag : Fin 4096) (gen : Bool) (data : Line) (poison : Bool) (r : FReq) (c : Nat) (e :
      SbEnt) (k : List SbEnt) (s : State), (SMap.find s.coh.freqs (tagKey seat tag) = some r) ∧ (r.gen = gen) ∧
      (r.kind = .lown) ∧ (r.src = .store c) ∧ ((s.ctx c).sb = e :: k) ∧ (e.gl = r.gl) ∧ (((s.freqDel seat
      tag).freeTag (seatOf r.gl)).isSome = true)) ∧
    (∃ (seat : Fin 64) (tag : Fin 4096) (gen : Bool) (data : Line) (r : FReq) (c : Nat) (l : LdEnt) (u : LdUnit)
      (s : State), (SMap.find s.coh.freqs (tagKey seat tag) = some r) ∧ (r.gen = gen) ∧ (r.kind = .lread) ∧ (r.src
      = .load c) ∧ ((s.ctx c).hold = .load l) ∧ (l.units = [u]) ∧ (u.gl = r.gl) ∧ (u.got = none)) ∧
    (∃ (seat : Fin 64) (tag : Fin 4096) (gen : Bool) (r : FReq) (port ptag : Nat) (s : State), (SMap.find
      s.coh.freqs (tagKey seat tag) = some r) ∧ (r.gen = gen) ∧ (r.kind = .fwrite) ∧ (r.src = .port port ptag) ∧
      (s.portMode port ≠ 0)) ∧
    (∃ (seat : Fin 64) (tag : Fin 4096) (gen : Bool) (granted : Bool) (r : FReq) (e : OutEnt) (s : State),
      (SMap.find s.coh.freqs (tagKey seat tag) = some r) ∧ (r.gen = gen) ∧ (r.kind = .dlv) ∧ (s.outEnt r.gl = some
      e) ∧ (e.st = .delivering) ∧ (s.coh.fwd = [])) ∧
    (∃ (seat : Fin 64) (tag : Fin 4096) (gen : Bool) (ewa : Bool) (r : FReq) (s : State), (SMap.find s.coh.freqs
      (tagKey seat tag) = some r) ∧ (r.gen = gen) ∧ (r.kind = .own) ∧ (s.outEnt r.gl = none) ∧ ((s.freqDel seat
      tag).mayHold = true) ∧ (s.mayCharge r.gl = true)) ∧
    (∃ (seat : Fin 64) (tag : Fin 4096) (gen : Bool) (data : Line) (r : FReq) (c : Nat) (l : LdEnt) (u : LdUnit)
      (s : State), (SMap.find s.coh.freqs (tagKey seat tag) = some r) ∧ (r.gen = gen) ∧ (r.kind = .fatomic) ∧
      (r.src = .atom c) ∧ ((s.ctx c).hold = .load l) ∧ (l.units = [u]) ∧ (u.gl = r.gl) ∧ (u.got = none)) ∧
    (∃ (seat : Fin 64) (tag : Fin 4096) (gen : Bool) (ewa : Bool) (r : FReq) (c : Nat) (e : SbEnt) (k : List
      SbEnt) (s : State), (SMap.find s.coh.freqs (tagKey seat tag) = some r) ∧ (r.gen = gen) ∧ (r.kind = .own) ∧
      (r.src = .store c) ∧ (s.outEnt r.gl = none) ∧ ((s.ctx c).sb = e :: k) ∧ (e.gl = r.gl) ∧ (((s.freqDel seat
      tag).freeTag (seatOf r.gl)).isSome = true)) ∧
    (∃ (seat : Fin 64) (tag : Fin 4096) (gen : Bool) (data : Line) (poison : Bool) (r : FReq) (c : Nat) (l :
      LdEnt) (u : LdUnit) (s : State), (SMap.find s.coh.freqs (tagKey seat tag) = some r) ∧ (r.gen = gen) ∧
      (r.kind = .fatomic) ∧ (r.src = .atom c) ∧ ((s.ctx c).hold = .load l) ∧ (l.units = [u]) ∧ (u.gl = r.gl) ∧
      (u.got = none)) ∧
    (∃ (seat : Fin 64) (tag : Fin 4096) (gen : Bool) (r : FReq) (s : State), (SMap.find s.coh.freqs (tagKey seat
      tag) = some r) ∧ (r.gen = gen) ∧ (r.kind = .fwrite) ∧ (r.src = .dev) ∧ (s.outEnt r.gl = none) ∧ ((s.freqDel
      seat tag).mayHold = true) ∧ (s.mayCharge r.gl = true)) ∧
    (∃ (seat : Fin 64) (tag : Fin 4096) (gen : Bool) (r : FReq) (s : State), (SMap.find s.coh.freqs (tagKey seat
      tag) = some r) ∧ (r.gen = gen) ∧ (r.seat = seat.val) ∧ (r.tag = tag.val)) ∧
    (∃ (seat : Fin 64) (tag : Fin 4096) (r : FReq) (s : State), (SMap.find s.coh.freqs (tagKey seat tag) = some
      r) ∧ (r.seat = seat.val) ∧ (r.tag = tag.val) ∧ (r.attempt < 3)) ∧
    (∃ (seat : Fin 64) (tag : Fin 4096) (r : FReq) (s : State), (SMap.find s.coh.freqs (tagKey seat tag) = some
      r) ∧ (r.attempt < 3)) ∧
    (∃ (seat : Fin 64) (tag : Fin 4096) (r : FReq) (s : State) (port ptag ga : Nat), (SMap.find s.coh.freqs
      (tagKey seat tag) = some r) ∧ (r.seat = seat.val) ∧ (r.tag = tag.val) ∧ (3 ≤ r.attempt) ∧ (r.kind = .fread)
      ∧ (r.src = .port port ptag) ∧ ((s.port port).reads = [⟨ptag, ga⟩]) ∧ ((s.port port).eab = [])) ∧
    (∃ (seat : Fin 64) (tag : Fin 4096) (r : FReq) (s : State) (g : Grant), (SMap.find s.coh.freqs (tagKey seat
      tag) = some r) ∧ (r.seat = seat.val) ∧ (r.tag = tag.val) ∧ (3 ≤ r.attempt) ∧ (r.kind = .recall) ∧ (s.grant
      r.gl = some g) ∧ (g.seat = r.seat) ∧ (s.txn r.gl = none)) ∧
    (∃ (ga : BitVec 50) (e : OutEnt) (s : State), (s.NoInj) ∧ (s.outEnt (ga.toNat / 64) = some e) ∧ (e.st =
      .owned) ∧ ((s.freeTag (seatOf (ga.toNat / 64))).isSome = true)) ∧
    (∃ (seat : Fin 64) (w : Nat) (v : VLine) (s : State), (s.mySeat ≠ some seat.val) ∧ (s.coh.vit = [(wayKey
      (sliceOf v.gl) (vitSet v.gl) w, v)]) ∧ (s.vfind v.gl = some (w, v)) ∧ (v.lent = .shared) ∧ (seatOf v.gl =
      seat.val) ∧ (s.coh.outb = []) ∧ (s.coh.fwd = [])) ∧
    (∃ (seat : Fin 64) (gl : Nat) (g : Grant) (s : State), (s.grant gl = some g) ∧ (g.seat = seat.val) ∧
      (s.coh.grants.length = 1)) :=
  ⟨⟨1, 7, true, BitVec.ofNat 50 (2 ^ 44), 0, ⟨2 ^ 38, 9, true, false, .modified⟩,
      ({ sJoined with coh := { sJoined.coh with vit := [] } } : State).setWay (2 ^ 38) 0 ⟨2 ^ 38, 9, true, false,
      .modified⟩, by decide +kernel⟩,
    ⟨1, 7, true, BitVec.ofNat 50 (2 ^ 44), 0, ⟨2 ^ 38, 9, false, false, .shared⟩,
      ({ sJoined with coh := { sJoined.coh with vit := [] } } : State).setWay (2 ^ 38) 0 ⟨2 ^ 38, 9, false, false,
      .shared⟩, by decide +kernel⟩,
    ⟨1, 7, true, 5, false, { freqOf .fread with src := .port 0 7 }, 0, 7, 64, sReq
      { freqOf .fread with src := .port 0 7 }, by decide +kernel⟩,
    ⟨1, 7, true, 5, true, false, { freqOf .fread with src := .port 0 7 }, 0, 7, 64, sReq
      { freqOf .fread with src := .port 0 7 }, by decide +kernel⟩,
    ⟨1, 7, true, 5, true, { freqOf .fread with src := .load 3 }, 3, ⟨0x13, 1, 8, false, 2 ^ 44, [⟨2 ^ 38, 0, 8,
      0, 0, none⟩], none, false⟩, ⟨2 ^ 38, 0, 8, 0, 0, none⟩, (sReq { freqOf .fread with src := .load 3 }).setCtx
      3 { sPeek.ctx 3 with hold := .load ⟨0x13, 1, 8, false, 2 ^ 44, [⟨2 ^ 38, 0, 8, 0, 0, none⟩], none, false⟩ },
      by decide +kernel⟩,
    ⟨1, 7, true, 5, false, { freqOf .lread with src := .load 3 }, 3, ⟨0x13, 1, 8, false, 2 ^ 44, [⟨2 ^ 38, 0, 8,
      0, 0, none⟩], none, false⟩, ⟨2 ^ 38, 0, 8, 0, 0, none⟩, 15,
      ({ ((sReq { freqOf .lread with src := .load 3 }).setCtx 3 { sPeek.ctx 3 with hold := .load ⟨0x13, 1, 8, false, 2 ^ 44, [⟨2 ^ 38, 0, 8, 0, 0, none⟩], none, false⟩ }) with coh := { (sReq { freqOf .lread with src := .load 3 }).coh with loanWays := 1 } }
      : State), by decide +kernel⟩,
    ⟨1, 7, true, 5, false, freqOf .lown, 15,
      ({ (sReq (freqOf .lown)) with coh := { (sReq (freqOf .lown)).coh with loanWays := 1 } } : State),
      by decide +kernel⟩,
    ⟨1, 7, true, 5, false, { freqOf .lown with src := .store 3 }, 3, ⟨2 ^ 38, 5, fullMask, 0, false, false⟩, [],
      (sReq { freqOf .lown with src := .store 3 }).setCtx 3
      { sPeek.ctx 3 with sb := [⟨2 ^ 38, 5, fullMask, 0, false, false⟩] }, by decide +kernel⟩,
    ⟨1, 7, true, 5, { freqOf .lread with src := .load 3 }, 3, ⟨0x13, 1, 8, false, 2 ^ 44, [⟨2 ^ 38, 0, 8, 0, 0,
      none⟩], none, false⟩, ⟨2 ^ 38, 0, 8, 0, 0, none⟩, (sReq { freqOf .lread with src := .load 3 }).setCtx 3
      { sPeek.ctx 3 with hold := .load ⟨0x13, 1, 8, false, 2 ^ 44, [⟨2 ^ 38, 0, 8, 0, 0, none⟩], none, false⟩ },
      by decide +kernel⟩,
    ⟨1, 7, true, { freqOf .fwrite with src := .port 0 7 }, 0, 7, sReq { freqOf .fwrite with src := .port 0 7 },
      by decide +kernel⟩,
    ⟨1, 7, true, false, freqOf .dlv, ⟨.delivering, 9, fullMask, false, false, []⟩, (sReq (freqOf .dlv)).setOut
      (2 ^ 38) ⟨.delivering, 9, fullMask, false, false, []⟩, by decide +kernel⟩,
    ⟨1, 7, true, false, freqOf .own, sReq (freqOf .own), by decide +kernel⟩,
    ⟨1, 7, true, 5, { freqOf .fatomic with src := .atom 3 }, 3, ⟨0x1C, 1, 8, false, 2 ^ 44, [⟨2 ^ 38, 0, 8, 0,
      0, none⟩], none, true⟩, ⟨2 ^ 38, 0, 8, 0, 0, none⟩, (sReq { freqOf .fatomic with src := .atom 3 }).setCtx 3
      { sPeek.ctx 3 with hold := .load ⟨0x1C, 1, 8, false, 2 ^ 44, [⟨2 ^ 38, 0, 8, 0, 0, none⟩], none, true⟩ },
      by decide +kernel⟩,
    ⟨1, 7, true, false, { freqOf .own with src := .store 3 }, 3, ⟨2 ^ 38, 5, fullMask, 0, false, false⟩, [],
      (sReq { freqOf .own with src := .store 3 }).setCtx 3
      { sPeek.ctx 3 with sb := [⟨2 ^ 38, 5, fullMask, 0, false, false⟩] }, by decide +kernel⟩,
    ⟨1, 7, true, 5, true, { freqOf .fatomic with src := .atom 3 }, 3, ⟨0x1C, 1, 8, false, 2 ^ 44, [⟨2 ^ 38, 0,
      8, 0, 0, none⟩], none, true⟩, ⟨2 ^ 38, 0, 8, 0, 0, none⟩, (sReq
      { freqOf .fatomic with src := .atom 3 }).setCtx 3
      { sPeek.ctx 3 with hold := .load ⟨0x1C, 1, 8, false, 2 ^ 44, [⟨2 ^ 38, 0, 8, 0, 0, none⟩], none, true⟩ },
      by decide +kernel⟩,
    ⟨1, 7, true, freqOf .fwrite, sReq (freqOf .fwrite), by decide +kernel⟩,
    ⟨1, 7, true, freqOf .own, sReq (freqOf .own), by decide +kernel⟩,
    ⟨1, 7, freqOf .own, sReq (freqOf .own), by decide +kernel⟩,
    ⟨1, 7, freqOf .own, sReq (freqOf .own), by decide +kernel⟩,
    ⟨1, 7, { freqOf .fread with src := .port 0 7, attempt := 3 }, sReq
      { freqOf .fread with src := .port 0 7, attempt := 3 }, 0, 7, 64, by decide +kernel⟩,
    ⟨1, 7, { freqOf .recall with attempt := 3 }, (sReq { freqOf .recall with attempt := 3 }).setGrants [(2 ^ 38,
      ⟨1, false, 0, 0⟩)], ⟨1, false, 0, 0⟩, by decide +kernel⟩,
    ⟨BitVec.ofNat 50 (2 ^ 44), ⟨.owned, 9, fullMask, false, false, []⟩, sJoined.setOut (2 ^ 38) ⟨.owned, 9,
      fullMask, false, false, []⟩, by decide +kernel⟩,
    ⟨1, 0, ⟨2 ^ 38, 9, false, false, .shared⟩, ({ sJoined with coh := { sJoined.coh with vit := [] } } :
      State).setWay (2 ^ 38) 0 ⟨2 ^ 38, 9, false, false, .shared⟩, by decide +kernel⟩,
    ⟨1, 1, ⟨1, false, 0, 0⟩, { sJoined with coh := { sJoined.coh with grants := [(1, ⟨1, false, 0, 0⟩)] } },
      by decide +kernel⟩⟩

theorem meets_FabricPortsTrain :
    (∃ (port : Fin 16) (s : State), (s.fpState port = fpDetect)) ∧
    (∃ (port : Fin 16) (speed width : Fin 4) (s : State), (s.fpState port = fpPoll) ∧ (speed.val ≠ 0) ∧
      (width.val ≠ 0) ∧ (speed.val ≤ s.rd D.FAB_PCTL_maxrate port) ∧ (s.drbg < 2 ^ 32)) ∧
    (∃ (port : Fin 16) (speed width : Fin 4) (s : State), (s.fpState port = fpRetrain) ∧ (speed.val ≠ 0) ∧
      (width.val ≠ 0) ∧ (speed.val ≤ s.rd D.FAB_PCTL_maxrate port) ∧ (s.drbg < 2 ^ 32)) ∧
    (∃ (port : Fin 16) (speed width : Fin 4) (s : State), (s.fpState port = fpPoll) ∧ (speed.val ≠ 0) ∧
      (width.val ≠ 0) ∧ (speed.val ≤ s.rd D.FAB_PCTL_maxrate port) ∧ (2 ^ 32 ≤ s.drbg)) ∧
    (∃ (port : Fin 16) (s : State), (s.fpState port = fpPoll ∨ s.fpState port = fpConfig)) ∧
    (∃ (port : Fin 16) (s : State), (s.fpState port = fpDown) ∧ (s.fpOff port = false)) ∧
    (∃ (port : Fin 16) (s : State), (s.fpState port = fpActive) ∧ (8 ≤ (s.fport port).again) ∧ (((s.fport
      port).retrains.filter (fun t => decide (s.now < t + 1000000000))).length < 2)) ∧
    (∃ (port : Fin 16) (s : State), (s.fpState port = fpActive) ∧ (((s.fport port).retrains.filter (fun t =>
      decide (s.now < t + 1000000000))).length < 2)) ∧
    (∃ (port : Fin 16) (s : State), (s.fpState port = fpActive) ∧ (2 ≤ ((s.fport port).retrains.filter (fun t =>
      decide (s.now < t + 1000000000))).length)) ∧
    (∃ (port : Fin 16) (s : State), (s.fpState port = fpRetrain)) ∧
    (∃ (port : Fin 16) (s : State), (s.fpState port = fpActive) ∧ (s.rd D.FAB_PSTAT_enc port = 1) ∧ (2 ^ 32 ≤
      (s.fport port).batches) ∧ (((s.fport port).retrains.filter (fun t => decide (s.now < t +
      1000000000))).length < 2)) ∧
    (∃ (port : Fin 16) (uid : Word) (nport : Fin 16) (fabid : Word) (nonce : BitVec 128) (kcv : BitVec 32) (s :
      State), (s.fpState port = fpConfig) ∧ (s.rd D.FAB_PCTL_crypt port ≠ 1)) ∧
    (∃ (port : Fin 16) (uid : Word) (nport : Fin 16) (fabid : Word) (nonce : BitVec 128) (kcv : BitVec 32) (s :
      State), (s.fpState port = fpConfig) ∧ (s.rd D.FAB_PCTL_crypt port ≠ 1) ∧ (s.phase ≠ stRomRecovery)) ∧
    (∃ (port : Fin 16) (uid : Word) (nport : Fin 16) (fabid : Word) (nonce : BitVec 128) (kcv : BitVec 32) (s :
      State), (s.fpState port = fpConfig) ∧ (s.rd D.FAB_PCTL_crypt port ≠ 1) ∧ (s.storedSeat.isSome = true) ∧
      (fabid.toNat ≠ s.rd D.FAB_FABID_id) ∧ (s.phase ≠ stRomRecovery)) ∧
    (∃ (port : Fin 16) (uid : Word) (nport : Fin 16) (seated : Bool) (fabid : Word) (nonce : BitVec 128) (kcv :
      BitVec 32) (s : State), (s.fpState port = fpConfig) ∧ (s.rd D.FAB_PCTL_crypt port ≠ 1) ∧ (seated = false ∨
      s.storedSeat = none ∨ fabid.toNat = s.rd D.FAB_FABID_id)) ∧
    (∃ (port : Fin 16) (uid : Word) (nport : Fin 16) (seated : Bool) (fabid : Word) (nonce : BitVec 128) (kcv :
      BitVec 32) (fk : Bytes) (s : State), (s.fpState port = fpConfig) ∧ (s.rd D.FAB_PCTL_crypt port = 1) ∧
      (s.fabricKey = some fk) ∧ (linkKcv (linkKey fk myUid uid.toNat (s.fport port).nonce nonce) = kcv.toNat) ∧
      (seated = false ∨ s.storedSeat = none ∨ fabid.toNat = s.rd D.FAB_FABID_id)) ∧
    (∃ (port : Fin 16) (uid : Word) (nport : Fin 16) (seated : Bool) (fabid : Word) (nonce : BitVec 128) (kcv :
      BitVec 32) (s : State), (s.fpState port = fpRetrain) ∧ ((s.fport port).locked = true) ∧ (s.rd
      D.FAB_PCTL_crypt port ≠ 1) ∧ (seated = false ∨ s.storedSeat = none ∨ fabid.toNat = s.rd D.FAB_FABID_id)) ∧
    (∃ (port : Fin 4) (fport : Fin 16) (value : BitVec 32) (s : State), (s.portQuiet port = true) ∧ (s.phase ≠
      stRomRecovery)) :=
  ⟨⟨2, sUp.wr D.FAB_PSTAT_state fpDetect 2, by decide +kernel⟩,
    ⟨2, 3, 3, sUp.wr D.FAB_PSTAT_state fpPoll 2, by decide +kernel⟩,
    ⟨2, 3, 3, sUp.wr D.FAB_PSTAT_state fpRetrain 2, by decide +kernel⟩,
    ⟨2, 3, 3, { sUp.wr D.FAB_PSTAT_state fpPoll 2 with drbg := 2 ^ 32 }, by decide +kernel⟩,
    ⟨2, sUp.wr D.FAB_PSTAT_state fpConfig 2, by decide +kernel⟩,
    ⟨2, (sUp.wr D.FAB_PSTAT_state fpDown 2).wr D.FAB_CTL_enable 1, by decide +kernel⟩,
    ⟨2, (sUp.wr D.FAB_PSTAT_state fpActive 2).setFport 2 { FPort.init with again := 8 }, by decide +kernel⟩,
    ⟨2, sUp.wr D.FAB_PSTAT_state fpActive 2, by decide +kernel⟩,
    ⟨2, (sUp.wr D.FAB_PSTAT_state fpActive 2).setFport 2 { FPort.init with retrains := [0, 0] },
      by decide +kernel⟩,
    ⟨2, sUp.wr D.FAB_PSTAT_state fpRetrain 2, by decide +kernel⟩,
    ⟨2, ((sUp.wr D.FAB_PSTAT_state fpActive 2).wr D.FAB_PSTAT_enc 1 2).setFport 2
      { FPort.init with batches := 2 ^ 32 }, by decide +kernel⟩,
    ⟨2, 9, 5, 0, 0, 0, sUp.wr D.FAB_PSTAT_state fpConfig 2, by decide +kernel⟩,
    ⟨2, 9, 5, 0, 0, 0, sUp.wr D.FAB_PSTAT_state fpConfig 2, by decide +kernel⟩,
    ⟨2, 9, 5, 1, 0, 0, sForeign, rfl, by decide +kernel, sForeign_seat, by decide +kernel, by decide +kernel⟩,
    ⟨2, 9, 5, true, 0, 0, 0, sUp.wr D.FAB_PSTAT_state fpConfig 2, by decide +kernel⟩,
    ⟨2, 9, 5, false, 0, 0, BitVec.ofNat 32 (linkKcv (linkKey (leBytes 7 32) myUid 9 0 0)), leBytes 7 32, sCrypt,
      by decide +kernel, by decide +kernel, by decide +kernel, linkKcv_self _, Or.inl rfl⟩,
    ⟨2, 9, 5, true, 0, 0, 0, (sUp.wr D.FAB_PSTAT_state fpRetrain 2).setFport 2
      { FPort.init with locked := true }, by decide +kernel⟩,
    ⟨1, 3, 0x16, (sUp.wrP D.HST_STAT_mode 1 2).setPort 1 { Port.init with perst := false, loaded := true },
      by decide +kernel⟩⟩

theorem meets_FabricLinksCarry :
    (∃ (port : Fin 16) (seq ack : Fin 1024) (chan : Fin 64) (credits : Fin 16) (payload : BitVec 480) (crc :
      BitVec 32) (s : State), (s.fpState port = fpActive) ∧ (s.injSlots 0x10 (hitInst1 port) = []) ∧ ((FlitHdr.mk
      1 seq ack chan credits).crcOk payload crc = true) ∧ (seq.val = (s.fport port).rx) ∧ ((s.fport port).replay =
      []) ∧ (s.rd D.FAB_PSTAT_enc port = 0)) ∧
    (∃ (port : Fin 16) (seq ack : Fin 1024) (chan : Fin 64) (credits : Fin 16) (payload : BitVec 480) (crc :
      BitVec 32) (s : State), (s.fpState port = fpActive) ∧ (s.injSlots 0x10 (hitInst1 port) = []) ∧ ((FlitHdr.mk
      1 seq ack chan credits).crcOk payload crc = true) ∧ (seq.val = (s.fport port).rx) ∧ ((s.fport port).replay =
      []) ∧ (s.rd D.FAB_PSTAT_enc port = 1)) ∧
    (∃ (port : Fin 16) (seq ack : Fin 1024) (chan : Fin 64) (credits : Fin 16) (payload : BitVec 480) (crc :
      BitVec 32) (s : State), (s.fpState port = fpActive) ∧ (s.injSlots 0x10 (hitInst1 port) = []) ∧ ((FlitHdr.mk
      1 seq ack chan credits).crcOk payload crc = false) ∧ ((s.fport port).nak = false)) ∧
    (∃ (port : Fin 16) (k : BitVec 256) (seq ack : Fin 1024) (chan : Fin 64) (credits : Fin 16) (payload :
      BitVec 480) (crc : BitVec 32) (s : State), (s.fpState port = fpActive) ∧ (s.injSlots 0x10 (hitInst1 port) =
      []) ∧ (s.injSlots 0x11 (hitInst1 port) = []) ∧ ((FlitHdr.mk 2 seq ack chan credits).crcOk payload crc =
      true) ∧ (seq.val = (s.fport port).rx) ∧ ((s.fport port).replay = []) ∧ ((s.fport port).key = some k) ∧
      (gcmTag (leBytes k.toNat 32) (batchNonce (decide (s.rd D.FAB_PNBR_uid port < myUid)) (s.fport port).rekeys
      (s.fport port).batches) (batchAad (s.fport port).batch) (batchBytes (s.fport port).batch) = leBytes
      payload.toNat 16)) ∧
    (∃ (port : Fin 16) (seq ack : Fin 1024) (chan : Fin 64) (credits : Fin 16) (expected : Fin 1024) (payload :
      BitVec 480) (crc : BitVec 32) (s : State), (s.fpState port = fpActive) ∧ (s.injSlots 0x10 (hitInst1 port) =
      []) ∧ ((FlitHdr.mk 3 seq ack chan credits).crcOk payload crc = true) ∧ ((s.fport port).replay.contains
      ((expected.val + 1023) % 1024) = false)) ∧
    (∃ (port : Fin 16) (seq ack : Fin 1024) (chan : Fin 64) (credits : Fin 16) (payload : BitVec 480) (crc :
      BitVec 32) (s : State), (s.fpState port = fpActive) ∧ (s.injSlots 0x10 (hitInst1 port) = []) ∧ ((FlitHdr.mk
      0 seq ack chan credits).crcOk payload crc = true) ∧ (seq.val = (s.fport port).rx) ∧ ((s.fport port).replay =
      [])) ∧
    (∃ (port : Fin 16) (seq ack : Fin 1024) (chan : Fin 64) (credits : Fin 16) (payload : BitVec 480) (crc :
      BitVec 32) (s : State) (i : Nat), (s.fpState port = fpActive) ∧ (s.injSlots 0x10 (hitInst1 port) = []) ∧
      ((FlitHdr.mk 0 seq ack chan credits).crcOk payload crc = true) ∧ (seq.val = (s.fport port).rx) ∧ ((s.fport
      port).replay[i]? = some ack.val) ∧ (∀ j, j < i → (s.fport port).replay[j]? ≠ some ack.val) ∧ ((s.fport
      port).wait = 0)) ∧
    (∃ (port : Fin 16) (roundTrip turnaround : Nat) (s : State), (s.fpState port = fpActive)) ∧
    (∃ (port : Fin 16) (dest : Fin 64) (hops : Fin 16) (words : Nat) (s : State), (s.fpState port = fpActive) ∧
      (s.mySeat ≠ some dest.val) ∧ (hops.val < 10)) ∧
    (∃ (port : Fin 16) (dest : Fin 64) (hops : Fin 16) (words : Nat) (s : State), (s.fpState port = fpActive) ∧
      (s.mySeat ≠ some dest.val) ∧ (10 ≤ hops.val) ∧ (s.phase ≠ stRomRecovery)) ∧
    (∃ (port : Fin 16) (uid : Word) (seq : Nat) (kprio : BitVec 8) (r : LinkRec) (s : State), (SMap.find
      s.fab.recs uid.toNat = some r) ∧ (seq ≤ r.seq)) ∧
    (∃ (port : Fin 16) (uid : Word) (seat : Option (Fin 64)) (seq : Nat) (kprio : BitVec 8) (links : List (Fin
      16 × Word × Fin 16)) (s : State), (s.fpState port = fpActive) ∧ (SMap.find s.fab.recs uid.toNat = none) ∧
      (uid ≠ 0) ∧ (uid ≠ Config.uid)) ∧
    (∃ (s : State), (s.rd D.FAB_STAT_join ≠ 0)) ∧
    (∃ (port : Fin 4) (seat : Fin 64) (gl : Nat) (g : Grant) (s : State), (s.portQuiet port = true) ∧ (s.phase ≠
      stRomRecovery) ∧ (s.grant gl = some g) ∧ (g.seat = seat.val) ∧ (s.coh.grants.length = 1)) :=
  ⟨⟨2, 0, 0, 0, 0, 7, BitVec.ofNat 32 (crc32 (1 * 2 ^ 30 + 7 * 2 ^ 32) 64), sUp.wr D.FAB_PSTAT_state fpActive
      2, by decide +kernel⟩,
    ⟨2, 0, 0, 0, 0, 7, BitVec.ofNat 32 (crc32 (1 * 2 ^ 30 + 7 * 2 ^ 32) 64), (sUp.wr D.FAB_PSTAT_state fpActive
      2).wr D.FAB_PSTAT_enc 1 2, by decide +kernel⟩,
    ⟨2, 0, 0, 0, 0, 7, 0, sUp.wr D.FAB_PSTAT_state fpActive 2, by decide +kernel⟩,
    ⟨2, 5, 0, 0, 0, 0, tagOf5 (decide (0 < myUid)), BitVec.ofNat 32 (crc32 ((FlitHdr.mk 2 (0 : Fin 1024).val (0
      : Fin 1024).val (0 : Fin 64).val (0 : Fin 16).val).word + (tagOf5 (decide (0 < myUid))).toNat * 2 ^ 32) 64),
      (sUp.wr D.FAB_PSTAT_state fpActive 2).setFport 2 { FPort.init with key := some 5 }, by decide +kernel,
      by decide +kernel, by decide +kernel, crcOk_self _ _, rfl, rfl, rfl, tag_hyp _ _ rfl rfl rfl rfl⟩,
    ⟨2, 0, 0, 0, 0, 7, 7, BitVec.ofNat 32 (crc32 (3 * 2 ^ 30 + 7 * 2 ^ 32) 64), (sUp.wr D.FAB_PSTAT_state
      fpActive 2).setFport 2 { FPort.init with replay := [7, 8] }, by decide +kernel⟩,
    ⟨2, 0, 0, 0, 0, 7, BitVec.ofNat 32 (crc32 (0 * 2 ^ 30 + 7 * 2 ^ 32) 64), sUp.wr D.FAB_PSTAT_state fpActive
      2, by decide +kernel⟩,
    ⟨2, 0, 8, 0, 0, 7, BitVec.ofNat 32 (crc32 (8 * 2 ^ 10 + 7 * 2 ^ 32) 64), (sUp.wr D.FAB_PSTAT_state fpActive
      2).setFport 2 { FPort.init with replay := [7, 8, 9] }, 1, by decide +kernel⟩,
    ⟨2, 700, 100, sUp.wr D.FAB_PSTAT_state fpActive 2, by decide +kernel⟩,
    ⟨2, 7, 9, 4, sUp.wr D.FAB_PSTAT_state fpActive 2, by decide +kernel⟩,
    ⟨2, 7, 10, 4, sUp.wr D.FAB_PSTAT_state fpActive 2, by decide +kernel⟩,
    ⟨2, 9, 3, 0, ⟨none, 3, 0, []⟩, { sUp with fab := { sUp.fab with recs := [(9, ⟨none, 3, 0, []⟩)] } },
      by decide +kernel⟩,
    ⟨2, otherUid, none, 1, 0, [], sUp.wr D.FAB_PSTAT_state fpActive 2, by decide +kernel, rfl, otherUid_ne⟩,
    ⟨sUp.wr D.FAB_STAT_join 1, by decide +kernel⟩,
    ⟨0, 1, 1, ⟨1, false, 0, 0⟩, sUp.setGrants [(1, ⟨1, false, 0, 0⟩)], by decide +kernel⟩⟩

theorem meets_JoinAndSeatCommands :
    (∃ (s : State), (s.rd D.FAB_STAT_join = 1 ∨ s.rd D.FAB_STAT_join = 2)) ∧
    (∃ (uid fabid epoch : Word) (seat : Option (Fin 64 × BitVec 48)) (time : Word) (s : State), (s.isKeeper =
      true) ∧ (s.fab.committed = false) ∧ (s.rd D.FAB_STAT_join ≠ 0)) ∧
    (∃ (uid fabid epoch : Word) (seat : Option (Fin 64 × BitVec 48)) (time : Word) (s : State), (s.isKeeper =
      true) ∧ (s.fab.committed = true)) ∧
    (∃ (uid fabid epoch : Word) (seat : Option (Fin 64 × BitVec 48)) (record : List (Fin 64 × Word × BitVec 48))
      (time : Word) (s : State), (s.isKeeper = true) ∧ (s.fab.committed = false) ∧ (s.rd D.FAB_STAT_join ≠ 0)) ∧
    (∃ (k e : Nat) (uid fabid epoch : Word) (time : Word) (s : State), (s.isKeeper = true) ∧ (s.fab.committed =
      true) ∧ (uid ≠ 0) ∧ (s.bit D.FAB_CFG_autoseat = true) ∧ (s.quorum = true) ∧ (s.seatRecs.find? (fun x =>
      decide (x.2.1 = 0)) = some (k, 0, e))) ∧
    (∃ (fabid epoch : Word) (seat : Fin 64) (uid : Word) (e : BitVec 48) (s : State), (s.isKeeper = false) ∧
      (s.rd D.FAB_STAT_join ≠ 0) ∧ (s.betterRecord fabid.toNat epoch.toNat = true)) ∧
    (∃ (fabid epoch : Word) (record : List (Fin 64 × Word × BitVec 48)) (o : SeatOp) (s : State), (s.isKeeper =
      true) ∧ (s.fab.seatOp = some o) ∧ (o.origin = myUid)) ∧
    (∃ (fabid epoch : Word) (s : State), (s.isKeeper = false) ∧ (s.rd D.FAB_STAT_join ≠ 0) ∧ (s.betterRecord
      fabid.toNat epoch.toNat = true)) ∧
    (∃ (fabid epoch : Word) (s : State), (s.isKeeper = true) ∧ (s.fab.seatOp = none) ∧ (s.fab.resolving = true)
      ∧ (s.fab.committed = false) ∧ (s.proposal = s.seatRecs)) ∧
    (∃ (s : State), (s.isKeeper = false) ∧ (s.rd D.FAB_STAT_join = 3) ∧ (s.fab.record = false) ∧ (s.phase ≠
      stRomRecovery)) ∧
    (∃ (seat : Fin 64) (uid origin : Word) (s : State), (s.isKeeper = true) ∧ (s.seatRefusal 1 seat uid.toNat =
      none) ∧ (s.fab.seatOp = none)) ∧
    (∃ (seat : Fin 64) (uid origin : Word) (s : State), (s.isKeeper = true) ∧ (s.seatRefusal 2 seat uid.toNat =
      none) ∧ (s.fab.seatOp = none)) ∧
    (∃ (gl : Nat) (e : FwdEnt) (seat : Fin 64) (uid origin : Word) (s : State), (s.isKeeper = true) ∧
      (s.seatRefusal 3 seat uid.toNat = none) ∧ (s.fab.seatOp = none) ∧ (s.coh.fwd = [(gl, e)]) ∧ (e.uid =
      uid.toNat)) ∧
    (∃ (port : Fin 4) (seat : Fin 64) (uid origin : Word) (s : State), (s.portQuiet port = true) ∧ (s.phase ≠
      stRomRecovery) ∧ (s.isKeeper = false) ∧ (s.bit D.FAB_SEATCMD_busy = false)) ∧
    (∃ (port : Fin 4) (seat : Fin 64) (uid origin : Word) (s : State), (s.portQuiet port = true) ∧ (s.phase ≠
      stRomRecovery) ∧ (s.isKeeper = false) ∧ (s.bit D.FAB_SEATCMD_busy = false)) ∧
    (∃ (port : Fin 4) (seat : Fin 64) (uid origin : Word) (s : State), (s.portQuiet port = true) ∧ (s.phase ≠
      stRomRecovery) ∧ (s.isKeeper = false) ∧ (s.bit D.FAB_SEATCMD_busy = false)) :=
  ⟨⟨sUp.wr D.FAB_STAT_join 2, by decide +kernel⟩,
    ⟨9, 0, 0, none, 70, (sUp.wr D.FAB_STAT_join 3).wr D.FAB_STAT_keeper 1, by decide +kernel⟩,
    ⟨9, 0, 0, none, 70, ((fun (u : State) => { u with fab := { u.fab with committed := true } }) (sUp.wr
      D.FAB_STAT_keeper 1)), by decide +kernel⟩,
    ⟨9, 5, 1, some (4, 1), [(4, 9, 1)], 70, (sUp.wr D.FAB_STAT_join 3).wr D.FAB_STAT_keeper 1,
      by decide +kernel⟩,
    ⟨0, 0, 9, 0, 0, 70, ((fun (u : State) => { u with fab := { u.fab with committed := true } }) (((sUp.wr
      D.FAB_STAT_keeper 1).wr D.FAB_CFG_autoseat 1))), by decide +kernel⟩,
    ⟨9, 4, 3, 9, 4, sUp.wr D.FAB_STAT_join 3, by decide +kernel⟩,
    ⟨9, 4, [], ⟨1, 4, 9, myUid⟩,
      { sUp.wr D.FAB_STAT_keeper 1 with fab := { sUp.fab with seatOp := some ⟨1, 4, 9, myUid⟩ } },
      by decide +kernel, rfl, rfl⟩,
    ⟨9, 4, sUp.wr D.FAB_STAT_join 3, by decide +kernel⟩,
    ⟨9, 4, ((fun (u : State) => { u with fab := { u.fab with resolving := true } }) (sUp.wr D.FAB_STAT_keeper
      1)), by decide +kernel⟩,
    ⟨sUp.wr D.FAB_STAT_join 3, by decide +kernel⟩,
    ⟨4, 9, 9, sMember, by decide +kernel⟩,
    ⟨4, 9, 9, (sUp.wr D.FAB_STAT_keeper 1), by decide +kernel⟩,
    ⟨2 ^ 38, ⟨0, fullMask, false, 9, false, false, []⟩, 1, 9, 9,
      { (sUp.wr D.FAB_STAT_keeper 1) with coh := { sUp.coh with fwd := [(2 ^ 38, ⟨0, fullMask, false, 9, false, false, []⟩)] } },
      by decide +kernel⟩,
    ⟨0, 4, 9, 9, sUp, by decide +kernel⟩,
    ⟨0, 4, 9, 9, sUp, by decide +kernel⟩,
    ⟨0, 4, 9, 9, sUp, by decide +kernel⟩⟩

theorem meets_TimeAndGlobalOperations :
    (∃ (time : Word) (delay depth : Nat) (s : State), (s.isKeeper = false) ∧ (3 ≤ s.rd D.FAB_STAT_join) ∧ (s.now
      + 100000 < time.toNat + delay) ∧ (time.toNat + delay < 2 ^ 64)) ∧
    (∃ (time : Word) (delay depth : Nat) (s : State), (s.isKeeper = false) ∧ (3 ≤ s.rd D.FAB_STAT_join) ∧ (s.now
      < time.toNat + delay) ∧ (time.toNat + delay ≤ s.now + 100000) ∧ (time.toNat + delay < 2 ^ 64)) ∧
    (∃ (time : Word) (delay depth : Nat) (s : State), (s.isKeeper = false) ∧ (3 ≤ s.rd D.FAB_STAT_join) ∧
      (time.toNat + delay ≤ s.now)) ∧
    (∃ (time : Word) (delay depth : Nat) (s : State), (s.isKeeper = true) ∧ (3 ≤ s.rd D.FAB_STAT_join)) ∧
    (∃ (t0 : Word) (s : State), (s.isKeeper = true) ∧ (s.now < t0.toNat) ∧ (s.phase ≠ stRomRecovery)) ∧
    (∃ (port : Fin 4) (t0 : Word) (s : State), (s.portQuiet port = true) ∧ (s.phase ≠ stRomRecovery) ∧
      (s.isKeeper = false) ∧ (s.rd D.FAB_STAT_join ≠ 0)) ∧
    (∃ (s : State), (s.isOpen = true)) ∧
    (∃ (arg origin : Word) (s : State), (s.isKeeper = false) ∧ (3 ≤ s.rd D.FAB_STAT_join) ∧ (s.phase ≠
      stRomRecovery)) ∧
    (∃ (port : Fin 4) (arg origin : Word) (s : State), (s.portQuiet port = true) ∧ (s.phase ≠ stRomRecovery) ∧
      (s.isKeeper = false) ∧ (s.bit D.FAB_GOPCTL_busy = false)) ∧
    (∃ (arg origin t0 : Word) (s : State), (s.isKeeper = false) ∧ (3 ≤ s.rd D.FAB_STAT_join)) ∧
    (∃ (s : State) (t0 : Nat), (s.fab.snapAt = some t0) ∧ (t0 < 2 ^ 64)) ∧
    (∃ (port : Fin 4) (arg origin t0 : Word) (s : State), (s.portQuiet port = true) ∧ (s.phase ≠ stRomRecovery)
      ∧ (s.isKeeper = false) ∧ (s.bit D.FAB_GOPCTL_busy = false)) ∧
    (∃ (port : Fin 4) (arg origin t0 : Word) (s : State), (s.portQuiet port = true) ∧ (s.phase ≠ stRomRecovery)
      ∧ (s.isKeeper = false) ∧ (s.bit D.FAB_GOPCTL_busy = false)) ∧
    (∃ (arrive : BitVec 16) (origin : Word) (s : State), (s.isKeeper = true)) ∧
    (∃ (arg origin : Word) (s : State), (s.isKeeper = false) ∧ (3 ≤ s.rd D.FAB_STAT_join) ∧ (s.phase = stOpen)) ∧
    (∃ (arg origin : Word) (s : State), (s.isKeeper = false) ∧ (3 ≤ s.rd D.FAB_STAT_join) ∧ (s.phase =
      stFlushing ∨ s.phase = stResetting)) ∧
    (∃ (late : Nat) (g : Gop) (m : List Nat) (s : State), (s.fab.gop = some (g, m)) ∧ (g.op = gopBroadcast) ∧
      (s.fab.gops = []) ∧ (0 < late) ∧ (s.phase ≠ stRomRecovery)) ∧
    (∃ (n : Fin 16) (origin : Word) (s : State), (s.isKeeper = true)) ∧
    (∃ (port : Fin 4) (n : Fin 16) (origin : Word) (s : State), (s.portQuiet port = true) ∧ (s.phase ≠
      stRomRecovery) ∧ (s.isKeeper = false) ∧ ((s.rd D.FAB_BARRIER_waiting).testBit n = false)) ∧
    (∃ (n : Fin 16) (s : State), (s.isKeeper = false) ∧ ((s.rd D.FAB_BARRIER_waiting).testBit n = true) ∧
      (s.phase ≠ stRomRecovery)) :=
  ⟨⟨900000, 70, 1, sUp.wr D.FAB_STAT_join 4, by decide +kernel⟩,
    ⟨900, 70, 1, sUp.wr D.FAB_STAT_join 4, by decide +kernel⟩,
    ⟨0, 0, 1, sUp.wr D.FAB_STAT_join 4, by decide +kernel⟩,
    ⟨0, 0, 1, (sUp.wr D.FAB_STAT_join 4).wr D.FAB_STAT_keeper 1, by decide +kernel⟩,
    ⟨900, (sUp.wr D.FAB_STAT_keeper 1), by decide +kernel⟩,
    ⟨0, 900, sUp.wr D.FAB_STAT_join 4, by decide +kernel⟩,
    ⟨sUp, by decide +kernel⟩,
    ⟨7, 9, sUp.wr D.FAB_STAT_join 4, by decide +kernel⟩,
    ⟨0, 7, 9, sUp, by decide +kernel⟩,
    ⟨7, 9, 900, sUp.wr D.FAB_STAT_join 4, by decide +kernel⟩,
    ⟨{ sUp with fab := { sUp.fab with snapAt := some 5 } }, 5, by decide +kernel⟩,
    ⟨0, 7, 9, 0, sUp, by decide +kernel⟩,
    ⟨0, 7, 9, 0, sUp, by decide +kernel⟩,
    ⟨9, 9, (sUp.wr D.FAB_STAT_keeper 1), by decide +kernel⟩,
    ⟨0, 9, sUp.wr D.FAB_STAT_join 4, by decide +kernel⟩,
    ⟨0, 9, (sUp.wr D.FAB_STAT_join 4).wr D.GBL_STAT_state stFlushing, by decide +kernel⟩,
    ⟨2, ⟨gopBroadcast, 7, 9, 0⟩, [9],
      { sUp with fab := { sUp.fab with gop := some (⟨gopBroadcast, 7, 9, 0⟩, [9]) } }, by decide +kernel⟩,
    ⟨3, 9, (sUp.wr D.FAB_STAT_keeper 1), by decide +kernel⟩,
    ⟨0, 3, 9, sUp, by decide +kernel⟩,
    ⟨3, sUp.wr D.FAB_BARRIER_waiting 8, by decide +kernel⟩⟩

theorem meets_DoneEndsCalls :
    (∃ (c : Fin 256) (s : State), (s.Served c) ∧ (s.refusing c = false) ∧ ((s.ctx c).links = []) ∧ ((s.ctx
      c).jobs = []) ∧ ((s.ctx c).fault = none) ∧ (s.cqGood (s.ctx c).cq = true) ∧ (s.qFull (s.ctx c).cq = false)) :=
  ⟨3, ((sRun.wr D.ATQ_CFG_enable 1 5).wr D.ATQ_CFG_type 1 5).setCtx 3 { sRun.ctx 3 with cq := 5 },
      by decide +kernel⟩

theorem meets_StagingAndIntegrity :
    (∃ (line : Fin 4294967296) (ke km : BitVec 256) (h : BitVec 128) (kind : Fin 7) (a b : Nat) (data : Line)
      (miss : Fin 6) (s : State), (s.rd D.STG_STAT_state ≠ 0) ∧ (s.stgWaits line = false) ∧ (s.stgE.keys = some
      (ke, km, h))) ∧
    (∃ (line : Fin 4294967296) (ke km : BitVec 256) (h : BitVec 128) (kind : Fin 7) (a b : Nat) (data : Line)
      (miss : Fin 6) (evicted : List (Nat × Nat)) (s : State), (s.rd D.STG_STAT_state ≠ 0) ∧ (s.stgWaits line =
      false) ∧ (s.stgE.keys = some (ke, km, h))) ∧
    (∃ (line : Fin 4294967296) (ke km : BitVec 256) (h : BitVec 128) (l : DdrLine) (a b : Nat) (ch : Fin 2) (s :
      State), (s.rd D.STG_STAT_state ≠ 0) ∧ (s.NoInj) ∧ (s.stgPoisoned line = false) ∧ (SMap.find s.stgE.lines
      line = some l) ∧ (lineMac km h line l.ctr l.ct = l.mac) ∧ (s.stgE.keys = some (ke, km, h)) ∧ (SMap.find
      s.stgE.uses line = none)) ∧
    (∃ (line : Fin 4294967296) (ke km : BitVec 256) (h : BitVec 128) (l : DdrLine) (kind : Fin 7) (a b : Nat)
      (ch : Fin 2) (miss : Fin 6) (tamper both : Bool) (corr : Fin 9) (evicted : List (Nat × Nat)) (s : State),
      (s.rd D.STG_STAT_state ≠ 0) ∧ (s.NoInj) ∧ (s.stgPoisoned line = false) ∧ (SMap.find s.stgE.lines line = some
      l) ∧ (lineMac km h line l.ctr l.ct = l.mac) ∧ (s.stgE.keys = some (ke, km, h)) ∧ (SMap.find s.stgE.uses line
      = none) ∧ (s.coh.txns = [])) ∧
    (∃ (line : Fin 4294967296) (a b : Nat) (ch : Fin 2) (miss bad : Fin 6) (both : Bool) (corr : Fin 9) (uncorr
      : Fin 3) (ct : Line) (mac : Word) (evicted : List (Nat × Nat)) (s : State), (s.rd D.STG_STAT_state ≠ 0) ∧
      (s.NoInj) ∧ (s.stgPoisoned line = false) ∧ (s.stgE.ranges = []) ∧ (s.stgE.uses = []) ∧ (1 ≤ bad.val) ∧
      (bad.val ≤ miss.val)) ∧
    (∃ (line : Fin 4294967296) (a b : Nat) (ch : Fin 2) (miss bad : Fin 6) (both : Bool) (corr : Fin 9) (uncorr
      : Fin 3) (ct : Line) (mac : Word) (evicted : List (Nat × Nat)) (s : State), (s.rd D.STG_STAT_state ≠ 0) ∧
      (s.NoInj) ∧ (s.stgPoisoned line = false) ∧ (s.stgE.ranges = []) ∧ (s.stgE.uses = []) ∧ (1 ≤ bad.val) ∧
      (bad.val ≤ miss.val)) ∧
    (∃ (line : Fin 4294967296) (a b : Nat) (ch : Fin 2) (miss : Fin 6) (tamper both : Bool) (corr : Fin 9) (ct :
      Line) (mac : Word) (evicted : List (Nat × Nat)) (s : State), (s.rd D.STG_STAT_state ≠ 0) ∧ (s.NoInj) ∧
      (s.stgPoisoned line = false) ∧ (s.stgE.ranges = []) ∧ (s.stgE.uses = [])) ∧
    (∃ (line : Fin 4294967296) (a b : Nat) (ch : Fin 2) (miss : Fin 6) (tamper both : Bool) (corr : Fin 9) (ct :
      Line) (mac : Word) (evicted : List (Nat × Nat)) (s : State), (s.rd D.STG_STAT_state ≠ 0) ∧ (s.NoInj) ∧
      (s.stgPoisoned line = false) ∧ (s.stgE.ranges = []) ∧ (s.stgE.uses = [])) ∧
    (∃ (line : Fin 4294967296) (ke km : BitVec 256) (h : BitVec 128) (l : DdrLine) (a b : Nat) (ch : Fin 2) (mac
      : Word) (s : State), (s.rd D.STG_STAT_state ≠ 0) ∧ (s.NoInj) ∧ (s.stgPoisoned line = false) ∧ (SMap.find
      s.stgE.lines line = some l) ∧ (lineMac km h line l.ctr l.ct = l.mac) ∧ (s.stgE.keys = some (ke, km, h)) ∧
      (SMap.find s.stgE.uses line = none) ∧ (mac ≠ 0) ∧ (s.stgE.ranges = []) ∧ (s.stgE.uses = []) ∧ (s.phase ≠
      stRomRecovery)) ∧
    (∃ (line : Fin 4294967296) (ke km : BitVec 256) (h : BitVec 128) (l : DdrLine) (a b : Nat) (data : Line)
      (mask : LineMask) (ch : Fin 2) (s : State), (s.rd D.STG_STAT_state ≠ 0) ∧ (s.NoInj) ∧ (s.stgPoisoned line =
      false) ∧ (SMap.find s.stgE.lines line = some l) ∧ (lineMac km h line l.ctr l.ct = l.mac) ∧ (s.stgE.keys =
      some (ke, km, h)) ∧ (SMap.find s.stgE.uses line = none) ∧ (s.stgWaits line = false)) ∧
    (∃ (line : Fin 4294967296) (ke km : BitVec 256) (h : BitVec 128) (l : DdrLine) (kind : Fin 7) (a b : Nat)
      (data : Line) (mask : LineMask) (ch : Fin 2) (miss : Fin 6) (tamper : Bool) (corr : Fin 9) (evicted : List
      (Nat × Nat)) (s : State), (s.rd D.STG_STAT_state ≠ 0) ∧ (s.NoInj) ∧ (s.stgPoisoned line = false) ∧
      (SMap.find s.stgE.lines line = some l) ∧ (lineMac km h line l.ctr l.ct = l.mac) ∧ (s.stgE.keys = some (ke,
      km, h)) ∧ (SMap.find s.stgE.uses line = none) ∧ (s.stgWaits line = false) ∧ (1 ≤ kind.val)) ∧
    (∃ (line : Fin 4294967296) (ke km : BitVec 256) (h : BitVec 128) (l : DdrLine) (ll b : Nat) (data : Line)
      (mask : LineMask) (ch : Fin 2) (miss : Fin 6) (tamper : Bool) (corr : Fin 9) (evicted : List (Nat × Nat)) (s
      : State), (s.rd D.STG_STAT_state ≠ 0) ∧ (s.NoInj) ∧ (s.stgPoisoned line = false) ∧ (SMap.find s.stgE.lines
      line = some l) ∧ (lineMac km h line l.ctr l.ct = l.mac) ∧ (s.stgE.keys = some (ke, km, h)) ∧ (SMap.find
      s.stgE.uses line = none) ∧ (s.stgWaits line = false)) ∧
    (∃ (line : Fin 4294967296) (a b : Nat) (data : Line) (mask : LineMask) (ch : Fin 2) (miss : Fin 6) (tamper :
      Bool) (corr : Fin 9) (ct : Line) (mac : Word) (evicted : List (Nat × Nat)) (s : State), (s.rd
      D.STG_STAT_state ≠ 0) ∧ (s.NoInj) ∧ (s.stgPoisoned line = false) ∧ (s.stgE.ranges = []) ∧ (s.stgE.uses = [])
      ∧ (s.stgWaits line = false)) ∧
    (∃ (line : Fin 4294967296) (a b : Nat) (data : Line) (mask : LineMask) (ch : Fin 2) (miss bad : Fin 6)
      (tamper : Bool) (corr : Fin 9) (uncorr : Fin 3) (ct : Line) (mac : Word) (evicted : List (Nat × Nat)) (s :
      State), (s.rd D.STG_STAT_state ≠ 0) ∧ (s.NoInj) ∧ (s.stgPoisoned line = false) ∧ (s.stgE.ranges = []) ∧
      (s.stgE.uses = []) ∧ (s.stgWaits line = false) ∧ (1 ≤ bad.val) ∧ (bad.val ≤ miss.val)) ∧
    (∃ (r : StgRange) (rest : List StgRange) (s : State), (s.stgE.reinit = r :: rest)) ∧
    (∃ (s : State), (s.NoInj) ∧ (s.rd D.CIP_STAT_trng ≠ 2)) ∧
    (∃ (rct apt : Bool) (s : State), (s.NoInj) ∧ ((rct || apt) = true) ∧ (s.phase ≠ stRomRecovery)) ∧
    (∃ (port : Fin 4) (s : State), (s.portQuiet port = true) ∧ (s.phase ≠ stRomRecovery)) ∧
    (∃ (arr : Fin 10) (inst a b : Nat) (fl : Flips) (s : State), (s.isOpen = true) ∧ (s.NoInj) ∧ (arr.val < 7)) ∧
    (∃ (arr : Fin 10) (inst a b : Nat) (fl : Flips) (s : State), (s.isOpen = true) ∧ (s.NoInj) ∧ (arr.val < 7)) ∧
    (∃ (inst a b : Nat) (fl : Flips) (s : State), (s.isOpen = true) ∧ (s.NoInj)) ∧
    (∃ (inst a b w : Nat) (v : VLine) (s : State), (s.isOpen = true) ∧ (s.NoInj) ∧ (s.vfind b = some (w, v))) ∧
    (∃ (arr : Fin 10) (inst a b : Nat) (wrong : Fin 73) (fl : Flips) (s : State), (s.isOpen = true) ∧ (s.NoInj)
      ∧ (arr.val = 3) ∧ (2 ≤ wrong.val) ∧ (s.phase ≠ stRomRecovery)) ∧
    (∃ (arr : Fin 10) (inst a b : Nat) (wrong : Fin 73) (fl : Flips) (s : State), (s.isOpen = true) ∧ (s.NoInj)
      ∧ (arr.val = 1 ∨ arr.val = 2 ∨ arr.val = 4 ∨ arr.val = 5 ∨ arr.val = 6) ∧ (2 ≤ wrong.val)) ∧
    (∃ (inst a b : Nat) (wrong : Fin 73) (fl : Flips) (s : State), (s.isOpen = true) ∧ (s.vfind b = none)) ∧
    (∃ (inst a b w : Nat) (v : VLine) (d : Line) (wrong : Fin 73) (fl : Flips) (s : State), (s.isOpen = true) ∧
      (s.NoInj) ∧ (s.vfind b = some (w, v)) ∧ (v.poison = false) ∧ (readCheck v.data fl = .corrected d)) ∧
    (∃ (arr : Fin 10) (inst a b : Nat) (l : WLine) (wrong : Fin 73) (s : State), (s.isOpen = true) ∧ (s.NoInj) ∧
      (8 ≤ arr.val) ∧ (s.wfind a b = some l) ∧ (l.poison = false)) ∧
    (∃ (arr : Fin 10) (inst a b : Nat) (wrong : Fin 73) (fl : Flips) (s : State), (s.isOpen = true) ∧ (8 ≤
      arr.val) ∧ (s.wfind a b = none)) ∧
    (∃ (line : Fin 4294967296) (ch : Fin 2) (s : State), (s.isOpen = true) ∧ (s.stgPoisoned line = false) ∧
      (s.NoInj) ∧ (s.phase ≠ stRomRecovery)) ∧
    (∃ (line : Fin 4294967296) (ch : Fin 2) (s : State), (s.isOpen = true) ∧ (s.stgPoisoned line = false) ∧
      (s.NoInj) ∧ (s.stgE.ranges = []) ∧ (s.stgE.uses = []) ∧ (s.phase ≠ stRomRecovery)) ∧
    (∃ (line : Fin 4294967296) (ch : Fin 2) (s : State), (s.isOpen = true) ∧ (s.stgPoisoned line = false) ∧
      (s.NoInj)) ∧
    (∃ (line : Fin 4294967296) (ch : Fin 2) (corr : Bool) (uncorr : Fin 3) (s : State), (s.stgPoisoned line =
      true)) ∧
    (∃ (line : Fin 4294967296) (ch : Fin 2) (corr : Bool) (s : State), (s.isOpen = true) ∧ (s.stgPoisoned line =
      false) ∧ (s.NoInj) ∧ (s.stgE.ranges = []) ∧ (s.stgE.uses = [])) ∧
    (∃ (line : Fin 4294967296) (ch : Fin 2) (s : State), (s.isOpen = true) ∧ (s.stgPoisoned line = false) ∧
      (s.NoInj) ∧ (s.stgE.ranges = []) ∧ (s.stgE.uses = [])) ∧
    (∃ (port : Fin 4) (slot : Fin 8) (s : State), (s.portQuiet port = true) ∧ (s.bit D.INJ_CTL_enable = true) ∧
      (s.isOpen = true) ∧ (0 < s.rd D.INJ_PT_point slot) ∧ (s.rd D.INJ_PT_point slot ≤ 0x17)) ∧
    (∃ (port : Fin 4) (slot : Fin 8) (s : State), (s.portQuiet port = true) ∧ (s.bit D.INJ_CTL_enable = false)) ∧
    (∃ (port : Fin 4) (slot : Fin 8) (s : State), (s.portQuiet port = true)) ∧
    (∃ (port : Fin 4) (value : BitVec 32) (s : State), (s.portQuiet port = true)) :=
  ⟨⟨9, 1, 2, 3, 1, 5, 0, 7, 3, sStg, by decide +kernel⟩,
    ⟨9, 1, 2, 3, 1, 5, 0, 7, 3, [(1, 4)], sStg, by decide +kernel⟩,
    ⟨9, 1, 2, 3, line9, 5, 0, 0, sStg, by decide +kernel, by decide +kernel, by decide +kernel, line9_found,
      rfl, rfl, rfl⟩,
    ⟨9, 1, 2, 3, line9, 6, 5, 0, 0, 2, true, false, 1, [(1, 4)], sStg, by decide +kernel, by decide +kernel,
      by decide +kernel, line9_found, rfl, rfl, rfl, rfl⟩,
    ⟨9, 5, 0, 0, 3, 2, false, 0, 0, 0, 0, [], sStg, by decide +kernel⟩,
    ⟨9, 5, 0, 0, 3, 2, false, 0, 0, 0, 0, [], sStg, by decide +kernel⟩,
    ⟨9, 5, 0, 0, 3, true, false, 0, 0, 0, [], sStg, by decide +kernel⟩,
    ⟨9, 5, 0, 0, 3, true, false, 0, 0, 0, [], sStg, by decide +kernel⟩,
    ⟨9, 1, 2, 3, line9, 5, 0, 0, 1, sStg, by decide +kernel, by decide +kernel, by decide +kernel, line9_found,
      rfl, rfl, rfl, by decide, rfl, rfl, by decide +kernel⟩,
    ⟨9, 1, 2, 3, line9, 5, 0, 7, 255, 0, sStg, by decide +kernel, by decide +kernel, by decide +kernel,
      line9_found, rfl, rfl, rfl, by decide +kernel⟩,
    ⟨9, 1, 2, 3, line9, 5, 5, 0, 7, 255, 0, 2, true, 1, [(1, 4)], sStg, by decide +kernel, by decide +kernel,
      by decide +kernel, line9_found, rfl, rfl, rfl, by decide +kernel, by decide⟩,
    ⟨9, 1, 2, 3, line9, 5, 0, 7, 255, 0, 2, true, 1, [(1, 4)], sStg, by decide +kernel, by decide +kernel,
      by decide +kernel, line9_found, rfl, rfl, rfl, by decide +kernel⟩,
    ⟨9, 5, 0, 7, 255, 0, 3, true, 0, 0, 0, [], sStg, by decide +kernel⟩,
    ⟨9, 5, 0, 7, 255, 0, 3, 2, true, 0, 0, 0, 0, [], sStg, by decide +kernel⟩,
    ⟨⟨1, 7, 4⟩, [], { sStg with stgE := { sStg.stgE with reinit := [⟨1, 7, 4⟩] } }, by decide +kernel⟩,
    ⟨sUp, by decide +kernel⟩,
    ⟨false, true, sUp, by decide +kernel⟩,
    ⟨0, sUp, by decide +kernel⟩,
    ⟨3, 0, 0, 0, Flips.none, sUp, by decide +kernel⟩,
    ⟨2, 0, 0, 0, Flips.none, sUp, by decide +kernel⟩,
    ⟨0, 0, 0, Flips.none, sUp, by decide +kernel⟩,
    ⟨0, 0, 1, 0, ⟨1, 9, false, false, .local⟩, sPeek, by decide +kernel⟩,
    ⟨3, 0, 0, 0, 2, Flips.none, sUp, by decide +kernel⟩,
    ⟨1, 0, 0, 0, 2, Flips.none, sUp, by decide +kernel⟩,
    ⟨0, 0, 77, 1, Flips.none, sUp, by decide +kernel⟩,
    ⟨0, 0, 1, 0, ⟨1, 9, false, false, .local⟩, 9, 0, ⟨[(3, 1)], 0⟩, sPeek, by decide +kernel⟩,
    ⟨8, 0, 0, 0, ⟨.modified, 0x77, false⟩, 0, sOwn, by decide +kernel⟩,
    ⟨9, 0, 0, 0, 0, Flips.none, sUp, by decide +kernel⟩,
    ⟨9, 0, sStg, by decide +kernel⟩,
    ⟨9, 0, sStg, by decide +kernel⟩,
    ⟨9, 0, sStg, by decide +kernel⟩,
    ⟨9, 0, true, 1, { sStg with stgE := { sStg.stgE with lines := [], ranges := [⟨0, 9, 0⟩] } },
      by decide +kernel⟩,
    ⟨9, 0, true, sStg, by decide +kernel⟩,
    ⟨9, 0, sStg, by decide +kernel⟩,
    ⟨0, 3, (sUp.wr D.INJ_CTL_enable 1).wr D.INJ_PT_point 5 3, by decide +kernel⟩,
    ⟨0, 3, sUp.wr D.INJ_CTL_enable 0, by decide +kernel⟩,
    ⟨0, 3, sUp, by decide +kernel⟩,
    ⟨0, 2, sUp, by decide +kernel⟩⟩

theorem meets_RegistrarRecords :
    (∃ (e : Ev) (s : State), (s.evq = [e]) ∧ (s.rgr.running = true) ∧ (SMap.find s.rgr.wins (srcOf e.code) =
      none) ∧ (2 ≤ (evSeverity e.code).getD 0 ∨ 0 < s.rd D.REC_SRC_limit (srcOf e.code)) ∧ (s.rgr.buf.length <
      32768) ∧ ((s.rd D.REC_HEAD_seq) + 1 < 2 ^ 64)) ∧
    (∃ (e : Ev) (w : RateWin) (s : State), (s.evq = [e]) ∧ (s.rgr.running = true) ∧ (SMap.find s.rgr.wins (srcOf
      e.code) = some w) ∧ (s.now < w.opened + w.len) ∧ ((evSeverity e.code).getD 0 < 2) ∧ (s.rd D.REC_SRC_limit
      (srcOf e.code) ≤ w.seen)) ∧
    (∃ (e : Ev) (s : State), (s.evq = [e]) ∧ (s.rgr.running = false)) ∧
    (∃ (pos n : Nat) (s : State), (s.rgr.running = false)) ∧
    (∃ (pos : Nat) (e : Ev) (s : State), (s.evq[pos]? = some e) ∧ (s.rgr.running = true) ∧ (SMap.find s.rgr.wins
      (srcOf e.code) = none) ∧ (2 ≤ (evSeverity e.code).getD 0 ∨ 0 < s.rd D.REC_SRC_limit (srcOf e.code)) ∧
      (s.rgr.buf.length < 32768) ∧ ((s.rd D.REC_HEAD_seq) + 1 < 2 ^ 64)) ∧
    (∃ (pos n : Nat) (s : State), (s.rgr.running = true) ∧ (s.evq.length ≤ pos)) ∧
    (∃ (src : Fin 1280) (w : RateWin) (s : State), (SMap.find s.rgr.wins src = some w) ∧ (0 < w.supp) ∧ (s.rd
      D.REC_SRC_limit src ≠ 0) ∧ (s.rgr.buf.length < 32768) ∧ ((s.rd D.REC_HEAD_seq) + 1 < 2 ^ 64)) ∧
    (∃ (s : State), (s.annalDue = true) ∧ (s.rgr.running = true) ∧ (s.rgr.buf ≠ []) ∧ (s.rgr.writing = none)) ∧
    (∃ (s : State), (s.rgr.running = true) ∧ (s.rgr.buf ≠ []) ∧ (s.rgr.writing = none)) ∧
    (∃ (s : State), (s.rgr.running = true) ∧ (s.rgr.buf ≠ []) ∧ (s.rgr.writing = none)) ∧
    (∃ (k : Nat) (s : State), (s.rgr.running = true) ∧ (s.rgr.buf ≠ []) ∧ (s.rgr.writing = some k)) ∧
    (∃ (n k : Nat) (r : Rcd) (s : State), (s.rgr.writing = some n) ∧ (n ≠ 0) ∧ (s.rgr.buf = [(k, r)]) ∧ (k ≤ n)
      ∧ (s.rgr.dropPend = 0) ∧ (annalTail (s.rd D.REC_TAIL_seq) n ≤ k)) ∧
    (∃ (reader : Fin 5) (s : State), ((s.reader reader).busy = true)) ∧
    (∃ (port : Fin 4) (s : State), (s.rgr.irqDue &&& (BitVec.ofNat 4 (2 ^ port.val)) = 0)) ∧
    (∃ (port : Fin 4) (s : State), (s.rgr.irqDue &&& (BitVec.ofNat 4 (2 ^ port.val)) ≠ 0) ∧ (s.portMode port ≠
      0) ∧ ((SMap.get MsixVec.init (s.port port).msix 5).masked = false)) :=
  ⟨⟨⟨E.PWR_PFAIL, 0, 0, 7, 5, false⟩, { sRgr with evq := [⟨E.PWR_PFAIL, 0, 0, 7, 5, false⟩] },
      by decide +kernel⟩,
    ⟨⟨E.FAB_BCAST, 0, 0, 7, 5, false⟩, ⟨0, 1000000, 900, 0, 0, 0⟩,
      { sRgr with evq := [⟨E.FAB_BCAST, 0, 0, 7, 5, false⟩], rgr := { sRgr.rgr with wins := [(srcOf E.FAB_BCAST, ⟨0, 1000000, 900, 0, 0, 0⟩)] } },
      by decide +kernel⟩,
    ⟨⟨E.PWR_PFAIL, 0, 0, 7, 5, false⟩,
      { sRgr with evq := [⟨E.PWR_PFAIL, 0, 0, 7, 5, false⟩], rgr := { sRgr.rgr with running := false } },
      by decide +kernel⟩,
    ⟨1, 0,
      { sRgr with evq := [⟨E.PWR_PFAIL, 0, 0, 7, 5, false⟩, ⟨E.PWR_PFAIL, 0, 0, 7, 5, false⟩], rgr := { sRgr.rgr with running := false } },
      by decide +kernel⟩,
    ⟨1, ⟨E.PWR_PFAIL, 0, 0, 7, 5, false⟩,
      { sRgr with evq := [⟨E.PWR_PFAIL, 0, 0, 7, 5, false⟩, ⟨E.PWR_PFAIL, 0, 0, 7, 5, false⟩] },
      by decide +kernel⟩,
    ⟨1, 3, { sRgr with evq := [⟨E.PWR_PFAIL, 0, 0, 7, 5, false⟩] }, by decide +kernel⟩,
    ⟨90, ⟨0, 1000000, 9, 4, 1, 2⟩,
      { sRgr with rgr := { sRgr.rgr with wins := [(90, ⟨0, 1000000, 9, 4, 1, 2⟩)] } }, by decide +kernel⟩,
    ⟨{ sRgr with rgr := { sRgr.rgr with buf := [(1, ⟨1, 5, 0, 0, 2, false, false, false, 272, 7⟩)] } },
      by decide +kernel⟩,
    ⟨{ sRgr with rgr := { sRgr.rgr with buf := [(1, ⟨1, 5, 0, 0, 2, false, false, false, 272, 7⟩)] } },
      by decide +kernel⟩,
    ⟨{ sRgr with rgr := { sRgr.rgr with buf := [(1, ⟨1, 5, 0, 0, 2, false, false, false, 272, 7⟩)] } },
      by decide +kernel⟩,
    ⟨1,
      { sRgr with rgr := { sRgr.rgr with writing := some 1, buf := [(1, ⟨1, 5, 0, 0, 2, false, false, false, 272, 7⟩)] } },
      by decide +kernel⟩,
    ⟨1, 1, ⟨1, 5, 0, 0, 2, false, false, false, 272, 7⟩,
      { sRgr with rgr := { sRgr.rgr with writing := some 1, buf := [(1, ⟨1, 5, 0, 0, 2, false, false, false, 272, 7⟩)] } },
      by decide +kernel⟩,
    ⟨2, sRgr.setReader 2 { RecReader.init with busy := true }, by decide +kernel⟩,
    ⟨2, sRgr, by decide +kernel⟩,
    ⟨0,
      { sRgr.setPort 0 { sRgr.port 0 with msix := [(5, ⟨false, false⟩)] } with rgr := { sRgr.rgr with irqDue := 1 } },
      by decide +kernel⟩⟩

theorem meets_LedgerStoreReadsAndWrites :
    (∃ (page : Fin 16384) (b : Page) (s : State), (s.led.queue = []) ∧ (s.NoInj) ∧ (s.led.bad.contains page.val
      = false) ∧ (SMap.find s.led.pages page = some b) ∧ (s.led.cmd = some (.read page))) ∧
    (∃ (page : Fin 16384) (s : State), (s.led.queue = []) ∧ (s.NoInj) ∧ (s.led.cmd = none) ∧ (3 < page.val) ∧
      (s.phase ≠ stRomRecovery)) ∧
    (∃ (page : Fin 16384) (s : State), (s.led.queue = []) ∧ (s.NoInj) ∧ (s.led.bad.contains page.val = false) ∧
      (s.led.cmd = none) ∧ (s.phase ≠ stRomRecovery)) ∧
    (∃ (page : Fin 16384) (s : State), (s.led.queue = []) ∧ (s.NoInj) ∧ (s.led.cmd = none) ∧ (3 < page.val) ∧
      (s.phase ≠ stRomRecovery)) ∧
    (∃ (page : Fin 16384) (s : State), (s.led.queue = []) ∧ (s.NoInj) ∧ (s.led.bad.contains page.val = false) ∧
      (s.led.cmd = none) ∧ (s.phase ≠ stRomRecovery)) ∧
    (∃ (page : Fin 16384) (s : State), (s.led.queue = []) ∧ (s.NoInj) ∧ (ldgKeyPage page = true)) ∧
    (∃ (page : Fin 16384) (b : Page) (s : State), (s.led.queue = [⟨page.val, some b, .bytes, false, false,
      false⟩])) ∧
    (∃ (page : Fin 16384) (b : Page) (supply reserve : Bool) (s : State), (s.led.queue = [⟨page.val, some b,
      .bytes, false, false, false⟩]) ∧ (supply = false ∨ reserve = false) ∧ (s.phase ≠ stRomRecovery)) ∧
    (∃ (page : Fin 16384) (b : Page) (o : KeyOp) (s : State), (s.led.queue = [⟨page.val, some b, .key o.slot,
      false, false, false⟩]) ∧ (s.keyOps = [o])) ∧
    (∃ (page : Fin 16384) (b : Page) (s : State), (s.led.queue = [⟨page.val, some b, .bytes, true, false,
      false⟩])) ∧
    (∃ (page : Fin 16384) (b : Page) (s : State), (s.led.queue = [⟨page.val, some b, .bytes, true, false,
      false⟩]) ∧ (3 < page.val) ∧ (s.phase ≠ stRomRecovery)) ∧
    (∃ (port : Fin 4) (s : State), (s.portQuiet port = true) ∧ (s.bit D.LDG_STAT_cmdbusy = false) ∧ (ldgKeyPage
      (s.rd D.LDG_PGADDR_page) = false) ∧ (ldgReserved (s.rd D.LDG_PGADDR_page) = false)) ∧
    (∃ (port : Fin 4) (s : State), (s.portQuiet port = true) ∧ (s.bit D.LDG_STAT_cmdbusy = false) ∧ (ldgKeyPage
      (s.rd D.LDG_PGADDR_page) = true)) ∧
    (∃ (port : Fin 4) (s : State), (s.portQuiet port = true) ∧ (s.bit D.LDG_STAT_cmdbusy = false) ∧ (s.phase =
      stOpen) ∧ (ldgKeyPage (s.rd D.LDG_PGADDR_page) = false) ∧ (s.ldgProtected (s.rd D.LDG_PGADDR_page) = false)
      ∧ (ldgReserved (s.rd D.LDG_PGADDR_page) = false)) ∧
    (∃ (port : Fin 4) (s : State), (s.portQuiet port = true) ∧ (s.bit D.LDG_STAT_cmdbusy = false) ∧ (s.phase =
      stOpen) ∧ (ldgKeyPage (s.rd D.LDG_PGADDR_page) = false) ∧ (s.ldgProtected (s.rd D.LDG_PGADDR_page) = true)) ∧
    (∃ (port : Fin 4) (pair : Fin 2048) (s : State), (s.portQuiet port = true) ∧ (s.bit D.LDG_STAT_cmdbusy =
      false) ∧ (pair.val < s.rd D.LDG_TCCFG_count)) ∧
    (∃ (port : Fin 4) (pair : Fin 2048) (s : State), (s.portQuiet port = true) ∧ (s.bit D.LDG_STAT_cmdbusy =
      false) ∧ (s.rd D.LDG_TCCFG_count ≤ pair.val)) ∧
    (∃ (port : Fin 4) (pair : Fin 2048) (s : State), (s.portQuiet port = true) ∧ (s.bit D.LDG_STAT_cmdbusy =
      false) ∧ (s.phase = stOpen) ∧ (pair.val < s.rd D.LDG_TCCFG_count) ∧ (s.ldgProtected (s.rd D.LDG_TCCFG_base +
      2 * pair.val) = false)) ∧
    (∃ (s : State), (s.isOpen = true)) :=
  ⟨⟨9000, 7, { sUp with led := { sUp.led with pages := [(9000, 7)], cmd := some (.read 9000) } },
      by decide +kernel⟩,
    ⟨9000, sUp, by decide +kernel⟩,
    ⟨9000, sUp, by decide +kernel⟩,
    ⟨9000, sUp, by decide +kernel⟩,
    ⟨9000, sUp, by decide +kernel⟩,
    ⟨9, sUp, by decide +kernel⟩,
    ⟨9000, 7, { sUp with led := { sUp.led with queue := [⟨9000, some 7, .bytes, false, false, false⟩] } },
      by decide +kernel⟩,
    ⟨9000, 7, true, false,
      { sUp with led := { sUp.led with queue := [⟨9000, some 7, .bytes, false, false, false⟩] } },
      by decide +kernel⟩,
    ⟨9, 7, ⟨3, 5, 1, some ⟨.hmac, 0, 9⟩⟩,
      { sUp with keyOps := [⟨3, 5, 1, some ⟨.hmac, 0, 9⟩⟩], led := { sUp.led with queue := [⟨9, some 7, .key 1, false, false, false⟩] } },
      by decide +kernel⟩,
    ⟨9000, 7, { sUp with led := { sUp.led with queue := [⟨9000, some 7, .bytes, true, false, false⟩] } },
      by decide +kernel⟩,
    ⟨9000, 7, { sUp with led := { sUp.led with queue := [⟨9000, some 7, .bytes, true, false, false⟩] } },
      by decide +kernel⟩,
    ⟨0, sUp.wr D.LDG_PGADDR_page 9000, by decide +kernel⟩,
    ⟨0, sUp.wr D.LDG_PGADDR_page 9, by decide +kernel⟩,
    ⟨0, (sUp.wr D.LDG_PGADDR_page 9000).wr D.LDG_PROT_level 0, by decide +kernel⟩,
    ⟨0, (sUp.wr D.LDG_PGADDR_page 9000).wr D.LDG_PROT_level 2, by decide +kernel⟩,
    ⟨0, 3, sUp.wr D.LDG_TCCFG_count 4, by decide +kernel⟩,
    ⟨0, 5, sUp.wr D.LDG_TCCFG_count 4, by decide +kernel⟩,
    ⟨0, 3, (sUp.wr D.LDG_TCCFG_count 4).wr D.LDG_PROT_level 0, by decide +kernel⟩,
    ⟨sUp, by decide +kernel⟩⟩

theorem meets_TallyCounts :
    (∃ (port : Fin 4) (n : Fin 304) (cfg : Word) (s : State), (s.portQuiet port = true) ∧ (s.phase ≠
      stRomRecovery)) ∧
    (∃ (port : Fin 4) (s : State), (s.portQuiet port = true) ∧ (s.phase ≠ stRomRecovery)) ∧
    (∃ (port : Fin 4) (s : State), (s.portQuiet port = true) ∧ (s.phase ≠ stRomRecovery) ∧ (s.bit
      D.TAL_STAT_pending = false)) ∧
    (∃ (port : Fin 4) (s : State), (s.portQuiet port = true) ∧ (s.phase ≠ stRomRecovery) ∧ (s.bit
      D.TAL_STAT_pending = true)) ∧
    (∃ (s : State), (s.rd D.TAL_SNAPCFG_period ≠ 0) ∧ (s.bit D.TAL_STAT_pending = false)) ∧
    (∃ (s : State), (s.tal.snap.isSome = true) ∧ (s.tal.latched = none)) ∧
    (∃ (src t0 : Nat) (vs : List Nat) (s : State), (s.tal.snap = some (src, t0)) ∧ (s.tal.latched = some vs) ∧
      (vs.length = 304) ∧ (s.tal.next = none) ∧ (s.phase ≠ stRomRecovery)) ∧
    (∃ (n : Fin 304) (v : Nat) (s : State), (s.isFlushing = false) ∧ (s.tcnt.carry = []) ∧ (s.rd D.TAL_CFG_mode
      n = 1) ∧ (2 ^ 48 ≤ SMap.get 0 s.tcnt.count n + v) ∧ (s.phase ≠ stRomRecovery)) ∧
    (∃ (n : Fin 304) (v : Nat) (s : State), (n.val ∈ s.tcnt.carry) ∧ (s.phase ≠ stRomRecovery)) ∧
    (∃ (page : Fin 16384) (ok : Bool) (w : PgWrite) (k : Nat) (s : State), (k < 8) ∧ (s.isFlushing = false) ∧
      (s.led.queue.find? (fun x => decide (x.page = page.val) && x.started) = some w) ∧ (w.owner = .bytes) ∧ (s.rd
      D.TAL_CFG_event (288 + k) = 3) ∧ (s.rd D.TAL_CFG_mode (288 + k) = 1) ∧ (ok = true)) :=
  ⟨⟨0, 3, 0, { sUp with tcnt := ⟨[(3, 9)], 8, []⟩ }, by decide +kernel⟩,
    ⟨0, { sUp with tcnt := ⟨[(3, 9)], 8, []⟩ }, by decide +kernel⟩,
    ⟨0, sUp, by decide +kernel⟩,
    ⟨0, sUp.wr D.TAL_STAT_pending 1, by decide +kernel⟩,
    ⟨sUp.wr D.TAL_SNAPCFG_period 5, by decide +kernel⟩,
    ⟨{ sUp with tal := { sUp.tal with snap := some (0, 7) } }, by decide +kernel⟩,
    ⟨0, 7, List.replicate 304 5,
      { sUp with tal := { sUp.tal with snap := some (0, 7), latched := some (List.replicate 304 5) } },
      by decide +kernel⟩,
    ⟨3, 1, { sUp.wr D.TAL_CFG_mode 1 3 with tcnt := ⟨[(3, 0xFFFFFFFFFFFF)], 0, []⟩ }, by decide +kernel⟩,
    ⟨3, 1, { sUp with tcnt := ⟨[(3, 5)], 8, [3]⟩ }, by decide +kernel⟩,
    ⟨5, true, ⟨5, none, .bytes, true, false, false⟩, 2,
      { (sUp.wr D.TAL_CFG_event 3 290).wr D.TAL_CFG_mode 1 290 with led := { sUp.led with queue := [⟨5, none, .bytes, true, false, false⟩] } },
      by decide +kernel⟩⟩

theorem meets_CompletionQueueNotNamed :
    (∃ (c : Fin 256) (s : State), (s.cqGood (s.ctx c).cq = false) ∧ (s.Served c) ∧ (s.refusing c = false) ∧
      ((s.ctx c).links = []) ∧ ((s.ctx c).jobs = []) ∧ (s.phase ≠ stRomRecovery)) ∧
    (∃ (c : Fin 256) (s : State), (s.cqGood (s.ctx c).cq = false) ∧ ((s.ctx c).donePend = true) ∧ (s.phase ≠
      stRomRecovery)) ∧
    (∃ (c : Fin 256) (f : FaultRec) (s : State), (s.cqGood (s.ctx c).cq = false) ∧ ((s.ctx c).st = .stopped) ∧
      ((s.ctx c).donePend = false) ∧ ((s.ctx c).jobs = []) ∧ ((s.ctx c).sb = []) ∧ ((s.ctx c).fault = some f) ∧
      (f.priv ≠ .warden) ∧ (s.phase ≠ stRomRecovery)) :=
  ⟨⟨3, sRun, by decide +kernel⟩,
    ⟨3, sRun.setCtx 3 { sRun.ctx 3 with donePend := true }, by decide +kernel⟩,
    ⟨3, ⟨1, 0, 0, 0, .guest⟩, sRun.setCtx 3
      { sRun.ctx 3 with st := .stopped, fault := some ⟨1, 0, 0, 0, .guest⟩ }, by decide +kernel⟩⟩

theorem meets_PowerSequencerRuns :
    (∃ (hp : Fin 4) (rec eb : Bool) (s : State), (s.aon.vaux = false)) ∧
    (∃ (s : State), (s.aon.vaux = true)) ∧
    (∃ (bytes : BitVec 1280) (s : State), (s.aon.vaux = true) ∧ (s.boot.step = 1)) ∧
    (∃ (bytes : BitVec 1280) (s : State), (s.aon.vaux = true) ∧ (s.boot.step = 1) ∧ (sledOk bytes.toNat = true)) ∧
    (∃ (s : State), (s.seq = seqGate) ∧ (s.boot.step = 2) ∧ (s.aon.retryWait = false) ∧ (s.bit D.PWR_PFSTAT_inok
      = true) ∧ (rails.all s.railLow = true)) ∧
    (∃ (rail : Fin 12) (s : State), (s.seq = seqGate) ∧ (s.railLow rail = false) ∧ (s.aon.gateLogged.getLsbD
      rail = false) ∧ (s.aon.held.length < 32)) ∧
    (∃ (rail : Fin 12) (s : State), (s.seq = seqUp) ∧ (s.rd D.PWR_RAILST_en rail ≠ 1) ∧ ((s.prevStep
      D.PWR_RAIL_ondly rail).all (fun q => decide (s.rd D.PWR_RAILST_state q = 2)) = true)) ∧
    (∃ (rail : Fin 12) (s : State), (s.aon.vaux = true) ∧ (s.aon.pg.getLsbD rail = false) ∧ (s.rd
      D.PWR_RAILST_state rail = 1)) ∧
    (∃ (rail : Fin 12) (s : State), (s.aon.vaux = true) ∧ (s.aon.pg.getLsbD rail = true) ∧ (s.rd
      D.PWR_RAILST_state rail = 1) ∧ (SMap.get 0 s.aon.bounce rail + 1 < s.rd D.PWR_SEQCFG_chatmax)) ∧
    (∃ (rail : Fin 12) (s : State), (s.seq = seqUp) ∧ (s.boot.step = 2) ∧ (s.rd D.PWR_RAILST_state rail = 1) ∧
      (s.aon.pg.getLsbD rail = true) ∧ (∀ q ∈ rails, q ≠ rail.val → s.rd D.PWR_RAILST_state q = 2)) ∧
    (∃ (rail : Fin 12) (s : State), (s.seq = seqUp) ∧ (s.rd D.PWR_RAILST_state rail = 1) ∧ (s.rd
      D.PWR_SEQSTAT_en ≠ 0)) ∧
    (∃ (s : State), (s.seq = seqGate)) ∧
    (∃ (rail : Fin 12) (s : State), (s.seq = seqDown) ∧ (s.rd D.PWR_RAILST_state rail = 2) ∧ (s.aon.pg.getLsbD
      rail = false)) ∧
    (∃ (rail : Fin 12) (s : State), (s.seq = seqOn) ∧ (s.rd D.PWR_RAILST_state rail = 2) ∧ (s.aon.pg.getLsbD
      rail = false) ∧ (4 ≤ rail.val) ∧ (rail.val ≤ 9)) ∧
    (∃ (rail : Fin 12) (s : State), (s.seq = seqOn) ∧ (s.rd D.PWR_RAILST_state rail = 2) ∧ (s.aon.pg.getLsbD
      rail = false) ∧ (rail.val < 2 ∨ 9 < rail.val)) ∧
    (∃ (rail : Fin 12) (s : State), (s.seq = seqDown) ∧ (s.rd D.PWR_RAILST_en rail = 1) ∧ ((s.prevStep
      D.PWR_RAIL_offdly rail).all s.railLow = true) ∧ ((s.rd D.PWR_SEQSTAT_en).testBit rail = true) ∧ (s.rd
      D.PWR_SEQSTAT_en < 4096) ∧ (s.rd D.PWR_SEQSTAT_en ≠ 2 ^ rail.val)) ∧
    (∃ (rail : Fin 12) (s : State), (s.seq = seqDown) ∧ (s.rd D.PWR_RAILST_en rail = 1) ∧ ((s.prevStep
      D.PWR_RAIL_offdly rail).all s.railLow = true) ∧ (s.rd D.PWR_SEQSTAT_en = 2 ^ rail.val) ∧ (s.aon.retryWait =
      false)) ∧
    (∃ (rail : Fin 12) (s : State), (s.seq = seqDown) ∧ (s.rd D.PWR_RAILST_en rail ≠ 0) ∧ ((s.prevStep
      D.PWR_RAIL_offdly rail).all s.railLow = false) ∧ ((s.rd D.PWR_SEQSTAT_en).testBit rail = true) ∧ (s.rd
      D.PWR_SEQSTAT_en < 4096) ∧ (s.rd D.PWR_SEQSTAT_en ≠ 2 ^ rail.val)) ∧
    (∃ (k : Fin 4) (s : State), (s.rd D.PWR_RST_asserted k = 1) ∧ (s.seq = seqOn) ∧ (s.phase ≠ stResetting) ∧
      (s.phase ≠ stRomRecovery) ∧ (3 ≤ s.boot.step) ∧ (s.gov.flush = none) ∧ (rails.all (fun r => !(s.rd
      D.PWR_RST_mask k).testBit r || decide (s.rd D.PWR_RAILST_state r = 2)) = true)) :=
  ⟨⟨1, true, false, { sUp with aon := { sUp.aon with vaux := false } }, by decide +kernel⟩,
    ⟨sUp, by decide +kernel⟩,
    ⟨0, ({ sUp with boot := { sUp.boot with step := 1 } } : State), by decide +kernel⟩,
    ⟨sledRec, ({ sUp with boot := { sUp.boot with step := 1 } } : State), by decide +kernel⟩,
    
      ⟨{ ((({ sUp with boot := { sUp.boot with step := 2 } } : State).wr D.PWR_SEQSTAT_state 1).wr D.PWR_PFSTAT_inok 1) with aon := { sUp.aon with fallen := 0xFFF } },
      by decide +kernel⟩,
    ⟨3, ((({ sUp with boot := { sUp.boot with step := 2 } } : State).wr D.PWR_SEQSTAT_state 1).wr
      D.PWR_PFSTAT_inok 1).wr D.PWR_RAILST_mv 4000 3, by decide +kernel⟩,
    ⟨3, ((sUp.wr D.PWR_SEQSTAT_state 2).wr D.PWR_RAILST_en 0 3), by decide +kernel⟩,
    ⟨3, ((({ sUp with aon := { sUp.aon with pg := 0 } } : State).wr D.PWR_SEQSTAT_state 2).wr D.PWR_RAILST_state
      1 3), by decide +kernel⟩,
    ⟨3, (((sUp.wr D.PWR_SEQSTAT_state 2).wr D.PWR_RAILST_state 1 3).wr D.PWR_SEQCFG_chatmax 8),
      by decide +kernel⟩,
    ⟨3, ((({ sUp with boot := { sUp.boot with step := 2 } } : State).wr D.PWR_SEQSTAT_state 2).wr
      D.PWR_RAILST_state 1 3), by decide +kernel⟩,
    ⟨3, ((sUp.wr D.PWR_SEQSTAT_state 2).wr D.PWR_RAILST_state 1 3), by decide +kernel⟩,
    
      ⟨{ ((({ sUp with boot := { sUp.boot with step := 2 } } : State).wr D.PWR_SEQSTAT_state 1).wr D.PWR_PFSTAT_inok 1) with aon := { sUp.aon with retryWait := true } },
      by decide +kernel⟩,
    ⟨3, (({ sUp with aon := { sUp.aon with pg := 0 } } : State).wr D.PWR_SEQSTAT_state 4), by decide +kernel⟩,
    ⟨5, { sUp with aon := { sUp.aon with pg := 0 } }, by decide +kernel⟩,
    ⟨0, { sUp with aon := { sUp.aon with pg := 0 } }, by decide +kernel⟩,
    ⟨3, { (sUp.wr D.PWR_SEQSTAT_state 4) with aon := { sUp.aon with fallen := 0xFFF } }, by decide +kernel⟩,
    ⟨3, { ((sUp.wr D.PWR_SEQSTAT_state 4).wr D.PWR_SEQSTAT_en 8) with aon := { sUp.aon with fallen := 0xFFF } },
      by decide +kernel⟩,
    ⟨0, ((sUp.wr D.PWR_SEQSTAT_state 4).wr D.PWR_RAILST_mv 4000 1), by decide +kernel⟩,
    ⟨2, sUp.wr D.PWR_RST_asserted 1 2, by decide +kernel⟩⟩

theorem meets_SupervisorWatches :
    (∃ (code : Fin 4096) (s : State), (s.aon.vaux = true) ∧ (s.rd D.PWR_PFCFG_vinth ≤ code * s.rd
      D.PWR_SENSCFG_vinscale / 4095) ∧ (code * s.rd D.PWR_SENSCFG_vinscale / 4095 ≤ s.rd D.PWR_PFCFG_vinhi) ∧
      (s.rd D.PWR_PFCFG_vinok ≤ code * s.rd D.PWR_SENSCFG_vinscale / 4095) ∧ (0 < s.rd D.PWR_PFCFG_deb)) ∧
    (∃ (f : Flush) (code : Fin 4096) (s : State), (s.aon.vaux = true) ∧ (code * s.rd D.PWR_SENSCFG_vinscale /
      4095 < s.rd D.PWR_PFCFG_vinth) ∧ (s.rd D.PWR_PFCFG_deb ≤ s.aon.vinLow + 1) ∧ (s.bit D.PWR_PFSTAT_pfail =
      false) ∧ (s.seq = seqOn) ∧ (s.phase = stFlushing) ∧ (s.gov.flush = some f) ∧ (f.cause = 2)) ∧
    (∃ (code : Fin 4096) (s : State), (s.aon.vaux = true) ∧ (code * s.rd D.PWR_SENSCFG_vinscale / 4095 < s.rd
      D.PWR_PFCFG_vinth) ∧ (s.rd D.PWR_PFCFG_deb ≤ s.aon.vinLow + 1) ∧ (s.bit D.PWR_PFSTAT_pfail = false) ∧ (s.seq
      = seqOn) ∧ (s.isOpen = true)) ∧
    (∃ (code : Fin 4096) (s : State), (s.aon.vaux = true)) ∧
    (∃ (input : Fin 14) (code : Fin 4096) (s : State), (s.aon.vaux = true) ∧ (2 ≤ input.val) ∧ (s.NoInj)) ∧
    (∃ (s : State), (s.aon.vaux = true) ∧ (s.aon.vinGood = true) ∧ (s.bit D.PWR_PFSTAT_lockout = false) ∧ (s.seq
      ≠ seqFault)) ∧
    (∃ (s : State), (s.aon.vaux = true) ∧ (s.aon.ebClosed = true)) ∧
    (∃ (s : State), (s.aon.vaux = true)) ∧
    (∃ (s : State), (s.aon.vaux = true) ∧ (s.aon.ebClosed = true)) ∧
    (∃ (s : State), (s.aon.vaux = true) ∧ (s.aon.ebOpened = true) ∧ (s.aon.ebClosed = false) ∧ (s.isOpen =
      true)) ∧
    (∃ (k : Fin 16) (temp : BitVec 8) (s : State), (s.aon.vaux = true) ∧ (s.NoInj) ∧ (temp.toInt < 112) ∧ (∀ q,
      q < 16 → s.sensReading q < 112)) ∧
    (∃ (k : Fin 16) (temp : BitVec 8) (s : State), (s.aon.vaux = true) ∧ (s.NoInj) ∧ (112 ≤ temp.toInt) ∧ (s.bit
      D.PWR_PFSTAT_pfail = true) ∧ ((s.rd D.THM_SUSPECT_suspect).testBit k = false) ∧ (SMap.get 0 s.aon.out k <
      2)) ∧
    (∃ (s : State), (s.phase ≠ stFlushing) ∧ (1 < s.rd D.THM_STAT_level) ∧ (s.rd D.THM_STAT_level < 8) ∧
      (s.aon.coolAt.isSome = true)) ∧
    (∃ (s : State), (s.phase ≠ stFlushing) ∧ (s.rd D.THM_STAT_level = 1) ∧ (s.aon.coolAt.isSome = true) ∧
      (s.registrarDown = false) ∧ (s.phase ≠ stRomRecovery)) ∧
    (∃ (s : State), (s.bit D.PWR_PFSTAT_lockout = true) ∧ (sgn8 (s.rd D.THM_STAT_hot) ≤ sgn8 (s.rd
      D.THM_CTL_tlimit) - 20)) :=
  ⟨⟨3400, sUp, by decide +kernel⟩,
    ⟨{ flushOf with cause := 2 }, 0,
      ({ (sUp.wr D.GBL_STAT_state 2) with gov := { sUp.gov with flush := some { flushOf with cause := 2 } } } :
      State) |> fun x => { x with aon := { x.aon with vinLow := 14 } }, by decide +kernel⟩,
    ⟨0, { sUp with aon := { sUp.aon with vinLow := 14 } }, by decide +kernel⟩,
    ⟨3400, sUp, by decide +kernel⟩,
    ⟨5, 3400, sUp, by decide +kernel⟩,
    ⟨{ (sUp.wr D.PWR_PFSTAT_inok 0) with aon := { sUp.aon with vinGood := true } }, by decide +kernel⟩,
    ⟨sUp, by decide +kernel⟩,
    ⟨sUp, by decide +kernel⟩,
    ⟨sUp, by decide +kernel⟩,
    ⟨{ sUp with aon := { sUp.aon with ebOpened := true, ebClosed := false } }, by decide +kernel⟩,
    ⟨5, 40, sUp, by decide +kernel⟩,
    ⟨5, 120, sUp.wr D.PWR_PFSTAT_pfail 1, by decide +kernel⟩,
    ⟨{ (sUp.wr D.THM_STAT_level 3) with aon := { sUp.aon with coolAt := some 0 } }, by decide +kernel⟩,
    ⟨{ (sUp.wr D.THM_STAT_level 1) with aon := { sUp.aon with coolAt := some 0 } }, by decide +kernel⟩,
    ⟨sUp.wr D.PWR_PFSTAT_lockout 1, by decide +kernel⟩⟩

theorem meets_GovernorMeasures :
    (∃ (s : State), (s.gov.stored = none) ∧ (s.rd D.PWR_PGSTAT_mode ≠ 5)) ∧
    (∃ (s : State), (s.gov.stored.isSome = true) ∧ (s.aon.euFloor = false)) ∧
    (∃ (s : State), (s.rd D.PWR_PGSTAT_mode = 4) ∧ (s.gov.stored.isSome = true) ∧ (s.gov.goodSince.isSome =
      true) ∧ (s.phase ≠ stRomRecovery)) ∧
    (∃ (port : Fin 4) (h : BitVec 8) (s : State), (s.gov.meas = none) ∧ (s.gov.tries = 0) ∧ (s.governs = true) ∧
      (s.portQuiet port = true)) ∧
    (∃ (port : Fin 4) (h : BitVec 8) (s : State), (s.gov.meas.isSome = true) ∧ (s.portQuiet port = true)) ∧
    (∃ (s : State), (s.gov.meas = none) ∧ (s.gov.tries = 0) ∧ (s.governs = true)) ∧
    (∃ (s : State), (s.gov.meas = none) ∧ (s.gov.tries = 0) ∧ (s.gov.measured = false) ∧ (s.governs = true)) ∧
    (∃ (s : State), (s.gov.meas = none) ∧ (s.gov.tries = 0) ∧ (s.gov.measured = false) ∧ (s.governs = true)) ∧
    (∃ (s : State), (s.gov.meas = none) ∧ (s.gov.tries = 0) ∧ (s.gov.measured = true) ∧ (s.gov.stored = none) ∧
      (s.governs = true)) ∧
    (∃ (m : Meas) (s : State), (s.gov.meas = some m) ∧ (m.step = 1)) ∧
    (∃ (m : Meas) (s : State), (s.gov.meas = some m) ∧ (m.step = 2)) ∧
    (∃ (m : Meas) (s : State), (s.gov.meas = some m) ∧ (m.step = 3)) ∧
    (∃ (m : Meas) (s : State), (s.gov.meas = some m) ∧ (m.step = 4) ∧ (s.bankSample < m.v1)) ∧
    (∃ (m : Meas) (s : State), (s.gov.meas = some m) ∧ (m.step = 5) ∧ (s.plausible m = true) ∧ (s.phase ≠
      stFlushing) ∧ (s.phase ≠ stResetting) ∧ (s.phase ≠ stRomRecovery) ∧ (m.esr ≤ s.rd D.PWR_PGSLED_esrmax) ∧
      (m.c < D.PWR_PGCAP_c.cap) ∧ (m.esr < D.PWR_PGCAP_esr.cap)) ∧
    (∃ (m : Meas) (s : State), (s.gov.meas = some m) ∧ (m.step = 5) ∧ (s.plausible m = false) ∧ (s.gov.tries <
      2) ∧ (s.gov.stored.isSome = true ∨ s.gov.measured = false)) ∧
    (∃ (m : Meas) (c e : Nat) (s : State), (s.gov.meas = some m) ∧ (m.step = 5) ∧ (s.plausible m = false) ∧ (2 ≤
      s.gov.tries) ∧ (s.gov.stored = some (c, e)) ∧ (s.phase ≠ stRomRecovery)) ∧
    (∃ (s : State), (s.gov.meas = none) ∧ (0 < s.gov.tries) ∧ (s.governs = true)) ∧
    (∃ (port : Fin 4) (s : State), (s.portQuiet port = true) ∧ (s.phase ≠ stRomRecovery)) :=
  ⟨⟨sUp, by decide +kernel⟩,
    ⟨({ sUp with gov := { sUp.gov with stored := some (1000000, 5) } } : State), by decide +kernel⟩,
    ⟨({ sUp with gov := { sUp.gov with stored := some (1000000, 5), goodSince := some 0 } } : State).wr
      D.PWR_PGSTAT_mode 4, by decide +kernel⟩,
    ⟨0, 24, sUp, by decide +kernel⟩,
    ⟨0, 24, { sUp with gov := { sUp.gov with meas := some ⟨1, 0, 0, 0, 0, 0⟩ } }, by decide +kernel⟩,
    ⟨sUp, by decide +kernel⟩,
    ⟨sUp.wr D.GBL_STAT_state 0, by decide +kernel⟩,
    ⟨sUp.wr D.GBL_STAT_state 0, by decide +kernel⟩,
    ⟨{ sUp with gov := { sUp.gov with measured := true } }, by decide +kernel⟩,
    ⟨⟨1, 0, 0, 0, 0, 0⟩, { sUp with gov := { sUp.gov with meas := some ⟨1, 0, 0, 0, 0, 0⟩ } },
      by decide +kernel⟩,
    ⟨⟨2, 0, 0, 0, 0, 0⟩, { sUp with gov := { sUp.gov with meas := some ⟨2, 0, 0, 0, 0, 0⟩ } },
      by decide +kernel⟩,
    ⟨⟨3, 0, 0, 0, 0, 0⟩, { sUp with gov := { sUp.gov with meas := some ⟨3, 0, 0, 0, 0, 0⟩ } },
      by decide +kernel⟩,
    ⟨⟨4, 0, 50000, 0, 0, 0⟩, { sUp with gov := { sUp.gov with meas := some ⟨4, 0, 50000, 0, 0, 0⟩ } },
      by decide +kernel⟩,
    ⟨⟨5, 50000, 49000, 45000, 5, 1000000⟩,
      { sUp with gov := { sUp.gov with meas := some ⟨5, 50000, 49000, 45000, 5, 1000000⟩ } }, by decide +kernel⟩,
    ⟨⟨5, 0, 0, 0, 0, 0⟩, { sUp with gov := { sUp.gov with meas := some ⟨5, 0, 0, 0, 0, 0⟩ } },
      by decide +kernel⟩,
    ⟨⟨5, 0, 0, 0, 0, 0⟩, 1000, 5,
      { sUp with gov := { sUp.gov with meas := some ⟨5, 0, 0, 0, 0, 0⟩, tries := 2, stored := some (1000, 5) } },
      by decide +kernel⟩,
    ⟨{ sUp with gov := { sUp.gov with tries := 1 } }, by decide +kernel⟩,
    ⟨0, { sUp with gov := { sUp.gov with breach := [⟨0, 3, 5, 1, 2⟩] } }, by decide +kernel⟩⟩

theorem meets_StartStepsRun :
    (∃ (low okA okB : Bool) (lib : List Bytes) (s : State), (s.phase = stStarting) ∧ (s.boot.step = 3) ∧ (s.seq
      = seqOn) ∧ (s.boot.resample = false) ∧ (s.aon.recovery = true) ∧ (s.boot.resetDue = false)) ∧
    (∃ (low okB : Bool) (s : State), (s.phase = stStarting) ∧ (s.boot.step = 3) ∧ (s.seq = seqOn) ∧
      (s.boot.resample = false) ∧ (s.aon.recovery = false) ∧ (s.boot.resetDue = false) ∧ (s.boot.saved = []) ∧
      (s.led.pages = []) ∧ (s.led.bad = []) ∧ (s.fw.shipped = 3) ∧ (s.rd D.FWU_STAT_trial = 0) ∧ (s.rd
      D.FWU_STAT_active = 0)) ∧
    (∃ (s : State), (s.phase = stStarting) ∧ (s.boot.step = 4) ∧ (s.boot.engineOff = 0)) ∧
    (∃ (inst : Fin 256) (sub : BitVec 16) (rep : Bool) (s : State), (s.phase = stStarting) ∧ (s.boot.step = 4)) ∧
    (∃ (w : Fin 8) (sub : BitVec 16) (s : State), (s.phase = stStarting) ∧ (s.boot.step = 4) ∧ (s.rd
      D.INJ_BIST_fail = 0)) ∧
    (∃ (fails : List (Fin 11 × Fin 256 × BitVec 16 × Bool)) (s : State), (s.phase = stStarting) ∧ (s.boot.step =
      4) ∧ (fails.any (fun f => bistStops f.1 f.2.1 f.2.2.2) = false)) ∧
    (∃ (fails : List (Fin 11 × Fin 256 × BitVec 16 × Bool)) (s : State), (s.phase = stStarting) ∧ (s.boot.step =
      4) ∧ (fails.any (fun f => bistStops f.1 f.2.1 f.2.2.2) = true)) ∧
    (∃ (a b : Fin 3) (absent : BitVec 256) (s : State), (s.phase = stStarting) ∧ (s.boot.step = 5) ∧ (2 ^ 32 ≤
      dirtyWindow (16 * 2 ^ a.val + 16 * 2 ^ b.val)) ∧ (s.boot.ddrOff = 0) ∧ (s.boot.kat = false)) ∧
    (∃ (a b : Fin 3) (absent : BitVec 256) (s : State), (s.phase = stStarting) ∧ (s.boot.step = 5) ∧ (2 ^ 32 ≤
      dirtyWindow (16 * 2 ^ a.val + 16 * 2 ^ b.val)) ∧ (s.boot.ddrOff = 0)) ∧
    (∃ (a : Fin 3) (absent : BitVec 256) (s : State), (s.phase = stStarting) ∧ (s.boot.step = 5) ∧ (2 ^ 32 ≤
      dirtyWindow (16 * 2 ^ a.val)) ∧ (s.boot.ddrOff = 0) ∧ (s.boot.kat = false)) ∧
    (∃ (a : Fin 3) (absent : BitVec 256) (s : State), (s.phase = stStarting) ∧ (s.boot.step = 5) ∧ (2 ^ 32 ≤
      dirtyWindow (16 * 2 ^ a.val)) ∧ (s.boot.ddrOff = 0) ∧ (s.boot.kat = false)) ∧
    (∃ (a b : Fin 3) (absent : BitVec 256) (s : State), (s.phase = stStarting) ∧ (s.boot.step = 5) ∧ (2 ^ 32 ≤
      dirtyWindow (16 * 2 ^ a.val + 16 * 2 ^ b.val)) ∧ (s.boot.ddrOff = 0) ∧ (s.boot.kat = true)) ∧
    (∃ (absent : BitVec 256) (s : State), (s.phase = stStarting) ∧ (s.boot.step = 5)) ∧
    (∃ (readable : Bool) (s : State), (s.phase = stStarting) ∧ (s.boot.step = 7) ∧ (s.boot.first = true)) ∧
    (∃ (k : Nat) (c : CkptCopy) (s : State), (s.phase = stStarting) ∧ (s.boot.step = 7) ∧ (s.boot.first = false)
      ∧ (s.newestCopy = some (k, c)) ∧ (s.med.jrnl = [])) ∧
    (∃ (s : State), (s.phase = stStarting) ∧ (s.boot.step = 7) ∧ (s.boot.first = false)) ∧
    (∃ (s : State), (s.phase = stStarting) ∧ (s.boot.step = 8) ∧ (s.boot.first = false)) ∧
    (∃ (readable : Bool) (s : State), (s.phase = stStarting) ∧ (s.boot.step = 8) ∧ (s.boot.first = true) ∧
      (s.boot.saved = []) ∧ (s.boot.unflushed = false) ∧ (s.gov.rec0.valid = false) ∧ (s.cur.accs = []) ∧ (∀ d, d
      < 256 → (s.die d).present = true) ∧ (s.boot.chanOff = 0) ∧ (s.med.jpend = []) ∧ (s.med.cpend = [])) ∧
    (∃ (s : State), (s.phase = stStarting) ∧ (s.boot.first = true) ∧ (8 ≤ s.boot.step) ∧ (s.boot.admitted =
      false)) ∧
    (∃ (drift : List (Fin 256 × List (BitVec 16))) (s : State), (s.phase = stStarting) ∧ (s.boot.first = true) ∧
      (8 ≤ s.boot.step) ∧ (s.boot.admitted = false)) ∧
    (∃ (s : State), (s.phase = stStarting) ∧ (s.boot.step = 9) ∧ (s.boot.first = false) ∧ (s.boot.unflushed =
      false) ∧ (s.gov.rec0.valid = false) ∧ (s.med.jpend = []) ∧ (s.med.cpend = []) ∧ (s.cur.seals = []) ∧ (s.rops
      = [])) ∧
    (∃ (s : State), (s.phase = stStarting) ∧ (s.boot.step = 9) ∧ (s.cur.seals ≠ [])) ∧
    (∃ (o : RgnOp) (s : State), (s.phase = stStarting) ∧ (s.boot.step = 9) ∧ (s.boot.first = false) ∧
      (s.boot.unflushed = false) ∧ (s.gov.rec0.valid = false) ∧ (s.med.jpend = []) ∧ (s.med.cpend = []) ∧
      (s.cur.seals = []) ∧ (s.rops = [o]) ∧ (o.kind = .delete) ∧ (o.freed = false) ∧ (o.unmapped = true)) ∧
    (∃ (u : Nat × Nat) (s : State), (s.phase = stStarting) ∧ (s.boot.step = 9) ∧ (s.boot.first = false) ∧
      (s.boot.unflushed = false) ∧ (s.gov.rec0.valid = true) ∧ (s.gov.rec0.updates = [u]) ∧ (s.med.jpend = []) ∧
      (s.med.cpend = []) ∧ (s.cur.seals = []) ∧ (s.rops = [])) ∧
    (∃ (s : State), (s.phase = stStarting) ∧ (s.boot.step = 10) ∧ (s.boot.saved = []) ∧ (s.aon.held = []) ∧
      (s.rd D.PWR_AONSTAT_dropped = 0) ∧ (s.rgr.held = []) ∧ (s.led.pages = []) ∧ (s.boot.unflushed = false) ∧
      (s.gov.rec0.valid = false)) ∧
    (∃ (s : State), (s.phase = stStarting) ∧ (s.boot.step = 10) ∧ (s.boot.saved = []) ∧ (s.aon.held = []) ∧
      (s.rd D.PWR_AONSTAT_dropped = 0) ∧ (s.rgr.held = []) ∧ (s.led.pages = []) ∧ (s.boot.unflushed = true) ∧
      (s.gov.breach = [])) ∧
    (∃ (s : State), (s.phase = stStarting) ∧ (s.boot.step = 11) ∧ (s.rd D.FAB_STAT_join = 0) ∧ (∀ p, p < 16 →
      s.fpState p ≠ fpDisabled ∧ s.fpState p ≠ fpDown)) ∧
    (∃ (s : State), (s.phase = stStarting) ∧ (s.boot.step = 11) ∧ (s.gov.measured = true) ∧ (s.boot.eleven =
      true) ∧ (s.boot.first = false) ∧ (s.boot.unflushed = false) ∧ (s.coh.fwd = []) ∧ (s.rd D.FWU_STAT_trial = 0)
      ∧ (s.cur.interrupted = [])) ∧
    (∃ (q p tag lost priv : Nat) (s : State), (s.phase = stStarting) ∧ (s.boot.step = 11) ∧ (s.gov.measured =
      true) ∧ (s.boot.eleven = true) ∧ (s.boot.first = false) ∧ (s.boot.unflushed = false) ∧ (s.coh.fwd = []) ∧
      (s.rd D.FWU_STAT_trial = 0) ∧ (s.cur.interrupted = [(q, p, tag, lost, priv)]) ∧ (q < 4096) ∧ (s.cqGood q =
      true) ∧ (s.qFull q = false)) ∧
    (∃ (s : State), (s.phase = stStarting) ∧ (s.boot.step = 11) ∧ (s.gov.measured = false)) :=
  ⟨⟨false, true, true, [],
      { (sUp.wr D.GBL_STAT_state 0) with boot := { sUp.boot with step := 3 }, aon := { sUp.aon with recovery := true } },
      by decide +kernel⟩,
    ⟨false, true, { (sUp.wr D.GBL_STAT_state 0) with boot := { sUp.boot with step := 3 } }, by decide +kernel⟩,
    ⟨{ (sUp.wr D.GBL_STAT_state 0) with boot := { sUp.boot with step := 4 } }, by decide +kernel⟩,
    ⟨0, 0, false, { (sUp.wr D.GBL_STAT_state 0) with boot := { sUp.boot with step := 4 } }, by decide +kernel⟩,
    ⟨2, 7, { (sUp.wr D.GBL_STAT_state 0) with boot := { sUp.boot with step := 4 } }, by decide +kernel⟩,
    ⟨[(3, 2, 7, false), (0, 4, 0, false)],
      { (sUp.wr D.GBL_STAT_state 0) with boot := { sUp.boot with step := 4 } }, by decide +kernel⟩,
    ⟨[(3, 2, 7, false), (2, 0, 0, false)],
      { (sUp.wr D.GBL_STAT_state 0) with boot := { sUp.boot with step := 4 } }, by decide +kernel⟩,
    ⟨2, 2, 0, { (sUp.wr D.GBL_STAT_state 0) with boot := { sUp.boot with step := 5 } }, by decide +kernel⟩,
    ⟨2, 2, 0, { (sUp.wr D.GBL_STAT_state 0) with boot := { sUp.boot with step := 5 } }, by decide +kernel⟩,
    ⟨2, 0, { (sUp.wr D.GBL_STAT_state 0) with boot := { sUp.boot with step := 5 } }, by decide +kernel⟩,
    ⟨2, 0, { (sUp.wr D.GBL_STAT_state 0) with boot := { sUp.boot with step := 5 } }, by decide +kernel⟩,
    ⟨2, 2, 0, { (sUp.wr D.GBL_STAT_state 0) with boot := { sUp.boot with step := 5, kat := true } },
      by decide +kernel⟩,
    ⟨0, { (sUp.wr D.GBL_STAT_state 0) with boot := { sUp.boot with step := 5 } }, by decide +kernel⟩,
    ⟨true, { (sUp.wr D.GBL_STAT_state 0) with boot := { sUp.boot with step := 7, first := true } },
      by decide +kernel⟩,
    ⟨1, ⟨4, true, []⟩,
      { (sUp.wr D.GBL_STAT_state 0) with boot := { sUp.boot with step := 7 }, med := { sUp.med with copies := [(1, ⟨4, true, []⟩)], jrnl := [] } },
      by decide +kernel⟩,
    ⟨{ (sUp.wr D.GBL_STAT_state 0) with boot := { sUp.boot with step := 7 } }, by decide +kernel⟩,
    ⟨{ (sUp.wr D.GBL_STAT_state 0) with boot := { sUp.boot with step := 8 } }, by decide +kernel⟩,
    ⟨true, { (sUp.wr D.GBL_STAT_state 0) with boot := { sUp.boot with step := 8, first := true } },
      by decide +kernel⟩,
    ⟨{ (sUp.wr D.GBL_STAT_state 0) with boot := { sUp.boot with step := 8, first := true } }, by decide +kernel⟩,
    ⟨[(3, [7, 9])], { (sUp.wr D.GBL_STAT_state 0) with boot := { sUp.boot with step := 8, first := true } },
      by decide +kernel⟩,
    ⟨{ (sUp.wr D.GBL_STAT_state 0) with boot := { sUp.boot with step := 9 } }, by decide +kernel⟩,
    
      ⟨{ (sUp.wr D.GBL_STAT_state 0) with boot := { sUp.boot with step := 9 }, cur := { sUp.cur with seals := [seal2] } },
      by decide +kernel⟩,
    ⟨{ rop3 with kind := .delete, unmapped := true },
      { (sUp.wr D.GBL_STAT_state 0) with boot := { sUp.boot with step := 9 }, rops := [{ rop3 with kind := .delete, unmapped := true }], regions := [(3, rop3.new)] },
      by decide +kernel⟩,
    ⟨(100, 3),
      { (sUp.wr D.GBL_STAT_state 0) with boot := { sUp.boot with step := 9 }, gov := { sUp.gov with rec0 := { FlushRec.init with valid := true, updates := [(100, 3)] } } },
      by decide +kernel⟩,
    ⟨{ (sUp.wr D.GBL_STAT_state 0) with boot := { sUp.boot with step := 10 } }, by decide +kernel⟩,
    ⟨{ (sUp.wr D.GBL_STAT_state 0) with boot := { sUp.boot with step := 10, unflushed := true } },
      by decide +kernel⟩,
    
      ⟨{ (((List.range 16).foldl (fun (a : State) p => a.wr D.FAB_PSTAT_state 4 p) sUp).wr D.GBL_STAT_state 0) with boot := { sUp.boot with step := 11 } },
      by decide +kernel⟩,
    
      ⟨{ (sUp.wr D.GBL_STAT_state 0) with boot := { sUp.boot with step := 11, eleven := true }, gov := { sUp.gov with measured := true } },
      by decide +kernel⟩,
    ⟨5, 20, 9, 0, 0,
      { (((sUp.wr D.ATQ_CFG_enable 1 5).wr D.ATQ_CFG_type 1 5).wr D.GBL_STAT_state 0) with boot := { sUp.boot with step := 11, eleven := true }, gov := { sUp.gov with measured := true }, cur := { sUp.cur with interrupted := [(5, 20, 9, 0, 0)] } },
      by decide +kernel⟩,
    ⟨{ (sUp.wr D.GBL_STAT_state 0) with boot := { sUp.boot with step := 11 } }, by decide +kernel⟩⟩

theorem meets_FirmwareTransferRuns :
    (∃ (port : Fin 4) (data : List (BitVec 8)) (s : State), (s.mboxUp port = true) ∧ (s.bit D.FWU_XFER_open =
      false) ∧ (s.rd D.FWU_STAT_state = 0) ∧ (s.fwTarget ≠ none) ∧ (data.length < 512)) ∧
    (∃ (port : Fin 4) (data : List (BitVec 8)) (s : State), (s.mboxUp port = true) ∧ ((s.fwInitiate port data).1
      = 0) ∧ (data.length < 2 ^ 32)) ∧
    (∃ (port : Fin 4) (data : List (BitVec 8)) (slot : Fin 256) (s : State), (s.mboxUp port = true) ∧
      ((s.fwInitiate port data).1 = 0) ∧ (s.fwTarget = some (slot.val - 1)) ∧ (slot.val ≠ 0) ∧ (s.bgBusy = false)) ∧
    (∃ (port : Fin 4) (data : List (BitVec 8)) (full : Option (Fin 256)) (s : State), (s.mboxUp port = true) ∧
      (s.bit D.FWU_XFER_open = true)) ∧
    (∃ (port : Fin 4) (off : BitVec 32) (data : List (BitVec 8)) (s : State), (s.mboxUp port = true) ∧
      ((s.fwContinue port (off.toNat * 128) data).1 = 0) ∧ (off.toNat * 128 + data.length < 2 ^ 32)) ∧
    (∃ (port : Fin 4) (off : BitVec 32) (data : List (BitVec 8)) (s : State), (s.mboxUp port = true) ∧ (s.bit
      D.FWU_XFER_open = true) ∧ (s.rd D.FWU_XFER_port = port.val) ∧ (s.rd D.FWU_XFER_next = off.toNat * 128) ∧
      (off.toNat * 128 + data.length < 512)) ∧
    (∃ (port : Fin 4) (off : BitVec 32) (data : List (BitVec 8)) (s : State), (s.mboxUp port = true) ∧ (s.bit
      D.FWU_XFER_open = true) ∧ (s.rd D.FWU_XFER_port = port.val) ∧ (s.rd D.FWU_XFER_next ≠ off.toNat * 128)) ∧
    (∃ (port : Fin 4) (off : BitVec 32) (data : List (BitVec 8)) (s : State), (s.mboxUp port = true) ∧ (s.bit
      D.FWU_XFER_open = true) ∧ (s.rd D.FWU_XFER_port = port.val) ∧ (s.rd D.FWU_XFER_next = off.toNat * 128) ∧
      (512 ≤ off.toNat * 128) ∧ (off.toNat * 128 + data.length ≤ packageLen s.fw.header) ∧ (off.toNat * 128 +
      data.length < 2 ^ 32)) ∧
    (∃ (port : Fin 4) (off : BitVec 32) (data : List (BitVec 8)) (slot : Fin 256) (s : State), (s.mboxUp port =
      true) ∧ ((s.fwContinue port (off.toNat * 128) data).1 = 0) ∧ (slot.val = s.fw.target + 1) ∧ (s.bgBusy =
      false)) ∧
    (∃ (port : Fin 4) (s : State), (s.mboxUp port = true) ∧ (s.bit D.FWU_XFER_open = true) ∧ (s.rd
      D.FWU_XFER_port = port.val)) ∧
    (∃ (s : State), (s.bit D.FWU_XFER_open = true)) ∧
    (∃ (s : State), (s.rd D.FWU_STAT_state = 2) ∧ (s.led.queue = []) ∧ (s.phase ≠ stRomRecovery)) :=
  ⟨⟨0, [1, 2], sUp, by decide +kernel⟩,
    ⟨0, [1, 2], sUp, by decide +kernel⟩,
    ⟨0, [1, 2], 2, sUp, by decide +kernel⟩,
    ⟨0, [1, 2], none, sUp.wr D.FWU_XFER_open 1, by decide +kernel⟩,
    ⟨0, 0, [5], (sUp.wr D.FWU_XFER_open 1), by decide +kernel⟩,
    ⟨0, 0, [5], (sUp.wr D.FWU_XFER_open 1), by decide +kernel⟩,
    ⟨0, 1, [5], (sUp.wr D.FWU_XFER_open 1), by decide +kernel⟩,
    ⟨0, 4, [], (sUp.wr D.FWU_XFER_open 1).wr D.FWU_XFER_next 512, by decide +kernel⟩,
    ⟨0, 0, [], 1, sUp.wr D.FWU_XFER_open 1, by decide +kernel⟩,
    ⟨0, sUp.wr D.FWU_XFER_open 1, by decide +kernel⟩,
    ⟨sUp.wr D.FWU_XFER_open 1, by decide +kernel⟩,
    ⟨sUp.wr D.FWU_STAT_state 2, by decide +kernel⟩⟩

theorem meets_FirmwareActivationRuns :
    (∃ (port : Fin 4) (slot : Fin 256) (libOk : Bool) (s : State), (s.mboxUp port = true) ∧ (slot.val = 1 ∨
      slot.val = 2) ∧ (s.phase ≠ stRomRecovery) ∧ (s.bgBusy = false) ∧ (s.fwRefuse (slot.val - 1) true libOk = 0)) ∧
    (∃ (port : Fin 4) (slot : Fin 256) (s : State), (s.mboxUp port = true) ∧ (slot.val = 1 ∨ slot.val = 2) ∧
      (s.fwRefuse (slot.val - 1) false true = 0)) ∧
    (∃ (port : Fin 4) (setB libOk : Bool) (s : State), (s.portQuiet port = true) ∧ (s.phase = stOpen) ∧
      (s.fwRefuse (b2n setB) true libOk = 0)) ∧
    (∃ (port : Fin 4) (setB : Bool) (s : State), (s.portQuiet port = true) ∧ (s.fwRefuse (b2n setB) false true =
      0)) ∧
    (∃ (port : Fin 4) (setB : Bool) (s : State), (s.portQuiet port = true) ∧ (s.fwPending = none)) ∧
    (∃ (port : Fin 4) (setB : Bool) (s : State), (s.portQuiet port = true) ∧ (s.fwPending.isSome = true) ∧ (s.rd
      D.FWU_STAT_state = 0) ∧ (s.fw.trials = 0)) ∧
    (∃ (a : FwAct) (k : Nat) (s : State), (s.fw.act = some a) ∧ (a.step = 1) ∧ (s.nextChan 0 = some k)) ∧
    (∃ (a : FwAct) (s : State), (s.fw.act = some a) ∧ (a.step = 1) ∧ (s.phase ≠ stRomRecovery)) ∧
    (∃ (a : FwAct) (ch : Fin 32) (s : State), (s.fw.act = some a) ∧ (a.step = 2) ∧ (a.done = ch.val) ∧ ((s.chan
      ch).paused = true)) ∧
    (∃ (a : FwAct) (ch : Fin 32) (s : State), (s.fw.act = some a) ∧ (a.step = 2) ∧ (a.done = ch.val) ∧ ((s.chan
      ch).paused = true)) ∧
    (∃ (a : FwAct) (port : Fin 16) (s : State), (s.fw.act = some a) ∧ (a.step = 3) ∧ (a.done = port.val) ∧ (∀ p
      ∈ List.range 16, s.fpState p ≠ fpRetrain)) ∧
    (∃ (a : FwAct) (lib : List Bytes) (s : State), (s.fw.act = some a) ∧ (a.step = 4) ∧ ((SMap.keys
      s.cur.ctxs).all (fun c => decide ((s.ctx c).st = .idle)) = true)) ∧
    (∃ (a : FwAct) (port : Fin 16) (s : State), (s.fw.act = some a) ∧ (a.step = 3) ∧ (a.done = port.val) ∧ (∀ p
      ∈ List.range 16, s.fpState p ≠ fpRetrain)) ∧
    (∃ (c : Nat) (s : State), (s.rtlWait = true) ∧ (c ∈ SMap.keys s.cur.ctxs) ∧ ((s.ctx c).st = .running) ∧
      ((s.ctx c).donePend = false) ∧ ((s.ctx c).priv ≠ .warden)) ∧
    (∃ (a : FwAct) (lib : List (List (BitVec 8))) (s : State), (s.fw.act = some a) ∧ (a.step = 4) ∧ (a.set < 2)
      ∧ (∀ c ∈ SMap.keys s.cur.ctxs, (s.ctx c).st = .idle) ∧ (s.phase ≠ stRomRecovery)) :=
  ⟨⟨0, 2, true, sFw, by decide +kernel⟩,
    ⟨0, 2, sFw, by decide +kernel⟩,
    ⟨0, true, true, sFw, by decide +kernel⟩,
    ⟨0, true, sFw, by decide +kernel⟩,
    ⟨0, true, sFw, by decide +kernel⟩,
    ⟨0, true, sFw.wr D.FWU_STAT_pending 2, by decide +kernel⟩,
    ⟨⟨1, 1, 0⟩, 0, { sFw with fw := { sFw.fw with act := some ⟨1, 1, 0⟩ } }, by decide +kernel⟩,
    ⟨⟨1, 1, 0⟩, { sFw with fw := { sFw.fw with act := some ⟨1, 1, 0⟩ } }, by decide +kernel⟩,
    ⟨⟨1, 2, 0⟩, 0,
      { (sFw.setChan 0 { sFw.chan 0 with paused := true }) with fw := { sFw.fw with act := some ⟨1, 2, 0⟩ } },
      by decide +kernel⟩,
    ⟨⟨1, 2, 0⟩, 0,
      { (sFw.setChan 0 { sFw.chan 0 with paused := true }) with fw := { sFw.fw with act := some ⟨1, 2, 0⟩ } },
      by decide +kernel⟩,
    ⟨⟨1, 3, 15⟩, 15, { sFw with fw := { sFw.fw with act := some ⟨1, 3, 15⟩ } }, by decide +kernel⟩,
    ⟨⟨1, 4, 0⟩, [], { sFw with fw := { sFw.fw with act := some ⟨1, 4, 0⟩ } }, by decide +kernel⟩,
    ⟨⟨1, 3, 15⟩, 15, { sFw with fw := { sFw.fw with act := some ⟨1, 3, 15⟩ } }, by decide +kernel⟩,
    ⟨3, { (sUp.setCtx 3 { Ctx.init with st := .running }) with fw := { sFw.fw with act := some ⟨1, 4, 0⟩ } },
      by decide +kernel⟩,
    ⟨⟨1, 4, 0⟩, [], { sFw with fw := { sFw.fw with act := some ⟨1, 4, 0⟩ } }, by decide +kernel⟩⟩

theorem meets_TablesStayCanonical :
    (∃ (s t : Sys2Proof.Machine.State), (s.TablesOk) ∧ (step s = .next t)) :=
  ⟨State.reset, State.reset.idle, by decide +kernel, rfl⟩

theorem meets_KeySlotsChangeOnlyAtPages :
    (∃ (c : Instr) (s t : Sys2Proof.Machine.State), (exec c s = .next t) ∧ ((∀ p o, c ≠ .pageRead p o)) ∧ ((∀ p
      a b, c ≠ .pageWriteStart p a b)) ∧ ((∀ p o, c ≠ .pageWriteDone p o)) ∧ ((∀ p o, c ≠ .ledgerScrub p o)) ∧ ((∀
      a b d e, c ≠ .stagingInitDone a b d e))) :=
  ⟨.powerUpRetry, State.reset, State.reset, rfl, by simp, by simp, by simp, by simp, by simp⟩

theorem meets_RegionTableChangesOnlyAtCommits :
    (∃ (c : Instr) (s t : Sys2Proof.Machine.State), (exec c s = .next t) ∧ ((∀ p a b, c ≠ .pageWriteStart p a
      b)) ∧ ((∀ a b d l, c ≠ .wardenRomDone a b d l)) ∧ (c ≠ .recoveryWorkDone)) :=
  ⟨.powerUpRetry, State.reset, State.reset, rfl, by simp, by simp, by simp⟩

theorem meets_CommandsLeaveTheQueue :
    (∃ (c : Instr) (s t : Sys2Proof.Machine.State), (exec c s = .next t)) :=
  ⟨.powerUpRetry, State.reset, State.reset, rfl⟩

theorem meets_IdleStepTakesOneNanosecond :
    (∃ (s : Sys2Proof.Machine.State), (s.pending = []) ∧ (s.aon.vaux = true) ∧ (s.fab.ahead = 0)) ∧
    (∃ (n : Nat) (s : Sys2Proof.Machine.State), (s.pending = []) ∧ (s.aon.vaux = true) ∧ (s.fab.ahead = n + 1)) ∧
    (∃ (s : Sys2Proof.Machine.State), (s.pending = []) ∧ (s.aon.vaux = false)) :=
  ⟨⟨State.reset, by decide +kernel⟩,
    ⟨7, { sUp with fab := { sUp.fab with ahead := 8 } }, by decide +kernel⟩,
    ⟨{ sUp with aon := { sUp.aon with vaux := false } }, by decide +kernel⟩⟩

theorem meets_DeviceResetFlushWatchesFromPfail :
    (∃ (s : Sys2Proof.Machine.State), (s.isOpen = true)) ∧
    (∃ (f : Flush) (s : Sys2Proof.Machine.State), (s.phase = stFlushing) ∧ (s.gov.flush = some f) ∧ (f.cause =
      2) ∧ (f.watch = false)) ∧
    (∃ (f : Flush) (cause rail : Nat) (s : Sys2Proof.Machine.State), (s.phase = stFlushing) ∧ (s.gov.flush =
      some f) ∧ (f.cause = 2) ∧ (s.bit D.PWR_PFSTAT_pfail = false) ∧ (s.seq = seqUp ∨ s.seq = seqOn ∨ s.seq =
      seqDown)) ∧
    (∃ (f : Flush) (s : Sys2Proof.Machine.State), (s.phase = stFlushing) ∧ (s.gov.flush = some f) ∧ (f.cause =
      2) ∧ (f.watch = true) ∧ (f.step ≤ 9) ∧ (f.abandoned = false) ∧ (s.euNow ≤ s.rd D.PWR_PGPARAM_ereserve *
      1000)) :=
  ⟨⟨sUp, by decide +kernel⟩,
    ⟨{ flushOf with step := 8, cause := 2, watch := false },
      { (sUp.wr D.GBL_STAT_state 2) with gov := { sUp.gov with flush := some { flushOf with step := 8, cause := 2, watch := false } } },
      by decide +kernel⟩,
    ⟨{ flushOf with step := 8, cause := 2, watch := false }, 1, 0,
      { (sUp.wr D.GBL_STAT_state 2) with gov := { sUp.gov with flush := some { flushOf with step := 8, cause := 2, watch := false } } },
      by decide +kernel⟩,
    ⟨{ flushOf with step := 8, cause := 2, watch := true },
      { (sUp.wr D.GBL_STAT_state 2) with gov := { sUp.gov with flush := some { flushOf with step := 8, cause := 2, watch := true } } },
      by decide +kernel⟩⟩

end Sys2Proof.Machine
end

section
/-! SUPPORT. Register accesses at a host port: what a quiet port passes on, what one access of the window answers, and the
two statements of this family, on GBL_SCRATCH (R9) and on the halves of a 64-bit register (R4). -/

namespace Sys2Proof.Machine

/-! Answers and frames. -/

/-- A command that leaves the tally's counters answers what holds of its next state. -/
theorem answers_of_exec {i : Instr} {s t : State} {P : State → Prop} (h : exec i s = .next t) (hc : t.tcnt = s.tcnt)
    (hp : P t) : Answers i s P :=
  ⟨t, h, by rw [← hc]; exact hp⟩

theorem State.Only.mono {s t : State} {ps qs : List Comp} (h : s.Only ps t) (hsub : ps ⊆ qs) : s.Only qs t :=
  fun p hp => h p fun hmem => hp (hsub hmem)

theorem State.only_regs (s : State) (r : SMap Nat) : s.Only [.regs] { s with regs := r } := by
  intro p hp
  cases p
  case regs => simp at hp
  all_goals rfl

theorem State.only_evq (s : State) (q : List Ev) : s.Only [.evq] { s with evq := q } := by
  intro p hp
  cases p
  case evq => simp at hp
  all_goals rfl

theorem State.only_ports (s : State) (m : SMap Port) : s.Only [.ports] { s with ports := m } := by
  intro p hp
  cases p
  case ports => simp at hp
  all_goals rfl

theorem State.only_out (s : State) (o : List Out) : s.Only [.out] { s with out := o } := by
  intro p hp
  cases p
  case out => simp at hp
  all_goals rfl

theorem State.only_wr (s : State) (f : FldDesc) (v i : Nat) : s.Only [.regs] (s.wr f v i) := s.only_regs _

theorem State.regsBut_wr (s : State) (f : FldDesc) (v i : Nat) : s.RegsBut [f.key i] (s.wr f v i) :=
  fun _ hk => SMap.find_put_ne _ _ _ fun e => hk (by simp [e])

/-- Outside ROM_RECOVERY a happening is one event sent to the registrar, and nothing else. -/
theorem State.log_logged (s : State) (code inst aux arg : Nat) (h : s.phase ≠ stRomRecovery) :
    s.Logged code inst aux arg (s.log code inst aux arg) ∧ s.Only [.evq] (s.log code inst aux arg) := by
  simp only [State.log, h, if_false]
  exact ⟨rfl, s.only_evq _⟩

/-- The value of a register read leaves the device; it is no flit and no tally counts it. -/
theorem State.emit_regData (s : State) (p : Fin 4) (v : Nat) :
    s.emit (.regData p v) = { s with out := .regData p v :: s.out } := rfl

/-! Ports. -/

theorem State.regUp_of_portQuiet {s : State} {p : Nat} (h : s.portQuiet p = true) : s.regUp p = true := by
  simp only [State.portQuiet, Bool.and_eq_true] at h
  exact h.1

/-- No armed slot meets a packet that a quiet port receives. -/
theorem State.tlpIn_of_portQuiet {s : State} {p : Nat} (h : s.portQuiet p = true) : s.tlpIn p = s := by
  simp only [State.portQuiet, Bool.and_eq_true, List.isEmpty_iff] at h
  simp [State.tlpIn, State.inject, h.2]

theorem State.portWrite_of_portQuiet {s : State} {p : Nat} (off size v : Nat) (libOk : Bool) (h : s.portQuiet p = true) :
    s.portWrite p off size v libOk = s.regWrite p off size v libOk := by
  simp [State.portWrite, State.regUp_of_portQuiet h, State.tlpIn_of_portQuiet h]

theorem State.portWrite_of_not_regUp {s : State} {p : Nat} (off size v : Nat) (libOk : Bool) (h : s.regUp p = false) :
    s.portWrite p off size v libOk = s := by
  simp [State.portWrite, h]

theorem exec_registerWrite (port : Fin 4) (bar2 : Bool) (off : BitVec 25) (size : BitVec 8) (v : Word) (ok : Bool)
    (s : State) : exec (.registerWrite port bar2 off size v ok) s =
      .next (if bar2Other bar2 off.toNat then s else s.portWrite port (windowOff bar2 off.toNat) size.toNat v.toNat ok) := rfl

/-- A write of BAR0 at a quiet port is the write of the window. -/
theorem exec_registerWrite_of_portQuiet {port : Fin 4} {s : State} (off : BitVec 25) (size : BitVec 8) (v : Word) (ok : Bool)
    (h : s.portQuiet port = true) : exec (.registerWrite port false off size v ok) s =
      .next (s.regWrite port off.toNat size.toNat v.toNat ok) := by
  simp [exec_registerWrite, bar2Other, windowOff, State.portWrite_of_portQuiet _ _ _ _ h]

/-- A read of BAR0 at a quiet port answers the read of the window. -/
theorem exec_readLowHalf_of_portQuiet {port : Fin 4} {s : State} (off : BitVec 25) (size : BitVec 8)
    (h : s.portQuiet port = true) : exec (.readLowHalf port false off size) s =
      .next ((s.regRead port off.toNat size.toNat).2.emit (.regData port (s.regRead port off.toNat size.toNat).1)) := by
  change execReadLowHalf port false off size s = _
  simp [execReadLowHalf, bar2Other, windowOff, State.regUp_of_portQuiet h, State.tlpIn_of_portQuiet h]

/-! Which register an access meets. -/

/-- An access is of 4 or of 8 bytes (R3). -/
theorem regHit_of_size {size : Nat} (off : Nat) (h4 : size ≠ 4) (h8 : size ≠ 8) : regHit off size = .bad := by
  simp [regHit, h4, h8]

/-- The high half of a register lies 4 bytes above its start, which is aligned to 8. -/
theorem off_mod_eight_of_regHit_high {off size i : Nat} {r : RegRow} (h : regHit off size = .reg r i 32 32) :
    off % 8 = 4 := by
  unfold regHit at h
  split at h
  · cases h
  · split at h
    · split at h
      · split at h <;> cases h
      · cases h
    · split at h
      · split at h <;> cases h
      · split at h
        · assumption
        · cases h

/-! Writes of the window. -/

theorem State.regWrite_of_bad {s : State} {src off size : Nat} (v : Nat) (libOk : Bool) (h : regHit off size = .bad) :
    s.regWrite src off size v libOk = s.badAccess src off size := by
  simp [State.regWrite, h]

/-- A write that clamps nothing and starts nothing leaves what it leaves in the fields of its register. -/
theorem State.regWrite_of_plain {s t : State} {src off size v i lo n : Nat} {r : RegRow} {libOk : Bool}
    (hit : regHit off size = .reg r i lo n) (hup : s.blockUp off = true) (hbase : r.off ≠ D.LDG_TCCFG_base.off)
    (hclr : r.off ≠ D.GBL_CTL_clampclr.off) (hw : r.fields.foldl (s.fieldWrite src i lo n v) (s, false) = (t, false))
    (hfix : t.dynFix r.off i = t) (hact : s.act t src r i lo n v libOk = t) :
    s.regWrite src off size v libOk = t := by
  simp [State.regWrite, hit, hup, hbase, hclr, hw, hfix, hact]

/-- A write of the whole of a register gives a field that fills it the value written. -/
theorem FldDesc.spliced_whole {f : FldDesc} {n : Nat} (old v : Nat) (hlo : f.lo = 0) (hhi : f.hi + 1 = n) :
    f.spliced old 0 n v = v % 2 ^ n := by
  simp [FldDesc.spliced, bitsOf, hlo, hhi, Nat.mod_one]

/-- A field with a lock that is set, or whose write a rule ignores, stays. -/
theorem State.fieldWrite_of_not_taken {s0 : State} {src i lo n v : Nat} {f : FldDesc} (a : State × Bool)
    (h : s0.taken src f i lo n v = false) : s0.fieldWrite src i lo n v a f = a := by
  simp [State.fieldWrite, h]

/-! GBL_SCRATCH. -/

/-- The row of GBL_SCRATCH (Table 1.10). -/
def scratchRow : RegRow := ⟨"GBL_SCRATCH", 0x40, 0, 1, 64, [D.GBL_SCRATCH_value]⟩

theorem regHit_scratch : regHit 0x40 8 = .reg scratchRow 0 0 64 := by decide +kernel

/-- GBL is one of the blocks that respond in ROM_RECOVERY (R490). -/
theorem State.blockUp_scratch (s : State) : s.blockUp 0x40 = true := by
  simp [State.blockUp]

/-- GBL_CTL.scrlock, and nothing else, makes a write of GBL_SCRATCH be ignored (R9). -/
theorem State.taken_scratch (s : State) (src lo n v : Nat) :
    s.taken src D.GBL_SCRATCH_value 0 lo n v = !s.bit D.GBL_CTL_scrlock := by
  have hlock : s.locked D.GBL_SCRATCH_value = s.bit D.GBL_CTL_scrlock := rfl
  unfold State.taken
  rw [hlock]
  cases s.bit D.GBL_CTL_scrlock <;> rfl

/-- Every word is in the limits of GBL_SCRATCH.value. -/
theorem effective_scratch {v : Nat} (h : v < 2 ^ 64) : D.GBL_SCRATCH_value.effective 0 v = v := by
  change max 0 (min (2 ^ 64 - 1) v) = v
  omega

theorem State.fieldWrite_scratch {s : State} {v : Nat} (src : Nat) (hv : v < 2 ^ 64) (h : s.bit D.GBL_CTL_scrlock = false) :
    s.fieldWrite src 0 0 64 v (s, false) D.GBL_SCRATCH_value = (s.wr D.GBL_SCRATCH_value v, false) := by
  have htouch : D.GBL_SCRATCH_value.touched 0 64 = true := rfl
  have hacc : D.GBL_SCRATCH_value.acc = .rwl := rfl
  have hacts : actsOnly D.GBL_SCRATCH_value = false := rfl
  have hset (w : Nat) : s.setFld src D.GBL_SCRATCH_value 0 w = s.wr D.GBL_SCRATCH_value w := rfl
  have hsplice (old : Nat) : D.GBL_SCRATCH_value.spliced old 0 64 v = v :=
    (FldDesc.spliced_whole old v rfl rfl).trans (Nat.mod_eq_of_lt hv)
  simp [State.fieldWrite, htouch, s.taken_scratch, h, hacc, hacts, hsplice, effective_scratch hv, hset]

/-- A write of GBL_SCRATCH starts nothing and depends on no other field. -/
theorem State.regWrite_scratch {s t : State} {src v : Nat} (libOk : Bool)
    (hw : s.fieldWrite src 0 0 64 v (s, false) D.GBL_SCRATCH_value = (t, false)) :
    s.regWrite src 0x40 8 v libOk = t :=
  State.regWrite_of_plain regHit_scratch s.blockUp_scratch (by decide) (by decide) hw rfl rfl

theorem State.regWrite_scratch_unlocked {s : State} {v : Nat} (src : Nat) (libOk : Bool) (hv : v < 2 ^ 64)
    (h : s.bit D.GBL_CTL_scrlock = false) : s.regWrite src 0x40 8 v libOk = s.wr D.GBL_SCRATCH_value v :=
  State.regWrite_scratch libOk (State.fieldWrite_scratch src hv h)

theorem State.regWrite_scratch_locked {s : State} (src v : Nat) (libOk : Bool) (h : s.bit D.GBL_CTL_scrlock = true) :
    s.regWrite src 0x40 8 v libOk = s :=
  State.regWrite_scratch libOk (State.fieldWrite_of_not_taken _ (by rw [s.taken_scratch, h]; rfl))

/-- Settles O2: at a quiet port the command is the write of the window, which meets GBL_SCRATCH unlocked or locked, or is bad;
at a port that is down it is nothing. -/
theorem registerWritesOfScratch : Obligations.RegisterWritesOfScratch := by
  refine ⟨fun port v ok s hq hlock => ?_, fun port v ok s hq hlock => ?_,
    fun port off size v ok s hq h4 h8 hrom => ?_, fun port bar2 off size v ok s hdown => ?_⟩
  · have he := (exec_registerWrite_of_portQuiet 0x40 8 v ok hq).trans
      (congrArg _ (State.regWrite_scratch_unlocked port ok v.isLt hlock))
    refine answers_of_exec he rfl ⟨?_, s.regsBut_wr _ _ 0, s.only_wr _ _ 0⟩
    rw [State.rd_wr_same]
    exact Nat.mod_eq_of_lt v.isLt
  · exact answers_of_exec ((exec_registerWrite_of_portQuiet 0x40 8 v ok hq).trans
      (congrArg _ (State.regWrite_scratch_locked port v.toNat ok hlock))) rfl rfl
  · have hbad : regHit off.toNat size.toNat = .bad :=
      regHit_of_size _ (fun e => h4 (BitVec.eq_of_toNat_eq e)) (fun e => h8 (BitVec.eq_of_toNat_eq e))
    have hlog := s.log_logged E.GBL_BAD_ACCESS port size.toNat off.toNat hrom
    exact answers_of_exec ((exec_registerWrite_of_portQuiet off size v ok hq).trans
      (congrArg _ (State.regWrite_of_bad v.toNat ok hbad))) (hlog.2 .tcnt (by decide)) hlog
  · refine answers_of_exec ?_ rfl rfl
    rw [exec_registerWrite, State.portWrite_of_not_regUp _ _ _ _ hdown, ite_self]

/-! Reads of the window. -/

/-- A read of 64 bits returns the register at one instant and touches no latch. -/
theorem State.regRead_whole {s : State} {p off size i lo : Nat} {r : RegRow} (hit : regHit off size = .reg r i lo 64)
    (hup : s.blockUp off = true) : s.regRead p off size = (s.regWord p r i, s) := by
  simp [State.regRead, State.readHit, hit, hup]

/-- A read of the low half of a 64-bit register latches the high half for the port (R4). -/
theorem State.regRead_low {s : State} {p off size i : Nat} {r : RegRow} (hit : regHit off size = .reg r i 0 32)
    (hup : s.blockUp off = true) (hwidth : r.width = 64) : s.regRead p off size =
      (s.regWord p r i % 2 ^ 32, s.setPort p { s.port p with latch := some (off, s.regWord p r i / 2 ^ 32) }) := by
  simp [State.regRead, State.readHit, hit, hup, hwidth]

/-- A read of the high half returns what the port's read of the low half latched, and empties the latch (R4). -/
theorem State.regRead_high {s : State} {p off size i o h : Nat} {r : RegRow} (hit : regHit off size = .reg r i 32 32)
    (hup : s.blockUp off = true) (hlatch : (s.port p).latch = some (o, h)) (ho : o + 4 = off) :
    s.regRead p off size = (h, s.setPort p { s.port p with latch := none }) := by
  simp [State.regRead, State.readHit, hit, hup, hlatch, ho]

/-- What a register read answers, from the read of the window. -/
theorem exec_readLowHalf_of_regRead {port : Fin 4} {s u : State} {off : BitVec 25} {size : BitVec 8} {v : Nat}
    (h : s.portQuiet port = true) (hread : s.regRead port off.toNat size.toNat = (v, u)) :
    exec (.readLowHalf port false off size) s = .next { u with out := .regData port v :: u.out } := by
  rw [exec_readLowHalf_of_portQuiet off size h, hread, State.emit_regData]

/-- A port changes and something leaves the device: the other ports and every other part stay. -/
theorem State.setPort_out_frame (s : State) (p : Nat) (x : Port) (o : List Out) :
    (∀ q, q ≠ p → ({ s.setPort p x with out := o } : State).port q = s.port q) ∧
      s.Only [.ports, .out] { s.setPort p x with out := o } :=
  ⟨fun _ hq => s.port_setPort_ne x hq.symm,
    ((s.only_ports _).mono (by simp)).trans ((State.only_out _ _).mono (by simp))⟩

/-- Settles O3: each clause is one of the three reads of a 64-bit register. -/
theorem registerReadHalves : Obligations.RegisterReadHalves := by
  refine ⟨fun port off r i s hq hup hit hwidth => ?_, fun port off r i h s hq hup hit hlatch => ?_,
    fun port off r i s hq hup hit => ?_⟩
  · refine answers_of_exec (exec_readLowHalf_of_regRead hq (State.regRead_low hit hup hwidth)) rfl
      ⟨rfl, ?_, s.setPort_out_frame _ _ _⟩
    exact congrArg Port.latch (s.port_setPort_same port _)
  · have hoff := off_mod_eight_of_regHit_high hit
    have hread := State.regRead_high hit hup hlatch (by omega)
    exact answers_of_exec (exec_readLowHalf_of_regRead hq hread) rfl ⟨rfl, s.setPort_out_frame _ _ _⟩
  · exact answers_of_exec (exec_readLowHalf_of_regRead hq (State.regRead_whole hit hup)) rfl ⟨rfl, s.only_out _⟩

end Sys2Proof.Machine
end

section
/-! SUPPORT. DEVICE_RESET at a port whose packets an armed injection slot meets (R25, R415): the reset is ignored during a
flush, but the packet that carries it fires the slot, which is logged. -/

namespace Sys2Proof.Machine

theorem exec_deviceReset (port : Fin 4) (s : State) :
    exec (.deviceReset port) s = .next (s.portWrite port 0x10 4 0xD5) := rfl

/-- Slot 0 armed at injection point 0x14, a packet received on a host link, for every instance. -/
def State.armHostLink (s : State) : State :=
  ((s.wr D.INJ_PTCTL_armed 1).wr D.INJ_PT_point 0x14).wr D.INJ_PT_target 0xFFFF

/-- A device in a flush: port 0 is up and carries accesses, and a slot is armed for its packets. -/
def flushingArmed : State :=
  ((State.reset.wr D.GBL_STAT_state stFlushing).wrP D.HST_STAT_mode 0 2).armHostLink.setPort 0
    { Port.init with loaded := true }

theorem flushingArmed_phase : flushingArmed.phase = stFlushing := by decide +kernel

/-- The packet of the ignored reset fires the slot, and the registrar is sent INJ_FIRED with slot, point and target (R419). -/
theorem deviceReset_flushingArmed_evq : (flushingArmed.portWrite 0 0x10 4 0xD5).evq =
    flushingArmed.evq ++ [⟨E.INJ_FIRED, 0, 0x14, 0xFFFF, 0, false⟩] := by decide +kernel

/-- Refutes O4: its second clause, alone among those on register writes, does not ask for a quiet port, so the reset may arrive
while a slot is armed for the port's packets; the slot fires and an event is sent, where the clause lets only registers change. -/
theorem not_deviceAndWingResets : ¬ Obligations.DeviceAndWingResets := by
  rintro ⟨-, hignored, -⟩
  obtain ⟨t, ht, -, honly⟩ := hignored 0 flushingArmed (.inl flushingArmed_phase)
  obtain rfl : flushingArmed.portWrite 0 0x10 4 0xD5 = t := by
    rw [exec_deviceReset] at ht
    exact Host.Outcome.next.inj ht
  have hevq : (flushingArmed.portWrite 0 0x10 4 0xD5).evq = flushingArmed.evq := honly .evq (by decide)
  rw [deviceReset_flushingArmed_evq] at hevq
  simp at hevq

end Sys2Proof.Machine
end

section
/-! SUPPORT. The end of a region delete while a flush runs (R53, R442): the ledger store accepts no page write from step 1 of a
flush on, so the write that would free the entry is not queued. -/

namespace Sys2Proof.Machine

/-- A committed delete of region 3 whose every slice has switched, and whose second page write is not queued. -/
def switchedDelete : RgnOp :=
  let live : Region := ⟨.live, 32, 4, 0, Attr.default, 0⟩
  ⟨.delete, 3, none, live, { live with st := .deleting }, false, true, BitVec.allOnes 16, [], false, false, false⟩

/-- A device in a flush that had begun to delete region 3. -/
def flushingDelete : State := { State.reset.wr D.GBL_STAT_state stFlushing with rops := [switchedDelete] }

/-- The last command of a delete, met in a flush, queues nothing at the ledger store. -/
theorem regionDeleteFree_flushingDelete :
    ∃ t, exec (.regionDeleteFree 3) flushingDelete = .next t ∧ t.led.queue = [] :=
  ⟨_, rfl, by decide +kernel⟩

/-- Refutes O28: its last clause does not ask for a phase in which the ledger store accepts a page write; in a flush the delete
goes on and its page write is dropped. -/
theorem not_regionOperationsEnd : ¬ Obligations.RegionOperationsEnd := by
  rintro ⟨-, -, -, hfree⟩
  obtain ⟨t, ht, -, hqueue⟩ := hfree 3 switchedDelete flushingDelete rfl rfl rfl rfl rfl (by decide +kernel)
  obtain ⟨u, hu, hempty⟩ := regionDeleteFree_flushingDelete
  obtain rfl : u = t := Host.Outcome.next.inj (hu.symm.trans ht)
  simp [hempty] at hqueue

end Sys2Proof.Machine
end

section
/-! SUPPORT. The part of the state that only a page's commit or a start's load changes: the region table (R38, R44), the
key slots, and the commands that wait. Every other operation of the model leaves it, one lemma an operation in the order
of the model's files, and so does every command but seven. -/

namespace Sys2Proof.Machine

/-- The region table, the key slots and the commands that wait. -/
def State.guarded (s : State) : SMap Region × SMap KeySlot × List Instr := (s.regions, s.slots, s.pending)

/-! The proof is not a bare rfl, so that simp rewrites with the lemma and the kernel need not unfold the updates. -/

@[simp] theorem State.guarded_mk (regs evq rgr ports queues regions rops coh med cur slots keyOps drbg gov led stgE aon boot
    fab fw tal tcnt out free pending) : (State.mk regs evq rgr ports queues regions rops coh med cur slots keyOps drbg gov
      led stgE aon boot fab fw tal tcnt out free pending).guarded = (regions, slots, pending) := (rfl)
@[simp] theorem State.guarded_fold (s : State) : (s.regions, s.slots, s.pending) = s.guarded := (rfl)
@[simp] theorem State.guarded_ite (c : Prop) [Decidable c] (s t : State) :
    (if c then s else t).guarded = if c then s.guarded else t.guarded := apply_ite _ _ _ _

/-! Repeated operations. -/

@[simp] theorem State.guarded_foldl {α : Type} {f : State → α → State} (h : ∀ a x, (f a x).guarded = a.guarded) (l : List α)
    (s : State) : (l.foldl f s).guarded = s.guarded := by
  induction l generalizing s with
  | nil => rfl
  | cons x l ih => rw [List.foldl_cons, ih, h]
@[simp] theorem State.guarded_foldl_snd {α β : Type} {f : β × State → α → β × State}
    (h : ∀ a x, (f a x).2.guarded = a.2.guarded) (l : List α) (a : β × State) : (l.foldl f a).2.guarded = a.2.guarded := by
  induction l generalizing a with
  | nil => rfl
  | cons x l ih => rw [List.foldl_cons, ih, h]
@[simp] theorem State.guarded_foldl_fst {α β : Type} {f : State × β → α → State × β}
    (h : ∀ a x, (f a x).1.guarded = a.1.guarded) (l : List α) (a : State × β) : (l.foldl f a).1.guarded = a.1.guarded := by
  induction l generalizing a with
  | nil => rfl
  | cons x l ih => rw [List.foldl_cons, ih, h]
@[simp] theorem State.guarded_foldl_snd_snd {α β γ : Type} {f : β × γ × State → α → β × γ × State}
    (h : ∀ a x, (f a x).2.2.guarded = a.2.2.guarded) (l : List α) (a : β × γ × State) :
    (l.foldl f a).2.2.guarded = a.2.2.guarded := by
  induction l generalizing a with
  | nil => rfl
  | cons x l ih => rw [List.foldl_cons, ih, h]
@[simp] theorem State.guarded_repeat {f : State → State} (h : ∀ a, (f a).guarded = a.guarded) (n : Nat) (s : State) :
    (n.repeat f s).guarded = s.guarded := by
  induction n with
  | zero => rfl
  | succ n ih => rw [Nat.repeat, h, ih]

/-! Operations that may not happen, and operations that answer a value too. -/

theorem State.guarded_getD {o : Option State} {s t : State} (h : ∀ u, o = some u → u.guarded = t.guarded)
    (hs : s.guarded = t.guarded) : (o.getD s).guarded = t.guarded := by
  cases o with
  | none => exact hs
  | some u => exact h u rfl
theorem State.guarded_of_snd {α : Type} {x : α × State} {a : α} {t : State} {g} (hx : x.2.guarded = g) (h : x = (a, t)) :
    t.guarded = g := by
  rw [h] at hx
  exact hx
theorem State.guarded_of_snd_snd {α β : Type} {x : α × β × State} {a : α} {b : β} {t : State} {g} (hx : x.2.2.guarded = g)
    (h : x = (a, b, t)) : t.guarded = g := by
  rw [h] at hx
  exact hx

/-! Machine/Ops -/

@[simp] theorem State.wr_guarded (s : State) (f : FldDesc) (v i : Nat) : (s.wr f v i).guarded = s.guarded := by
  simp [State.wr]
@[simp] theorem State.addSat_guarded (s : State) (f : FldDesc) (n i : Nat) : (s.addSat f n i).guarded = s.guarded := by
  simp [State.addSat]
@[simp] theorem State.holdAon_guarded (s : State) (e : Ev) : (s.holdAon e).guarded = s.guarded := by simp [State.holdAon]
@[simp] theorem State.log_guarded (s : State) (code inst aux arg : Nat) (inj : Bool) :
    (s.log code inst aux arg inj).guarded = s.guarded := by simp [State.log]

/-! Machine/Atrium -/

@[simp] theorem State.badAccess_guarded (s : State) (src off size : Nat) :
    (s.badAccess src off size).guarded = s.guarded := by simp [State.badAccess]

/-! Machine/Ops -/

@[simp] theorem State.wrP_guarded (s : State) (f : FldDesc) (p v i : Nat) : (s.wrP f p v i).guarded = s.guarded := by
  simp [State.wrP]

/-! Machine/RegWrite -/

@[simp] theorem State.setFld_guarded (s : State) (src : Nat) (f : FldDesc) (i v : Nat) :
    (s.setFld src f i v).guarded = s.guarded := by simp [State.setFld]
@[simp] theorem State.fieldWrite_guarded (s : State) (src i lo n v : Nat) (a : State × Bool) (f : FldDesc) :
    (s.fieldWrite src i lo n v a f).1.guarded = a.1.guarded := by
  unfold State.fieldWrite
  (repeat' split) <;> simp

/-! Machine/Supervisor -/

@[simp] theorem State.vinOrder_guarded (s : State) : (s.vinOrder).guarded = s.guarded := by simp [State.vinOrder]

/-! Machine/RegWrite -/

@[simp] theorem State.dynFix_guarded (s : State) (off i : Nat) : (s.dynFix off i).guarded = s.guarded := by
  simp [State.dynFix]
@[simp] theorem State.clampCount_guarded (s : State) (src off : Nat) : (s.clampCount src off).guarded = s.guarded := by
  simp [State.clampCount]

/-! Machine/Lines -/

@[simp] theorem State.setWayCnt_guarded (s : State) (sl w : Nat) (c : WayCnt) :
    (s.setWayCnt sl w c).guarded = s.guarded := by simp [State.setWayCnt]

/-! Machine/Ledger -/

@[simp] theorem State.setLed_guarded (s : State) (l : Ledger) : (s.setLed l).guarded = s.guarded := by simp [State.setLed]
@[simp] theorem State.pageWrite_guarded (s : State) (page : Nat) (data : Option Page) (owner : PgOwner) (flush : Bool) :
    (s.pageWrite page data owner flush).guarded = s.guarded := by simp [State.pageWrite]

/-! Machine/Slices -/

@[simp] theorem State.setWayDis_guarded (s : State) (sl w : Nat) (on : Bool) :
    (s.setWayDis sl w on).guarded = s.guarded := by simp [State.setWayDis]
@[simp] theorem State.waysShift_guarded (s : State) : (s.waysShift).guarded = s.guarded := by simp [State.waysShift]
@[simp] theorem State.wayEnable_guarded (s : State) (sl w : Nat) : (s.wayEnable sl w).guarded = s.guarded := by
  simp [State.wayEnable]

/-! Machine/Registrar -/

@[simp] theorem State.setReader_guarded (s : State) (r : Nat) (x : RecReader) : (s.setReader r x).guarded = s.guarded := by
  simp [State.setReader]
@[simp] theorem State.startCopy_guarded (s : State) (r q : Nat) : (s.startCopy r q).guarded = s.guarded := by
  simp [State.startCopy]

/-! Machine/RegWrite -/

@[simp] theorem State.actBits_guarded (s : State) (src off i lo n v : Nat) :
    (s.actBits src off i lo n v).guarded = s.guarded := by simp [State.actBits]

/-! Machine/Ops -/

@[simp] theorem State.setDtab_guarded (s : State) (d b v : Nat) : (s.setDtab d b v).guarded = s.guarded := by
  simp [State.setDtab]

/-! Machine/StartBegin -/

@[simp] theorem State.startWith_guarded (s : State) (regs : SMap Nat) (step : Nat) :
    (s.startWith regs step).guarded = s.guarded := by simp [State.startWith]
@[simp] theorem State.newStart_guarded (s : State) (state step : Nat) : (s.newStart state step).guarded = s.guarded := by
  simp [State.newStart]

/-! Machine/Trigger -/

@[simp] theorem State.toGate_guarded (s : State) : (s.toGate).guarded = s.guarded := by simp [State.toGate]

/-! Machine/Ops -/

@[simp] theorem State.logAon_guarded (s : State) (code inst aux arg : Nat) (inj : Bool) :
    (s.logAon code inst aux arg inj).guarded = s.guarded := by simp [State.logAon]

/-! Machine/Trigger -/

@[simp] theorem State.rstFall_guarded (s : State) (k : Nat) : (s.rstFall k).guarded = s.guarded := by simp [State.rstFall]
@[simp] theorem State.rstFallAll_guarded (s : State) : (s.rstFallAll).guarded = s.guarded := by simp [State.rstFallAll]
@[simp] theorem State.powerDown_guarded (s : State) : (s.powerDown).guarded = s.guarded := by simp [State.powerDown]

/-! Machine/Governor -/

@[simp] theorem State.measureAbandon_guarded (s : State) : (s.measureAbandon).guarded = s.guarded := by
  simp [State.measureAbandon]

/-! Machine/Trigger -/

@[simp] theorem State.rstFallDev_guarded (s : State) : (s.rstFallDev).guarded = s.guarded := by simp [State.rstFallDev]

/-! Machine/Logs -/

@[simp] theorem State.afterJournal_guarded (s : State) (r : Release) : (s.afterJournal r).guarded = s.guarded := by
  simp [State.afterJournal]
@[simp] theorem State.jAdd_guarded (s : State) (type gcount gindex tile arg0 arg1 : Nat) :
    (s.jAdd type gcount gindex tile arg0 arg1).guarded = s.guarded := by simp [State.jAdd]
@[simp] theorem State.journal_guarded (s : State) (type tile arg0 arg1 : Nat) :
    (s.journal type tile arg0 arg1).guarded = s.guarded := by simp [State.journal]
@[simp] theorem State.moveAbort_guarded (s : State) (t : Nat) : (s.moveAbort t).guarded = s.guarded := by
  unfold State.moveAbort; split <;> simp
@[simp] theorem State.abortMoves_guarded (s : State) : (s.abortMoves).guarded = s.guarded := by simp [State.abortMoves]

/-! Machine/Trigger -/

@[simp] theorem State.fwStop_guarded (s : State) : (s.fwStop).guarded = s.guarded := by simp [State.fwStop]

/-! Machine/Ledger -/

@[simp] theorem State.pageDrop_guarded (s : State) : (s.pageDrop).guarded = s.guarded := by simp [State.pageDrop]

/-! Machine/Trigger -/

@[simp] theorem State.throttleZero_guarded (s : State) : (s.throttleZero).guarded = s.guarded := by simp [State.throttleZero]
@[simp] theorem State.endPauses_guarded (s : State) : (s.endPauses).guarded = s.guarded := by simp [State.endPauses]

/-! Machine/Injection -/

@[simp] theorem State.injDisarm_guarded (s : State) (k : Nat) : (s.injDisarm k).guarded = s.guarded := by
  simp [State.injDisarm]
@[simp] theorem State.injDisarmAll_guarded (s : State) : (s.injDisarmAll).guarded = s.guarded := by simp [State.injDisarmAll]

/-! Machine/Trigger -/

@[simp] theorem State.flushBegin_guarded (s : State) (cause : Nat) : (s.flushBegin cause).guarded = s.guarded := by
  simp [State.flushBegin]
@[simp] theorem State.trigger_guarded (s : State) (cause : Nat) : (s.trigger cause).guarded = s.guarded := by
  unfold State.trigger; (repeat' split) <;> simp
@[simp] theorem State.deviceReset_guarded (s : State) : (s.deviceReset).guarded = s.guarded := by simp [State.deviceReset]

/-! Machine/Ops -/

@[simp] theorem State.setCtx_guarded (s : State) (c : Nat) (x : Ctx) : (s.setCtx c x).guarded = s.guarded := by
  simp [State.setCtx]

/-! Machine/Context -/

@[simp] theorem State.stop_guarded (s : State) (c code addr spc : Nat) : (s.stop c code addr spc).guarded = s.guarded := by
  simp [State.stop]
@[simp] theorem State.atBoundary_guarded (s : State) (c : Nat) : (s.atBoundary c).guarded = s.guarded := by
  unfold State.atBoundary; (repeat' split) <;> simp

/-! Machine/Calls -/

@[simp] theorem State.abort_guarded (s : State) (c : Nat) : (s.abort c).guarded = s.guarded := by simp [State.abort]

/-! Machine/Home -/

@[simp] theorem State.sbLose_guarded (s : State) (c gl : Nat) : (s.sbLose c gl).guarded = s.guarded := by
  unfold State.sbLose; dsimp only; split <;> simp

/-! Machine/Borrow -/

@[simp] theorem State.storeLost_guarded (s : State) (c gl : Nat) : (s.storeLost c gl).guarded = s.guarded := by
  unfold State.storeLost; dsimp only; split <;> simp

/-! Machine/Calls -/

@[simp] theorem State.fenceStop_guarded (s : State) (c : Nat) : (s.fenceStop c).guarded = s.guarded := by
  unfold State.fenceStop; dsimp only; (repeat' split) <;> simp

/-! Machine/RegWrite -/

@[simp] theorem State.wingReset_guarded (s : State) (wings : BitVec 8) : (s.wingReset wings).guarded = s.guarded := by
  simp [State.wingReset]

/-! Machine/Governor -/

@[simp] theorem State.measureBegin_guarded (s : State) : (s.measureBegin).guarded = s.guarded := by simp [State.measureBegin]
@[simp] theorem State.measureRequest_guarded (s : State) : (s.measureRequest).guarded = s.guarded := by
  simp [State.measureRequest]
@[simp] theorem State.breachClear_guarded (s : State) (n : Nat) : (s.breachClear n).guarded = s.guarded := by
  simp [State.breachClear]
@[simp] theorem State.setBreach_guarded (s : State) (l : List Breach) : (s.setBreach l).guarded = s.guarded := by
  simp [State.setBreach]
@[simp] theorem State.breachAck_guarded (s : State) : (s.breachAck).guarded = s.guarded := by simp [State.breachAck]

/-! Machine/Ledger -/

@[simp] theorem State.ldgRawEnd_guarded (s : State) (status : Nat) : (s.ldgRawEnd status).guarded = s.guarded := by
  simp [State.ldgRawEnd]
@[simp] theorem State.ldgBuffer_guarded (s : State) (b : Page) : (s.ldgBuffer b).guarded = s.guarded := by
  simp [State.ldgBuffer]
@[simp] theorem State.ldgBegin_guarded (s : State) (c : LdgCmd) : (s.ldgBegin c).guarded = s.guarded := by
  simp [State.ldgBegin]
@[simp] theorem State.ldgPgcmd_guarded (s : State) (c : Nat) : (s.ldgPgcmd c).guarded = s.guarded := by simp [State.ldgPgcmd]
@[simp] theorem State.ldgTcEnd_guarded (s : State) (status : Nat) : (s.ldgTcEnd status).guarded = s.guarded := by
  simp [State.ldgTcEnd]
@[simp] theorem State.ldgTccmd_guarded (s : State) (pair c : Nat) : (s.ldgTccmd pair c).guarded = s.guarded := by
  simp [State.ldgTccmd]
@[simp] theorem State.progress_guarded (s : State) (kind outcome cause step ms : Nat) (flush : Bool) :
    (s.progress kind outcome cause step ms flush).guarded = s.guarded := by simp [State.progress]

/-! Machine/Registrar -/

@[simp] theorem State.annalStart_guarded (s : State) : (s.annalStart).guarded = s.guarded := by
  unfold State.annalStart; (repeat' split) <;> simp

/-! Machine/Tally -/

@[simp] theorem State.tallyClearAll_guarded (s : State) : (s.tallyClearAll).guarded = s.guarded := by
  simp [State.tallyClearAll]
@[simp] theorem State.tallyRequest_guarded (s : State) (src : Nat) : (s.tallyRequest src).guarded = s.guarded := by
  simp [State.tallyRequest]
@[simp] theorem State.tallyClear_guarded (s : State) (n : Nat) : (s.tallyClear n).guarded = s.guarded := by
  simp [State.tallyClear]

/-! Machine/Firmware -/

@[simp] theorem State.fwResult_guarded (s : State) (status part inst : Nat) :
    (s.fwResult status part inst).guarded = s.guarded := by simp [State.fwResult]
@[simp] theorem State.dirSave_guarded (s : State) : (s.dirSave).guarded = s.guarded := by simp [State.dirSave]
@[simp] theorem State.fwPend_guarded (s : State) (set : Nat) : (s.fwPend set).guarded = s.guarded := by simp [State.fwPend]
@[simp] theorem State.fwOnline_guarded (s : State) (set : Nat) (libOk : Bool) :
    (s.fwOnline set libOk).2.guarded = s.guarded := by unfold State.fwOnline; dsimp only; split <;> simp
@[simp] theorem State.fwOffline_guarded (s : State) (set : Nat) : (s.fwOffline set).2.guarded = s.guarded := by
  unfold State.fwOffline; dsimp only; split <;> simp
@[simp] theorem State.arbSave_guarded (s : State) : (s.arbSave).guarded = s.guarded := by simp [State.arbSave]
@[simp] theorem State.fwCommitSvn_guarded (s : State) : (s.fwCommitSvn).guarded = s.guarded := by simp [State.fwCommitSvn]
@[simp] theorem State.fwCancel_guarded (s : State) : (s.fwCancel).guarded = s.guarded := by simp [State.fwCancel]

/-! Machine/Injection -/

@[simp] theorem State.injArm_guarded (s : State) (k : Nat) : (s.injArm k).guarded = s.guarded := by simp [State.injArm]

/-! Machine/HostPort -/

@[simp] theorem State.unportWrites_guarded (s : State) (p : Nat) : (s.unportWrites p).guarded = s.guarded := by
  simp [State.unportWrites]

/-! Machine/Ops -/

@[simp] theorem State.setQueue_guarded (s : State) (n : Nat) (q : AQueue) : (s.setQueue n q).guarded = s.guarded := by
  simp [State.setQueue]

/-! Machine/Atrium -/

@[simp] theorem State.qDrop_guarded (s : State) (n k : Nat) : (s.qDrop n k).guarded = s.guarded := by simp [State.qDrop]

/-! Machine/HostPort -/

@[simp] theorem State.dropPacket_guarded (s : State) (n : Nat) : (s.dropPacket n).guarded = s.guarded := by
  simp [State.dropPacket]

/-! Machine/Ops -/

@[simp] theorem State.setPort_guarded (s : State) (p : Nat) (x : Port) : (s.setPort p x).guarded = s.guarded := by
  simp [State.setPort]
@[simp] theorem State.addSatP_guarded (s : State) (f : FldDesc) (p n : Nat) : (s.addSatP f p n).guarded = s.guarded := by
  simp [State.addSatP]

/-! Machine/HostPort -/

@[simp] theorem State.portReset_guarded (s : State) (p : Nat) : (s.portReset p).guarded = s.guarded := by
  simp [State.portReset]

/-! Machine/RegWrite -/

@[simp] theorem State.actLow_guarded (s0 s : State) (src off i : Nat) (g : FldDesc → Nat) (libOk : Bool) :
    (s0.actLow s src off i g libOk).guarded = s.guarded := by
  simp [State.actLow]
  intros
  split <;> simp

/-! Machine/Staging -/

@[simp] theorem State.trngRestart_guarded (s : State) : (s.trngRestart).guarded = s.guarded := by simp [State.trngRestart]

/-! Machine/MediaWrite -/

@[simp] theorem State.checkpoint_guarded (s : State) : (s.checkpoint).guarded = s.guarded := by simp [State.checkpoint]

/-! Machine/Leaf -/

@[simp] theorem State.setChan_guarded (s : State) (c : Nat) (x : Chan) : (s.setChan c x).guarded = s.guarded := by
  simp [State.setChan]

/-! Machine/MediaWrite -/

@[simp] theorem State.pauseRequest_guarded (s : State) (c : Nat) (activation : Bool) :
    (s.pauseRequest c activation).guarded = s.guarded := by simp [State.pauseRequest]
@[simp] theorem State.pauseEnd_guarded (s : State) (c : Nat) : (s.pauseEnd c).guarded = s.guarded := by simp [State.pauseEnd]

/-! Machine/Conserve -/

@[simp] theorem State.metaCkpt_guarded (s : State) : (s.metaCkpt).guarded = s.guarded := by simp [State.metaCkpt]
@[simp] theorem State.scrubRestart_guarded (s : State) : (s.scrubRestart).guarded = s.guarded := by simp [State.scrubRestart]

/-! Machine/Logs -/

@[simp] theorem State.spareCheck_guarded (s : State) : (s.spareCheck).guarded = s.guarded := by simp [State.spareCheck]

/-! Machine/Slices -/

@[simp] theorem State.wingInvalidateAll_guarded (s : State) (wings : BitVec 8) :
    (s.wingInvalidateAll wings).guarded = s.guarded := by simp [State.wingInvalidateAll]
@[simp] theorem State.loanWaysChange_guarded (s : State) (n : Nat) : (s.loanWaysChange n).guarded = s.guarded := by
  simp [State.loanWaysChange]
@[simp] theorem State.vitLookup_guarded (s : State) (v : Nat) : (s.vitLookup v).guarded = s.guarded := by
  simp [State.vitLookup]

/-! Machine/FabReq -/

@[simp] theorem State.poisonHome_guarded (s : State) (gl : Nat) : (s.poisonHome gl).guarded = s.guarded := by
  simp [State.poisonHome]

/-! Machine/Lines -/

@[simp] theorem State.govern_guarded (s : State) : (s.govern).guarded = s.guarded := by simp [State.govern]

/-! Machine/FabReq -/

@[simp] theorem State.grantTouch_guarded (s : State) (slot : Nat) : (s.grantTouch slot).guarded = s.guarded := by
  simp [State.grantTouch]
@[simp] theorem State.setGrants_guarded (s : State) (m : SMap Grant) : (s.setGrants m).guarded = s.guarded := by
  simp [State.setGrants]
@[simp] theorem State.ungrant_guarded (s : State) (gl : Nat) : (s.ungrant gl).guarded = s.guarded := by
  unfold State.ungrant; split <;> simp
@[simp] theorem State.sweepGrants_guarded (s : State) (seat : Nat) : (s.sweepGrants seat).guarded = s.guarded := by
  simp [State.sweepGrants]

/-! Machine/Ops -/

@[simp] theorem State.setFport_guarded (s : State) (p : Nat) (x : FPort) : (s.setFport p x).guarded = s.guarded := by
  simp [State.setFport]

/-! Machine/FabLinks -/

@[simp] theorem State.fpIdle_guarded (s : State) (p st : Nat) : (s.fpIdle p st).guarded = s.guarded := by simp [State.fpIdle]
@[simp] theorem State.endAttempts_guarded (s : State) (p : Nat) : (s.endAttempts p).guarded = s.guarded := by
  simp [State.endAttempts]
@[simp] theorem State.seatStat_guarded (s : State) (k : Nat) : (s.seatStat k).guarded = s.guarded := by simp [State.seatStat]
@[simp] theorem State.barrierCount_guarded (s : State) (n uid : Nat) : (s.barrierCount n uid).guarded = s.guarded := by
  simp [State.barrierCount]

/-! Machine/Ops -/

@[simp] theorem State.sendFlits_guarded (s : State) (p n : Nat) : (s.sendFlits p n).guarded = s.guarded := by
  simp [State.sendFlits]
@[simp] theorem State.tally_guarded (s : State) (first k code v : Nat) : (s.tally first k code v).guarded = s.guarded := by
  simp [State.tally]
@[simp] theorem State.tAgent_guarded (s : State) (q code v : Nat) : (s.tAgent q code v).guarded = s.guarded := by
  simp [State.tAgent]
@[simp] theorem State.sendWords_guarded (s : State) (p w : Nat) : (s.sendWords p w).guarded = s.guarded := by
  simp [State.sendWords]
@[simp] theorem State.sendTo_guarded (s : State) (seat route w : Nat) : (s.sendTo seat route w).guarded = s.guarded := by
  unfold State.sendTo; split <;> simp
@[simp] theorem State.flood_guarded (s : State) (w : Nat) : (s.flood w).guarded = s.guarded := by simp [State.flood]
@[simp] theorem State.frame_guarded (s : State) (o : Out) : (s.frame o).guarded = s.guarded := by
  unfold State.frame; split <;> simp
@[simp] theorem State.tPort_guarded (s : State) (p code v : Nat) : (s.tPort p code v).guarded = s.guarded := by
  simp [State.tPort]
@[simp] theorem State.tWarden_guarded (s : State) (code v : Nat) : (s.tWarden code v).guarded = s.guarded := by
  simp [State.tWarden]
@[simp] theorem State.outCount_guarded (s : State) (o : Out) : (s.outCount o).guarded = s.guarded := by
  unfold State.outCount; split <;> simp
@[simp] theorem State.emit_guarded (s : State) (o : Out) : (s.emit o).guarded = s.guarded := by simp [State.emit]

/-! Machine/FabLinks -/

@[simp] theorem State.barrierTell_guarded (s : State) (n : Nat) : (s.barrierTell n).guarded = s.guarded := by
  simp [State.barrierTell]
@[simp] theorem State.keeperLost_guarded (s : State) : (s.keeperLost).guarded = s.guarded := by simp [State.keeperLost]
@[simp] theorem State.keeperChange_guarded (s : State) (old new : Nat) : (s.keeperChange old new).guarded = s.guarded := by
  simp [State.keeperChange]
@[simp] theorem State.fabUpdate_guarded (s : State) : (s.fabUpdate).guarded = s.guarded := by simp [State.fabUpdate]
@[simp] theorem State.floodRecord_guarded (s : State) : (s.floodRecord).guarded = s.guarded := by simp [State.floodRecord]
@[simp] theorem State.fpLost_guarded (s : State) (p st : Nat) : (s.fpLost p st).guarded = s.guarded := by simp [State.fpLost]
@[simp] theorem State.fabPctl_guarded (s : State) (p : Nat) : (s.fabPctl p).guarded = s.guarded := by simp [State.fabPctl]

/-! Machine/RegWrite -/

@[simp] theorem State.fabAll_guarded (s : State) : (s.fabAll).guarded = s.guarded := by simp [State.fabAll]

/-! Machine/FabJoin -/

@[simp] theorem State.seatEnd_guarded (s : State) (origin status : Nat) : (s.seatEnd origin status).guarded = s.guarded := by
  simp [State.seatEnd]

/-! Machine/Lines -/

@[simp] theorem State.release_guarded (s : State) (gl : Nat) : (s.release gl).guarded = s.guarded := by simp [State.release]

/-! Machine/FabReq -/

@[simp] theorem State.setFwd_guarded (s : State) (m : SMap FwdEnt) : (s.setFwd m).guarded = s.guarded := by
  simp [State.setFwd]
@[simp] theorem State.fwdDel_guarded (s : State) (gl : Nat) : (s.fwdDel gl).guarded = s.guarded := by simp [State.fwdDel]

/-! Machine/FabJoin -/

@[simp] theorem State.dropForward_guarded (s : State) (uid : Nat) : (s.dropForward uid).guarded = s.guarded := by
  simp [State.dropForward]

/-! Machine/Ops -/

@[simp] theorem State.fresh_guarded (s : State) : (s.fresh).2.guarded = s.guarded := by simp [State.fresh]

/-! Machine/FabLinks -/

@[simp] theorem State.drawn_guarded (s : State) : (s.drawn).guarded = s.guarded := by simp [State.drawn]

/-! Machine/FabJoin -/

@[simp] theorem State.announce_guarded (s : State) : (s.announce).guarded = s.guarded := by simp [State.announce]

/-! Machine/Lines -/

@[simp] theorem State.l1Purge_guarded (s : State) (w gl : Nat) : (s.l1Purge w gl).guarded = s.guarded := by
  simp [State.l1Purge]
@[simp] theorem State.wdrop_guarded (s : State) (w gl : Nat) : (s.wdrop w gl).guarded = s.guarded := by simp [State.wdrop]
@[simp] theorem State.releaseClean_guarded (s : State) (gl : Nat) : (s.releaseClean gl).guarded = s.guarded := by
  simp [State.releaseClean]
@[simp] theorem State.wlose_guarded (s : State) (w gl : Nat) (l : WLine) : (s.wlose w gl l).guarded = s.guarded := by
  simp [State.wlose]

/-! Machine/Injection -/

@[simp] theorem State.pick_guarded (s : State) (n : Nat) (l : List Nat) : (s.pick n l).2.guarded = s.guarded := by
  induction n generalizing s l with
  | zero => rfl
  | succ m ih => unfold State.pick; split <;> simp [ih]
@[simp] theorem State.injByteFlips_guarded (s : State) (k : Nat) : (s.injByteFlips k).2.guarded = s.guarded := by
  unfold State.injByteFlips; split <;> simp

/-! Machine/Ops -/

@[simp] theorem State.addWrap_guarded (s : State) (f : FldDesc) (n i : Nat) : (s.addWrap f n i).guarded = s.guarded := by
  simp [State.addWrap]

/-! Machine/Injection -/

@[simp] theorem State.injFired_guarded (s : State) (k : Nat) : (s.injFired k).guarded = s.guarded := by simp [State.injFired]
@[simp] theorem State.injectLine_guarded (s : State) (point : Nat) (hit : Nat → Bool) (fl : Flips) :
    (s.injectLine point hit fl).2.2.guarded = s.guarded := by simp [State.injectLine]

/-! Machine/Ops -/

@[simp] theorem State.tWing_guarded (s : State) (w code v : Nat) : (s.tWing w code v).guarded = s.guarded := by
  simp [State.tWing]

/-! Machine/Lines -/

@[simp] theorem State.wset_guarded (s : State) (w gl : Nat) (l : WLine) : (s.wset w gl l).guarded = s.guarded := by
  simp [State.wset]
@[simp] theorem State.checkWingFlips_guarded (s : State) (w gl : Nat) (l : WLine) (fl : Flips) (inj : Bool) (sub : Nat) :
    (s.checkWingFlips w gl l fl inj sub).2.guarded = s.guarded := by unfold State.checkWingFlips; (repeat' split) <;> simp
@[simp] theorem State.checkWing_guarded (s : State) (w gl : Nat) (l : WLine) (fl : Flips) (sub : Nat) :
    (s.checkWing w gl l fl sub).2.guarded = s.guarded := by unfold State.checkWing; split <;> simp
@[simp] theorem State.wtake_guarded (s : State) (w gl : Nat) (l : WLine) : (s.wtake w gl l).2.guarded = s.guarded := by
  simp [State.wtake]
@[simp] theorem State.charge_guarded (s : State) (gl : Nat) : (s.charge gl).guarded = s.guarded := by simp [State.charge]

/-! Machine/FabReq -/

@[simp] theorem State.unpoisonHome_guarded (s : State) (gl : Nat) : (s.unpoisonHome gl).guarded = s.guarded := by
  simp [State.unpoisonHome]

/-! Machine/Leaf -/

@[simp] theorem State.setTile_guarded (s : State) (p : Nat) (t : TileRec) : (s.setTile p t).guarded = s.guarded := by
  simp [State.setTile]
@[simp] theorem State.setStripe_guarded (s : State) (n : Nat) (r : StripeRec) : (s.setStripe n r).guarded = s.guarded := by
  simp [State.setStripe]

/-! Machine/Logs -/

@[simp] theorem State.applyLog_guarded (s : State) (e : LogEnt) : (s.applyLog e).guarded = s.guarded := by
  simp [State.applyLog]
@[simp] theorem State.logApply_guarded (s : State) : (s.logApply).guarded = s.guarded := by simp [State.logApply]
@[simp] theorem State.clogAdd_guarded (s : State) (type a b c : Nat) : (s.clogAdd type a b c).guarded = s.guarded := by
  simp [State.clogAdd]
@[simp] theorem State.clogNow_guarded (s : State) (type a b c : Nat) : (s.clogNow type a b c).guarded = s.guarded := by
  simp [State.clogNow]
@[simp] theorem State.setLost_guarded (s : State) (l : List LostEnt) : (s.setLost l).guarded = s.guarded := by
  simp [State.setLost]
@[simp] theorem State.listOverflowed_guarded (s : State) : (s.listOverflowed).guarded = s.guarded := by
  simp [State.listOverflowed]
@[simp] theorem State.unlose_guarded (s : State) (ll : Nat) : (s.unlose ll).guarded = s.guarded := by simp [State.unlose]

/-! Machine/Access -/

@[simp] theorem State.wholeWrite_guarded (s : State) (gl : Nat) (poison : Bool) :
    (s.wholeWrite gl poison).guarded = s.guarded := by unfold State.wholeWrite; dsimp only; split <;> simp

/-! Machine/Lines -/

@[simp] theorem State.touch_guarded (s : State) (gl w : Nat) : (s.touch gl w).guarded = s.guarded := by simp [State.touch]
@[simp] theorem State.setWay_guarded (s : State) (gl w : Nat) (v : VLine) : (s.setWay gl w v).guarded = s.guarded := by
  simp [State.setWay]
@[simp] theorem State.evbPush_guarded (s : State) (e : EvEnt) : (s.evbPush e).guarded = s.guarded := by simp [State.evbPush]

/-! Machine/Access -/

@[simp] theorem State.toEvb_guarded (s : State) (gl : Nat) (kind : EvKind) (data : Line) (mask : LineMask) (poison : Bool) :
    (s.toEvb gl kind data mask poison).guarded = s.guarded := by simp [State.toEvb]

/-! Machine/Lines -/

@[simp] theorem State.vmod_guarded (s : State) (gl : Nat) (f : VLine → VLine) : (s.vmod gl f).guarded = s.guarded := by
  unfold State.vmod; split <;> simp
@[simp] theorem State.wbPush_guarded (s : State) (w gl : Nat) (l : WLine) : (s.wbPush w gl l).guarded = s.guarded := by
  simp [State.wbPush]
@[simp] theorem State.wevict_guarded (s : State) (w gl : Nat) : (s.wevict w gl).guarded = s.guarded := by
  unfold State.wevict; split <;> simp
@[simp] theorem State.dropWay_guarded (s : State) (gl w : Nat) : (s.dropWay gl w).guarded = s.guarded := by
  simp [State.dropWay]

/-! Machine/FabReq -/

@[simp] theorem State.setOut_guarded (s : State) (gl : Nat) (e : OutEnt) : (s.setOut gl e).guarded = s.guarded := by
  simp [State.setOut]
@[simp] theorem State.fabSend_guarded (s : State) (kind : FKind) (seat gl : Nat) (src : Src) (data : Line)
    (mask : LineMask) (poison : Bool) (atom : Option Atom) :
    (s.fabSend kind seat gl src data mask poison atom).guarded = s.guarded := by unfold State.fabSend; split <;> simp
@[simp] theorem State.deliver_guarded (s : State) (gl : Nat) : (s.deliver gl).guarded = s.guarded := by
  unfold State.deliver; split <;> simp
@[simp] theorem State.endLoan_guarded (s : State) (gl : Nat) : (s.endLoan gl).guarded = s.guarded := by
  unfold State.endLoan; dsimp only; split <;> simp

/-! Machine/Access -/

@[simp] theorem State.wayThreshold_guarded (s : State) (sl w : Nat) : (s.wayThreshold sl w).guarded = s.guarded := by
  simp [State.wayThreshold]
@[simp] theorem State.checkFlips_guarded (s0 : State) (gl w : Nat) (v : VLine) (fl : Flips) (inj : Bool) :
    (s0.checkFlips gl w v fl inj).2.guarded = s0.guarded := by unfold State.checkFlips; (repeat' split) <;> simp
@[simp] theorem State.checkWay_guarded (s : State) (gl w : Nat) (v : VLine) (fl : Flips) :
    (s.checkWay gl w v fl).2.guarded = s.guarded := by unfold State.checkWay; split <;> simp
@[simp] theorem State.takeWay_guarded (s : State) (w : Nat) (v : VLine) : (s.takeWay w v).2.2.guarded = s.guarded := by
  unfold State.takeWay; dsimp only; split <;> simp

/-! Machine/Logs -/

@[simp] theorem State.enterWprot_guarded (s : State) : (s.enterWprot).guarded = s.guarded := by simp [State.enterWprot]
@[simp] theorem State.loseLine_guarded (s : State) (ll : Nat) : (s.loseLine ll).guarded = s.guarded := by
  simp [State.loseLine]

/-! Machine/Access -/

@[simp] theorem State.losePoisoned_guarded (s : State) (gl : Nat) : (s.losePoisoned gl).guarded = s.guarded := by
  simp [State.losePoisoned]
theorem State.evictWay_guarded {s : State} {w : Nat} {v : VLine} {t : State} (h : s.evictWay w v = some t) :
    t.guarded = s.guarded := by
  revert h
  unfold State.evictWay
  (repeat' split) <;> rintro ⟨⟩ <;> simp
theorem State.allocWay_guarded {s : State} {gl : Nat} {loan : Bool} {x : Nat × State} (h : s.allocWay gl loan = some x) :
    x.2.guarded = s.guarded := by
  revert h
  unfold State.allocWay
  split
  · rintro ⟨⟩
  split
  · rintro ⟨⟩; rfl
  · intro h
    obtain ⟨t, ht, rfl⟩ := Option.map_eq_some_iff.mp h
    exact State.evictWay_guarded ht
@[simp] theorem State.fillWay_guarded (s : State) (gl w : Nat) (d : Line) (dirty poison : Bool) (lent : Lent) :
    (s.fillWay gl w d dirty poison lent).guarded = s.guarded := by simp [State.fillWay]
theorem State.homeStore_guarded {s : State} {gl : Nat} {d : Line} {mask : LineMask} {poison : Bool} {base : Line × Bool}
    {zero : Bool} {t : State} (h : s.homeStore gl d mask poison base zero = some t) : t.guarded = s.guarded := by
  revert h
  unfold State.homeStore
  extract_lets s0 pol
  have hw : s0.guarded = s.guarded := by simp only [s0, State.charge_guarded]; split <;> simp
  clear_value s0 pol
  dsimp only
  (repeat' split) <;> rintro ⟨⟩ <;> simp [hw]
  all_goals simp [State.allocWay_guarded ‹_›, hw]

/-! Machine/Slices -/

theorem State.dirtyHome_guarded {s : State} {gl : Nat} {d : Line} {p : Bool} {t : State} (h : s.dirtyHome gl d p = some t) :
    t.guarded = s.guarded := by exact State.homeStore_guarded h
@[simp] theorem State.wingFlushLine_guarded (s : State) (w gl : Nat) : (s.wingFlushLine w gl).guarded = s.guarded := by
  unfold State.wingFlushLine
  (repeat' split) <;> try simp
  refine State.guarded_getD (fun _ h => ?_) (by simp)
  simp [State.dirtyHome_guarded h]

/-! Machine/Ops -/

@[simp] theorem State.tSlice_guarded (s : State) (sl code v : Nat) : (s.tSlice sl code v).guarded = s.guarded := by
  simp [State.tSlice]

/-! Machine/Slices -/

@[simp] theorem State.toStaging_guarded (s : State) (ll : Nat) (d : Line) (mask : LineMask) (p : Bool) :
    (s.toStaging ll d mask p).guarded = s.guarded := by simp [State.toStaging]

/-! Machine/FabJoin -/

@[simp] theorem State.stageOut_guarded (s : State) (gl : Nat) (d : Line) (mask : LineMask) (p : Bool) :
    (s.stageOut gl d mask p).guarded = s.guarded := by simp [State.stageOut]
@[simp] theorem State.settleOwn_guarded (s : State) : (s.settleOwn).guarded = s.guarded := by
  unfold State.settleOwn
  extract_lets own s1 s2 s3 s4 s5
  have h1 : s1.guarded = s.guarded := by simp [s1]
  have h5 : s5.guarded = s4.guarded := State.guarded_foldl (fun a e => by split <;> simp) _ _
  simp [h5, s4, s3, s2, h1]
@[simp] theorem State.takeSeat_guarded (s : State) (seat : Option Nat) : (s.takeSeat seat).guarded = s.guarded := by
  simp [State.takeSeat]

/-! Machine/Borrow -/

@[simp] theorem State.sendSweep_guarded (s : State) : (s.sendSweep).guarded = s.guarded := by simp [State.sendSweep]

/-! Machine/FabJoin -/

@[simp] theorem State.joined_guarded (s : State) (seat : Nat) : (s.joined seat).guarded = s.guarded := by simp [State.joined]
@[simp] theorem State.ownSeatCheck_guarded (s : State) : (s.ownSeatCheck).guarded = s.guarded := by
  unfold State.ownSeatCheck; dsimp only; (repeat' split) <;> simp
@[simp] theorem State.memberSave_guarded (s : State) : (s.memberSave).guarded = s.guarded := by simp [State.memberSave]

/-! Machine/Lines -/

@[simp] theorem State.vdrop_guarded (s : State) (gl : Nat) : (s.vdrop gl).guarded = s.guarded := by
  unfold State.vdrop; split <;> simp

/-! Machine/Access -/

@[simp] theorem State.dropWings_guarded (s : State) (gl : Nat) : (s.dropWings gl).guarded = s.guarded := by
  simp [State.dropWings]

/-! Machine/Borrow -/

@[simp] theorem State.dropShared_guarded (s : State) (seat : Nat) : (s.dropShared seat).guarded = s.guarded := by
  simp [State.dropShared]

/-! Machine/FabJoin -/

@[simp] theorem State.seatChange_guarded (s : State) (seat : Nat) : (s.seatChange seat).guarded = s.guarded := by
  simp [State.seatChange]
@[simp] theorem State.adopt_guarded (s : State) (fabid e : Nat) (l : List SeatRec) :
    (s.adopt fabid e l).guarded = s.guarded := by simp [State.adopt]
@[simp] theorem State.commitRecord_guarded (s : State) (fabid e : Nat) (l : List SeatRec) :
    (s.commitRecord fabid e l).guarded = s.guarded := by simp [State.commitRecord]
@[simp] theorem State.seatRun_guarded (s : State) (op seat uid origin : Nat) :
    (s.seatRun op seat uid origin).guarded = s.guarded := by unfold State.seatRun; split <;> simp
@[simp] theorem State.seatCommand_guarded (s : State) (fabric : Bool) (op seat uid origin : Nat) :
    (s.seatCommand fabric op seat uid origin).guarded = s.guarded := by simp [State.seatCommand]
@[simp] theorem State.vtStep_guarded (s : State) (t : Nat) : (s.vtStep t).guarded = s.guarded := by simp [State.vtStep]
@[simp] theorem State.vtSet_guarded (s : State) (fabric : Bool) (t : Nat) : (s.vtSet fabric t).guarded = s.guarded := by
  simp [State.vtSet]

/-! Machine/Tally -/

@[simp] theorem State.tallyFabric_guarded (s : State) (t : Nat) : (s.tallyFabric t).guarded = s.guarded := by
  simp [State.tallyFabric]

/-! Machine/FabGop -/

@[simp] theorem State.gopApply_guarded (s : State) (g : Gop) : (s.gopApply g).guarded = s.guarded := by simp [State.gopApply]
@[simp] theorem State.gopStart_guarded (s : State) (g : Gop) : (s.gopStart g).guarded = s.guarded := by simp [State.gopStart]
@[simp] theorem State.gopEnd_guarded (s : State) (late : Nat) : (s.gopEnd late).guarded = s.guarded := by
  unfold State.gopEnd; dsimp only; (repeat' split) <;> simp
@[simp] theorem State.gopQueue_guarded (s : State) (g : Gop) : (s.gopQueue g).guarded = s.guarded := by simp [State.gopQueue]
@[simp] theorem State.gop_guarded (s : State) (fabric : Bool) (op arg origin t : Nat) :
    (s.gop fabric op arg origin t).guarded = s.guarded := by simp [State.gop]

/-! Machine/Trigger -/

@[simp] theorem State.setBit_guarded (s : State) (f : FldDesc) (b : Nat) (on : Bool) (i : Nat) :
    (s.setBit f b on i).guarded = s.guarded := by simp [State.setBit]

/-! Machine/FabGop -/

@[simp] theorem State.barrierArrive_guarded (s : State) (fabric : Bool) (m origin : Nat) :
    (s.barrierArrive fabric m origin).guarded = s.guarded := by simp [State.barrierArrive]

/-! Machine/Calls -/

@[simp] theorem State.loadGo_guarded (s : State) : (s.loadGo).guarded = s.guarded := by simp [State.loadGo]
@[simp] theorem State.hallFree_guarded (s : State) (id : Nat) : (s.hallFree id).guarded = s.guarded := by
  unfold State.hallFree; split <;> simp
@[simp] theorem State.unload_guarded (s : State) (id : Nat) : (s.unload id).guarded = s.guarded := by
  unfold State.unload; split <;> simp
@[simp] theorem State.callAbort_guarded (s : State) (c : Nat) : (s.callAbort c).guarded = s.guarded := by
  simp [State.callAbort]

/-! Machine/RegWrite -/

@[simp] theorem State.actHigh_guarded (s0 s : State) (off i : Nat) (g : FldDesc → Nat) :
    (s0.actHigh s off i g).guarded = s.guarded := by simp [State.actHigh]

/-! Machine/Atrium -/

@[simp] theorem State.qEnable_guarded (s : State) (n : Nat) : (s.qEnable n).guarded = s.guarded := by simp [State.qEnable]
@[simp] theorem State.qUnhold_guarded (s : State) (n : Nat) : (s.qUnhold n).guarded = s.guarded := by simp [State.qUnhold]
@[simp] theorem State.qEmpty_guarded (s : State) (n : Nat) : (s.qEmpty n).guarded = s.guarded := by simp [State.qEmpty]
@[simp] theorem State.qDisable_guarded (s : State) (n : Nat) : (s.qDisable n).guarded = s.guarded := by simp [State.qDisable]

/-! Machine/Ledger -/

@[simp] theorem State.atqSave_guarded (s : State) (n : Nat) : (s.atqSave n).guarded = s.guarded := by simp [State.atqSave]

/-! Machine/Ops -/

@[simp] theorem State.sendMsix_guarded (s : State) (p v : Nat) : (s.sendMsix p v).guarded = s.guarded := by
  simp [State.sendMsix]

/-! Machine/Atrium -/

@[simp] theorem State.qSend_guarded (s : State) (n : Nat) : (s.qSend n).guarded = s.guarded := by simp [State.qSend]
@[simp] theorem State.qClose_guarded (s : State) (n : Nat) : (s.qClose n).guarded = s.guarded := by simp [State.qClose]
@[simp] theorem State.qArm_guarded (s : State) (n : Nat) : (s.qArm n).guarded = s.guarded := by simp [State.qArm]

/-! Machine/RegWrite -/

@[simp] theorem State.actAtq_guarded (s : State) (off i lo n : Nat) (g : FldDesc → Nat) :
    (s.actAtq off i lo n g).guarded = s.guarded := by simp [State.actAtq]
@[simp] theorem State.act_guarded (s0 s : State) (src : Nat) (r : RegRow) (i lo n v : Nat) (libOk : Bool) :
    (s0.act s src r i lo n v libOk).guarded = s.guarded := by simp [State.act]
@[simp] theorem State.regWrite_guarded (s : State) (src off size v : Nat) (libOk : Bool) :
    (s.regWrite src off size v libOk).guarded = s.guarded := by unfold State.regWrite; split <;> simp

/-! Machine/Injection -/

@[simp] theorem State.injPositions_guarded (s : State) (k unit : Nat) : (s.injPositions k unit).2.guarded = s.guarded := by
  unfold State.injPositions; split <;> simp
@[simp] theorem State.inject_guarded (s : State) (point : Nat) (hit : Nat → Bool) (unit : Nat) :
    (s.inject point hit unit).2.guarded = s.guarded := by simp [State.inject]
@[simp] theorem State.tlpIn_guarded (s : State) (p : Nat) : (s.tlpIn p).guarded = s.guarded := by simp [State.tlpIn]

/-! Machine/RegWrite -/

@[simp] theorem State.portWrite_guarded (s : State) (p off size v : Nat) (libOk : Bool) :
    (s.portWrite p off size v libOk).guarded = s.guarded := by simp [State.portWrite]

/-! Machine/RegRead -/

@[simp] theorem State.regRead_guarded (s : State) (p off size : Nat) : (s.regRead p off size).2.guarded = s.guarded := by
  unfold State.regRead; dsimp only; (repeat' split) <;> simp

/-! Machine/Slices -/

@[simp] theorem State.wingFlush_guarded (s : State) (w : Nat) : (s.wingFlush w).guarded = s.guarded := by
  simp [State.wingFlush]

/-! Machine/Home -/

@[simp] theorem State.sbPop_guarded (s : State) (c gl : Nat) : (s.sbPop c gl).guarded = s.guarded := by
  unfold State.sbPop; dsimp only; split <;> simp
@[simp] theorem State.fabAnswer_guarded (s : State) (seat tag : Nat) (gen : Bool) (kind : FKind) (gl : Nat) (d : Line)
    (p flag : Bool) : (s.fabAnswer seat tag gen kind gl d p flag).guarded = s.guarded := by simp [State.fabAnswer]
@[simp] theorem State.answerWrite_guarded (s : State) (r : Req) (flag : Bool) :
    (s.answerWrite r flag).guarded = s.guarded := by unfold State.answerWrite; split <;> simp
@[simp] theorem State.answerRead_guarded (s : State) (p tag gl : Nat) (d : Line) (poison : Bool) :
    (s.answerRead p tag gl d poison).guarded = s.guarded := by simp [State.answerRead]
@[simp] theorem State.giveUnits_guarded (s : State) (c gl : Nat) (d : Line) (p : Bool) :
    (s.giveUnits c gl d p).guarded = s.guarded := by unfold State.giveUnits; dsimp only; split <;> simp

/-! Machine/Tally -/

@[simp] theorem State.tagDraw_guarded (s : State) (core : Nat) : (s.tagDraw core).guarded = s.guarded := by
  simp [State.tagDraw]
@[simp] theorem State.tagRecord_guarded (s : State) (ws : List Nat) : (s.tagRecord ws).guarded = s.guarded := by
  simp [State.tagRecord]
@[simp] theorem State.sample_guarded (s : State) (c pc prog priv major outcome ea : Nat) :
    (s.sample c pc prog priv major outcome ea).guarded = s.guarded := by
  unfold State.sample; dsimp only; (repeat' split) <;> simp

/-! Machine/Context -/

@[simp] theorem State.faultNow_guarded (s : State) (c code addr major ea : Nat) :
    (s.faultNow c code addr major ea).guarded = s.guarded := by simp [State.faultNow]

/-! Machine/Home -/

@[simp] theorem State.l1iFill_guarded (s : State) (core gl : Nat) (d : Line) :
    (s.l1iFill core gl d).guarded = s.guarded := by simp [State.l1iFill]
@[simp] theorem State.answerData_guarded (s : State) (r : Req) (d : Line) (p : Bool) :
    (s.answerData r d p).guarded = s.guarded := by unfold State.answerData; split <;> simp

/-! Machine/Borrow -/

@[simp] theorem State.targetTimeout_guarded (s : State) (r : Req) : (s.targetTimeout r).guarded = s.guarded := by
  unfold State.targetTimeout; split <;> simp

/-! Machine/Home -/

@[simp] theorem State.delTxn_guarded (s : State) (gl : Nat) : (s.delTxn gl).guarded = s.guarded := by simp [State.delTxn]

/-! Machine/HostPort -/

@[simp] theorem State.poisonRead_guarded (s : State) (p tag : Nat) : (s.poisonRead p tag).guarded = s.guarded := by
  simp [State.poisonRead]

/-! Machine/Home -/

@[simp] theorem State.setTxn_guarded (s : State) (gl : Nat) (t : Txn) : (s.setTxn gl t).guarded = s.guarded := by
  simp [State.setTxn]
@[simp] theorem State.lookedUp_guarded (s : State) (r : Req) : (s.lookedUp r).guarded = s.guarded := by simp [State.lookedUp]
@[simp] theorem State.displace_guarded (s : State) (v : Nat) (byFilter : Bool) :
    (s.displace v byFilter).guarded = s.guarded := by simp [State.displace]

/-! Machine/Lines -/

@[simp] theorem State.filterDel_guarded (s : State) (gl : Nat) : (s.filterDel gl).guarded = s.guarded := by
  simp [State.filterDel]
@[simp] theorem State.filterAdd_guarded (s : State) (gl : Nat) : (s.filterAdd gl).guarded = s.guarded := by
  simp [State.filterAdd]
@[simp] theorem State.l2Touch_guarded (s : State) (w gl : Nat) : (s.l2Touch w gl).guarded = s.guarded := by
  unfold State.l2Touch; dsimp only; split <;> simp
@[simp] theorem State.wfill2_guarded (s : State) (c gl : Nat) (l : WLine) : (s.wfill2 c gl l).guarded = s.guarded := by
  simp [State.wfill2]
@[simp] theorem State.l1dTouch_guarded (s : State) (core gl : Nat) : (s.l1dTouch core gl).guarded = s.guarded := by
  simp [State.l1dTouch]
@[simp] theorem State.wfill_guarded (s : State) (c gl : Nat) (l : WLine) : (s.wfill c gl l).guarded = s.guarded := by
  simp [State.wfill]

/-! Machine/Home -/

@[simp] theorem State.readCopy_guarded (s : State) (c gl : Nat) (d : Line) (fetch : Bool) :
    (s.readCopy c gl d fetch).guarded = s.guarded := by simp [State.readCopy]

/-! Machine/FabReq -/

@[simp] theorem State.setLoan_guarded (s : State) (gl : Nat) (l : Loan) : (s.setLoan gl l).guarded = s.guarded := by
  simp [State.setLoan]

/-! Machine/Home -/

@[simp] theorem State.endRead_guarded (s : State) (t : Txn) (d : Line) (p : Bool) :
    (s.endRead t d p).guarded = s.guarded := by unfold State.endRead; split <;> simp
@[simp] theorem State.askMedia_guarded (s : State) (gl : Nat) (remote : Bool) :
    (s.askMedia gl remote).guarded = s.guarded := by simp [State.askMedia]
@[simp] theorem State.obtainBelow_guarded (s : State) (t : Txn) : (s.obtainBelow t).2.guarded = s.guarded := by
  unfold State.obtainBelow; (repeat' split) <;> simp
@[simp] theorem State.obtain_guarded (s : State) (t : Txn) (fl : Flips) : (s.obtain t fl).2.guarded = s.guarded := by
  unfold State.obtain
  split
  · split <;> simp [State.guarded_of_snd (State.checkWay_guarded ..) ‹_›]
  · simp
theorem State.fillRead_guarded {s : State} {gl : Nat} {d : Line} {p : Bool} {t : State} (h : s.fillRead gl d p = some t) :
    t.guarded = s.guarded := by
  revert h
  unfold State.fillRead
  (repeat' split)
  · rintro ⟨⟩; rfl
  · rintro ⟨⟩; simp
  · rintro ⟨⟩; rfl
  · intro h
    obtain ⟨x, hx, rfl⟩ := Option.map_eq_some_iff.mp h
    simp [State.allocWay_guarded hx]

/-! Machine/FabReq -/

@[simp] theorem State.grantTo_guarded (s : State) (gl seat : Nat) : (s.grantTo gl seat).guarded = s.guarded := by
  simp [State.grantTo]

/-! Machine/Home -/

@[simp] theorem State.predSet_guarded (s : State) (w gl v : Nat) : (s.predSet w gl v).guarded = s.guarded := by
  simp [State.predSet]
@[simp] theorem State.endOwn_guarded (s : State) (t : Txn) (d : Line) (p : Bool) : (s.endOwn t d p).guarded = s.guarded := by
  unfold State.endOwn; split <;> simp

/-! Machine/Lines -/

@[simp] theorem State.breachEnd_guarded (s : State) (gl : Nat) (mask : LineMask) (poison : Bool) :
    (s.breachEnd gl mask poison).guarded = s.guarded := by simp [State.breachEnd]

/-! Machine/Access -/

theorem State.homeWrite_guarded {s : State} {gl : Nat} {d : Line} {mask : LineMask} {poison : Bool} {base : Line × Bool}
    {zero : Bool} {t : State} (h : s.homeWrite gl d mask poison base zero = some t) : t.guarded = s.guarded := by
  simpa using State.homeStore_guarded h

/-! Machine/Home -/

theorem State.endAtomic_guarded {s : State} {t : Txn} {a : Atom} {d : Line} {p : Bool} {u : State}
    (h : s.endAtomic t a d p = some u) : u.guarded = s.guarded := by
  simp only [State.endAtomic] at h
  split at h
  · cases h; simp
  · obtain ⟨s1, h1, rfl⟩ := Option.map_eq_some_iff.mp h
    have := State.homeWrite_guarded h1
    (repeat' split) <;> simp_all

/-! Machine/Access -/

@[simp] theorem State.checkWrite_guarded (s : State) (gl : Nat) (mask : LineMask) (fl : Flips) :
    (s.checkWrite gl mask fl).guarded = s.guarded := by unfold State.checkWrite; split <;> simp

/-! Machine/Home -/

theorem State.endWrite_guarded {s : State} {t : Txn} {base : Line × Bool} {u : State} (h : s.endWrite t base = some u) :
    u.guarded = s.guarded := by
  obtain ⟨s1, h1, rfl⟩ := Option.map_eq_some_iff.mp h
  have := State.homeWrite_guarded h1
  dsimp only
  (repeat' split) <;> simp [this]
@[simp] theorem State.ownEffect_guarded (s : State) (t : Txn) (fl : Flips) : (s.ownEffect t fl).guarded = s.guarded := by
  have ho {g : Got} {a : State} (h : s.obtain t fl = (g, a)) : a.guarded = s.guarded :=
    State.guarded_of_snd (State.obtain_guarded ..) h
  unfold State.ownEffect
  extract_lets r g
  have hg : g.guarded = s.guarded := by simp [g]
  have hb {x : Got} {a : State} (h : g.obtainBelow t = (x, a)) : a.guarded = s.guarded :=
    (State.guarded_of_snd (State.obtainBelow_guarded ..) h).trans hg
  clear_value r g
  split
  case h_6 =>
    split
    · simp
    split
    · simp [ho ‹_›]
    split
    · obtain ⟨a, -, h⟩ := Option.bind_eq_some_iff.mp ‹_›
      rw [State.endAtomic_guarded h, ho ‹_›]
    · simp [ho ‹_›]
  all_goals (repeat' split)
  all_goals grind only [State.filterDel_guarded, State.delTxn_guarded, State.endRead_guarded, State.setTxn_guarded,
    State.fillRead_guarded, State.endOwn_guarded, State.endWrite_guarded]
@[simp] theorem State.effect_guarded (s : State) (t : Txn) (fl : Flips) : (s.effect t fl).guarded = s.guarded := by
  unfold State.effect; dsimp only; split <;> simp
@[simp] theorem State.refuseStore_guarded (s : State) (c gl : Nat) : (s.refuseStore c gl).guarded = s.guarded := by
  unfold State.refuseStore; split <;> simp
@[simp] theorem State.answerRefuse_guarded (s : State) (r : Req) : (s.answerRefuse r).guarded = s.guarded := by
  unfold State.answerRefuse; (repeat' split) <;> simp

/-! Machine/Access -/

@[simp] theorem State.setAcc_guarded (s : State) (n : Nat) (a : Acc) : (s.setAcc n a).guarded = s.guarded := by
  simp [State.setAcc]
@[simp] theorem State.logDiscard_guarded (s : State) (gl : Nat) (mask : LineMask) (src : Src) (atomic : Bool) :
    (s.logDiscard gl mask src atomic).guarded = s.guarded := by unfold State.logDiscard; (repeat' split) <;> simp

/-! Machine/Home -/

@[simp] theorem State.judge_guarded (s : State) (t : Txn) (fl : Flips) : (s.judge t fl).guarded = s.guarded := by
  unfold State.judge; dsimp only; (repeat' split) <;> simp

/-! Machine/FabReq -/

@[simp] theorem State.sendInvs_guarded (s : State) (gl : Nat) (sh : BitVec 64) : (s.sendInvs gl sh).guarded = s.guarded := by
  simp [State.sendInvs]

/-! Machine/Home -/

@[simp] theorem State.afterSnoop_guarded (s : State) (t : Txn) (fl : Flips) : (s.afterSnoop t fl).guarded = s.guarded := by
  unfold State.afterSnoop; dsimp only; split <;> simp
@[simp] theorem State.startReq_guarded (s : State) (r : Req) (waited : Bool) (fl : Flips) :
    (s.startReq r waited fl).guarded = s.guarded := by simp [State.startReq]
@[simp] theorem State.arriveReq_guarded (s : State) (r : Req) (fl : Flips) : (s.arriveReq r fl).guarded = s.guarded := by
  simp [State.arriveReq]

/-! Machine/HostPort -/

@[simp] theorem State.hostWriteLocal_guarded (s : State) (p tag gl : Nat) (d : Line) (mask : LineMask) (poison : Bool)
    (fl : Flips) : (s.hostWriteLocal p tag gl d mask poison fl).guarded = s.guarded := by simp [State.hostWriteLocal]

/-! Machine/Slices -/

@[simp] theorem State.seatEmptyLog_guarded (s : State) (gl : Nat) : (s.seatEmptyLog gl).guarded = s.guarded := by
  simp [State.seatEmptyLog]

/-! Machine/HostPort -/

@[simp] theorem State.hostWriteRemote_guarded (s : State) (p tag gl : Nat) (d : Line) (mask : LineMask) (poison : Bool) :
    (s.hostWriteRemote p tag gl d mask poison).guarded = s.guarded := by
  unfold State.hostWriteRemote; (repeat' split) <;> simp

/-! Machine/Lines -/

@[simp] theorem State.checkStruct_guarded (s : State) (structure_ inst gl : Nat) (d : Line) (fl : Flips) :
    (s.checkStruct structure_ inst gl d fl).2.guarded = s.guarded := by unfold State.checkStruct; dsimp only; split <;> simp

/-! Machine/Access -/

theorem State.collect_guarded {s : State} {gl : Nat} {t : State} (h : s.collect gl = some t) : t.guarded = s.guarded := by
  revert h
  unfold State.collect
  split
  · rintro ⟨⟩; simp
  · intro h; simpa using State.homeStore_guarded h
theorem State.writeHome_guarded {s : State} {gl : Nat} {d : Line} {mask : LineMask} {poison zero : Bool} {t : State}
    (h : s.writeHome gl d mask poison zero = some t) : t.guarded = s.guarded := by
  obtain ⟨a, ha, h⟩ := Option.bind_eq_some_iff.mp h
  simpa [State.collect_guarded ha] using State.homeWrite_guarded h

/-! Machine/Firmware -/

@[simp] theorem State.reply_guarded (s : State) (port code : Nat) (ws : (List Nat)) :
    (s.reply port code ws).guarded = s.guarded := by simp [State.reply]

/-! Machine/Mailbox -/

@[simp] theorem State.mailbox_guarded {s : State} {port : Nat} {inRom : Bool} {run : State → State} (h :
    (run s).guarded = s.guarded) : (s.mailbox port inRom run).guarded = s.guarded := by
  unfold State.mailbox
  (repeat' split) <;> simp [h]

/-! Machine/Firmware -/

@[simp] theorem State.fwMark_guarded (s : State) (set : Nat) (ok : Bool) : (s.fwMark set ok).guarded = s.guarded := by
  simp [State.fwMark]
@[simp] theorem State.fwByte_guarded (s : State) (o : Nat) (b : BitVec 8) : (s.fwByte o b).guarded = s.guarded := by
  unfold State.fwByte; (repeat' split) <;> simp
@[simp] theorem State.fwClose_guarded (s : State) : (s.fwClose).guarded = s.guarded := by simp [State.fwClose]
@[simp] theorem State.fwBlock_guarded (s : State) (data : Bytes) : (s.fwBlock data).2.guarded = s.guarded := by
  unfold State.fwBlock; dsimp only; split <;> simp
@[simp] theorem State.fwInitiate_guarded (s : State) (port : Nat) (data : Bytes) :
    (s.fwInitiate port data).2.guarded = s.guarded := by unfold State.fwInitiate; (repeat' split) <;> simp
@[simp] theorem State.fwEnd_guarded (s : State) (port slot : Nat) : (s.fwEnd port slot).2.guarded = s.guarded := by
  unfold State.fwEnd; (repeat' split) <;> simp
@[simp] theorem State.fwContinue_guarded (s : State) (port off : Nat) (data : Bytes) :
    (s.fwContinue port off data).2.guarded = s.guarded := by unfold State.fwContinue; (repeat' split) <;> simp
@[simp] theorem State.fwAborted_guarded (s : State) : (s.fwAborted).guarded = s.guarded := by simp [State.fwAborted]
@[simp] theorem State.fwBgDone_guarded (s : State) (code : Nat) : (s.fwBgDone code).guarded = s.guarded := by
  simp [State.fwBgDone]
@[simp] theorem State.fwSetHdr_guarded (s : State) (set : Nat) (h : BitVec 4096) :
    (s.fwSetHdr set h).guarded = s.guarded := by simp [State.fwSetHdr]
@[simp] theorem State.fwChecked_guarded (s : State) (code : Nat) : (s.fwChecked code).guarded = s.guarded := by
  simp [State.fwChecked]

/-! Machine/Mailbox -/

@[simp] theorem State.alertWrite_guarded (s : State) (a : Alerts) : (s.alertWrite a).guarded = s.guarded := by
  simp [State.alertWrite]

/-! Machine/Access -/

@[simp] theorem State.writeNow_guarded (s : State) (gl : Nat) (d : Line) (mask : LineMask) (src : Src) (zero : Bool) :
    (s.writeNow gl d mask src zero).2.guarded = s.guarded := by
  unfold State.writeNow
  split
  · split
    · exact State.writeHome_guarded ‹_›
    · rfl
  all_goals simp

/-! Machine/Atrium -/

@[simp] theorem State.qAppend_guarded (s : State) (n : Nat) (e : QEntry) (more : Bool) :
    (s.qAppend n e more).guarded = s.guarded := by simp [State.qAppend]
@[simp] theorem State.qPush_guarded (s : State) (n : Nat) (e : Line) (more permitted : Bool) :
    (s.qPush n e more permitted).guarded = s.guarded := by simp [State.qPush]
@[simp] theorem State.windowPush_guarded (s : State) (p n : Nat) (more : Bool) (off size : Nat) (d : Line) :
    (s.windowPush p n more off size d).guarded = s.guarded := by simp [State.windowPush]
@[simp] theorem State.qInject_guarded (s : State) (n : Nat) : (s.qInject n).2.guarded = s.guarded := by simp [State.qInject]
@[simp] theorem State.qTake_guarded (s : State) (n corr : Nat) (unc : Bool) :
    (s.qTake n corr unc).2.guarded = s.guarded := by unfold State.qTake; dsimp only; (repeat' split) <;> simp
@[simp] theorem State.windowPop_guarded (s : State) (port queue off size corr : Nat) (unc : Bool) :
    (s.windowPop port queue off size corr unc).guarded = s.guarded := by
  unfold State.windowPop
  split
  · simp
  split
  · simp
  dsimp only
  split
  · split <;> simp [State.guarded_of_snd (State.qTake_guarded ..) ‹_›]
  · simp

/-! Machine/Calls -/

@[simp] theorem State.invoke_guarded (s : State) (c prog entry cq : Nat) (p : Program) (d : Line) :
    (s.invoke c prog entry cq p d).guarded = s.guarded := by simp [State.invoke]
@[simp] theorem State.toIdle_guarded (s : State) (c : Nat) : (s.toIdle c).guarded = s.guarded := by simp [State.toIdle]
@[simp] theorem State.postCall_guarded (s : State) (c : Nat) : (s.postCall c).guarded = s.guarded := by simp [State.postCall]
@[simp] theorem State.loadDone_guarded (s : State) (status id src : Nat) :
    (s.loadDone status id src).guarded = s.guarded := by simp [State.loadDone]

/-! Machine/DevLine -/

@[simp] theorem State.readLocal_guarded (s : State) (gl : Nat) : (s.readLocal gl).2.guarded = s.guarded := by
  have hf (a : State) (x : Line × Bool) : ((a.fillRead gl x.1 x.2).getD a).guarded = a.guarded :=
    State.guarded_getD (fun _ h => State.fillRead_guarded h) rfl
  unfold State.readLocal
  dsimp only
  grind only [State.touch_guarded, State.checkWay_guarded]
theorem State.devRead_guarded {s : State} {ext : Ext} {gl : Nat} {x : (Line × Bool) × State}
    (h : s.devRead ext gl = some x) : x.2.guarded = s.guarded := by
  have hc w v := State.checkWay_guarded s gl w v Flips.none
  simp only [State.devRead, Option.map] at h
  grind only [State.touch_guarded, State.readLocal_guarded]
theorem State.devReadAll_guarded {s : State} {ext : Ext} {gls : List Nat} {x : List (Nat × Line × Bool) × State}
    (h : s.devReadAll ext gls = some x) : x.2.guarded = s.guarded := by
  have all (l : List Nat) (o : Option (List (Nat × Line × Bool) × State)) (ho : ∀ p, o = some p → p.2.guarded = s.guarded) :
      ∀ x, l.foldl (fun a gl => a.bind (fun p => (p.2.devRead ext gl).map (fun x => (p.1 ++ [(gl, x.1)], x.2)))) o = some x →
        x.2.guarded = s.guarded := by
    induction l generalizing o with
    | nil => exact ho
    | cons g l ih =>
      refine ih _ fun q hq => ?_
      obtain ⟨p, hp, hq⟩ := Option.bind_eq_some_iff.mp hq
      obtain ⟨y, hy, rfl⟩ := Option.map_eq_some_iff.mp hq
      exact (State.devRead_guarded hy).trans (ho p hp)
  exact all gls (some ([], s)) (by rintro _ ⟨⟩; rfl) x h

/-! Machine/Calls -/

@[simp] theorem State.hallCopy_guarded (s : State) (page : Nat) (b : Bytes) : (s.hallCopy page b).guarded = s.guarded := by
  simp [State.hallCopy]
@[simp] theorem State.install_guarded (s : State) (id page : Nat) (b : Bytes) (h : ImageHdr) (imports : List (Nat × Nat)) :
    (s.install id page b h imports).guarded = s.guarded := by simp [State.install]
@[simp] theorem State.loadImage_guarded (s : State) (b : Bytes) : (s.loadImage b).2.2.guarded = s.guarded := by
  unfold State.loadImage; (repeat' split) <;> simp

/-! Machine/Operands -/

@[simp] theorem State.attempt_guarded {s : State} {c : Nat} {run : Ctx → State} (h : ∀ x, (run x).guarded = s.guarded) :
    (s.attempt c run).guarded = s.guarded := by
  unfold State.attempt
  (repeat' split) <;> simp [h]

/-! Machine/Context -/

@[simp] theorem State.retire_guarded (s : State) (c : Nat) (x : Ctx) (next major ea : Nat) :
    (s.retire c x next major ea).guarded = s.guarded := by simp [State.retire]

/-! Machine/Operands -/

@[simp] theorem State.setAndGo_guarded (s : State) (c : Nat) (x : Ctx) (d : BitVec 5) (v : Word) (major : Nat) :
    (s.setAndGo c x d v major).guarded = s.guarded := by simp [State.setAndGo]
@[simp] theorem State.alu_guarded (s : State) (c major : Nat) (d : BitVec 5) (f : Ctx → Word) :
    (s.alu c major d f).guarded = s.guarded := by simp [State.alu]
@[simp] theorem State.wingCheck_guarded (s : State) (c gl : Nat) (l : WLine) (fl : Flips) :
    (s.wingCheck c gl l fl).2.guarded = s.guarded := by simp [State.wingCheck]
@[simp] theorem State.wingRead_guarded (s : State) (c gl : Nat) (fl : Flips) :
    (s.wingRead c gl fl).2.guarded = s.guarded := by
  unfold State.wingRead
  extract_lets s0
  have h0 : s0.guarded = s.guarded := by simp only [s0]; split <;> simp
  clear_value s0
  split
  · simp [h0]
  · split <;> simp [State.guarded_of_snd (State.wingCheck_guarded ..) ‹_›, h0]

/-! Machine/LoadStore -/

@[simp] theorem State.loadUnits_guarded (s : State) (c : Nat) (us : List (Nat × Nat)) (fl : Flips) :
    (s.loadUnits c us fl).2.guarded = s.guarded := by
  unfold State.loadUnits
  rw [State.guarded_foldl_snd fun _ _ => by dsimp only; split <;> simp]
@[simp] theorem State.loadEnd_guarded (s : State) (c : Nat) (l : LdEnt) : (s.loadEnd c l).guarded = s.guarded := by
  unfold State.loadEnd; split <;> simp
@[simp] theorem State.load_guarded (s : State) (c major n : Nat) (signed : Bool) (rd a : BitVec 5) (imm : BitVec 16)
    (fl : Flips) : (s.load c major n signed rd a imm fl).guarded = s.guarded := by
  refine State.attempt_guarded fun x => ?_
  dsimp only
  (repeat' split) <;> simp
@[simp] theorem State.store_guarded (s : State) (c major n : Nat) (d a : BitVec 5) (imm : BitVec 16) :
    (s.store c major n d a imm).guarded = s.guarded := by
  refine State.attempt_guarded fun x => ?_
  dsimp only
  (repeat' split) <;> simp

/-! Machine/Slices -/

@[simp] theorem State.loanCollect_guarded (s : State) (gl : Nat) (drop : Bool) :
    (s.loanCollect gl drop).guarded = s.guarded := by
  refine State.guarded_foldl (fun a w => ?_) _ _
  split
  · rfl
  · dsimp only; (repeat' split) <;> simp

/-! Machine/LoadStore -/

@[simp] theorem State.loanWrite_guarded (s : State) (gl w : Nat) (d : Line) (mask : LineMask) (p : Bool) :
    (s.loanWrite gl w d mask p).guarded = s.guarded := by simp [State.loanWrite]
theorem State.atomHere_guarded {s : State} {c : Nat} {l : LdEnt} {fl : Flips} {t : State} (h : s.atomHere c l fl = some t) :
    t.guarded = s.guarded := by
  unfold State.atomHere at h
  split at h
  · split at h
    · split at h
      · cases h
      · split at h
        · next hr =>
          have := State.guarded_of_snd (State.wingRead_guarded ..) hr
          dsimp only at h
          split at h <;> (obtain rfl := Option.some.inj h) <;> simp [this]
        · next hr =>
          obtain rfl := Option.some.inj h
          exact State.guarded_of_snd (State.wingRead_guarded ..) hr
    · dsimp only at h
      split at h
      · split at h
        · split at h
          · next hr =>
            have := State.guarded_of_snd (State.checkWay_guarded ..) hr
            split at h <;> (obtain rfl := Option.some.inj h) <;> simp [this]
          · next hr =>
            obtain rfl := Option.some.inj h
            simpa using State.guarded_of_snd (State.checkWay_guarded ..) hr
        · cases h
      · cases h
  · cases h
@[simp] theorem State.atomic_guarded (s : State) (c : Nat) (op : AtomOp) (wide : Bool) (d a b : BitVec 5) (fl : Flips) :
    (s.atomic c op wide d a b fl).guarded = s.guarded := by
  refine State.attempt_guarded fun x => ?_
  extract_lets ea n gl at_ near l s1
  have h1 : s1.guarded = s.guarded := by simp [s1]
  clear_value ea n gl at_ near l s1
  split
  · simp
  split
  · simp
  split
  · rfl
  split
  · next h =>
    split at h
    · simp [State.atomHere_guarded h, h1]
    · cases h
  · (repeat' split) <;> simp [h1]

/-! Machine/Control -/

@[simp] theorem State.branch_guarded (s : State) (c major : Nat) (d a : BitVec 5) (imm : BitVec 16)
    (f : Word → Word → Bool) : (s.branch c major d a imm f).guarded = s.guarded := by simp [State.branch]
@[simp] theorem State.fenced_guarded {s : State} {c : Nat} {run : Ctx → State} (h : ∀ x, (run x).guarded = s.guarded) :
    (s.fenced c run).guarded = s.guarded := by exact State.attempt_guarded fun x => by split <;> simp [h]
@[simp] theorem State.fenceEnd_guarded (s : State) (c : Nat) (d : BitVec 5) (lost : Bool) :
    (s.fenceEnd c d lost).guarded = s.guarded := by simp [State.fenceEnd]
@[simp] theorem State.fenceGo_guarded (s : State) (c : Nat) (d : BitVec 5) (g : GFence) :
    (s.fenceGo c d g).guarded = s.guarded := by simp [State.fenceGo]
@[simp] theorem State.psynced_guarded {s : State} {c : Nat} {run : Ctx → State} (h : ∀ x, (run x).guarded = s.guarded) :
    (s.psynced c run).guarded = s.guarded := by exact State.fenced_guarded fun x => by split <;> simp [h]

/-! Machine/Jobs -/

@[simp] theorem State.withLine_guarded {s : State} {c major addr : Nat} {ext : Ext} {run : State → Line → State}
    (h : ∀ a l, (run a l).guarded = a.guarded) : (s.withLine c major addr ext run).guarded = s.guarded := by
  unfold State.withLine
  split
  · simp
  split
  · rfl
  · simp [State.devRead_guarded ‹_›]
  · simp [State.devRead_guarded ‹_›, h]
@[simp] theorem State.jsub_guarded (s : State) (c : Nat) (kind : JobKind) (d a : BitVec 5) (ext : Ext) :
    (s.jsub c kind d a ext).guarded = s.guarded := by simp [State.jsub]
@[simp] theorem State.jobStatus_guarded (s : State) (c : Nat) (x : Ctx) (d : BitVec 5) (addr : Nat) (ext : Ext) :
    (s.jobStatus c x d addr ext).guarded = s.guarded := by unfold State.jobStatus; split <;> simp

/-! Machine/LoadStore -/

theorem State.intoHeld_guarded {s : State} {c gl : Nat} {d : Line} {mask : LineMask} {p : Bool} {t : State}
    (h : s.intoHeld c gl d mask p = some t) : t.guarded = s.guarded := by
  unfold State.intoHeld at h
  split at h
  · split at h
    · obtain rfl := Option.some.inj h
      simp
    · cases h
  · split at h
    · split at h
      · obtain rfl := Option.some.inj h
        simp
      · cases h
    · cases h

/-! Machine/DevLine -/

theorem State.devWrite_guarded {s : State} {c gl : Nat} {d : Line} {mask : LineMask} {src : Src} {zero : Bool}
    {x : Verdict × State} (h : s.devWrite c gl d mask src zero = some x) : x.2.guarded = s.guarded := by
  revert h
  unfold State.devWrite
  extract_lets s1
  have h1 : s1.guarded = s.guarded := by simp [s1]
  clear_value s1
  (repeat' split) <;> rintro ⟨⟩ <;> simp [h1]
  rw [State.intoHeld_guarded ‹_›, h1]

/-! Machine/Services -/

@[simp] theorem State.qTakeInto_guarded (s : State) (c : Nat) (d a b : BitVec 5) (corr : Nat) (unc wait : Bool) :
    (s.qTakeInto c d a b corr unc wait).guarded = s.guarded := by
  refine State.fenced_guarded fun x => ?_
  dsimp only
  (repeat' split) <;> simp
  simp [State.devWrite_guarded ‹_›]
@[simp] theorem State.accBegin_guarded (s : State) (c : Nat) (d : BitVec 5) (n : Nat) (a : Acc) :
    (s.accBegin c d n a).guarded = s.guarded := by simp [State.accBegin]
@[simp] theorem State.floor_guarded {s : State} {c : Nat} {low : Priv} {major : Nat} {run : Ctx → State} (h : ∀ x,
    (run x).guarded = s.guarded) : (s.floor c low major run).guarded = s.guarded := by
  exact State.fenced_guarded fun x => by split <;> simp [h]

/-! Machine/RegionOps -/

@[simp] theorem State.rgnRefuse_guarded (s : State) (c : Nat) (d : BitVec 5) (code : Nat) :
    (s.rgnRefuse c d code).guarded = s.guarded := by simp [State.rgnRefuse]
@[simp] theorem State.rgnBegin_guarded (s : State) (c : Nat) (d : BitVec 5) (kind : RgnKind) (n : Nat) (new : Region)
    (adjusted : Bool) : (s.rgnBegin c d kind n new adjusted).guarded = s.guarded := by simp [State.rgnBegin]
@[simp] theorem State.rgnCreate_guarded (s : State) (c : Nat) (d : BitVec 5) (l : Line) :
    (s.rgnCreate c d l).guarded = s.guarded := by simp [State.rgnCreate]
@[simp] theorem State.rgnChange_guarded (s : State) (c : Nat) (d : BitVec 5) (l : Line) :
    (s.rgnChange c d l).guarded = s.guarded := by simp [State.rgnChange]
@[simp] theorem State.rgnDelete_guarded (s : State) (c : Nat) (d : BitVec 5) (a : Nat) :
    (s.rgnDelete c d a).guarded = s.guarded := by simp [State.rgnDelete]

/-! Machine/Services -/

@[simp] theorem State.drawKey_guarded (s : State) : (s.drawKey).2.guarded = s.guarded := by simp [State.drawKey]
theorem State.keyFrom_guarded {s : State} {slot : Nat} {l : Line} {x : KeySlot × State} (h : s.keyFrom slot l = .inr x) :
    x.2.guarded = s.guarded := by
  revert h
  unfold State.keyFrom
  dsimp only
  (repeat' split) <;> rintro ⟨⟩ <;> simp
@[simp] theorem State.keyBegin_guarded (s : State) (c : Nat) (d : BitVec 5) (slot : Nat) (new : Option KeySlot) :
    (s.keyBegin c d slot new).guarded = s.guarded := by simp [State.keyBegin]

/-! Machine/Lines -/

@[simp] theorem State.checkWingWrite_guarded (s : State) (w gl : Nat) (l : WLine) (mask : LineMask) (sub : Nat) :
    (s.checkWingWrite w gl l mask sub).2.guarded = s.guarded := by
  unfold State.checkWingWrite; dsimp only; (repeat' split) <;> simp

/-! Machine/Operands -/

@[simp] theorem State.wingWrite_guarded (s : State) (c gl : Nat) (l : WLine) (d : Line) (mask : LineMask) (poison : Bool) :
    (s.wingWrite c gl l d mask poison).guarded = s.guarded := by simp [State.wingWrite]

/-! Machine/LoadStore -/

@[simp] theorem State.remoteLeave_guarded (s : State) (c : Nat) (e : SbEnt) (p loan : Bool) :
    (s.remoteLeave c e p loan).guarded = s.guarded := by
  unfold State.remoteLeave
  extract_lets gl a
  have ha : a.guarded = s.guarded := by simp [a]
  clear_value a
  (repeat' split) <;> simp [ha]
  simp [State.intoHeld_guarded ‹_›, ha]

/-! Machine/Calls -/

@[simp] theorem State.sbDrop_guarded (s : State) (c : Nat) : (s.sbDrop c).guarded = s.guarded := by
  unfold State.sbDrop; split <;> simp
@[simp] theorem State.sbDropStuck_guarded (s : State) (c : Nat) (asked : Bool) :
    (s.sbDropStuck c asked).guarded = s.guarded := by
  refine State.guarded_foldl (fun a _ => ?_) _ _
  split
  · rfl
  · split <;> simp

/-! Machine/DevLine -/

theorem State.devWord_guarded {s : State} {c addr v : Nat} {src : Src} {x : Verdict × State}
    (h : s.devWord c addr v src = some x) : x.2.guarded = s.guarded := by exact State.devWrite_guarded h

/-! Machine/Jobs -/

theorem State.jobEnd_guarded {s : State} {c desc code value : Nat} {t : State} (h : s.jobEnd c desc code value = some t) :
    t.guarded = s.guarded := by
  obtain ⟨r, hr, rfl⟩ := Option.map_eq_some_iff.mp h
  simp [State.devWord_guarded hr]
@[simp] theorem State.jobEnd_getD_guarded (s : State) (c desc code value : Nat) :
    ((s.jobEnd c desc code value).getD s).guarded = s.guarded :=
  State.guarded_getD (fun _ h => State.jobEnd_guarded h) rfl

/-! Machine/Services -/

@[simp] theorem State.recallWhere_guarded (s : State) (p : Nat → Bool) : (s.recallWhere p).guarded = s.guarded := by
  simp [State.recallWhere]
@[simp] theorem State.sealBegin_guarded (s : State) (x : Seal) : (s.sealBegin x).guarded = s.guarded := by
  simp [State.sealBegin]

/-! Machine/Jobs -/

@[simp] theorem State.setJob_guarded (s : State) (c : Nat) (j : Job) : (s.setJob c j).guarded = s.guarded := by
  simp [State.setJob]

/-! Machine/Services -/

@[simp] theorem State.sealStart_guarded (s : State) (c e : Nat) (j : Job) : (s.sealStart c e j).guarded = s.guarded := by
  unfold State.sealStart
  dsimp only
  split <;> simp

/-! Machine/Jobs -/

@[simp] theorem State.jobStart_guarded (s : State) (c e : Nat) (j : Job) : (s.jobStart c e j).guarded = s.guarded := by
  unfold State.jobStart
  dsimp only
  (repeat' split) <;> simp
@[simp] theorem State.jobLines_guarded (s : State) (c desc : Nat) (zero : Bool) (l : List (Nat × Line × LineMask))
    (n : Nat) : (s.jobLines c desc zero l n).1.guarded = s.guarded := by
  induction l generalizing s n with
  | nil => rfl
  | cons e r ih =>
    unfold State.jobLines
    split
    · rfl
    · next h => rw [ih, State.devWrite_guarded h]
    · next h => rw [ih, State.devWrite_guarded h]
theorem State.jobWritten_guarded {s : State} {c desc : Nat} {o : JobOut} {t : State} (h : s.jobWritten c desc o = some t) :
    t.guarded = s.guarded := by
  unfold State.jobWritten at h
  (repeat' split at h) <;> exact State.jobEnd_guarded h
@[simp] theorem State.jobDrive_guarded (s : State) (c desc : Nat) : (s.jobDrive c desc).guarded = s.guarded := by
  unfold State.jobDrive
  split
  · rfl
  split
  · rfl
  dsimp only
  split
  · simp
  · exact State.guarded_getD (fun _ h => by simp [State.jobWritten_guarded h]) (by simp)
theorem State.cipherPlan_guarded {s : State} {j : Job} {ext : Ext} {wrote : List Nat} {x : JobPlan × State}
    (h : s.cipherPlan j ext wrote = some x) : x.2.guarded = s.guarded := by
  revert h
  unfold State.cipherPlan
  extract_lets q ad
  clear_value ad
  split
  · rintro ⟨⟩; rfl
  split
  · rintro ⟨⟩; rfl
  split
  · rintro ⟨⟩; rfl
  split
  · rintro ⟨⟩; rfl
  intro h
  obtain ⟨a, ha, h⟩ := Option.bind_eq_some_iff.mp h
  obtain ⟨b, hb, h⟩ := Option.bind_eq_some_iff.mp h
  obtain ⟨e, he, h⟩ := Option.bind_eq_some_iff.mp h
  obtain ⟨f, hf, rfl⟩ := Option.map_eq_some_iff.mp h
  have hs : f.2.guarded = s.guarded := by
    rw [State.devReadAll_guarded hf, State.devReadAll_guarded he, State.devReadAll_guarded hb, State.devReadAll_guarded ha]
  dsimp only
  split <;> exact hs
@[simp] theorem State.dupCheck_guarded (s : State) (e dup : Nat) : (s.dupCheck e dup).2.guarded = s.guarded := by
  unfold State.dupCheck; dsimp only; (repeat' split) <;> simp
@[simp] theorem State.jobPlanned_guarded (s : State) (c : Nat) (j : Job) (p : JobPlan) :
    (s.jobPlanned c j p).guarded = s.guarded := by
  unfold State.jobPlanned
  split <;> simp
@[simp] theorem State.macFail_guarded (s : State) (p : JobPlan) : (s.macFail p).guarded = s.guarded := by
  simp [State.macFail]
theorem State.moverPlan_guarded {s : State} {j : Job} {ext : Ext} {wrote : List Nat} {x : JobPlan × State}
    (h : s.moverPlan j ext wrote = some x) : x.2.guarded = s.guarded := by
  revert h
  simp only [State.moverPlan]
  (repeat' split) <;> (try (rintro ⟨⟩; rfl))
  intro h
  obtain ⟨a, ha, rfl⟩ := Option.map_eq_some_iff.mp h
  split <;> exact State.devReadAll_guarded ha

/-! Machine/Slices -/

theorem State.vacate_guarded {s : State} {w : Nat} {v : VLine} {t : State} (h : s.vacate w v = some t) :
    t.guarded = s.guarded := by
  unfold State.vacate at h
  split at h
  · cases h
  · exact State.evictWay_guarded h

/-! Machine/Services -/

@[simp] theorem State.toBuilderSide_guarded (s : State) (gl : Nat) : (s.toBuilderSide gl).guarded = s.guarded := by
  unfold State.toBuilderSide
  split
  · rfl
  · next s1 h1 =>
    rw [← State.collect_guarded h1]
    (repeat' split) <;> try simp
    exact State.guarded_getD (fun _ h => State.vacate_guarded h) rfl
@[simp] theorem State.allToBuilders_guarded (s : State) (p : Nat → Bool) : (s.allToBuilders p).guarded = s.guarded := by
  simp [State.allToBuilders]
@[simp] theorem State.setSeal_guarded (s : State) (x : Seal) : (s.setSeal x).guarded = s.guarded := by simp [State.setSeal]
@[simp] theorem State.sealFail_guarded (s : State) (x : Seal) (code : Nat) : (s.sealFail x code).guarded = s.guarded := by
  unfold State.sealFail
  extract_lets back
  have hb (a : State) : (back a).guarded = a.guarded := by simp [back]
  split
  · exact hb s
  · split
    · rfl
    · rw [hb, State.jobEnd_guarded ‹_›]
@[simp] theorem State.sealHashed_guarded (s : State) (x : Seal) : (s.sealHashed x).guarded = s.guarded := by
  unfold State.sealHashed
  split
  · rfl
  · next h => dsimp only; (repeat' split) <;> simp [State.devReadAll_guarded h]

/-! Machine/Leaf -/

@[simp] theorem State.forgetLeaves_guarded (s : State) (p : Nat) : (s.forgetLeaves p).guarded = s.guarded := by
  simp [State.forgetLeaves]

/-! Machine/Retire -/

@[simp] theorem State.takeTile_guarded (s : State) (p : Nat) : (s.takeTile p).guarded = s.guarded := by simp [State.takeTile]
@[simp] theorem State.setCode_guarded (s : State) (n : Nat) (light : Bool) : (s.setCode n light).guarded = s.guarded := by
  simp [State.setCode]

/-! Machine/Ops -/

@[simp] theorem State.tChan_guarded (s : State) (c code v : Nat) : (s.tChan c code v).guarded = s.guarded := by
  simp [State.tChan]

/-! Machine/Leaf -/

@[simp] theorem State.putImage_guarded (s : State) (p n : Nat) (i : Image) : (s.putImage p n i).guarded = s.guarded := by
  simp [State.putImage]

/-! Machine/Retire -/

@[simp] theorem State.blank_guarded (s : State) (n : Nat) : (s.blank n).guarded = s.guarded := by simp [State.blank]
theorem State.readyStripe_guarded {s : State} {n : Nat} {light : Bool} {t : State} (h : s.readyStripe n light = some t) :
    t.guarded = s.guarded := by
  revert h
  unfold State.readyStripe
  dsimp only
  (repeat' split) <;> rintro ⟨⟩ <;> simp
theorem State.allocTile_guarded {s : State} {light : Bool} {pick : Nat} {x : Nat × State}
    (h : s.allocTile light pick = some x) : x.2.guarded = s.guarded := by
  revert h
  unfold State.allocTile
  (repeat' split)
  · rintro ⟨⟩; simp
  · intro h
    obtain ⟨p, -, rfl⟩ := Option.map_eq_some_iff.mp h
    simp
  · intro h
    obtain ⟨s1, h1, h⟩ := Option.bind_eq_some_iff.mp h
    obtain ⟨p, -, rfl⟩ := Option.map_eq_some_iff.mp h
    simp [State.readyStripe_guarded h1]

/-! Machine/MediaWrite -/

theorem State.placeFor_guarded {s : State} {t n pick : Nat} {x : Nat × Nat × State} (h : s.placeFor t n pick = some x) :
    x.2.2.guarded = s.guarded := by
  revert h
  unfold State.placeFor
  extract_lets e due s1
  (repeat' split)
  · rintro ⟨⟩; simp [s1]
  · intro h
    obtain ⟨x, hx, rfl⟩ := Option.map_eq_some_iff.mp h
    simp [State.allocTile_guarded hx]
  · rintro ⟨⟩; rfl
  · rintro ⟨⟩; simp

/-! Machine/Leaf -/

@[simp] theorem State.countRead_guarded (s : State) (p : Nat) : (s.countRead p).guarded = s.guarded := by
  simp [State.countRead]

/-! Machine/Conserve -/

@[simp] theorem State.writeWithParity_guarded (s : State) (p n : Nat) (i : Image) :
    (s.writeWithParity p n i).guarded = s.guarded := by simp [State.writeWithParity]

/-! Machine/SealRecord -/

theorem State.writeThrough_guarded {s : State} {gl : Nat} {d : Line} {t : State} (h : s.writeThrough gl d = some t) :
    t.guarded = s.guarded := by
  revert h
  unfold State.writeThrough
  extract_lets t n s0 pick
  have h0 : s0.guarded = s.guarded := by simp [s0]
  clear_value s0
  split
  · next hp _ =>
    extract_lets st old plain
    have := State.placeFor_guarded hp
    split
    · rintro ⟨⟩
    · rintro ⟨⟩
      simp_all
  · rintro ⟨⟩
theorem State.sealPut_guarded {s : State} {gl : Nat} {d : Line} {t : State} (h : s.sealPut gl d = some t) :
    t.guarded = s.guarded := by
  revert h
  unfold State.sealPut
  extract_lets now
  have hn {u : State} (h : now = some u) : u.guarded = s.guarded := by
    simp only [now] at h
    split at h
    · next hw => cases h; exact State.guarded_of_snd (State.writeNow_guarded ..) hw
    · cases h
  clear_value now
  split
  · cases hw : s.writeThrough gl d with
    | none => exact hn
    | some u => rintro ⟨⟩; exact State.writeThrough_guarded hw
  · exact hn
theorem State.sealFinish_guarded {s : State} {x : Seal} {t : State} (h : s.sealFinish x = some t) :
    t.guarded = s.guarded := by
  unfold State.sealFinish at h
  extract_lets a gl put at h
  have hp (l : List (Line × Nat)) (o : Option State) (ho : ∀ u, o = some u → u.guarded = s.guarded) :
      ∀ u, l.foldl put o = some u → u.guarded = s.guarded := by
    induction l generalizing o with
    | nil => exact ho
    | cons e l ih =>
      refine ih _ fun u hu => ?_
      cases o with
      | none => cases hu
      | some v =>
        simp only [put] at hu
        split at hu
        · cases hu
        · rw [State.sealPut_guarded hu, ho v rfl]
  obtain ⟨u, hu, h⟩ := Option.bind_eq_some_iff.mp h
  have hs := hp _ _ (by rintro u ⟨⟩; rfl) u hu
  dsimp only at h
  split at h
  · cases h; simpa using hs
  · rw [State.jobEnd_guarded h]; simpa using hs

/-! Machine/RegionOps -/

@[simp] theorem State.setRgnOp_guarded (s : State) (o : RgnOp) : (s.setRgnOp o).guarded = s.guarded := by
  simp [State.setRgnOp]
@[simp] theorem State.pullWings_guarded (s : State) (p : Nat → Bool) : (s.pullWings p).guarded = s.guarded := by
  simp [State.pullWings]
@[simp] theorem State.stageEntries_guarded (s : State) (p : Nat → Bool) : (s.stageEntries p).guarded = s.guarded := by
  simp [State.stageEntries]
@[simp] theorem State.stageLines_guarded (s : State) (p : Nat → Bool) : (s.stageLines p).guarded = s.guarded := by
  simp [State.stageLines]
@[simp] theorem State.rgnSettle_guarded (s : State) (o : RgnOp) (p : Nat → Bool) :
    (s.rgnSettle o p).guarded = s.guarded := by simp [State.rgnSettle]
@[simp] theorem State.dropLines_guarded (s : State) (p : Nat → Bool) : (s.dropLines p).guarded = s.guarded := by
  simp [State.dropLines]
@[simp] theorem State.rgnSwitch_guarded (s : State) (o : RgnOp) (sl : Nat) : (s.rgnSwitch o sl).guarded = s.guarded := by
  unfold State.rgnSwitch; split <;> simp

/-! Machine/Services -/

@[simp] theorem State.opDone_guarded (s : State) (c major v : Nat) : (s.opDone c major v).guarded = s.guarded := by
  unfold State.opDone; dsimp only; split <;> simp

/-! Machine/Logs -/

@[simp] theorem State.journalGroup_guarded (s : State) (l : List (Nat × Nat × Nat × Nat)) :
    (s.journalGroup l).guarded = s.guarded := by simp [State.journalGroup]

/-! Machine/Builders -/

@[simp] theorem State.unloseTiles_guarded (s : State) (p : Nat → Bool) : (s.unloseTiles p).guarded = s.guarded := by
  simp [State.unloseTiles]
@[simp] theorem State.unmap_guarded (s : State) (t n : Nat) : (s.unmap t n).guarded = s.guarded := by simp [State.unmap]

/-! Machine/RegionOps -/

@[simp] theorem State.rgnUnmap_guarded (s : State) (o : RgnOp) : (s.rgnUnmap o).guarded = s.guarded := by
  simp [State.rgnUnmap]

/-! Machine/Slices -/

@[simp] theorem State.fetchHit_guarded (s : State) (c gl : Nat) (fl : Flips) :
    (s.fetchHit c gl fl).2.guarded = s.guarded := by
  unfold State.fetchHit
  split
  · rfl
  split
  · simp
  · split <;> simp [State.guarded_of_snd (State.checkWing_guarded ..) ‹_›]
theorem State.fetchHit_fst_guarded {s : State} {c gl : Nat} {fl : Flips} {t : State} (h : (s.fetchHit c gl fl).1 = some t) :
    t.guarded = s.guarded := by
  revert h
  unfold State.fetchHit
  (repeat' split) <;> rintro ⟨⟩
  · simp
  · simp [State.guarded_of_snd (State.checkWing_guarded ..) ‹_›]
@[simp] theorem State.loanCopy_guarded (s : State) (gl : Nat) (lent : Lent) (src : Src) (d : Line) :
    (s.loanCopy gl lent src d).guarded = s.guarded := by unfold State.loanCopy; split <;> simp
@[simp] theorem State.readRemote_guarded (s0 : State) (gl : Nat) (src : Src) (keep : Bool) (fl : Flips) :
    (s0.readRemote gl src keep fl).guarded = s0.guarded := by
  unfold State.readRemote
  extract_lets s ask s1
  have ha (x : State) : (ask x).guarded = x.guarded := by
    simp only [ask]
    (repeat' split) <;> simp
  have h1 : s1.guarded = s0.guarded := by simp [s1, s]
  clear_value ask s1
  split
  · simp [ha, s]
  · split
    · dsimp only
      split <;> simp [State.guarded_of_snd (State.checkWay_guarded ..) ‹_›, h1]
    · simp [ha, State.guarded_of_snd (State.checkWay_guarded ..) ‹_›, h1]
theorem State.snoopDone_guarded {s : State} {t : Txn} {fl : Flips} {u : State} (h : s.snoopDone t fl = some u) :
    u.guarded = s.guarded := by
  unfold State.snoopDone at h
  extract_lets gl s0 at h
  have h0 {a : State} (h : s0 = some a) : a.guarded = s.guarded := by
    simp only [s0] at h
    split at h
    · exact State.dirtyHome_guarded h
    · cases h; rfl
  obtain ⟨a, ha, rfl⟩ := Option.map_eq_some_iff.mp h
  rw [← h0 ha]
  dsimp only
  (repeat' split) <;> simp
@[simp] theorem State.evWritten_guarded (s : State) (e : EvEnt) (d : Line) : (s.evWritten e d).guarded = s.guarded := by
  simp [State.evWritten]
@[simp] theorem State.lowDrain_guarded (s : State) (sl set : Nat) : (s.lowDrain sl set).guarded = s.guarded := by
  unfold State.lowDrain; split <;> simp
@[simp] theorem State.vacateAll_guarded (s : State) (l : List (Nat × VLine)) : (s.vacateAll l).1.guarded = s.guarded := by
  refine State.guarded_foldl_fst (fun a e => ?_) _ _
  split
  · exact State.vacate_guarded ‹_›
  · rfl

/-! Machine/Ops -/

@[simp] theorem State.tHeard_guarded (s : State) (seat : Nat) : (s.tHeard seat).guarded = s.guarded := by simp [State.tHeard]

/-! Machine/Borrow -/

@[simp] theorem State.fabFresh_guarded {s : State} {seat tag : Nat} {gen : Bool} {kind : FKind} {gl : Nat}
    {run : State → State} (h : ∀ a, a.guarded = s.guarded → (run a).guarded = s.guarded) :
    (s.fabFresh seat tag gen kind gl run).guarded = s.guarded := by
  unfold State.fabFresh
  dsimp only
  (repeat' split) <;> simp
  exact h _ rfl
@[simp] theorem State.fabArrive_guarded {s : State} {seat tag : Nat} {gen : Bool} {kind : FKind} {gl : Nat}
    {run : State → State} (h : ∀ a, a.guarded = s.guarded → (run a).guarded = s.guarded) :
    (s.fabArrive seat tag gen kind gl run).guarded = s.guarded := by
  unfold State.fabArrive
  have fresh (e : State) (he : e = s.tHeard seat) : (e.fabFresh seat tag gen kind gl run).guarded = s.guarded := by
    subst he
    simpa using State.fabFresh_guarded (s := s.tHeard seat) fun a ha => by simpa using h a (by simpa using ha)
  dsimp only
  (repeat' split) <;> simp [fresh]
@[simp] theorem State.recallEnded_guarded (s : State) (gl : Nat) : (s.recallEnded gl).guarded = s.guarded := by
  simp [State.recallEnded]
theorem State.deliverHome_guarded {s : State} {seat tag : Nat} {gen : Bool} {gl : Nat} {d : Line} {mask : LineMask}
    {p : Bool} {t : State} (h : s.deliverHome seat tag gen gl d mask p = some t) : t.guarded = s.guarded := by
  unfold State.deliverHome at h
  split at h
  · cases h; simp
  split at h
  · cases h
  · exact State.writeHome_guarded h
@[simp] theorem State.afterRecall_guarded (s : State) (gl : Nat) (fl : Flips) :
    (s.afterRecall gl fl).guarded = s.guarded := by unfold State.afterRecall; split <;> simp
theorem State.endGrant_guarded {s : State} {seat tag : Nat} {gen : Bool} {kind : FKind} {gl : Nat} {bytes : Option
    (Line × LineMask × Bool)} {fl : Flips} {t : State} (h : s.endGrant seat tag gen kind gl bytes fl = some t) :
    t.guarded = s.guarded := by
  revert h
  unfold State.endGrant
  split
  · rintro ⟨⟩; simp
  split
  · rintro ⟨⟩
  extract_lets due s0 s1 s2
  have h1 : s1.guarded = s.guarded := by simp [s1, s0]
  have h2 {a : State} (h : s2 = some a) : a.guarded = s.guarded := by
    simp only [s2] at h
    (repeat' split at h)
    · cases h; exact h1
    · rw [State.deliverHome_guarded h, h1]
    · cases h; exact h1
  intro h
  obtain ⟨a, ha, rfl⟩ := Option.map_eq_some_iff.mp h
  simp [h2 ha]
@[simp] theorem State.freqDel_guarded (s : State) (seat tag : Nat) : (s.freqDel seat tag).guarded = s.guarded := by
  simp [State.freqDel]

/-! Machine/FabReq -/

@[simp] theorem State.takeOwned_guarded (s : State) (gl : Nat) (e : OutEnt) : (s.takeOwned gl e).guarded = s.guarded := by
  simp [State.takeOwned]

/-! Machine/Borrow -/

@[simp] theorem State.takeLoan_guarded (s : State) (gl : Nat) (d : Line) (p owned : Bool) :
    (s.takeLoan gl d p owned).guarded = s.guarded := by
  unfold State.takeLoan
  split
  · next h =>
    split at h
    · cases h
    · have := State.allocWay_guarded h
      dsimp only
      split <;> simpa using this
  · split <;> simp
@[simp] theorem State.storeFwrite_guarded (s : State) (c gl : Nat) : (s.storeFwrite c gl).guarded = s.guarded := by
  unfold State.storeFwrite; split <;> simp
@[simp] theorem State.fwdSend_guarded (s : State) (gl : Nat) : (s.fwdSend gl).guarded = s.guarded := by
  unfold State.fwdSend; (repeat' split) <;> simp
@[simp] theorem State.fwdNext_guarded (s : State) (seat : Nat) : (s.fwdNext seat).guarded = s.guarded := by
  unfold State.fwdNext; split <;> simp
@[simp] theorem State.fencePerformed_guarded (s : State) (gl : Nat) : (s.fencePerformed gl).guarded = s.guarded := by
  simp [State.fencePerformed]

/-! Machine/FabReq -/

@[simp] theorem State.delOut_guarded (s : State) (gl : Nat) : (s.delOut gl).guarded = s.guarded := by simp [State.delOut]

/-! Machine/Borrow -/

@[simp] theorem State.endInv_guarded (s : State) (seat tag gl : Nat) (fl : Flips) :
    (s.endInv seat tag gl fl).guarded = s.guarded := by unfold State.endInv; dsimp only; split <;> simp
@[simp] theorem State.setFreq_guarded (s : State) (r : FReq) : (s.setFreq r).guarded = s.guarded := by simp [State.setFreq]
@[simp] theorem State.fenceLost_guarded (s : State) (gl : Nat) : (s.fenceLost gl).guarded = s.guarded := by
  simp [State.fenceLost]

/-! Machine/FabReq -/

@[simp] theorem State.fwdAdd_guarded (s : State) (gl : Nat) (data : Line) (mask : LineMask) (poison release : Bool)
    (ctxs : List Nat) : (s.fwdAdd gl data mask poison release ctxs).guarded = s.guarded := by simp [State.fwdAdd]

/-! Machine/Borrow -/

@[simp] theorem State.deliveryLost_guarded (s : State) (r : FReq) : (s.deliveryLost r).guarded = s.guarded := by
  unfold State.deliveryLost; (repeat' split) <;> simp
@[simp] theorem State.writeLost_guarded (s : State) (r : FReq) : (s.writeLost r).guarded = s.guarded := by
  unfold State.writeLost; split <;> simp
@[simp] theorem State.requestLost_guarded (s : State) (r : FReq) (fl : Flips) :
    (s.requestLost r fl).guarded = s.guarded := by unfold State.requestLost; dsimp only; (repeat' split) <;> simp
@[simp] theorem State.onStart_guarded (s : State) (seat : Nat) : (s.onStart seat).guarded = s.guarded := by
  simp [State.onStart]

/-! Machine/FabLinks -/

@[simp] theorem State.fpStart_guarded (s : State) (p : Nat) : (s.fpStart p).guarded = s.guarded := by simp [State.fpStart]
@[simp] theorem State.fabPortDown_guarded (s : State) (p : Nat) : (s.fabPortDown p).guarded = s.guarded := by
  simp [State.fabPortDown]
@[simp] theorem State.fpRetrainNow_guarded (s : State) (p : Nat) : (s.fpRetrainNow p).guarded = s.guarded := by
  simp [State.fpRetrainNow]
@[simp] theorem State.flitCheck_guarded (s : State) (p : Nat) (h : FlitHdr) (payload : Payload) (crc : BitVec 32) :
    (s.flitCheck p h payload crc).2.guarded = s.guarded := by simp [State.flitCheck]
@[simp] theorem State.flitNak_guarded (s : State) (p : Nat) : (s.flitNak p).guarded = s.guarded := by simp [State.flitNak]
@[simp] theorem State.flitBad_guarded (s : State) (p : Nat) : (s.flitBad p).guarded = s.guarded := by simp [State.flitBad]
@[simp] theorem State.flitAck_guarded (s : State) (p ack : Nat) : (s.flitAck p ack).guarded = s.guarded := by
  unfold State.flitAck; dsimp only; split <;> simp
@[simp] theorem State.flitIn_guarded {s : State} {p : Nat} {h : FlitHdr} {payload : Payload} {crc : BitVec 32}
    {take : State → State} (ht : ∀ a, (take a).guarded = a.guarded) :
    (s.flitIn p h payload crc take).guarded = s.guarded := by
  unfold State.flitIn
  split
  · rfl
  split
  · simp [State.guarded_of_snd (State.flitCheck_guarded ..) ‹_›]
  · dsimp only
    split <;> simp [State.guarded_of_snd (State.flitCheck_guarded ..) ‹_›, ht]
@[simp] theorem State.flitNext_guarded (s : State) (p : Nat) : (s.flitNext p).guarded = s.guarded := by simp [State.flitNext]
@[simp] theorem State.batchBad_guarded (s : State) (p : Nat) (inj : Bool) : (s.batchBad p inj).guarded = s.guarded := by
  simp [State.batchBad]
@[simp] theorem State.flitReplay_guarded (s : State) (p expected : Nat) : (s.flitReplay p expected).guarded = s.guarded := by
  simp [State.flitReplay]

/-! Machine/FabJoin -/

@[simp] theorem State.addClaim_guarded (s : State) (c : Claim) : (s.addClaim c).guarded = s.guarded := by
  simp [State.addClaim]
@[simp] theorem State.claimIn_guarded (s : State) (uid fabid e : Nat) (held : Bool) (seat : Option (Nat × Nat))
    (l : List SeatRec) (time : Nat) : (s.claimIn uid fabid e held seat l time).guarded = s.guarded := by simp [State.claimIn]
@[simp] theorem State.resolveCommit_guarded (s : State) : (s.resolveCommit).guarded = s.guarded := by
  simp [State.resolveCommit]

/-! Machine/RegWrite -/

@[simp] theorem State.seatCmdFrom_guarded (s : State) (port : Option (Fin 4)) (op seat uid origin : Nat) :
    (s.seatCmdFrom port op seat uid origin).guarded = s.guarded := by unfold State.seatCmdFrom; split <;> simp
@[simp] theorem State.gopFrom_guarded (s : State) (port : Option (Fin 4)) (op arg origin t : Nat) :
    (s.gopFrom port op arg origin t).guarded = s.guarded := by unfold State.gopFrom; split <;> simp

/-! Machine/Media -/

@[simp] theorem State.setRead_guarded (s : State) (r : MRead) : (s.setRead r).guarded = s.guarded := by simp [State.setRead]

/-! Machine/Leaf -/

@[simp] theorem State.setPart_guarded (s : State) (k : Nat) (p : Part) : (s.setPart k p).guarded = s.guarded := by
  simp [State.setPart]

/-! Machine/Media -/

@[simp] theorem State.arrayStart_guarded (s : State) (k : Nat) (r : MRead) : (s.arrayStart k r).guarded = s.guarded := by
  simp [State.arrayStart]
@[simp] theorem State.suspend_guarded (s : State) (k : Nat) : (s.suspend k).guarded = s.guarded := by simp [State.suspend]
@[simp] theorem State.shareTaken_guarded (s : State) (c : Nat) (write : Bool) :
    (s.shareTaken c write).guarded = s.guarded := by simp [State.shareTaken]
@[simp] theorem State.servePart_guarded (s : State) (k : Nat) : (s.servePart k).guarded = s.guarded := by
  unfold State.servePart; dsimp only; (repeat' split) <;> simp
@[simp] theorem State.startRecon_guarded (s : State) (r : MRead) (adm : Bool) :
    (s.startRecon r adm).guarded = s.guarded := by simp [State.startRecon]
@[simp] theorem State.startDirect_guarded (s : State) (r : MRead) (adm : Bool) :
    (s.startDirect r adm).guarded = s.guarded := by simp [State.startDirect]

/-! Machine/Retire -/

@[simp] theorem State.queueExcise_guarded (s : State) (p : Nat) : (s.queueExcise p).guarded = s.guarded := by
  simp [State.queueExcise]
@[simp] theorem State.setRebuilds_guarded (s : State) (l : List Rebuild) : (s.setRebuilds l).guarded = s.guarded := by
  simp [State.setRebuilds]
@[simp] theorem State.queueRebuild_guarded (s : State) (k : Nat) : (s.queueRebuild k).guarded = s.guarded := by
  simp [State.queueRebuild]
@[simp] theorem State.dieGone_guarded (s : State) (d : Nat) : (s.dieGone d).guarded = s.guarded := by simp [State.dieGone]

/-! Machine/Leaf -/

@[simp] theorem State.setDie_guarded (s : State) (d : Nat) (x : DieCnt) : (s.setDie d x).guarded = s.guarded := by
  simp [State.setDie]

/-! Machine/Retire -/

@[simp] theorem State.retireDie_guarded (s : State) (d cause : Nat) : (s.retireDie d cause).guarded = s.guarded := by
  simp [State.retireDie]
@[simp] theorem State.retirePart_guarded (s : State) (k : Nat) : (s.retirePart k).guarded = s.guarded := by
  simp [State.retirePart]
@[simp] theorem State.retireTile_guarded (s : State) (p cause : Nat) : (s.retireTile p cause).guarded = s.guarded := by
  simp [State.retireTile]

/-! Machine/Media -/

@[simp] theorem State.deliverLeaf_guarded (s : State) (tile leaf : Nat) (plain : Option (BitVec 2048)) :
    (s.deliverLeaf tile leaf plain).guarded = s.guarded := by simp [State.deliverLeaf]
@[simp] theorem State.delRead_guarded (s : State) (r : MRead) : (s.delRead r).guarded = s.guarded := by simp [State.delRead]
@[simp] theorem State.readEnds_guarded (s : State) (r : MRead) (plain : Option (BitVec 2048)) (slow : Bool) :
    (s.readEnds r plain slow).guarded = s.guarded := by simp [State.readEnds]
@[simp] theorem State.loseLeaf_guarded (s : State) (tile leaf : Nat) : (s.loseLeaf tile leaf).guarded = s.guarded := by
  simp [State.loseLeaf]
@[simp] theorem State.readLost_guarded (s : State) (r : MRead) (fired slow : Bool) :
    (s.readLost r fired slow).guarded = s.guarded := by simp [State.readLost]
@[simp] theorem State.readNext_guarded (s : State) (r : MRead) (fired slow : Bool) :
    (s.readNext r fired slow).guarded = s.guarded := by unfold State.readNext; dsimp only; (repeat' split) <;> simp
@[simp] theorem State.readDouble_guarded (s : State) (r : MRead) : (s.readDouble r).guarded = s.guarded := by
  simp [State.readDouble]
@[simp] theorem State.routeBounded_guarded (s : State) (left : List (Nat × Nat)) (r : MRead) :
    (s.routeBounded left r).guarded = s.guarded := by simp [State.routeBounded]
@[simp] theorem State.routeBest_guarded (s : State) (r : MRead) : (s.routeBest r).guarded = s.guarded := by
  simp [State.routeBest]
@[simp] theorem State.injectLeaf_guarded (s : State) (tile leaf : Nat) (light : Bool) (errs : Image) :
    (s.injectLeaf tile leaf light errs).2.2.guarded = s.guarded := by unfold State.injectLeaf; split <;> simp
@[simp] theorem State.checkLeaf_guarded (s : State) (tile leaf ch : Nat) (img errs : Image) :
    (s.checkLeaf tile leaf ch img errs).2.2.guarded = s.guarded := by
  unfold State.checkLeaf; dsimp only; (repeat' split) <;> simp
@[simp] theorem State.bufferRead_guarded (s : State) (tile leaf p : Nat) (b : BitVec 2048) :
    (s.bufferRead tile leaf p b).2.guarded = s.guarded := by simp [State.bufferRead]
@[simp] theorem State.recovered_guarded (s : State) (p n : Nat) (img : Image) (quiet : Bool) :
    (s.recovered p n img quiet).guarded = s.guarded := by simp [State.recovered]
@[simp] theorem State.arrayEnd_guarded (s : State) (k : Nat) : (s.arrayEnd k).guarded = s.guarded := by simp [State.arrayEnd]
@[simp] theorem State.skewCheck_guarded (s : State) (r : MRead) (p b : Nat) (img : Image) :
    (s.skewCheck r p b img).guarded = s.guarded := by simp [State.skewCheck]
@[simp] theorem State.readFailed_guarded (s : State) (r : MRead) (fired slow : Bool) :
    (s.readFailed r fired slow).guarded = s.guarded := by simp [State.readFailed]

/-! Machine/Retire -/

@[simp] theorem State.pauseMissed_guarded (s : State) (d : Nat) (quiet : Bool) :
    (s.pauseMissed d quiet).guarded = s.guarded := by simp [State.pauseMissed]
@[simp] theorem State.tokenDrop_guarded (s : State) (k : Nat) : (s.tokenDrop k).guarded = s.guarded := by
  simp [State.tokenDrop]

/-! Machine/MediaWrite -/

@[simp] theorem State.partIdle_guarded (s : State) (k : Nat) : (s.partIdle k).guarded = s.guarded := by simp [State.partIdle]

/-! Machine/Retire -/

@[simp] theorem State.dieWorked_guarded (s : State) (d : Nat) : (s.dieWorked d).guarded = s.guarded := by
  simp [State.dieWorked]

/-! Machine/MediaWrite -/

@[simp] theorem State.dropStaged_guarded (s : State) (p : Nat → Bool) : (s.dropStaged p).guarded = s.guarded := by
  simp [State.dropStaged]

/-! Machine/Retire -/

@[simp] theorem State.freeTile_guarded (s : State) (p : Nat) : (s.freeTile p).guarded = s.guarded := by simp [State.freeTile]

/-! Machine/MediaWrite -/

@[simp] theorem State.doRelease_guarded (s : State) (r : Release) : (s.doRelease r).guarded = s.guarded := by
  unfold State.doRelease; split <;> simp
@[simp] theorem State.closeUpdate_guarded (s : State) (u : Update) : (s.closeUpdate u).guarded = s.guarded := by
  unfold State.closeUpdate; split <;> simp
@[simp] theorem State.writeVerified_guarded (s : State) (p n : Nat) : (s.writeVerified p n).guarded = s.guarded := by
  unfold State.writeVerified; split <;> simp

/-! Machine/Retire -/

@[simp] theorem State.dieFailed_guarded (s : State) (d : Nat) : (s.dieFailed d).guarded = s.guarded := by
  simp [State.dieFailed]

/-! Machine/MediaWrite -/

@[simp] theorem State.writeFailed_guarded (s : State) (p n : Nat) (fired : Bool) :
    (s.writeFailed p n fired).guarded = s.guarded := by unfold State.writeFailed; dsimp only; (repeat' split) <;> simp
@[simp] theorem State.grantLeaf_guarded (s : State) (k leaf : Nat) : (s.grantLeaf k leaf).guarded = s.guarded := by
  simp [State.grantLeaf]
@[simp] theorem State.rmwCount_guarded (s : State) (p : Nat) (errs : Image) : (s.rmwCount p errs).guarded = s.guarded := by
  simp [State.rmwCount]
theorem State.openUpdate_guarded {s : State} {t n p seq : Nat} {plain : BitVec 2048} {errs perrs : Image} {u : State}
    (h : s.openUpdate t n p seq plain errs perrs = some u) : u.guarded = s.guarded := by
  obtain ⟨k, -, rfl⟩ := Option.map_eq_some_iff.mp h
  dsimp only
  split <;> simp
@[simp] theorem State.writeBack_guarded (s : State) (t n pick : Nat) (errs perrs : Image) :
    (s.writeBack t n pick errs perrs).guarded = s.guarded := by
  unfold State.writeBack
  split
  · rfl
  extract_lets bad s0
  have h0 : s0.guarded = s.guarded := State.guarded_foldl (by simp) _ _
  clear_value s0
  split
  · exact h0
  split
  · next hp =>
    have := State.placeFor_guarded hp
    split
    · exact h0
    · exact State.guarded_getD (fun _ h => by rw [State.openUpdate_guarded h, this, h0]) h0
  · next hp =>
    have := State.placeFor_guarded hp
    split
    · exact h0
    · refine State.guarded_getD (fun _ h => ?_) h0
      rw [State.openUpdate_guarded h, State.loseLeaf_guarded, this, h0]
  · exact h0

/-! Machine/MediaBus -/

@[simp] theorem State.mediaCmd_guarded {s : State} {ch die part cmd leaf : Nat} {parity : Bool} {run : State → State}
    (h : ∀ a, (run a).guarded = a.guarded) : (s.mediaCmd ch die part cmd leaf parity run).guarded = s.guarded := by
  unfold State.mediaCmd
  dsimp only
  (repeat' split) <;> simp [h]

/-! Machine/Media -/

@[simp] theorem State.serveChan_guarded (s : State) (c : Nat) : (s.serveChan c).guarded = s.guarded := by
  simp [State.serveChan]

/-! Machine/MediaWrite -/

@[simp] theorem State.startWrite_guarded (s : State) (p n : Nat) : (s.startWrite p n).guarded = s.guarded := by
  unfold State.startWrite; split <;> simp

/-! Machine/MediaBus -/

@[simp] theorem State.resumeWrite_guarded (s : State) (k : Nat) : (s.resumeWrite k).guarded = s.guarded := by
  simp [State.resumeWrite]
@[simp] theorem State.setCommit_guarded (s : State) (k : Nat) (on : Bool) : (s.setCommit k on).guarded = s.guarded := by
  simp [State.setCommit]

/-! Machine/MediaWrite -/

@[simp] theorem State.journalFill_guarded (s : State) : (s.journalFill).guarded = s.guarded := by simp [State.journalFill]

/-! Machine/Logs -/

@[simp] theorem State.setCat_guarded (s : State) (t : Nat) (e : CatEnt) : (s.setCat t e).guarded = s.guarded := by
  simp [State.setCat]
@[simp] theorem State.applyJ_guarded (s : State) (e : JEnt) : (s.applyJ e).guarded = s.guarded := by
  unfold State.applyJ; split <;> simp

/-! Machine/MediaWrite -/

@[simp] theorem State.applyWritten_guarded (s : State) (l : List JEnt) : (s.applyWritten l).guarded = s.guarded := by
  refine State.guarded_foldl (fun a e => ?_) _ _
  split
  · refine State.guarded_foldl (fun b i => ?_) _ _
    split <;> simp
  · rfl
@[simp] theorem State.journalWrite_guarded (s : State) : (s.journalWrite).guarded = s.guarded := by simp [State.journalWrite]

/-! Machine/Builders -/

@[simp] theorem State.setBuilder_guarded (s : State) (b : Builder) : (s.setBuilder b).guarded = s.guarded := by
  simp [State.setBuilder]
@[simp] theorem State.putParity_guarded (s : State) (st n : Nat) : (s.putParity st n).guarded = s.guarded := by
  simp [State.putParity]
@[simp] theorem State.builderParity_guarded (s : State) (b : Builder) (leaf : Nat) :
    (s.builderParity b leaf).guarded = s.guarded := by simp [State.builderParity]
@[simp] theorem State.builderLeaf_guarded (s : State) (b : Builder) (slot leaf : Nat) (plain : BitVec 2048) :
    (s.builderLeaf b slot leaf plain).guarded = s.guarded := by unfold State.builderLeaf; (repeat' split) <;> simp
@[simp] theorem State.builderTake_guarded (s : State) (b : Builder) (slot ll : Nat) :
    (s.builderTake b slot ll).guarded = s.guarded := by simp [State.builderTake]
@[simp] theorem State.moveTaken_guarded (s : State) (t : Nat) : (s.moveTaken t).guarded = s.guarded := by
  unfold State.moveTaken; split <;> simp
theorem State.openBuilder_guarded {s : State} {region pick : Nat} {light : Bool} {x : Builder × State}
    (h : s.openBuilder region pick light = some x) : x.2.guarded = s.guarded := by
  revert h
  unfold State.openBuilder
  dsimp only
  split <;> rintro ⟨⟩
  simp
@[simp] theorem State.builderJoin_guarded (s : State) (ll pick : Nat) : (s.builderJoin ll pick).guarded = s.guarded := by
  unfold State.builderJoin
  extract_lets t gl
  split
  · rfl
  split
  · rfl
  split
  · simp
  split
  · split <;> simp
  · rename_i region assign _ _ _ _ _ _ _
    have ha (a : State) (b : Builder) : (assign a b).guarded = a.guarded := by simp [assign]
    clear_value assign
    split
    · exact ha _ _
    split
    · simp
    split
    · rw [ha]; exact State.openBuilder_guarded ‹_›
    · rfl
@[simp] theorem State.writeParity_guarded (s : State) (b : Builder) : (s.writeParity b).guarded = s.guarded := by
  simp [State.writeParity]
@[simp] theorem State.fillCount_guarded (s : State) (t n : Nat) : (s.fillCount t n).guarded = s.guarded := by
  simp [State.fillCount]
@[simp] theorem State.loseRest_guarded (s : State) (b : Builder) (slot t n : Nat) :
    (s.loseRest b slot t n).guarded = s.guarded := by simp [State.loseRest]
@[simp] theorem State.builderFill_guarded (s : State) (b : Builder) : (s.builderFill b).guarded = s.guarded := by
  have fill (a : State) (k n : Nat) : (if b.written.contains (k * 64 + n) then a
      else
        let t := (b.slots[k]?.map Prod.fst).getD 0
        let a1 := a.fillCount t n
        match a1.leafPlain t n with
        | some base => a1.builderLeaf b k n (b.plain k n (a1.mergeStaged t n base))
        | none => (a1.loseRest b k t n).builderLeaf b k n (b.plain k n (a1.mergeStaged t n 0))).guarded = a.guarded := by
    dsimp only
    (repeat' split) <;> simp
  unfold State.builderFill
  extract_lets tiles
  have ht : tiles.guarded = s.guarded := State.guarded_foldl (fun a k => State.guarded_foldl (fun a n => fill a k n) _ _) _ _
  simp [ht]
@[simp] theorem State.slotToStaging_guarded (s : State) (b : Builder) (slot : Nat) (dirty : Bool) :
    (s.slotToStaging b slot dirty).guarded = s.guarded := by unfold State.slotToStaging; split <;> simp
@[simp] theorem State.builderMap_guarded (s : State) (b : Builder) (slots : List Nat) :
    (s.builderMap b slots).guarded = s.guarded := by simp [State.builderMap]

/-! Machine/MediaWrite -/

@[simp] theorem State.pauseEnter_guarded (s : State) (c : Nat) : (s.pauseEnter c).guarded = s.guarded := by
  simp [State.pauseEnter]

/-! Machine/Conserve -/

@[simp] theorem State.logWrite_guarded (s : State) : (s.logWrite).guarded = s.guarded := by simp [State.logWrite]
@[simp] theorem State.checkpointChunk_guarded (s : State) : (s.checkpointChunk).guarded = s.guarded := by
  simp [State.checkpointChunk]
@[simp] theorem State.copyLeaf_guarded (s : State) (t : Nat) (m : Move) (lost : List (Fin 64)) (n : Nat) :
    (s.copyLeaf t m lost n).guarded = s.guarded := by unfold State.copyLeaf; split <;> simp
@[simp] theorem State.moveStep_guarded (s : State) (t : Nat) (m : Move) (lost : List (Fin 64)) (fail : Bool) :
    (s.moveStep t m lost fail).guarded = s.guarded := by simp [State.moveStep]
@[simp] theorem State.moveTo_guarded (s : State) (t src q : Nat) (forced : Bool) :
    (s.moveTo t src q forced).guarded = s.guarded := by simp [State.moveTo]
@[simp] theorem State.moveStart_guarded (s : State) (t pick : Nat) : (s.moveStart t pick).guarded = s.guarded := by
  unfold State.moveStart
  dsimp only
  split
  · rfl
  split
  · next h => simp [State.allocTile_guarded h]
  · rfl
@[simp] theorem State.moveEnd_guarded (s : State) (t : Nat) : (s.moveEnd t).guarded = s.guarded := by
  unfold State.moveEnd; split <;> simp
@[simp] theorem State.closeStripe_guarded (s : State) (st : Nat) : (s.closeStripe st).guarded = s.guarded := by
  simp [State.closeStripe]
@[simp] theorem State.moveOut_guarded (s : State) (st pick skip : Nat) : (s.moveOut st pick skip).guarded = s.guarded := by
  unfold State.moveOut; split <;> simp

/-! Machine/Leaf -/

@[simp] theorem State.countReads_guarded (s : State) (p k : Nat) : (s.countReads p k).guarded = s.guarded := by
  simp [State.countReads]

/-! Machine/Conserve -/

@[simp] theorem State.parityWithout_guarded (s : State) (st j np : Nat) : (s.parityWithout st j np).guarded = s.guarded := by
  simp [State.parityWithout]
@[simp] theorem State.takeFor_guarded (s : State) (p : Nat) (light : Bool) : (s.takeFor p light).guarded = s.guarded := by
  simp [State.takeFor]
@[simp] theorem State.wearHot_guarded (s : State) (m : Nat) (l : List Nat) (moves : Nat) :
    (s.wearHot m l moves).2.guarded = s.guarded := by
  induction l generalizing s moves with
  | nil => rfl
  | cons p r ih =>
    unfold State.wearHot
    dsimp only
    (repeat' split) <;> simp [ih]
@[simp] theorem State.wearParity_guarded (s : State) (m : Nat) : (s.wearParity m).guarded = s.guarded := by
  refine State.guarded_foldl (fun a e => ?_) _ _
  dsimp only
  split
  · split <;> simp
  · rfl
@[simp] theorem State.wearCold_guarded (s : State) (lists : List (List Nat)) (l : List Nat) (moves : Nat) :
    (s.wearCold lists l moves).guarded = s.guarded := by
  induction l generalizing s moves with
  | nil => rfl
  | cons w r ih =>
    unfold State.wearCold
    dsimp only
    split
    · rfl
    split <;> simp [ih]
@[simp] theorem State.learn_guarded (s : State) (d k : Nat) (e : Nat × Nat × Nat) : (s.learn d k e).guarded = s.guarded := by
  simp [State.learn]
@[simp] theorem State.raiseRefs_guarded (s : State) (d : Nat) : (s.raiseRefs d).guarded = s.guarded := by
  simp [State.raiseRefs]
@[simp] theorem State.refreshInPlace_guarded (s : State) (p : Nat) : (s.refreshInPlace p).guarded = s.guarded := by
  simp [State.refreshInPlace]
@[simp] theorem State.scrubNext_guarded (s : State) : (s.scrubNext).guarded = s.guarded := by simp [State.scrubNext]
@[simp] theorem State.scrubAt_guarded (s : State) (st n : Nat) (errs : List (Nat × Image)) :
    (s.scrubAt st n errs).guarded = s.guarded := by
  unfold State.scrubAt
  extract_lets r ms err s1 bad s2 s3
  have h1 : s1.guarded = s.guarded := by simp [s1]
  have h2 : s2.guarded = s1.guarded := State.guarded_foldl (fun a j => by split <;> simp) _ _
  have h3 : s3.guarded = s.guarded := by
    refine .trans (State.guarded_foldl (fun a j => ?_) _ _) (h2.trans h1)
    dsimp only
    split <;> simp
  clear_value s3 s2 bad
  rw [← h3]
  rcases bad with _ | ⟨j, _ | ⟨k, l⟩⟩
  · rename_i ok s4
    have h4 : s4.guarded = s3.guarded := by simp only [s4]; split <;> simp
    dsimp only
    split <;> simp [h4]
  · simp
  · refine State.guarded_foldl (fun a j => ?_) _ _
    (repeat' split) <;> simp
@[simp] theorem State.markRow_guarded (s : State) (row j i : Nat) : (s.markRow row j i).guarded = s.guarded := by
  simp [State.markRow]
@[simp] theorem State.endRow_guarded (s : State) (r : Rebuild) : (s.endRow r).guarded = s.guarded := by
  unfold State.endRow; dsimp only; (repeat' split) <;> simp
@[simp] theorem State.rebuildNext_guarded (s : State) (r : Rebuild) : (s.rebuildNext r).guarded = s.guarded := by
  simp [State.rebuildNext]
@[simp] theorem State.loseOthers_guarded (s : State) (st : Nat) (js : List Nat) :
    (s.loseOthers st js).2.guarded = s.guarded := by
  refine State.guarded_foldl_snd (fun x t => State.guarded_foldl_snd (fun y n => ?_) _ _) _ _
  split <;> simp
theorem State.rebuildPlace_guarded {s : State} {row : Nat} {light : Bool} {pick : Nat} {x : Nat × State}
    (h : s.rebuildPlace row light pick = some x) : x.2.guarded = s.guarded := by
  revert h
  unfold State.rebuildPlace
  extract_lets take fits
  have ht {a : State} {n : Nat} {x : Nat × State} (h : take a n = some x) : x.2.guarded = a.guarded := by
    obtain ⟨p, -, rfl⟩ := Option.map_eq_some_iff.mp h
    simp
  clear_value take
  split
  · exact ht
  split
  · rintro ⟨⟩
  · intro h
    obtain ⟨s1, h1, h⟩ := Option.bind_eq_some_iff.mp h
    rw [ht h, ← State.readyStripe_guarded h1]
    simp only [State.guarded_mk]
    split <;> simp
theorem State.rebuildTile_guarded {s : State} {st j t pick : Nat} {gone : Bool} {x : List Nat × State}
    (h : s.rebuildTile st j t pick gone = some x) : x.2.guarded = s.guarded := by
  revert h
  unfold State.rebuildTile
  split
  · next hp _ =>
    split
    · rintro ⟨⟩
    extract_lets ns s1 x s2
    have h1 : s1.guarded = s.guarded := by
      simp only [s1]
      split <;> simp [State.rebuildPlace_guarded hp]
    have hx : x.2.guarded = s.guarded := by
      refine .trans (State.guarded_foldl_snd (fun a n => ?_) _ _) h1
      dsimp only
      split <;> simp
    rintro ⟨⟩
    simp [s2, hx]
  · rintro ⟨⟩
@[simp] theorem State.rebuildLoss_guarded (s : State) (row : Nat) (l : List Nat) :
    (s.rebuildLoss row l).guarded = s.guarded := by unfold State.rebuildLoss; split <;> simp
@[simp] theorem State.rebuildParity_guarded (s : State) (r : Rebuild) (st np : Nat) :
    (s.rebuildParity r st np).guarded = s.guarded := by simp [State.rebuildParity]

/-! Machine/Staging -/

@[simp] theorem State.setStg_guarded (s : State) (e : Stg) : (s.setStg e).guarded = s.guarded := by simp [State.setStg]
@[simp] theorem State.takeW_guarded (s : State) : (s.takeW).2.guarded = s.guarded := by simp [State.takeW]
@[simp] theorem State.cacheTraffic_guarded (s : State) (miss : Nat) (evicted : List (Nat × Nat)) :
    (s.cacheTraffic miss evicted).guarded = s.guarded := by simp [State.cacheTraffic]

/-! Machine/Ops -/

@[simp] theorem State.tDdr_guarded (s : State) (n code v : Nat) : (s.tDdr n code v).guarded = s.guarded := by
  simp [State.tDdr]

/-! Machine/Staging -/

@[simp] theorem State.stgFull_guarded (s : State) : (s.stgFull).guarded = s.guarded := by simp [State.stgFull]
@[simp] theorem State.stagedLost_guarded (s : State) (ll : Nat) : (s.stagedLost ll).guarded = s.guarded := by
  simp [State.stagedLost]
@[simp] theorem State.useLost_guarded (s : State) (u : StgUse) : (s.useLost u).guarded = s.guarded := by
  unfold State.useLost; split <;> simp
@[simp] theorem State.poisonRange_guarded (s : State) (level first : Nat) :
    (s.poisonRange level first).guarded = s.guarded := by simp [State.poisonRange]
@[simp] theorem State.nodeFail_guarded (s : State) (k j : Nat) (tamper inj : Bool) :
    (s.nodeFail k j tamper inj).guarded = s.guarded := by simp [State.nodeFail]
@[simp] theorem State.checkNode_guarded (s : State) (i bad : Nat) (tamper : Bool) (k : Nat) :
    (s.checkNode i bad tamper k).2.guarded = s.guarded := by unfold State.checkNode; dsimp only; (repeat' split) <;> simp
@[simp] theorem State.checkPath_guarded (s : State) (i bad : Nat) (tamper : Bool) (miss : Nat) :
    (s.checkPath i bad tamper miss).2.guarded = s.guarded := by
  refine State.guarded_foldl_snd (fun a k => ?_) _ _
  split <;> simp
@[simp] theorem State.ddrCorr_guarded (s : State) (ch n : Nat) (inj : Bool) : (s.ddrCorr ch n inj).guarded = s.guarded := by
  simp [State.ddrCorr]
@[simp] theorem State.lineUncorr_guarded (s : State) (i : Nat) (mac inj : Bool) :
    (s.lineUncorr i mac inj).guarded = s.guarded := by simp [State.lineUncorr]
@[simp] theorem State.lineTag_guarded (s : State) (i : Nat) (inj : Bool) : (s.lineTag i inj).guarded = s.guarded := by
  simp [State.lineTag]
@[simp] theorem State.checkDdr_guarded (s : State) (i : Nat) (f : DdrFault) : (s.checkDdr i f).2.guarded = s.guarded := by
  unfold State.checkDdr; dsimp only; (repeat' split) <;> simp
@[simp] theorem State.stgRead_guarded (s : State) (i miss bad : Nat) (tamper : Bool) (f : DdrFault) (evicted : List
    (Nat × Nat)) : (s.stgRead i miss bad tamper f evicted).2.guarded = s.guarded := by
  unfold State.stgRead
  dsimp only
  split
  · simp
  · split <;> simp [State.guarded_of_snd (State.checkPath_guarded ..) ‹_›]
@[simp] theorem State.stgResume_guarded (s : State) (ll : Nat) : (s.stgResume ll).guarded = s.guarded := by
  unfold State.stgResume; dsimp only; split <;> simp
@[simp] theorem State.stgStore_guarded (s : State) (i : Nat) (u : StgUse) (p : Line) :
    (s.stgStore i u p).guarded = s.guarded := by unfold State.stgStore; split <;> simp
@[simp] theorem State.mergeFailed_guarded (s : State) (dirty : Bool) : (s.mergeFailed dirty).guarded = s.guarded := by
  simp [State.mergeFailed]
@[simp] theorem State.filterUncorr_guarded (s : State) (gl : Nat) : (s.filterUncorr gl).guarded = s.guarded := by
  simp [State.filterUncorr]
@[simp] theorem State.dirUncorr_guarded (s : State) (gl : Nat) : (s.dirUncorr gl).guarded = s.guarded := by
  simp [State.dirUncorr]
@[simp] theorem State.confRetry_guarded (s : State) (k : Nat) : (s.confRetry k).guarded = s.guarded := by
  simp [State.confRetry]
@[simp] theorem State.sramUncorr_guarded (s : State) (arr a b : Nat) : (s.sramUncorr arr a b).guarded = s.guarded := by
  unfold State.sramUncorr; (repeat' split) <;> simp
@[simp] theorem State.sramCheck_guarded (s : State) (arr inst a b wrong : Nat) :
    (s.sramCheck arr inst a b wrong).guarded = s.guarded := by simp [State.sramCheck]

/-! Machine/Registrar -/

@[simp] theorem State.postCxlPort_guarded (s : State) (r : Rcd) (p : Nat) : (s.postCxlPort r p).guarded = s.guarded := by
  simp [State.postCxlPort]
@[simp] theorem State.postCxl_guarded (s : State) (r : Rcd) : (s.postCxl r).guarded = s.guarded := by simp [State.postCxl]
@[simp] theorem State.recIrqPort_guarded (s : State) (sev p : Nat) : (s.recIrqPort sev p).guarded = s.guarded := by
  simp [State.recIrqPort]
@[simp] theorem State.record_guarded (s : State) (r : Rcd) : (s.record r).guarded = s.guarded := by
  unfold State.record; dsimp only; (repeat' split) <;> simp
@[simp] theorem State.closeWin_guarded (s : State) (src : Nat) : (s.closeWin src).guarded = s.guarded := by
  unfold State.closeWin; split <;> simp
@[simp] theorem State.setWin_guarded (s : State) (src : Nat) (w : RateWin) : (s.setWin src w).guarded = s.guarded := by
  simp [State.setWin]
@[simp] theorem State.arrive_guarded (s : State) (e : Ev) : (s.arrive e).guarded = s.guarded := by simp [State.arrive]
@[simp] theorem State.arriveAll_guarded (s : State) (l : List Ev) : (s.arriveAll l).guarded = s.guarded := by
  simp [State.arriveAll]
@[simp] theorem State.annalCommit_guarded (s : State) (n : Nat) : (s.annalCommit n).guarded = s.guarded := by
  simp [State.annalCommit]
@[simp] theorem State.overflowRecord_guarded (s : State) : (s.overflowRecord).guarded = s.guarded := by
  simp [State.overflowRecord]

/-! Machine/Ledger -/

@[simp] theorem State.freePage_guarded (s : State) : (s.freePage).2.guarded = s.guarded := by simp [State.freePage]
@[simp] theorem State.ldgBytes_guarded (s : State) (p : Nat) : (s.ldgBytes p).2.guarded = s.guarded := by
  unfold State.ldgBytes; (repeat' split) <;> simp
@[simp] theorem State.ldgPairRead_guarded (s : State) (pair : Nat) (wr : Bool) (a b : Copy) :
    (s.ldgPairRead pair wr a b).guarded = s.guarded := by unfold State.ldgPairRead; dsimp only; (repeat' split) <;> simp
@[simp] theorem State.ldgDeliver_guarded (s : State) (page : Nat) (b : Option Page) (corrected : Bool) :
    (s.ldgDeliver page b corrected).guarded = s.guarded := by unfold State.ldgDeliver; (repeat' split) <;> simp
@[simp] theorem State.pageBad_guarded (s : State) (p : Nat) : (s.pageBad p).guarded = s.guarded := by simp [State.pageBad]
@[simp] theorem State.pageUncorr_guarded (s : State) (p : Nat) (inj : Bool) : (s.pageUncorr p inj).guarded = s.guarded := by
  simp [State.pageUncorr]

/-! Machine/LedgerCommit -/

@[simp] theorem State.ldgBusy_guarded (s : State) : (s.ldgBusy).guarded = s.guarded := by simp [State.ldgBusy]

/-! Machine/Ledger -/

@[simp] theorem State.ldgPut_guarded (s : State) (p : Nat) (b : Page) : (s.ldgPut p b).guarded = s.guarded := by
  simp [State.ldgPut]

/-! Machine/LedgerCommit -/

@[simp] theorem State.pageStore_guarded (s : State) (w : PgWrite) : (s.pageStore w).guarded = s.guarded := by
  unfold State.pageStore; split <;> simp

/-! Machine/RegionOps -/

@[simp] theorem State.discardLines_guarded (s : State) (p : Nat → Bool) : (s.discardLines p).guarded = s.guarded := by
  simp [State.discardLines]
@[simp] theorem State.closeBuilders_guarded (s : State) (n : Nat) : (s.closeBuilders n).guarded = s.guarded := by
  simp [State.closeBuilders]

/-! Machine/Services -/

@[simp] theorem State.accCommit_guarded (s : State) (c : Nat) : (s.accCommit c).guarded = s.guarded := by
  unfold State.accCommit; split <;> simp
@[simp] theorem State.sealCommitted_guarded (s : State) (n : Nat) : (s.sealCommitted n).guarded = s.guarded := by
  simp [State.sealCommitted]
@[simp] theorem State.keyDone_guarded (s : State) (slot : Nat) : (s.keyDone slot).guarded = s.guarded := by
  unfold State.keyDone; split <;> simp
@[simp] theorem State.accDone_guarded (s : State) (c : Nat) : (s.accDone c).guarded = s.guarded := by
  unfold State.accDone; split <;> simp

/-! Machine/LedgerCommit -/

@[simp] theorem State.mboxPages_guarded (s : State) (port : Nat) : (s.mboxPages port).guarded = s.guarded := by
  simp [State.mboxPages]
@[simp] theorem State.pageAfter_guarded (s : State) (o : PgOwner) (ok : Bool) : (s.pageAfter o ok).guarded = s.guarded := by
  unfold State.pageAfter; split <;> simp

/-! Machine/StartBegin -/

@[simp] theorem State.powerOn_guarded (s : State) : (s.powerOn).guarded = s.guarded := by simp [State.powerOn]

/-! Machine/Trigger -/

@[simp] theorem State.railOff_guarded (s : State) (r : Nat) : (s.railOff r).guarded = s.guarded := by simp [State.railOff]

/-! Machine/Supervisor -/

@[simp] theorem State.loadWord_guarded (s : State) (fs : List FldDesc) (i w : Nat) :
    (s.loadWord fs i w).guarded = s.guarded := by simp [State.loadWord]
@[simp] theorem State.loadSled_guarded (s : State) (v : Nat) : (s.loadSled v).guarded = s.guarded := by simp [State.loadSled]
@[simp] theorem State.bounce_guarded (s : State) (r : Nat) (inj : Bool) : (s.bounce r inj).guarded = s.guarded := by
  simp [State.bounce]
@[simp] theorem State.rstFallRail_guarded (s : State) (r : Nat) : (s.rstFallRail r).guarded = s.guarded := by
  simp [State.rstFallRail]

/-! Machine/Trigger -/

@[simp] theorem State.pfail_guarded (s : State) (cause rail : Nat) : (s.pfail cause rail).guarded = s.guarded := by
  simp [State.pfail]

/-! Machine/Supervisor -/

@[simp] theorem State.emergencyDrop_guarded (s : State) : (s.emergencyDrop).guarded = s.guarded := by
  simp [State.emergencyDrop]
@[simp] theorem State.railLoss_guarded (s : State) (r : Nat) : (s.railLoss r).guarded = s.guarded := by simp [State.railLoss]
@[simp] theorem State.dropRail_guarded (s : State) (r : Nat) : (s.dropRail r).guarded = s.guarded := by simp [State.dropRail]
@[simp] theorem State.vinSample_guarded (s : State) (mv : Nat) : (s.vinSample mv).guarded = s.guarded := by
  simp [State.vinSample]
@[simp] theorem State.bankConvert_guarded (s : State) (mv : Nat) : (s.bankConvert mv).guarded = s.guarded := by
  simp [State.bankConvert]
@[simp] theorem State.railSense_guarded (s : State) (r mv : Nat) : (s.railSense r mv).guarded = s.guarded := by
  simp [State.railSense]
@[simp] theorem State.throttleRise_guarded (s : State) : (s.throttleRise).guarded = s.guarded := by simp [State.throttleRise]
@[simp] theorem State.controls_guarded (s : State) : (s.controls).guarded = s.guarded := by simp [State.controls]
@[simp] theorem State.crossCheck_guarded (s : State) (k : Nat) (inj : Bool) : (s.crossCheck k inj).guarded = s.guarded := by
  simp [State.crossCheck]
@[simp] theorem State.critical_guarded (s : State) (k : Nat) : (s.critical k).guarded = s.guarded := by simp [State.critical]

/-! Machine/MediaBus -/

@[simp] theorem State.deferDie_guarded (s : State) (d : Nat) : (s.deferDie d).guarded = s.guarded := by simp [State.deferDie]
@[simp] theorem State.deferEnd_guarded (s : State) (d : Nat) : (s.deferEnd d).guarded = s.guarded := by simp [State.deferEnd]
@[simp] theorem State.backoff_guarded (s : State) (c : Nat) : (s.backoff c).guarded = s.guarded := by simp [State.backoff]

/-! Machine/Governor -/

@[simp] theorem State.recompute_guarded (s : State) : (s.recompute).guarded = s.guarded := by
  unfold State.recompute
  extract_lets reserve eu b s1 good _ _ s2 s3
  have h1 : s1.guarded = s.guarded := by simp [s1]
  have h2 : s2.guarded = s.guarded := h1
  have h3 : s3.guarded = s.guarded := by simp only [s3]; split <;> simp [h2]
  clear_value s3
  (repeat' split) <;> simp [h3]
@[simp] theorem State.measureStep_guarded (s : State) (n : Nat) (f : Meas → Meas) :
    (s.measureStep n f).guarded = s.guarded := by unfold State.measureStep; split <;> simp
@[simp] theorem State.measureStore_guarded (s : State) (m : Meas) : (s.measureStore m).guarded = s.guarded := by
  simp [State.measureStore]
@[simp] theorem State.measureFall_guarded (s : State) : (s.measureFall).guarded = s.guarded := by
  unfold State.measureFall; split <;> simp

/-! Machine/FlushSteps -/

@[simp] theorem State.flushMod_guarded (s : State) (f : Flush → Flush) : (s.flushMod f).guarded = s.guarded := by
  simp [State.flushMod]
@[simp] theorem State.toStep_guarded (s : State) (n : Nat) : (s.toStep n).guarded = s.guarded := by simp [State.toStep]

/-! Machine/Calls -/

@[simp] theorem State.interrupt_guarded (s : State) (c : Nat) : (s.interrupt c).guarded = s.guarded := by
  simp [State.interrupt]

/-! Machine/FlushSteps -/

@[simp] theorem State.fwdHold_guarded (s : State) (gl : Nat) (d : Line) (mask : LineMask) (p release : Bool)
    (ctxs : List Nat) : (s.fwdHold gl d mask p release ctxs).guarded = s.guarded := by unfold State.fwdHold; split <;> simp
@[simp] theorem State.holdOut_guarded (s : State) (e : Nat × OutEnt) : (s.holdOut e).guarded = s.guarded := by
  simp [State.holdOut]
@[simp] theorem State.holdEab_guarded (s : State) (p : Nat) : (s.holdEab p).guarded = s.guarded := by simp [State.holdEab]
@[simp] theorem State.step7_guarded (s : State) : (s.step7).guarded = s.guarded := by simp [State.step7]
@[simp] theorem State.drainLogs_guarded (s : State) : (s.drainLogs).guarded = s.guarded := by simp [State.drainLogs]
@[simp] theorem State.loseKeyless_guarded (s : State) : (s.loseKeyless).guarded = s.guarded := by simp [State.loseKeyless]
@[simp] theorem State.flushEnd_guarded (s : State) (f : Flush) : (s.flushEnd f).guarded = s.guarded := by
  simp [State.flushEnd]

/-! Machine/Calls -/

@[simp] theorem State.sbDropAll_guarded (s : State) (c : Nat) : (s.sbDropAll c).guarded = s.guarded := by
  simp [State.sbDropAll]

/-! Machine/FlushSteps -/

@[simp] theorem State.abandonCalls_guarded (s : State) (f : Flush) : (s.abandonCalls f).guarded = s.guarded := by
  simp [State.abandonCalls]
@[simp] theorem State.abandonFlush_guarded (s : State) (f : Flush) : (s.abandonFlush f).guarded = s.guarded := by
  simp [State.abandonFlush]

/-! Machine/BootRom -/

@[simp] theorem State.loadMember_guarded (s : State) : (s.loadMember).guarded = s.guarded := by
  unfold State.loadMember; dsimp only; split <;> simp
@[simp] theorem State.loadQueue_guarded (s : State) (n : Nat) (w : Option Nat) : (s.loadQueue n w).guarded = s.guarded := by
  refine State.guarded_foldl (fun a f => ?_) _ _
  split <;> simp
@[simp] theorem State.loadQueues_guarded (s : State) : (s.loadQueues).guarded = s.guarded := by simp [State.loadQueues]
@[simp] theorem State.loadHistogram_guarded (s : State) : (s.loadHistogram).guarded = s.guarded := by
  simp [State.loadHistogram]
@[simp] theorem State.loadMeasure_guarded (s : State) : (s.loadMeasure).guarded = s.guarded := by
  unfold State.loadMeasure; split <;> simp
@[simp] theorem State.romCounts_guarded (s : State) : (s.romCounts).guarded = s.guarded := by simp [State.romCounts]

/-! Machine/StartBegin -/

@[simp] theorem State.restoreStep_guarded (s : State) (step : Nat) : (s.restoreStep step).guarded = s.guarded := by
  simp [State.restoreStep]

/-! Machine/BootRom -/

@[simp] theorem State.romBadPages_guarded (s : State) : (s.romBadPages).guarded = s.guarded := by simp [State.romBadPages]
@[simp] theorem State.shippedHdr_guarded (s : State) (set : Nat) : (s.shippedHdr set).guarded = s.guarded := by
  simp [State.shippedHdr]
@[simp] theorem State.bootReset_guarded (s : State) (due : Bool) : (s.bootReset due).guarded = s.guarded := by
  simp [State.bootReset]
@[simp] theorem State.romRecovery_guarded (s : State) (cause step : Nat) :
    (s.romRecovery cause step).guarded = s.guarded := by simp [State.romRecovery]

/-! Machine/Firmware -/

@[simp] theorem State.mcodeShow_guarded (s : State) (version : Nat) (check : Option Nat) (c : Nat) :
    (s.mcodeShow version check c).guarded = s.guarded := by unfold State.mcodeShow; split <;> simp

/-! Machine/BootRom -/

@[simp] theorem State.fwRun_guarded (s : State) (set : Nat) : (s.fwRun set).guarded = s.guarded := by simp [State.fwRun]
@[simp] theorem State.fwFallback_guarded (s : State) : (s.fwFallback).guarded = s.guarded := by simp [State.fwFallback]
theorem State.fwSelect_guarded {s : State} {t : State} (h : s.fwSelect = some t) : t.guarded = s.guarded := by
  revert h
  unfold State.fwSelect
  extract_lets trialSet
  clear_value trialSet
  (repeat' split) <;> simp only [Option.some.injEq, reduceCtorEq, false_implies] <;> rintro rfl <;> simp
  all_goals exact State.fwFallback_guarded s

/-! Machine/Calls -/

@[simp] theorem State.loadLib_guarded (s : State) (b : Bytes) : (s.loadLib b).guarded = s.guarded := by
  unfold State.loadLib; (repeat' split) <;> simp

/-! Machine/BootRom -/

@[simp] theorem State.bistAction_guarded (s : State) (cls inst : Nat) : (s.bistAction cls inst).guarded = s.guarded := by
  simp [State.bistAction]
@[simp] theorem State.bistFail_guarded (s : State) (cls inst sub : Nat) : (s.bistFail cls inst sub).guarded = s.guarded := by
  simp [State.bistFail]
@[simp] theorem State.loadWays_guarded (s : State) : (s.loadWays).guarded = s.guarded := by simp [State.loadWays]
@[simp] theorem State.sizeStaging_guarded (s : State) (ddr : SMap Nat) : (s.sizeStaging ddr).guarded = s.guarded := by
  have sized (n m : Nat) (b : Boot) :
      ({ (s.wr D.STG_GEOM_lines n).wr D.STG_GEOM_mib m with boot := b } : State).guarded = s.guarded := by simp
  exact sized ..
@[simp] theorem State.census_guarded (s : State) (absent : BitVec 256) : (s.census absent).guarded = s.guarded := by
  simp [State.census]
@[simp] theorem State.drawStaging_guarded (s : State) : (s.drawStaging).guarded = s.guarded := by simp [State.drawStaging]

/-! Machine/Boot -/

@[simp] theorem State.bootTo_guarded (s : State) (n : Nat) : (s.bootTo n).guarded = s.guarded := by simp [State.bootTo]
@[simp] theorem State.fmtRaise_guarded (s : State) : (s.fmtRaise).guarded = s.guarded := by simp [State.fmtRaise]
@[simp] theorem State.replay_guarded (s : State) (hold : List JEnt) (next : Nat) (l : List (Nat × JEnt)) :
    (s.replay hold next l).guarded = s.guarded := by
  induction l generalizing s hold next with
  | nil => rfl
  | cons e r ih =>
    unfold State.replay
    dsimp only
    (repeat' split) <;> simp [ih]
@[simp] theorem State.rebuild_guarded (s : State) (k : Nat) (c : CkptCopy) : (s.rebuild k c).guarded = s.guarded := by
  simp [State.rebuild]
@[simp] theorem State.resolveMove_guarded (s : State) (t : Nat) (m : Move) : (s.resolveMove t m).guarded = s.guarded := by
  simp [State.resolveMove]
@[simp] theorem State.resolveMoves_guarded (s : State) : (s.resolveMoves).guarded = s.guarded := by simp [State.resolveMoves]
@[simp] theorem State.redoExcisions_guarded (s : State) : (s.redoExcisions).guarded = s.guarded := by
  unfold State.redoExcisions
  refine State.guarded_foldl (fun a n => ?_) _ _
  split
  · rw [State.logWrite_guarded, State.guarded_mk, State.guarded_fold, State.clogAdd_guarded, State.parityWithout_guarded]
  · rfl
@[simp] theorem State.restoreStripes_guarded (s : State) : (s.restoreStripes).guarded = s.guarded := by
  simp [State.restoreStripes]
@[simp] theorem State.restoreTiles_guarded (s : State) : (s.restoreTiles).guarded = s.guarded := by simp [State.restoreTiles]

/-! Machine/Retire -/

@[simp] theorem State.retireChan_guarded (s : State) (c cause : Nat) : (s.retireChan c cause).guarded = s.guarded := by
  simp [State.retireChan]

/-! Machine/Boot -/

@[simp] theorem State.retireAbsent_guarded (s : State) : (s.retireAbsent).guarded = s.guarded := by simp [State.retireAbsent]
@[simp] theorem State.dropSeals_guarded (s : State) : (s.dropSeals).guarded = s.guarded := by simp [State.dropSeals]
@[simp] theorem State.sealAgain_guarded (s : State) (x : Seal) : (s.sealAgain x).guarded = s.guarded := by
  simp [State.sealAgain]
@[simp] theorem State.rerunSeals_guarded (s : State) : (s.rerunSeals).guarded = s.guarded := by simp [State.rerunSeals]
@[simp] theorem State.notAdmitted_guarded (s : State) (d : Nat) : (s.notAdmitted d).guarded = s.guarded := by
  unfold State.notAdmitted
  extract_lets _ s1
  refine .trans (State.guarded_foldl (fun a p => ?_) _ _) (State.setDie_guarded ..)
  rfl
@[simp] theorem State.admitDrift_guarded (s : State) (e : Fin 256 × List (BitVec 16)) :
    (s.admitDrift e).guarded = s.guarded := by simp [State.admitDrift]
@[simp] theorem State.firstPages_guarded (s : State) : (s.firstPages).guarded = s.guarded := by simp [State.firstPages]
@[simp] theorem State.resyncAt_guarded (s : State) (e : Nat × Nat) : (s.resyncAt e).guarded = s.guarded := by
  simp [State.resyncAt]
@[simp] theorem State.showRecord_guarded (s : State) : (s.showRecord).guarded = s.guarded := by simp [State.showRecord]

/-! Machine/Governor -/

@[simp] theorem State.addBreach_guarded (s : State) (b : Breach) : (s.addBreach b).guarded = s.guarded := by
  simp [State.addBreach]

/-! Machine/Boot -/

@[simp] theorem State.dirtyShutdown_guarded (s : State) : (s.dirtyShutdown).guarded = s.guarded := by
  simp [State.dirtyShutdown]
@[simp] theorem State.listBreach_guarded (s : State) (l : List Breach) : (s.listBreach l).guarded = s.guarded := by
  simp [State.listBreach]
@[simp] theorem State.recStart_guarded (s : State) (head : Nat) : (s.recStart head).guarded = s.guarded := by
  simp [State.recStart]
@[simp] theorem State.copyTravelled_guarded (s : State) : (s.copyTravelled).guarded = s.guarded := by
  simp [State.copyTravelled]
@[simp] theorem State.applyRecord_guarded (s : State) : (s.applyRecord).guarded = s.guarded := by simp [State.applyRecord]

/-! Machine/FabJoin -/

@[simp] theorem State.joinEnter_guarded (s : State) : (s.joinEnter).guarded = s.guarded := by simp [State.joinEnter]

/-! Machine/Calls -/

@[simp] theorem State.postInterrupted_guarded (s : State) : (s.postInterrupted).guarded = s.guarded := by
  simp [State.postInterrupted]

/-! Machine/Boot -/

@[simp] theorem State.trialDone_guarded (s : State) : (s.trialDone).guarded = s.guarded := by
  unfold State.trialDone; (repeat' split) <;> simp

/-! Machine/Access -/

@[simp] theorem State.wayThresholds_guarded (s : State) : (s.wayThresholds).guarded = s.guarded := by
  simp [State.wayThresholds]

/-! Machine/Firmware -/

@[simp] theorem State.actTo_guarded (s : State) (step done : Nat) : (s.actTo step done).guarded = s.guarded := by
  simp [State.actTo]
@[simp] theorem State.runsFrom_guarded (s : State) (i set : Nat) : (s.runsFrom i set).guarded = s.guarded := by
  simp [State.runsFrom]
@[simp] theorem State.mcodeNext_guarded (s : State) (set c : Nat) : (s.mcodeNext set c).guarded = s.guarded := by
  unfold State.mcodeNext; split <;> simp
@[simp] theorem State.mcode_guarded (s : State) (set c : Nat) : (s.mcode set c).guarded = s.guarded := by simp [State.mcode]
@[simp] theorem State.actBgDone_guarded (s : State) (status : Nat) : (s.actBgDone status).guarded = s.guarded := by
  simp [State.actBgDone]
@[simp] theorem State.rollback_guarded (s : State) (part inst : Nat) : (s.rollback part inst).guarded = s.guarded := by
  unfold State.rollback; split <;> simp
@[simp] theorem State.replaceLib_guarded (s : State) (lib : List Bytes) : (s.replaceLib lib).guarded = s.guarded := by
  simp [State.replaceLib]
@[simp] theorem State.activated_guarded (s : State) (set : Nat) : (s.activated set).guarded = s.guarded := by
  simp [State.activated]

/-! Machine/FabLinks -/

@[simp] theorem State.configSend_guarded (s : State) (p : Nat) : (s.configSend p).guarded = s.guarded := by
  simp [State.configSend]

/-! Machine/Slices -/

@[simp] theorem State.snoopWing_guarded (s : State) (w : Nat) (t : Txn) (fl : Flips) :
    (s.snoopWing w t fl).1.guarded = s.guarded := by
  unfold State.snoopWing
  dsimp only
  split
  · rfl
  split
  · rfl
  split
  · exact State.guarded_of_snd (State.checkWing_guarded ..) ‹_›
  · next hc =>
    rw [← State.guarded_of_snd (State.checkWing_guarded ..) hc]
    split
    · dsimp only; split <;> simp
    · dsimp only; split <;> simp

/-! Machine/Tally -/

@[simp] theorem State.carryLog_guarded (s : State) (n : Nat) : (s.carryLog n).guarded = s.guarded := by simp [State.carryLog]

/-! The commands. -/

/-- A command answers a next state in which the part g of the state is as it was. -/
def State.Keeps {α : Type} (g : State → α) (s : State) (r : Result) : Prop := ∃ t, r = .next t ∧ g t = g s
@[simp] theorem State.keeps_next {α : Type} (g : State → α) (s t : State) : s.Keeps g (.next t) ↔ g t = g s :=
  ⟨fun ⟨_, h, hg⟩ => Host.Outcome.next.inj h ▸ hg, fun h => ⟨t, rfl, h⟩⟩
@[simp] theorem State.keeps_ite {α : Type} (g : State → α) (s : State) (p : Prop) [Decidable p] (a b : Result) :
    s.Keeps g (if p then a else b) ↔ if p then s.Keeps g a else s.Keeps g b := by
  split <;> rfl
@[simp] theorem State.keeps_answer {α : Type} (g : State → α) (s : State) (port : Nat) (r : Nat × State) :
    s.Keeps g (answer port r) ↔ g (r.2.reply port r.1) = g s :=
  State.keeps_next ..
theorem State.Keeps.next {α : Type} {g : State → α} {s t : State} {r : Result} (h : s.Keeps g r) (ht : r = .next t) :
    g t = g s := by
  subst ht
  exact (State.keeps_next ..).mp h

/-! Machine/Tally -/

@[simp] theorem execTallyOverflow_keeps (n : Fin 304) (v : Nat) (s : State) :
    s.Keeps State.guarded (execTallyOverflow n v s) := by simp [execTallyOverflow]
@[simp] theorem execTallyPeriodic_keeps (s : State) : s.Keeps State.guarded (execTallyPeriodic s) := by
  simp [execTallyPeriodic]
@[simp] theorem execTallyLatch_keeps (s : State) : s.Keeps State.guarded (execTallyLatch s) := by simp [execTallyLatch]
@[simp] theorem execTallyGatherDone_keeps (s : State) : s.Keeps State.guarded (execTallyGatherDone s) := by
  unfold execTallyGatherDone; split <;> simp

/-! Machine/Ledger -/

@[simp] theorem execProgressRecord_keeps (s : State) : s.Keeps State.guarded (execProgressRecord s) := by
  simp [execProgressRecord]

/-! Machine/Slices -/

@[simp] theorem execRead_keeps (c : Fin 256) (ga : BitVec 50) (fetch : Bool) (fl : Flips) (s : State) :
    s.Keeps State.guarded (execRead c ga fetch fl s) := by
  unfold execRead
  extract_lets gl src
  split
  · simp
  · split
    · next hr =>
      split at hr
      · simpa using State.fetchHit_fst_guarded (congrArg Prod.fst hr)
      · cases hr
    · next hr =>
      have := congrArg (State.guarded ∘ Prod.snd) hr
      split at hr
      · rw [State.keeps_next, ← State.guarded_of_snd (State.fetchHit_guarded ..) hr]
        split <;> simp
      · cases hr
        split <;> simp
@[simp] theorem execOwn_keeps (c : Fin 256) (fl : Flips) (s : State) : s.Keeps State.guarded (execOwn c fl s) := by
  unfold execOwn; (repeat' split) <;> simp
@[simp] theorem execPeek_keeps (port : Fin 4) (tag : Nat) (ga : BitVec 50) (fl : Flips) (s : State) :
    s.Keeps State.guarded (execPeek port tag ga fl s) := by simp [execPeek]
@[simp] theorem execWrite_keeps (m : Master) (ga : BitVec 50) (data : Line) (mask : LineMask) (poison : Bool)
    (fl : Flips) (s : State) : s.Keeps State.guarded (execWrite m ga data mask poison fl s) := by
  unfold execWrite; dsimp only; (repeat' split) <;> simp
@[simp] theorem execAtomic_keeps (m : Master) (ga : BitVec 50) (op : Fin 10) (wide : Bool) (off : Fin 64) (a b : Word)
    (fl : Flips) (s : State) : s.Keeps State.guarded (execAtomic m ga op wide off a b fl s) := by
  unfold execAtomic; dsimp only; (repeat' split) <;> simp
@[simp] theorem execZero_keeps (m : Master) (ga : BitVec 50) (fl : Flips) (s : State) :
    s.Keeps State.guarded (execZero m ga fl s) := by unfold execZero; dsimp only; (repeat' split) <;> simp
@[simp] theorem execWriteback_keeps (wing : Fin 8) (s : State) : s.Keeps State.guarded (execWriteback wing s) := by
  unfold execWriteback
  split
  · simp
  extract_lets _ s1
  have h1 : s1.guarded = s.guarded := by simp [s1]
  have hd (d : Line) (p : Bool) (gl : Nat) : ((s1.dirtyHome gl d p).getD s).guarded = s.guarded :=
    State.guarded_getD (fun _ h => (State.dirtyHome_guarded h).trans h1) rfl
  (repeat' split) <;> simp [hd, h1]
@[simp] theorem execHomeRequestStart_keeps (slice : Fin 16) (fl : Flips) (s : State) :
    s.Keeps State.guarded (execHomeRequestStart slice fl s) := by unfold execHomeRequestStart; split <;> simp
@[simp] theorem execSnoop_keeps (ga : BitVec 50) (stop : Fin 12) (fl : Flips) (s : State) :
    s.Keeps State.guarded (execSnoop ga stop fl s) := by unfold execSnoop; dsimp only; split <;> simp
@[simp] theorem execSnoopResponse_keeps (ga : BitVec 50) (fl : Flips) (s : State) :
    s.Keeps State.guarded (execSnoopResponse ga fl s) := by
  unfold execSnoopResponse
  extract_lets gl
  split
  · simp
  · (repeat' split) <;> simp
    exact State.guarded_getD (fun _ h => State.snoopDone_guarded h) rfl
@[simp] theorem execAllocationRetry_keeps (ga : BitVec 50) (fl : Flips) (s : State) :
    s.Keeps State.guarded (execAllocationRetry ga fl s) := by unfold execAllocationRetry; dsimp only; split <;> simp
@[simp] theorem execEvictionWriteback_keeps (pos : Nat) (fl : Flips) (s : State) :
    s.Keeps State.guarded (execEvictionWriteback pos fl s) := by
  unfold execEvictionWriteback
  split
  · simp
  split
  · simp
  dsimp only
  split
  · split
    · simp
    · split <;> simp [State.guarded_of_snd (State.checkStruct_guarded ..) ‹_›]
  · simp
@[simp] theorem execGovernorEvict_keeps (slice : Fin 16) (set : Fin 3072) (s : State) :
    s.Keeps State.guarded (execGovernorEvict slice set s) := by unfold execGovernorEvict; (repeat' split) <;> simp
@[simp] theorem execWingInvalidateDone_keeps (s : State) : s.Keeps State.guarded (execWingInvalidateDone s) := by
  simp [execWingInvalidateDone]
@[simp] theorem execLoanWaysDone_keeps (s : State) : s.Keeps State.guarded (execLoanWaysDone s) := by simp [execLoanWaysDone]
@[simp] theorem execWayDisableDone_keeps (slice : Fin 16) (way : Fin 16) (s : State) :
    s.Keeps State.guarded (execWayDisableDone slice way s) := by simp [execWayDisableDone]
@[simp] theorem execWayCountWindow_keeps (s : State) : s.Keeps State.guarded (execWayCountWindow s) := by
  simp [execWayCountWindow]
@[simp] theorem execHoldRelease_keeps (gl : BitVec 44) (fl : Flips) (s : State) :
    s.Keeps State.guarded (execHoldRelease gl fl s) := by unfold execHoldRelease; (repeat' split) <;> simp

/-! Machine/Borrow -/

@[simp] theorem execLread_keeps (seat : Fin 64) (tag : Fin 4096) (gen : Bool) (ga : BitVec 50) (fl : Flips) (s : State) :
    s.Keeps State.guarded (execLread seat tag gen ga fl s) := by simp [execLread]
@[simp] theorem execLown_keeps (seat : Fin 64) (tag : Fin 4096) (gen : Bool) (ga : BitVec 50) (fl : Flips) (s : State) :
    s.Keeps State.guarded (execLown seat tag gen ga fl s) := by simp [execLown]
@[simp] theorem execFread_keeps (seat : Fin 64) (tag : Fin 4096) (gen : Bool) (ga : BitVec 50) (fl : Flips) (s : State) :
    s.Keeps State.guarded (execFread seat tag gen ga fl s) := by simp [execFread]
@[simp] theorem execFwrite_keeps (seat : Fin 64) (tag : Fin 4096) (gen : Bool) (ga : BitVec 50) (data : Line)
    (mask : LineMask) (poison : Bool) (fl : Flips) (s : State) :
    s.Keeps State.guarded (execFwrite seat tag gen ga data mask poison fl s) := by simp [execFwrite]
@[simp] theorem execFabricOwn_keeps (seat : Fin 64) (tag : Fin 4096) (gen : Bool) (ga : BitVec 50) (fl : Flips) (s : State) :
    s.Keeps State.guarded (execFabricOwn seat tag gen ga fl s) := by simp [execFabricOwn]
@[simp] theorem execFatomic_keeps (seat : Fin 64) (tag : Fin 4096) (gen : Bool) (ga : BitVec 50) (op : Fin 10)
    (wide : Bool) (off : Fin 64) (a b : Word) (fl : Flips) (s : State) :
    s.Keeps State.guarded (execFatomic seat tag gen ga op wide off a b fl s) := by simp [execFatomic]
@[simp] theorem execDlv_keeps (seat : Fin 64) (tag : Fin 4096) (gen : Bool) (ga : BitVec 50) (data : Line)
    (mask : LineMask) (poison : Bool) (fl : Flips) (s : State) :
    s.Keeps State.guarded (execDlv seat tag gen ga data mask poison fl s) := by
  refine (State.keeps_next ..).mpr (State.fabArrive_guarded fun a ha => ?_)
  exact State.guarded_getD (fun _ h => (State.endGrant_guarded h).trans ha) rfl
@[simp] theorem execRelease_keeps (seat : Fin 64) (tag : Fin 4096) (gen : Bool) (ga : BitVec 50) (fl : Flips) (s : State) :
    s.Keeps State.guarded (execRelease seat tag gen ga fl s) := by
  refine (State.keeps_next ..).mpr (State.fabArrive_guarded fun a ha => ?_)
  exact State.guarded_getD (fun _ h => (State.endGrant_guarded h).trans ha) rfl
@[simp] theorem execInvack_keeps (seat : Fin 64) (tag : Fin 4096) (gen : Bool) (fl : Flips) (s : State) :
    s.Keeps State.guarded (execInvack seat tag gen fl s) := by unfold execInvack; split <;> simp
@[simp] theorem execRecall_keeps (seat : Fin 64) (_tag : Fin 4096) (_gen : Bool) (ga : BitVec 50) (s : State) :
    s.Keeps State.guarded (execRecall seat _tag _gen ga s) := by unfold execRecall; dsimp only; (repeat' split) <;> simp
@[simp] theorem execInv_keeps (seat : Fin 64) (tag : Fin 4096) (gen : Bool) (ga : BitVec 50) (s : State) :
    s.Keeps State.guarded (execInv seat tag gen ga s) := by unfold execInv; dsimp only; (repeat' split) <;> simp
@[simp] theorem execFabricData_keeps (seat : Fin 64) (tag : Fin 4096) (gen : Bool) (data : Line) (poison granted : Bool)
    (s : State) : s.Keeps State.guarded (execFabricData seat tag gen data poison granted s) := by
  unfold execFabricData; (repeat' split) <;> simp
@[simp] theorem execFabricDone_keeps (seat : Fin 64) (tag : Fin 4096) (gen : Bool) (granted : Bool) (s : State) :
    s.Keeps State.guarded (execFabricDone seat tag gen granted s) := by
  unfold execFabricDone; dsimp only; (repeat' split) <;> simp
@[simp] theorem execGranted_keeps (seat : Fin 64) (tag : Fin 4096) (gen : Bool) (ewa granted : Bool) (s : State) :
    s.Keeps State.guarded (execGranted seat tag gen ewa granted s) := by unfold execGranted; (repeat' split) <;> simp
@[simp] theorem execFatomicResult_keeps (seat : Fin 64) (tag : Fin 4096) (gen : Bool) (data : Line) (poison : Bool)
    (s : State) : s.Keeps State.guarded (execFatomicResult seat tag gen data poison s) := by
  unfold execFatomicResult; split <;> simp
@[simp] theorem execHomedown_keeps (seat : Fin 64) (tag : Fin 4096) (gen : Bool) (s : State) :
    s.Keeps State.guarded (execHomedown seat tag gen s) := by unfold execHomedown; split <;> simp
@[simp] theorem execFabricAttemptTimeout_keeps (seat : Fin 64) (tag : Fin 4096) (s : State) :
    s.Keeps State.guarded (execFabricAttemptTimeout seat tag s) := by unfold execFabricAttemptTimeout; split <;> simp
@[simp] theorem execFabricRequestLost_keeps (seat : Fin 64) (tag : Fin 4096) (fl : Flips) (s : State) :
    s.Keeps State.guarded (execFabricRequestLost seat tag fl s) := by unfold execFabricRequestLost; split <;> simp
@[simp] theorem execOutboundLingerExpire_keeps (ga : BitVec 50) (fl : Flips) (s : State) :
    s.Keeps State.guarded (execOutboundLingerExpire ga fl s) := by
  unfold execOutboundLingerExpire; dsimp only; split <;> simp
@[simp] theorem execStartAnnouncement_keeps (seat : Fin 64) (s : State) :
    s.Keeps State.guarded (execStartAnnouncement seat s) := by simp [execStartAnnouncement]
@[simp] theorem execGrantSweep_keeps (seat : Fin 64) (s : State) : s.Keeps State.guarded (execGrantSweep seat s) := by
  simp [execGrantSweep]
@[simp] theorem execEarlyAckDeliver_keeps (port : Fin 4) (fl : Flips) (s : State) :
    s.Keeps State.guarded (execEarlyAckDeliver port fl s) := by
  unfold execEarlyAckDeliver
  dsimp only
  split
  · simp
  split
  · simp
  split
  · exact (State.keeps_next ..).mpr (State.guarded_getD (fun _ h => by simp [State.writeHome_guarded h]) rfl)
  · simp
  · simp
@[simp] theorem execRingRetry_keeps (_ga : BitVec 50) (s : State) : s.Keeps State.guarded (execRingRetry _ga s) := by
  simp [execRingRetry]
@[simp] theorem execRingRequestTimeout_keeps (m : Master) (load : Bool) (ga : BitVec 50) (s : State) :
    s.Keeps State.guarded (execRingRequestTimeout m load ga s) := by
  unfold execRingRequestTimeout
  dsimp only
  split
  · simp
  split
  · split
    · simp
    split
    · next h =>
      split at h
      · simp [State.dirtyHome_guarded h]
      · cases h; simp
    · simp
  · simp

/-! Machine/Alu -/

@[simp] theorem execAdd_keeps (c : Fin 256) (d a b : BitVec 5) (s : State) : s.Keeps State.guarded (execAdd c d a b s) := by
  simp [execAdd]
@[simp] theorem execSub_keeps (c : Fin 256) (d a b : BitVec 5) (s : State) : s.Keeps State.guarded (execSub c d a b s) := by
  simp [execSub]
@[simp] theorem execAnd_keeps (c : Fin 256) (d a b : BitVec 5) (s : State) : s.Keeps State.guarded (execAnd c d a b s) := by
  simp [execAnd]
@[simp] theorem execOr_keeps (c : Fin 256) (d a b : BitVec 5) (s : State) : s.Keeps State.guarded (execOr c d a b s) := by
  simp [execOr]
@[simp] theorem execXor_keeps (c : Fin 256) (d a b : BitVec 5) (s : State) : s.Keeps State.guarded (execXor c d a b s) := by
  simp [execXor]
@[simp] theorem execSll_keeps (c : Fin 256) (d a b : BitVec 5) (s : State) : s.Keeps State.guarded (execSll c d a b s) := by
  simp [execSll]
@[simp] theorem execSrl_keeps (c : Fin 256) (d a b : BitVec 5) (s : State) : s.Keeps State.guarded (execSrl c d a b s) := by
  simp [execSrl]
@[simp] theorem execSra_keeps (c : Fin 256) (d a b : BitVec 5) (s : State) : s.Keeps State.guarded (execSra c d a b s) := by
  simp [execSra]
@[simp] theorem execSlt_keeps (c : Fin 256) (d a b : BitVec 5) (s : State) : s.Keeps State.guarded (execSlt c d a b s) := by
  simp [execSlt]
@[simp] theorem execSltu_keeps (c : Fin 256) (d a b : BitVec 5) (s : State) :
    s.Keeps State.guarded (execSltu c d a b s) := by simp [execSltu]
@[simp] theorem execMin_keeps (c : Fin 256) (d a b : BitVec 5) (s : State) : s.Keeps State.guarded (execMin c d a b s) := by
  simp [execMin]
@[simp] theorem execMax_keeps (c : Fin 256) (d a b : BitVec 5) (s : State) : s.Keeps State.guarded (execMax c d a b s) := by
  simp [execMax]
@[simp] theorem execMinu_keeps (c : Fin 256) (d a b : BitVec 5) (s : State) :
    s.Keeps State.guarded (execMinu c d a b s) := by simp [execMinu]
@[simp] theorem execMaxu_keeps (c : Fin 256) (d a b : BitVec 5) (s : State) :
    s.Keeps State.guarded (execMaxu c d a b s) := by simp [execMaxu]
@[simp] theorem execMul_keeps (c : Fin 256) (d a b : BitVec 5) (s : State) : s.Keeps State.guarded (execMul c d a b s) := by
  simp [execMul]
@[simp] theorem execMulh_keeps (c : Fin 256) (d a b : BitVec 5) (s : State) :
    s.Keeps State.guarded (execMulh c d a b s) := by simp [execMulh]
@[simp] theorem execMulhu_keeps (c : Fin 256) (d a b : BitVec 5) (s : State) :
    s.Keeps State.guarded (execMulhu c d a b s) := by simp [execMulhu]
@[simp] theorem execDiv_keeps (c : Fin 256) (d a b : BitVec 5) (s : State) : s.Keeps State.guarded (execDiv c d a b s) := by
  simp [execDiv]
@[simp] theorem execDivu_keeps (c : Fin 256) (d a b : BitVec 5) (s : State) :
    s.Keeps State.guarded (execDivu c d a b s) := by simp [execDivu]
@[simp] theorem execRem_keeps (c : Fin 256) (d a b : BitVec 5) (s : State) : s.Keeps State.guarded (execRem c d a b s) := by
  simp [execRem]
@[simp] theorem execRemu_keeps (c : Fin 256) (d a b : BitVec 5) (s : State) :
    s.Keeps State.guarded (execRemu c d a b s) := by simp [execRemu]
@[simp] theorem execClz_keeps (c : Fin 256) (d a : BitVec 5) (s : State) : s.Keeps State.guarded (execClz c d a s) := by
  simp [execClz]
@[simp] theorem execCtz_keeps (c : Fin 256) (d a : BitVec 5) (s : State) : s.Keeps State.guarded (execCtz c d a s) := by
  simp [execCtz]
@[simp] theorem execPopc_keeps (c : Fin 256) (d a : BitVec 5) (s : State) : s.Keeps State.guarded (execPopc c d a s) := by
  simp [execPopc]
@[simp] theorem execSextb_keeps (c : Fin 256) (d a : BitVec 5) (s : State) : s.Keeps State.guarded (execSextb c d a s) := by
  simp [execSextb]
@[simp] theorem execSexth_keeps (c : Fin 256) (d a : BitVec 5) (s : State) : s.Keeps State.guarded (execSexth c d a s) := by
  simp [execSexth]
@[simp] theorem execSextw_keeps (c : Fin 256) (d a : BitVec 5) (s : State) : s.Keeps State.guarded (execSextw c d a s) := by
  simp [execSextw]
@[simp] theorem execZextw_keeps (c : Fin 256) (d a : BitVec 5) (s : State) : s.Keeps State.guarded (execZextw c d a s) := by
  simp [execZextw]
@[simp] theorem execBswap_keeps (c : Fin 256) (d a : BitVec 5) (s : State) : s.Keeps State.guarded (execBswap c d a s) := by
  simp [execBswap]
@[simp] theorem execAddi_keeps (c : Fin 256) (d a : BitVec 5) (imm : BitVec 16) (s : State) :
    s.Keeps State.guarded (execAddi c d a imm s) := by simp [execAddi]
@[simp] theorem execAndi_keeps (c : Fin 256) (d a : BitVec 5) (imm : BitVec 16) (s : State) :
    s.Keeps State.guarded (execAndi c d a imm s) := by simp [execAndi]
@[simp] theorem execOri_keeps (c : Fin 256) (d a : BitVec 5) (imm : BitVec 16) (s : State) :
    s.Keeps State.guarded (execOri c d a imm s) := by simp [execOri]
@[simp] theorem execXori_keeps (c : Fin 256) (d a : BitVec 5) (imm : BitVec 16) (s : State) :
    s.Keeps State.guarded (execXori c d a imm s) := by simp [execXori]
@[simp] theorem execSlti_keeps (c : Fin 256) (d a : BitVec 5) (imm : BitVec 16) (s : State) :
    s.Keeps State.guarded (execSlti c d a imm s) := by simp [execSlti]
@[simp] theorem execSltiu_keeps (c : Fin 256) (d a : BitVec 5) (imm : BitVec 16) (s : State) :
    s.Keeps State.guarded (execSltiu c d a imm s) := by simp [execSltiu]
@[simp] theorem execLui_keeps (c : Fin 256) (d : BitVec 5) (imm : BitVec 16) (s : State) :
    s.Keeps State.guarded (execLui c d imm s) := by simp [execLui]
@[simp] theorem execSlli_keeps (c : Fin 256) (d a : BitVec 5) (sh : BitVec 6) (s : State) :
    s.Keeps State.guarded (execSlli c d a sh s) := by simp [execSlli]
@[simp] theorem execSrli_keeps (c : Fin 256) (d a : BitVec 5) (sh : BitVec 6) (s : State) :
    s.Keeps State.guarded (execSrli c d a sh s) := by simp [execSrli]
@[simp] theorem execSrai_keeps (c : Fin 256) (d a : BitVec 5) (sh : BitVec 6) (s : State) :
    s.Keeps State.guarded (execSrai c d a sh s) := by simp [execSrai]
@[simp] theorem execShori_keeps (c : Fin 256) (d a : BitVec 5) (imm : BitVec 16) (s : State) :
    s.Keeps State.guarded (execShori c d a imm s) := by simp [execShori]

/-! Machine/Registrar -/

@[simp] theorem execEventArrival_keeps (pos n : Nat) (s : State) : s.Keeps State.guarded (execEventArrival pos n s) := by
  simp [execEventArrival]
@[simp] theorem execRateWindowClose_keeps (src : Fin 1280) (s : State) :
    s.Keeps State.guarded (execRateWindowClose src s) := by simp [execRateWindowClose]
@[simp] theorem execAnnalWrite_keeps (s : State) : s.Keeps State.guarded (execAnnalWrite s) := by simp [execAnnalWrite]
@[simp] theorem execAnnalPeriodic_keeps (s : State) : s.Keeps State.guarded (execAnnalPeriodic s) := by
  simp [execAnnalPeriodic]
@[simp] theorem execRecFlush_keeps (s : State) : s.Keeps State.guarded (execRecFlush s) := by simp [execRecFlush]
@[simp] theorem execAnnalWriteDone_keeps (s : State) : s.Keeps State.guarded (execAnnalWriteDone s) := by
  unfold execAnnalWriteDone; split <;> simp
@[simp] theorem execRecordWindowCopy_keeps (reader : Fin 5) (seq : Word) (s : State) :
    s.Keeps State.guarded (execRecordWindowCopy reader seq s) := by simp [execRecordWindowCopy]
@[simp] theorem execRecordWindowReady_keeps (reader : Fin 5) (s : State) :
    s.Keeps State.guarded (execRecordWindowReady reader s) := by simp [execRecordWindowReady]
@[simp] theorem execRecIrqCoalesce_keeps (port : Fin 4) (s : State) : s.Keeps State.guarded (execRecIrqCoalesce port s) := by
  simp [execRecIrqCoalesce]

/-! Machine/Atrium -/

@[simp] theorem execPush_keeps (port : Fin 4) (queue : Fin 4096) (off : Fin 64) (size : Nat) (data : Line) (s : State) :
    s.Keeps State.guarded (execPush port queue off size data s) := by simp [execPush]
@[simp] theorem execPushmore_keeps (port : Fin 4) (queue : Fin 4096) (off : Fin 64) (size : Nat) (data : Line) (s : State) :
    s.Keeps State.guarded (execPushmore port queue off size data s) := by simp [execPushmore]
@[simp] theorem execPop_keeps (port : Fin 4) (queue : Fin 4096) (off : Fin 64) (size : Nat) (corr : Fin 9) (unc : Bool)
    (s : State) : s.Keeps State.guarded (execPop port queue off size corr unc s) := by simp [execPop]
@[simp] theorem execMsixUnmask_keeps (port : Fin 4) (vector : Fin 2048) (s : State) :
    s.Keeps State.guarded (execMsixUnmask port vector s) := by simp [execMsixUnmask]

/-! Machine/Control -/

@[simp] theorem execBeq_keeps (c : Fin 256) (d a : BitVec 5) (imm : BitVec 16) (s : State) :
    s.Keeps State.guarded (execBeq c d a imm s) := by simp [execBeq]
@[simp] theorem execBne_keeps (c : Fin 256) (d a : BitVec 5) (imm : BitVec 16) (s : State) :
    s.Keeps State.guarded (execBne c d a imm s) := by simp [execBne]
@[simp] theorem execBlt_keeps (c : Fin 256) (d a : BitVec 5) (imm : BitVec 16) (s : State) :
    s.Keeps State.guarded (execBlt c d a imm s) := by simp [execBlt]
@[simp] theorem execBge_keeps (c : Fin 256) (d a : BitVec 5) (imm : BitVec 16) (s : State) :
    s.Keeps State.guarded (execBge c d a imm s) := by simp [execBge]
@[simp] theorem execBltu_keeps (c : Fin 256) (d a : BitVec 5) (imm : BitVec 16) (s : State) :
    s.Keeps State.guarded (execBltu c d a imm s) := by simp [execBltu]
@[simp] theorem execBgeu_keeps (c : Fin 256) (d a : BitVec 5) (imm : BitVec 16) (s : State) :
    s.Keeps State.guarded (execBgeu c d a imm s) := by simp [execBgeu]
@[simp] theorem execJal_keeps (c : Fin 256) (d : BitVec 5) (imm : BitVec 16) (s : State) :
    s.Keeps State.guarded (execJal c d imm s) := by simp [execJal]
@[simp] theorem execJalr_keeps (c : Fin 256) (d a : BitVec 5) (imm : BitVec 16) (s : State) :
    s.Keeps State.guarded (execJalr c d a imm s) := by simp [execJalr]
@[simp] theorem execFence_keeps (c : Fin 256) (s : State) : s.Keeps State.guarded (execFence c s) := by simp [execFence]
@[simp] theorem execFenceI_keeps (c : Fin 256) (s : State) : s.Keeps State.guarded (execFenceI c s) := by simp [execFenceI]
@[simp] theorem execFenceG_keeps (c : Fin 256) (d : BitVec 5) (s : State) : s.Keeps State.guarded (execFenceG c d s) := by
  unfold execFenceG; dsimp only; split <;> simp
@[simp] theorem execPsync_keeps (c : Fin 256) (d : BitVec 5) (s : State) : s.Keeps State.guarded (execPsync c d s) := by
  simp [execPsync]
@[simp] theorem execCwrd_keeps (c : Fin 256) (d : BitVec 5) (cw : BitVec 6) (s : State) :
    s.Keeps State.guarded (execCwrd c d cw s) := by unfold execCwrd; dsimp only; split <;> simp
@[simp] theorem execCwwr_keeps (c : Fin 256) (d : BitVec 5) (cw : BitVec 6) (s : State) :
    s.Keeps State.guarded (execCwwr c d cw s) := by unfold execCwwr; dsimp only; split <;> simp
@[simp] theorem execTrap_keeps (c : Fin 256) (imm : BitVec 16) (s : State) : s.Keeps State.guarded (execTrap c imm s) := by
  simp [execTrap]
@[simp] theorem execPause_keeps (c : Fin 256) (imm : BitVec 16) (s : State) : s.Keeps State.guarded (execPause c imm s) := by
  simp [execPause]
@[simp] theorem execPauseEnd_keeps (c : Fin 256) (s : State) : s.Keeps State.guarded (execPauseEnd c s) := by
  unfold execPauseEnd; dsimp only; split <;> simp
@[simp] theorem execDeadlineReached_keeps (c : Fin 256) (s : State) : s.Keeps State.guarded (execDeadlineReached c s) := by
  simp [execDeadlineReached]
@[simp] theorem execIllegalInstruction_keeps (c : Fin 256) (w : BitVec 32) (s : State) :
    s.Keeps State.guarded (execIllegalInstruction c w s) := by simp [execIllegalInstruction]
@[simp] theorem execScall_keeps (c : Fin 256) (imm : BitVec 16) (s : State) : s.Keeps State.guarded (execScall c imm s) := by
  refine (State.keeps_next ..).mpr (State.fenced_guarded fun x => ?_)
  (repeat' split) <;> simp
@[simp] theorem execSret_keeps (c : Fin 256) (s : State) : s.Keeps State.guarded (execSret c s) := by
  refine (State.keeps_next ..).mpr (State.fenced_guarded fun x => ?_)
  split <;> simp

/-! Machine/LoadStore -/

@[simp] theorem execLb_keeps (c : Fin 256) (d a : BitVec 5) (imm : BitVec 16) (fl : Flips) (s : State) :
    s.Keeps State.guarded (execLb c d a imm fl s) := by simp [execLb]
@[simp] theorem execLh_keeps (c : Fin 256) (d a : BitVec 5) (imm : BitVec 16) (fl : Flips) (s : State) :
    s.Keeps State.guarded (execLh c d a imm fl s) := by simp [execLh]
@[simp] theorem execLw_keeps (c : Fin 256) (d a : BitVec 5) (imm : BitVec 16) (fl : Flips) (s : State) :
    s.Keeps State.guarded (execLw c d a imm fl s) := by simp [execLw]
@[simp] theorem execLd_keeps (c : Fin 256) (d a : BitVec 5) (imm : BitVec 16) (fl : Flips) (s : State) :
    s.Keeps State.guarded (execLd c d a imm fl s) := by simp [execLd]
@[simp] theorem execLbu_keeps (c : Fin 256) (d a : BitVec 5) (imm : BitVec 16) (fl : Flips) (s : State) :
    s.Keeps State.guarded (execLbu c d a imm fl s) := by simp [execLbu]
@[simp] theorem execLhu_keeps (c : Fin 256) (d a : BitVec 5) (imm : BitVec 16) (fl : Flips) (s : State) :
    s.Keeps State.guarded (execLhu c d a imm fl s) := by simp [execLhu]
@[simp] theorem execLwu_keeps (c : Fin 256) (d a : BitVec 5) (imm : BitVec 16) (fl : Flips) (s : State) :
    s.Keeps State.guarded (execLwu c d a imm fl s) := by simp [execLwu]
@[simp] theorem execSb_keeps (c : Fin 256) (d a : BitVec 5) (imm : BitVec 16) (s : State) :
    s.Keeps State.guarded (execSb c d a imm s) := by simp [execSb]
@[simp] theorem execSh_keeps (c : Fin 256) (d a : BitVec 5) (imm : BitVec 16) (s : State) :
    s.Keeps State.guarded (execSh c d a imm s) := by simp [execSh]
@[simp] theorem execSw_keeps (c : Fin 256) (d a : BitVec 5) (imm : BitVec 16) (s : State) :
    s.Keeps State.guarded (execSw c d a imm s) := by simp [execSw]
@[simp] theorem execSd_keeps (c : Fin 256) (d a : BitVec 5) (imm : BitVec 16) (s : State) :
    s.Keeps State.guarded (execSd c d a imm s) := by simp [execSd]
@[simp] theorem execZline_keeps (c : Fin 256) (a : BitVec 5) (s : State) : s.Keeps State.guarded (execZline c a s) := by
  refine (State.keeps_next ..).mpr (State.attempt_guarded fun x => ?_)
  dsimp only
  (repeat' split) <;> simp
@[simp] theorem execStoreBufferLeave_keeps (c : Fin 256) (loan : Bool) (fl : Flips) (s : State) :
    s.Keeps State.guarded (execStoreBufferLeave c loan fl s) := by
  unfold execStoreBufferLeave
  split
  · simp
  extract_lets x d p
  have hx : x.2.guarded = s.guarded := State.checkStruct_guarded ..
  clear_value x
  (repeat' split) <;> simp [hx]
  · simp [State.guarded_of_snd (State.checkWingWrite_guarded ..) ‹_›, hx]
  · simp [State.guarded_of_snd (State.checkWingWrite_guarded ..) ‹_›, hx]
@[simp] theorem execStoreRefusal_keeps (c : Fin 256) (s : State) : s.Keeps State.guarded (execStoreRefusal c s) := by
  unfold execStoreRefusal; split <;> simp
@[simp] theorem execLoadResponse_keeps (c : Fin 256) (fl : Flips) (s : State) :
    s.Keeps State.guarded (execLoadResponse c fl s) := by
  unfold execLoadResponse
  (repeat' split) <;> simp
  exact State.guarded_getD (fun _ h => State.atomHere_guarded h) rfl
@[simp] theorem execAswap_keeps (c : Fin 256) (wide : Bool) (d a b : BitVec 5) (fl : Flips) (s : State) :
    s.Keeps State.guarded (execAswap c wide d a b fl s) := by simp [execAswap]
@[simp] theorem execAadd_keeps (c : Fin 256) (wide : Bool) (d a b : BitVec 5) (fl : Flips) (s : State) :
    s.Keeps State.guarded (execAadd c wide d a b fl s) := by simp [execAadd]
@[simp] theorem execAand_keeps (c : Fin 256) (wide : Bool) (d a b : BitVec 5) (fl : Flips) (s : State) :
    s.Keeps State.guarded (execAand c wide d a b fl s) := by simp [execAand]
@[simp] theorem execAor_keeps (c : Fin 256) (wide : Bool) (d a b : BitVec 5) (fl : Flips) (s : State) :
    s.Keeps State.guarded (execAor c wide d a b fl s) := by simp [execAor]
@[simp] theorem execAxor_keeps (c : Fin 256) (wide : Bool) (d a b : BitVec 5) (fl : Flips) (s : State) :
    s.Keeps State.guarded (execAxor c wide d a b fl s) := by simp [execAxor]
@[simp] theorem execAmin_keeps (c : Fin 256) (wide : Bool) (d a b : BitVec 5) (fl : Flips) (s : State) :
    s.Keeps State.guarded (execAmin c wide d a b fl s) := by simp [execAmin]
@[simp] theorem execAmax_keeps (c : Fin 256) (wide : Bool) (d a b : BitVec 5) (fl : Flips) (s : State) :
    s.Keeps State.guarded (execAmax c wide d a b fl s) := by simp [execAmax]
@[simp] theorem execAminu_keeps (c : Fin 256) (wide : Bool) (d a b : BitVec 5) (fl : Flips) (s : State) :
    s.Keeps State.guarded (execAminu c wide d a b fl s) := by simp [execAminu]
@[simp] theorem execAmaxu_keeps (c : Fin 256) (wide : Bool) (d a b : BitVec 5) (fl : Flips) (s : State) :
    s.Keeps State.guarded (execAmaxu c wide d a b fl s) := by simp [execAmaxu]
@[simp] theorem execAcas_keeps (c : Fin 256) (wide : Bool) (d a b : BitVec 5) (fl : Flips) (s : State) :
    s.Keeps State.guarded (execAcas c wide d a b fl s) := by simp [execAcas]

/-! Machine/Calls -/

@[simp] theorem execProgramLoadDone_keeps (ext : Ext) (s : State) : s.Keeps State.guarded (execProgramLoadDone ext s) := by
  unfold execProgramLoadDone
  split
  · simp
  split
  · simp
  split
  · simp
  · dsimp only
    split <;> simp [State.devReadAll_guarded ‹_›]
@[simp] theorem execCompletionQueueRoom_keeps (c : Fin 256) (s : State) :
    s.Keeps State.guarded (execCompletionQueueRoom c s) := by simp [execCompletionQueueRoom]
@[simp] theorem execDone_keeps (c : Fin 256) (s : State) : s.Keeps State.guarded (execDone c s) := by simp [execDone]
@[simp] theorem execFaultDelivery_keeps (c : Fin 256) (giveUp : Bool) (s : State) :
    s.Keeps State.guarded (execFaultDelivery c giveUp s) := by unfold execFaultDelivery; dsimp only; (repeat' split) <;> simp
@[simp] theorem execCallDispatch_keeps (corr : Fin 9) (unc : Bool) (s : State) :
    s.Keeps State.guarded (execCallDispatch corr unc s) := by
  unfold execCallDispatch
  dsimp only
  (repeat' split) <;> simp

/-! Machine/FabLinks -/

@[simp] theorem execLinkRecordTimer_keeps (s : State) : s.Keeps State.guarded (execLinkRecordTimer s) := by
  simp [execLinkRecordTimer]
@[simp] theorem execLinkRecord_keeps (port : Fin 16) (uid : Word) (seat : Option (Fin 64)) (seq : Nat)
    (kprio : BitVec 8) (links : List (Fin 16 × Word × Fin 16)) (s : State) :
    s.Keeps State.guarded (execLinkRecord port uid seat seq kprio links s) := by simp [execLinkRecord]
@[simp] theorem execReceiverDetect_keeps (port : Fin 16) (s : State) :
    s.Keeps State.guarded (execReceiverDetect port s) := by simp [execReceiverDetect]
@[simp] theorem execBitLock_keeps (port : Fin 16) (speed width : Fin 4) (s : State) :
    s.Keeps State.guarded (execBitLock port speed width s) := by simp [execBitLock]
@[simp] theorem execFabricPortTrainTimeout_keeps (port : Fin 16) (s : State) :
    s.Keeps State.guarded (execFabricPortTrainTimeout port s) := by simp [execFabricPortTrainTimeout]
@[simp] theorem execFabricPortDownRetry_keeps (port : Fin 16) (s : State) :
    s.Keeps State.guarded (execFabricPortDownRetry port s) := by simp [execFabricPortDownRetry]
@[simp] theorem execFabricRetrain_keeps (port : Fin 16) (s : State) : s.Keeps State.guarded (execFabricRetrain port s) := by
  simp [execFabricRetrain]
@[simp] theorem execLaneLockLoss_keeps (port : Fin 16) (s : State) : s.Keeps State.guarded (execLaneLockLoss port s) := by
  simp [execLaneLockLoss]
@[simp] theorem execFabricRetrainTimeout_keeps (port : Fin 16) (s : State) :
    s.Keeps State.guarded (execFabricRetrainTimeout port s) := by simp [execFabricRetrainTimeout]
@[simp] theorem execLinkRekey_keeps (port : Fin 16) (s : State) : s.Keeps State.guarded (execLinkRekey port s) := by
  simp [execLinkRekey]
@[simp] theorem execConfigExchange_keeps (port : Fin 16) (uid : Word) (nport : Fin 16) (seated : Bool) (fabid : Word)
    (crypt : Bool) (nonce : BitVec 128) (kcv : BitVec 32) (s : State) :
    s.Keeps State.guarded (execConfigExchange port uid nport seated fabid crypt nonce kcv s) := by simp [execConfigExchange]
@[simp] theorem execFlitPayload_keeps (port : Fin 16) (seq ack : Fin 1024) (chan : Fin 64) (credits : Fin 16)
    (payload : BitVec 480) (crc : BitVec 32) (s : State) :
    s.Keeps State.guarded (execFlitPayload port seq ack chan credits payload crc s) := by simp [execFlitPayload]
@[simp] theorem execFlitTag_keeps (port : Fin 16) (seq ack : Fin 1024) (chan : Fin 64) (credits : Fin 16)
    (payload : BitVec 480) (crc : BitVec 32) (s : State) :
    s.Keeps State.guarded (execFlitTag port seq ack chan credits payload crc s) := by
  refine (State.keeps_next ..).mpr (State.flitIn_guarded fun a => ?_)
  dsimp only
  (repeat' split) <;> simp
@[simp] theorem execFlitNak_keeps (port : Fin 16) (seq ack : Fin 1024) (chan : Fin 64) (credits : Fin 16)
    (expected : Fin 1024) (payload : BitVec 480) (crc : BitVec 32) (s : State) :
    s.Keeps State.guarded (execFlitNak port seq ack chan credits expected payload crc s) := by
  unfold execFlitNak
  dsimp only
  split
  · simp
  · split <;> simp [State.guarded_of_snd (State.flitCheck_guarded ..) ‹_›]
@[simp] theorem execFlitIdle_keeps (port : Fin 16) (seq ack : Fin 1024) (chan : Fin 64) (credits : Fin 16)
    (payload : BitVec 480) (crc : BitVec 32) (s : State) :
    s.Keeps State.guarded (execFlitIdle port seq ack chan credits payload crc s) := by simp [execFlitIdle]
@[simp] theorem execDelayProbe_keeps (port : Fin 16) (roundTrip turnaround : Nat) (s : State) :
    s.Keeps State.guarded (execDelayProbe port roundTrip turnaround s) := by simp [execDelayProbe]
@[simp] theorem execMessageForward_keeps (port : Fin 16) (dest : Fin 64) (hops : Fin 16) (words : Nat) (s : State) :
    s.Keeps State.guarded (execMessageForward port dest hops words s) := by simp [execMessageForward]

/-! Machine/Jobs -/

@[simp] theorem execJsubC_keeps (c : Fin 256) (d a : BitVec 5) (ext : Ext) (s : State) :
    s.Keeps State.guarded (execJsubC c d a ext s) := by simp [execJsubC]
@[simp] theorem execJsubM_keeps (c : Fin 256) (d a : BitVec 5) (ext : Ext) (s : State) :
    s.Keeps State.guarded (execJsubM c d a ext s) := by simp [execJsubM]
@[simp] theorem execJsubS_keeps (c : Fin 256) (d a : BitVec 5) (ext : Ext) (s : State) :
    s.Keeps State.guarded (execJsubS c d a ext s) := by simp [execJsubS]
@[simp] theorem execJwait_keeps (c : Fin 256) (d a : BitVec 5) (ext : Ext) (s : State) :
    s.Keeps State.guarded (execJwait c d a ext s) := by
  refine (State.keeps_next ..).mpr (State.fenced_guarded fun x => ?_)
  dsimp only
  (repeat' split) <;> simp
@[simp] theorem execJpoll_keeps (c : Fin 256) (d a : BitVec 5) (ext : Ext) (s : State) :
    s.Keeps State.guarded (execJpoll c d a ext s) := by
  refine (State.keeps_next ..).mpr (State.fenced_guarded fun x => ?_)
  dsimp only
  (repeat' split) <;> simp
@[simp] theorem execMoverJobComplete_keeps (c : Fin 256) (desc : Nat) (ext : List (Nat × Line)) (wrote lost : List Nat)
    (s : State) : s.Keeps State.guarded (execMoverJobComplete c desc ext wrote lost s) := by
  unfold execMoverJobComplete
  (repeat' split) <;> simp
  exact State.moverPlan_guarded ‹_›
@[simp] theorem execCipherJobComplete_keeps (c : Fin 256) (desc : Nat) (ext : List (Nat × Line)) (wrote lost : List Nat)
    (dup : Fin 3) (s : State) : s.Keeps State.guarded (execCipherJobComplete c desc ext wrote lost dup s) := by
  unfold execCipherJobComplete
  split
  · rw [State.keeps_next]
    split
    · rfl
    split
    · simp
    split
    · rfl
    · next h => dsimp only; split <;> simp [State.cipherPlan_guarded h]
  · simp

/-! Machine/Services -/

@[simp] theorem execQget_keeps (c : Fin 256) (d a b : BitVec 5) (corr : Fin 9) (unc : Bool) (s : State) :
    s.Keeps State.guarded (execQget c d a b corr unc s) := by simp [execQget]
@[simp] theorem execQgetw_keeps (c : Fin 256) (d a b : BitVec 5) (corr : Fin 9) (unc : Bool) (s : State) :
    s.Keeps State.guarded (execQgetw c d a b corr unc s) := by simp [execQgetw]
@[simp] theorem execQput_keeps (c : Fin 256) (d a b : BitVec 5) (ext : Ext) (s : State) :
    s.Keeps State.guarded (execQput c d a b ext s) := by simp [execQput]
@[simp] theorem execAccreate_keeps (c : Fin 256) (d a : BitVec 5) (ext : Ext) (s : State) :
    s.Keeps State.guarded (execAccreate c d a ext s) := by
  refine (State.keeps_next ..).mpr (State.fenced_guarded fun x => State.withLine_guarded fun a l => ?_)
  dsimp only
  (repeat' split) <;> simp
@[simp] theorem execAcinfo_keeps (c : Fin 256) (d a b : BitVec 5) (s : State) :
    s.Keeps State.guarded (execAcinfo c d a b s) := by
  refine (State.keeps_next ..).mpr (State.fenced_guarded fun x => ?_)
  dsimp only
  split
  · simp
  split
  · simp
  split
  · rfl
  · next h =>
    split
    · rfl
    · simp [State.devWrite_guarded ‹_›, State.devWrite_guarded h]
@[simp] theorem execAcdelete_keeps (c : Fin 256) (d a : BitVec 5) (s : State) :
    s.Keeps State.guarded (execAcdelete c d a s) := by simp [execAcdelete]
@[simp] theorem execKeyset_keeps (c : Fin 256) (d a b : BitVec 5) (ext : Ext) (s : State) :
    s.Keeps State.guarded (execKeyset c d a b ext s) := by
  refine (State.keeps_next ..).mpr (State.floor_guarded fun x => State.withLine_guarded fun a l => ?_)
  dsimp only
  split
  · rfl
  · split
    · simp
    · simpa using State.keyFrom_guarded ‹_›
@[simp] theorem execKeyclr_keeps (c : Fin 256) (d a : BitVec 5) (s : State) :
    s.Keeps State.guarded (execKeyclr c d a s) := by simp [execKeyclr]
@[simp] theorem execJobStart_keeps (c : Fin 256) (engine : Fin 8) (s : State) :
    s.Keeps State.guarded (execJobStart c engine s) := by unfold execJobStart; (repeat' split) <;> simp
@[simp] theorem execSealPathSwitched_keeps (acc : Fin 65536) (s : State) :
    s.Keeps State.guarded (execSealPathSwitched acc s) := by unfold execSealPathSwitched; split <;> simp
@[simp] theorem execSealStripesOnMedia_keeps (acc : Fin 65536) (s : State) :
    s.Keeps State.guarded (execSealStripesOnMedia acc s) := by unfold execSealStripesOnMedia; split <;> simp
@[simp] theorem execSealHashDone_keeps (acc : Fin 65536) (dup : Fin 3) (s : State) :
    s.Keeps State.guarded (execSealHashDone acc dup s) := by unfold execSealHashDone; dsimp only; (repeat' split) <;> simp
@[simp] theorem execSealCommit_keeps (acc : Fin 65536) (s : State) : s.Keeps State.guarded (execSealCommit acc s) := by
  unfold execSealCommit; split <;> simp

/-! Machine/Media -/

@[simp] theorem execMediaReadRequest_keeps (tile : Fin 536870912) (leaf : Fin 64) (left : List (Nat × Nat)) (s : State) :
    s.Keeps State.guarded (execMediaReadRequest tile leaf left s) := by unfold execMediaReadRequest; split <;> simp
@[simp] theorem execLeafReadDone_keeps (tile : Fin 536870912) (leaf : Fin 64) (errs : Image) (slow : Bool) (s : State) :
    s.Keeps State.guarded (execLeafReadDone tile leaf errs slow s) := by
  unfold execLeafReadDone
  split
  · simp
  dsimp only
  split
  · simp
  split
  · next hc =>
    have := State.guarded_of_snd_snd (State.checkLeaf_guarded ..) hc
    (repeat' split) <;> simp [this]
  · simp [State.guarded_of_snd_snd (State.checkLeaf_guarded ..) ‹_›]
@[simp] theorem execReconstructSourceDone_keeps (tile : Fin 536870912) (leaf : Fin 64) (member : Fin 16)
    (errs : List Image) (slow : Bool) (s : State) :
    s.Keeps State.guarded (execReconstructSourceDone tile leaf member errs slow s) := by
  unfold execReconstructSourceDone
  split
  · simp
  extract_lets p q buf light tries done s0 lateOne r0
  have hd (a : State) : (done a).guarded = a.guarded := by simp only [done]; split <;> simp
  have h0 : s0.guarded = s.guarded := by simp only [s0]; split <;> simp
  clear_value done s0
  split
  · simp
  split
  · simp [hd, h0]
  rename_i s1 r1 s1' _ _
  have h1 : s1.guarded = s.guarded := by simp only [s1]; split <;> simp [h0]
  have h1' : s1'.guarded = s.guarded := by simp [s1', hd, h1]
  clear_value s1 s1'
  split
  · simp [h1']
  split
  · next hc =>
    have := State.guarded_of_snd_snd (State.checkLeaf_guarded ..) hc
    dsimp only
    split <;> simp [this, h1']
  · simp [State.guarded_of_snd_snd (State.checkLeaf_guarded ..) ‹_›, h1']
@[simp] theorem execPauseMiss_keeps (tile : Fin 536870912) (leaf : Fin 64) (s : State) :
    s.Keeps State.guarded (execPauseMiss tile leaf s) := by unfold execPauseMiss; (repeat' split) <;> simp
@[simp] theorem execBestwaitExpire_keeps (tile : Fin 536870912) (leaf : Fin 64) (s : State) :
    s.Keeps State.guarded (execBestwaitExpire tile leaf s) := by unfold execBestwaitExpire; split <;> simp

/-! Machine/MediaWrite -/

@[simp] theorem execJournalWrite_keeps (s : State) : s.Keeps State.guarded (execJournalWrite s) := by simp [execJournalWrite]
@[simp] theorem execCheckpoint_keeps (s : State) : s.Keeps State.guarded (execCheckpoint s) := by simp [execCheckpoint]
@[simp] theorem execCheckpointDone_keeps (s : State) : s.Keeps State.guarded (execCheckpointDone s) := by
  unfold execCheckpointDone; split <;> simp
@[simp] theorem execInplaceWriteback_keeps (tile : Fin 536870912) (leaf : Fin 64) (pick : Fin 33554432 × Image × Image)
    (s : State) : s.Keeps State.guarded (execInplaceWriteback tile leaf pick s) := by simp [execInplaceWriteback]
@[simp] theorem execRowTokenGrant_keeps (part : Fin 2048) (s : State) :
    s.Keeps State.guarded (execRowTokenGrant part s) := by simp [execRowTokenGrant]
@[simp] theorem execLeafWriteDone_keeps (part : Fin 2048) (ok : Bool) (s : State) :
    s.Keeps State.guarded (execLeafWriteDone part ok s) := by simp [execLeafWriteDone]
@[simp] theorem execChannelPauseRequest_keeps (ch : Fin 32) (s : State) :
    s.Keeps State.guarded (execChannelPauseRequest ch s) := by simp [execChannelPauseRequest]
@[simp] theorem execChannelPauseEnter_keeps (ch : Fin 32) (s : State) :
    s.Keeps State.guarded (execChannelPauseEnter ch s) := by simp [execChannelPauseEnter]
@[simp] theorem execChannelPauseEnd_keeps (ch : Fin 32) (s : State) : s.Keeps State.guarded (execChannelPauseEnd ch s) := by
  simp [execChannelPauseEnd]

/-! Machine/Builders -/

@[simp] theorem execBuilderLine_keeps (line : Fin 137438953472) (pick : Fin 33554432) (s : State) :
    s.Keeps State.guarded (execBuilderLine line pick s) := by simp [execBuilderLine]
@[simp] theorem execBuilderSpill_keeps (builder : Nat) (slot : Fin 15) (leaf : Fin 64) (s : State) :
    s.Keeps State.guarded (execBuilderSpill builder slot leaf s) := by unfold execBuilderSpill; split <;> simp
@[simp] theorem execBuilderAgeExpire_keeps (builder : Nat) (s : State) :
    s.Keeps State.guarded (execBuilderAgeExpire builder s) := by unfold execBuilderAgeExpire; split <;> simp
@[simp] theorem execBuilderStripeVerified_keeps (builder : Nat) (fails : List (Fin 16)) (s : State) :
    s.Keeps State.guarded (execBuilderStripeVerified builder fails s) := by unfold execBuilderStripeVerified; split <;> simp

/-! Machine/Conserve -/

@[simp] theorem execConLogWrite_keeps (s : State) : s.Keeps State.guarded (execConLogWrite s) := by simp [execConLogWrite]
@[simp] theorem execConCheckpointChunk_keeps (s : State) : s.Keeps State.guarded (execConCheckpointChunk s) := by
  simp [execConCheckpointChunk]
@[simp] theorem execConMetackpt_keeps (s : State) : s.Keeps State.guarded (execConMetackpt s) := by simp [execConMetackpt]
@[simp] theorem execTileMove_keeps (tile : Fin 536870912) (pick : Fin 33554432) (lost : List (Fin 64)) (fail : Bool)
    (s : State) : s.Keeps State.guarded (execTileMove tile pick lost fail s) := by unfold execTileMove; split <;> simp
@[simp] theorem execTileMoveEnd_keeps (tile : Fin 536870912) (s : State) :
    s.Keeps State.guarded (execTileMoveEnd tile s) := by simp [execTileMoveEnd]
@[simp] theorem execExcision_keeps (pick : Fin 33554432) (s : State) : s.Keeps State.guarded (execExcision pick s) := by
  unfold execExcision; (repeat' split) <;> simp
@[simp] theorem execExcisionEnd_keeps (s : State) : s.Keeps State.guarded (execExcisionEnd s) := by
  unfold execExcisionEnd; (repeat' split) <;> simp
@[simp] theorem execWearPass_keeps (s : State) : s.Keeps State.guarded (execWearPass s) := by simp [execWearPass]
@[simp] theorem execDriftPass_keeps (die : Fin 256) (errs : List (Nat × Nat × Nat)) (s : State) :
    s.Keeps State.guarded (execDriftPass die errs s) := by simp [execDriftPass]
@[simp] theorem execSentinelRewrite_keeps (die : Fin 256) (slot : Fin 16) (s : State) :
    s.Keeps State.guarded (execSentinelRewrite die slot s) := by simp [execSentinelRewrite]
@[simp] theorem execTileRefresh_keeps (phys : Fin 536870912) (pick : Fin 33554432) (s : State) :
    s.Keeps State.guarded (execTileRefresh phys pick s) := by unfold execTileRefresh; dsimp only; (repeat' split) <;> simp
@[simp] theorem execScrubPosition_keeps (errs : List (Nat × Image)) (late : Bool) (s : State) :
    s.Keeps State.guarded (execScrubPosition errs late s) := by simp [execScrubPosition]
@[simp] theorem execScrubRestart_keeps (s : State) : s.Keeps State.guarded (execScrubRestart s) := by simp [execScrubRestart]
@[simp] theorem execReclaim_keeps (pick : Fin 33554432) (s : State) : s.Keeps State.guarded (execReclaim pick s) := by
  unfold execReclaim; dsimp only; (repeat' split) <;> simp
@[simp] theorem execRebuildStripe_keeps (pick : Fin 33554432) (s : State) :
    s.Keeps State.guarded (execRebuildStripe pick s) := by
  unfold execRebuildStripe
  split
  · simp
  extract_lets others s0 st x p lost due moved
  have h0 : s0.guarded = s.guarded := by simp [s0]
  have hl : lost.2.guarded = s.guarded := by simp [lost, h0]
  have hm {y : List Nat × State} (h : moved = some y) : y.2.guarded = s.guarded := by
    simp only [moved] at h
    split at h
    · obtain ⟨z, hz, rfl⟩ := Option.map_eq_some_iff.mp h
      exact (State.rebuildTile_guarded hz).trans hl
    · cases h
      exact hl
  clear_value moved s0
  split
  · simp
  split
  · simp [h0]
  split
  · simp [h0]
  split
  · simp [h0]
  · have := hm rfl
    dsimp only
    (repeat' split) <;> simp_all
@[simp] theorem execTempHistogram_keeps (s : State) : s.Keeps State.guarded (execTempHistogram s) := by
  simp [execTempHistogram]
@[simp] theorem execHistogramSave_keeps (s : State) : s.Keeps State.guarded (execHistogramSave s) := by
  simp [execHistogramSave]

/-! Machine/RegionOps -/

@[simp] theorem execRgncreate_keeps (c : Fin 256) (d a : BitVec 5) (ext : Ext) (s : State) :
    s.Keeps State.guarded (execRgncreate c d a ext s) := by simp [execRgncreate]
@[simp] theorem execRgnchange_keeps (c : Fin 256) (d a : BitVec 5) (ext : Ext) (s : State) :
    s.Keeps State.guarded (execRgnchange c d a ext s) := by simp [execRgnchange]
@[simp] theorem execRgndelete_keeps (c : Fin 256) (d a : BitVec 5) (s : State) :
    s.Keeps State.guarded (execRgndelete c d a s) := by simp [execRgndelete]
@[simp] theorem execRegionSliceSwitch_keeps (region : Fin 4096) (slice : Fin 16) (s : State) :
    s.Keeps State.guarded (execRegionSliceSwitch region slice s) := by unfold execRegionSliceSwitch; split <;> simp
@[simp] theorem execRegionDeleteFree_keeps (region : Fin 4096) (s : State) :
    s.Keeps State.guarded (execRegionDeleteFree region s) := by unfold execRegionDeleteFree; split <;> simp
@[simp] theorem execRegionOpStatus_keeps (region : Fin 4096) (s : State) :
    s.Keeps State.guarded (execRegionOpStatus region s) := by unfold execRegionOpStatus; (repeat' split) <;> simp

/-! Machine/LedgerCommit -/

@[simp] theorem execGuardRetry_keeps (page : Fin 16384) (s : State) : s.Keeps State.guarded (execGuardRetry page s) := by
  simp [execGuardRetry]

/-! Machine/Firmware -/

@[simp] theorem execTransferFwInitiate_keeps (port : Fin 4) (data : Bytes) (full : Option (Fin 256)) (s : State) :
    s.Keeps State.guarded (execTransferFwInitiate port data full s) := by
  unfold execTransferFwInitiate; (repeat' split) <;> simp
@[simp] theorem execTransferFwContinue_keeps (port : Fin 4) (off : BitVec 32) (data : Bytes) (s : State) :
    s.Keeps State.guarded (execTransferFwContinue port off data s) := by simp [execTransferFwContinue]
@[simp] theorem execTransferFwEnd_keeps (port : Fin 4) (off : BitVec 32) (data : Bytes) (slot : Fin 256) (s : State) :
    s.Keeps State.guarded (execTransferFwEnd port off data slot s) := by simp [execTransferFwEnd]
@[simp] theorem execTransferFwAbort_keeps (port : Fin 4) (s : State) :
    s.Keeps State.guarded (execTransferFwAbort port s) := by simp [execTransferFwAbort]
@[simp] theorem execTransferIdleTimeout_keeps (s : State) : s.Keeps State.guarded (execTransferIdleTimeout s) := by
  simp [execTransferIdleTimeout]
@[simp] theorem execFwTransferCheckDone_keeps (s : State) : s.Keeps State.guarded (execFwTransferCheckDone s) := by
  simp [execFwTransferCheckDone]
@[simp] theorem execActivateFwOnline_keeps (port : Fin 4) (slot : Fin 256) (libOk : Bool) (s : State) :
    s.Keeps State.guarded (execActivateFwOnline port slot libOk s) := by simp [execActivateFwOnline]
@[simp] theorem execActivateFwOffline_keeps (port : Fin 4) (slot : Fin 256) (s : State) :
    s.Keeps State.guarded (execActivateFwOffline port slot s) := by simp [execActivateFwOffline]
@[simp] theorem execWfwHandover_keeps (s : State) : s.Keeps State.guarded (execWfwHandover s) := by
  unfold execWfwHandover; split <;> simp
@[simp] theorem execWfwReadyTimeout_keeps (s : State) : s.Keeps State.guarded (execWfwReadyTimeout s) := by
  unfold execWfwReadyTimeout; split <;> simp
@[simp] theorem execMcodeSwitch_keeps (ch : Fin 32) (ok : Bool) (s : State) :
    s.Keeps State.guarded (execMcodeSwitch ch ok s) := by unfold execMcodeSwitch; split <;> simp
@[simp] theorem execSerdesRetrain_keeps (port : Fin 16) (ok : Bool) (s : State) :
    s.Keeps State.guarded (execSerdesRetrain port ok s) := by unfold execSerdesRetrain; split <;> simp
@[simp] theorem execRtlDrainExpire_keeps (s : State) : s.Keeps State.guarded (execRtlDrainExpire s) := by
  simp [execRtlDrainExpire]
@[simp] theorem execRtlReplaced_keeps (lib : List Bytes) (ok : Bool) (s : State) :
    s.Keeps State.guarded (execRtlReplaced lib ok s) := by unfold execRtlReplaced; split <;> simp

/-! Machine/Governor -/

@[simp] theorem execGovernorRecompute_keeps (s : State) : s.Keeps State.guarded (execGovernorRecompute s) := by
  simp [execGovernorRecompute]
@[simp] theorem execLowenergyExit_keeps (s : State) : s.Keeps State.guarded (execLowenergyExit s) := by
  simp [execLowenergyExit]
@[simp] theorem execMeasureInterval_keeps (s : State) : s.Keeps State.guarded (execMeasureInterval s) := by
  simp [execMeasureInterval]
@[simp] theorem execBankStable_keeps (s : State) : s.Keeps State.guarded (execBankStable s) := by simp [execBankStable]
@[simp] theorem execMeasureStartTimeout_keeps (s : State) : s.Keeps State.guarded (execMeasureStartTimeout s) := by
  simp [execMeasureStartTimeout]
@[simp] theorem execMeasureRepeat_keeps (s : State) : s.Keeps State.guarded (execMeasureRepeat s) := by
  simp [execMeasureRepeat]
@[simp] theorem execMeasureSampleV0_keeps (s : State) : s.Keeps State.guarded (execMeasureSampleV0 s) := by
  simp [execMeasureSampleV0]
@[simp] theorem execMeasureLoadOn_keeps (s : State) : s.Keeps State.guarded (execMeasureLoadOn s) := by
  unfold execMeasureLoadOn; split <;> simp
@[simp] theorem execMeasureSampleV1_keeps (s : State) : s.Keeps State.guarded (execMeasureSampleV1 s) := by
  simp [execMeasureSampleV1]
@[simp] theorem execMeasureSampleV2_keeps (s : State) : s.Keeps State.guarded (execMeasureSampleV2 s) := by
  simp [execMeasureSampleV2]
@[simp] theorem execMeasureEnd_keeps (s : State) : s.Keeps State.guarded (execMeasureEnd s) := by
  unfold execMeasureEnd; split <;> simp
@[simp] theorem execMeasureRetry_keeps (s : State) : s.Keeps State.guarded (execMeasureRetry s) := by simp [execMeasureRetry]

/-! Machine/FabJoin -/

@[simp] theorem execJoinQuietEnd_keeps (s : State) : s.Keeps State.guarded (execJoinQuietEnd s) := by simp [execJoinQuietEnd]
@[simp] theorem execClaim_keeps (uid : Word) (held : Bool) (fabid epoch : Word) (seat : Option (Fin 64 × BitVec 48))
    (record : List (Fin 64 × Word × BitVec 48)) (time : Word) (s : State) :
    s.Keeps State.guarded (execClaim uid held fabid epoch seat record time s) := by simp [execClaim]
@[simp] theorem execLateJoin_keeps (uid : Word) (held : Bool) (fabid epoch : Word) (seat : Option (Fin 64 × BitVec 48))
    (record : List (Fin 64 × Word × BitVec 48)) (time : Word) (s : State) :
    s.Keeps State.guarded (execLateJoin uid held fabid epoch seat record time s) := by simp [execLateJoin]
@[simp] theorem execMembershipCommit_keeps (fabid epoch : Word) (record : List (Fin 64 × Word × BitVec 48)) (s : State) :
    s.Keeps State.guarded (execMembershipCommit fabid epoch record s) := by
  unfold execMembershipCommit; (repeat' split) <;> simp
@[simp] theorem execJoinComplete_keeps (s : State) : s.Keeps State.guarded (execJoinComplete s) := by
  unfold execJoinComplete; dsimp only; (repeat' split) <;> simp
@[simp] theorem execTimeBeacon_keeps (time : Word) (delay depth : Nat) (s : State) :
    s.Keeps State.guarded (execTimeBeacon time delay depth s) := by simp [execTimeBeacon]
@[simp] theorem execVaultTimeSave_keeps (s : State) : s.Keeps State.guarded (execVaultTimeSave s) := by
  simp [execVaultTimeSave]

/-! Machine/MediaBus -/

@[simp] theorem execMediaRead_keeps (ch : Fin 32) (die part : Fin 8) (leaf : Fin 16777216) (_vref : BitVec 8)
    (_tsense : BitVec 4) (errs : Image) (parity : Bool) (s : State) :
    s.Keeps State.guarded (execMediaRead ch die part leaf _vref _tsense errs parity s) := by simp [execMediaRead]
@[simp] theorem execMediaWrite_keeps (ch : Fin 32) (die part : Fin 8) (leaf : Fin 16777216) (parity : Bool) (s : State) :
    s.Keeps State.guarded (execMediaWrite ch die part leaf parity s) := by simp [execMediaWrite]
@[simp] theorem execMediaSuspend_keeps (ch : Fin 32) (die part : Fin 8) (parity : Bool) (s : State) :
    s.Keeps State.guarded (execMediaSuspend ch die part parity s) := by simp [execMediaSuspend]
@[simp] theorem execMediaResume_keeps (ch : Fin 32) (die part : Fin 8) (parity : Bool) (s : State) :
    s.Keeps State.guarded (execMediaResume ch die part parity s) := by simp [execMediaResume]
@[simp] theorem execMediaStatus_keeps (ch : Fin 32) (die : Fin 8) (commit vfail : BitVec 8) (parity : Bool) (s : State) :
    s.Keeps State.guarded (execMediaStatus ch die commit vfail parity s) := by simp [execMediaStatus]
@[simp] theorem execMediaTemp_keeps (ch : Fin 32) (die : Fin 8) (t : BitVec 8) (parity : Bool) (s : State) :
    s.Keeps State.guarded (execMediaTemp ch die t parity s) := by simp [execMediaTemp]
@[simp] theorem execMediaIdent_keeps (ch : Fin 32) (die : Fin 8) (page : Image) (parity : Bool) (s : State) :
    s.Keeps State.guarded (execMediaIdent ch die page parity s) := by simp [execMediaIdent]
@[simp] theorem execMediaDiereset_keeps (ch : Fin 32) (die : Fin 8) (parity : Bool) (s : State) :
    s.Keeps State.guarded (execMediaDiereset ch die parity s) := by simp [execMediaDiereset]
@[simp] theorem execMediaCmdTimeout_keeps (die : Fin 256) (s : State) :
    s.Keeps State.guarded (execMediaCmdTimeout die s) := by simp [execMediaCmdTimeout]
@[simp] theorem execMalertN_keeps (ch : Fin 32) (die : Fin 8) (s : State) :
    s.Keeps State.guarded (execMalertN ch die s) := by simp [execMalertN]
@[simp] theorem execSequencerFault_keeps (ch : Fin 32) (s : State) : s.Keeps State.guarded (execSequencerFault ch s) := by
  simp [execSequencerFault]
@[simp] theorem execDieTempRead_keeps (die : Fin 256) (t : BitVec 8) (s : State) :
    s.Keeps State.guarded (execDieTempRead die t s) := by simp [execDieTempRead]
@[simp] theorem execBackoffEnd_keeps (ch : Fin 32) (s : State) : s.Keeps State.guarded (execBackoffEnd ch s) := by
  simp [execBackoffEnd]
@[simp] theorem execJtagInstruction_keeps (op : Fin 3) (s : State) : s.Keeps State.guarded (execJtagInstruction op s) := by
  simp [execJtagInstruction]

/-! Machine/Staging -/

@[simp] theorem execStagingRead_keeps (line : Fin 4294967296) (kind : Fin 7) (a b : Nat) (ch : Fin 2) (miss bad : Fin 6)
    (tamper both : Bool) (corr : Fin 9) (uncorr : Fin 3) (ct : Line) (mac : Word) (evicted : List (Nat × Nat)) (s : State) :
    s.Keeps State.guarded (execStagingRead line kind a b ch miss bad tamper both corr uncorr ct mac evicted s) := by
  unfold execStagingRead; dsimp only; (repeat' split) <;> simp
@[simp] theorem execStagingWrite_keeps (line : Fin 4294967296) (kind : Fin 7) (a b : Nat) (data : Line) (miss : Fin 6)
    (evicted : List (Nat × Nat)) (s : State) :
    s.Keeps State.guarded (execStagingWrite line kind a b data miss evicted s) := by simp [execStagingWrite]
@[simp] theorem execStagingMerge_keeps (line : Fin 4294967296) (kind : Fin 7) (a b : Nat) (data : Line)
    (mask : LineMask) (ch : Fin 2) (miss bad : Fin 6) (tamper : Bool) (corr : Fin 9) (uncorr : Fin 3) (ct : Line)
    (mac : Word) (evicted : List (Nat × Nat)) (s : State) :
    s.Keeps State.guarded (execStagingMerge line kind a b data mask ch miss bad tamper corr uncorr ct mac evicted s) := by
  simp [execStagingMerge]
@[simp] theorem execStagingReinitDone_keeps (s : State) : s.Keeps State.guarded (execStagingReinitDone s) := by
  unfold execStagingReinitDone; split <;> simp
@[simp] theorem execDdr4Scrub_keeps (line : Fin 4294967296) (ch : Fin 2) (corr : Bool) (uncorr : Fin 3) (s : State) :
    s.Keeps State.guarded (execDdr4Scrub line ch corr uncorr s) := by simp [execDdr4Scrub]
@[simp] theorem execDdr4ParityAlert_keeps (line : Fin 4294967296) (s : State) :
    s.Keeps State.guarded (execDdr4ParityAlert line s) := by simp [execDdr4ParityAlert]
@[simp] theorem execTrngReseed_keeps (rct apt : Bool) (s : State) : s.Keeps State.guarded (execTrngReseed rct apt s) := by
  simp [execTrngReseed]
@[simp] theorem execOnchipScrub_keeps (arr : Fin 10) (inst a b : Nat) (wrong : Fin 73) (fl : Flips) (s : State) :
    s.Keeps State.guarded (execOnchipScrub arr inst a b wrong fl s) := by unfold execOnchipScrub; (repeat' split) <;> simp

/-! Machine/FlushSteps -/

@[simp] theorem execFlushStoreDrainDone_keeps (s : State) : s.Keeps State.guarded (execFlushStoreDrainDone s) := by
  simp [execFlushStoreDrainDone]
@[simp] theorem execFlushWingWritebackDone_keeps (s : State) : s.Keeps State.guarded (execFlushWingWritebackDone s) := by
  simp [execFlushWingWritebackDone]
@[simp] theorem execFlushStagingMoveDone_keeps (s : State) : s.Keeps State.guarded (execFlushStagingMoveDone s) := by
  simp [execFlushStagingMoveDone]
@[simp] theorem execFlushForwardHold_keeps (s : State) : s.Keeps State.guarded (execFlushForwardHold s) := by
  simp [execFlushForwardHold]
@[simp] theorem execFlushDeliveryDone_keeps (s : State) : s.Keeps State.guarded (execFlushDeliveryDone s) := by
  simp [execFlushDeliveryDone]
@[simp] theorem execFlushJournalTailDone_keeps (s : State) : s.Keeps State.guarded (execFlushJournalTailDone s) := by
  simp [execFlushJournalTailDone]
@[simp] theorem execFlushRegistrarDone_keeps (s : State) : s.Keeps State.guarded (execFlushRegistrarDone s) := by
  simp [execFlushRegistrarDone]
@[simp] theorem execFlushStagingWriteDone_keeps (s : State) : s.Keeps State.guarded (execFlushStagingWriteDone s) := by
  simp [execFlushStagingWriteDone]
@[simp] theorem execFlushJournalDone_keeps (s : State) : s.Keeps State.guarded (execFlushJournalDone s) := by
  simp [execFlushJournalDone]
@[simp] theorem execFlushRecordDone_keeps (s : State) : s.Keeps State.guarded (execFlushRecordDone s) := by
  unfold execFlushRecordDone; split <;> simp
@[simp] theorem execResetHoldEnd_keeps (s : State) : s.Keeps State.guarded (execResetHoldEnd s) := by simp [execResetHoldEnd]
@[simp] theorem execFlushEnergyCheck_keeps (s : State) : s.Keeps State.guarded (execFlushEnergyCheck s) := by
  unfold execFlushEnergyCheck; split <;> simp
@[simp] theorem execFlushAbandon_keeps (s : State) : s.Keeps State.guarded (execFlushAbandon s) := by
  unfold execFlushAbandon; split <;> simp

/-! Machine/HostPort -/

@[simp] theorem execPortLinkDown_keeps (port : Fin 4) (s : State) : s.Keeps State.guarded (execPortLinkDown port s) := by
  simp [execPortLinkDown]
@[simp] theorem execPerstAssert_keeps (port : Fin 4) (s : State) : s.Keeps State.guarded (execPerstAssert port s) := by
  simp [execPerstAssert]
@[simp] theorem execHotReset_keeps (port : Fin 4) (s : State) : s.Keeps State.guarded (execHotReset port s) := by
  simp [execHotReset]
@[simp] theorem execPerstDeassert_keeps (port : Fin 4) (s : State) : s.Keeps State.guarded (execPerstDeassert port s) := by
  simp [execPerstDeassert]
@[simp] theorem execPortConfigLoaded_keeps (port : Fin 4) (s : State) :
    s.Keeps State.guarded (execPortConfigLoaded port s) := by simp [execPortConfigLoaded]
@[simp] theorem execHostLinkTrained_keeps (port : Fin 4) (speed : Fin 6) (width : Fin 6) (cxl : Bool) (s : State) :
    s.Keeps State.guarded (execHostLinkTrained port speed width cxl s) := by simp [execHostLinkTrained]
@[simp] theorem execHdmCommit_keeps (port : Fin 4) (n : Fin 8) (hpa size ways gran : Nat) (lock commit : Bool) (s : State) :
    s.Keeps State.guarded (execHdmCommit port n hpa size ways gran lock commit s) := by simp [execHdmCommit]
@[simp] theorem execCxlMemRead_keeps (port : Fin 4) (tag : Nat) (hpa : BitVec 52) (s : State) :
    s.Keeps State.guarded (execCxlMemRead port tag hpa s) := by unfold execCxlMemRead; (repeat' split) <;> simp
@[simp] theorem execCxlMemWrite_keeps (port : Fin 4) (tag : Nat) (hpa : BitVec 52) (data : Line) (mask : LineMask)
    (poison : Bool) (fl : Flips) (s : State) :
    s.Keeps State.guarded (execCxlMemWrite port tag hpa data mask poison fl s) := by
  unfold execCxlMemWrite; (repeat' split) <;> simp
@[simp] theorem execGpfPhase1_keeps (port : Fin 4) (s : State) : s.Keeps State.guarded (execGpfPhase1 port s) := by
  simp [execGpfPhase1]
@[simp] theorem execGpfPhase2_keeps (port : Fin 4) (s : State) : s.Keeps State.guarded (execGpfPhase2 port s) := by
  simp [execGpfPhase2]

/-! Machine/Supervisor -/

@[simp] theorem execPowerUpStart_keeps (s : State) : s.Keeps State.guarded (execPowerUpStart s) := by simp [execPowerUpStart]
@[simp] theorem execGateOffFail_keeps (rail : Fin 12) (s : State) : s.Keeps State.guarded (execGateOffFail rail s) := by
  simp [execGateOffFail]
@[simp] theorem execRailEnable_keeps (rail : Fin 12) (s : State) : s.Keeps State.guarded (execRailEnable rail s) := by
  simp [execRailEnable]
@[simp] theorem execPowerGoodChange_keeps (rail : Fin 12) (high : Bool) (s : State) :
    s.Keeps State.guarded (execPowerGoodChange rail high s) := by simp [execPowerGoodChange]
@[simp] theorem execRailQualified_keeps (rail : Fin 12) (s : State) : s.Keeps State.guarded (execRailQualified rail s) := by
  simp [execRailQualified]
@[simp] theorem execRailPgwinExpire_keeps (rail : Fin 12) (s : State) :
    s.Keeps State.guarded (execRailPgwinExpire rail s) := by simp [execRailPgwinExpire]
@[simp] theorem execPowerUpRetry_keeps (s : State) : s.Keeps State.guarded (execPowerUpRetry s) := by simp [execPowerUpRetry]
@[simp] theorem execRailPgLoss_keeps (rail : Fin 12) (s : State) : s.Keeps State.guarded (execRailPgLoss rail s) := by
  simp [execRailPgLoss]
@[simp] theorem execRailDisable_keeps (rail : Fin 12) (s : State) : s.Keeps State.guarded (execRailDisable rail s) := by
  simp [execRailDisable]
@[simp] theorem execRailFallTimeout_keeps (rail : Fin 12) (s : State) :
    s.Keeps State.guarded (execRailFallTimeout rail s) := by simp [execRailFallTimeout]
@[simp] theorem execResetOutputRise_keeps (k : Fin 4) (s : State) : s.Keeps State.guarded (execResetOutputRise k s) := by
  simp [execResetOutputRise]
@[simp] theorem execAdcConversion_keeps (input : Fin 14) (code : Fin 4096) (s : State) :
    s.Keeps State.guarded (execAdcConversion input code s) := by simp [execAdcConversion]
@[simp] theorem execInokQualified_keeps (s : State) : s.Keeps State.guarded (execInokQualified s) := by
  simp [execInokQualified]
@[simp] theorem execEbNOpen_keeps (s : State) : s.Keeps State.guarded (execEbNOpen s) := by simp [execEbNOpen]
@[simp] theorem execEbNClose_keeps (s : State) : s.Keeps State.guarded (execEbNClose s) := by simp [execEbNClose]
@[simp] theorem execEbArm_keeps (s : State) : s.Keeps State.guarded (execEbArm s) := by simp [execEbArm]
@[simp] theorem execEbTrigger_keeps (s : State) : s.Keeps State.guarded (execEbTrigger s) := by simp [execEbTrigger]
@[simp] theorem execSensorConversion_keeps (k : Fin 16) (t : BitVec 8) (s : State) :
    s.Keeps State.guarded (execSensorConversion k t s) := by simp [execSensorConversion]
@[simp] theorem execThrottleFall_keeps (s : State) : s.Keeps State.guarded (execThrottleFall s) := by simp [execThrottleFall]
@[simp] theorem execLockoutEnd_keeps (s : State) : s.Keeps State.guarded (execLockoutEnd s) := by simp [execLockoutEnd]
@[simp] theorem execVauxValid_keeps (hpMode : Fin 4) (recovery ebOpen : Bool) (s : State) :
    s.Keeps State.guarded (execVauxValid hpMode recovery ebOpen s) := by simp [execVauxValid]
@[simp] theorem execVauxLost_keeps (s : State) : s.Keeps State.guarded (execVauxLost s) := by simp [execVauxLost]
@[simp] theorem execSledRecordRead_keeps (ack : Bool) (bytes : BitVec 1280) (s : State) :
    s.Keeps State.guarded (execSledRecordRead ack bytes s) := by simp [execSledRecordRead]

/-! Machine/BootRom -/

@[simp] theorem execSelftestDone_keeps (fails : List (Fin 11 × Fin 256 × BitVec 16 × Bool)) (s : State) :
    s.Keeps State.guarded (execSelftestDone fails s) := by simp [execSelftestDone]

/-! Machine/Boot -/

@[simp] theorem execCatalogueRebuildDone_keeps (readable : Bool) (s : State) :
    s.Keeps State.guarded (execCatalogueRebuildDone readable s) := by
  unfold execCatalogueRebuildDone; (repeat' split) <;> simp
@[simp] theorem execConservatorRestoreDone_keeps (readable : Bool) (s : State) :
    s.Keeps State.guarded (execConservatorRestoreDone readable s) := by simp [execConservatorRestoreDone]
@[simp] theorem execDieAdmissionDone_keeps (drift : List (Fin 256 × List (BitVec 16))) (s : State) :
    s.Keeps State.guarded (execDieAdmissionDone drift s) := by simp [execDieAdmissionDone]
@[simp] theorem execFlushRecordExamined_keeps (s : State) : s.Keeps State.guarded (execFlushRecordExamined s) := by
  simp [execFlushRecordExamined]
@[simp] theorem execJoinEnter_keeps (s : State) : s.Keeps State.guarded (execJoinEnter s) := by simp [execJoinEnter]
@[simp] theorem execStartOpen_keeps (s : State) : s.Keeps State.guarded (execStartOpen s) := by simp [execStartOpen]

/-! Machine/FabGop -/

@[simp] theorem execGopMemberTimeout_keeps (late : Nat) (s : State) :
    s.Keeps State.guarded (execGopMemberTimeout late s) := by simp [execGopMemberTimeout]
@[simp] theorem execSnapshotTimeReached_keeps (s : State) : s.Keeps State.guarded (execSnapshotTimeReached s) := by
  unfold execSnapshotTimeReached; split <;> simp
@[simp] theorem execBarrierComplete_keeps (n : Fin 16) (s : State) : s.Keeps State.guarded (execBarrierComplete n s) := by
  simp [execBarrierComplete]

/-! Machine/RegWrite -/

@[simp] theorem execRegisterWrite_keeps (port : Fin 4) (bar2 : Bool) (off : BitVec 25) (size : BitVec 8) (value : Word)
    (libOk : Bool) (s : State) : s.Keeps State.guarded (execRegisterWrite port bar2 off size value libOk s) := by
  simp [execRegisterWrite]
@[simp] theorem execDeviceReset_keeps (port : Fin 4) (s : State) : s.Keeps State.guarded (execDeviceReset port s) := by
  simp [execDeviceReset]
@[simp] theorem execClampClear_keeps (port : Fin 4) (value : BitVec 32) (s : State) :
    s.Keeps State.guarded (execClampClear port value s) := by simp [execClampClear]
@[simp] theorem execWingReset_keeps (port : Fin 4) (wings : BitVec 8) (s : State) :
    s.Keeps State.guarded (execWingReset port wings s) := by simp [execWingReset]
@[simp] theorem execWingResetRelease_keeps (wing : Fin 8) (s : State) :
    s.Keeps State.guarded (execWingResetRelease wing s) := by simp [execWingResetRelease]
@[simp] theorem execAtqEnable_keeps (port : Fin 4) (queue : Fin 4096) (cfg : BitVec 63) (s : State) :
    s.Keeps State.guarded (execAtqEnable port queue cfg s) := by simp [execAtqEnable]
@[simp] theorem execAtqDisable_keeps (port : Fin 4) (queue : Fin 4096) (cfg : BitVec 63) (s : State) :
    s.Keeps State.guarded (execAtqDisable port queue cfg s) := by simp [execAtqDisable]
@[simp] theorem execAtqReset_keeps (port : Fin 4) (queue : Fin 4096) (s : State) :
    s.Keeps State.guarded (execAtqReset port queue s) := by simp [execAtqReset]
@[simp] theorem execAtqClose_keeps (port : Fin 4) (queue : Fin 4096) (s : State) :
    s.Keeps State.guarded (execAtqClose port queue s) := by simp [execAtqClose]
@[simp] theorem execAtqArm_keeps (port : Fin 4) (queue : Fin 4096) (s : State) :
    s.Keeps State.guarded (execAtqArm port queue s) := by simp [execAtqArm]
@[simp] theorem execProgramLoad_keeps (port : Fin 4) (s : State) : s.Keeps State.guarded (execProgramLoad port s) := by
  simp [execProgramLoad]
@[simp] theorem execProgramUnload_keeps (port : Fin 4) (id : Fin 1024) (s : State) :
    s.Keeps State.guarded (execProgramUnload port id s) := by simp [execProgramUnload]
@[simp] theorem execCallAbort_keeps (port : Fin 4) (ctx : Fin 256) (s : State) :
    s.Keeps State.guarded (execCallAbort port ctx s) := by simp [execCallAbort]
@[simp] theorem execWingInvalidateAll_keeps (port : Fin 4) (wings : BitVec 8) (s : State) :
    s.Keeps State.guarded (execWingInvalidateAll port wings s) := by simp [execWingInvalidateAll]
@[simp] theorem execLoanWaysChange_keeps (port : Fin 4) (ways : BitVec 4) (s : State) :
    s.Keeps State.guarded (execLoanWaysChange port ways s) := by simp [execLoanWaysChange]
@[simp] theorem execWayEnable_keeps (port : Fin 4) (slice : Fin 16) (way : Fin 16) (s : State) :
    s.Keeps State.guarded (execWayEnable port slice way s) := by simp [execWayEnable]
@[simp] theorem execVitLookupWrite_keeps (port : Fin 4) (addr : Word) (s : State) :
    s.Keeps State.guarded (execVitLookupWrite port addr s) := by simp [execVitLookupWrite]
@[simp] theorem execAwayRelease_keeps (port : Fin 4) (seat : Fin 64) (s : State) :
    s.Keeps State.guarded (execAwayRelease port seat s) := by simp [execAwayRelease]
@[simp] theorem execFabPctlWrite_keeps (port : Fin 4) (fport : Fin 16) (value : BitVec 32) (s : State) :
    s.Keeps State.guarded (execFabPctlWrite port fport value s) := by simp [execFabPctlWrite]
@[simp] theorem execAssign_keeps (port : Option (Fin 4)) (seat : Fin 64) (uid origin : Word) (s : State) :
    s.Keeps State.guarded (execAssign port seat uid origin s) := by simp [execAssign]
@[simp] theorem execEvict_keeps (port : Option (Fin 4)) (seat : Fin 64) (uid origin : Word) (s : State) :
    s.Keeps State.guarded (execEvict port seat uid origin s) := by simp [execEvict]
@[simp] theorem execDropfwd_keeps (port : Option (Fin 4)) (seat : Fin 64) (uid origin : Word) (s : State) :
    s.Keeps State.guarded (execDropfwd port seat uid origin s) := by simp [execDropfwd]
@[simp] theorem execVtset_keeps (port : Option (Fin 4)) (t : Word) (s : State) :
    s.Keeps State.guarded (execVtset port t s) := by unfold execVtset; split <;> simp
@[simp] theorem execBroadcast_keeps (port : Option (Fin 4)) (arg origin : Word) (s : State) :
    s.Keeps State.guarded (execBroadcast port arg origin s) := by simp [execBroadcast]
@[simp] theorem execSnapshot_keeps (port : Option (Fin 4)) (arg origin t : Word) (s : State) :
    s.Keeps State.guarded (execSnapshot port arg origin t s) := by simp [execSnapshot]
@[simp] theorem execReset_keeps (port : Option (Fin 4)) (arg origin : Word) (s : State) :
    s.Keeps State.guarded (execReset port arg origin s) := by simp [execReset]
@[simp] theorem execBarrierArrive_keeps (port : Option (Fin 4)) (arrive : BitVec 16) (origin : Word) (s : State) :
    s.Keeps State.guarded (execBarrierArrive port arrive origin s) := by unfold execBarrierArrive; split <;> simp
@[simp] theorem execTrngRestart_keeps (port : Fin 4) (s : State) : s.Keeps State.guarded (execTrngRestart port s) := by
  simp [execTrngRestart]
@[simp] theorem execInjArm_keeps (port : Fin 4) (slot : Fin 8) (s : State) :
    s.Keeps State.guarded (execInjArm port slot s) := by simp [execInjArm]
@[simp] theorem execInjDisarm_keeps (port : Fin 4) (slot : Fin 8) (s : State) :
    s.Keeps State.guarded (execInjDisarm port slot s) := by simp [execInjDisarm]
@[simp] theorem execInjDisarmAll_keeps (port : Fin 4) (value : BitVec 32) (s : State) :
    s.Keeps State.guarded (execInjDisarmAll port value s) := by simp [execInjDisarmAll]
@[simp] theorem execLdgRawRead_keeps (port : Fin 4) (s : State) : s.Keeps State.guarded (execLdgRawRead port s) := by
  simp [execLdgRawRead]
@[simp] theorem execLdgRawWrite_keeps (port : Fin 4) (s : State) : s.Keeps State.guarded (execLdgRawWrite port s) := by
  simp [execLdgRawWrite]
@[simp] theorem execTwoCopyRead_keeps (port : Fin 4) (pair : Fin 2048) (s : State) :
    s.Keeps State.guarded (execTwoCopyRead port pair s) := by simp [execTwoCopyRead]
@[simp] theorem execTwoCopyWrite_keeps (port : Fin 4) (pair : Fin 2048) (s : State) :
    s.Keeps State.guarded (execTwoCopyWrite port pair s) := by simp [execTwoCopyWrite]
@[simp] theorem execMeasureRequest_keeps (port : Fin 4) (interval : BitVec 8) (s : State) :
    s.Keeps State.guarded (execMeasureRequest port interval s) := by simp [execMeasureRequest]
@[simp] theorem execBreachAck_keeps (port : Fin 4) (s : State) : s.Keeps State.guarded (execBreachAck port s) := by
  simp [execBreachAck]
@[simp] theorem execOnline_keeps (port : Fin 4) (setB libOk : Bool) (s : State) :
    s.Keeps State.guarded (execOnline port setB libOk s) := by simp [execOnline]
@[simp] theorem execOffline_keeps (port : Fin 4) (setB : Bool) (s : State) :
    s.Keeps State.guarded (execOffline port setB s) := by simp [execOffline]
@[simp] theorem execCommitSvn_keeps (port : Fin 4) (setB : Bool) (s : State) :
    s.Keeps State.guarded (execCommitSvn port setB s) := by simp [execCommitSvn]
@[simp] theorem execCancel_keeps (port : Fin 4) (setB : Bool) (s : State) :
    s.Keeps State.guarded (execCancel port setB s) := by simp [execCancel]
@[simp] theorem execTallyClear_keeps (port : Fin 4) (n : Fin 304) (cfg : Word) (s : State) :
    s.Keeps State.guarded (execTallyClear port n cfg s) := by simp [execTallyClear]
@[simp] theorem execTallyClearAll_keeps (port : Fin 4) (s : State) : s.Keeps State.guarded (execTallyClearAll port s) := by
  simp [execTallyClearAll]
@[simp] theorem execTallySnap_keeps (port : Fin 4) (s : State) : s.Keeps State.guarded (execTallySnap port s) := by
  simp [execTallySnap]
@[simp] theorem execAdmwr_keeps (c : Fin 256) (a b : BitVec 5) (libOk : Bool) (s : State) :
    s.Keeps State.guarded (execAdmwr c a b libOk s) := by
  refine (State.keeps_next ..).mpr (State.floor_guarded fun x => ?_)
  dsimp only
  (repeat' split) <;> simp

/-! Machine/RegRead -/

@[simp] theorem execReadLowHalf_keeps (port : Fin 4) (bar2 : Bool) (off : BitVec 25) (size : BitVec 8) (s : State) :
    s.Keeps State.guarded (execReadLowHalf port bar2 off size s) := by simp [execReadLowHalf]
@[simp] theorem execAdmrd_keeps (c : Fin 256) (d a : BitVec 5) (s : State) : s.Keeps State.guarded (execAdmrd c d a s) := by
  refine (State.keeps_next ..).mpr (State.floor_guarded fun x => ?_)
  dsimp only
  split <;> simp

/-! Machine/Mailbox -/

@[simp] theorem execMailboxUnsupported_keeps (port : Fin 4) (_opcode : BitVec 16) (s : State) :
    s.Keeps State.guarded (execMailboxUnsupported port _opcode s) := by simp [execMailboxUnsupported]
@[simp] theorem execGetEventRecords_keeps (port : Fin 4) (log : BitVec 8) (s : State) :
    s.Keeps State.guarded (execGetEventRecords port log s) := by simp [execGetEventRecords]
@[simp] theorem execClearEventRecords_keeps (port : Fin 4) (log : BitVec 8) (all : Bool) (handles : List (BitVec 16))
    (s : State) : s.Keeps State.guarded (execClearEventRecords port log all handles s) := by simp [execClearEventRecords]
@[simp] theorem execGetEventInterruptPolicy_keeps (port : Fin 4) (s : State) :
    s.Keeps State.guarded (execGetEventInterruptPolicy port s) := by simp [execGetEventInterruptPolicy]
@[simp] theorem execSetEventInterruptPolicy_keeps (port : Fin 4) (modes : BitVec 2 × BitVec 2 × BitVec 2 × BitVec 2)
    (s : State) : s.Keeps State.guarded (execSetEventInterruptPolicy port modes s) := by simp [execSetEventInterruptPolicy]
@[simp] theorem execGetFwInfo_keeps (port : Fin 4) (s : State) : s.Keeps State.guarded (execGetFwInfo port s) := by
  simp [execGetFwInfo]
@[simp] theorem execGetTimestamp_keeps (port : Fin 4) (s : State) : s.Keeps State.guarded (execGetTimestamp port s) := by
  simp [execGetTimestamp]
@[simp] theorem execGetSupportedLogs_keeps (port : Fin 4) (s : State) :
    s.Keeps State.guarded (execGetSupportedLogs port s) := by simp [execGetSupportedLogs]
@[simp] theorem execGetLog_keeps (port : Fin 4) (effects : Bool) (off len : BitVec 32) (s : State) :
    s.Keeps State.guarded (execGetLog port effects off len s) := by simp [execGetLog]
@[simp] theorem execIdentifyMemoryDevice_keeps (port : Fin 4) (s : State) :
    s.Keeps State.guarded (execIdentifyMemoryDevice port s) := by simp [execIdentifyMemoryDevice]
@[simp] theorem execGetPartitionInfo_keeps (port : Fin 4) (s : State) :
    s.Keeps State.guarded (execGetPartitionInfo port s) := by simp [execGetPartitionInfo]
@[simp] theorem execGetLsa_keeps (port : Fin 4) (off len : BitVec 32) (s : State) :
    s.Keeps State.guarded (execGetLsa port off len s) := by simp [execGetLsa]
@[simp] theorem execSetLsa_keeps (port : Fin 4) (off : BitVec 32) (data : Bytes) (s : State) :
    s.Keeps State.guarded (execSetLsa port off data s) := by simp [execSetLsa]
@[simp] theorem execGetHealthInfo_keeps (port : Fin 4) (s : State) : s.Keeps State.guarded (execGetHealthInfo port s) := by
  simp [execGetHealthInfo]
@[simp] theorem execGetAlertConfiguration_keeps (port : Fin 4) (s : State) :
    s.Keeps State.guarded (execGetAlertConfiguration port s) := by simp [execGetAlertConfiguration]
@[simp] theorem execSetAlertConfiguration_keeps (port : Fin 4) (life : Option (BitVec 8)) (overC underC : Option
    (BitVec 16)) (s : State) : s.Keeps State.guarded (execSetAlertConfiguration port life overC underC s) := by
  simp [execSetAlertConfiguration]
@[simp] theorem execGetShutdownState_keeps (port : Fin 4) (s : State) :
    s.Keeps State.guarded (execGetShutdownState port s) := by simp [execGetShutdownState]
@[simp] theorem execSetShutdownState_keeps (port : Fin 4) (v : BitVec 8) (s : State) :
    s.Keeps State.guarded (execSetShutdownState port v s) := by simp [execSetShutdownState]
@[simp] theorem execGetPoisonList_keeps (port : Fin 4) (dpa lines : Word) (s : State) :
    s.Keeps State.guarded (execGetPoisonList port dpa lines s) := by simp [execGetPoisonList]
@[simp] theorem execInjectPoison_keeps (port : Fin 4) (dpa : Word) (s : State) :
    s.Keeps State.guarded (execInjectPoison port dpa s) := by simp [execInjectPoison]
@[simp] theorem execClearPoison_keeps (port : Fin 4) (dpa : Word) (data : Line) (s : State) :
    s.Keeps State.guarded (execClearPoison port dpa data s) := by
  unfold execClearPoison
  refine (State.keeps_next ..).mpr (State.mailbox_guarded ?_)
  dsimp only
  split
  · simp
  split
  · rfl
  split
  · rfl
  · simp [State.guarded_of_snd (State.writeNow_guarded ..) ‹_›]
@[simp] theorem execSvapelRegisterRead_keeps (port : Fin 4) (off : BitVec 25) (size : BitVec 8) (s : State) :
    s.Keeps State.guarded (execSvapelRegisterRead port off size s) := by simp [execSvapelRegisterRead]
@[simp] theorem execSvapelRegisterWrite_keeps (port : Fin 4) (off : BitVec 25) (size : BitVec 8) (value : Word)
    (libOk : Bool) (s : State) : s.Keeps State.guarded (execSvapelRegisterWrite port off size value libOk s) := by
  simp [execSvapelRegisterWrite]
@[simp] theorem execSvapelGetBreachList_keeps (port : Fin 4) (index : BitVec 16) (s : State) :
    s.Keeps State.guarded (execSvapelGetBreachList port index s) := by simp [execSvapelGetBreachList]
@[simp] theorem execSvapelAcknowledgeBreach_keeps (port : Fin 4) (s : State) :
    s.Keeps State.guarded (execSvapelAcknowledgeBreach port s) := by simp [execSvapelAcknowledgeBreach]

/-! Machine/SealRecord -/

@[simp] theorem execSealRecordWritten_keeps (acc : Fin 65536) (s : State) :
    s.Keeps State.guarded (execSealRecordWritten acc s) := by
  unfold execSealRecordWritten
  (repeat' split) <;> simp
  exact State.guarded_getD (fun _ h => State.sealFinish_guarded h) rfl

/-- The commands that may change the region table or a key slot. -/
def Instr.changesTables : Instr → Bool
  | .pageRead .. | .ledgerScrub .. | .pageWriteStart .. | .pageWriteDone .. | .wardenRomDone .. | .recoveryWorkDone
  | .stagingInitDone .. => true
  | _ => false

theorem exec_keeps_guarded (c : Instr) (s : State) (h : Instr.changesTables c = false) : s.Keeps State.guarded (exec c s) := by
  cases c
  case pageRead | ledgerScrub | pageWriteStart | pageWriteDone | wardenRomDone | recoveryWorkDone | stagingInitDone => cases h
  all_goals simp [exec]

/-! The commands that change key slots only. -/

@[simp] theorem State.pageLost_guarded_fst (s : State) (p : Nat) : (s.pageLost p).guarded.1 = s.guarded.1 := by
  unfold State.pageLost
  (repeat' split) <;> rfl
@[simp] theorem State.pageRead_guarded_fst (s : State) (p outcome : Nat) :
    (s.pageRead p outcome).guarded.1 = s.guarded.1 := by
  unfold State.pageRead
  split
  · rfl
  · extract_lets x n o d s1
    have h1 : s1.guarded = s.guarded := by simp only [s1]; split <;> simp [x]
    (repeat' split) <;> simp [d, x, h1]
@[simp] theorem State.loadSlots_guarded_fst (s : State) : s.loadSlots.guarded.1 = s.guarded.1 := rfl

theorem State.keeps_regions_next {s t : State} (h : t.guarded.1 = s.guarded.1) : s.Keeps State.regions (.next t) := ⟨t, rfl, h⟩

theorem execPageWriteDone_keeps_regions (page : Fin 16384) (ok : Bool) (s : State) :
    s.Keeps State.regions (execPageWriteDone page ok s) := by
  unfold execPageWriteDone
  split
  · simp
  · extract_lets _ s1 _ s2
    have h1 : s1.guarded = s.guarded := by simp [s1]
    have h2 : s2.guarded.1 = s.guarded.1 := by
      simp only [s2]
      split <;> simp [h1]
    exact State.keeps_regions_next (by simp [h2])

theorem execStagingInitDone_keeps_regions (gib0 gib1 : Option (Fin 3)) (trng : Bool) (absent : BitVec 256) (s : State) :
    s.Keeps State.regions (execStagingInitDone gib0 gib1 trng absent s) := by
  unfold execStagingInitDone
  split
  · simp
  · extract_lets size s1 s2
    have h1 : s1.guarded = s.guarded := State.sizeStaging_guarded ..
    have h2 : s2.guarded.1 = s.guarded.1 := by simp [s2, h1]
    clear_value s1 s2
    (repeat' split) <;> refine State.keeps_regions_next ?_
    · simp [h1]
    · simp [h1]
    · simp [h1]
    · exact h2

/-- Settles O56: every command but the seven of changesTables keeps the region table with the key slots, and the four of
those that the statement does not exclude change key slots only. -/
theorem regionTableChangesOnlyAtCommits : Obligations.RegionTableChangesOnlyAtCommits := by
  unfold Obligations.RegionTableChangesOnlyAtCommits
  intro c s t h hStart hRom hRecovery
  refine State.Keeps.next (g := State.regions) ?_ h
  cases hc : Instr.changesTables c with
  | false =>
    obtain ⟨u, hu, hg⟩ := exec_keeps_guarded c s hc
    exact hu ▸ State.keeps_regions_next (congrArg Prod.fst hg)
  | true =>
    cases c with
    | pageRead => exact State.keeps_regions_next (State.pageRead_guarded_fst ..)
    | ledgerScrub => exact State.keeps_regions_next (State.pageRead_guarded_fst ..)
    | pageWriteDone => exact execPageWriteDone_keeps_regions ..
    | stagingInitDone => exact execStagingInitDone_keeps_regions ..
    | pageWriteStart => exact (hStart _ _ _ rfl).elim
    | wardenRomDone => exact (hRom _ _ _ _ rfl).elim
    | recoveryWorkDone => exact (hRecovery rfl).elim
    | _ => cases hc

end Sys2Proof.Machine
end

section
/-! SUPPORT. Bytes of a line and the checks of a device with nothing injected (R193, R194, R415). -/

namespace Sys2Proof.Machine

/-! Bytes of a line. -/

/-- Bit i of a line after a write of the bytes below byte n that a mask enables. -/
theorem getLsbD_merge_range (old new : Line) (mask : LineMask) (n i : Nat) (hi : i < 512) :
    ((List.range n).foldl (fun (a : Line) k =>
      if mask.getLsbD k then (a &&& ~~~(0xFF#512 <<< (8 * k))) ||| ((new >>> (8 * k) &&& 0xFF#512) <<< (8 * k)) else a)
      old).getLsbD i = if i / 8 < n ∧ mask.getLsbD (i / 8) = true then new.getLsbD i else old.getLsbD i := by
  have byte (j : Nat) : (0xFF#512).getLsbD j = decide (j < 8) := by
    rw [BitVec.getLsbD_ofNat, show 0xFF = 2 ^ 8 - 1 from rfl, Nat.testBit_two_pow_sub_one]
    by_cases h : j < 8 <;> simp [h]
    omega
  induction n with
  | zero => simp
  | succ n ih =>
    rw [List.range_succ, List.foldl_append, List.foldl_cons, List.foldl_nil]
    by_cases hm : mask.getLsbD n = true
    · rw [if_pos hm]
      simp only [BitVec.getLsbD_or, BitVec.getLsbD_and, BitVec.getLsbD_not, BitVec.getLsbD_shiftLeft,
        BitVec.getLsbD_ushiftRight, byte, ih, hi]
      by_cases hn : i / 8 = n
      · have h1 : ¬ i < 8 * n := by omega
        have h2 : i - 8 * n < 8 := by omega
        have h3 : 8 * n + (i - 8 * n) = i := by omega
        simp only [h1, h2, h3, hn, hm]
        simp
      · have h4 : i < 8 * n ∨ ¬ i - 8 * n < 8 := by omega
        have h5 : i / 8 < n + 1 ↔ i / 8 < n := by omega
        rcases h4 with h | h <;> simp only [h, h5] <;> simp
    · rw [if_neg hm, ih]
      have h6 : (i / 8 < n + 1 ∧ mask.getLsbD (i / 8) = true) ↔ (i / 8 < n ∧ mask.getLsbD (i / 8) = true) := by
        constructor
        · rintro ⟨h, hb⟩
          have : i / 8 ≠ n := fun e => hm (e ▸ hb)
          exact ⟨by omega, hb⟩
        · rintro ⟨h, hb⟩
          exact ⟨by omega, hb⟩
      simp only [h6]

theorem getLsbD_merge (old new : Line) (mask : LineMask) {i : Nat} (hi : i < 512) :
    (merge old new mask).getLsbD i = if mask.getLsbD (i / 8) then new.getLsbD i else old.getLsbD i := by
  rw [merge, getLsbD_merge_range old new mask 64 i hi]
  have : i / 8 < 64 := by omega
  simp [this]

@[simp] theorem merge_fullMask (old new : Line) : merge old new fullMask = new := by
  refine BitVec.eq_of_getLsbD_eq fun i hi => ?_
  have : i / 8 < 64 := by omega
  rw [getLsbD_merge _ _ _ hi, fullMask, BitVec.getLsbD_allOnes]
  simp only [this, decide_true, if_true]

/-- Writing bytes that are in the line already changes nothing more. -/
@[simp] theorem merge_merge (d x : Line) (m : LineMask) : merge d (merge d x m) m = merge d x m := by
  refine BitVec.eq_of_getLsbD_eq fun i hi => ?_
  simp only [getLsbD_merge _ _ _ hi]
  split <;> rfl

/-! A check where nothing is injected and the array shows no wrong bit (R194, R415). -/

@[simp] theorem readCheck_none (l : Line) : readCheck l Flips.none = .good l := by
  have : crc16 0#512 = 0#16 := by decide +kernel
  simp [readCheck, Flips.none, flipsLeft, this]

theorem State.injSlots_noInj {s : State} (h : s.NoInj) (point : Nat) (hit : Nat → Bool) : s.injSlots point hit = [] := by
  refine List.filter_eq_nil_iff.mpr fun k hk => ?_
  simp [h k hk]

theorem State.injectLine_noInj {s : State} (h : s.NoInj) (point : Nat) (hit : Nat → Bool) (fl : Flips) :
    s.injectLine point hit fl = (fl, false, s) := by
  simp [State.injectLine, State.injSlots_noInj h]

theorem State.checkWay_noInj {s : State} (h : s.NoInj) (gl w : Nat) {v : VLine} (hv : v.poison = false) :
    s.checkWay gl w v Flips.none = (some (v.data, false), s) := by
  simp [State.checkWay, hv, State.injectLine_noInj h, State.checkFlips]

theorem State.checkWing_noInj {s : State} (h : s.NoInj) (w gl : Nat) (l : WLine) (sub : Nat) :
    s.checkWing w gl l Flips.none sub = (some l, s) := by
  unfold State.checkWing
  split
  · rfl
  · simp [State.injectLine_noInj h, State.checkWingFlips]

theorem State.checkStruct_noInj {s : State} (h : s.NoInj) (structure_ inst gl : Nat) (d : Line) :
    s.checkStruct structure_ inst gl d Flips.none = (some d, s) := by
  simp [State.checkStruct, State.injectLine_noInj h]

theorem State.checkWrite_noInj {s : State} (h : s.NoInj) (gl : Nat) (mask : LineMask) :
    s.checkWrite gl mask Flips.none = s := by
  unfold State.checkWrite
  split
  · rfl
  · split
    · rfl
    · simp [State.injectLine_noInj h, Flips.none]

end Sys2Proof.Machine
end

section
/-! SUPPORT. What accounting changes: events, counters, media records, charges and grants, which no line of the caches rests on
(R68 to R76, R172, R209). -/

namespace Sys2Proof.Machine

/-! What accounting changes. -/

/-- The registers that accounting keeps: the governor's mode, the lost-line count, the grant table's counts, and the always-on
island's queue. -/
def bookKeys : List Nat :=
  [D.PWR_PGSTAT_mode.key 0, D.CON_LOSTCNT_count.key 0, D.CLO_GRANTS_entries.key 0, D.CLO_GRANTS_away.key 0,
    D.PWR_AONSTAT_held.key 0, D.PWR_AONSTAT_dropped.key 0]

/-- Two states that differ only in accounts: events, counters, media records, the governor's mode, and in the caches nothing
of the vitrine's lines, the wings' copies and the filter. -/
structure State.Near (s t : State) : Prop where
  only : s.Only [.regs, .evq, .coh, .med, .aon, .tcnt] t
  regs : s.RegsBut bookKeys t
  vit : t.coh.vit = s.coh.vit
  wl : t.coh.wl = s.coh.wl
  filter : t.coh.filter = s.coh.filter
  brkClean : t.coh.brkClean = s.coh.brkClean

theorem State.Near.refl (s : State) : s.Near s := ⟨fun p _ => by cases p <;> rfl, fun _ _ => rfl, rfl, rfl, rfl, rfl⟩

theorem State.Near.trans {s t u : State} (h : s.Near t) (g : t.Near u) : s.Near u where
  only := h.only.trans g.only
  regs k hk := (g.regs k hk).trans (h.regs k hk)
  vit := g.vit.trans h.vit
  wl := g.wl.trans h.wl
  filter := g.filter.trans h.filter
  brkClean := g.brkClean.trans h.brkClean

theorem State.near_foldl {α : Type} {f : State → α → State} (h : ∀ (a : State) x, a.Near (f a x)) (l : List α)
    (s : State) : s.Near (l.foldl f s) := by
  induction l generalizing s with
  | nil => exact .refl s
  | cons x l ih => exact (h s x).trans (ih _)

theorem State.near_wr (s : State) (f : FldDesc) (v i : Nat) (h : f.key i ∈ bookKeys) : s.Near (s.wr f v i) :=
  ⟨(s.only_wr f v i).mono (by simp), fun k hk => SMap.find_put_ne _ _ _ fun e => hk (e ▸ h), rfl, rfl, rfl, rfl⟩

/-- A change of events, media records, the island's own part, counters, and the accounts of the caches. -/
theorem State.near_mk (s : State) (q : List Ev) (m : Media) (a : Aon) (n : TallyCnt) {c : Coh} (hv : c.vit = s.coh.vit)
    (hw : c.wl = s.coh.wl) (hf : c.filter = s.coh.filter) (hb : c.brkClean = s.coh.brkClean) :
    s.Near { s with evq := q, med := m, aon := a, tcnt := n, coh := c } :=
  ⟨fun y hy => by
    cases y
    case evq | coh | med | aon | tcnt => simp at hy
    all_goals rfl, fun _ _ => rfl, hv, hw, hf, hb⟩

theorem State.near_tally (s : State) (first k code v : Nat) : s.Near (s.tally first k code v) :=
  s.near_mk s.evq s.med s.aon _ rfl rfl rfl rfl

theorem State.near_med (s : State) (m : Media) : s.Near { s with med := m } :=
  s.near_mk s.evq m s.aon s.tcnt rfl rfl rfl rfl

/-- A change of the caches' accounts. -/
theorem State.near_coh (s : State) {c : Coh} (hv : c.vit = s.coh.vit) (hw : c.wl = s.coh.wl) (hf : c.filter = s.coh.filter)
    (hb : c.brkClean = s.coh.brkClean) : s.Near { s with coh := c } :=
  s.near_mk s.evq s.med s.aon s.tcnt hv hw hf hb

theorem State.near_touch (s : State) (gl w : Nat) : s.Near (s.touch gl w) := s.near_coh rfl rfl rfl rfl

theorem State.near_unpoisonHome (s : State) (gl : Nat) : s.Near (s.unpoisonHome gl) := s.near_coh rfl rfl rfl rfl

theorem State.near_log (s : State) (code inst aux arg : Nat) (inj : Bool) : s.Near (s.log code inst aux arg inj) := by
  unfold State.log
  dsimp only
  split
  · unfold State.holdAon
    split
    · exact (s.near_mk s.evq s.med _ s.tcnt rfl rfl rfl rfl).trans
        (State.near_wr _ _ _ _ (by simp [bookKeys]))
    · exact State.near_wr _ _ _ _ (by simp [bookKeys])
  · exact s.near_mk _ s.med s.aon s.tcnt rfl rfl rfl rfl

theorem State.near_govern (s : State) : s.Near s.govern := by
  have hw (v : Nat) : s.Near (s.wr D.PWR_PGSTAT_mode v) := s.near_wr _ _ _ (by simp [bookKeys])
  unfold State.govern
  extract_lets m n s1 s2
  split
  · exact .refl s
  · have h2 : s.Near s2 := by
      simp only [s2]
      split
      · exact (hw _).trans (State.near_log ..)
      · exact hw _
    split
    · exact h2.trans (State.near_med ..)
    · exact h2

/-- A change of the caches' accounts, after which the governor sets its mode. -/
theorem State.near_coh_govern (s : State) {c : Coh} (hv : c.vit = s.coh.vit) (hw : c.wl = s.coh.wl)
    (hf : c.filter = s.coh.filter) (hb : c.brkClean = s.coh.brkClean) : s.Near ({ s with coh := c } : State).govern :=
  (s.near_coh hv hw hf hb).trans (State.near_govern _)

theorem State.near_charge (s : State) (gl : Nat) : s.Near (s.charge gl) := by
  unfold State.charge
  split
  · exact .refl s
  · exact s.near_coh_govern rfl rfl rfl rfl

theorem State.near_release (s : State) (gl : Nat) : s.Near (s.release gl) := by
  unfold State.release
  split
  · exact s.near_coh_govern rfl rfl rfl rfl
  · exact .refl s

theorem State.near_releaseClean (s : State) (gl : Nat) : s.Near (s.releaseClean gl) := by
  unfold State.releaseClean
  split
  · exact .refl s
  · exact s.near_release gl

theorem State.near_setTxn (s : State) (gl : Nat) (t : Txn) : s.Near (s.setTxn gl t) := s.near_coh rfl rfl rfl rfl

theorem State.near_delTxn (s : State) (gl : Nat) : s.Near (s.delTxn gl) := s.near_coh_govern rfl rfl rfl rfl

theorem State.near_ungrant (s : State) (gl : Nat) : s.Near (s.ungrant gl) := by
  have hset (m : SMap Grant) : s.Near (s.setGrants m) :=
    (s.near_coh (c := { s.coh with grants := m }) rfl rfl rfl rfl).trans
      ((State.near_wr _ D.CLO_GRANTS_entries _ 0 (by simp [bookKeys])).trans 
        (State.near_wr _ D.CLO_GRANTS_away _ 0 (by simp [bookKeys])))
  have htouch (a : State) (k : Nat) : a.Near (a.grantTouch k) := by
    unfold State.grantTouch
    split
    · exact .refl a
    · exact a.near_coh_govern rfl rfl rfl rfl
  unfold State.ungrant
  split
  · exact (hset _).trans (htouch _ _)
  · exact .refl s

/-! The records of a line that is no longer lost (R149, R172). -/

theorem State.near_applyLog (s : State) (e : LogEnt) : s.Near (s.applyLog e) := by
  have hTile (a : State) (p : Nat) (t : TileRec) : a.Near (a.setTile p t) := a.near_med _
  have hStripe (a : State) (n : Nat) (r : StripeRec) : a.Near (a.setStripe n r) := a.near_med _
  unfold State.applyLog
  dsimp only
  split
  · split
    · exact .refl s
    · exact hTile ..
  split
  · exact hStripe ..
  split
  · exact (hStripe ..).trans (hTile ..)
  split
  · exact hStripe ..
  split
  · exact s.near_med _
  split
  · refine (hStripe s e.a _).trans (State.near_foldl (fun a j => ?_) _ _)
    split
    · exact .refl a
    · exact hTile ..
  · exact .refl s

theorem State.near_clogNow (s : State) (type a b c : Nat) : s.Near (s.clogNow type a b c) :=
  (s.near_med _).trans ((State.near_med _ _).trans (State.near_foldl State.near_applyLog _ _))

theorem State.near_setLost (s : State) (l : List LostEnt) : s.Near (s.setLost l) :=
  (s.near_med _).trans (State.near_wr _ _ _ _ (by simp [bookKeys]))

theorem State.near_journal (s : State) (type tile arg0 arg1 : Nat) : s.Near (s.journal type tile arg0 arg1) := s.near_med _

theorem State.near_listOverflowed (s : State) : s.Near s.listOverflowed := by
  refine State.near_foldl (fun a t => ?_) _ _
  split
  · exact (a.near_med _).trans ((State.near_setLost _ _).trans ((State.near_clogNow ..).trans (State.near_journal ..)))
  · exact .refl a

theorem State.near_unlose (s : State) (ll : Nat) : s.Near (s.unlose ll) := by
  unfold State.unlose
  split
  · extract_lets s1 s2
    have h1 : s.Near s1 := (s.near_setLost _).trans (State.near_clogNow ..)
    have h2 : s.Near s2 := by
      simp only [s2]
      split
      · exact h1.trans (State.near_journal ..)
      · exact h1
    exact h2.trans (State.near_listOverflowed _)
  · exact .refl s

/-! What is the same where only accounts differ. -/

/-- A line's region is found in the region table and in the operations that are changing it (R38). -/
theorem State.regionOf_of_regions {s t : State} (hr : t.regions = s.regions) (ho : t.rops = s.rops) (gl : Nat) :
    t.regionOf gl = s.regionOf gl := by
  have hAt : t.regionAt = s.regionAt := by unfold State.regionAt State.region; rw [hr, ho]
  rw [State.regionOf, State.regionOf, State.regionNo, State.regionNo, hAt, hr, ho]

section
variable {s t : State} (h : s.RegsBut bookKeys t)
include h

theorem State.rd_of_book (f : FldDesc) (i : Nat) (hk : f.key i ∉ bookKeys) : t.rd f i = s.rd f i := by
  simp only [State.rd, SMap.get_eq_find, h _ hk]
theorem State.portMode_of_book (p : Nat) : t.portMode p = s.portMode p := by
  have hk : D.HST_STAT_mode.keyP p 0 ∉ bookKeys := by
    simp [bookKeys, FldDesc.key, FldDesc.keyP, D.HST_STAT_mode, D.PWR_PGSTAT_mode, D.CON_LOSTCNT_count,
      D.CLO_GRANTS_entries, D.CLO_GRANTS_away, D.PWR_AONSTAT_held, D.PWR_AONSTAT_dropped]
    omega
  simp only [State.portMode, State.rdP, SMap.get_eq_find, h _ hk]
end

section
variable {s t : State} (h : s.Near t)
include h

theorem State.Near.rd (f : FldDesc) (i : Nat) (hk : f.key i ∉ bookKeys) : t.rd f i = s.rd f i :=
  State.rd_of_book h.regs f i hk
theorem State.Near.noInj (hn : s.NoInj) : t.NoInj := fun k hk => by
  have hk' : D.INJ_PTCTL_armed.key k ∉ bookKeys := by
    simp [bookKeys, FldDesc.key, D.INJ_PTCTL_armed, D.PWR_PGSTAT_mode, D.CON_LOSTCNT_count,
      D.CLO_GRANTS_entries, D.CLO_GRANTS_away, D.PWR_AONSTAT_held, D.PWR_AONSTAT_dropped]
    omega
  rw [State.bit, h.rd _ _ hk']
  exact hn k hk
theorem State.Near.vfind (gl : Nat) : t.vfind gl = s.vfind gl := by simp only [State.vfind, h.vit]
theorem State.Near.wfind (w gl : Nat) : t.wfind w gl = s.wfind w gl := by simp only [State.wfind, h.wl]
theorem State.Near.filterHas (gl : Nat) : t.filterHas gl = s.filterHas gl := by simp only [State.filterHas, h.filter]
theorem State.Near.ports : t.ports = s.ports := h.only .ports (by simp)
theorem State.Near.port (p : Nat) : t.port p = s.port p := by simp only [State.port, h.ports]
theorem State.Near.cur : t.cur = s.cur := h.only .cur (by simp)
theorem State.Near.regionOf (gl : Nat) : t.regionOf gl = s.regionOf gl :=
  State.regionOf_of_regions (h.only .regions (by simp)) (h.only .rops (by simp)) gl
theorem State.Near.attrOf (gl : Nat) : t.attrOf gl = s.attrOf gl := by rw [State.attrOf, State.attrOf, h.regionOf]
theorem State.Near.isLocal (gl : Nat) : t.isLocal gl = s.isLocal gl := by
  rw [State.isLocal, State.isLocal, State.ownSeat, State.ownSeat, State.mySeat, State.mySeat,
    h.rd D.GBL_STAT_seated 0 (by decide), h.rd D.FAB_STAT_seat 0 (by decide)]
theorem State.Near.breached (gl : Nat) : t.breached gl = s.breached gl := by
  have hg : t.gov = s.gov := h.only .gov (by simp)
  simp only [State.breached, h.isLocal, hg, h.brkClean]
theorem State.Near.hits {gl w : Nat} {v : VLine} (hh : s.Hits gl w v) : t.Hits gl w v := by
  unfold State.Hits
  rw [h.vfind, h.breached]
  exact hh
end

end Sys2Proof.Machine
end

section
/-! SUPPORT. A request at a quiet line (R202, R203), and bytes written where the vitrine holds the line (R187, R193). -/

namespace Sys2Proof.Machine

/-! A request at a quiet line (R202, R203). -/

/-- A request is looked up and in progress. -/
def State.started (s : State) (r : Req) : State := (s.lookedUp r).setTxn r.gl (Txn.start r false false)

theorem State.near_started (s : State) (r : Req) : s.Near (s.started r) :=
  (s.near_tally _ _ _ _).trans ((State.near_tally _ _ _ _ _).trans ((State.near_tally _ _ _ _ _).trans (State.near_setTxn ..)))

/-- Nothing holds a request up at a quiet line: it is judged at once. -/
theorem State.arriveReq_quiet {s : State} {r : Req} (hq : s.Quiet r.gl) (hk : r.kind ≠ .inval) (fl : Flips) :
    s.arriveReq r fl = (s.started r).judge (Txn.start r false false) fl := by
  obtain ⟨-, hbusy, hconf, hfilter, hloan, hgrant, -⟩ := hq
  have hg : (s.started r).grant r.gl = none := hgrant
  have hl : ((s.started r).loan r.gl).sharers = 0 := hloan
  have hs : s.startReq r false fl = (s.started r).afterSnoop (Txn.start r false false) fl := by
    simp only [State.startReq, hfilter, hk, or_self, if_false, Bool.false_eq_true]
    rfl
  have ha : (s.started r).afterSnoop (Txn.start r false false) fl = (s.started r).judge (Txn.start r false false) fl := by
    unfold State.afterSnoop
    have hr : (Txn.start r false false).req = r := rfl
    simp only [hr, hg, hl, ne_eq, not_true_eq_false, false_and, if_false]
  have hc : s.confCount (sliceOf r.gl) < 64 := by simp [State.confCount, hconf]
  simp only [State.arriveReq, hbusy, hconf, List.any_nil, Bool.false_eq_true, or_self, if_false, hc, if_true, hs, ha]

theorem State.judge_accept {s : State} {t : Txn}
    (hw : ∀ m a, t.req.writes = some (m, a) → s.verdict t.req.gl m t.req.src a = .accept) (fl : Flips) :
    s.judge t fl = s.effect t fl := by
  unfold State.judge
  dsimp only
  split
  · rfl
  · next hm => simp only [hw _ _ hm]

theorem State.judge_hold {s : State} {t : Txn} {m : LineMask} {a : Bool} (hm : t.req.writes = some (m, a))
    (hv : s.verdict t.req.gl m t.req.src a = .hold) (fl : Flips) :
    s.judge t fl = (s.setTxn t.req.gl { t with phase := .hold }).govern := by
  simp only [State.judge, hm, hv]

theorem State.effect_own {s : State} {t : Txn} (hd : s.displaced t.req = none) (hf : t.req.src.isFabric = false) (fl : Flips) :
    s.effect t fl = s.ownEffect t fl := by
  simp [State.effect, hd, hf]

/-- A verdict rests on registers, charges and grants, and on nothing else of the accounts. -/
theorem State.Near.verdict {s t : State} (h : s.Near t) (hr : t.regs = s.regs) (hc : t.coh.chg = s.coh.chg)
    (hg : t.coh.grants = s.coh.grants) (hd : t.coh.gdirty = s.coh.gdirty) (gl : Nat) (m : LineMask) (src : Src) (a : Bool) :
    t.verdict gl m src a = s.verdict gl m src a := by
  have hgov : t.gov = s.gov := h.only .gov (by simp)
  have hrd (f : FldDesc) (i : Nat) : t.rd f i = s.rd f i := by simp only [State.rd, hr]
  have hsealed : t.sealedIn (llOf gl) = s.sealedIn (llOf gl) := by
    unfold State.sealedIn State.closedEnd State.acc
    rw [h.cur]
  have hdrain : t.drainStep = s.drainStep := by rw [State.drainStep, State.drainStep, hgov]
  have hraises : t.raises gl = s.raises gl := by rw [State.raises, State.raises, State.charged, State.charged, hc]
  have hlow : t.lowEnergy = s.lowEnergy := by rw [State.lowEnergy, State.lowEnergy, hrd]
  have hwprot : t.wprot = s.wprot := by rw [State.wprot, State.wprot, hrd]
  have hdirty : t.dirty = s.dirty := by rw [State.dirty, State.dirty, hc, hd]
  have hof : t.chargeOf gl = s.chargeOf gl := by rw [State.chargeOf, State.chargeOf, h.isLocal, h.attrOf]
  have hgrant : t.grant gl = s.grant gl := by rw [State.grant, State.grant, hg]
  unfold State.verdict
  rw [hgrant, h.regionOf, hsealed, hraises, hdrain, hlow, hwprot, hrd, hdirty, hof]

theorem State.Near.displaced {s t : State} (h : s.Near t) {r : Req} (hf : r.src.isFabric = false) :
    t.displaced r = s.displaced r := by
  have ht : t.takesEntry r = s.takesEntry r := by simp only [State.takesEntry, h.attrOf, h.breached]
  simp only [State.displaced, ht, State.filterVictim, h.filterHas, h.filter, hf, Bool.false_eq_true, if_false]

/-- A request that no verdict stops and that displaces no entry has its own effect at a quiet line. -/
theorem State.arriveReq_accept {s : State} {r : Req} (hq : s.Quiet r.gl) (hk : r.kind ≠ .inval)
    (hw : ∀ m a, r.writes = some (m, a) → s.verdict r.gl m r.src a = .accept) (hd : s.displaced r = none)
    (hf : r.src.isFabric = false) (fl : Flips) :
    s.arriveReq r fl = (s.started r).ownEffect (Txn.start r false false) fl := by
  have hn := s.near_started r
  have hv (m : LineMask) (a : Bool) := hn.verdict rfl rfl rfl rfl r.gl m r.src a
  rw [State.arriveReq_quiet hq hk, State.judge_accept (t := Txn.start r false false) fun m a h => (hv m a).trans (hw m a h),
    State.effect_own (t := Txn.start r false false) ((hn.displaced hf).trans hd) hf]

theorem State.displaced_of_takesEntry {s : State} {r : Req} (h : s.takesEntry r = false) : s.displaced r = none := by
  simp [State.displaced, h]

theorem State.displaced_of_filterVictim {s : State} {r : Req} (h : s.filterVictim r.gl = none) (hf : r.src.isFabric = false) :
    s.displaced r = none := by
  simp [State.displaced, h, hf]

/-! A line that the vitrine holds (R193, R194). -/

theorem State.only_coh (s : State) (c : Coh) : s.Only [.coh] { s with coh := c } := by
  intro p hp
  cases p
  case coh => simp at hp
  all_goals rfl


theorem State.obtain_hit {s : State} {t : Txn} {w : Nat} {v : VLine} (hn : s.NoInj) (hh : s.Hits t.req.gl w v) :
    s.obtain t Flips.none = (.line v.data false, s) := by
  obtain ⟨hv, hp, -, -⟩ := hh
  simp only [State.obtain, hv, State.checkWay_noInj hn _ _ hp]

theorem State.fillRead_hit {s : State} {gl w : Nat} {v : VLine} (hh : s.Hits gl w v) (d : Line) (p : Bool) :
    ∃ a, s.fillRead gl d p = some a ∧ s.Near a := by
  unfold State.fillRead
  split
  · exact ⟨s, rfl, .refl s⟩
  · simp only [hh.1]
    exact ⟨_, rfl, s.near_touch gl w⟩

theorem wayKey_inj {sl set w x : Nat} (h : w ≠ x) : wayKey sl set w ≠ wayKey sl set x := by
  unfold wayKey
  omega

theorem State.vfind_setWay {s : State} {gl w : Nat} {v x : VLine} (h : s.vfind gl = some (w, v)) (hx : x.gl = gl) :
    (s.setWay gl w x).vfind gl = some (w, x) := by
  obtain ⟨l₁, y, l₂, hr, hy, hl⟩ := List.findSome?_eq_some_iff.mp h
  have hyw : y = w := by
    split at hy
    · split at hy
      · exact congrArg Prod.fst (Option.some.inj hy)
      · cases hy
    · cases hy
  subst hyw
  refine List.findSome?_eq_some_iff.mpr ⟨l₁, y, l₂, hr, ?_, fun z hz => ?_⟩
  · simp [State.setWay, hx]
  · have hnd : (List.range 16).Nodup := List.nodup_range
    rw [hr, List.nodup_append] at hnd
    have hzy : y ≠ z := fun e => hnd.2.2 z hz z (by simp [e]) rfl
    simp only [State.setWay, SMap.find_ins_ne _ _ (wayKey_inj hzy)]
    exact hl z hz

/-! Charges and requests that end (R68, R70). -/

theorem State.govern_coh (s : State) : s.govern.coh = s.coh := by
  have hl (a : State) (code inst aux arg : Nat) : (a.log code inst aux arg).coh = a.coh := by
    simp only [State.log, State.holdAon, State.addSat]
    (repeat' split) <;> rfl
  unfold State.govern
  dsimp only
  (repeat' split) <;> simp only [hl, State.wr_coh]

theorem State.charged_charge (s : State) (gl : Nat) : (s.charge gl).charged gl = true := by
  unfold State.charge
  split
  · assumption
  · simp [State.charged, State.govern_coh, SMap.has_eq_find]

theorem State.charged_of_coh {s t : State} (h : t.coh.chg = s.coh.chg) (gl : Nat) : t.charged gl = s.charged gl := by
  rw [State.charged, State.charged, h]

theorem State.delTxn_chg (s : State) (gl : Nat) : (s.delTxn gl).coh.chg = s.coh.chg := by
  rw [State.delTxn, State.govern_coh]

theorem State.txn_delTxn (s : State) (gl : Nat) : (s.delTxn gl).txn gl = none := by
  rw [State.delTxn, State.txn, State.govern_coh]
  exact SMap.find_del_same ..

/-! Bytes written where the vitrine holds the line (R187, R193). -/

theorem State.near_wholeWrite (s : State) (gl : Nat) (p : Bool) : s.Near (s.wholeWrite gl p) := by
  unfold State.wholeWrite
  extract_lets s1
  have h1 : s.Near s1 := by
    simp only [s1]
    split
    · exact s.near_unpoisonHome gl
    · exact (s.near_unpoisonHome gl).trans (State.near_unlose ..)
  split
  · split
    · exact h1.trans ((State.near_ungrant ..).trans (State.near_log ..))
    · exact h1
  · exact h1

theorem State.gl_of_vfind {s : State} {gl w : Nat} {v : VLine} (h : s.vfind gl = some (w, v)) : v.gl = gl := by
  obtain ⟨y, -, hy⟩ := List.exists_of_findSome?_eq_some h
  split at hy
  · split at hy
    · next hgl => exact congrArg (fun e => e.2.gl) (Option.some.inj hy) ▸ hgl
    · cases hy
  · cases hy

/-- A way of a line has been written, and the line is charged; nothing else but accounts has changed. -/
structure State.Stored (s : State) (gl w : Nat) (v : VLine) (t : State) : Prop where
  only : s.Only [.regs, .evq, .coh, .med, .aon, .tcnt] t
  regs : s.RegsBut bookKeys t
  held : t.vfind gl = some (w, v)
  charged : t.charged gl = true

theorem State.stored_setWay {s a : State} {gl w : Nat} {v x : VLine} (ha : s.Near a) (hc : a.charged gl = true)
    (hv : s.vfind gl = some (w, v)) (hx : x.gl = gl) : s.Stored gl w x ((a.setWay gl w x).touch gl w) where
  only := ha.only.trans ((State.only_coh a _).mono (by simp))
  regs := ha.regs
  held := State.vfind_setWay ((ha.vfind gl).trans hv) hx
  charged := hc

theorem State.Stored.delTxn {s t : State} {gl w : Nat} {v : VLine} (h : s.Stored gl w v t) (k : Nat) :
    s.Stored gl w v (t.delTxn k) where
  only := h.only.trans (t.near_delTxn k).only
  regs := fun j hj => ((t.near_delTxn k).regs j hj).trans (h.regs j hj)
  held := ((t.near_delTxn k).vfind gl).trans h.held
  charged := (State.charged_of_coh (t.delTxn_chg k) gl).trans h.charged

theorem State.Near.stored {s a b : State} {gl w : Nat} {v : VLine} (h : s.Near a) (g : a.Stored gl w v b) :
    s.Stored gl w v b where
  only := h.only.trans g.only
  regs := fun j hj => (g.regs j hj).trans (h.regs j hj)
  held := g.held
  charged := g.charged

/-- A WB line's bytes are written in its way, which becomes the most recent; the line is charged. -/
theorem State.homeStore_hit {s : State} {gl w : Nat} {v : VLine} (hv : s.vfind gl = some (w, v))
    (hwb : (s.attrOf gl).wpol = .wb) (d : Line) (mask : LineMask) (p : Bool) (base : Line × Bool) (zero : Bool) :
    ∃ b, s.Stored gl w (v.write d mask p) b ∧ s.homeStore gl d mask p base zero = some b := by
  unfold State.homeStore
  extract_lets s0 pol
  have h0 : s.Near s0 := by
    refine .trans ?_ (State.near_charge _ gl)
    split
    · exact s.near_wholeWrite gl p
    · exact .refl s
  have hpol : pol = .wb := by simp [pol, h0.attrOf, hwb]
  refine ⟨_, State.stored_setWay h0 (State.charged_charge ..) hv (State.gl_of_vfind (s := s) (v := v) hv), ?_⟩
  simp only [h0.vfind, hv, hpol, true_or, if_true]

theorem State.homeWrite_hit {s : State} {gl w : Nat} {v : VLine} (hh : s.Hits gl w v)
    (hwb : (s.attrOf gl).wpol = .wb) (d : Line) (mask : LineMask) (p : Bool) (base : Line × Bool) (zero : Bool) :
    ∃ b, s.Stored gl w (v.write d mask p) b ∧ s.homeWrite gl d mask p base zero = some b := by
  obtain ⟨hv, -, -, hb⟩ := hh
  simp only [State.homeWrite, State.breachEnd, hb, Bool.false_eq_true, and_false, if_false]
  exact State.homeStore_hit hv hwb d mask p base zero

theorem VLine.write_clean {v : VLine} (hp : v.poison = false) (d : Line) (mask : LineMask) (p : Bool) :
    v.write d mask p = { v with data := merge v.data d mask, dirty := true, poison := p } := by
  simp [VLine.write, hp]

end Sys2Proof.Machine
end

section
/-! SUPPORT. HDM decoders, the poison list, and the CXL.mem requests that no line answers (R32, R34 to R36, R172, R305, R307). -/

namespace Sys2Proof.Machine

/-! What a command answers, the tally's counters set aside (R514), and what leaves the device. -/

theorem answers_of_exists {i : Instr} {s : State} {P : State → Prop}
    (h : ∃ t, exec i s = .next t ∧ P { t with tcnt := s.tcnt }) : Answers i s P := h

/-- Counters that a command advances are no part of its answer. -/
theorem State.Only.uncounted {s t : State} {ps : List Comp} (h : s.Only (.tcnt :: ps) t) :
    s.Only ps { t with tcnt := s.tcnt } := fun p hp => by
  by_cases hc : p = .tcnt
  · subst hc
    rfl
  · have hs := h p (by simp [hc, hp])
    cases p
    case tcnt => exact absurd rfl hc
    all_goals exact hs

theorem State.only_tally (s : State) (first k code v : Nat) : s.Only [.tcnt] (s.tally first k code v) := by
  intro p hp
  cases p
  case tcnt => simp at hp
  all_goals rfl

theorem State.emit_hdm (s : State) (p n : Nat) (ok : Bool) :
    s.emit (.hdm p n ok) = { s with out := .hdm p n ok :: s.out } := rfl

theorem State.reply_eq (s : State) (port code : Nat) (ws : List Nat) :
    s.reply port code ws =
      ({ s with out := .mbox port code ws :: s.out } : State).tWarden 0x01 (b2n (decide (code ≠ 1))) := rfl

/-! HDM decoders (R34, R36, R307). -/

/-- A decoder that is not both committed and locked takes its settings where they are in range. -/
theorem hdmCommit_accepts {port : Fin 4} {n : Fin 8} {size ways gran : Nat} {s : State} (hpa : Nat) (lock : Bool)
    (hfree : (SMap.get Decoder.init (s.port port).decs n).committed = false ∨
      (SMap.get Decoder.init (s.port port).decs n).locked = false)
    (hways : ways ∈ [1, 2, 4, 8, 16]) (hgran : gran ∈ [256, 512, 1024, 2048, 4096, 8192, 16384]) (hsize : 0 < size)
    (hbit : s.rdP D.HST_GBASE_base port n * 2 ^ 28 / 2 ^ 43 % 2 = 0)
    (hseat : s.rdP D.HST_GBASE_base port n * 2 ^ 28 / 2 ^ 44 =
      (s.rdP D.HST_GBASE_base port n * 2 ^ 28 + size / 2 ^ Nat.log2 ways - 1) / 2 ^ 44) :
    Answers (.hdmCommit port n hpa size ways gran lock true) s fun t =>
      SMap.get Decoder.init (t.port port).decs n = ⟨hpa, size, Nat.log2 ways, Nat.log2 gran, true, lock⟩ ∧
        t.out = .hdm port n true :: s.out ∧ (∀ q, q ≠ port.val → t.port q = s.port q) ∧ s.Only [.ports, .out] t := by
  have hlock : ¬ ((SMap.get Decoder.init (s.port port).decs n).committed = true ∧
      (SMap.get Decoder.init (s.port port).decs n).locked = true) := by
    rcases hfree with h | h <;> simp [h]
  have hexec : execHdmCommit port n hpa size ways gran lock true s = .next ((s.setPort port { s.port port with
      decs := SMap.put Decoder.init (s.port port).decs n ⟨hpa, size, Nat.log2 ways, Nat.log2 gran, true, lock⟩ }).emit
        (.hdm port n true)) := by
    simp only [execHdmCommit, if_neg hlock, Bool.true_eq_false, if_false, List.contains_iff_mem.mpr hways,
      List.contains_iff_mem.mpr hgran, hsize, hbit, ← hseat, decide_true, Bool.and_self, if_true]
  refine answers_of_exec hexec rfl ?_
  rw [State.emit_hdm]
  refine ⟨?_, rfl, fun q hq => State.port_setPort_ne s _ (Ne.symm hq), ?_⟩
  · rw [State.port, show (SMap.get Port.init _ port) = _ from State.port_setPort_same s port _]
    simp
  · exact ((s.only_ports _).mono (by simp)).trans ((State.only_out _ _).mono (by simp))

theorem hdmCommit_rejects {port : Fin 4} {n : Fin 8} {size ways gran : Nat} {s : State} (hpa : Nat) (lock : Bool)
    (hfree : (SMap.get Decoder.init (s.port port).decs n).committed = false ∨
      (SMap.get Decoder.init (s.port port).decs n).locked = false)
    (hbad : ways ∉ [1, 2, 4, 8, 16] ∨ gran ∉ [256, 512, 1024, 2048, 4096, 8192, 16384] ∨ size = 0) :
    Answers (.hdmCommit port n hpa size ways gran lock true) s fun t =>
      t.out = .hdm port n false :: s.out ∧ s.Only [.out] t := by
  have hlock : ¬ ((SMap.get Decoder.init (s.port port).decs n).committed = true ∧
      (SMap.get Decoder.init (s.port port).decs n).locked = true) := by
    rcases hfree with h | h <;> simp [h]
  have hok : (([1, 2, 4, 8, 16] : List Nat).contains ways &&
      ([256, 512, 1024, 2048, 4096, 8192, 16384] : List Nat).contains gran && decide (0 < size)) = false := by
    rcases hbad with h | h | h
    · rw [← List.contains_iff_mem, Bool.not_eq_true] at h
      rw [h, Bool.false_and, Bool.false_and]
    · rw [← List.contains_iff_mem, Bool.not_eq_true] at h
      rw [h, Bool.and_false, Bool.false_and]
    · simp [h]
  have hexec : execHdmCommit port n hpa size ways gran lock true s = .next (s.emit (.hdm port n false)) := by
    simp only [execHdmCommit, if_neg hlock, Bool.true_eq_false, if_false, hok, Bool.false_and, Bool.false_eq_true]
  exact answers_of_exec hexec rfl ⟨rfl, s.only_out _⟩

theorem hdmCommit_uncommits {port : Fin 4} {n : Fin 8} {s : State} (hpa size ways gran : Nat) (lock : Bool)
    (hfree : (SMap.get Decoder.init (s.port port).decs n).committed = false ∨
      (SMap.get Decoder.init (s.port port).decs n).locked = false) :
    Answers (.hdmCommit port n hpa size ways gran lock false) s fun t =>
      SMap.get Decoder.init (t.port port).decs n =
        { SMap.get Decoder.init (s.port port).decs n with committed := false, locked := false } ∧
      (∀ q, q ≠ port.val → t.port q = s.port q) ∧ s.Only [.ports] t := by
  have hlock : ¬ ((SMap.get Decoder.init (s.port port).decs n).committed = true ∧
      (SMap.get Decoder.init (s.port port).decs n).locked = true) := by
    rcases hfree with h | h <;> simp [h]
  have hexec : execHdmCommit port n hpa size ways gran lock false s = .next (s.setPort port { s.port port with
      decs := SMap.put Decoder.init (s.port port).decs n
        { SMap.get Decoder.init (s.port port).decs n with committed := false, locked := false } }) := by
    simp only [execHdmCommit, if_neg hlock, if_true]
  refine answers_of_exec hexec rfl ⟨?_, fun q hq => State.port_setPort_ne s _ (Ne.symm hq), s.only_ports _⟩
  rw [State.port_setPort_same]
  simp

/-- A committed decoder that is locked keeps its settings (R307). -/
theorem hdmCommit_locked {port : Fin 4} {n : Fin 8} {s : State} (hpa size ways gran : Nat) (lock commit : Bool)
    (hc : (SMap.get Decoder.init (s.port port).decs n).committed = true)
    (hl : (SMap.get Decoder.init (s.port port).decs n).locked = true) :
    Answers (.hdmCommit port n hpa size ways gran lock commit) s fun t => t = s := by
  have hexec : execHdmCommit port n hpa size ways gran lock commit s = .next s := by
    simp only [execHdmCommit, hc, hl, and_self, if_true]
  exact answers_of_exec hexec rfl rfl

/-! The poison list (Table 10.5, R172). -/

theorem exec_getPoisonList (port : Fin 4) (dpa lines : Word) (s : State) :
    exec (.getPoisonList port dpa lines) s = execGetPoisonList port dpa lines s := rfl

theorem State.mailbox_of_up {s : State} {port : Nat} (inRom : Bool) (run : State → State) (hup : s.mboxUp port = true)
    (hrom : s.phase ≠ stRomRecovery) : s.mailbox port inRom run = run s := by
  simp only [State.mailbox, hup, hrom, Bool.true_eq_false, false_and, if_false]

theorem getPoisonList_invalid {port : Fin 4} {dpa lines : Word} {s : State} (hup : s.mboxUp port = true)
    (hrom : s.phase ≠ stRomRecovery) (hbad : dpa.toNat % 64 ≠ 0 ∨ lines = 0) :
    Answers (.getPoisonList port dpa lines) s fun t => t.out = .mbox port mbInvalid [] :: s.out ∧ s.Only [.out] t := by
  have hbad' : dpa.toNat % 64 ≠ 0 ∨ lines.toNat = 0 ∨ capLines < dpa.toNat / 64 + lines.toNat := by
    rcases hbad with h | h
    · exact .inl h
    · exact .inr (.inl (by simp [h]))
  refine answers_of_exists ⟨s.reply port mbInvalid, ?_, rfl, ?_⟩
  · rw [exec_getPoisonList, execGetPoisonList, State.mailbox_of_up _ _ hup hrom]
    simp only [if_pos hbad']
  · rw [State.reply_eq]
    exact State.Only.uncounted (((s.only_out _).mono (by simp)).trans ((State.only_tally _ _ _ _ _).mono (by simp)))

/-- The reply of an empty list ends the range it was asked for. -/
theorem getPoisonList_empty {port : Fin 4} {dpa lines : Word} {s : State} (hup : s.mboxUp port = true)
    (hrom : s.phase ≠ stRomRecovery) (halign : dpa.toNat % 64 = 0) (hlines : lines ≠ 0)
    (hcap : dpa.toNat / 64 + lines.toNat ≤ capLines) (hlist : s.poisonList = []) :
    Answers (.getPoisonList port dpa lines) s fun t =>
      t.out = .mbox port mbOk [0, 0] :: s.out ∧ (t.port port).poisonAt = none ∧ s.Only [.ports, .out] t := by
  have hn : lines.toNat ≠ 0 := fun h => hlines (BitVec.eq_of_toNat_eq (by simpa using h))
  have hgood : ¬ (dpa.toNat % 64 ≠ 0 ∨ lines.toNat = 0 ∨ capLines < dpa.toNat / 64 + lines.toNat) := by omega
  let t := (s.setPort port { s.port port with poisonAt := none }).reply port mbOk [0, 0]
  have hexec : exec (.getPoisonList port dpa lines) s = .next t := by
    rw [exec_getPoisonList, execGetPoisonList, State.mailbox_of_up _ _ hup hrom]
    simp [if_neg hgood, hlist, t, b2n]
  refine answers_of_exists ⟨t, hexec, rfl, ?_, ?_⟩
  · exact congrArg Port.poisonAt (State.port_setPort_same s port { s.port port with poisonAt := none })
  · exact State.Only.uncounted (((s.only_ports _).mono (by simp)).trans (((State.only_out _ _).mono (by simp)).trans
      ((State.only_tally _ _ _ _ _).mono (by simp))))

/-! CXL.mem requests that no line answers (R32, R35, R305). -/

theorem exec_cxlMemRead (port : Fin 4) (tag : Nat) (hpa : BitVec 52) (s : State) :
    exec (.cxlMemRead port tag hpa) s = execCxlMemRead port tag hpa s := rfl
theorem exec_cxlMemWrite (port : Fin 4) (tag : Nat) (hpa : BitVec 52) (data : Line) (mask : LineMask) (poison : Bool)
    (fl : Flips) (s : State) :
    exec (.cxlMemWrite port tag hpa data mask poison fl) s = execCxlMemWrite port tag hpa data mask poison fl s := rfl

/-- An error is counted at its port and logged: an event of this time joins the registrar's queue. -/
theorem State.addSatP_log {s : State} {f : FldDesc} {p : Nat}
    (hkey : f.keyP p 0 ∉ [D.GBL_STAT_state.key 0, D.GBL_VTIME_ns.key 0]) (hrom : s.phase ≠ stRomRecovery) (n code a b c : Nat) :
    s.Logged code a b c ((s.addSatP f p n).log code a b c) ∧
      s.Only [.regs, .evq] ((s.addSatP f p n).log code a b c) := by
  simp only [List.mem_cons, List.not_mem_nil, or_false, not_or] at hkey
  obtain ⟨hphase, hnow⟩ := hkey
  have hp : (s.addSatP f p n).phase = s.phase := State.rd_wrP_ne _ _ _ _ _ _ _ hphase
  have hn : (s.addSatP f p n).now = s.now := State.rd_wrP_ne _ _ _ _ _ _ _ hnow
  obtain ⟨hlog, honly⟩ := (s.addSatP f p n).log_logged code a b c (hp ▸ hrom)
  refine ⟨?_, ((s.only_regs _).mono (by simp)).trans (honly.mono (by simp))⟩
  rw [State.Logged, hlog, hn]
  rfl

/-- A read that meets an error is answered with poison; the error is counted and logged. -/
theorem answers_poisonRead {i : Instr} {s a : State} {port : Fin 4} {tag code : Nat}
    (ha : s.Logged code 0 0 0 a ∧ s.Only [.regs, .evq] a)
    (hexec : exec i s = .next ((a.poisonRead port tag).tPort port 0x01 1)) :
    Answers i s fun t => t.out = .hostData port tag 0 true :: s.out ∧ s.Logged code 0 0 0 t ∧
      s.Only [.regs, .evq, .out] t := by
  obtain ⟨hlog, honly⟩ := ha
  have hout : a.out = s.out := honly .out (by simp)
  refine answers_of_exists ⟨_, hexec, congrArg _ hout, hlog, ?_⟩
  exact State.Only.uncounted ((honly.mono (by simp)).trans (((State.only_out _ _).mono (by simp)).trans
    (((State.only_tally _ _ _ _ _).mono (by simp)).trans ((State.only_tally _ _ _ _ _).mono (by simp)))))

/-- A write that meets an error completes without effect; the error is counted and logged. -/
theorem answers_writeDone {i : Instr} {s a : State} {port : Fin 4} {tag code : Nat}
    (ha : s.Logged code 0 0 0 a ∧ s.Only [.regs, .evq] a)
    (hexec : exec i s = .next ((a.emit (.hostDone port tag)).tPort port 0x02 1)) :
    Answers i s fun t => t.out = .hostDone port tag :: s.out ∧ s.Logged code 0 0 0 t ∧ s.Only [.regs, .evq, .out] t := by
  obtain ⟨hlog, honly⟩ := ha
  have hout : a.out = s.out := honly .out (by simp)
  refine answers_of_exists ⟨_, hexec, congrArg _ hout, hlog, ?_⟩
  exact State.Only.uncounted ((honly.mono (by simp)).trans (((State.only_out _ _).mono (by simp)).trans
    ((State.only_tally _ _ _ _ _).mono (by simp))))

/-! The counters of a port's errors are neither the phase nor the time. -/

theorem keyP_notopen_ne (port : Fin 4) :
    D.HST_ERR_notopen.keyP port 0 ∉ [D.GBL_STAT_state.key 0, D.GBL_VTIME_ns.key 0] := by
  revert port
  decide
theorem keyP_hdmmiss_ne (port : Fin 4) :
    D.HST_ERR_hdmmiss.keyP port 0 ∉ [D.GBL_STAT_state.key 0, D.GBL_VTIME_ns.key 0] := by
  revert port
  decide

theorem State.notOpen_of_open {s : State} (h : s.phase = stOpen) : s.notOpen = false := by
  simp [State.notOpen, h, stOpen, stStarting, stRomRecovery]

theorem cxlMemRead_starting {port : Fin 4} {s : State} (tag : Nat) (hpa : BitVec 52) (hmode : s.portMode port = 2)
    (hphase : s.phase = stStarting) : Answers (.cxlMemRead port tag hpa) s fun t =>
      t.out = .hostData port tag 0 true :: s.out ∧ s.Logged E.GBL_NOT_OPEN 0 0 0 t ∧ s.Only [.regs, .evq, .out] t := by
  refine answers_poisonRead (State.addSatP_log (keyP_notopen_ne port) (by simp [hphase, stStarting, stRomRecovery]) 1 _ 0 0 0)
    ?_
  simp [exec_cxlMemRead, execCxlMemRead, hmode, State.isFlushing, State.notOpen, hphase, stStarting, stFlushing, stResetting]

theorem cxlMemRead_miss {port : Fin 4} {s : State} (tag : Nat) {hpa : BitVec 52} (hmode : s.portMode port = 2)
    (hflush : s.isFlushing = false) (hphase : s.phase = stOpen) (hmiss : s.hdmDecode port hpa.toNat = none) :
    Answers (.cxlMemRead port tag hpa) s fun t =>
      t.out = .hostData port tag 0 true :: s.out ∧ s.Logged E.GBL_HDM_MISS 0 0 0 t ∧ s.Only [.regs, .evq, .out] t := by
  refine answers_poisonRead (State.addSatP_log (keyP_hdmmiss_ne port) (by simp [hphase, stOpen, stRomRecovery]) 1 _ 0 0 0)
    ?_
  simp [exec_cxlMemRead, execCxlMemRead, hmode, hflush, State.notOpen_of_open hphase, hphase, hmiss, stOpen, stResetting]

theorem cxlMemWrite_miss {port : Fin 4} {s : State} (tag : Nat) {hpa : BitVec 52} (data : Line) (mask : LineMask)
    (poison : Bool) (fl : Flips) (hmode : s.portMode port = 2) (hroom : s.portWrites port < 1024)
    (hflush : s.isFlushing = false) (hphase : s.phase = stOpen) (hmiss : s.hdmDecode port hpa.toNat = none) :
    Answers (.cxlMemWrite port tag hpa data mask poison fl) s fun t =>
      t.out = .hostDone port tag :: s.out ∧ s.Logged E.GBL_HDM_MISS 0 0 0 t ∧ s.Only [.regs, .evq, .out] t := by
  refine answers_writeDone (State.addSatP_log (keyP_hdmmiss_ne port) (by simp [hphase, stOpen, stRomRecovery]) 1 _ 0 0 0)
    ?_
  simp [exec_cxlMemWrite, execCxlMemWrite, hmode, hflush, State.notOpen_of_open hphase, hphase, hmiss, stOpen, stResetting,
      hroom]

/-- A read that decodes waits at its port, for PEEK (R35, R231). -/
theorem cxlMemRead_waits {port : Fin 4} {s : State} {tag ga : Nat} {hpa : BitVec 52} (hmode : s.portMode port = 2)
    (hflush : s.isFlushing = false) (hphase : s.phase ≠ stResetting) (hopen : s.notOpen = false)
    (hhit : s.hdmDecode port hpa.toNat = some ga) (hga : gaValid ga = true)
    (htag : (s.port port).reads.all (fun r => decide (r.tag ≠ tag)) = true) (hroom : (s.port port).reads.length < 1024) :
    Answers (.cxlMemRead port tag hpa) s fun t => (t.port port).reads = (s.port port).reads ++ [⟨tag, ga⟩] ∧
      (∀ q, q ≠ port.val → t.port q = s.port q) ∧ s.Only [.ports] t := by
  have htag' : ((s.port port).reads.any fun r => decide (r.tag = tag)) = false := by
    rw [List.any_eq_false]
    exact fun r hr => by simpa using List.all_eq_true.mp htag r hr
  have hexec : exec (.cxlMemRead port tag hpa) s = .next ((s.setPort port { s.port port with
      reads := (s.port port).reads ++ [⟨tag, ga⟩] }).tPort port 0x01 1) := by
    simp [exec_cxlMemRead, execCxlMemRead, hmode, hflush, hphase, hopen, hhit, hga, htag', Nat.not_le.mpr hroom]
  refine answers_of_exists ⟨_, hexec, ?_, fun q hq => State.port_setPort_ne s _ (Ne.symm hq), ?_⟩
  · exact congrArg Port.reads (State.port_setPort_same s port _)
  · exact State.Only.uncounted (((s.only_ports _).mono (by simp)).trans ((State.only_tally _ _ _ _ _).mono (by simp)))

end Sys2Proof.Machine
end

section
/-! SUPPORT. Requests of host ports and of a context's zero-line operations and atomics, at a line that the vitrine holds (R187, R193,
R219, R229). -/

namespace Sys2Proof.Machine

/-! The effect of a request on a line that the vitrine holds (R193, R202). -/

/-- Nothing is injected into a line of a quiet device. -/
theorem State.noInj_of_quiet {s : State} {gl : Nat} (hq : s.Quiet gl) : s.NoInj := by
  obtain ⟨-, -, -, -, -, -, hn⟩ := hq
  exact hn

/-- A read ends with the bytes of the way. -/
theorem State.ownEffect_read_hit {s : State} {t : Txn} {w : Nat} {v : VLine} (hn : s.NoInj) (hh : s.Hits t.req.gl w v)
    (hk : t.req.kind = .read ∨ t.req.kind = .peek) :
    ∃ a, s.Near a ∧ s.ownEffect t Flips.none = a.endRead t v.data false := by
  obtain ⟨a, ha, hna⟩ := State.fillRead_hit hh v.data false
  refine ⟨a, hna, ?_⟩
  have ho := State.obtain_hit (t := t) hn hh
  obtain ⟨-, -, -, hb⟩ := hh
  rcases hk with hk | hk <;> simp only [State.ownEffect, hk, hb, ho, ha, Bool.false_eq_true, if_false]

/-- An OWN ends with the bytes of the way. -/
theorem State.ownEffect_own_hit {s : State} {t : Txn} {w : Nat} {v : VLine} (hn : s.NoInj) (hh : s.Hits t.req.gl w v)
    (hk : t.req.kind = .own) : ∃ a, s.Near a ∧ s.ownEffect t Flips.none = a.endOwn t v.data false := by
  obtain ⟨a, ha, hna⟩ := State.fillRead_hit hh v.data false
  refine ⟨a, hna, ?_⟩
  simp only [State.ownEffect, hk, State.obtain_hit hn hh, ha]

/-- A write or a zero-line operation writes its bytes in the way, and ends. -/
theorem State.ownEffect_write_hit {s : State} {t : Txn} {w : Nat} {v : VLine} (hn : s.NoInj) (hh : s.Hits t.req.gl w v)
    (hwb : (s.attrOf t.req.gl).wpol = .wb) (hk : t.req.kind = .write ∨ t.req.kind = .zero)
    (hf : t.req.src.isFabric = false) :
    ∃ b, s.Stored t.req.gl w (v.write t.req.data t.req.mask t.req.poison) b ∧ b.txn t.req.gl = none ∧
      s.ownEffect t Flips.none = b.answerWrite t.req false := by
  obtain ⟨b, hb, hstore⟩ :=
    State.homeWrite_hit hh hwb t.req.data t.req.mask t.req.poison (0, false) (decide (t.req.kind = .zero))
  refine ⟨b.delTxn t.req.gl, hb.delTxn _, b.txn_delTxn _, ?_⟩
  have hend : s.endWrite t (0, false) = some ((b.delTxn t.req.gl).answerWrite t.req false) := by
    simp only [State.endWrite, hstore, Option.map_some, Option.some.injEq]
    split
    · next h => simp [h, Src.isFabric] at hf
    · rfl
  have hbase : s.needsBase t.req.gl t.req.mask = false := by simp [State.needsBase, hh.1]
  rcases hk with hk | hk <;>
    simp only [State.ownEffect, hk, State.checkWrite_noInj hn, hbase, hend, Bool.false_eq_true, if_false]

/-! A host port's read (R202). -/

/-- PEEK ends with the answer to the port; nothing but accounts has changed. -/
theorem State.arriveReq_peek {s : State} {gl p tag w : Nat} {v : VLine} (hq : s.Quiet gl) (hh : s.Hits gl w v) :
    ∃ b, s.Near b ∧ b.txn gl = none ∧
      s.arriveReq (Req.plain .peek gl (.port p tag)) Flips.none = b.answerRead p tag gl v.data false := by
  have hn := s.near_started (Req.plain .peek gl (.port p tag))
  obtain ⟨a, ha, heff⟩ := State.ownEffect_read_hit (t := Txn.start (Req.plain .peek gl (.port p tag)) false false)
    (hn.noInj (State.noInj_of_quiet hq)) (hn.hits hh) (.inr rfl)
  refine ⟨a.delTxn gl, hn.trans (ha.trans (a.near_delTxn gl)), a.txn_delTxn gl, ?_⟩
  rw [State.arriveReq_accept hq (by simp [Req.plain]) (by simp [Req.plain, Req.writes])
    (State.displaced_of_takesEntry rfl) rfl, heff]
  rfl

theorem exec_peek (port : Fin 4) (tag : Nat) (ga : BitVec 50) (fl : Flips) (s : State) :
    exec (.peek port tag ga fl) s = execPeek port tag ga fl s := rfl

/-- The only read of a port is its turn once it is not yet asked. -/
theorem State.readTurn_only {s : State} {p tag ga : Nat} (hreads : (s.port p).reads = [⟨tag, ga⟩])
    (hask : s.asking (ga / 64) (.port p tag) = false) (hl : s.isLocal (ga / 64) = true) :
    s.readTurn p tag (ga / 64) = true := by
  simp [State.readTurn, hreads, hask, hl]

theorem peek_answers {port : Fin 4} {tag w : Nat} {ga : BitVec 50} {v : VLine} {s : State}
    (hreads : (s.port port).reads = [⟨tag, ga.toNat⟩]) (heab : (s.port port).eab = []) (hq : s.Quiet (ga.toNat / 64))
    (hask : s.asking (ga.toNat / 64) (.port port tag) = false) (hh : s.Hits (ga.toNat / 64) w v) :
    Answers (.peek port tag ga Flips.none) s fun t => t.out.head? = some (.hostData port tag v.data false) ∧
      (t.port port).reads = [] ∧ t.txn (ga.toNat / 64) = none ∧ t.vfind (ga.toNat / 64) = some (w, v) := by
  obtain ⟨b, hn, htxn, hb⟩ := State.arriveReq_peek (p := port) (tag := tag) hq hh
  have hturn := State.readTurn_only hreads hask hq.1
  have hans : b.answerRead port tag (ga.toNat / 64) v.data false =
      (b.setPort port { s.port port with reads := [] }).emit (.hostData port tag v.data false) := by
    simp [State.answerRead, hn.port, hreads, heab, eabMerge]
  refine answers_of_exists ⟨(b.setPort port { s.port port with reads := [] }).emit (.hostData port tag v.data false), ?_, rfl,
    ?_, htxn, ?_⟩
  · rw [exec_peek, execPeek]
    simp only [hturn, Bool.true_eq_false, if_false, hq.1, if_true, hb, hans]
  · exact congrArg Port.reads (State.port_setPort_same b port { s.port port with reads := [] })
  · exact (hn.vfind _).trans hh.1

/-! Writes (R187, R193). -/

/-- A write that is accepted at a quiet line writes its bytes in the way, and ends. -/
theorem State.arriveReq_write {s : State} {r : Req} {w : Nat} {v : VLine} (hq : s.Quiet r.gl) (hh : s.Hits r.gl w v)
    (hwb : (s.attrOf r.gl).wpol = .wb) (hk : r.kind = .write ∨ r.kind = .zero) (hf : r.src.isFabric = false)
    (hw : ∀ m a, r.writes = some (m, a) → s.verdict r.gl m r.src a = .accept) :
    ∃ b, s.Stored r.gl w (v.write r.data r.mask r.poison) b ∧ b.txn r.gl = none ∧
      s.arriveReq r Flips.none = b.answerWrite r false := by
  have hn := s.near_started r
  obtain ⟨b, hb, htxn, heff⟩ := State.ownEffect_write_hit (t := Txn.start r false false)
    (hn.noInj (State.noInj_of_quiet hq)) (hn.hits hh) ((congrArg Attr.wpol (hn.attrOf _)).trans hwb) hk hf
  refine ⟨b, hn.stored hb, htxn, ?_⟩
  have hinval : r.kind ≠ .inval := by rcases hk with hk | hk <;> simp [hk]
  have htake : s.takesEntry r = false := by rcases hk with hk | hk <;> simp [State.takesEntry, hk]
  rw [State.arriveReq_accept hq hinval hw (State.displaced_of_takesEntry htake) hf, heff]
  rfl

theorem exec_write (m : Master) (ga : BitVec 50) (data : Line) (mask : LineMask) (poison : Bool) (fl : Flips) (s : State) :
    exec (.write m ga data mask poison fl) s = execWrite m ga data mask poison fl s := rfl

theorem masterSrc_port {m : Master} (h : m.kind = 0) : masterSrc m = .port (m.id.val % 4) m.tag := by simp [masterSrc, h]
theorem masterSrc_store {m : Master} (h : m.kind = 1) : masterSrc m = .store m.id.val := by simp [masterSrc, h]

/-- What reaches the home for the write of a host port. -/
theorem execWrite_port {m : Master} {ga : BitVec 50} {s : State} (data : Line) (mask : LineMask) (poison : Bool) (fl : Flips)
    (hm : m.kind = 0) (hopen : s.storesClosed = false) (hl : s.isLocal (ga.toNat / 64) = true)
    (hask : s.asking (ga.toNat / 64) (masterSrc m) = false) :
    execWrite m ga data mask poison fl s = .next
      (s.arriveReq ⟨.write, ga.toNat / 64, .port (m.id.val % 4) m.tag, data, mask, poison, none⟩ fl) := by
  rw [masterSrc_port hm] at hask
  simp only [execWrite, masterSrc_port hm, hl, hask, hopen, Bool.true_eq_false, Bool.false_eq_true, or_self, if_false]

/-- A host's write is done: its port hears of it while its link is up. -/
theorem State.answerWrite_port {s : State} {r : Req} {p tag : Nat} (hr : r.src = .port p tag) (hp : s.portMode p ≠ 0)
    (flag : Bool) : s.answerWrite r flag = { s with out := .hostDone p tag :: s.out } := by
  simp only [State.answerWrite, hr, hp, if_false]
  rfl

theorem write_answers {m : Master} {ga : BitVec 50} {data : Line} {mask : LineMask} {poison : Bool} {w : Nat} {v : VLine}
    {s : State} (hm : m.kind = 0) (hopen : s.storesClosed = false) (hq : s.Quiet (ga.toNat / 64))
    (hask : s.asking (ga.toNat / 64) (masterSrc m) = false) (hh : s.Hits (ga.toNat / 64) w v)
    (hwb : (s.attrOf (ga.toNat / 64)).wpol = .wb) (hp : s.portMode (m.id.val % 4) ≠ 0)
    (hv : s.verdict (ga.toNat / 64) mask (masterSrc m) false = .accept) :
    Answers (.write m ga data mask poison Flips.none) s fun t => t.vfind (ga.toNat / 64) = some (w,
        { v with data := merge v.data data mask, dirty := true, poison := poison }) ∧
      t.out.head? = some (.hostDone (m.id.val % 4) m.tag) ∧ t.charged (ga.toNat / 64) = true ∧
      t.txn (ga.toNat / 64) = none := by
  rw [masterSrc_port hm] at hv
  obtain ⟨b, hb, htxn, heq⟩ := State.arriveReq_write
    (r := ⟨.write, ga.toNat / 64, .port (m.id.val % 4) m.tag, data, mask, poison, none⟩) hq hh hwb (.inl rfl) rfl
    (by simp [Req.writes, hv])
  have hdone := State.answerWrite_port (s := b)
    (r := ⟨.write, ga.toNat / 64, .port (m.id.val % 4) m.tag, data, mask, poison, none⟩) rfl
    (by rwa [State.portMode_of_book hb.regs]) false
  refine answers_of_exists ⟨{ b with out := .hostDone (m.id.val % 4) m.tag :: b.out }, ?_, ?_, rfl, hb.charged, htxn⟩
  · rw [exec_write, execWrite_port _ _ _ _ hm hopen hq.1 hask, heq, hdone]
  · exact hb.held.trans (by rw [VLine.write_clean hh.2.1])

/-- Over the budget a write waits at its line, which stays as it was (R69, R71). -/
theorem write_holds {m : Master} {ga : BitVec 50} {data : Line} {mask : LineMask} {poison : Bool} {w : Nat} {v : VLine}
    {s : State} (hm : m.kind = 0) (hopen : s.storesClosed = false) (hq : s.Quiet (ga.toNat / 64))
    (hask : s.asking (ga.toNat / 64) (masterSrc m) = false) (hh : s.Hits (ga.toNat / 64) w v)
    (hv : s.verdict (ga.toNat / 64) mask (masterSrc m) false = .hold) :
    Answers (.write m ga data mask poison Flips.none) s fun t =>
      (t.txn (ga.toNat / 64)).map Txn.phase = some .hold ∧ t.vfind (ga.toNat / 64) = some (w, v) := by
  rw [masterSrc_port hm] at hv
  let r : Req := ⟨.write, ga.toNat / 64, .port (m.id.val % 4) m.tag, data, mask, poison, none⟩
  have hn := s.near_started r
  have hhold : (s.started r).verdict (ga.toNat / 64) mask r.src false = .hold := (hn.verdict rfl rfl rfl rfl ..).trans hv
  let a := (s.started r).setTxn (ga.toNat / 64) { Txn.start r false false with phase := .hold }
  have hjudge : s.arriveReq r Flips.none = a.govern := by
    rw [State.arriveReq_quiet hq (by simp [r]), State.judge_hold (t := Txn.start r false false) rfl hhold]
    rfl
  refine answers_of_exists ⟨a.govern, ?_, ?_, ?_⟩
  · rw [exec_write, execWrite_port _ _ _ _ hm hopen hq.1 hask, ← hjudge]
  · have htxn : a.govern.txn (ga.toNat / 64) = some { Txn.start r false false with phase := .hold } := by
      rw [State.txn, State.govern_coh]
      exact SMap.find_ins_same ..
    exact congrArg (Option.map Txn.phase) htxn
  · exact ((hn.trans ((State.near_setTxn ..).trans (State.near_govern a))).vfind _).trans hh.1

/-! Zero-line operations (R187). -/

theorem exec_zero (m : Master) (ga : BitVec 50) (fl : Flips) (s : State) : exec (.zero m ga fl) s = execZero m ga fl s := rfl

/-- Host ports have no zero-line request. -/
theorem zero_of_port {m : Master} {ga : BitVec 50} {fl : Flips} {s : State} (hm : m.kind = 0) :
    Answers (.zero m ga fl) s fun t => t = s := by
  have hexec : execZero m ga fl s = .next s := by
    simp only [execZero, masterSrc_port hm, ite_self]
  exact answers_of_exec hexec rfl rfl

/-- A context's zero-line operation clears its line and leaves the store buffer. -/
theorem zero_answers {m : Master} {ga : BitVec 50} {e : SbEnt} {r : List SbEnt} {w : Nat} {v : VLine} {s : State}
    (hm : m.kind = 1) (hopen : s.storesClosed = false) (hsb : (s.ctx m.id).sb = e :: r) (hgl : e.gl = ga.toNat / 64)
    (hz : e.zline = true) (hq : s.Quiet (ga.toNat / 64)) (hask : s.asking (ga.toNat / 64) (.store m.id) = false)
    (hh : s.Hits (ga.toNat / 64) w v) (hwb : (s.attrOf (ga.toNat / 64)).wpol = .wb)
    (hv : s.verdict (ga.toNat / 64) fullMask (.store m.id) false = .accept) :
    Answers (.zero m ga Flips.none) s fun t => t.vfind (ga.toNat / 64) = some (w, { v with data := 0, dirty := true }) ∧
      (t.ctx m.id).sb = r ∧ t.charged (ga.toNat / 64) = true := by
  obtain ⟨b, hb, -, heq⟩ := State.arriveReq_write
    (r := ⟨.zero, ga.toNat / 64, .store m.id, 0, fullMask, false, none⟩) hq hh hwb (.inr rfl) rfl
    (by simp [Req.writes, hv])
  have hctx : b.ctx m.id = s.ctx m.id := by rw [State.ctx, State.ctx, show b.cur = s.cur from hb.only .cur (by simp)]
  have hpop : ∃ x : Ctx, x.sb = r ∧ b.sbPop m.id (ga.toNat / 64) = b.setCtx m.id x := by
    simp only [State.sbPop, hctx, hsb, hgl, if_true]
    exact ⟨_, rfl, rfl⟩
  obtain ⟨x, hx, hpop⟩ := hpop
  refine answers_of_exists ⟨b.setCtx m.id x, ?_, ?_, ?_, hb.charged⟩
  · rw [exec_zero, execZero]
    simp only [masterSrc_store hm, hq.1, hask, hopen, State.headStore, hsb, hgl, hz, Bool.true_eq_false, Bool.false_eq_true,
      or_self, if_false, if_true, heq]
    exact congrArg _ hpop
  · exact hb.held.trans (by simp [VLine.write, hh.2.1])
  · exact (congrArg Ctx.sb (State.setCtx_same b m.id x)).trans hx

/-! Atomics at the home (R219, R247). -/

/-- The count of atomics is no register that a line's reading rests on. -/
theorem State.breached_addWrap_home (s : State) (n gl : Nat) : (s.addWrap D.CLO_ATOM_home n).breached gl = s.breached gl := by
  have hseated : (s.addWrap D.CLO_ATOM_home n).rd D.GBL_STAT_seated = s.rd D.GBL_STAT_seated :=
    State.rd_wr_ne _ _ _ _ _ _ (by decide)
  have hseat : (s.addWrap D.CLO_ATOM_home n).rd D.FAB_STAT_seat = s.rd D.FAB_STAT_seat :=
    State.rd_wr_ne _ _ _ _ _ _ (by decide)
  have hmine : (s.addWrap D.CLO_ATOM_home n).mySeat = s.mySeat := by rw [State.mySeat, State.mySeat, hseated, hseat]
  have hlocal : (s.addWrap D.CLO_ATOM_home n).isLocal gl = s.isLocal gl := by
    rw [State.isLocal, State.isLocal, State.ownSeat, State.ownSeat, hmine]
  unfold State.breached
  rw [hlocal]
  rfl

theorem State.attrOf_addWrap (s : State) (f : FldDesc) (n gl : Nat) : (s.addWrap f n).attrOf gl = s.attrOf gl :=
  congrArg Region.attr (State.regionOf_of_regions rfl rfl gl)

theorem State.giveUnits_eq (s : State) (c gl : Nat) (d : Line) (p : Bool) :
    ∃ u, s.giveUnits c gl d p = { s with cur := u } := by
  unfold State.giveUnits
  dsimp only
  split
  · exact ⟨_, rfl⟩
  · exact ⟨s.cur, rfl⟩

/-- An atomic writes its bytes in the way, is counted, and answers the old line. -/
theorem State.ownEffect_atomic_hit {s : State} {t : Txn} {x : Atom} {c w : Nat} {v : VLine} (hn : s.NoInj)
    (hh : s.Hits t.req.gl w v) (hwb : (s.attrOf t.req.gl).wpol = .wb) (hk : t.req.kind = .atomic)
    (hx : t.req.atom = some x) (hsrc : t.req.src = .atom c) :
    ∃ b u, (s.addWrap D.CLO_ATOM_home 1).Stored t.req.gl w (v.write (x.apply v.data) x.mask false) b ∧
      s.ownEffect t Flips.none = { b with cur := u } := by
  have ho := State.obtain_hit (t := t) hn hh
  obtain ⟨hv, hp, hlent, hb⟩ := hh
  obtain ⟨b, hb', hstore⟩ := State.homeWrite_hit (s := s.addWrap D.CLO_ATOM_home 1) (gl := t.req.gl) (w := w) (v := v)
    ⟨hv, hp, hlent, (State.breached_addWrap_home ..).trans hb⟩ ((congrArg Attr.wpol (State.attrOf_addWrap ..)).trans hwb)
    (x.apply v.data) x.mask false (v.data, false) false
  let a := b.delTxn t.req.gl
  let k := a.predSet (wingOf c) t.req.gl (a.predAt (wingOf c) t.req.gl - 1)
  let a' := if t.filterHit = false ∧ t.waited = false ∧ a.coh.conf.all (fun q => decide (q.gl ≠ t.req.gl)) = true then k else a
  have ha' : (s.addWrap D.CLO_ATOM_home 1).Stored t.req.gl w (v.write (x.apply v.data) x.mask false) a' := by
    have ha := hb'.delTxn t.req.gl
    simp only [a']
    split
    · exact ⟨ha.only.trans ((State.only_coh _ _).mono (by simp)), ha.regs, ha.held, ha.charged⟩
    · exact ha
  obtain ⟨u, hu⟩ := a'.giveUnits_eq c t.req.gl v.data false
  have hend : s.endAtomic t x v.data false = some (a'.giveUnits c t.req.gl v.data false) := by
    simp only [State.endAtomic, Bool.false_eq_true, if_false, hstore, Option.map_some, hsrc]
    rfl
  refine ⟨a', u, ha', ?_⟩
  simp only [State.ownEffect, hk, hb, ho, hx, Option.bind_some, hend, hu, Bool.false_eq_true, if_false]

theorem exec_atomic (m : Master) (ga : BitVec 50) (op : Fin 10) (wide : Bool) (off : Fin 64) (a b : Word) (fl : Flips)
    (s : State) : exec (.atomic m ga op wide off a b fl) s = execAtomic m ga op wide off a b fl s := rfl

/-- The atomic a context waits for is applied to the line's way, and counted. -/
theorem atomic_answers {m : Master} {ga : BitVec 50} {op : Fin 10} {wide : Bool} {off : Fin 64} {a b : Word} {x : Atom}
    {w : Nat} {v : VLine} {s : State} (hm : m.kind = 1) (hopen : s.storesClosed = false)
    (hx : s.wantsAtom m.id (ga.toNat / 64) = some x) (hq : s.Quiet (ga.toNat / 64))
    (hask : s.asking (ga.toNat / 64) (.atom m.id) = false) (hh : s.Hits (ga.toNat / 64) w v)
    (hwb : (s.attrOf (ga.toNat / 64)).wpol = .wb) (hv : s.verdict (ga.toNat / 64) x.mask (.atom m.id) true = .accept) :
    Answers (.atomic m ga op wide off a b Flips.none) s fun t =>
      (t.vfind (ga.toNat / 64)).map (fun e => (e.1, e.2.data)) = some (w, x.apply v.data) ∧
        t.rd D.CLO_ATOM_home = (s.rd D.CLO_ATOM_home + 1) % D.CLO_ATOM_home.cap := by
  let r : Req := ⟨.atomic, ga.toNat / 64, .atom m.id, 0, 0, false, some x⟩
  have hn := s.near_started r
  obtain ⟨t, u, ht, heff⟩ := State.ownEffect_atomic_hit (t := Txn.start r false false) (x := x) (c := m.id)
    (hn.noInj (State.noInj_of_quiet hq)) (hn.hits hh) ((congrArg Attr.wpol (hn.attrOf _)).trans hwb) rfl rfl rfl
  have hacc : s.arriveReq r Flips.none = { t with cur := u } := by
    rw [State.arriveReq_accept (r := r) hq (by simp [r]) (by simp [r, Req.writes, hv]) (State.displaced_of_takesEntry rfl) rfl,
      heff]
  refine answers_of_exists ⟨{ t with cur := u }, ?_, ?_, ?_⟩
  · rw [exec_atomic, execAtomic]
    simp only [hq.1, hopen, hm, hx, hask, Bool.true_eq_false, Bool.false_eq_true, or_self, if_false, if_true]
    exact congrArg _ hacc
  · refine (congrArg (Option.map fun e => (e.1, e.2.data)) (show t.vfind (ga.toNat / 64) = _ from ht.held)).trans ?_
    simp [VLine.write, Atom.apply, Atom.mask]
  · have hrd : t.rd D.CLO_ATOM_home = ((s.started r).rd D.CLO_ATOM_home + 1) % D.CLO_ATOM_home.cap :=
      (State.rd_of_book ht.regs _ _ (by decide)).trans (State.rd_wr_same ..)
    exact hrd.trans (by rw [hn.rd _ _ (by decide)])

/-! A host's write that decodes (R56, R231). -/

/-- A write that is neither acknowledged early nor withheld is a WRITE at the home slice (R229). -/
theorem State.hostWriteLocal_of_idle {s : State} {p gl : Nat} (tag : Nat) (d : Line) (mask : LineMask) (poison : Bool)
    (fl : Flips) (hewa : (s.attrOf gl).ewa = false) (heab : (s.port p).eab = []) (hreads : (s.port p).reads = []) :
    s.hostWriteLocal p tag gl d mask poison fl = s.arriveReq ⟨.write, gl, .port p tag, d, mask, poison, none⟩ fl := by
  simp [State.hostWriteLocal, hewa, heab, State.readWaits, hreads]

theorem cxlMemWrite_answers {port : Fin 4} {tag : Nat} {hpa : BitVec 52} {data : Line} {mask : LineMask} {ga w : Nat}
    {v : VLine} {s : State} (hmode : s.portMode port = 2) (hflush : s.isFlushing = false) (hphase : s.phase ≠ stResetting)
    (hopen : s.notOpen = false) (hdec : s.hdmDecode port hpa.toNat = some ga) (hga : gaValid ga = true)
    (hroom : s.portWrites port < 1024) (hq : s.Quiet (ga / 64)) (hh : s.Hits (ga / 64) w v)
    (hwb : (s.attrOf (ga / 64)).wpol = .wb) (hewa : (s.attrOf (ga / 64)).ewa = false) (heab : (s.port port).eab = [])
    (hreads : (s.port port).reads = []) (hv : s.verdict (ga / 64) mask (.port port tag) false = .accept) :
    Answers (.cxlMemWrite port tag hpa data mask false Flips.none) s fun t => t.vfind (ga / 64) = some (w,
      { v with data := merge v.data data mask, dirty := true }) ∧ t.out.head? = some (.hostDone port tag) := by
  obtain ⟨b, hb, -, heq⟩ := State.arriveReq_write (r := ⟨.write, ga / 64, .port port tag, data, mask, false, none⟩) hq hh hwb
    (.inl rfl) rfl (by simp [Req.writes, hv])
  have hdone := State.answerWrite_port (s := b) (r := ⟨.write, ga / 64, .port port tag, data, mask, false, none⟩) rfl
    (by rw [State.portMode_of_book hb.regs, hmode]; decide) false
  let t : State := { b with out := .hostDone port tag :: b.out }
  have hheld : t.vfind (ga / 64) = some (w, { v with data := merge v.data data mask, dirty := true }) :=
    hb.held.trans (by simp [VLine.write, hh.2.1])
  have hwrite : s.hostWriteLocal port tag (ga / 64) data mask false Flips.none = t := by
    rw [State.hostWriteLocal_of_idle _ _ _ _ _ hewa heab hreads, heq, hdone]
  have hexec : execCxlMemWrite port tag hpa data mask false Flips.none s =
      .next (if t = s then s else t.tPort port 0x02 1) := by
    simp only [execCxlMemWrite, hmode, hflush, hphase, Nat.not_le.mpr hroom, hopen, hdec, hga, hq.1, hwrite, ne_eq,
      not_true_eq_false, Bool.true_eq_false, Bool.false_eq_true, or_self, if_false, if_true]
  by_cases hs : t = s
  · refine answers_of_exists ⟨t, ?_, hheld, rfl⟩
    rw [exec_cxlMemWrite, hexec, if_pos hs, hs]
  · refine answers_of_exists ⟨t.tPort port 0x02 1, ?_, hheld, rfl⟩
    rw [exec_cxlMemWrite, hexec, if_neg hs]

/-! Delivery from a port's early-acknowledgement buffer (R229). -/

/-- Where no wing holds a copy, nothing is collected: the vitrine and the state outside the caches stay. -/
theorem State.collect_of_no_copies {s : State} (h : s.coh.wl = []) (gl : Nat) :
    ∃ c : Coh, c.vit = s.coh.vit ∧ c.brkClean = s.coh.brkClean ∧ s.collect gl = some { s with coh := c } := by
  have hdrop (l : List Nat) : ∀ a : State, ∃ c : Coh, c.vit = a.coh.vit ∧ c.brkClean = a.coh.brkClean ∧
      l.foldl (fun a w => a.wdrop w gl) a = { a with coh := c } := by
    induction l with
    | nil => exact fun a => ⟨a.coh, rfl, rfl, rfl⟩
    | cons w l ih =>
      intro a
      obtain ⟨c, hv, hb, hc⟩ := ih (a.wdrop w gl)
      exact ⟨c, hv, hb, hc⟩
  have hnone : ((List.range 8).findSome? fun w =>
      (s.wfind w gl).bind fun l => if l.st = .modified then some (w, l) else none) = none := by
    simp [State.wfind, h]
  obtain ⟨c, hv, hb, hc⟩ := hdrop (List.range 8) s
  refine ⟨c, hv, hb, ?_⟩
  simp only [State.collect, hnone]
  exact congrArg some hc

theorem State.breached_of_coh {s : State} {c : Coh} (h : c.brkClean = s.coh.brkClean) (gl : Nat) :
    ({ s with coh := c } : State).breached gl = s.breached gl := by
  unfold State.breached
  simp only [h]
  rfl

/-- A line that the vitrine holds and no wing is written in one step. -/
theorem State.writeHome_hit {s : State} {gl w : Nat} {v : VLine} (hn : s.NoInj) (hh : s.Hits gl w v)
    (hwb : (s.attrOf gl).wpol = .wb) (hwl : s.coh.wl = []) (d : Line) (mask : LineMask) (p : Bool) :
    ∃ b, b.ports = s.ports ∧ b.vfind gl = some (w, v.write d mask p) ∧ s.writeHome gl d mask p = some b := by
  obtain ⟨c, hvit, hbrk, hcollect⟩ := State.collect_of_no_copies hwl gl
  obtain ⟨hv, hp, hlent, hb⟩ := hh
  let a := ({ s with coh := c } : State).filterDel gl
  have hva : a.vfind gl = some (w, v) := by rw [← hv, State.vfind, State.vfind, ← hvit]; rfl
  have hba : a.breached gl = false := (State.breached_of_coh (s := s) (c := a.coh) hbrk gl).trans hb
  have hat : a.attrOf gl = s.attrOf gl := congrArg Region.attr (State.regionOf_of_regions rfl rfl gl)
  obtain ⟨b, hstored, hstore⟩ := State.homeWrite_hit (s := a) ⟨hva, hp, hlent, hba⟩ (hat ▸ hwb) d mask p (a.belowNow gl) false
  refine ⟨b, hstored.only .ports (by simp), hstored.held, ?_⟩
  rw [State.writeHome, hcollect, Option.bind_some, State.checkWrite_noInj (show a.NoInj from hn)]
  exact hstore

theorem exec_earlyAckDeliver (port : Fin 4) (fl : Flips) (s : State) :
    exec (.earlyAckDeliver port fl) s = execEarlyAckDeliver port fl s := rfl

/-- The oldest entry of the buffer is written at its home, and leaves the buffer. -/
theorem earlyAckDeliver_answers {port : Fin 4} {e : EabEntry} {r : List EabEntry} {w : Nat} {v : VLine} {s : State}
    (heab : (s.port port).eab = e :: r) (hfree : s.lineFree (lineOf e.ga) = true) (hn : s.NoInj)
    (hh : s.Hits (lineOf e.ga) w v) (hwb : (s.attrOf (lineOf e.ga)).wpol = .wb) (hwl : s.coh.wl = [])
    (hv : (s.setPort port { s.port port with eab := r }).verdict (lineOf e.ga) e.mask (.eab port) false = .accept) :
    Answers (.earlyAckDeliver port Flips.none) s fun t => (t.port port).eab = r ∧ t.vfind (lineOf e.ga) = some (w,
      { v with data := merge v.data e.data e.mask, dirty := true, poison := e.poison }) := by
  let a := s.setPort port { s.port port with eab := r }
  have hna : a.NoInj := hn
  have hat : a.attrOf (lineOf e.ga) = s.attrOf (lineOf e.ga) := congrArg Region.attr (State.regionOf_of_regions rfl rfl _)
  obtain ⟨b, hports, hheld, hwrite⟩ := State.writeHome_hit (s := a) hna (show a.Hits (lineOf e.ga) w v from hh) (hat ▸ hwb) hwl
    e.data e.mask e.poison
  have hcheck : (s.setPort port { s.port port with eab := r }).checkStruct 2 port (lineOf e.ga) e.data Flips.none =
      (some e.data, s.setPort port { s.port port with eab := r }) := State.checkStruct_noInj hna ..
  refine answers_of_exists ⟨b, ?_, ?_, ?_⟩
  · rw [exec_earlyAckDeliver, execEarlyAckDeliver]
    simp only [heab, hfree, Bool.true_eq_false, if_false, hv, hcheck, Option.getD_some,
      Option.isNone_some, Bool.or_false]
    exact congrArg (fun o : Option State => Host.Outcome.next (o.getD s)) hwrite
  · have hp : b.port port = a.port port := by rw [State.port, State.port, hports]
    exact congrArg Port.eab (hp.trans (State.port_setPort_same ..))
  · exact hheld.trans (by rw [VLine.write_clean hh.2.1])

end Sys2Proof.Machine
end

section
/-! SUPPORT. Requests that leave a copy in a wing: loads, fetches and ownership for a store (R68, R179, R180, R201, R202). -/

namespace Sys2Proof.Machine

/-! A wing's copy of a line, while another line leaves the wing (R179, R180, R200). -/

/-- A wing's copy of a line, the line's charge, the filter and the contexts are the same. -/
structure State.KeepsCopy (s : State) (w gl : Nat) (t : State) : Prop where
  copy : t.wfind w gl = s.wfind w gl
  charged : t.charged gl = s.charged gl
  filter : t.coh.filter = s.coh.filter
  cur : t.cur = s.cur

theorem State.KeepsCopy.refl (s : State) (w gl : Nat) : s.KeepsCopy w gl s := ⟨rfl, rfl, rfl, rfl⟩

theorem State.KeepsCopy.trans {s t u : State} {w gl : Nat} (h : s.KeepsCopy w gl t) (g : t.KeepsCopy w gl u) :
    s.KeepsCopy w gl u where
  copy := g.copy.trans h.copy
  charged := g.charged.trans h.charged
  filter := g.filter.trans h.filter
  cur := g.cur.trans h.cur

theorem State.keepsCopy_wdrop (s : State) {w gl v : Nat} (hv : v ≠ gl) : s.KeepsCopy w gl (s.wdrop w v) where
  copy := SMap.find_del_ne _ (by simp only [wlKey]; omega)
  charged := rfl
  filter := rfl
  cur := rfl

theorem State.charged_release (s : State) {gl v : Nat} (hv : v ≠ gl) : (s.release v).charged gl = s.charged gl := by
  unfold State.release
  split
  · rw [State.charged, State.charged, State.govern_coh, SMap.has_eq_find, SMap.has_eq_find, SMap.find_del_ne _ hv]
  · rfl

theorem State.keepsCopy_releaseClean (s : State) (w : Nat) {gl v : Nat} (hv : v ≠ gl) :
    s.KeepsCopy w gl (s.releaseClean v) where
  copy := (s.near_releaseClean v).wfind w gl
  charged := by
    unfold State.releaseClean
    split
    · rfl
    · exact s.charged_release hv
  filter := (s.near_releaseClean v).filter
  cur := (s.near_releaseClean v).cur

theorem State.keepsCopy_wlose (s : State) {w gl v : Nat} (l : WLine) (hv : v ≠ gl) : s.KeepsCopy w gl (s.wlose w v l) := by
  unfold State.wlose
  split
  · exact s.keepsCopy_wdrop hv
  · exact (s.keepsCopy_wdrop hv).trans (State.keepsCopy_releaseClean _ w hv)

theorem State.keepsCopy_wbPush (s : State) (w gl x v : Nat) (l : WLine) : s.KeepsCopy w gl (s.wbPush x v l) := by
  unfold State.wbPush
  split
  · exact ⟨rfl, rfl, rfl, rfl⟩
  · unfold State.vmod
    split
    · exact ⟨rfl, rfl, rfl, rfl⟩
    · exact .refl s w gl

/-- Another line's way out of the wing leaves the copy. -/
theorem State.keepsCopy_wevict {s : State} {w gl v : Nat} (hn : s.NoInj) (hv : v ≠ gl) :
    s.KeepsCopy w gl (s.wevict w v) := by
  unfold State.wevict
  split
  · exact .refl s w gl
  · split
    · simp only [State.wtake, State.checkWing_noInj hn, Option.getD_some]
      exact (s.keepsCopy_wbPush w gl w v _).trans (State.keepsCopy_wdrop _ hv)
    · exact s.keepsCopy_wlose _ hv

/-- The line that leaves a full L2 set is another than the one that enters it. -/
theorem ne_of_getElem?_touched {gl v n : Nat} {l : List Nat} (h : (gl :: l.filter (fun x => x ≠ gl))[n + 1]? = some v) :
    v ≠ gl := by
  rw [List.getElem?_cons_succ] at h
  simpa using (List.mem_filter.mp (List.mem_of_getElem? h)).2

theorem State.keepsCopy_l2Touch {s : State} (hn : s.NoInj) (w gl : Nat) : s.KeepsCopy w gl (s.l2Touch w gl) := by
  unfold State.l2Touch
  extract_lets k l c s1
  have h1 : s.KeepsCopy w gl s1 := ⟨rfl, rfl, rfl, rfl⟩
  split
  · next v hv => exact h1.trans (State.keepsCopy_wevict (show s1.NoInj from hn) (ne_of_getElem?_touched hv))
  · exact h1

/-! A line that fills a wing's L2 and a core's L1 data cache. -/

/-- A wing has taken a copy of a line; the line's charge, the filter and the contexts are the same. -/
structure State.Filled (s : State) (w gl : Nat) (l : WLine) (t : State) : Prop where
  copy : t.wfind w gl = some l
  charged : t.charged gl = s.charged gl
  filter : t.coh.filter = s.coh.filter
  cur : t.cur = s.cur

theorem State.filled_wfill2 {s : State} (hn : s.NoInj) (c gl : Nat) (l : WLine) :
    s.Filled (wingOf c) gl l (s.wfill2 c gl l) := by
  have h := State.keepsCopy_l2Touch (s := s.wset (wingOf c) gl l) hn (wingOf c) gl
  exact ⟨h.copy.trans (SMap.find_ins_same ..), h.charged, h.filter, h.cur⟩

theorem State.filled_wfill {s : State} (hn : s.NoInj) (c gl : Nat) (l : WLine) :
    s.Filled (wingOf c) gl l (s.wfill c gl l) := by
  have h := State.filled_wfill2 hn c gl l
  exact ⟨h.copy, h.charged, h.filter, h.cur⟩

theorem State.filterHas_filterAdd (s : State) (gl : Nat) : (s.filterAdd gl).filterHas gl = true := by
  unfold State.filterAdd
  split
  · assumption
  · simp [State.filterHas]

/-- What marking a line in the filter leaves. -/
theorem State.filterAdd_eq (s : State) (gl : Nat) : ∃ f, s.filterAdd gl = { s with coh := { s.coh with filter := f } } := by
  unfold State.filterAdd
  split
  · exact ⟨s.coh.filter, rfl⟩
  · exact ⟨_, rfl⟩

/-- A reader's wing takes a copy of the line's bytes, and the filter marks the line (R202). -/
theorem State.readCopy_copies {s : State} (hn : s.NoInj) (c gl : Nat) (d : Line) (fetch : Bool) :
    ∃ (t : State) (st : WSt), s.readCopy c gl d fetch = t ∧ t.wfind (wingOf c) gl = some ⟨st, d, false⟩ ∧
      t.filterHas gl = true ∧ t.cur = s.cur := by
  unfold State.readCopy
  extract_lets others st s2
  let a := if st = .owned then s.charge gl else s
  have ha : s.Near a := by
    simp only [a]
    split
    · exact s.near_charge gl
    · exact .refl s
  obtain ⟨f, hf⟩ := a.filterAdd_eq gl
  have hn2 : s2.NoInj := by
    change (a.filterAdd gl).NoInj
    rw [hf]
    exact ha.noInj hn
  have hcur : s2.cur = s.cur := by
    change (a.filterAdd gl).cur = s.cur
    rw [hf]
    exact ha.cur
  have hhas : s2.filterHas gl = true := a.filterHas_filterAdd gl
  have hfilled (t : State) (h : s2.Filled (wingOf c) gl ⟨st, d, false⟩ t) :
      t.wfind (wingOf c) gl = some ⟨st, d, false⟩ ∧ t.filterHas gl = true ∧ t.cur = s.cur :=
    ⟨h.copy, by rwa [State.filterHas, h.filter], h.cur.trans hcur⟩
  split
  · exact ⟨_, st, rfl, hfilled _ (State.filled_wfill2 hn2 c gl _)⟩
  · exact ⟨_, st, rfl, hfilled _ (State.filled_wfill hn2 c gl _)⟩

/-- A load's read ends with the copy and the bytes for its units. -/
theorem State.endRead_load {s : State} (hn : s.NoInj) {c gl : Nat} (huc : (s.attrOf gl).wpol ≠ .uc) (d : Line) :
    ∃ (t : State) (st : WSt), s.endRead (Txn.start (Req.plain .read gl (.load c)) false false) d false =
        t.giveUnits c gl d false ∧ t.wfind (wingOf c) gl = some ⟨st, d, false⟩ ∧ t.filterHas gl = true ∧ t.cur = s.cur := by
  have hb := s.near_delTxn gl
  obtain ⟨t, st, ht, hcopy, hhas, hcur⟩ := State.readCopy_copies (hb.noInj hn) c gl d false
  refine ⟨t, st, ?_, hcopy, hhas, hcur.trans hb.cur⟩
  simp only [State.endRead, Txn.start, Req.plain, huc, or_false, Bool.false_eq_true, if_false, ht]
  rfl

/-- Fetched bytes stay in the L1 instruction cache where the wing's L2 holds the line. -/
theorem State.answerData_fetch {s : State} {r : Req} {c : Nat} {l : WLine} (hr : r.src = .fetch c)
    (hcopy : s.wfind (wingOf c) r.gl = some l) (d : Line) : s.answerData r d false = s.l1iFill (coreOf c) r.gl d := by
  simp [State.answerData, hr, hcopy]

/-- A fetch ends with the copy and the bytes in its core's L1 instruction cache. -/
theorem State.endRead_fetch {s : State} (hn : s.NoInj) {c gl : Nat} (huc : (s.attrOf gl).wpol ≠ .uc) (d : Line) :
    ∃ (t : State) (st : WSt), s.endRead (Txn.start (Req.plain .read gl (.fetch c)) false false) d false =
        t.l1iFill (coreOf c) gl d ∧ t.wfind (wingOf c) gl = some ⟨st, d, false⟩ ∧ t.filterHas gl = true := by
  obtain ⟨t, st, ht, hcopy, hhas, -⟩ := State.readCopy_copies ((s.near_delTxn gl).noInj hn) c gl d true
  refine ⟨t, st, ?_, hcopy, hhas⟩
  simp only [State.endRead, Txn.start, Req.plain, huc, or_false, Bool.false_eq_true, if_false, ht]
  exact State.answerData_fetch (r := Req.plain .read gl (.fetch c)) rfl hcopy d

/-- A store's OWN ends with its wing's MODIFIED copy of the line, which is charged and marked (R68, R201). -/
theorem State.endOwn_store {s : State} (hn : s.NoInj) {t : Txn} {c gl : Nat} (hgl : t.req.gl = gl)
    (hsrc : t.req.src = .store c) (d : Line) :
    ∃ u : State, s.endOwn t d false = u ∧ u.wfind (wingOf c) gl = some ⟨.modified, d, false⟩ ∧ u.charged gl = true ∧
      u.filterHas gl = true ∧ u.cur = s.cur := by
  have hb : s.Near ((s.delTxn gl).charge gl) := (s.near_delTxn gl).trans (State.near_charge _ _)
  obtain ⟨f, hf⟩ := ((s.delTxn gl).charge gl).filterAdd_eq gl
  have hmark := ((s.delTxn gl).charge gl).filterHas_filterAdd gl
  have hn2 : (((s.delTxn gl).charge gl).filterAdd gl).NoInj := by
    rw [hf]
    exact hb.noInj hn
  have hfill := State.filled_wfill hn2 c gl ⟨.modified, d, false⟩
  refine ⟨_, by simp only [State.endOwn, hgl, hsrc], hfill.copy, ?_, ?_, ?_⟩
  · refine hfill.charged.trans ?_
    rw [hf]
    exact State.charged_charge ..
  · rwa [State.filterHas, ← hfill.filter] at hmark
  · refine hfill.cur.trans ?_
    rw [hf]
    exact hb.cur

/-! Reads (R202, R224). -/

theorem exec_read (c : Fin 256) (ga : BitVec 50) (fetch : Bool) (fl : Flips) (s : State) :
    exec (.read c ga fetch fl) s = execRead c ga fetch fl s := rfl

/-- A read whose line takes a copy and an entry ends at a quiet line with its bytes. -/
theorem State.arriveReq_read {s : State} {gl w : Nat} {v : VLine} {src : Src} (hq : s.Quiet gl) (hh : s.Hits gl w v)
    (hf : src.isFabric = false) (hvic : s.filterVictim gl = none) :
    ∃ a, s.Near a ∧ s.arriveReq (Req.plain .read gl src) Flips.none =
      a.endRead (Txn.start (Req.plain .read gl src) false false) v.data false := by
  have hn := s.near_started (Req.plain .read gl src)
  obtain ⟨a, ha, heff⟩ := State.ownEffect_read_hit (t := Txn.start (Req.plain .read gl src) false false)
    (hn.noInj (State.noInj_of_quiet hq)) (hn.hits hh) (.inl rfl)
  refine ⟨a, hn.trans ha, ?_⟩
  rw [State.arriveReq_accept hq (by simp [Req.plain]) (by simp [Req.plain, Req.writes])
    (State.displaced_of_filterVictim hvic hf) hf, heff]

/-- The bytes reach the one unit of the load that waits for them. -/
theorem State.giveUnits_of_load {s : State} {c gl : Nat} {l : LdEnt} {u : LdUnit} (h : (s.ctx c).hold = Hold.load l)
    (hunits : l.units = [u]) (hgl : u.gl = gl) (hgot : u.got = none) (d : Line) (p : Bool) :
    ∃ x : Ctx, x.hold = .load { l with units := [{ u with got := some (d, p) }] } ∧
      s.giveUnits c gl d p = s.setCtx c x := by
  simp only [State.giveUnits, h, hunits, List.map_cons, List.map_nil, hgl, hgot, Option.isNone_none, and_self, if_true]
  exact ⟨_, rfl, rfl⟩

theorem read_answers {c : Fin 256} {ga : BitVec 50} {w : Nat} {v : VLine} {l : LdEnt} {u : LdUnit} {s : State}
    (hload : (s.ctx c).hold = Hold.load l) (hatom : l.atom = none) (hunits : l.units = [u]) (hgl : u.gl = ga.toNat / 64)
    (hgot : u.got = none) (hq : s.Quiet (ga.toNat / 64)) (hask : s.asking (ga.toNat / 64) (.load c) = false)
    (hh : s.Hits (ga.toNat / 64) w v) (huc : (s.attrOf (ga.toNat / 64)).wpol ≠ .uc)
    (hvic : s.filterVictim (ga.toNat / 64) = none) :
    Answers (.read c ga false Flips.none) s fun t =>
      (t.ctx c).hold = .load { l with units := [{ u with got := some (v.data, false) }] } ∧
        (t.wfind (wingOf c) (ga.toNat / 64)).map WLine.data = some v.data ∧ t.filterHas (ga.toNat / 64) = true := by
  obtain ⟨a, ha, hacc⟩ := State.arriveReq_read (src := .load c) hq hh rfl hvic
  obtain ⟨k, st, hend, hcopy, hhas, hcur⟩ := State.endRead_load (ha.noInj (State.noInj_of_quiet hq)) (c := c)
    (gl := ga.toNat / 64) (by rwa [ha.attrOf]) v.data
  have hk : (k.ctx c).hold = .load l := by
    rw [State.ctx, hcur.trans ha.cur]
    exact hload
  obtain ⟨x, hx, hgive⟩ := State.giveUnits_of_load hk hunits hgl hgot v.data false
  have hwant : s.wantsLine c (ga.toNat / 64) = true := by
    simp [State.wantsLine, hload, hatom, hunits, hgot, hgl, hask]
  refine answers_of_exists ⟨k.setCtx c x, ?_, (congrArg Ctx.hold (State.setCtx_same k c x)).trans hx,
    congrArg (Option.map WLine.data) hcopy, hhas⟩
  rw [exec_read, execRead]
  simp only [hwant, hask, Bool.false_or, Bool.false_eq_true, Bool.true_eq_false, or_self, if_false, hq.1, if_true]
  rw [hacc, hend, hgive]

/-! Fetches (R179, R180, R194). -/

theorem State.l1iFind_l1iFill (s : State) (core gl : Nat) (d : Line) : (s.l1iFill core gl d).l1iFind core gl = some d := by
  simp [State.l1iFind, State.l1iFill]

/-- A fetch is served by its core's L1 instruction cache. -/
theorem fetch_l1i_answers {c : Fin 256} {ga : BitVec 50} {d : Line} {s : State} (fl : Flips)
    (hask : s.asking (ga.toNat / 64) (.fetch c) = false) (hfind : s.l1iFind (coreOf c) (ga.toNat / 64) = some d) :
    Answers (.read c ga true fl) s fun t => t.l1iFind (coreOf c) (ga.toNat / 64) = some d ∧ t.coh.wl = s.coh.wl ∧
      s.Only [.coh] t := by
  refine answers_of_exec (t := s.l1iFill (coreOf c) (ga.toNat / 64) d) ?_ rfl
    ⟨s.l1iFind_l1iFill _ _ d, rfl, s.only_coh _⟩
  rw [exec_read, execRead]
  simp only [hask, State.fetchHit, hfind, Bool.true_or, Bool.true_eq_false, Bool.false_eq_true, or_self, if_false, if_true]

/-- A fetch is served by its wing's copy. -/
theorem fetch_wing_answers {c : Fin 256} {ga : BitVec 50} {l : WLine} {s : State} (hn : s.NoInj)
    (hask : s.asking (ga.toNat / 64) (.fetch c) = false) (hmiss : s.l1iFind (coreOf c) (ga.toNat / 64) = none)
    (hcopy : s.wfind (wingOf c) (ga.toNat / 64) = some l) (hp : l.poison = false)
    (hb : s.breached (ga.toNat / 64) = false) :
    Answers (.read c ga true Flips.none) s fun t => t.l1iFind (coreOf c) (ga.toNat / 64) = some l.data := by
  have hkept := (State.keepsCopy_l2Touch hn (wingOf c) (ga.toNat / 64)).copy.trans hcopy
  have hans := State.answerData_fetch (r := Req.plain .read (ga.toNat / 64) (.fetch c)) rfl hkept l.data
  let t := (s.l2Touch (wingOf c) (ga.toNat / 64)).l1iFill (coreOf c) (ga.toNat / 64) l.data
  refine answers_of_exists ⟨t, ?_, State.l1iFind_l1iFill _ _ _ _⟩
  rw [exec_read, execRead]
  simp only [hask, State.fetchHit, hmiss, hcopy, State.checkWing_noInj hn, State.shown, hb, hp, Bool.true_or,
    Bool.true_eq_false, Bool.false_eq_true, or_self, if_false, if_true]
  exact congrArg _ hans

/-- A fetch that no cache of its wing serves is answered by the home, and leaves a copy in both. -/
theorem fetch_home_answers {c : Fin 256} {ga : BitVec 50} {w : Nat} {v : VLine} {s : State}
    (hq : s.Quiet (ga.toNat / 64)) (hask : s.asking (ga.toNat / 64) (.fetch c) = false) (hh : s.Hits (ga.toNat / 64) w v)
    (huc : (s.attrOf (ga.toNat / 64)).wpol ≠ .uc) (hvic : s.filterVictim (ga.toNat / 64) = none)
    (hmiss : s.l1iFind (coreOf c) (ga.toNat / 64) = none) (hnone : s.wfind (wingOf c) (ga.toNat / 64) = none) :
    Answers (.read c ga true Flips.none) s fun t => t.l1iFind (coreOf c) (ga.toNat / 64) = some v.data ∧
      (t.wfind (wingOf c) (ga.toNat / 64)).map WLine.data = some v.data ∧ t.filterHas (ga.toNat / 64) = true := by
  let s0 := s.tWing (wingOf c) 0x03 1
  have h0 : s.Near s0 := s.near_tally ..
  have hq0 : s0.Quiet (ga.toNat / 64) := hq
  obtain ⟨a, ha, hacc⟩ := State.arriveReq_read (src := .fetch c) hq0 (h0.hits hh) rfl hvic
  obtain ⟨k, st, hend, hcopy, hhas⟩ := State.endRead_fetch ((h0.trans ha).noInj (State.noInj_of_quiet hq)) (c := c)
    (gl := ga.toNat / 64) (by rwa [(h0.trans ha).attrOf]) v.data
  refine answers_of_exists ⟨k.l1iFill (coreOf c) (ga.toNat / 64) v.data, ?_, k.l1iFind_l1iFill _ _ _,
    congrArg (Option.map WLine.data) hcopy, hhas⟩
  rw [exec_read, execRead]
  simp only [hask, State.fetchHit, hmiss, hnone, Bool.true_or, Bool.true_eq_false, Bool.false_eq_true, or_self, if_false,
    if_true]
  rw [if_pos ((h0.isLocal _).trans hq.1)]
  exact congrArg _ (hacc.trans hend)

/-! Ownership for a store (R68, R201). -/

theorem exec_own (c : Fin 256) (fl : Flips) (s : State) : exec (.own c fl) s = execOwn c fl s := rfl

/-- An OWN that is accepted at a quiet line ends with its bytes. -/
theorem State.arriveReq_own {s : State} {r : Req} {w : Nat} {v : VLine} (hq : s.Quiet r.gl) (hh : s.Hits r.gl w v)
    (hk : r.kind = .own) (hf : r.src.isFabric = false) (hv : s.verdict r.gl r.mask r.src false = .accept)
    (hvic : s.filterVictim r.gl = none) :
    ∃ a, s.Near a ∧ s.arriveReq r Flips.none = a.endOwn (Txn.start r false false) v.data false := by
  have hn := s.near_started r
  obtain ⟨a, ha, heff⟩ := State.ownEffect_own_hit (t := Txn.start r false false)
    (hn.noInj (State.noInj_of_quiet hq)) (hn.hits hh) hk
  refine ⟨a, hn.trans ha, ?_⟩
  have hw : ∀ m x, r.writes = some (m, x) → s.verdict r.gl m r.src x = .accept := by
    intro m x hmx
    simp only [Req.writes, hk] at hmx
    split at hmx
    · cases hmx
    · cases hmx
      exact hv
  rw [State.arriveReq_accept hq (by simp [hk]) hw (State.displaced_of_filterVictim hvic hf) hf, heff]

/-- The wing of the oldest store takes the line MODIFIED; the line is charged and marked, and the store waits for it. -/
theorem own_answers {c : Fin 256} {e : SbEnt} {r : List SbEnt} {w : Nat} {v : VLine} {s : State}
    (hsb : (s.ctx c).sb = e :: r) (hz : e.zline = false) (hq : s.Quiet e.gl) (hask : s.asking e.gl (.store c) = false)
    (hh : s.Hits e.gl w v) (hwb : (s.attrOf e.gl).wpol = .wb) (hv : s.verdict e.gl e.mask (.store c) false = .accept)
    (hvic : s.filterVictim e.gl = none) :
    Answers (.own c Flips.none) s fun t => t.wfind (wingOf c) e.gl = some ⟨.modified, v.data, false⟩ ∧
      t.charged e.gl = true ∧ t.filterHas e.gl = true ∧ (t.ctx c).sb = e :: r := by
  obtain ⟨a, ha, hacc⟩ := State.arriveReq_own (r := ⟨.own, e.gl, .store c, e.data, e.mask, false, none⟩) hq hh rfl rfl hv hvic
  obtain ⟨t, hend, hcopy, hcharged, hhas, hcur⟩ := State.endOwn_store (ha.noInj (State.noInj_of_quiet hq)) (c := c)
    (t := Txn.start ⟨.own, e.gl, .store c, e.data, e.mask, false, none⟩ false false) rfl rfl v.data
  refine answers_of_exists ⟨t, ?_, hcopy, hcharged, hhas, ?_⟩
  · rw [exec_own, execOwn]
    simp only [hsb, hq.1, hwb, hz, hask, ne_eq, not_true_eq_false, Bool.true_eq_false, Bool.false_eq_true, or_self, if_false]
    exact congrArg _ (hacc.trans hend)
  · refine (congrArg Ctx.sb ?_).trans hsb
    exact congrArg (fun x : Cur => SMap.get Ctx.init x.ctxs c) (hcur.trans ha.cur)

/-- Settles O11, clause by clause: the requests that a line held by the vitrine answers at once, the requests that no line
answers, the decoders and the poison list. -/
theorem hostMemoryAccess : Obligations.HostMemoryAccess := by
  refine ⟨?peek, ?readLoad, ?fetchL1, ?fetchWing, ?fetchHome, ?own, ?write, ?writeHeld, ?zero, ?zeroPort, ?atomic, ?memRead,
    ?memReadStarting, ?memReadMiss, ?memWrite, ?memWriteMiss, ?deliver, ?commitDefault, ?commit, ?commitBad, ?uncommit, ?locked,
    ?poisonBad, ?poisonEmpty⟩
  case peek => exact fun _ _ _ _ _ _ => peek_answers
  case readLoad => exact fun _ _ _ _ _ _ _ => read_answers
  case fetchL1 => exact fun _ _ _ fl _ => fetch_l1i_answers fl
  case fetchWing => exact fun _ _ _ _ => fetch_wing_answers
  case fetchHome => exact fun _ _ _ _ _ => fetch_home_answers
  case own => exact fun _ _ _ _ _ _ => own_answers
  case write => exact fun _ _ _ _ _ _ _ _ => write_answers
  case writeHeld => exact fun _ _ _ _ _ _ _ _ hm hopen hq hask hh _ hv => write_holds hm hopen hq hask hh hv
  case zero => exact fun _ _ _ _ _ _ _ hm _ => zero_answers hm
  case zeroPort => exact fun _ _ _ _ => zero_of_port
  case atomic => exact fun _ _ _ _ _ _ _ _ _ _ _ hm _ => atomic_answers hm
  case memRead => exact fun _ _ _ _ _ => cxlMemRead_waits
  case memReadStarting => exact fun _ tag hpa _ => cxlMemRead_starting tag hpa
  case memReadMiss => exact fun _ tag _ _ => cxlMemRead_miss tag
  case memWrite => exact fun _ _ _ _ _ _ _ _ _ => cxlMemWrite_answers
  case memWriteMiss => exact fun _ tag _ data mask poison fl _ => cxlMemWrite_miss tag data mask poison fl
  case deliver => exact fun _ _ _ _ _ _ heab hfree _ hn hh hwb hwl _ hv => earlyAckDeliver_answers heab hfree hn hh hwb hwl hv
  case commitDefault =>
    intro port n hpa size lock s hfree hsize hbit hseat
    have hways : size / 2 ^ Nat.log2 1 = size := by rw [show Nat.log2 1 = 0 by decide, pow_zero, Nat.div_one]
    exact hdmCommit_accepts hpa lock (.inl hfree) (by simp) (by simp) hsize hbit (by rwa [hways])
  case commit => exact fun _ _ hpa _ _ _ lock _ => hdmCommit_accepts hpa lock
  case commitBad => exact fun _ _ hpa _ _ _ lock _ => hdmCommit_rejects hpa lock
  case uncommit => exact fun _ _ hpa size ways gran lock _ => hdmCommit_uncommits hpa size ways gran lock
  case locked => exact fun _ _ hpa size ways gran lock commit _ => hdmCommit_locked hpa size ways gran lock commit
  case poisonBad => exact fun _ _ _ _ => getPoisonList_invalid
  case poisonEmpty => exact fun _ _ _ _ => getPoisonList_empty

end Sys2Proof.Machine
end

section
/-! SUPPORT. The energy watch of a flush (R81, R84): which flush watches, what PFAIL adds to one that runs, and what a check of
the reserve answers. -/

namespace Sys2Proof.Machine

/-! Flush checks. -/

theorem exec_flushEnergyCheck (s : State) : exec .flushEnergyCheck s = execFlushEnergyCheck s := rfl

/-- A watched flush whose energy is down to the reserve is due to abandon (R81). -/
theorem flushEnergyCheck_at_reserve {f : Flush} {s : State} (hphase : s.phase = stFlushing) (hf : s.gov.flush = some f)
    (hstep : f.step ≤ 9) (hwatch : f.watch = true) (habandoned : f.abandoned = false)
    (heu : s.euNow ≤ s.rd D.PWR_PGPARAM_ereserve * 1000) :
    exec .flushEnergyCheck s = .next (s.flushMod (fun g => { g with abandonDue := true })) := by
  simp [exec_flushEnergyCheck, execFlushEnergyCheck, hf, State.isFlushing, hphase, hstep, hwatch, habandoned, heu]

/-- A check finds nothing to do where the flush does not watch or its energy is above the reserve (R81, R84). -/
theorem flushEnergyCheck_above_reserve {f : Flush} {s : State} (hf : s.gov.flush = some f)
    (h : f.watch = false ∨ s.rd D.PWR_PGPARAM_ereserve * 1000 < s.euNow) : exec .flushEnergyCheck s = .next s := by
  rw [exec_flushEnergyCheck, execFlushEnergyCheck, hf]
  refine congrArg Host.Outcome.next (if_neg ?_)
  rintro ⟨-, hwatch, -, -, heu⟩
  rcases h with h | h
  · simp [h] at hwatch
  · omega

/-! Triggers (R77, R84). -/

/-- An OPEN device begins a flush, which watches energy unless a device reset began it. -/
theorem State.trigger_open {s : State} (h : s.isOpen = true) (cause : Nat) :
    ∃ f, (s.trigger cause).gov.flush = some f ∧ f.cause = cause ∧ f.watch = decide (cause ≠ 2) := by
  have hphase : s.phase = stOpen := of_decide_eq_true h
  have ht : s.trigger cause = s.flushBegin cause := by
    simp [State.trigger, hphase, stOpen, stFlushing, stResetting, stRomRecovery, stStarting]
  rw [ht]
  exact ⟨_, rfl, rfl, rfl⟩

/-- PFAIL met in a device reset flush sets its watch, and nothing else. -/
theorem State.trigger_resetFlush {f : Flush} {s : State} (hphase : s.phase = stFlushing) (hf : s.gov.flush = some f)
    (hcause : f.cause = 2) : s.trigger 1 = { s with gov := { s.gov with flush := some { f with watch := true } } } := by
  simp [State.trigger, hphase, hf, hcause]

theorem State.near_holdAon (s : State) (e : Ev) : s.Near (s.holdAon e) := by
  unfold State.holdAon
  split
  · exact (s.near_mk s.evq s.med _ s.tcnt rfl rfl rfl rfl).trans (State.near_wr _ _ _ _ (by decide))
  · exact State.near_wr _ _ _ _ (by decide)

theorem State.near_logAon (s : State) (code inst aux arg : Nat) (inj : Bool) : s.Near (s.logAon code inst aux arg inj) := by
  unfold State.logAon
  split
  · exact s.near_holdAon _
  · exact s.near_log ..

/-- What PFAIL records before it triggers: its cause and rail, and PWR_PFAIL (R467). -/
def State.pfailRecorded (s : State) (cause rail : Nat) : State :=
  ((((s.wr D.PWR_PFSTAT_pfail 1).wr D.PWR_PFSTAT_cause cause).wr D.PWR_PFSTAT_rail rail).wr D.GBL_STAT_pfail 1).logAon
    E.PWR_PFAIL 0 cause 0

/-- PFAIL is asserted where the sequencer is powering up, on or powering down, and it is not asserted yet. -/
theorem State.pfail_eq {s : State} (hpfail : s.bit D.PWR_PFSTAT_pfail = false)
    (hseq : s.seq = seqUp ∨ s.seq = seqOn ∨ s.seq = seqDown) (cause rail : Nat) :
    s.pfail cause rail = (s.pfailRecorded cause rail).trigger 1 := by
  have h : ¬ (s.bit D.PWR_PFSTAT_pfail = true ∨ (s.seq ≠ seqUp ∧ s.seq ≠ seqOn ∧ s.seq ≠ seqDown)) := by
    rw [hpfail]
    tauto
  exact if_neg h

theorem State.pfailRecorded_gov (s : State) (cause rail : Nat) : (s.pfailRecorded cause rail).gov = s.gov :=
  (State.near_logAon ..).only .gov (by decide)

theorem State.pfailRecorded_phase (s : State) (cause rail : Nat) : (s.pfailRecorded cause rail).phase = s.phase := by
  refine ((State.near_logAon ..).rd D.GBL_STAT_state 0 (by decide)).trans ?_
  iterate 4 rw [State.rd_wr_ne _ _ _ _ _ _ (by decide)]
  rfl

theorem State.pfailRecorded_pfail (s : State) (cause rail : Nat) :
    (s.pfailRecorded cause rail).bit D.PWR_PFSTAT_pfail = true := by
  have h : (s.pfailRecorded cause rail).rd D.PWR_PFSTAT_pfail = 1 := by
    refine ((State.near_logAon ..).rd D.PWR_PFSTAT_pfail 0 (by decide)).trans ?_
    iterate 3 rw [State.rd_wr_ne _ _ _ _ _ _ (by decide)]
    rw [State.rd_wr_same]
    rfl
  simp [State.bit, h]

/-- Settles O60: the watch is set by the trigger and by PFAIL, and decides what a check of the reserve answers. -/
theorem deviceResetFlushWatchesFromPfail : Obligations.DeviceResetFlushWatchesFromPfail := by
  refine ⟨fun s hopen => State.trigger_open hopen 2, fun f s _ hf _ hwatch => flushEnergyCheck_above_reserve hf (.inl hwatch),
    fun f cause rail s hphase hf hcause hpfail hseq => ?_,
    fun f s hphase hf _ hwatch hstep habandoned heu => flushEnergyCheck_at_reserve hphase hf hstep hwatch habandoned heu⟩
  have hgov := s.pfailRecorded_gov cause rail
  have ht := State.trigger_resetFlush ((s.pfailRecorded_phase cause rail).trans hphase) (hgov ▸ hf) hcause
  rw [State.pfail_eq hpfail hseq, ht]
  exact ⟨rfl, s.pfailRecorded_pfail cause rail⟩

end Sys2Proof.Machine
end

section
/-! SUPPORT. The governor: what a recomputation shows (R66, R70, R73, R75), the steps of a measurement (R61 to R65, R76), and the
breach list acknowledged (R95). -/

namespace Sys2Proof.Machine

/-! Frames, one update at a time. -/

section
variable {s t : State} {ps : List Comp}

theorem State.Only.refl (s : State) (ps : List Comp) : s.Only ps s := fun p _ => by cases p <;> rfl

theorem State.Only.wr (h : s.Only ps t) (f : FldDesc) (v i : Nat) (hp : Comp.regs ∈ ps := by decide) : s.Only ps (t.wr f v i) :=
  h.trans ((t.only_wr f v i).mono (by simpa using hp))

theorem State.Only.evq (h : s.Only ps t) (q : List Ev) (hp : Comp.evq ∈ ps := by decide) : s.Only ps { t with evq := q } :=
  h.trans ((t.only_evq q).mono (by simpa using hp))

theorem State.Only.med (h : s.Only ps t) (m : Media) (hp : Comp.med ∈ ps := by decide) : s.Only ps { t with med := m } := by
  intro p hn
  have ht := h p hn
  cases p
  case med => exact absurd hp hn
  all_goals exact ht
end

theorem State.only_gov (s : State) (g : Gov) : s.Only [.gov] { s with gov := g } := by
  intro p hp
  cases p
  case gov => simp at hp
  all_goals rfl

theorem State.only_gov_aon (s : State) (g : Gov) (a : Aon) : s.Only [.gov, .aon] { s with gov := g, aon := a } := by
  intro p hp
  cases p
  case gov | aon => simp at hp
  all_goals rfl

/-! The governor's mode. -/

theorem State.modeOf_lt (s : State) : s.modeOf < D.PWR_PGSTAT_mode.cap := by
  rw [show D.PWR_PGSTAT_mode.cap = 16 from rfl]
  unfold State.modeOf
  dsimp only
  (repeat' split) <;> decide

theorem State.log_bankNum (s : State) (code inst aux arg : Nat) : (s.log code inst aux arg).aon.bankNum = s.aon.bankNum := by
  simp only [State.log, State.holdAon, State.addSat]
  (repeat' split) <;> rfl

theorem State.govern_bankNum (s : State) : s.govern.aon.bankNum = s.aon.bankNum := by
  unfold State.govern
  dsimp only
  (repeat' split) <;> simp only [State.log_bankNum, State.wr_aon]

/-- Out of NORMAL the governor shows the mode of the charge and the budget; entering HOLD it logs, and it closes the builders. -/
theorem State.govern_of_normal {s : State} (hmode : s.rd D.PWR_PGSTAT_mode = 0) (hrom : s.phase ≠ stRomRecovery) :
    s.govern.rd D.PWR_PGSTAT_mode = s.modeOf ∧ s.RegsBut [D.PWR_PGSTAT_mode.key 0] s.govern ∧
      s.Only [.regs, .evq, .med] s.govern := by
  have hphase (n : Nat) : (s.wr D.PWR_PGSTAT_mode n).phase ≠ stRomRecovery := by
    rwa [State.phase, State.rd_wr_ne _ _ _ _ _ _ (by decide)]
  unfold State.govern
  extract_lets m n s1 s2
  have hm : m = 0 := hmode
  have h1 : s.Only [.regs, .evq, .med] s1 := (State.Only.refl s _).wr _ _ _
  have h2 : s2.regs = s1.regs ∧ s.Only [.regs, .evq, .med] s2 := by
    simp only [s2]
    split
    · rw [State.log, if_neg (hphase n)]
      exact ⟨rfl, h1.evq _⟩
    · exact ⟨rfl, h1⟩
  obtain ⟨hregs, honly⟩ := h2
  have hbut : s.RegsBut [D.PWR_PGSTAT_mode.key 0] s2 := fun k hk => by
    rw [hregs]
    exact s.regsBut_wr _ _ 0 k hk
  have hrd : s2.rd D.PWR_PGSTAT_mode = n :=
    (State.rd_of_regs hregs _ _).trans ((s.rd_wr_same _ _ 0).trans (Nat.mod_eq_of_lt s.modeOf_lt))
  rw [if_neg (by omega)]
  split
  · exact ⟨hrd, hbut, honly.med _⟩
  · exact ⟨hrd, hbut, honly⟩

/-! A recomputation. -/

/-- The state in which a recomputation that finds `eu` and `b` shows them and begins a new mean of the bank's voltage. -/
def State.recomputed (s : State) (eu b : Nat) (good : Option Nat) : State :=
  { (s.wr D.PWR_PGEU_eu eu).wr D.PWR_PGBUD_bytes b with
    aon := { s.aon with bankSum := 0, bankNum := 0 }, gov := { s.gov with goodSince := good } }

theorem State.recomputed_eu (s : State) (eu b : Nat) (good : Option Nat) :
    (s.recomputed eu b good).rd D.PWR_PGEU_eu = eu % D.PWR_PGEU_eu.cap :=
  (State.rd_wr_ne _ _ _ _ _ _ (by decide)).trans (s.rd_wr_same _ _ 0)

theorem State.recomputed_budget (s : State) (eu b : Nat) (good : Option Nat) :
    (s.recomputed eu b good).rd D.PWR_PGBUD_bytes = b % D.PWR_PGBUD_bytes.cap := State.rd_wr_same ..

theorem State.recomputed_mode (s : State) (eu b : Nat) (good : Option Nat) :
    (s.recomputed eu b good).rd D.PWR_PGSTAT_mode = s.rd D.PWR_PGSTAT_mode :=
  (State.rd_wr_ne _ _ _ _ _ _ (by decide)).trans (State.rd_wr_ne _ _ _ _ _ _ (by decide))

theorem State.only_recomputed (s : State) (eu b : Nat) (good : Option Nat) :
    s.Only [.regs, .aon, .gov] (s.recomputed eu b good) := by
  intro p hp
  cases p
  case regs | aon | gov => simp at hp
  all_goals rfl

/-- The energy a recomputation finds (R66, R76). -/
def State.euFound (s : State) : Nat :=
  if s.hasMeasure = false then 0
  else if s.aon.euFloor then s.rd D.PWR_PGPARAM_ereserve * 1000
  else s.euOf (s.rd D.PWR_PGCAP_c) (s.rd D.PWR_PGCAP_esr) s.bankMean

/-- A recomputation shows what it finds, marks that nothing was ever measured, and sets the mode outside a flush. -/
theorem State.recompute_eq (s : State) : ∃ good, s.recompute =
    let a := s.recomputed s.euFound (if s.hasMeasure then s.budgetOf s.euFound else 0) good
    let c := if s.hasMeasure = false ∧ s.rd D.PWR_PGSTAT_meas = 0 then a.wr D.PWR_PGSTAT_meas 5 else a
    if c.rd D.PWR_PGSTAT_mode = 5 then c
    else if s.euFound < 25000 ∨ s.hasMeasure = false then c.wr D.PWR_PGSTAT_mode 4 else c.govern := ⟨_, rfl⟩

/-- Without a measurement there is nothing to show, and the mode is LOWENERGY (R76). -/
theorem governorRecompute_unmeasured {s : State} (hstored : s.gov.stored = none) (hmode : s.rd D.PWR_PGSTAT_mode ≠ 5) :
    Answers .governorRecompute s fun t => t.rd D.PWR_PGEU_eu = 0 ∧ t.rd D.PWR_PGBUD_bytes = 0 ∧
      t.rd D.PWR_PGSTAT_mode = 4 ∧ s.Only [.regs, .aon, .gov] t := by
  have hm : s.hasMeasure = false := by simp [State.hasMeasure, hstored]
  have heu : s.euFound = 0 := if_pos hm
  obtain ⟨good, h⟩ := s.recompute_eq
  simp only [hm, heu, Bool.false_eq_true, if_false, true_and, or_true, if_true] at h
  generalize ha : s.recomputed 0 0 good = a at h
  have haeu : a.rd D.PWR_PGEU_eu = 0 := ha ▸ s.recomputed_eu ..
  have habud : a.rd D.PWR_PGBUD_bytes = 0 := ha ▸ s.recomputed_budget ..
  have hamode : a.rd D.PWR_PGSTAT_mode ≠ 5 := ha ▸ (s.recomputed_mode ..).trans_ne hmode
  have haonly : s.Only [.regs, .aon, .gov] a := ha ▸ s.only_recomputed 0 0 good
  have hc (c : State) (hc : c = if s.rd D.PWR_PGSTAT_meas = 0 then a.wr D.PWR_PGSTAT_meas 5 else a) :
      c.rd D.PWR_PGEU_eu = 0 ∧ c.rd D.PWR_PGBUD_bytes = 0 ∧ c.rd D.PWR_PGSTAT_mode ≠ 5 ∧
        s.Only [.regs, .aon, .gov] c := by
    subst hc
    split
    · simp (disch := decide) only [State.rd_wr_ne]
      exact ⟨haeu, habud, hamode, haonly.wr _ _ _⟩
    · exact ⟨haeu, habud, hamode, haonly⟩
  obtain ⟨hceu, hcbud, hcmode, hconly⟩ := hc _ rfl
  rw [if_neg hcmode] at h
  refine answers_of_exec (congrArg Host.Outcome.next h) (hconly .tcnt (by decide))
    ⟨?_, ?_, State.rd_wr_same .., hconly.wr _ _ _⟩
  · exact (State.rd_wr_ne _ _ _ _ _ _ (by decide)).trans hceu
  · exact (State.rd_wr_ne _ _ _ _ _ _ (by decide)).trans hcbud

/-- With a measurement the energy and the budget are those of the formulas, and below 25 J the mode is LOWENERGY (R66, R70,
R73). -/
theorem governorRecompute_measured {s : State} {eu : Nat} (hstored : s.gov.stored.isSome = true) (hfloor : s.aon.euFloor = false)
    (heu : s.euOf (s.rd D.PWR_PGCAP_c) (s.rd D.PWR_PGCAP_esr) s.bankMean = eu) :
    Answers .governorRecompute s fun t => t.rd D.PWR_PGEU_eu = eu % D.PWR_PGEU_eu.cap ∧
      t.rd D.PWR_PGBUD_bytes = s.budgetOf eu % D.PWR_PGBUD_bytes.cap ∧ t.aon.bankNum = 0 ∧
      (s.rd D.PWR_PGSTAT_mode ≠ 5 → eu < 25000 → t.rd D.PWR_PGSTAT_mode = 4) := by
  have hm : s.hasMeasure = true := hstored
  have hfound : s.euFound = eu := by simp [State.euFound, hm, hfloor, heu]
  obtain ⟨good, h⟩ := s.recompute_eq
  simp only [hm, hfound, if_true, Bool.true_eq_false, false_and, if_false, or_false, State.recomputed_mode] at h
  have haeu := s.recomputed_eu eu (s.budgetOf eu) good
  have habud := s.recomputed_budget eu (s.budgetOf eu) good
  have hatcnt : (s.recomputed eu (s.budgetOf eu) good).tcnt = s.tcnt := rfl
  have hanum : (s.recomputed eu (s.budgetOf eu) good).aon.bankNum = 0 := rfl
  generalize s.recomputed eu (s.budgetOf eu) good = a at h haeu habud hatcnt hanum
  by_cases hmode : s.rd D.PWR_PGSTAT_mode = 5
  · rw [if_pos hmode] at h
    exact answers_of_exec (congrArg Host.Outcome.next h) hatcnt ⟨haeu, habud, hanum, fun hne => absurd hmode hne⟩
  rw [if_neg hmode] at h
  by_cases hlow : eu < 25000
  · rw [if_pos hlow] at h
    refine answers_of_exec (congrArg Host.Outcome.next h) hatcnt ⟨?_, ?_, hanum, fun _ _ => State.rd_wr_same ..⟩
    · exact (State.rd_wr_ne _ _ _ _ _ _ (by decide)).trans haeu
    · exact (State.rd_wr_ne _ _ _ _ _ _ (by decide)).trans habud
  · rw [if_neg hlow] at h
    have hn := a.near_govern
    exact answers_of_exists ⟨_, congrArg Host.Outcome.next h, (hn.rd _ 0 (by decide)).trans haeu,
      (hn.rd _ 0 (by decide)).trans habud, a.govern_bankNum.trans hanum, fun _ hlt => absurd hlt hlow⟩

/-- LOWENERGY ends into the mode of the charge and the budget (R75). -/
theorem lowenergyExit_governs {s : State} (hmode : s.rd D.PWR_PGSTAT_mode = 4) (hstored : s.gov.stored.isSome = true)
    (hgood : s.gov.goodSince.isSome = true) (hrom : s.phase ≠ stRomRecovery) :
    Answers .lowenergyExit s fun t => t.rd D.PWR_PGSTAT_mode = (s.wr D.PWR_PGSTAT_mode 0).modeOf ∧
      s.RegsBut [D.PWR_PGSTAT_mode.key 0] t ∧ s.Only [.regs, .evq, .med] t := by
  have hexec : exec .lowenergyExit s = .next (s.wr D.PWR_PGSTAT_mode 0).govern := by
    change execLowenergyExit s = _
    simp [execLowenergyExit, State.lowEnergy, State.hasMeasure, hmode, hstored, hgood]
  have hphase : (s.wr D.PWR_PGSTAT_mode 0).phase = s.phase := State.rd_wr_ne _ _ _ _ _ _ (by decide)
  obtain ⟨hrd, hbut, honly⟩ := State.govern_of_normal (State.rd_wr_same s D.PWR_PGSTAT_mode 0 0) (hphase.trans_ne hrom)
  refine answers_of_exec hexec (honly .tcnt (by decide)) ⟨hrd, fun k hk => ?_, ((State.Only.refl s _).wr _ _ _).trans honly⟩
  exact (hbut k hk).trans (s.regsBut_wr _ _ 0 k hk)

/-! A measurement begins (R61, R65, R76). -/

/-- The first step of a measurement, seen from a state that differs in registers alone. -/
theorem State.measureBegin_starts {s a : State} (h : s.Only [.regs] a) :
    a.measureBegin.gov.meas = some ⟨1, 0, 0, 0, 0, 0⟩ ∧ a.measureBegin.aon.hubChg = false ∧
      a.measureBegin.rd D.PWR_PGSTAT_meas = (if s.hasMeasure then 1 else 5) ∧ s.Only [.regs, .gov, .aon] a.measureBegin := by
  have hgov : a.gov = s.gov := h .gov (by decide)
  have hm : a.hasMeasure = s.hasMeasure := by rw [State.hasMeasure, State.hasMeasure, hgov]
  refine ⟨rfl, rfl, ?_, (h.mono (by decide)).trans fun p hp => ?_⟩
  · refine (a.rd_wr_same D.PWR_PGSTAT_meas (if a.hasMeasure then 1 else 5) 0).trans ?_
    rw [hm]
    split <;> rfl
  · cases p
    case regs | gov | aon => simp at hp
    all_goals rfl

theorem State.measureRequest_idle {s : State} (hmeas : s.gov.meas = none) (htries : s.gov.tries = 0)
    (hgoverns : s.governs = true) : s.measureRequest = s.measureBegin := by
  simp [State.measureRequest, State.measuring, hmeas, htries, hgoverns]

/-- A request during a measurement is ignored (R61). -/
theorem State.measureRequest_measuring {s : State} (hmeas : s.gov.meas.isSome = true) : s.measureRequest = s := by
  simp [State.measureRequest, State.measuring, hmeas]

/-- A command that asks for a measurement begins one where none is under way. -/
theorem answers_measureRequest {i : Instr} {s a : State} (hexec : exec i s = .next a.measureRequest) (h : s.Only [.regs] a)
    (hphase : a.phase = s.phase) (hmeas : s.gov.meas = none) (htries : s.gov.tries = 0) (hgoverns : s.governs = true) :
    Answers i s fun t => t.gov.meas = some ⟨1, 0, 0, 0, 0, 0⟩ ∧ t.aon.hubChg = false ∧
      t.rd D.PWR_PGSTAT_meas = (if s.hasMeasure then 1 else 5) ∧ s.Only [.regs, .gov, .aon] t := by
  have hgov : a.gov = s.gov := h .gov (by decide)
  have hboot : a.boot = s.boot := h .boot (by decide)
  have hgoverns' : a.governs = true := by
    rwa [State.governs, State.isOpen, hphase, hboot]
  have hidle := State.measureRequest_idle (hgov ▸ hmeas) (hgov ▸ htries) hgoverns'
  exact answers_of_exec (hexec.trans (congrArg _ hidle)) (h .tcnt (by decide)) (State.measureBegin_starts h)

/-! Writes of registers that start an action. -/

/-- A write that meets a register leaves its fields, counts a clamped value, and starts what the register starts. -/
theorem State.regWrite_of_reg {s a : State} {src off size v i lo n : Nat} {r : RegRow} {libOk clamped : Bool}
    (hit : regHit off size = .reg r i lo n) (hup : s.blockUp off = true) (hbase : r.off ≠ D.LDG_TCCFG_base.off)
    (hclr : r.off ≠ D.GBL_CTL_clampclr.off) (hw : r.fields.foldl (s.fieldWrite src i lo n v) (s, false) = (a, clamped))
    (hfix : a.dynFix r.off i = a) : s.regWrite src off size v libOk =
      s.act (if clamped then a.clampCount src off else a) src r i lo n v libOk := by
  simp [State.regWrite, hit, hup, hbase, hclr, hw, hfix]

/-- The row of PWR_PGCTL. -/
def pgctlRow : RegRow := ⟨"PWR_PGCTL", 0x10800, 0x0, 1, 32, [D.PWR_PGCTL_interval, D.PWR_PGCTL_measure]⟩

theorem regHit_pgctl : regHit 0x10800 4 = .reg pgctlRow 0 0 32 := by decide +kernel

/-- A write of PWR_PGCTL leaves the interval in its range. -/
theorem State.fieldsWritten_pgctl (s : State) (src v : Nat) :
    ∃ e c, pgctlRow.fields.foldl (s.fieldWrite src 0 0 32 v) (s, false) = (s.wr D.PWR_PGCTL_interval e, c) := ⟨_, _, rfl⟩

theorem State.clampCount_frame (s : State) (src off : Nat) :
    s.Only [.regs] (s.clampCount src off) ∧ (s.clampCount src off).phase = s.phase := by
  refine ⟨((State.Only.refl s _).wr _ _ _).trans (((State.only_wr _ _ _ _).wr _ _ _)), ?_⟩
  simp (disch := decide) only [State.clampCount, State.addSat, State.phase, State.rd_wr_ne]

/-- Bit 0 of a value written to PWR_PGCTL is what it gives the action. -/
theorem given_pgctl_measure {v : Nat} (hv : v % 2 = 1) : D.PWR_PGCTL_measure.given 0 32 v = 1 := by
  have h : D.PWR_PGCTL_measure.given 0 32 v = (0 % 2 ^ 0 + v % 2 ^ 32 * 2 ^ 0 + 0) / 2 ^ 0 % 2 ^ 1 := rfl
  omega

/-- A write of PWR_PGCTL whose bit 0 is set asks for a measurement, once the interval and the clamp count are written. -/
theorem State.regWrite_pgctl (s : State) (src : Nat) {v : Nat} (hv : v % 2 = 1) (libOk : Bool) :
    ∃ a, s.Only [.regs] a ∧ a.phase = s.phase ∧ s.regWrite src 0x10800 4 v libOk = a.measureRequest := by
  obtain ⟨e, c, hw⟩ := s.fieldsWritten_pgctl src v
  have hup : s.blockUp 0x10800 = true := by simp [State.blockUp]
  have hact (a : State) : s.act a src pgctlRow 0 0 32 v libOk = a.measureRequest := by
    have h : s.act a src pgctlRow 0 0 32 v libOk =
      if D.PWR_PGCTL_measure.given 0 32 v = 1 then a.measureRequest else a := rfl
    rw [h, if_pos (given_pgctl_measure hv)]
  have hreg := (State.regWrite_of_reg (libOk := libOk) regHit_pgctl hup (by decide) (by decide) hw rfl).trans (hact _)
  have hphase : (s.wr D.PWR_PGCTL_interval e).phase = s.phase := State.rd_wr_ne _ _ _ _ _ _ (by decide)
  cases c
  case false => exact ⟨_, s.only_wr _ _ _, hphase, hreg⟩
  case true =>
    obtain ⟨honly, hp⟩ := (s.wr D.PWR_PGCTL_interval e).clampCount_frame src 0x10800
    exact ⟨_, (s.only_wr _ _ _).trans honly, hp.trans hphase, hreg⟩

/-- The row of PWR_PGBACK. -/
def pgbackRow : RegRow := ⟨"PWR_PGBACK", 0x1084c, 0x0, 1, 32, [D.PWR_PGBACK_key]⟩

theorem regHit_pgback : regHit 0x1084C 4 = .reg pgbackRow 0 0 32 := by decide +kernel

/-- The key written to PWR_PGBACK acknowledges the breach (R95). -/
theorem State.regWrite_pgback (s : State) (src : Nat) (libOk : Bool) :
    s.regWrite src 0x1084C 4 0xB7 libOk = s.breachAck := by
  have hup : s.blockUp 0x1084C = true := by simp [State.blockUp]
  have hw (v : Nat) : pgbackRow.fields.foldl (s.fieldWrite src 0 0 32 v) (s, false) =
    (s, false || (decide (D.PWR_PGBACK_key.enum.isEmpty = false) &&
      decide (D.PWR_PGBACK_key.enum.contains (D.PWR_PGBACK_key.spliced 0 0 32 v) = false))) := rfl
  have hact (v : Nat) : s.act s src pgbackRow 0 0 32 v libOk =
    if D.PWR_PGBACK_key.given 0 32 v = 0xB7 then s.breachAck else s := rfl
  have hin : (false || (decide (D.PWR_PGBACK_key.enum.isEmpty = false) &&
    decide (D.PWR_PGBACK_key.enum.contains (D.PWR_PGBACK_key.spliced 0 0 32 0xB7) = false))) = false := by decide
  have hgiven : D.PWR_PGBACK_key.given 0 32 0xB7 = 0xB7 := by decide
  rw [State.regWrite_of_reg regHit_pgback hup (by decide) (by decide) (hw 0xB7) rfl, hin,
    if_neg (by decide), hact, if_pos hgiven]

/-! The steps of a measurement (Table 3.2, R62, R63). -/

/-- A measurement at the step a command waits for goes on. -/
theorem State.measureStep_of_step {s : State} {m : Meas} {n : Nat} (hm : s.gov.meas = some m) (hstep : m.step = n)
    (f : Meas → Meas) : s.measureStep n f = { s with gov := { s.gov with meas := some (f m) } } := by
  simp [State.measureStep, hm, hstep]

/-- A command that is one step of the measurement changes nothing but it. -/
theorem answers_measureStep {i : Instr} {s : State} {m : Meas} {n : Nat} {f : Meas → Meas}
    (hexec : exec i s = .next (s.measureStep n f)) (hm : s.gov.meas = some m) (hstep : m.step = n) :
    Answers i s fun t => t.gov.meas = some (f m) ∧ s.Only [.gov] t :=
  answers_of_exec (hexec.trans (congrArg _ (State.measureStep_of_step hm hstep f))) rfl ⟨rfl, s.only_gov _⟩

theorem measureLoadOn_answers {m : Meas} {s : State} (hm : s.gov.meas = some m) (hstep : m.step = 2) :
    Answers .measureLoadOn s fun t => t.gov.meas = some { m with step := 3 } ∧ t.aon.hubLoad = true ∧
      s.Only [.gov, .aon] t := by
  have hexec : exec .measureLoadOn s = .next { s with
      gov := { s.gov with meas := some { m with step := 3 } }, aon := { s.aon with hubLoad := true } } := by
    change execMeasureLoadOn s = _
    simp [execMeasureLoadOn, hm, hstep, State.measureStep]
  exact answers_of_exec hexec rfl ⟨rfl, rfl, s.only_gov_aon _ _⟩

/-- The load is off and the charger on, and no measurement runs. -/
def State.measureEnded (s : State) : State :=
  { s with gov := { s.gov with meas := none }, aon := { s.aon with hubLoad := false, hubChg := true } }

/-- A measurement that ends is stored, tried again or given up (R63). -/
theorem exec_measureEnd {s : State} {m : Meas} (hm : s.gov.meas = some m) (hstep : m.step = 5) :
    exec .measureEnd s = .next (if s.plausible m then s.measureEnded.measureStore m
      else if 2 ≤ s.gov.tries ∨ (s.hasMeasure = false ∧ s.gov.measured = true) then s.measureEnded.measureFall
      else { s.measureEnded.wr D.PWR_PGSTAT_meas (if s.hasMeasure then 3 else 5) with
        gov := { s.measureEnded.gov with tries := s.gov.tries + 1 } }) := by
  change execMeasureEnd s = _
  simp only [execMeasureEnd, hm, hstep, ne_eq, not_true_eq_false, if_false]
  split
  · rfl
  · split <;> rfl

/-- While the ledger store accepts writes, a page write waits in its queue. -/
theorem State.pageWrite_accepted {s : State} (hflush : s.phase ≠ stFlushing) (hreset : s.phase ≠ stResetting)
    (hrom : s.phase ≠ stRomRecovery) (page : Nat) (data : Option Page) (owner : PgOwner) :
    s.pageWrite page data owner =
      { s with led := { s.led with queue := s.led.queue ++ [⟨page, data, owner, false, false, false⟩] } } := by
  simp [State.pageWrite, State.setLed, hflush, hreset, hrom]

/-- The registers show a result that is used. -/
def State.resultShown (s : State) (m : Meas) : State :=
  (((s.wr D.PWR_PGCAP_c m.c).wr D.PWR_PGCAP_esr m.esr).wr D.PWR_PGMTIME_ns s.now).wr D.PWR_PGSTAT_meas 2

theorem State.resultShown_c (s : State) (m : Meas) : (s.resultShown m).rd D.PWR_PGCAP_c = m.c % D.PWR_PGCAP_c.cap := by
  simp (disch := decide) only [State.resultShown, State.rd_wr_ne, State.rd_wr_same]

theorem State.resultShown_esr (s : State) (m : Meas) :
    (s.resultShown m).rd D.PWR_PGCAP_esr = m.esr % D.PWR_PGCAP_esr.cap := by
  simp (disch := decide) only [State.resultShown, State.rd_wr_ne, State.rd_wr_same]

theorem State.resultShown_meas (s : State) (m : Meas) : (s.resultShown m).rd D.PWR_PGSTAT_meas = 2 := State.rd_wr_same ..

theorem State.resultShown_phase (s : State) (m : Meas) : (s.resultShown m).phase = s.phase := by
  simp (disch := decide) only [State.resultShown, State.phase, State.rd_wr_ne]

/-- The governor keeps a result, and no attempt is counted any more. -/
def Gov.store (g : Gov) (m : Meas) (now : Nat) : Gov :=
  { g with stored := some (m.c, m.esr), mtime := now, tries := 0, measured := true }

/-- A result whose ESR is in range is shown, kept, and written to the ledger store (R62, R63). -/
theorem State.measureStore_eq {s : State} {m : Meas} (hflush : s.phase ≠ stFlushing) (hreset : s.phase ≠ stResetting)
    (hrom : s.phase ≠ stRomRecovery) (hesr : m.esr ≤ s.rd D.PWR_PGSLED_esrmax) :
    s.measureStore m = { s.resultShown m with
      gov := s.gov.store m s.now
      led := { s.led with queue := s.led.queue ++ [⟨0, none, .meas, false, false, false⟩] } } := by
  have hphase := s.resultShown_phase m
  exact (if_neg (Nat.not_lt.mpr hesr)).trans (State.pageWrite_accepted
    (s := { s.resultShown m with gov := s.gov.store m s.now }) (hphase.trans_ne hflush) (hphase.trans_ne hreset)
    (hphase.trans_ne hrom) 0 none .meas)

theorem measureEnd_plausible {m : Meas} {s : State} (hm : s.gov.meas = some m) (hstep : m.step = 5)
    (hplausible : s.plausible m = true) (hflush : s.phase ≠ stFlushing) (hreset : s.phase ≠ stResetting)
    (hrom : s.phase ≠ stRomRecovery) (hesr : m.esr ≤ s.rd D.PWR_PGSLED_esrmax) (hc : m.c < D.PWR_PGCAP_c.cap)
    (he : m.esr < D.PWR_PGCAP_esr.cap) :
    Answers .measureEnd s fun t => t.gov.meas = none ∧ t.gov.stored = some (m.c, m.esr) ∧ t.gov.measured = true ∧
      t.gov.tries = 0 ∧ t.gov.mtime = s.now ∧ t.rd D.PWR_PGCAP_c = m.c ∧ t.rd D.PWR_PGCAP_esr = m.esr ∧
      t.rd D.PWR_PGSTAT_meas = 2 ∧ t.aon.hubLoad = false ∧ t.aon.hubChg = true ∧ t.evq = s.evq ∧
      t.led.queue = s.led.queue ++ [⟨0, none, .meas, false, false, false⟩] := by
  have hstore : s.measureEnded.measureStore m = _ := State.measureStore_eq hflush hreset hrom hesr
  have hexec := (exec_measureEnd hm hstep).trans (congrArg _ ((if_pos hplausible).trans hstore))
  have hrdc := (s.measureEnded.resultShown_c m).trans (Nat.mod_eq_of_lt hc)
  have hrde := (s.measureEnded.resultShown_esr m).trans (Nat.mod_eq_of_lt he)
  have hrdm := s.measureEnded.resultShown_meas m
  exact answers_of_exec hexec rfl ⟨rfl, rfl, rfl, rfl, rfl, hrdc, hrde, hrdm, rfl, rfl, rfl, rfl⟩

/-- An implausible result before the third of a series is to be tried again (R63). -/
theorem measureEnd_implausible {m : Meas} {s : State} (hm : s.gov.meas = some m) (hstep : m.step = 5)
    (hplausible : s.plausible m = false) (htries : s.gov.tries < 2)
    (hseries : s.gov.stored.isSome = true ∨ s.gov.measured = false) :
    Answers .measureEnd s fun t => t.gov.meas = none ∧ t.gov.tries = s.gov.tries + 1 ∧ t.gov.stored = s.gov.stored ∧
      t.rd D.PWR_PGSTAT_meas = (if s.hasMeasure then 3 else 5) ∧ t.aon.hubLoad = false ∧ t.aon.hubChg = true ∧
      s.Only [.regs, .gov, .aon] t := by
  have hgoes : ¬ (2 ≤ s.gov.tries ∨ (s.hasMeasure = false ∧ s.gov.measured = true)) := by
    rintro (h | ⟨h, hmeasured⟩)
    · omega
    · simp_all [State.hasMeasure]
  have hexec := exec_measureEnd hm hstep
  rw [if_neg (by simp [hplausible]), if_neg hgoes] at hexec
  have hmeas : (s.measureEnded.wr D.PWR_PGSTAT_meas (if s.hasMeasure then 3 else 5)).rd D.PWR_PGSTAT_meas =
      if s.hasMeasure then 3 else 5 := by
    rw [State.rd_wr_same]
    split <;> rfl
  refine answers_of_exec hexec rfl ⟨rfl, rfl, rfl, hmeas, rfl, rfl, fun p hp => ?_⟩
  cases p
  case regs | gov | aon => simp at hp
  all_goals rfl

/-- Outside ROM_RECOVERY a happening is one more event, and nothing else. -/
theorem State.log_eq {s : State} (hrom : s.phase ≠ stRomRecovery) (code inst aux arg : Nat) : s.log code inst aux arg =
    { s with evq := s.evq ++ [⟨code, inst % 65536, aux % 65536, arg % 2 ^ 64, s.now, false⟩] } := if_neg hrom

/-- A series of attempts ends without a result (R63). -/
def Gov.endSeries (g : Gov) : Gov := { g with tries := 0, measured := true }

/-- The registers show a stored result derated by 20 % (R63). -/
def State.derated (s : State) (c e : Nat) : State :=
  ((s.wr D.PWR_PGCAP_c (c * 80 / 100)).wr D.PWR_PGCAP_esr e).wr D.PWR_PGSTAT_meas 4

theorem State.derated_c (s : State) (c e : Nat) :
    (s.derated c e).rd D.PWR_PGCAP_c = c * 80 / 100 % D.PWR_PGCAP_c.cap := by
  simp (disch := decide) only [State.derated, State.rd_wr_ne, State.rd_wr_same]

theorem State.derated_esr (s : State) (c e : Nat) : (s.derated c e).rd D.PWR_PGCAP_esr = e % D.PWR_PGCAP_esr.cap := by
  simp (disch := decide) only [State.derated, State.rd_wr_ne, State.rd_wr_same]

theorem State.derated_meas (s : State) (c e : Nat) : (s.derated c e).rd D.PWR_PGSTAT_meas = 4 := State.rd_wr_same ..

theorem State.derated_now (s : State) (c e : Nat) : (s.derated c e).now = s.now := by
  simp (disch := decide) only [State.derated, State.now, State.rd_wr_ne]

theorem State.derated_phase (s : State) (c e : Nat) : (s.derated c e).phase = s.phase := by
  simp (disch := decide) only [State.derated, State.phase, State.rd_wr_ne]

theorem State.measureFall_stored {s : State} {c e : Nat} (h : s.gov.stored = some (c, e)) (hrom : s.phase ≠ stRomRecovery) :
    s.measureFall = { s.derated c e with
      gov := s.gov.endSeries
      evq := s.evq ++ [⟨E.PWR_PG_MEAS_FAIL, 0, 0, 0, s.now, false⟩] } := by
  have hlog := State.log_eq (s := { s.derated c e with gov := s.gov.endSeries }) ((s.derated_phase c e).trans_ne hrom)
    E.PWR_PG_MEAS_FAIL 0 0 0
  have hnow : ({ s.derated c e with gov := s.gov.endSeries } : State).now = s.now := s.derated_now c e
  rw [hnow] at hlog
  unfold State.measureFall
  dsimp only
  split
  · next h' =>
    obtain ⟨rfl, rfl⟩ := Prod.mk.inj (Option.some.inj (h.symm.trans h'))
    exact hlog
  · next h' => simp [h] at h'

/-- The third implausible result derates what is stored by 20 % and is logged (R63). -/
theorem measureEnd_third {m : Meas} {c e : Nat} {s : State} (hm : s.gov.meas = some m) (hstep : m.step = 5)
    (hplausible : s.plausible m = false) (htries : 2 ≤ s.gov.tries) (hstored : s.gov.stored = some (c, e))
    (hrom : s.phase ≠ stRomRecovery) :
    Answers .measureEnd s fun t => t.gov.stored = some (c, e) ∧ t.rd D.PWR_PGCAP_c = c * 80 / 100 % D.PWR_PGCAP_c.cap ∧
      t.rd D.PWR_PGCAP_esr = e % D.PWR_PGCAP_esr.cap ∧ t.rd D.PWR_PGSTAT_meas = 4 ∧ t.gov.tries = 0 ∧
      t.gov.measured = true ∧ s.Logged E.PWR_PG_MEAS_FAIL 0 0 0 t := by
  have hexec := exec_measureEnd hm hstep
  rw [if_neg (by simp [hplausible]), if_pos (.inl htries),
    State.measureFall_stored (s := s.measureEnded) hstored hrom] at hexec
  exact answers_of_exec hexec rfl
    ⟨hstored, State.derated_c .., State.derated_esr .., State.derated_meas .., rfl, rfl, rfl⟩

/-! The breach list (R95). -/

/-- Page writes change the ledger store's queue and nothing else. -/
theorem State.pageWrites_led {α : Type} (f : State → α → State) (hf : ∀ a x, ∃ q, f a x = { a with led := q })
    (l : List α) (s : State) : ∃ q, l.foldl f s = { s with led := q } := by
  induction l generalizing s with
  | nil => exact ⟨s.led, rfl⟩
  | cons x l ih =>
    obtain ⟨q, hq⟩ := hf s x
    obtain ⟨q', hq'⟩ := ih { s with led := q }
    exact ⟨q', by rw [List.foldl_cons, hq, hq']⟩

theorem State.pageWrite_led (s : State) (page : Nat) (data : Option Page) (owner : PgOwner) (flush : Bool) :
    ∃ q, s.pageWrite page data owner flush = { s with led := q } := by
  unfold State.pageWrite
  dsimp only
  split
  · exact ⟨s.led, rfl⟩
  · exact ⟨_, rfl⟩

/-- Setting the breach list changes it, its count, and the ledger store. -/
theorem State.setBreach_eq (s : State) (l : List Breach) : ∃ q, s.setBreach l =
    { s.wr D.PWR_PGBRK_count l.length with gov := { s.gov with breach := l }, led := q } := by
  refine State.pageWrites_led _ (fun a k => ?_) _ _
  split
  · exact ⟨a.led, rfl⟩
  · exact a.pageWrite_led ..

/-- The registers show an empty breach list. -/
def State.breachShownClear (s : State) : State :=
  (((s.wr D.PWR_PGBRK_count 0).wr D.PWR_PGBRK_count 0).wr D.PWR_PGBRK_coarse 0).wr D.GBL_STAT_breach 0

theorem State.breachAck_eq {s : State} (hrom : s.phase ≠ stRomRecovery) : ∃ q, s.breachAck =
    { s.breachShownClear with
      gov := { s.gov with breach := [] }, led := q, coh := { s.coh with brkClean := [] }
      evq := s.evq ++ [⟨E.PWR_PG_BREACH_ACK, 0, 0, s.gov.breach.length % 2 ^ 64, s.now, false⟩] } := by
  obtain ⟨q, hq⟩ := s.setBreach_eq []
  have hphase : s.breachShownClear.phase = s.phase := by
    simp (disch := decide) only [State.breachShownClear, State.phase, State.rd_wr_ne]
  have hnow : s.breachShownClear.now = s.now := by
    simp (disch := decide) only [State.breachShownClear, State.now, State.rd_wr_ne]
  have hlog := State.log_eq (s := { s.breachShownClear with gov := { s.gov with breach := [] }, led := q })
    (hphase.trans_ne hrom) E.PWR_PG_BREACH_ACK 0 0 s.gov.breach.length
  refine ⟨q, (if_neg hrom).trans ?_⟩
  rw [hq]
  have hclear : ({ s.wr D.PWR_PGBRK_count 0 with gov := { s.gov with breach := [] }, led := q } : State).breachClear
      s.gov.breach.length = _ := hlog
  rw [show List.length ([] : List Breach) = 0 from rfl, hclear, ← hnow]
  rfl

/-- The acknowledged list is empty, and the event counts its ranges (R95). -/
theorem breachAck_answers {port : Fin 4} {s : State} (hquiet : s.portQuiet port = true) (hrom : s.phase ≠ stRomRecovery) :
    Answers (.breachAck port) s fun t => t.gov.breach = [] ∧ t.rd D.PWR_PGBRK_count = 0 ∧ t.rd D.PWR_PGBRK_coarse = 0 ∧
      t.bit D.GBL_STAT_breach = false ∧ t.coh.brkClean = [] ∧ s.Logged E.PWR_PG_BREACH_ACK 0 0 s.gov.breach.length t := by
  obtain ⟨q, hq⟩ := State.breachAck_eq hrom
  have hexec : exec (.breachAck port) s = .next s.breachAck := by
    change execBreachAck port s = _
    rw [execBreachAck, State.portWrite_of_portQuiet _ _ _ _ hquiet, State.regWrite_pgback]
  have hcount : s.breachShownClear.rd D.PWR_PGBRK_count = 0 := by
    simp (disch := decide) only [State.breachShownClear, State.rd_wr_ne, State.rd_wr_same]
    rfl
  have hcoarse : s.breachShownClear.rd D.PWR_PGBRK_coarse = 0 := by
    simp (disch := decide) only [State.breachShownClear, State.rd_wr_ne, State.rd_wr_same]
    rfl
  have hbit : s.breachShownClear.bit D.GBL_STAT_breach = false := by
    simp [State.bit, State.breachShownClear]
  exact answers_of_exec (hexec.trans (congrArg _ hq)) rfl ⟨rfl, hcount, hcoarse, hbit, rfl, rfl⟩

/-! The obligation. -/

theorem measureRequest_answers {port : Fin 4} {s : State} (h : BitVec 8) (hquiet : s.portQuiet port = true) :
    ∃ a, s.Only [.regs] a ∧ a.phase = s.phase ∧ exec (.measureRequest port h) s = .next a.measureRequest := by
  obtain ⟨a, honly, hphase, hreg⟩ := s.regWrite_pgctl port (v := h.toNat * 256 + 1) (by omega) true
  refine ⟨a, honly, hphase, ?_⟩
  change execMeasureRequest port h s = _
  rw [execMeasureRequest, State.portWrite_of_portQuiet _ _ _ _ hquiet, hreg]

/-- Settles O49, clause by clause: recomputing, the commands that begin a measurement, its steps, its three ends, and the
breach list. -/
theorem governorMeasures : Obligations.GovernorMeasures := by
  have begins {i : Instr} {s : State} (hexec : exec i s = .next s.measureRequest) (hmeas : s.gov.meas = none)
      (htries : s.gov.tries = 0) (hgoverns : s.governs = true) :=
    answers_measureRequest hexec (.refl s _) rfl hmeas htries hgoverns
  unfold Obligations.GovernorMeasures
  refine ⟨?unmeasured, ?measured, ?exit, ?request, ?ignored, ?interval, ?stable, ?timeout, ?again, ?v0, ?load, ?v1, ?v2,
    ?good, ?bad, ?third, ?retry, ?ack⟩
  case unmeasured => exact fun _ => governorRecompute_unmeasured
  case measured => exact fun _ hstored hfloor => governorRecompute_measured hstored hfloor rfl
  case exit => exact fun _ => lowenergyExit_governs
  case request =>
    intro port h s hmeas htries hgoverns hquiet
    obtain ⟨a, honly, hphase, hexec⟩ := measureRequest_answers h hquiet
    exact answers_measureRequest hexec honly hphase hmeas htries hgoverns
  case ignored =>
    intro port h s hmeas hquiet
    obtain ⟨a, honly, -, hexec⟩ := measureRequest_answers h hquiet
    have hgov : a.gov = s.gov := honly .gov (by decide)
    rw [State.measureRequest_measuring (hgov ▸ hmeas)] at hexec
    exact answers_of_exec hexec (honly .tcnt (by decide)) ⟨hgov, honly .aon (by decide)⟩
  case interval => exact fun s => begins rfl
  case stable =>
    intro s hmeas htries hfirst hgoverns
    exact begins (congrArg Host.Outcome.next (if_neg (by simp [hfirst]))) hmeas htries hgoverns
  case timeout =>
    intro s hmeas htries hfirst hgoverns
    exact begins (congrArg Host.Outcome.next (if_neg (by simp [hfirst]))) hmeas htries hgoverns
  case again =>
    intro s hmeas htries hmeasured hstored hgoverns
    have hnone : s.hasMeasure = false := by simp [State.hasMeasure, hstored]
    exact begins (congrArg Host.Outcome.next (if_pos ⟨hnone, hmeasured⟩)) hmeas htries hgoverns
  case v0 => exact fun _ _ hm hstep => (answers_measureStep (i := .measureSampleV0) rfl hm hstep :)
  case load => exact fun _ _ => measureLoadOn_answers
  case v1 => exact fun _ _ hm hstep => (answers_measureStep (i := .measureSampleV1) rfl hm hstep :)
  case v2 =>
    intro m s hm hstep hfalls
    have h := answers_measureStep (i := .measureSampleV2) rfl hm hstep
    simpa only [if_neg (Nat.not_le.mpr hfalls)] using h
  case good => exact fun _ _ => measureEnd_plausible
  case bad => exact fun _ _ => measureEnd_implausible
  case third => exact fun _ _ _ _ => measureEnd_third
  case retry =>
    intro s hmeas htries hgoverns
    have hexec : exec .measureRetry s = .next s.measureBegin :=
      congrArg Host.Outcome.next (if_pos ⟨by simp [hmeas], htries, hgoverns⟩)
    obtain ⟨hm, hchg, hshown, honly⟩ := State.measureBegin_starts (State.Only.refl s [.regs])
    exact answers_of_exec hexec rfl ⟨hm, hchg, hshown, honly, rfl⟩
  case ack => exact fun _ _ => breachAck_answers

end Sys2Proof.Machine
end

section
/-! SUPPORT. What the write-back of lines and the drain of the journal and the conservator's log leave as it was: the registrar,
the host ports, the queues, the contexts and the governor (R78, R179, R180, R188, R211). -/

namespace Sys2Proof.Machine

/-- The parts that the caches, the fabric's sends, staging and the media's logs do not touch. -/
def State.aside (s : State) : Registrar × SMap Port × SMap AQueue × Cur × Gov := (s.rgr, s.ports, s.queues, s.cur, s.gov)

/-! As with the guarded parts, the proofs are not bare rfl, so that simp rewrites with them. -/

@[simp] theorem State.aside_mk (regs evq rgr ports queues regions rops coh med cur slots keyOps drbg gov led stgE aon boot fab
    fw tal tcnt out free pending) : (State.mk regs evq rgr ports queues regions rops coh med cur slots keyOps drbg gov led stgE
      aon boot fab fw tal tcnt out free pending).aside = (rgr, ports, queues, cur, gov) := (rfl)
@[simp] theorem State.aside_fold (s : State) : (s.rgr, s.ports, s.queues, s.cur, s.gov) = s.aside := (rfl)

theorem State.parts_of_aside {s t : State} (h : t.aside = s.aside) :
    t.rgr = s.rgr ∧ t.ports = s.ports ∧ t.queues = s.queues ∧ t.cur = s.cur ∧ t.gov = s.gov := by
  simpa only [State.aside, Prod.mk.injEq] using h

theorem State.tables_of_guarded {s t : State} (h : t.guarded = s.guarded) : t.regions = s.regions ∧ t.slots = s.slots :=
  ⟨congrArg Prod.fst h, congrArg (·.2.1) h⟩

theorem State.aside_of_only {s t : State} (h : s.Only [.regs, .evq, .coh, .med, .aon, .tcnt] t) : t.aside = s.aside := by
  have hr : t.rgr = s.rgr := h .rgr (by decide)
  have hp : t.ports = s.ports := h .ports (by decide)
  have hq : t.queues = s.queues := h .queues (by decide)
  have hc : t.cur = s.cur := h .cur (by decide)
  have hg : t.gov = s.gov := h .gov (by decide)
  rw [State.aside, State.aside, hr, hp, hq, hc, hg]

theorem State.Near.aside {s t : State} (h : s.Near t) : t.aside = s.aside := State.aside_of_only h.only

/-! Repeated operations, and operations that answer a value too. -/

@[simp] theorem State.aside_ite (c : Prop) [Decidable c] (s t : State) :
    (if c then s else t).aside = if c then s.aside else t.aside := apply_ite _ _ _ _

@[simp] theorem State.aside_foldl {α : Type} {f : State → α → State} (h : ∀ a x, (f a x).aside = a.aside) (l : List α)
    (s : State) : (l.foldl f s).aside = s.aside := by
  induction l generalizing s with
  | nil => rfl
  | cons x l ih => exact (ih _).trans (h s x)

@[simp] theorem State.aside_foldl_snd_snd {α β γ : Type} {f : β × γ × State → α → β × γ × State}
    (h : ∀ a x, (f a x).2.2.aside = a.2.2.aside) (l : List α) (a : β × γ × State) :
    (l.foldl f a).2.2.aside = a.2.2.aside := by
  induction l generalizing a with
  | nil => rfl
  | cons x l ih => exact (ih _).trans (h a x)

@[simp] theorem State.aside_repeat {f : State → State} (h : ∀ a, (f a).aside = a.aside) (n : Nat) (s : State) :
    (n.repeat f s).aside = s.aside := by
  induction n with
  | zero => rfl
  | succ n ih => exact (h _).trans ih

theorem State.aside_getD {o : Option State} {s t : State} (h : ∀ u, o = some u → u.aside = t.aside) (hs : s.aside = t.aside) :
    (o.getD s).aside = t.aside := by
  cases o with
  | none => exact hs
  | some u => exact h u rfl

/-! Registers, events, accounts. -/

section
variable (s : State)

@[simp] theorem State.wr_aside (f : FldDesc) (v i : Nat) : (s.wr f v i).aside = s.aside := (rfl)
@[simp] theorem State.addSat_aside (f : FldDesc) (n i : Nat) : (s.addSat f n i).aside = s.aside := (rfl)
@[simp] theorem State.addWrap_aside (f : FldDesc) (n i : Nat) : (s.addWrap f n i).aside = s.aside := (rfl)
@[simp] theorem State.tally_aside (first k code v : Nat) : (s.tally first k code v).aside = s.aside := (rfl)
@[simp] theorem State.setFport_aside (p : Nat) (x : FPort) : (s.setFport p x).aside = s.aside := (rfl)
@[simp] theorem State.log_aside (code inst aux arg : Nat) (inj : Bool) : (s.log code inst aux arg inj).aside = s.aside :=
  (s.near_log ..).aside
@[simp] theorem State.charge_aside (gl : Nat) : (s.charge gl).aside = s.aside := (s.near_charge gl).aside
@[simp] theorem State.release_aside (gl : Nat) : (s.release gl).aside = s.aside := (s.near_release gl).aside
@[simp] theorem State.releaseClean_aside (gl : Nat) : (s.releaseClean gl).aside = s.aside := (s.near_releaseClean gl).aside
@[simp] theorem State.wholeWrite_aside (gl : Nat) (p : Bool) : (s.wholeWrite gl p).aside = s.aside :=
  (s.near_wholeWrite gl p).aside
@[simp] theorem State.journal_aside (type tile arg0 arg1 : Nat) : (s.journal type tile arg0 arg1).aside = s.aside :=
  (s.near_journal ..).aside
@[simp] theorem State.clogNow_aside (type a b c : Nat) : (s.clogNow type a b c).aside = s.aside := (s.near_clogNow ..).aside
@[simp] theorem State.setLost_aside (l : List LostEnt) : (s.setLost l).aside = s.aside := (s.near_setLost l).aside
@[simp] theorem State.listOverflowed_aside : s.listOverflowed.aside = s.aside := s.near_listOverflowed.aside
@[simp] theorem State.applyLog_aside (e : LogEnt) : (s.applyLog e).aside = s.aside := (s.near_applyLog e).aside
end

/-! What leaves for the fabric (R337, R339). -/

section
variable (s : State)

@[simp] theorem State.sendWords_aside (p w : Nat) : (s.sendWords p w).aside = s.aside := by
  simp [State.sendWords, State.sendFlits, State.tAgent]
@[simp] theorem State.sendTo_aside (seat route w : Nat) : (s.sendTo seat route w).aside = s.aside := by
  unfold State.sendTo
  split <;> simp
@[simp] theorem State.frame_aside (o : Out) : (s.frame o).aside = s.aside := by
  unfold State.frame
  split <;> simp [State.flood]
@[simp] theorem State.emit_aside (o : Out) : (s.emit o).aside = s.aside := by
  unfold State.emit State.outCount
  split <;> simp [State.tPort, State.tWarden]
@[simp] theorem State.fabSend_aside (kind : FKind) (seat gl : Nat) (src : Src) (data : Line) (mask : LineMask) (poison : Bool)
    (atom : Option Atom) : (s.fabSend kind seat gl src data mask poison atom).aside = s.aside := by
  unfold State.fabSend
  split <;> simp
@[simp] theorem State.deliver_aside (gl : Nat) : (s.deliver gl).aside = s.aside := by
  unfold State.deliver
  split <;> simp [State.setOut]
end

/-! Armed injections that a read of an array meets (R415, R419). -/

section
variable (s : State)

@[simp] theorem State.pick_aside (n : Nat) (l : List Nat) : (s.pick n l).2.aside = s.aside := by
  induction n generalizing s l with
  | zero => rfl
  | succ m ih =>
    unfold State.pick
    split <;> simp [ih, State.fresh]
@[simp] theorem State.injByteFlips_aside (k : Nat) : (s.injByteFlips k).2.aside = s.aside := by
  unfold State.injByteFlips
  split <;> simp [State.fresh]
@[simp] theorem State.injFired_aside (k : Nat) : (s.injFired k).aside = s.aside := by
  simp [State.injFired, State.injDisarm]
@[simp] theorem State.injectLine_aside (point : Nat) (hit : Nat → Bool) (fl : Flips) :
    (s.injectLine point hit fl).2.2.aside = s.aside := by simp [State.injectLine]
end

/-! Wings (R179, R180, R188). -/

section
variable (s : State)

@[simp] theorem State.wdrop_aside (w gl : Nat) : (s.wdrop w gl).aside = s.aside := (rfl)
@[simp] theorem State.wset_aside (w gl : Nat) (l : WLine) : (s.wset w gl l).aside = s.aside := (rfl)
@[simp] theorem State.setWay_aside (gl w : Nat) (v : VLine) : (s.setWay gl w v).aside = s.aside := (rfl)
@[simp] theorem State.dropWay_aside (gl w : Nat) : (s.dropWay gl w).aside = s.aside := (rfl)
@[simp] theorem State.setOut_aside (gl : Nat) (e : OutEnt) : (s.setOut gl e).aside = s.aside := (rfl)
@[simp] theorem State.wlose_aside (w gl : Nat) (l : WLine) : (s.wlose w gl l).aside = s.aside := by simp [State.wlose]
@[simp] theorem State.wtake_aside (w gl : Nat) (l : WLine) : (s.wtake w gl l).2.aside = s.aside := by
  simp only [State.wtake, State.checkWing, State.checkWingFlips]
  (repeat' split) <;> simp [State.tWing]
@[simp] theorem State.vmod_aside (gl : Nat) (f : VLine → VLine) : (s.vmod gl f).aside = s.aside := by
  unfold State.vmod
  split <;> simp
@[simp] theorem State.wbPush_aside (w gl : Nat) (l : WLine) : (s.wbPush w gl l).aside = s.aside := by simp [State.wbPush]
@[simp] theorem State.wevict_aside (w gl : Nat) : (s.wevict w gl).aside = s.aside := by
  unfold State.wevict
  split <;> simp
@[simp] theorem State.endLoan_aside (gl : Nat) : (s.endLoan gl).aside = s.aside := by
  unfold State.endLoan
  dsimp only
  split <;> simp
end

/-! Ways of the vitrine, and lines that are lost (R172, R193 to R195). -/

section
variable (s : State)

@[simp] theorem State.wayThreshold_aside (sl w : Nat) : (s.wayThreshold sl w).aside = s.aside := by
  simp [State.wayThreshold, State.setWayCnt]
@[simp] theorem State.checkFlips_aside (gl w : Nat) (v : VLine) (fl : Flips) (inj : Bool) :
    (s.checkFlips gl w v fl inj).2.aside = s.aside := by
  unfold State.checkFlips
  (repeat' split) <;> simp [State.setWayCnt]
@[simp] theorem State.takeWay_aside (w : Nat) (v : VLine) : (s.takeWay w v).2.2.aside = s.aside := by
  simp only [State.takeWay, State.checkWay]
  (repeat' split) <;> simp
@[simp] theorem State.enterWprot_aside : s.enterWprot.aside = s.aside := by simp [State.enterWprot]
@[simp] theorem State.loseLine_aside (ll : Nat) : (s.loseLine ll).aside = s.aside := by simp [State.loseLine]
@[simp] theorem State.losePoisoned_aside (gl : Nat) : (s.losePoisoned gl).aside = s.aside := by
  simp [State.losePoisoned, State.unpoisonHome]
@[simp] theorem State.toEvb_aside (gl : Nat) (kind : EvKind) (data : Line) (mask : LineMask) (poison : Bool) :
    (s.toEvb gl kind data mask poison).aside = s.aside := (rfl)
@[simp] theorem State.fillWay_aside (gl w : Nat) (d : Line) (dirty poison : Bool) (lent : Lent) :
    (s.fillWay gl w d dirty poison lent).aside = s.aside := (rfl)
end

theorem State.allocWay_aside {s : State} {gl : Nat} {loan : Bool} {x : Nat × State} (h : s.allocWay gl loan = some x) :
    x.2.aside = s.aside := by
  have hevict (w : Nat) (v : VLine) (t : State) (ht : s.evictWay w v = some t) : t.aside = s.aside := by
    revert ht
    unfold State.evictWay
    (repeat' split) <;> rintro ⟨⟩ <;> simp
  revert h
  unfold State.allocWay
  split
  · rintro ⟨⟩
  · split
    · rintro ⟨⟩
      rfl
    · intro h
      obtain ⟨t, ht, rfl⟩ := Option.map_eq_some_iff.mp h
      exact hevict _ _ t ht

/-- A line stored at home changes the caches and the accounts, never a context or a port. -/
theorem State.homeStore_aside {s : State} {gl : Nat} {d : Line} {mask : LineMask} {poison : Bool} {base : Line × Bool}
    {zero : Bool} {t : State} (h : s.homeStore gl d mask poison base zero = some t) : t.aside = s.aside := by
  revert h
  unfold State.homeStore
  extract_lets s0 pol
  have h0 : s0.aside = s.aside := by
    simp only [s0, State.charge_aside]
    split <;> simp
  clear_value s0 pol
  dsimp only
  (repeat' split) <;> rintro ⟨⟩ <;> simp [h0, State.touch, State.poisonHome]
  all_goals exact (State.allocWay_aside ‹_›).trans h0

/-! The writes back of a wing, and what a start or a flush puts into staging (R78, R211). -/

section
variable (s : State)

@[simp] theorem State.wingFlushLine_aside (w gl : Nat) : (s.wingFlushLine w gl).aside = s.aside := by
  unfold State.wingFlushLine
  split
  · rfl
  · split
    · simp
    · dsimp only
      split
      · exact State.aside_getD (fun u hu => by simpa using State.homeStore_aside hu) (by simp)
      · simp
@[simp] theorem State.wingFlush_aside (w : Nat) : (s.wingFlush w).aside = s.aside := by simp [State.wingFlush]
@[simp] theorem State.stageOut_aside (gl : Nat) (d : Line) (mask : LineMask) (p : Bool) :
    (s.stageOut gl d mask p).aside = s.aside := by simp [State.stageOut, State.toStaging, State.tSlice]
@[simp] theorem State.settleOwn_aside : s.settleOwn.aside = s.aside := by
  unfold State.settleOwn
  extract_lets own s1 s2 s3 s4 s5
  have h1 : s1.aside = s.aside := by simp [s1]
  have h5 : s5.aside = s4.aside := State.aside_foldl (fun a e => by split <;> simp) _ _
  simp [h5, s4, s3, s2, h1]
end

/-! The journal and the conservator's log (R78). -/

section
variable (s : State)

@[simp] theorem State.spareCheck_aside : s.spareCheck.aside = s.aside := by simp [State.spareCheck]
@[simp] theorem State.freeTile_aside (p : Nat) : (s.freeTile p).aside = s.aside := by
  simp [State.freeTile, State.queueExcise, State.setTile, State.setStripe]
@[simp] theorem State.dropStaged_aside (p : Nat → Bool) : (s.dropStaged p).aside = s.aside := by simp [State.dropStaged]
@[simp] theorem State.doRelease_aside (r : Release) : (s.doRelease r).aside = s.aside := by
  unfold State.doRelease
  split <;> simp
@[simp] theorem State.applyJ_aside (e : JEnt) : (s.applyJ e).aside = s.aside := by
  unfold State.applyJ
  split <;> simp [State.setCat]
@[simp] theorem State.applyWritten_aside (l : List JEnt) : (s.applyWritten l).aside = s.aside := by
  refine State.aside_foldl (fun a e => ?_) _ _
  split
  · refine State.aside_foldl (fun b i => ?_) _ _
    split <;> simp
  · rfl
@[simp] theorem State.checkpoint_aside : s.checkpoint.aside = s.aside := by simp [State.checkpoint]
@[simp] theorem State.journalWrite_aside : s.journalWrite.aside = s.aside := by
  simp [State.journalWrite, State.journalFill]
@[simp] theorem State.logWrite_aside : s.logWrite.aside = s.aside := by simp [State.logWrite, State.logApply]
@[simp] theorem State.drainLogs_aside : s.drainLogs.aside = s.aside := by simp [State.drainLogs]
end

end Sys2Proof.Machine
end

section
/-! SUPPORT. The steps of a flush up to its record (Table 3.5, R78, R82, R87, R433). -/

namespace Sys2Proof.Machine

/-! The flush under way. -/

theorem State.atStep_eq {s : State} {f : Flush} (hphase : s.phase = stFlushing) (hf : s.gov.flush = some f) (n : Nat) :
    s.atStep n = decide (f.step = n) := by simp [State.atStep, State.isFlushing, hphase, hf]

theorem State.atStep_of_step {s : State} {f : Flush} {n : Nat} (hphase : s.phase = stFlushing) (hf : s.gov.flush = some f)
    (hstep : f.step = n) : s.atStep n = true := by simp [State.atStep_eq hphase hf, hstep]

theorem State.flushMod_flush {s : State} {f : Flush} (hf : s.gov.flush = some f) (g : Flush → Flush) :
    (s.flushMod g).gov.flush = some (g f) := congrArg (Option.map g) hf

theorem State.toStep_flush {s : State} {f : Flush} (hf : s.gov.flush = some f) (n : Nat) :
    (s.toStep n).gov.flush = some { f with step := n } := State.flushMod_flush hf _

theorem State.only_toStep (s : State) (n : Nat) : s.Only [.gov] (s.toStep n) := s.only_gov _

theorem ne_romRecovery_of_flushing {s : State} (hphase : s.phase = stFlushing) : s.phase ≠ stRomRecovery := by
  rw [hphase]
  decide

/-! Contexts whose calls are interrupted (R87). -/

theorem foldl_eq_self {α β : Type} {f : β → α → β} {b : β} {l : List α} (h : ∀ a ∈ l, f b a = b) : l.foldl f b = b := by
  induction l with
  | nil => rfl
  | cons a l ih =>
    rw [List.foldl_cons, h a (by simp)]
    exact ih fun x hx => h x (by simp [hx])

theorem State.ctx_setCtx_same (s : State) (c : Nat) (x : Ctx) : (s.setCtx c x).ctx c = x := SMap.get_put_same ..
theorem State.ctx_setCtx_ne (s : State) {c k : Nat} (x : Ctx) (h : c ≠ k) : (s.setCtx c x).ctx k = s.ctx k :=
  SMap.get_put_ne _ _ _ _ h

theorem get_of_not_mem_keys {α : Type} (d : α) {m : SMap α} {k : Nat} (h : k ∉ SMap.keys m) : SMap.get d m k = d := by
  induction m with
  | nil => rfl
  | cons e m ih =>
    obtain ⟨j, v⟩ := e
    simp only [SMap.keys, List.map_cons, List.mem_cons, not_or] at h
    rw [SMap.get, if_neg fun hj => h.1 hj.symm]
    exact ih h.2

theorem State.only_cur (s : State) (c : Cur) : s.Only [.cur] { s with cur := c } := by
  intro p hp
  cases p
  case cur => simp at hp
  all_goals rfl

/-- What the record of an interrupted call keeps. -/
def State.interruption (s : State) (c : Nat) : Nat × Nat × Nat × Nat × Nat :=
  ((s.ctx c).cq, (s.ctx c).callProg, (s.ctx c).tag, (s.ctx c).lost, (s.ctx c).priv.code)

/-- A busy context with nothing buffered ends IDLE, and its call is noted. -/
theorem State.interrupt_busy {s : State} {c : Nat} (hst : (s.ctx c).st ≠ .idle) (hsb : (s.ctx c).sb = []) :
    (s.interrupt c).cur.interrupted = s.cur.interrupted ++ [s.interruption c] ∧
      (∀ k, (s.interrupt c).ctx k = if k = c then Ctx.init else s.ctx k) ∧ s.Only [.cur] (s.interrupt c) := by
  have h : s.interrupt c = { s with cur := { s.cur with
      ctxs := SMap.put Ctx.init s.cur.ctxs c Ctx.init
      interrupted := s.cur.interrupted ++ [s.interruption c] } } := by
    have hinit : { Ctx.init with sb := (s.ctx c).sb } = Ctx.init := by rw [hsb]; rfl
    simp only [State.interrupt, if_neg hst, hinit]
    rfl
  rw [h]
  refine ⟨rfl, fun k => ?_, s.only_cur _⟩
  split
  · next hk => rw [hk]; exact s.ctx_setCtx_same c Ctx.init
  · next hk => exact s.ctx_setCtx_ne Ctx.init fun e => hk e.symm

/-- Busy contexts with nothing buffered, each named once, all end IDLE, and their calls are noted in order. -/
theorem State.interrupt_all {s : State} {l : List Nat} (hnodup : l.Nodup)
    (hbusy : ∀ c ∈ l, (s.ctx c).st ≠ .idle ∧ (s.ctx c).sb = []) :
    (l.foldl State.interrupt s).cur.interrupted = s.cur.interrupted ++ l.map s.interruption ∧
      (∀ k, (l.foldl State.interrupt s).ctx k = if k ∈ l then Ctx.init else s.ctx k) ∧
      s.Only [.cur] (l.foldl State.interrupt s) := by
  induction l generalizing s with
  | nil => exact ⟨(List.append_nil _).symm, fun k => by simp, .refl s _⟩
  | cons c l ih =>
    obtain ⟨hc, hnodup⟩ := List.nodup_cons.mp hnodup
    obtain ⟨hst, hsb⟩ := hbusy c (by simp)
    obtain ⟨hint, hctx, honly⟩ := State.interrupt_busy hst hsb
    have hsame (k : Nat) (hk : k ∈ l) : (s.interrupt c).ctx k = s.ctx k := by
      rw [hctx, if_neg]
      exact fun e => hc (e ▸ hk)
    have hmap : l.map (s.interrupt c).interruption = l.map s.interruption :=
      List.map_congr_left fun k hk => by rw [State.interruption, hsame k hk, State.interruption]
    obtain ⟨ihint, ihctx, ihonly⟩ := ih (s := s.interrupt c) hnodup fun k hk => by
      rw [hsame k hk]
      exact hbusy k (by simp [hk])
    refine ⟨?_, fun k => ?_, honly.trans ihonly⟩
    · rw [List.foldl_cons, ihint, hint, hmap, List.map_cons, List.append_assoc]
      rfl
    · rw [List.foldl_cons, ihctx, hctx]
      by_cases hk : k = c <;> by_cases hl : k ∈ l <;> simp [hk, hl]

theorem State.mem_busyCtxs {s : State} {c : Nat} :
    c ∈ s.busyCtxs ↔ c ∈ SMap.keys s.cur.ctxs ∧ (s.ctx c).st ≠ .idle := by simp [State.busyCtxs]

/-- With nothing buffered and no context listed twice, every call is interrupted and every context ends IDLE. -/
theorem State.interrupt_busyCtxs {s : State} (hsb : ∀ c ∈ SMap.keys s.cur.ctxs, (s.ctx c).sb = [])
    (hnodup : (SMap.keys s.cur.ctxs).Nodup) :
    (s.busyCtxs.foldl State.interrupt s).cur.interrupted = s.cur.interrupted ++ s.busyCtxs.map s.interruption ∧
      (∀ c, ((s.busyCtxs.foldl State.interrupt s).ctx c).st = .idle) ∧
      s.Only [.cur] (s.busyCtxs.foldl State.interrupt s) := by
  obtain ⟨hint, hctx, honly⟩ := State.interrupt_all (s := s) (l := s.busyCtxs) (hnodup.filter _) fun c hc =>
    ⟨(State.mem_busyCtxs.mp hc).2, hsb c (State.mem_busyCtxs.mp hc).1⟩
  refine ⟨hint, fun c => ?_, honly⟩
  rw [hctx]
  split
  · rfl
  · next hc =>
    by_contra hst
    by_cases hk : c ∈ SMap.keys s.cur.ctxs
    · exact hc (State.mem_busyCtxs.mpr ⟨hk, hst⟩)
    · exact hst (congrArg Ctx.st (get_of_not_mem_keys Ctx.init hk))

/-! Step 2: the store buffers (R78, R87). -/

theorem State.sbDropStuck_empty {s : State} {c : Nat} (h : (s.ctx c).sb = []) (asked : Bool) : s.sbDropStuck c asked = s :=
  foldl_eq_self fun _ _ => by simp only [h]

theorem State.sbDropAll_empty {s : State} {c : Nat} (h : (s.ctx c).sb = []) : s.sbDropAll c = s :=
  foldl_eq_self fun _ _ => by simp only [State.sbDrop, h]

theorem flushStoreDrainDone_interrupts {f : Flush} {s : State} (hphase : s.phase = stFlushing) (hf : s.gov.flush = some f)
    (hstep : f.step = 2) (htxns : s.coh.txns = []) (hconf : s.coh.conf = [])
    (hsb : ∀ c ∈ SMap.keys s.cur.ctxs, (s.ctx c).sb = []) (hnodup : (SMap.keys s.cur.ctxs).Nodup)
    (hdrain : (SMap.keys s.cur.ctxs).any s.drainable = false) :
    Answers .flushStoreDrainDone s fun t => t.gov.flush = some { f with step := 3 } ∧
      t.cur.interrupted = s.cur.interrupted ++ s.busyCtxs.map s.interruption ∧ (∀ c, (t.ctx c).st = .idle) ∧
      s.Only [.cur, .gov] t := by
  have hdrop : (SMap.keys s.cur.ctxs).foldl (fun (a : State) c => a.sbDropStuck c false) s = s :=
    foldl_eq_self fun c hc => State.sbDropStuck_empty (hsb c hc) false
  have hexec : exec .flushStoreDrainDone s = .next ((s.busyCtxs.foldl State.interrupt s).toStep 3) := by
    change execFlushStoreDrainDone s = _
    simp only [execFlushStoreDrainDone, State.atStep_of_step hphase hf hstep, htxns, hconf, hdrain, hdrop, List.any_nil,
      Bool.or_false, Bool.true_eq_false, Bool.false_eq_true, or_self, if_false]
  obtain ⟨hint, hidle, honly⟩ := State.interrupt_busyCtxs hsb hnodup
  have hgov : (s.busyCtxs.foldl State.interrupt s).gov = s.gov := honly .gov (by decide)
  exact answers_of_exec hexec (honly .tcnt (by decide)) ⟨State.toStep_flush (hgov ▸ hf) 3, hint, hidle,
    (honly.mono (by simp)).trans ((State.only_toStep _ 3).mono (by simp))⟩

/-- A host write that was received and waits for its turn holds the step up. -/
theorem flushStoreDrainDone_waits {s : State}
    (h : s.coh.txns.any (fun e => e.2.req.hostWrite && decide (e.2.phase ≠ .loan)) = true) :
    Answers .flushStoreDrainDone s fun t => t = s := by
  refine answers_of_exec (t := s) (if_pos (.inr ?_)) rfl rfl
  rw [h, Bool.true_or, Bool.true_or]

/-! Steps 3 to 5: wings, staging, outbound lines (R78, R188, R211). -/

theorem flushWingWritebackDone_answers {f : Flush} {s : State} (hphase : s.phase = stFlushing) (hf : s.gov.flush = some f)
    (hstep : f.step = 3) :
    Answers .flushWingWritebackDone s fun t => t.gov.flush = some { f with step := 4 } ∧ t.coh.invBusy = 0 ∧
      t.queues = s.queues ∧ t.ports = s.ports ∧ t.cur = s.cur ∧ t.slots = s.slots := by
  generalize hu : (List.range 8).foldl State.wingFlush s = u
  obtain ⟨-, hports, hqueues, hcur, hgov⟩ := State.parts_of_aside (s := s) (t := u) (by simp [← hu])
  obtain ⟨-, hslots⟩ := State.tables_of_guarded (s := s) (t := u) (by simp [← hu])
  refine answers_of_exists ⟨_, congrArg Host.Outcome.next (if_pos (State.atStep_of_step hphase hf hstep)), ?_⟩
  dsimp only
  rw [hu]
  exact ⟨State.toStep_flush (hgov ▸ hf) 4, rfl, hqueues, hports, hcur, hslots⟩

theorem flushStagingMoveDone_answers {f : Flush} {s : State} (hphase : s.phase = stFlushing) (hf : s.gov.flush = some f)
    (hstep : f.step = 4) :
    Answers .flushStagingMoveDone s fun t => t.gov.flush = some { f with step := 5 } ∧ t.queues = s.queues ∧ t.cur = s.cur ∧
      t.slots = s.slots := by
  generalize hu : s.lentDirty.foldl State.endLoan s.settleOwn = u
  generalize hv : (SMap.keys u.coh.outb).foldl State.deliver u = v
  obtain ⟨-, -, hqueues, hcur, hgov⟩ := State.parts_of_aside (s := s) (t := v) (by simp [← hv, ← hu])
  obtain ⟨-, hslots⟩ := State.tables_of_guarded (s := s) (t := v) (by simp [← hv, ← hu])
  refine answers_of_exists ⟨_, congrArg Host.Outcome.next (if_pos (State.atStep_of_step hphase hf hstep)), ?_⟩
  dsimp only
  rw [hu, hv]
  exact ⟨State.toStep_flush (hgov ▸ hf) 5, hqueues, hcur, hslots⟩

/-- Nothing in an early-acknowledgement buffer: taking its writes out changes nothing that can be read. -/
theorem State.holdEab_empty {s : State} {p : Nat} (h : (s.port p).eab = []) : s.holdEab p = s.setPort p (s.port p) := by
  have hx : ({ s.port p with eab := [] } : Port) = s.port p := by rw [← h]
  simp only [State.holdEab, h, List.foldl_nil, hx]

theorem State.port_setPort_self (s : State) (p q : Nat) : (s.setPort p (s.port p)).port q = s.port q := by
  by_cases h : p = q
  · rw [← h, State.port_setPort_same]
  · exact s.port_setPort_ne _ h

theorem State.holdEab_all_empty {s : State} {l : List Nat} (h : ∀ p ∈ l, (s.port p).eab = []) :
    (∀ p, (l.foldl State.holdEab s).port p = s.port p) ∧ s.Only [.ports] (l.foldl State.holdEab s) := by
  induction l generalizing s with
  | nil => exact ⟨fun _ => rfl, .refl s _⟩
  | cons p l ih =>
    have hp := State.holdEab_empty (h p (by simp))
    have hsame := s.port_setPort_self p
    obtain ⟨ihport, ihonly⟩ := ih (s := s.setPort p (s.port p)) fun q hq => by
      rw [hsame]
      exact h q (by simp [hq])
    rw [List.foldl_cons, hp]
    exact ⟨fun q => (ihport q).trans (hsame q), (s.only_ports _).trans ihonly⟩

/-- FLUSH_FORWARD_HOLD, from the state in which outbound lines have moved to the forward hold area. -/
theorem exec_flushForwardHold {f : Flush} {s u v : State} (hphase : s.phase = stFlushing) (hf : s.gov.flush = some f)
    (hstep : f.step = 5) (hlent : s.lentDirty = []) (hu : s.coh.outb.foldl State.holdOut s = u)
    (hv : (List.range 4).foldl State.holdEab (u.coh.outb.foldl State.holdOut u) = v) :
    exec .flushForwardHold s = .next { v with coh := { v.coh with freqs := [] } } := by
  change execFlushForwardHold s = _
  simp only [execFlushForwardHold, State.atStep_of_step hphase hf hstep, hlent, List.foldl_nil, hu, hv, Bool.true_eq_false,
    if_false]

theorem flushForwardHold_empty {f : Flush} {s : State} (hphase : s.phase = stFlushing) (hf : s.gov.flush = some f)
    (hstep : f.step = 5) (hlent : s.lentDirty = []) (houtb : s.coh.outb = []) (heab : ∀ p, p < 4 → (s.port p).eab = []) :
    Answers .flushForwardHold s fun t => t.coh = { s.coh with freqs := [] } ∧ (∀ p, t.port p = s.port p) ∧
      s.Only [.coh, .ports] t := by
  obtain ⟨hport, honly⟩ := State.holdEab_all_empty (s := s) (l := List.range 4) fun p hp => heab p (List.mem_range.mp hp)
  generalize hv : (List.range 4).foldl State.holdEab s = v at hport honly
  have hcoh : v.coh = s.coh := honly .coh (by decide)
  have hexec := exec_flushForwardHold hphase hf hstep hlent (u := s) (v := v) (by rw [houtb, List.foldl_nil])
    (by rw [houtb, List.foldl_nil, hv])
  exact answers_of_exec hexec (honly .tcnt (by decide)) ⟨by rw [hcoh], hport,
    (honly.mono (by simp)).trans ((State.only_coh _ _).mono (by simp))⟩

/-- A line with bytes to deliver, not held yet, goes into the forward hold area (R78). -/
theorem State.holdOut_new {s : State} {gl : Nat} {e : OutEnt} (hmask : e.mask ≠ 0) (hfwd : SMap.find s.coh.fwd gl = none) :
    s.holdOut (gl, e) = (s.delOut gl).fwdAdd gl e.data e.mask e.poison false e.ctxs := by
  have hd : SMap.find (s.delOut gl).coh.fwd gl = none := hfwd
  simp only [State.holdOut, hmask, and_false, if_false, State.fwdHold, hd, decide_false]

theorem flushForwardHold_one {f : Flush} {gl : Nat} {e : OutEnt} {s : State} (hphase : s.phase = stFlushing)
    (hf : s.gov.flush = some f) (hstep : f.step = 5) (hlent : s.lentDirty = []) (houtb : s.coh.outb = [(gl, e)])
    (hmask : e.mask ≠ 0) (hfwd : SMap.find s.coh.fwd gl = none) (heab : ∀ p, p < 4 → (s.port p).eab = []) :
    Answers .flushForwardHold s fun t => t.coh.outb = [] ∧ t.coh.freqs = [] ∧
      (SMap.find t.coh.fwd gl).map (fun x => (x.data, x.mask, x.poison)) = some (e.data, e.mask, e.poison) ∧
      t.gov = s.gov := by
  generalize hu : (s.delOut gl).fwdAdd gl e.data e.mask e.poison false e.ctxs = u
  have huout : u.coh.outb = [] := by
    rw [← hu]
    change SMap.del s.coh.outb gl = []
    simp [houtb, SMap.del]
  have hugov : u.gov = s.gov := by rw [← hu]; rfl
  have huport (p : Nat) : u.port p = s.port p := by rw [← hu]; rfl
  have hufwd : (SMap.find u.coh.fwd gl).map (fun x => (x.data, x.mask, x.poison)) = some (e.data, e.mask, e.poison) := by
    rw [← hu]
    exact congrArg (Option.map _) (SMap.find_ins_same ..)
  obtain ⟨-, honly⟩ := State.holdEab_all_empty (s := u) (l := List.range 4) fun p hp => by
    rw [huport]
    exact heab p (List.mem_range.mp hp)
  generalize hv : (List.range 4).foldl State.holdEab u = v at honly
  have hcoh : v.coh = u.coh := honly .coh (by decide)
  have hgov : v.gov = u.gov := honly .gov (by decide)
  have hexec := exec_flushForwardHold hphase hf hstep hlent (u := u) (v := v)
    (by rw [houtb, List.foldl_cons, List.foldl_nil, State.holdOut_new hmask hfwd, hu]) (by rw [huout, List.foldl_nil, hv])
  refine answers_of_exists ⟨_, hexec, ?_, rfl, ?_, hgov.trans hugov⟩
  · exact (congrArg Coh.outb hcoh).trans huout
  · rw [← hufwd]
    exact congrArg (fun c => Option.map _ (SMap.find c.fwd gl)) hcoh

theorem flushDeliveryDone_answers {f : Flush} {s : State} (hphase : s.phase = stFlushing) (hf : s.gov.flush = some f)
    (hstep : f.step = 5) (houtb : s.coh.outb = []) (heab : ∀ p ∈ List.range 4, (s.port p).eab = []) :
    Answers .flushDeliveryDone s fun t => t.gov.flush = some { f with step := 6 } ∧ s.Only [.gov] t := by
  have hall : (List.range 4).all (fun p => decide ((s.port p).eab = [])) = true :=
    List.all_eq_true.mpr fun p hp => decide_eq_true (heab p hp)
  exact answers_of_exec (congrArg Host.Outcome.next (if_pos ⟨State.atStep_of_step hphase hf hstep, houtb, hall⟩)) rfl
    ⟨State.toStep_flush hf 6, s.only_toStep 6⟩

/-! Steps 6 and 7: the journal's tail and the registrar (R78, R433). -/

/-- With nothing pending the conservator's log leaves the journal, and the numbers of the records, as they are. -/
theorem State.logWrite_empty {s : State} (hc : s.med.cpend = []) :
    s.logWrite.med.jpend = s.med.jpend ∧ s.logWrite.med.cpend = [] ∧
      s.logWrite.rd D.REC_HEAD_seq = s.rd D.REC_HEAD_seq := by
  have happly : s.logApply.med.jpend = s.med.jpend ∧ s.logApply.med.cpend = [] ∧ s.logApply.regs = s.regs := by
    simp [State.logApply, hc]
  obtain ⟨hj, hcp, hregs⟩ := happly
  have hlog (a : State) (code inst aux arg : Nat) : (a.log code inst aux arg).med = a.med ∧
      (a.log code inst aux arg).rd D.REC_HEAD_seq = a.rd D.REC_HEAD_seq :=
    ⟨by simp only [State.log, State.holdAon, State.addSat]; (repeat' split) <;> rfl, (a.near_log ..).rd _ 0 (by decide)⟩
  have hspare (a : State) : a.spareCheck.med = a.med ∧ a.spareCheck.rd D.REC_HEAD_seq = a.rd D.REC_HEAD_seq := by
    unfold State.spareCheck
    dsimp only
    (repeat' split) <;> simp (disch := decide) [hlog, State.rd_wr_ne]
  obtain ⟨hmed, hrd⟩ := hspare s.logApply
  exact ⟨hmed ▸ hj, hmed ▸ hcp, hrd.trans (State.rd_of_regs hregs _ _)⟩

theorem State.drainLogs_head {s : State} (hj : s.med.jpend = []) (hc : s.med.cpend = []) :
    s.drainLogs.rd D.REC_HEAD_seq = s.rd D.REC_HEAD_seq := by
  obtain ⟨hj1, hc1, hr1⟩ := State.logWrite_empty hc
  have hwrite : s.logWrite.journalWrite = s.logWrite := if_pos (hj1.trans hj)
  have hdrain : s.drainLogs = s.logWrite.logWrite := by
    simp [State.drainLogs, hj, Nat.repeat, hwrite]
  obtain ⟨-, -, hr2⟩ := State.logWrite_empty hc1
  rw [hdrain, hr2, hr1]

theorem flushJournalTailDone_answers {f : Flush} {s : State} (hphase : s.phase = stFlushing) (hf : s.gov.flush = some f)
    (hstep : f.step = 6) (hj : s.med.jpend = []) (hc : s.med.cpend = []) :
    Answers .flushJournalTailDone s fun t => t.gov.flush = some { f with step := 7 } ∧
      t.rgr.step7 = some (s.rd D.REC_HEAD_seq) ∧ t.queues = s.queues := by
  have hexec : exec .flushJournalTailDone s = _ :=
    congrArg Host.Outcome.next (if_pos (State.atStep_of_step hphase hf hstep))
  have haside := s.drainLogs_aside
  have hhead := State.drainLogs_head hj hc
  generalize s.drainLogs = u at hexec haside hhead
  obtain ⟨-, -, hqueues, -, hgov⟩ := State.parts_of_aside haside
  have hflush : u.step7.gov.flush = some f := (congrArg Gov.flush hgov).trans hf
  exact answers_of_exists ⟨_, hexec, State.toStep_flush hflush 7, congrArg some hhead, hqueues⟩

theorem flushRegistrarDone_answers {f : Flush} {n : Nat} {s : State} (hphase : s.phase = stFlushing)
    (hf : s.gov.flush = some f) (hstep : f.step = 7) (hn : s.rgr.step7 = some n) :
    Answers .flushRegistrarDone s fun t => t.gov.flush = some { f with step := 8, dflush := s.dirty } ∧
      t.rgr.buf = SMap.keep (fun k _ => decide (n < k)) s.rgr.buf ∧
      t.rd D.REC_FLUSHED_seq = max (s.rd D.REC_FLUSHED_seq) n % D.REC_FLUSHED_seq.cap ∧ t.rd D.REC_STAT_writing = 0 ∧
      (∀ b ∈ t.med.builders, b.closing = true) ∧ t.med.stg = s.med.stg := by
  have hexec : exec .flushRegistrarDone s = _ := if_neg (by rw [State.atStep_of_step hphase hf hstep]; decide)
  rw [hn, Option.getD_some] at hexec
  have hflushed : (s.annalCommit n).rd D.REC_FLUSHED_seq = max (s.rd D.REC_FLUSHED_seq) n % D.REC_FLUSHED_seq.cap :=
    (State.rd_wr_ne _ D.REC_TAIL_seq _ _ _ _ (by decide)).trans (s.rd_wr_same D.REC_FLUSHED_seq _ 0)
  refine answers_of_exists ⟨_, hexec, State.flushMod_flush hf _, rfl, ?_, ?_, ?_, rfl⟩
  · exact (State.rd_wr_ne _ D.REC_STAT_writing D.REC_FLUSHED_seq 0 0 0 (by decide)).trans hflushed
  · exact (State.rd_wr_same _ D.REC_STAT_writing 0 0)
  · intro b hb
    obtain ⟨b', -, rfl⟩ := List.mem_map.mp hb
    rfl

/-! Steps 8 and 9: staging and the journal (R78, R82). -/

theorem State.loseKeyless_of_keys {s : State} (h : ∀ ll ∈ s.stagedDirty, (s.baseKey (tileOf ll)).isSome = true) :
    s.loseKeyless = s := by
  have hnone : s.stagedDirty.filter (fun ll => (s.baseKey (tileOf ll)).isNone) = [] :=
    List.filter_eq_nil_iff.mpr fun ll hll => by simp [Option.isSome_iff_ne_none.mp (h ll hll)]
  rw [State.loseKeyless, hnone, List.foldl_nil]

theorem flushStagingWriteDone_answers {f : Flush} {s : State} (hphase : s.phase = stFlushing) (hf : s.gov.flush = some f)
    (hstep : f.step = 8) (hstaged : s.stagedDirty = []) (hgdirty : s.coh.gdirty = []) (hbuilders : s.med.builders = [])
    (hupdates : s.med.updates = []) (hmoves : s.med.moves = []) :
    Answers .flushStagingWriteDone s fun t => t.gov.flush = some { f with step := 9 } ∧
      t.rd D.PWR_PGFLUSH_bytes = s.writtenUnits % D.PWR_PGFLUSH_bytes.cap ∧
      s.RegsBut [D.PWR_PGFLUSH_bytes.key 0] t ∧ s.Only [.regs, .gov] t := by
  have hkeys : s.loseKeyless = s := State.loseKeyless_of_keys (by simp [hstaged])
  have hexec : exec .flushStagingWriteDone s = .next ((s.wr D.PWR_PGFLUSH_bytes s.writtenUnits).toStep 9) := by
    change execFlushStagingWriteDone s = _
    simp [execFlushStagingWriteDone, State.atStep_of_step hphase hf hstep, hkeys, hstaged, hgdirty, hbuilders, hupdates,
      hmoves]
  exact answers_of_exec hexec rfl ⟨State.toStep_flush (s := s.wr D.PWR_PGFLUSH_bytes s.writtenUnits) hf 9,
    State.rd_wr_same .., s.regsBut_wr _ _ 0, ((s.only_wr _ _ _).mono (by simp)).trans ((State.only_toStep _ 9).mono (by simp))⟩

/-- Step 8 waits while a staged line is not on media. -/
theorem flushStagingWriteDone_waits {s : State} (hstaged : s.stagedDirty ≠ [])
    (hkeys : ∀ ll ∈ s.stagedDirty, (s.baseKey (tileOf ll)).isSome = true) :
    Answers .flushStagingWriteDone s fun t => t = s := by
  have hexec : exec .flushStagingWriteDone s = .next s := by
    change execFlushStagingWriteDone s = _
    simp [execFlushStagingWriteDone, State.loseKeyless_of_keys hkeys, hstaged]
  exact answers_of_exec hexec rfl rfl

/-- Without energy what is pending is left. -/
theorem flushJournalDone_floor {f : Flush} {s : State} (hphase : s.phase = stFlushing) (hf : s.gov.flush = some f)
    (hstep : f.step = 9) (hfloor : s.aon.euFloor = true) :
    Answers .flushJournalDone s fun t => t.gov.flush = some { f with step := 10 } ∧
      t.med = { s.med with jpend := [], rels := [], cpend := [] } ∧ s.Only [.med, .gov] t := by
  have hat : ¬ s.atStep 9 = false := by rw [State.atStep_of_step hphase hf hstep]; decide
  exact answers_of_exec ((if_neg hat).trans (if_pos hfloor)) rfl ⟨State.flushMod_flush hf _, rfl,
    ((State.Only.refl s [.med, .gov]).med _).trans ((State.only_toStep _ 10).mono (by simp))⟩

theorem flushJournalDone_drains {f : Flush} {s : State} (hphase : s.phase = stFlushing) (hf : s.gov.flush = some f)
    (hstep : f.step = 9) (hfloor : s.aon.euFloor = false) :
    Answers .flushJournalDone s fun t => t.gov.flush = some { f with step := 10 } ∧ t.queues = s.queues ∧
      t.ports = s.ports ∧ t.regions = s.regions := by
  have hat : ¬ s.atStep 9 = false := by rw [State.atStep_of_step hphase hf hstep]; decide
  have hexec : exec .flushJournalDone s = .next (s.drainLogs.toStep 10) := (if_neg hat).trans (if_neg (by simp [hfloor]))
  have haside := s.drainLogs_aside
  have hguarded := s.drainLogs_guarded
  generalize s.drainLogs = u at hexec haside hguarded
  obtain ⟨-, hports, hqueues, -, hgov⟩ := State.parts_of_aside haside
  obtain ⟨hregions, -⟩ := State.tables_of_guarded hguarded
  exact answers_of_exists ⟨_, hexec, State.toStep_flush (hgov ▸ hf) 10, hqueues, hports, hregions⟩

end Sys2Proof.Machine
end

section
/-! SUPPORT. The end of a flush: its record, the restart or the power-down that follows (R78, R80, R447, R479), and its
abandonment (R81, R87, R89). -/

namespace Sys2Proof.Machine

/-! A start. -/

theorem State.only_foldl {α : Type} {ps : List Comp} {g : State → α → State} (h : ∀ a x, State.Only a ps (g a x)) (l : List α)
    (s : State) : s.Only ps (l.foldl g s) := by
  induction l generalizing s with
  | nil => exact .refl s ps
  | cons x l ih => exact (h s x).trans (ih _)

theorem State.startWith_evq (s : State) (r : SMap Nat) (n : Nat) : (s.startWith r n).evq = [] :=
  State.only_foldl (ps := [.regs]) (fun a _ => a.only_wr _ _ _) _ _ .evq (by decide)

theorem State.startWith_queues (s : State) (r : SMap Nat) (n : Nat) : (s.startWith r n).queues = [] :=
  State.only_foldl (ps := [.regs]) (fun a _ => a.only_wr _ _ _) _ _ .queues (by decide)

theorem State.startWith_gov (s : State) (r : SMap Nat) (n : Nat) : (s.startWith r n).gov =
    { Gov.init with breach := s.gov.breach, stored := s.gov.stored, mtime := s.gov.mtime, rec0 := s.gov.rec0,
                    recCopy := s.gov.recCopy } :=
  State.only_foldl (ps := [.regs]) (fun a _ => a.only_wr _ _ _) _ _ .gov (by decide)

theorem State.startWith_boot_step (s : State) (r : SMap Nat) (n : Nat) : (s.startWith r n).boot.step = n :=
  congrArg Boot.step (State.only_foldl (ps := [.regs]) (fun a _ => a.only_wr _ _ _) _ _ .boot (by decide))

theorem State.newStart_phase (s : State) (state n : Nat) : (s.newStart state n).phase = state % D.GBL_STAT_state.cap :=
  (State.rd_wr_ne _ D.PWR_PFSTAT_pfail D.GBL_STAT_state 0 0 0 (by decide)).trans (State.rd_wr_same _ D.GBL_STAT_state state 0)

/-! Reset outputs fall (R465). -/

theorem State.rd_rstFall_of_ne (s : State) {f : FldDesc} {i k : Nat} (hbook : f.key i ∉ bookKeys)
    (hk : D.PWR_RST_asserted.key k ≠ f.key i) : (s.rstFall k).rd f i = s.rd f i := by
  unfold State.rstFall
  split
  · rfl
  · exact ((State.near_logAon ..).rd f i hbook).trans (s.rd_wr_ne _ _ _ _ _ hk)

theorem rst_asserted_not_book {k : Nat} (hk : k < 4) : D.PWR_RST_asserted.key k ∉ bookKeys := by
  interval_cases k <;> decide

theorem State.asserted_rstFall_same (s : State) {k : Nat} (hk : k < 4) : (s.rstFall k).rd D.PWR_RST_asserted k = 1 := by
  unfold State.rstFall
  split
  · assumption
  · exact ((State.near_logAon ..).rd _ k (rst_asserted_not_book hk)).trans (s.rd_wr_same D.PWR_RST_asserted 1 k)

theorem State.asserted_rstFall {s : State} {k : Nat} (hk : k < 4) (h : s.rd D.PWR_RST_asserted k = 1) (j : Nat) :
    (s.rstFall j).rd D.PWR_RST_asserted k = 1 := by
  by_cases hj : D.PWR_RST_asserted.key j = D.PWR_RST_asserted.key k
  · have hjk : j = k := by
      simp only [FldDesc.key, D.PWR_RST_asserted] at hj
      omega
    rw [hjk]
    exact s.asserted_rstFall_same hk
  · rw [s.rd_rstFall_of_ne (rst_asserted_not_book hk) hj, h]

/-- Every reset output is asserted once they have all fallen. -/
theorem State.asserted_rstFallAll (s : State) {k : Nat} (hk : k < 4) : s.rstFallAll.rd D.PWR_RST_asserted k = 1 := by
  obtain ⟨l, m, hl⟩ := List.append_of_mem (show k ∈ rstOuts from List.mem_range.mpr hk)
  rw [State.rstFallAll, hl, List.foldl_append, List.foldl_cons]
  exact List.foldlRecOn (motive := fun a => State.rd a D.PWR_RST_asserted k = 1) m State.rstFall
    (State.asserted_rstFall_same _ hk) fun _ h j _ => State.asserted_rstFall hk h j

@[simp] theorem State.rstFall_aside (s : State) (k : Nat) : (s.rstFall k).aside = s.aside := by
  unfold State.rstFall
  split
  · rfl
  · exact (State.near_logAon ..).aside

@[simp] theorem State.rstFallAll_aside (s : State) : s.rstFallAll.aside = s.aside := by simp [State.rstFallAll]
@[simp] theorem State.rstFallDev_aside (s : State) : s.rstFallDev.aside = s.aside := by simp [State.rstFallDev]

theorem State.rstFallAll_phase (s : State) : s.rstFallAll.phase = s.phase :=
  List.foldlRecOn (motive := fun a => State.phase a = s.phase) rstOuts State.rstFall rfl fun a h k hk => by
    refine (a.rd_rstFall_of_ne (f := D.GBL_STAT_state) (i := 0) (by decide) ?_).trans h
    revert k
    decide

/-! The record (step 10 of Table 3.5, R447). -/

/-- The state once the record of a flush is written, where no event waits. -/
def State.flushRecorded (s : State) (f : Flush) : State :=
  let s1 := s.wr D.PWR_PGFLUSH_us (min (2 ^ 20 - 1) ((s.now - f.t0) / 1000))
  let c := 1 - s1.gov.recCopy
  State.toStep { s1 with
    gov := { s1.gov with rec0 := s1.flushRecord f, recCopy := c }
    led := { s1.led with bad := s1.led.bad.filter (fun p => !(decide (2560 + 96 * c ≤ p ∧ p < 2656 + 96 * c))) } } 11

/-- What the governor keeps of a flush that ends with the device started. -/
def Gov.Records (g : Gov) (s : State) (f : Flush) : Prop :=
  g.rec0.valid = true ∧ g.rec0.abandoned = f.abandoned ∧ g.rec0.cause = s.rd D.PWR_PGSTAT_cause ∧ g.rec0.time = s.now ∧
    g.rec0.start = s.boot.startCount ∧ g.rec0.head = s.rd D.REC_HEAD_seq ∧ g.recCopy = 1 - s.gov.recCopy

theorem exec_flushRecordDone {f : Flush} {s : State} (hphase : s.phase = stFlushing) (hf : s.gov.flush = some f)
    (hstep : f.step = 10) (hevq : s.evq = []) :
    exec .flushRecordDone s = .next ((s.flushRecorded f).flushEnd f) := by
  have hs : ({ s with evq := [] } : State) = s := by rw [← hevq]
  change execFlushRecordDone s = _
  simp only [execFlushRecordDone, hf, State.atStep_of_step hphase hf hstep, hevq, hs, List.foldl_nil, Bool.true_eq_false,
    if_false]
  rfl

theorem State.flushRecorded_records {f : Flush} {s : State} (hboot : 10 < s.boot.step) :
    (s.flushRecorded f).gov.Records s f := by
  have hrd {g : FldDesc} (hne : D.PWR_PGFLUSH_us.key 0 ≠ g.key 0) (v : Nat) : (s.wr D.PWR_PGFLUSH_us v).rd g = s.rd g :=
    s.rd_wr_ne _ _ _ _ _ hne
  have hcarried (v : Nat) : (s.wr D.PWR_PGFLUSH_us v).carried.abandoned = false :=
    congrArg FlushRec.abandoned (if_pos hboot)
  refine ⟨rfl, ?_, hrd (by decide) _, hrd (by decide) _, rfl, hrd (by decide) _, rfl⟩
  exact (congrArg (f.abandoned || ·) (hcarried _)).trans (Bool.or_false _)

theorem State.flushRecorded_rd (s : State) (f : Flush) {g : FldDesc} (hne : D.PWR_PGFLUSH_us.key 0 ≠ g.key 0) :
    (s.flushRecorded f).rd g = s.rd g := s.rd_wr_ne _ _ _ _ _ hne

theorem State.flushRecorded_guarded (s : State) (f : Flush) : (s.flushRecorded f).guarded = s.guarded := rfl

theorem Gov.Records.of_eq {g h : Gov} {s : State} {f : Flush} (hr : g.Records s f) (hrec : h.rec0 = g.rec0)
    (hcopy : h.recCopy = g.recCopy) : h.Records s f := by
  rwa [Gov.Records, hrec, hcopy]

/-- With input power the device restarts (R80). -/
theorem flushRecordDone_restarts {f : Flush} {s : State} (hphase : s.phase = stFlushing) (hf : s.gov.flush = some f)
    (hstep : f.step = 10) (hboot : 10 < s.boot.step) (hevq : s.evq = []) (hinok : s.bit D.PWR_PFSTAT_inok = true) :
    Answers .flushRecordDone s fun t => t.gov.Records s f ∧ t.phase = stResetting ∧ t.boot.step = 2 ∧ t.gov.flush = none ∧
      t.evq = [] ∧ t.queues = [] ∧ t.slots = s.slots ∧ t.regions = s.regions := by
  have hexec := exec_flushRecordDone hphase hf hstep hevq
  have hrecords := State.flushRecorded_records (f := f) hboot
  have hguarded := s.flushRecorded_guarded f
  have hrd : (s.flushRecorded f).bit D.PWR_PFSTAT_inok = true := by
    rw [State.bit, s.flushRecorded_rd f (by decide)]
    exact hinok
  generalize s.flushRecorded f = r at hexec hrecords hguarded hrd
  have hend : r.flushEnd f = (if f.cause = 2 then r.rstFallDev else r).newStart stResetting 2 := if_pos (.inl hrd)
  have haside : (if f.cause = 2 then r.rstFallDev else r).aside = r.aside := by simp
  have hguarded' : ((if f.cause = 2 then r.rstFallDev else r).newStart stResetting 2).guarded = s.guarded := by
    rw [State.newStart_guarded]
    split <;> simp [hguarded]
  rw [hend] at hexec
  generalize (if f.cause = 2 then r.rstFallDev else r) = u at hexec haside hguarded'
  obtain ⟨-, -, -, -, hgov⟩ := State.parts_of_aside haside
  have hstart : (u.newStart stResetting 2).gov = _ := u.startWith_gov _ _
  have hstarted : (u.newStart stResetting 2).gov.Records s f := by
    refine hrecords.of_eq ?_ ?_
    · rw [hstart, hgov]
    · rw [hstart, hgov]
  obtain ⟨hregions, hslots⟩ := State.tables_of_guarded hguarded'
  exact answers_of_exists ⟨_, hexec, hstarted, u.newStart_phase _ _, u.startWith_boot_step _ _, congrArg Gov.flush hstart,
    u.startWith_evq _ _, u.startWith_queues _ _, hslots, hregions⟩

/-- Without input power a flush that no reset began powers the device down (R78, R80). -/
theorem flushRecordDone_powers_down {f : Flush} {s : State} (hphase : s.phase = stFlushing) (hf : s.gov.flush = some f)
    (hstep : f.step = 10) (hboot : 10 < s.boot.step) (hevq : s.evq = []) (hinok : s.bit D.PWR_PFSTAT_inok = false)
    (hcause : f.cause ≠ 2) (hen : s.rd D.PWR_SEQSTAT_en ≠ 0) :
    Answers .flushRecordDone s fun t => t.gov.Records s f ∧ t.seq = seqDown ∧ t.phase = stFlushing ∧
      ∀ k, k < 4 → t.rd D.PWR_RST_asserted k = 1 := by
  have hexec := exec_flushRecordDone hphase hf hstep hevq
  have hrecords := State.flushRecorded_records (f := f) hboot
  have hrd : (s.flushRecorded f).bit D.PWR_PFSTAT_inok = false := by
    rw [State.bit, s.flushRecorded_rd f (by decide)]
    exact hinok
  have hrdphase : (s.flushRecorded f).phase = stFlushing := (s.flushRecorded_rd f (by decide)).trans hphase
  have hrden : (s.flushRecorded f).rd D.PWR_SEQSTAT_en ≠ 0 := by rwa [s.flushRecorded_rd f (by decide)]
  generalize s.flushRecorded f = r at hexec hrecords hrd hrdphase hrden
  have hend : r.flushEnd f = r.powerDown := if_neg (by simp [hrd, hcause])
  have hdown : r.powerDown = _ := if_neg hrden
  rw [hend, hdown] at hexec
  have haside := r.rstFallAll_aside
  have hphase' := r.rstFallAll_phase
  have hasserted (k : Nat) (hk : k < 4) := r.asserted_rstFallAll hk
  generalize r.rstFallAll = u at hexec haside hphase' hasserted
  obtain ⟨-, -, -, -, hgov⟩ := State.parts_of_aside haside
  have hkeep {g : FldDesc} {i : Nat} (hne : D.PWR_SEQSTAT_state.key 0 ≠ g.key i) :
      (u.wr D.PWR_SEQSTAT_state seqDown).rd g i = u.rd g i := u.rd_wr_ne _ _ _ _ _ hne
  refine answers_of_exists ⟨_, hexec, hrecords.of_eq (congrArg Gov.rec0 hgov) (congrArg Gov.recCopy hgov),
    u.rd_wr_same D.PWR_SEQSTAT_state seqDown 0, (hkeep (by decide)).trans (hphase'.trans hrdphase), fun k hk => ?_⟩
  refine (hkeep ?_).trans (hasserted k hk)
  interval_cases k <;> decide

/-- The hold of a restart ends: the start begins (R479). -/
theorem resetHoldEnd_answers {s : State} (hphase : s.phase = stResetting) (hboot : s.boot.step = 2) :
    Answers .resetHoldEnd s fun t => t.phase = stStarting ∧ t.boot = { s.boot with step := 3 } ∧
      s.RegsBut [D.GBL_STAT_state.key 0] t ∧ s.Only [.regs, .boot] t := by
  refine answers_of_exec (congrArg Host.Outcome.next (if_pos ⟨hphase, hboot⟩)) rfl
    ⟨State.rd_wr_same _ D.GBL_STAT_state stStarting 0, rfl, s.regsBut_wr _ _ 0, fun p hp => ?_⟩
  cases p
  case regs | boot => simp at hp
  all_goals rfl

/-! Abandonment (R81, R87, R89). -/

/-- A flush may be abandoned now: it is due, and no update is half done. -/
theorem exec_flushAbandon {f : Flush} {s : State} (hphase : s.phase = stFlushing) (hf : s.gov.flush = some f)
    (hdue : f.abandonDue = true) (hstep : f.step ≤ 8)
    (hupdates : s.med.updates.all (fun u => u.dataDone == u.parDone) = true) (hparts : s.med.parts = []) :
    exec .flushAbandon s = .next (s.abandonFlush f) := by
  change execFlushAbandon s = _
  rw [execFlushAbandon, hf]
  exact congrArg Host.Outcome.next (if_pos ⟨decide_eq_true hphase, hdue, hstep, by rw [hparts, List.any_nil], hupdates⟩)

/-- While a partition is at work, the flush is not abandoned. -/
theorem flushAbandon_waits {f : Flush} {s : State} (hf : s.gov.flush = some f)
    (hparts : s.med.parts.any (fun e => decide (e.2.op ≠ .idle)) = true) : Answers .flushAbandon s fun t => t = s := by
  refine answers_of_exec (t := s) ?_ rfl rfl
  change execFlushAbandon s = _
  rw [execFlushAbandon, hf]
  exact congrArg Host.Outcome.next (if_neg fun ⟨_, _, _, hidle, _⟩ => by rw [hparts] at hidle; cases hidle)

/-- The state with nothing left to write: the records that cannot be committed are dropped, and so is what the media had open. -/
def State.givenUp (a : State) (f : Flush) : State :=
  { a with
    rgr := { a.rgr with
      buf := SMap.keep (fun k _ => !a.lostRecords.contains k) a.rgr.buf
      writing := none
      step7 := if f.step < 7 then some (a.rd D.REC_HEAD_seq) else a.rgr.step7 }
    med := { a.med with updates := [], builders := [], jpend := [], rels := [] } }

/-- Its registers: no batch is being written, and the bytes that step 8 wrote are shown. -/
def State.givenUpShown (a : State) (f : Flush) : State :=
  ((a.givenUp f).wr D.REC_STAT_writing 0).wr D.PWR_PGFLUSH_bytes (if f.step = 8 then a.writtenUnits else 0)

theorem State.abandonFlush_eq {f : Flush} {s a : State} (ha : s.abandonCalls f = a) : s.abandonFlush f =
    ((a.givenUpShown f).log E.PWR_PG_ABANDON 0 f.step a.dirty).flushMod (fun g => { g with
      step := 9, abandoned := true, abandonDue := false, ranges := a.chargedRanges, updates := a.openPairs
      regLost := a.lostRecords.length }) := by
  rw [← ha]
  rfl

theorem State.givenUpShown_rd (a : State) (f : Flush) {g : FldDesc} (hw : D.REC_STAT_writing.key 0 ≠ g.key 0)
    (hb : D.PWR_PGFLUSH_bytes.key 0 ≠ g.key 0) : (a.givenUpShown f).rd g = a.rd g :=
  (State.rd_wr_ne _ _ _ _ _ _ hb).trans ((a.givenUp f).rd_wr_ne _ _ _ _ _ hw)

/-- What an abandoned flush keeps of the state `a` in which its calls are interrupted. -/
theorem State.abandonFlush_parts {f : Flush} {s a : State} (ha : s.abandonCalls f = a) (hphase : a.phase = stFlushing)
    (hf : a.gov.flush = some f) :
    (s.abandonFlush f).gov.flush = some { f with
        step := 9, abandoned := true, abandonDue := false, ranges := a.chargedRanges, updates := a.openPairs,
        regLost := a.lostRecords.length } ∧
      a.Logged E.PWR_PG_ABANDON 0 f.step a.dirty (s.abandonFlush f) ∧
      (s.abandonFlush f).med = { a.med with updates := [], builders := [], jpend := [], rels := [] } ∧
      (s.abandonFlush f).rgr = (a.givenUp f).rgr ∧ (s.abandonFlush f).cur = a.cur := by
  have hrom : (a.givenUpShown f).phase ≠ stRomRecovery := by
    rw [State.phase, a.givenUpShown_rd f (by decide) (by decide)]
    exact ne_romRecovery_of_flushing hphase
  have hnow : (a.givenUpShown f).now = a.now := a.givenUpShown_rd f (by decide) (by decide)
  rw [State.abandonFlush_eq ha, State.log_eq hrom, hnow]
  exact ⟨State.flushMod_flush (s := { a.givenUpShown f with evq := _ }) hf _, rfl, rfl, rfl, rfl⟩

theorem State.lostRecords_before_7 {f : Flush} {s : State} (hf : s.gov.flush = some f) (hstep : f.step < 7) :
    s.lostRecords = SMap.keys s.rgr.buf := by rw [State.lostRecords, hf]; exact if_pos hstep

theorem State.lostRecords_after_7 {f : Flush} {s : State} (hf : s.gov.flush = some f) (hstep : 7 < f.step) :
    s.lostRecords = [] := by
  rw [State.lostRecords, hf]
  exact (if_neg (by omega)).trans (if_neg (by omega))

theorem keep_not_keys {α : Type} (m : SMap α) : SMap.keep (fun k _ => !(SMap.keys m).contains k) m = [] := by
  refine List.filter_eq_nil_iff.mpr fun e he => ?_
  simp only [SMap.keys, Bool.not_eq_true', Bool.not_eq_false, List.contains_iff_mem]
  exact List.mem_map_of_mem he

/-- Past step 2 no call is interrupted again. -/
theorem flushAbandon_past_2 {f : Flush} {s : State} (hphase : s.phase = stFlushing) (hf : s.gov.flush = some f)
    (hdue : f.abandonDue = true) (hstep : f.step ≤ 8)
    (hupdates : s.med.updates.all (fun u => u.dataDone == u.parDone) = true) (h7 : f.step ≠ 7) (h2 : 2 < f.step)
    (hparts : s.med.parts = []) :
    Answers .flushAbandon s fun t => t.gov.flush = some { f with
        step := 9, abandoned := true, abandonDue := false, ranges := s.chargedRanges, updates := s.openPairs,
        regLost := (if f.step < 7 then s.rgr.buf.length else 0) } ∧
      s.Logged E.PWR_PG_ABANDON 0 f.step s.dirty t ∧
      t.med = { s.med with updates := [], builders := [], jpend := [], rels := [] } ∧
      (f.step < 7 → t.rgr.step7 = some (s.rd D.REC_HEAD_seq) ∧ t.rgr.buf = []) := by
  have hcalls : s.abandonCalls f = s := if_neg (by omega)
  obtain ⟨hflush, hlogged, hmed, hrgr, -⟩ := State.abandonFlush_parts hcalls hphase hf
  have hlost : s.lostRecords.length = if f.step < 7 then s.rgr.buf.length else 0 := by
    split
    · next h => rw [State.lostRecords_before_7 hf h, SMap.keys, List.length_map]
    · next h => rw [State.lostRecords_after_7 hf (by omega), List.length_nil]
  have hexec := exec_flushAbandon hphase hf hdue hstep hupdates hparts
  generalize s.abandonFlush f = t at hexec hflush hlogged hmed hrgr
  refine answers_of_exists ⟨t, hexec, hlost ▸ hflush, hlogged, hmed, fun hlt => ⟨?_, ?_⟩⟩
  · exact (congrArg Registrar.step7 hrgr).trans (if_pos hlt)
  · rw [hrgr, State.givenUp, State.lostRecords_before_7 hf hlt]
    exact keep_not_keys s.rgr.buf

/-- In step 2 the calls are interrupted all the same (R87). -/
theorem flushAbandon_in_2 {f : Flush} {s : State} (hphase : s.phase = stFlushing) (hf : s.gov.flush = some f)
    (hdue : f.abandonDue = true) (hupdates : s.med.updates.all (fun u => u.dataDone == u.parDone) = true)
    (h2 : f.step = 2) (hparts : s.med.parts = []) (hsb : ∀ c ∈ SMap.keys s.cur.ctxs, (s.ctx c).sb = [])
    (hnodup : (SMap.keys s.cur.ctxs).Nodup) :
    Answers .flushAbandon s fun t => t.cur.interrupted = s.cur.interrupted ++ s.busyCtxs.map s.interruption ∧
      (∀ c, (t.ctx c).st = .idle) ∧ s.Logged E.PWR_PG_ABANDON 0 2 s.dirty t ∧
      ∃ g, t.gov.flush = some g ∧ g.step = 9 ∧ g.abandoned = true := by
  have hdrop : s.busyCtxs.foldl State.sbDropAll s = s :=
    foldl_eq_self fun c hc => State.sbDropAll_empty (hsb c (State.mem_busyCtxs.mp hc).1)
  have hcalls : s.abandonCalls f = s.busyCtxs.foldl State.interrupt s := by
    simp only [State.abandonCalls, h2, le_refl, if_true, hdrop]
  obtain ⟨hint, hidle, honly⟩ := State.interrupt_busyCtxs hsb hnodup
  generalize s.busyCtxs.foldl State.interrupt s = a at hcalls hint hidle honly
  have hregs : a.regs = s.regs := honly .regs (by decide)
  have hgov : a.gov = s.gov := honly .gov (by decide)
  have hevq : a.evq = s.evq := honly .evq (by decide)
  have hcoh : a.coh = s.coh := honly .coh (by decide)
  obtain ⟨hflush, hlogged, -, -, hcur⟩ := State.abandonFlush_parts hcalls
    ((State.rd_of_regs hregs _ _).trans hphase) (hgov ▸ hf)
  have hlogged' : s.Logged E.PWR_PG_ABANDON 0 2 s.dirty (s.abandonFlush f) := by
    rw [State.Logged, hlogged, hevq, h2, State.now, State.now, State.rd_of_regs hregs, State.dirty, State.dirty, hcoh]
  have hexec := exec_flushAbandon hphase hf hdue (by omega) hupdates hparts
  generalize s.abandonFlush f = t at hexec hflush hlogged' hcur
  refine answers_of_exists ⟨t, hexec, ?_, fun c => ?_, hlogged', _, hflush, rfl, rfl⟩
  · exact (congrArg Cur.interrupted hcur).trans hint
  · exact (congrArg (fun x : Cur => (SMap.get Ctx.init x.ctxs c).st) hcur).trans (hidle c)

/-- Settles O5: each step's condition decides what its command answers; the record comes before the restart, and an abandonment
passes to step 9. -/
theorem flushStepsRun : Obligations.FlushStepsRun := by
  unfold Obligations.FlushStepsRun
  refine ⟨?storeBuffers, ?storesWait, ?wings, ?staging, ?noOutbound, ?oneOutbound, ?delivery, ?tail, ?registrar, ?staged,
    ?stagedWaits, ?journalFloor, ?journal, ?recordRestart, ?recordDown, ?holdEnds, ?watchAtReserve, ?watchAbove, ?abandonLate,
    ?abandonCalls, ?abandonWaits⟩
  case storeBuffers =>
    exact fun _ _ hphase hf hstep htxns hconf hsb hnodup hdrain =>
      flushStoreDrainDone_interrupts hphase hf hstep htxns hconf hsb hnodup hdrain
  case storesWait => exact fun _ _ _ _ _ hwrite => flushStoreDrainDone_waits hwrite
  case wings => exact fun _ _ hphase hf hstep => flushWingWritebackDone_answers hphase hf hstep
  case staging => exact fun _ _ hphase hf hstep => flushStagingMoveDone_answers hphase hf hstep
  case noOutbound =>
    exact fun _ _ hphase hf hstep hlent houtb heab => flushForwardHold_empty hphase hf hstep hlent houtb heab
  case oneOutbound =>
    exact fun _ _ _ _ hphase hf hstep hlent houtb hmask hfwd heab =>
      flushForwardHold_one hphase hf hstep hlent houtb hmask hfwd heab
  case delivery => exact fun _ _ hphase hf hstep houtb heab => flushDeliveryDone_answers hphase hf hstep houtb heab
  case tail => exact fun _ _ hphase hf hstep hj hc => flushJournalTailDone_answers hphase hf hstep hj hc
  case registrar => exact fun _ _ _ hphase hf hstep hn => flushRegistrarDone_answers hphase hf hstep hn
  case staged =>
    exact fun _ _ hphase hf hstep hstaged hgdirty hbuilders hupdates hmoves =>
      flushStagingWriteDone_answers hphase hf hstep hstaged hgdirty hbuilders hupdates hmoves
  case stagedWaits => exact fun _ _ _ _ _ hstaged hkeys => flushStagingWriteDone_waits hstaged hkeys
  case journalFloor => exact fun _ _ hphase hf hstep hfloor => flushJournalDone_floor hphase hf hstep hfloor
  case journal => exact fun _ _ hphase hf hstep hfloor => flushJournalDone_drains hphase hf hstep hfloor
  case recordRestart =>
    intro f s hphase hf hstep _ hboot hevq hinok
    obtain ⟨t, hexec, ⟨hvalid, habandoned, hcause, htime, hstart, hhead, hcopy⟩, hrest⟩ :=
      flushRecordDone_restarts hphase hf hstep hboot hevq hinok
    exact ⟨t, hexec, hvalid, habandoned, hcause, htime, hstart, hhead, hcopy, hrest⟩
  case recordDown =>
    intro f s hphase hf hstep _ hboot hevq hinok hne hen
    obtain ⟨t, hexec, ⟨hvalid, habandoned, hcause, htime, hstart, hhead, hcopy⟩, hrest⟩ :=
      flushRecordDone_powers_down hphase hf hstep hboot hevq hinok hne hen
    exact ⟨t, hexec, hvalid, habandoned, hcause, htime, hstart, hhead, hcopy, hrest⟩
  case holdEnds => exact fun _ hphase hboot => resetHoldEnd_answers hphase hboot
  case watchAtReserve =>
    exact fun _ s hphase hf hstep hwatch habandoned heu =>
      answers_of_exec (flushEnergyCheck_at_reserve hphase hf hstep hwatch habandoned heu) rfl
        ⟨State.flushMod_flush hf _, s.only_gov _⟩
  case watchAbove => exact fun _ _ _ hf _ h => answers_of_exec (flushEnergyCheck_above_reserve hf h) rfl rfl
  case abandonLate =>
    exact fun _ _ hphase hf hdue hstep hupdates h7 h2 hparts =>
      flushAbandon_past_2 hphase hf hdue hstep hupdates h7 h2 hparts
  case abandonCalls =>
    exact fun _ _ hphase hf hdue _ hupdates h2 hparts hsb hnodup =>
      flushAbandon_in_2 hphase hf hdue hupdates h2 hparts hsb hnodup
  case abandonWaits => exact fun _ _ _ hf _ _ _ hparts => flushAbandon_waits hf hparts

end Sys2Proof.Machine
end

section
/-! SUPPORT. A write-back in place of a leaf that is not written yet (R133): the parity image of the update it opens, and a
stripe record whose parity position lies outside its row, for which that image is not the one the statement gives. -/

namespace Sys2Proof.Machine

theorem State.rmwCount_updates (s : State) (p : Nat) (errs : Image) : (s.rmwCount p errs).med.updates = s.med.updates := by
  unfold State.rmwCount
  dsimp only
  split <;> rfl

/-- The parity image of an update is the XOR of what the read of the old parity gives, what the read of the old data gives, and
the new data (R133 step 4). -/
theorem State.openUpdate_updates {s : State} {t : Nat} {k : Bytes} (hk : s.baseKey t = some k) (n p seq : Nat)
    (plain : BitVec 2048) (errs perrs : Image) : ∃ a u, s.openUpdate t n p seq plain errs perrs = some a ∧
      a.med.updates = s.med.updates ++ [u] ∧ u.newPar =
        s.rmwImage (tileOfMember (stripeOf p) (s.stripe (stripeOf p)).ppos) n perrs ^^^ s.rmwImage p n errs ^^^ u.newData := by
  let new := buildImage k (s.stripe (stripeOf p)).light t n s.now plain
  rw [State.openUpdate, hk]
  refine ⟨_, ⟨stripeOf p, n, some t, memberOf p, new,
    s.rmwImage (tileOfMember (stripeOf p) (s.stripe (stripeOf p)).ppos) n perrs ^^^ s.rmwImage p n errs ^^^ new,
    false, false, seq⟩, rfl, ?_, rfl⟩
  dsimp only
  split <;> simp only [State.rmwCount_updates, new]

theorem State.oldPlain_of_unwritten {s : State} {t n : Nat} (h : (s.catEnt t).written.getLsbD n = false) (errs : Image) :
    s.oldPlain t n errs = some 0 := if_pos (.inr h)

theorem State.placeFor_of_unwritten {s : State} {t n : Nat} (hst : (s.catEnt t).st = .mapped)
    (h : (s.catEnt t).written.getLsbD n = false) (pick : Nat) :
    s.placeFor t n pick = some ((s.catEnt t).phys, s.med.jnext, s.journal 3 t (2 ^ n) 0) := by
  simp only [State.placeFor, hst, h, Bool.false_eq_true, if_false]

/-- A leaf of a mapped user tile, not written yet and dirty in staging, whose write-back need not wait: the conditions of the
statement's clause on INPLACE_WRITEBACK but those on the wrong bits. -/
abbrev State.WritesBack (s : State) (tile : Fin 536870912) (leaf : Fin 64) (k : Bytes) : Prop :=
  let p := (s.catEnt tile).phys
  let r := s.stripe (stripeOf p)
  s.atStep 8 = false ∧ isSysTile tile = false ∧ s.dirtyOfLeaf tile leaf ≠ [] ∧ s.inPlace tile = true ∧
    s.heldTile tile = false ∧ s.med.stg.all (fun e => !e.2.poison) = true ∧ (s.catEnt tile).st = .mapped ∧
    (s.catEnt tile).written.getLsbD leaf = false ∧ s.baseKey tile = some k ∧ s.updating (stripeOf p) leaf = false ∧
    s.unavail (partKey p) = false ∧ r.exposed = none ∧ s.unavail (memberPart p r.ppos) = false

theorem inplaceWriteback_opens {s : State} {tile : Fin 536870912} {leaf : Fin 64} {k : Bytes} (h : s.WritesBack tile leaf k)
    (pick : Fin 33554432) (errs perrs : Image) : ∃ t u, exec (.inplaceWriteback tile leaf (pick, errs, perrs)) s = .next t ∧
      t.med.updates = s.med.updates ++ [u] ∧ u.newPar =
        s.rmwImage (tileOfMember (stripeOf (s.catEnt tile).phys) (s.stripe (stripeOf (s.catEnt tile).phys)).ppos) leaf perrs ^^^
          s.rmwImage (s.catEnt tile).phys leaf errs ^^^ u.newData := by
  obtain ⟨h8, hsys, hdirty, hin, hheld, hpoison, hst, hwritten, hk, hupdating, hdata, hexposed, hpar⟩ := h
  let s1 := s.journal 3 tile (2 ^ leaf.val) 0
  obtain ⟨a, u, hopen, hupdates, hnew⟩ := State.openUpdate_updates (s := s1) hk leaf (s.catEnt tile).phys s.med.jnext
    (s1.mergeStaged tile leaf 0) errs perrs
  have hbad : s.med.stg.filter (fun e => decide (e.1 / 4 = tile.val * 64 + leaf.val) && e.2.poison) = [] :=
    List.filter_eq_nil_iff.mpr fun e he => by simpa using fun _ => List.all_eq_true.mp hpoison e he
  have hplain := State.oldPlain_of_unwritten hwritten errs
  have hplace := State.placeFor_of_unwritten hst hwritten pick
  have hwaits : s1.writeWaits (s.catEnt tile).phys leaf = false := by
    change s.writeWaits _ _ = false
    simp [State.writeWaits, hupdating, hdata, hexposed, hpar]
  have hback : s.writeBack tile leaf pick errs perrs = a := by
    simp only [State.writeBack, hdirty, hin, hheld, hbad, List.map_nil, List.foldl_nil, hplain, hplace, hwaits, hopen,
      Option.getD_some, or_self, Bool.true_eq_false, Bool.false_eq_true, if_false, s1]
  refine ⟨a, u, ?_, hupdates, hnew⟩
  change execInplaceWriteback tile leaf (pick, errs, perrs) s = _
  simp [execInplaceWriteback, h8, hsys, hback]

/-! A record's parity position is a plain number; the members of a row are numbered below 16 (R106). -/

/-- Tile 5 is mapped to stripe 100, of the STRONG code, whose record has parity position 16, and a line of its leaf 3 is dirty. The
tile that this position names lies in a stripe of the other half, of the LIGHT code, and its leaf 3 is not the zero image. -/
def parityPastRow : State :=
  { State.reset.wr D.GBL_STAT_state stOpen with
    regions := [(0, { Region.init 0 with attr := { Attr.default with keyslot := 0 } })], slots := [(0, ⟨.aes128, 0, 7⟩)]
    med := { Media.init with
      cat := [(5, ⟨.mapped, false, false, 0, 100, 0⟩)]
      stg := [((5 * 64 + 3) * 4, ⟨9, fullMask, false, true⟩)]
      stripes := [(100, { StripeRec.init 100 with ppos := 16 }), (2 ^ 24 + 100, { StripeRec.init (2 ^ 24 + 100) with light := true })]
      img := [(tileOfMember 100 16 * 64 + 3, 1)] } }

/-- Five wrong bits in one codeword: the STRONG code corrects them and the LIGHT code does not (R103). -/
def fiveErrs : Image := 0x1F

theorem parityPastRow_writesBack : parityPastRow.WritesBack 5 3 (leBytes 7 16) := by decide +kernel

/-- The read of the old parity does not decode in the code of the stripe that the tile lies in, and gives the XOR of that stripe's
other members, the zero image, in place of the image stored. -/
theorem parityPastRow_reads : (parityPastRow.catEnt (5 : Fin 536870912)).phys = 100 ∧
    (parityPastRow.stripe (stripeOf 100)).ppos = 16 ∧
    parityPastRow.rmwImage (tileOfMember (stripeOf 100) 16) (3 : Fin 64) fiveErrs = 0 ∧
    parityPastRow.imageNow (tileOfMember (stripeOf 100) 16) (3 : Fin 64) = 1 ∧
    parityPastRow.rmwImage 100 (3 : Fin 64) 0 = parityPastRow.imageNow 100 (3 : Fin 64) := by
  decide +kernel

/-- Refutes O6: its last clause takes the old parity image from the parity position of the tile's stripe as stored, but asks only
that the wrong bits of that read decode in the code of the tile's stripe. Where the record's parity position is no member of a row,
the read is of another stripe, of the other code, does not decode there, and is reconstructed to another image. -/
theorem not_mediaLeavesReadAndWrite : ¬ Obligations.MediaLeavesReadAndWrite := by
  rintro ⟨-, -, -, -, -, -, -, -, -, -, -, -, -, -, -, hopens⟩
  obtain ⟨h8, hsys, hdirty, hin, hheld, hpoison, hst, hwritten, hk, hupdating, hdata, hexposed, hpar⟩ := parityPastRow_writesBack
  obtain ⟨t, hexec, u, hupdates, -, -, -, -, hnew, -⟩ := hopens 5 3 0 0 fiveErrs _ parityPastRow h8 hsys (by decide +kernel)
    (by decide +kernel) hdirty hin hheld hpoison hst hwritten hk hupdating hdata hexposed hpar
  obtain ⟨t', v, hexec', hupdates', hnew'⟩ := inplaceWriteback_opens parityPastRow_writesBack 0 0 fiveErrs
  obtain rfl : t' = t := Host.Outcome.next.inj (hexec'.symm.trans hexec)
  obtain rfl : v = u := List.singleton_inj.mp (List.append_cancel_left (hupdates'.symm.trans hupdates))
  obtain ⟨hphys, hppos, hread, hstored, hold⟩ := parityPastRow_reads
  rw [hphys, hppos, hread, hold] at hnew'
  rw [hphys, hppos, hstored, hnew', BitVec.xor_left_inj, BitVec.xor_left_inj] at hnew
  exact absurd hnew (by decide +kernel)

end Sys2Proof.Machine
end

section
/-! SUPPORT. The journal and its checkpoints (R112 to R116). -/

namespace Sys2Proof.Machine

/-! Events, register writes and the spare state leave the media records. -/

@[simp] theorem State.log_med (s : State) (code inst aux arg : Nat) (inj : Bool) : (s.log code inst aux arg inj).med = s.med := by
  unfold State.log State.holdAon
  dsimp only
  (repeat' split) <;> rfl

@[simp] theorem State.spareCheck_med (s : State) : s.spareCheck.med = s.med := by
  unfold State.spareCheck
  dsimp only
  (repeat' split) <;> simp

/-! Entries on media. -/

theorem find_foldl_ins_of_not_mem {l : List JEnt} {m : SMap JEnt} {k : Nat} (h : k ∉ l.map JEnt.seq) :
    SMap.find (l.foldl (fun a e => SMap.ins a e.seq e) m) k = SMap.find m k := by
  induction l generalizing m with
  | nil => rfl
  | cons e l ih =>
    rw [List.map_cons, List.mem_cons, not_or] at h
    rw [List.foldl_cons, ih h.2, SMap.find_ins_ne _ _ (Ne.symm h.1)]

/-- Entries with different sequence numbers are all found where they were put. -/
theorem find_foldl_ins_of_mem {l : List JEnt} (m : SMap JEnt) (hnodup : (l.map JEnt.seq).Nodup) {e : JEnt} (he : e ∈ l) :
    SMap.find (l.foldl (fun a e => SMap.ins a e.seq e) m) e.seq = some e := by
  induction l generalizing m with
  | nil => cases he
  | cons x l ih =>
    rw [List.map_cons, List.nodup_cons] at hnodup
    rw [List.foldl_cons]
    rcases List.mem_cons.mp he with rfl | he
    · rw [find_foldl_ins_of_not_mem hnodup.1, SMap.find_ins_same]
    · exact ih _ hnodup.2 he

/-! The effect of entries: the catalogue changes, and an unknown type is an event (Table 4.7). -/

/-- Of the media records the catalogue alone differs, and the journal is written as far as it was. -/
structure State.Catalogued (s t : State) : Prop where
  med : ∃ c, t.med = { s.med with cat := c }
  seq : t.rd D.MED_JRNLSEQ_seq = s.rd D.MED_JRNLSEQ_seq

theorem State.Catalogued.refl (s : State) : s.Catalogued s := ⟨⟨s.med.cat, rfl⟩, rfl⟩

theorem State.Catalogued.trans {s t u : State} (h : s.Catalogued t) (g : t.Catalogued u) : s.Catalogued u := by
  obtain ⟨c, hc⟩ := h.med
  obtain ⟨d, hd⟩ := g.med
  exact ⟨⟨d, by rw [hd, hc]⟩, g.seq.trans h.seq⟩

theorem State.catalogued_foldl {α : Type} {f : State → α → State} (h : ∀ (a : State) x, a.Catalogued (f a x)) (l : List α)
    (s : State) : s.Catalogued (l.foldl f s) := by
  induction l generalizing s with
  | nil => exact .refl s
  | cons x l ih => exact (h s x).trans (ih _)

theorem State.catalogued_applyJ (s : State) (e : JEnt) : s.Catalogued (s.applyJ e) := by
  have hset (c : SMap CatEnt) : s.Catalogued { s with med := { s.med with cat := c } } := ⟨⟨c, rfl⟩, rfl⟩
  unfold State.applyJ
  dsimp only
  split
  case h_9 | h_10 => exact .refl s
  case h_12 => exact ⟨⟨s.med.cat, by rw [State.log_med]⟩, (s.near_log ..).rd _ _ (by decide)⟩
  all_goals exact hset _

theorem State.catalogued_applyWritten (s : State) (l : List JEnt) : s.Catalogued (s.applyWritten l) := by
  refine State.catalogued_foldl (fun a e => ?_) _ _
  split
  · refine State.catalogued_foldl (fun b i => ?_) _ _
    split
    · exact b.catalogued_applyJ _
    · exact .refl b
  · exact .refl a

/-- An entry on its own, once on media, has its effect. -/
theorem State.applyWritten_alone {s : State} {e : JEnt} (hcount : e.gcount = 1) (hindex : e.gindex = 0)
    (hfind : SMap.find s.med.jrnl e.seq = some e) : s.applyWritten [e] = s.applyJ e := by
  simp [State.applyWritten, hcount, hindex, hfind]

theorem State.applyWritten_cons (s : State) (e : JEnt) (l : List JEnt) :
    s.applyWritten (e :: l) = (s.applyWritten [e]).applyWritten l := rfl

/-- PAD entries change nothing. -/
theorem State.applyWritten_pads {s : State} {l : List JEnt} (h : ∀ e ∈ l, e.type = 0x0A ∧ e.gcount = 1 ∧ e.gindex = 0 ∧
    SMap.find s.med.jrnl e.seq = some e) : s.applyWritten l = s := by
  induction l with
  | nil => rfl
  | cons e l ih =>
    obtain ⟨htype, hcount, hindex, hfind⟩ := h e (by simp)
    have hpad : s.applyJ e = s := by simp only [State.applyJ, htype]
    rw [State.applyWritten_cons, State.applyWritten_alone hcount hindex hfind, hpad]
    exact ih fun x hx => h x (by simp [hx])

/-! One journal leaf (R113). -/

/-- The PAD entries that fill a leaf with one entry. -/
def State.padding (s : State) : List JEnt := (List.range 7).map (fun i => ⟨s.med.jnext + i, 0x0A, 1, 0, 0, 0, 0⟩)

theorem State.journalLeaf_one {s : State} {e : JEnt} (h : s.med.jpend = [e]) :
    s.journalLeaf = (e :: s.padding, s.med.jnext + 7) := by
  rw [State.journalLeaf, h]
  rfl

/-- The state with a leaf of one entry on media. -/
def State.leafPut (s : State) (e : JEnt) : State :=
  ({ s with med := { s.med with
      jrnl := (e :: s.padding).foldl (fun a e => SMap.ins a e.seq e) s.med.jrnl
      jpend := [], jnext := s.med.jnext + 7 } } : State).wr D.MED_JRNLSEQ_seq (s.med.jnext + 6)

/-- The state with the entry of that leaf applied. -/
def State.leafWritten (s : State) (e : JEnt) : State := ((s.leafPut e).applyWritten (e :: s.padding)).journalFill

theorem State.leafWritten_med (s : State) (e : JEnt) : ∃ c, (s.leafWritten e).med = { s.med with
    jrnl := (e :: s.padding).foldl (fun a e => SMap.ins a e.seq e) s.med.jrnl, jpend := [], jnext := s.med.jnext + 7, cat := c } := by
  obtain ⟨c, hc⟩ := (State.catalogued_applyWritten (s.leafPut e) (e :: s.padding)).med
  refine ⟨c, ?_⟩
  rw [State.leafWritten, State.journalFill, State.wr_med, hc, State.leafPut, State.wr_med]

theorem State.leafWritten_seq (s : State) (e : JEnt) :
    (s.leafWritten e).rd D.MED_JRNLSEQ_seq = (s.med.jnext + 6) % D.MED_JRNLSEQ_seq.cap := by
  rw [State.leafWritten, State.journalFill, State.rd_wr_ne _ _ _ _ _ _ (by decide),
    (State.catalogued_applyWritten _ _).seq, State.leafPut, State.rd_wr_same]

/-- A WRITTEN entry with nothing waiting for it is written in one leaf, after which a checkpoint starts if it is due (R115). -/
theorem State.journalWrite_written {s : State} {e : JEnt} (hj : s.med.jpend = [e]) (htype : e.type = 3) (hrels : s.med.rels = [])
    (hfull : s.journalFull = false) : s.journalWrite =
      if ckptEntries ≤ (s.leafWritten e).uncovered then (s.leafWritten e).checkpoint else s.leafWritten e := by
  have hlast : ((e :: s.padding).getLast?.map JEnt.seq).getD 0 = s.med.jnext + 6 := rfl
  have hspare : (e :: s.padding).any (fun e => decide (e.type = 1 ∨ e.type = 2)) = false := by
    simp [State.padding, htype]
  have hrels' : (s.leafWritten e).med.rels = [] := by
    obtain ⟨c, hc⟩ := s.leafWritten_med e
    rw [hc, hrels]
  have hself (a : State) (h : a.med.rels = []) : ({ a with med := { a.med with rels := [] } } : State) = a := by
    rw [← h]
  have hput : ({ s with med := { s.med with
      jrnl := (e :: s.padding).foldl (fun a e => SMap.ins a e.seq e) s.med.jrnl
      jpend := [], jnext := s.med.jnext + 7 } } : State).wr D.MED_JRNLSEQ_seq (s.med.jnext + 6) = s.leafPut e := rfl
  have hwritten : ((s.leafPut e).applyWritten (e :: s.padding)).journalFill = s.leafWritten e := rfl
  unfold State.journalWrite
  simp only [hj, hfull, State.journalLeaf_one hj, hlast, hspare, List.cons_ne_nil, if_false, Bool.false_eq_true,
    List.drop_succ_cons, List.drop_nil, hput, hwritten, hrels', List.filter_nil, List.foldl_nil, hself _ hrels']

/-- The entries of such a leaf have different sequence numbers, where the one that waited has an older one than any to come. -/
theorem State.leaf_seqs_nodup {s : State} {e : JEnt} (h : e.seq < s.med.jnext) : ((e :: s.padding).map JEnt.seq).Nodup := by
  rw [List.map_cons, List.nodup_cons, State.padding, List.map_map]
  refine ⟨fun hmem => ?_, (List.nodup_range).map fun i j hij => ?_⟩
  · obtain ⟨i, -, hi⟩ := List.mem_map.mp hmem
    simp only [Function.comp_apply] at hi
    omega
  · simpa using hij

/-- The leaf has the effect of the entry that waited. -/
theorem State.applyWritten_leafPut {s : State} {e : JEnt} (hcount : e.gcount = 1) (hindex : e.gindex = 0)
    (hseq : e.seq < s.med.jnext) : (s.leafPut e).applyWritten (e :: s.padding) = (s.leafPut e).applyJ e := by
  have hfind (x : JEnt) (hx : x ∈ e :: s.padding) : SMap.find (s.leafPut e).med.jrnl x.seq = some x :=
    find_foldl_ins_of_mem s.med.jrnl (State.leaf_seqs_nodup hseq) hx
  generalize s.leafPut e = a at hfind
  obtain ⟨c, hc⟩ := (a.catalogued_applyJ e).med
  rw [State.applyWritten_cons, State.applyWritten_alone hcount hindex (hfind e (by simp))]
  refine State.applyWritten_pads fun x hx => ?_
  have hx' := hfind x (List.mem_cons_of_mem e hx)
  obtain ⟨i, -, rfl⟩ := List.mem_map.mp hx
  exact ⟨rfl, rfl, rfl, by rw [hc]; exact hx'⟩

theorem exec_journalWrite (s : State) : exec .journalWrite s = .next s.journalWrite := rfl

theorem journalWrite_applies {e : JEnt} {s : State} (hj : s.med.jpend = [e]) (htype : e.type = 3) (hcount : e.gcount = 1)
    (hindex : e.gindex = 0) (hseq : e.seq < s.med.jnext) (hrels : s.med.rels = []) (hfull : s.journalFull = false)
    (hdue : s.med.jnext + 7 < ckptEntries) : Answers .journalWrite s fun t =>
      (t.catEnt e.tile).written = (s.catEnt e.tile).written ||| BitVec.ofNat 64 e.arg0 ∧ t.med.jpend = [] ∧
        SMap.find t.med.jrnl e.seq = some e ∧ t.med.jnext = s.med.jnext + 7 := by
  have hmod := Nat.mod_le (s.med.jnext + 6) D.MED_JRNLSEQ_seq.cap
  have hno : ¬ ckptEntries ≤ (s.leafWritten e).uncovered := by
    rw [State.uncovered, s.leafWritten_seq e]
    omega
  have hwrite : s.journalWrite = s.leafWritten e := by rw [State.journalWrite_written hj htype hrels hfull, if_neg hno]
  have happly : s.leafWritten e = ((s.leafPut e).applyJ e).journalFill := by
    rw [State.leafWritten, State.applyWritten_leafPut hcount hindex hseq]
  have hcat : (s.leafWritten e).catEnt e.tile =
      { s.catEnt e.tile with written := (s.catEnt e.tile).written ||| BitVec.ofNat 64 e.arg0 } := by
    rw [happly, State.applyJ, htype]
    exact SMap.get_put_same ..
  have hjrnl := find_foldl_ins_of_mem s.med.jrnl (State.leaf_seqs_nodup hseq) (e := e) (by simp)
  obtain ⟨c, hc⟩ := s.leafWritten_med e
  generalize s.leafWritten e = t at hwrite hcat hc
  refine answers_of_exists ⟨t, by rw [exec_journalWrite, hwrite], congrArg CatEnt.written hcat, ?_⟩
  dsimp only
  rw [hc]
  exact ⟨rfl, hjrnl, rfl⟩

/-! Checkpoints (R115). -/

theorem State.checkpoint_starts {s : State} (h : s.med.ckpt = none) : s.checkpoint.rd D.MED_CKPT_running = 1 ∧
    s.checkpoint.med.ckpt.map Prod.snd = some s.med.jnext ∧ s.checkpoint.med.jpend.length = s.med.jpend.length + 1 ∧
      s.Only [.regs, .med] s.checkpoint := by
  have hrun (a : State) (m : Media) : ({ a.wr D.MED_CKPT_running 1 with med := m } : State).rd D.MED_CKPT_running = 1 :=
    a.rd_wr_same D.MED_CKPT_running 1 0
  simp only [State.checkpoint, h, Option.isSome_none, Bool.false_eq_true, if_false]
  exact ⟨hrun _ _, rfl, by simp [State.journal, State.jAdd], (((State.Only.refl s _).med _).wr _ _ _).med _⟩

theorem checkpoint_answers {s : State} (h : s.med.ckpt = none) : Answers .checkpoint s fun t => t.rd D.MED_CKPT_running = 1 ∧
    t.med.ckpt.map Prod.snd = some s.med.jnext ∧ t.med.jpend.length = s.med.jpend.length + 1 ∧ s.Only [.regs, .med] t :=
  answers_of_exec rfl ((State.checkpoint_starts h).2.2.2 .tcnt (by decide)) (State.checkpoint_starts h)

theorem journalWrite_starts_checkpoint {e : JEnt} {s : State} (hj : s.med.jpend = [e]) (htype : e.type = 3)
    (hrels : s.med.rels = []) (hfull : s.journalFull = false) (hckpt : s.med.ckpt = none)
    (hdue : ckptEntries + max 1 s.ckptS ≤ s.med.jnext + 7) (hcap : s.med.jnext + 7 < D.MED_JRNLSEQ_seq.cap) :
    Answers .journalWrite s fun t => t.med.ckpt.map Prod.snd = some (s.med.jnext + 7) ∧ t.rd D.MED_CKPT_running = 1 := by
  obtain ⟨c, hc⟩ := s.leafWritten_med e
  have hS : (s.leafWritten e).ckptS = s.ckptS := by rw [State.ckptS, State.ckptS, hc]
  have hyes : ckptEntries ≤ (s.leafWritten e).uncovered := by
    rw [State.uncovered, s.leafWritten_seq e, hS, Nat.mod_eq_of_lt (by omega)]
    omega
  have hwrite : s.journalWrite = (s.leafWritten e).checkpoint := by
    rw [State.journalWrite_written hj htype hrels hfull, if_pos hyes]
  generalize s.leafWritten e = a at hwrite hc
  obtain ⟨hrun, hnext, -, -⟩ := State.checkpoint_starts (s := a) (by rw [hc]; exact hckpt)
  rw [hc] at hnext
  exact answers_of_exists ⟨a.checkpoint, by rw [exec_journalWrite, hwrite], hnext, hrun⟩

theorem journalWrite_full {s : State} (hj : s.med.jpend ≠ []) (hfull : s.journalFull = true) (hrom : s.phase ≠ stRomRecovery) :
    Answers .journalWrite s fun t => s.Logged E.MED_JRNL_FULL 0 0 (s.rd D.MED_JRNLSEQ_seq) t ∧ s.Only [.evq] t := by
  have hwrite : s.journalWrite = s.log E.MED_JRNL_FULL 0 0 (s.rd D.MED_JRNLSEQ_seq) := by simp [State.journalWrite, hj, hfull]
  have hlog := s.log_logged E.MED_JRNL_FULL 0 0 (s.rd D.MED_JRNLSEQ_seq) hrom
  exact answers_of_exec (by rw [exec_journalWrite, hwrite]) (hlog.2 .tcnt (by decide)) hlog

theorem checkpointDone_answers {k q : Nat} {s : State} (hckpt : s.med.ckpt = some (k, q)) (hseq : q ≤ s.rd D.MED_JRNLSEQ_seq) :
    Answers .checkpointDone s fun t => t.med.ckpt = none ∧ SMap.find t.med.copies k = some ⟨q, true, s.med.cat⟩ ∧
      t.rd D.MED_CKPT_running = 0 ∧ s.Only [.regs, .med] t := by
  let s1 : State := { s with med := { s.med with
    ckpt := none, copies := SMap.ins s.med.copies k ⟨q, true, s.med.cat⟩
    jrnl := SMap.keep (fun i _ => decide ((q - 1) / 8 * 8 < i)) s.med.jrnl } }
  let s2 := ((s1.wr D.MED_CKPT_running 0).wr D.MED_CKPT_copy k).wr D.MED_CKPT_s q
  have hexec : execCheckpointDone s = .next s2.journalFill := by
    simp only [execCheckpointDone, hckpt, Nat.not_lt.mpr hseq, if_false, s2, s1]
  have hrun : s2.journalFill.rd D.MED_CKPT_running = 0 := by
    rw [State.journalFill, State.rd_wr_ne _ _ _ _ _ _ (by decide), State.rd_wr_ne _ _ _ _ _ _ (by decide),
      State.rd_wr_ne _ _ _ _ _ _ (by decide), State.rd_wr_same, Nat.zero_mod]
  exact answers_of_exec hexec rfl ⟨rfl, SMap.find_ins_same .., hrun,
    (((((State.Only.refl s _).med _).wr _ _ _).wr _ _ _).wr _ _ _).wr _ _ _⟩

end Sys2Proof.Machine
end

section
/-! SUPPORT. Stripe builders (R136 to R140). -/

namespace Sys2Proof.Machine

/-! Writing leaves (R107, R137): images, and what the records of their tiles count. -/

/-- Images, what is counted of their tiles, and the tally's counters alone differ. -/
def State.Imaged (s t : State) : Prop :=
  ∃ img ltime tiles n, t = { s with med := { s.med with img := img, ltime := ltime, tiles := tiles }, tcnt := n }

theorem State.Imaged.refl (s : State) : s.Imaged s := ⟨_, _, _, _, rfl⟩

theorem State.Imaged.trans {s t u : State} (h : s.Imaged t) (g : t.Imaged u) : s.Imaged u := by
  obtain ⟨_, _, _, _, rfl⟩ := h
  obtain ⟨i, l, ts, n, rfl⟩ := g
  exact ⟨i, l, ts, n, rfl⟩

theorem State.imaged_foldl {α : Type} {f : State → α → State} (h : ∀ (a : State) x, a.Imaged (f a x)) (l : List α)
    (s : State) : s.Imaged (l.foldl f s) := by
  induction l generalizing s with
  | nil => exact .refl s
  | cons x l ih => exact (h s x).trans (ih _)

theorem State.imaged_putImage (s : State) (p n : Nat) (i : Image) : s.Imaged (s.putImage p n i) := ⟨_, _, _, _, rfl⟩

theorem State.imaged_putParity (s : State) (st n : Nat) : s.Imaged (s.putParity st n) := s.imaged_putImage _ _ _

theorem State.imaged_builderLeaf (s : State) (b : Builder) (slot leaf : Nat) (plain : BitVec 2048) :
    s.Imaged (s.builderLeaf b slot leaf plain) := by
  unfold State.builderLeaf
  split
  · exact .refl s
  · split
    · exact .refl s
    · exact s.imaged_putImage _ _ _

theorem State.imaged_writeParity (s : State) (b : Builder) : s.Imaged (s.writeParity b) := by
  refine State.imaged_foldl (fun a n => ?_) _ _
  split
  · exact .refl a
  · exact a.imaged_putParity _ _

/-- With every leaf of its slots written, a builder's stripe lacks only the padding of its empty slots (R139). -/
theorem State.imaged_builderFill {b : Builder} (h : ∀ k < b.slots.length, ∀ n < 64, k * 64 + n ∈ b.written) (s : State) :
    s.Imaged (s.builderFill b) := by
  unfold State.builderFill
  extract_lets tiles
  have htiles : tiles = s := foldl_eq_self fun k hk => foldl_eq_self fun n hn =>
    if_pos (by simpa using h k (List.mem_range.mp hk) n (List.mem_range.mp hn))
  rw [htiles]
  exact State.imaged_foldl (fun a j => State.imaged_foldl (fun a n => a.imaged_putImage _ _ _) _ _) _ _

/-! A builder replaced. -/

theorem State.setBuilder_builders {s : State} {b c : Builder} (h : s.med.builders = [b]) (hid : c.id = b.id) :
    (s.setBuilder c).med.builders = [c] := by
  simp [State.setBuilder, h, hid]

/-! A line joins its builder (R137). -/

/-- The one builder of a state has identity `n` and lines `l`, and staging is `g`. -/
def State.Builds (s : State) (n : Nat) (l : SMap Line) (g : SMap StLine) : Prop :=
  s.med.stg = g ∧ ∃ c, s.med.builders = [c] ∧ c.id = n ∧ c.lines = l

theorem State.Imaged.builds {s t : State} (h : s.Imaged t) {n : Nat} {l : SMap Line} {g : SMap StLine}
    (hb : s.Builds n l g) : t.Builds n l g := by
  obtain ⟨_, _, _, _, rfl⟩ := h
  exact hb

theorem State.builds_setBuilder {s : State} {b : Builder} {n : Nat} {l : SMap Line} {g : SMap StLine} (h : s.Builds n l g)
    (hid : b.id = n) : (s.setBuilder b).Builds n b.lines g := by
  obtain ⟨hg, c, hc, hn, -⟩ := h
  exact ⟨hg, b, State.setBuilder_builders hc (hid.trans hn.symm), hid, rfl⟩

theorem State.builds_builderParity {s : State} {b : Builder} {g : SMap StLine} (h : s.Builds b.id b.lines g) (leaf : Nat) :
    (s.builderParity b leaf).Builds b.id b.lines g := by
  unfold State.builderParity
  dsimp only
  split
  · exact h
  · split
    · exact State.builds_setBuilder h rfl
    · exact (State.imaged_putParity _ _ _).builds (State.builds_setBuilder h rfl)

theorem State.builds_builderTake {s : State} {b : Builder} (h : s.med.builders = [b]) (slot ll : Nat) :
    (s.builderTake b slot ll).Builds b.id (SMap.ins b.lines (slot * 256 + ll % 256) (s.belowNow (s.glOf ll)).1)
      (SMap.del s.med.stg ll) := by
  unfold State.builderTake
  generalize (s.belowNow (s.glOf ll)).1 = x
  extract_lets d leaf b1 m s1 k wait rest b2
  have hs1 : s1.Builds b.id b.lines (SMap.del s.med.stg ll) := ⟨rfl, b, h, rfl, rfl⟩
  have hput (c : Builder) (hid : c.id = b.id) : (s1.setBuilder c).Builds c.id c.lines (SMap.del s.med.stg ll) :=
    hid ▸ State.builds_setBuilder hs1 hid
  split
  · split
    · exact hput b2 rfl
    · exact State.builds_builderParity ((State.imaged_builderLeaf _ b2 _ _ _).builds (hput b2 rfl)) _
  · exact hput b1 rfl

theorem builderLine_joins {line : Fin 137438953472} {e : StLine} {b : Builder} {s : State} (pick : Fin 33554432)
    (hfind : SMap.find s.med.stg line = some e) (hdirty : e.dirty = true) (hpoison : e.poison = false)
    (hin : s.inPlace (tileOf line) = false) (hkey : (s.baseKey (tileOf line)).isSome = true)
    (hdue : s.unmapDue (tileOf line) = false) (hb : s.med.builders = [b]) (hslots : b.slots = [(tileOf line, 0)])
    (hclosing : b.closing = false) : Answers (.builderLine line pick) s fun t => SMap.find t.med.stg line = none ∧
      ∃ c, t.med.builders = [c] ∧ c.id = b.id ∧ SMap.find c.lines (line.val % 256) = some (s.belowNow (s.glOf line)).1 := by
  have hjoin : s.builderJoin line pick = s.builderTake b 0 line := by
    have hkey' : (s.baseKey (tileOf line)).isNone = false := by rw [← Option.not_isSome, hkey]; rfl
    simp [State.builderJoin, hfind, hdirty, hpoison, hin, hkey', hdue, hb, hslots, hclosing]
  have hexec : exec (.builderLine line pick) s = .next (s.builderTake b 0 line) := congrArg Host.Outcome.next hjoin
  obtain ⟨hstg, c, hc, hid, hlines⟩ := State.builds_builderTake hb 0 line
  generalize s.builderTake b 0 line = t at hexec hstg hc
  refine answers_of_exists ⟨t, hexec, ?_, c, hc, hid, ?_⟩
  · dsimp only
    rw [hstg, SMap.find_del_same]
  · rw [hlines, Nat.zero_mul, Nat.zero_add, SMap.find_ins_same]

/-! An incomplete leaf, and age (R137, R138). -/

theorem builderSpill_spills {builder : Nat} {slot : Fin 15} {leaf : Fin 64} {b : Builder} {s : State}
    (hb : s.med.builders = [b]) (hid : b.id = builder)
    (hheld : (List.range 4).any (fun i => SMap.has b.lines (slot.val * 256 + leaf.val * 4 + i)) = true)
    (hfull : b.leafFull slot leaf = false) (hspilled : b.spilled = []) (hrom : s.phase ≠ stRomRecovery) :
    Answers (.builderSpill builder slot leaf) s fun t =>
      t.med.builders = [{ b with spilled := [slot.val * 64 + leaf.val] }] ∧ s.Logged E.MED_BUILDER_SPILL
        (chanOf (tileOfMember b.stripe ((b.slots[slot.val]?.map Prod.snd).getD 0))) b.region 0 t ∧ s.Only [.evq, .med] t := by
  let u := s.setBuilder { b with spilled := [slot.val * 64 + leaf.val] }
  let t := u.log E.MED_BUILDER_SPILL (chanOf (tileOfMember b.stripe ((b.slots[slot.val]?.map Prod.snd).getD 0))) b.region 0
  have hexec : execBuilderSpill builder slot leaf s = .next t := by
    simp only [execBuilderSpill, hb, List.find?_cons, hid, decide_true, hheld, hfull, hspilled, List.contains_nil, and_self,
      if_true, List.nil_append, t, u]
  obtain ⟨hlog, honly⟩ := u.log_logged E.MED_BUILDER_SPILL
    (chanOf (tileOfMember b.stripe ((b.slots[slot.val]?.map Prod.snd).getD 0))) b.region 0 hrom
  have hframe : s.Only [.evq, .med] t := ((State.Only.refl s _).med _).trans (honly.mono (by simp))
  refine answers_of_exec hexec (hframe .tcnt (by decide)) ⟨?_, hlog, hframe⟩
  rw [State.log_med]
  exact State.setBuilder_builders hb rfl

theorem builderAgeExpire_closes {builder : Nat} {b : Builder} {s : State} (hb : s.med.builders = [b]) (hid : b.id = builder) :
    Answers (.builderAgeExpire builder) s fun t => t.med.builders = [{ b with closing := true }] ∧ s.Only [.med] t := by
  have hexec : execBuilderAgeExpire builder s = .next (s.setBuilder { b with closing := true }) := by
    simp [execBuilderAgeExpire, hb, hid]
  exact answers_of_exec hexec rfl ⟨State.setBuilder_builders hb rfl, (State.Only.refl s _).med _⟩

end Sys2Proof.Machine
end

section
/-! SUPPORT. A builder's stripe completed (R139, R140). -/

namespace Sys2Proof.Machine

theorem foldl_keeps {α β γ : Type} {f : β → α → β} {g : β → γ} (h : ∀ a x, g (f a x) = g a) (l : List α) (s : β) :
    g (l.foldl f s) = g s := by
  induction l generalizing s with
  | nil => rfl
  | cons x l ih => exact (ih _).trans (h s x)

/-! What is done of a stripe once its leaves have verified. -/

/-- The slots of a builder whose member has no leaf that failed its verify. -/
def Builder.verified (b : Builder) (fails : List (Fin 16)) : List Nat :=
  (List.range b.slots.length).filter (fun k => !fails.any (fun f => decide (f.val = (b.slots[k]?.map Prod.snd).getD 0)))

/-- The builder's stripe takes its state and the MAP entries of its verified slots are created (R140). -/
def State.mapStripe (s : State) (b : Builder) (good : List Nat) : State :=
  (s.setStripe b.stripe { s.stripe b.stripe with st := if good = [] then 0 else 2, mapped := good.length }).builderMap b good

/-- The members of a stripe whose writes failed (R173). -/
def State.failMembers (s : State) (st : Nat) (l : List Nat) : State :=
  l.foldl (fun (a : State) j =>
    let p := tileOfMember st j
    (((a.addSat D.CON_ERRCNT_wvfail 1).log E.CON_WV_FAIL (dieKey p) (partOf p) p).retireTile p 0).dieFailed (dieKey p)) s

theorem State.builderDue_of_closing {s : State} {b : Builder} (hb : s.med.builders = [b]) (hclosing : b.closing = true) :
    s.builderDue b = true := by
  simp [State.builderDue, hb, hclosing]

theorem State.slotToStaging_builders (s : State) (b : Builder) (k : Nat) (dirty : Bool) :
    ((s.slotToStaging b k dirty).med.builders, (s.slotToStaging b k dirty).med.moves) = (s.med.builders, s.med.moves) := by
  unfold State.slotToStaging
  split <;> rfl

/-- A closing builder with the leaves of its slots written is done: its stripe is mapped and its failed members are retired, from
a state that has no builder any more. -/
theorem exec_builderStripeVerified {builder : Nat} {b : Builder} {s : State} (fails : List (Fin 16))
    (hb : s.med.builders = [b]) (hid : b.id = builder) (hclosing : b.closing = true)
    (hwritten : ∀ k < b.slots.length, ∀ n < 64, k * 64 + n ∈ b.written)
    (hwrite : (s.stripe b.stripe).members.any (fun j => s.noWrite (memberPart b.stripe j)) = false) :
    ∃ a : State, a.med.builders = [] ∧ a.med.moves = s.med.moves ∧ exec (.builderStripeVerified builder fails) s =
      .next (((a.mapStripe b (b.verified fails)).failMembers b.stripe
        (((a.mapStripe b (b.verified fails)).stripe b.stripe).members.filter
          (fun j => fails.any (fun f => decide (f.val = j))))).spareCheck) := by
  obtain ⟨_, _, _, _, hfill⟩ := (State.imaged_builderFill hwritten s).trans (State.imaged_writeParity _ b)
  let s2 := (List.range b.slots.length).foldl (fun (a : State) k => a.slotToStaging b k (!(b.verified fails).contains k))
    ((s.builderFill b).writeParity b)
  have hs2 : (s2.med.builders, s2.med.moves) = (s.med.builders, s.med.moves) := by
    refine (foldl_keeps (g := fun a : State => (a.med.builders, a.med.moves)) (fun a k => a.slotToStaging_builders b k _) _ _).trans ?_
    rw [hfill]
  rw [Prod.mk.injEq] at hs2
  refine ⟨{ s2 with med := { s2.med with builders := s2.med.builders.filter (fun q => q.id ≠ b.id) } }, ?_, hs2.2, ?_⟩
  · dsimp only
    rw [hs2.1, hb]
    simp
  · change execBuilderStripeVerified builder fails s = _
    simp only [execBuilderStripeVerified, hb, List.find?_cons, hid, decide_true, State.builderDue_of_closing hb hclosing, hwrite]
    rfl

/-! The stripe's record. -/

theorem State.stripe_setStripe (s : State) (n : Nat) (r : StripeRec) :
    ((s.setStripe n r).stripe n).st = r.st ∧ ((s.setStripe n r).stripe n).mapped = r.mapped := by
  have hget : SMap.get (StripeRec.init n) (s.setStripe n r).med.stripes n = r := SMap.get_put_same ..
  unfold State.stripe
  rw [hget]
  dsimp only
  split <;> exact ⟨rfl, rfl⟩

theorem State.stripe_of_stripes {s t : State} (hs : t.med.stripes = s.med.stripes) (hr : t.med.rowGone = s.med.rowGone)
    (n : Nat) : t.stripe n = s.stripe n := by
  rw [State.stripe, State.stripe, State.rowGoneBits, State.rowGoneBits, hs, hr]

theorem State.stripe_of_med {s t : State} (h : t.med = s.med) (n : Nat) : t.stripe n = s.stripe n :=
  State.stripe_of_stripes (congrArg Media.stripes h) (congrArg Media.rowGone h) n

/-! The MAP group (R140). -/

/-- A stripe with no verified slot has no entry. -/
theorem State.builderMap_nil (s : State) (b : Builder) : s.builderMap b [] = s := by
  simp [State.builderMap, State.journalGroup, SMap.keep]

theorem State.mapStripe_nil (s : State) (b : Builder) :
    s.mapStripe b [] = s.setStripe b.stripe { s.stripe b.stripe with st := 0, mapped := 0 } := by
  rw [State.mapStripe, State.builderMap_nil]
  rfl

/-- The builders and stripes of two states are the same, and what waited for the journal still waits. -/
structure State.Journalled (s t : State) : Prop where
  builders : t.med.builders = s.med.builders
  stripes : t.med.stripes = s.med.stripes
  rowGone : t.med.rowGone = s.med.rowGone
  jpend : ∀ e ∈ s.med.jpend, e ∈ t.med.jpend

theorem State.Journalled.trans {s t u : State} (h : s.Journalled t) (g : t.Journalled u) : s.Journalled u :=
  ⟨g.builders.trans h.builders, g.stripes.trans h.stripes, g.rowGone.trans h.rowGone, fun e he => g.jpend e (h.jpend e he)⟩

theorem State.Journalled.refl (s : State) : s.Journalled s := ⟨rfl, rfl, rfl, fun _ he => he⟩

theorem State.journalled_foldl {α : Type} {f : State → α → State} (h : ∀ (a : State) x, a.Journalled (f a x)) (l : List α)
    (s : State) : s.Journalled (l.foldl f s) := by
  induction l generalizing s with
  | nil => exact .refl s
  | cons x l ih => exact (h s x).trans (ih _)

theorem State.journalled_afterJournal (s : State) (r : Release) : s.Journalled (s.afterJournal r) :=
  ⟨rfl, rfl, rfl, fun _ he => he⟩

theorem State.journalled_setTile (s : State) (p : Nat) (t : TileRec) : s.Journalled (s.setTile p t) :=
  ⟨rfl, rfl, rfl, fun _ he => he⟩

theorem State.journalled_jAdd (s : State) (type gcount gindex tile arg0 arg1 : Nat) :
    s.Journalled (s.jAdd type gcount gindex tile arg0 arg1) := ⟨rfl, rfl, rfl, fun _ => List.mem_append_left _⟩

/-- With no move in progress, the one verified slot of a builder has its MAP entry. -/
theorem State.builderMap_one {s : State} {b : Builder} {tile j : Nat} (hslots : b.slots = [(tile, j)]) (hmoves : s.med.moves = []) :
    s.Journalled (s.builderMap b [0]) ∧ ∃ e ∈ (s.builderMap b [0]).med.jpend, e.type = 1 ∧ e.tile = tile := by
  unfold State.builderMap
  extract_lets n place olds mv own s0 m s1 s1' s2 s3 s4
  have hmv : mv = [] := by simp only [mv, hmoves, List.filter_nil]
  have hs1 : s1 = { s with med := { s.med with moves := [] } }.jAdd 1 1 0 tile (tileOfMember b.stripe j) (2 ^ 64 - 1) := by
    simp only [s1, own, m, s0, hmv, place, hslots, hmoves, List.take_nil, List.map_nil, List.foldl_nil]
    rfl
  have h1 : s.Journalled s1 := by
    rw [hs1]
    exact ⟨rfl, rfl, rfl, fun _ => List.mem_append_left _⟩
  have hmem : (⟨s.med.jnext, 1, 1, 0, tile, tileOfMember b.stripe j, 2 ^ 64 - 1⟩ : JEnt) ∈ s1.med.jpend := by
    rw [hs1]
    exact List.mem_append_right _ (List.mem_singleton_self _)
  have h4 : s1.Journalled s4 := ((State.journalled_foldl (fun a e => a.journalled_afterJournal _) _ _).trans
    ((State.journalled_foldl (fun a e => a.journalled_afterJournal _) _ _).trans
      ((State.journalled_foldl (fun a e => a.journalled_afterJournal _) _ _).trans
        (State.journalled_foldl (fun a e => a.journalled_setTile _ _) _ _))))
  refine (fun h => ⟨h1.trans h, _, h.jpend _ hmem, rfl, rfl⟩) (h4.trans (State.journalled_foldl (fun a k => ?_) _ _))
  split
  · exact a.journalled_jAdd _ _ _ _ _ _
  · exact .refl a

/-- The stripe of a builder with one verified slot is INUSE with one mapped member, and no builder is left where none was. -/
theorem State.mapStripe_one {s : State} {b : Builder} {tile j : Nat} (hslots : b.slots = [(tile, j)]) (hmoves : s.med.moves = []) :
    (s.mapStripe b [0]).med.builders = s.med.builders ∧ ((s.mapStripe b [0]).stripe b.stripe).st = 2 ∧
      ((s.mapStripe b [0]).stripe b.stripe).mapped = 1 ∧ ∃ e ∈ (s.mapStripe b [0]).med.jpend, e.type = 1 ∧ e.tile = tile := by
  obtain ⟨hkeep, hentry⟩ := State.builderMap_one (s := s.setStripe b.stripe
    { s.stripe b.stripe with st := if ([0] : List Nat) = [] then 0 else 2, mapped := ([0] : List Nat).length }) hslots hmoves
  obtain ⟨hst, hmapped⟩ := s.stripe_setStripe b.stripe
    { s.stripe b.stripe with st := if ([0] : List Nat) = [] then 0 else 2, mapped := ([0] : List Nat).length }
  rw [State.mapStripe, State.stripe_of_stripes hkeep.stripes hkeep.rowGone, hst, hmapped]
  exact ⟨hkeep.builders, rfl, rfl, hentry⟩

/-! Retirement opens no builder (Table 5.8). -/

section
variable (s : State)

@[simp] theorem State.setTile_builders (p : Nat) (t : TileRec) : (s.setTile p t).med.builders = s.med.builders := rfl
@[simp] theorem State.setStripe_builders (n : Nat) (r : StripeRec) : (s.setStripe n r).med.builders = s.med.builders := rfl
@[simp] theorem State.setPart_builders (k : Nat) (p : Part) : (s.setPart k p).med.builders = s.med.builders := rfl
@[simp] theorem State.setDie_builders (d : Nat) (x : DieCnt) : (s.setDie d x).med.builders = s.med.builders := rfl
@[simp] theorem State.addSat_builders (f : FldDesc) (n i : Nat) : (s.addSat f n i).med.builders = s.med.builders := rfl
@[simp] theorem State.dieGone_builders (d : Nat) : (s.dieGone d).med.builders = s.med.builders := rfl
@[simp] theorem State.setRebuilds_builders (l : List Rebuild) : (s.setRebuilds l).med.builders = s.med.builders := rfl

@[simp] theorem State.wr_builders (f : FldDesc) (v i : Nat) : (s.wr f v i).med.builders = s.med.builders := rfl
@[simp] theorem State.builders_ite (c : Prop) [Decidable c] (t : State) :
    (if c then s else t).med.builders = if c then s.med.builders else t.med.builders :=
  apply_ite (fun a : State => a.med.builders) c s t
@[simp] theorem State.builders_foldl {α : Type} {f : State → α → State} (h : ∀ a x, (f a x).med.builders = a.med.builders)
    (l : List α) : (l.foldl f s).med.builders = s.med.builders := foldl_keeps (g := fun a : State => a.med.builders) h l s

@[simp] theorem State.applyLog_builders (e : LogEnt) : (s.applyLog e).med.builders = s.med.builders := by
  simp [State.applyLog]
@[simp] theorem State.clogNow_builders (type a b c : Nat) : (s.clogNow type a b c).med.builders = s.med.builders := by
  simp [State.clogNow, State.clogAdd, State.logApply]
@[simp] theorem State.queueExcise_builders (p : Nat) : (s.queueExcise p).med.builders = s.med.builders := by
  simp [State.queueExcise]
@[simp] theorem State.queueRebuild_builders (k : Nat) : (s.queueRebuild k).med.builders = s.med.builders := by
  simp [State.queueRebuild]
@[simp] theorem State.retireDie_builders (d cause : Nat) : (s.retireDie d cause).med.builders = s.med.builders := by
  simp [State.retireDie]
@[simp] theorem State.retirePart_builders (k : Nat) : (s.retirePart k).med.builders = s.med.builders := by
  simp [State.retirePart]
@[simp] theorem State.retireTile_builders (p cause : Nat) : (s.retireTile p cause).med.builders = s.med.builders := by
  simp [State.retireTile]
@[simp] theorem State.dieFailed_builders (d : Nat) : (s.dieFailed d).med.builders = s.med.builders := by
  simp [State.dieFailed]
@[simp] theorem State.failMembers_builders (st : Nat) (l : List Nat) : (s.failMembers st l).med.builders = s.med.builders :=
  s.builders_foldl (fun a j => by simp) l
end

/-! The command (R139, R140). -/

/-- A builder with no tile is gone, whichever members failed. -/
theorem builderStripeVerified_ends {builder : Nat} (fails : List (Fin 16)) {b : Builder} {s : State} (hb : s.med.builders = [b])
    (hid : b.id = builder) (hslots : b.slots = []) (hclosing : b.closing = true)
    (hwrite : (s.stripe b.stripe).members.any (fun j => s.noWrite (memberPart b.stripe j)) = false) :
    Answers (.builderStripeVerified builder fails) s fun t => t.med.builders = [] := by
  obtain ⟨a, ha, -, hexec⟩ := exec_builderStripeVerified fails hb hid hclosing (by simp [hslots]) hwrite
  have hgood : b.verified fails = [] := by simp [Builder.verified, hslots]
  refine answers_of_exists ⟨_, hexec, ?_⟩
  dsimp only
  rw [hgood, State.mapStripe_nil]
  simpa using ha

/-- With no failure every slot is verified. -/
theorem exec_builderStripeVerified_clean {builder : Nat} {b : Builder} {s : State} (hb : s.med.builders = [b])
    (hid : b.id = builder) (hclosing : b.closing = true) (hwritten : ∀ k < b.slots.length, ∀ n < 64, k * 64 + n ∈ b.written)
    (hwrite : (s.stripe b.stripe).members.any (fun j => s.noWrite (memberPart b.stripe j)) = false) :
    ∃ a t : State, a.med.builders = [] ∧ a.med.moves = s.med.moves ∧ exec (.builderStripeVerified builder []) s = .next t ∧
      t.med = (a.mapStripe b (List.range b.slots.length)).med := by
  obtain ⟨a, ha, hmoves, hexec⟩ := exec_builderStripeVerified [] hb hid hclosing hwritten hwrite
  have hgood : b.verified [] = List.range b.slots.length := by simp [Builder.verified]
  refine ⟨a, _, ha, hmoves, hexec, ?_⟩
  simp [hgood, State.failMembers]

theorem builderStripeVerified_frees {builder : Nat} {b : Builder} {s : State} (hb : s.med.builders = [b])
    (hid : b.id = builder) (hslots : b.slots = []) (hclosing : b.closing = true)
    (hwrite : (s.stripe b.stripe).members.any (fun j => s.noWrite (memberPart b.stripe j)) = false) :
    Answers (.builderStripeVerified builder []) s fun t =>
      t.med.builders = [] ∧ (t.stripe b.stripe).st = 0 ∧ (t.stripe b.stripe).mapped = 0 := by
  obtain ⟨a, t, ha, -, hexec, hmed⟩ := exec_builderStripeVerified_clean hb hid hclosing (by simp [hslots]) hwrite
  rw [hslots, List.length_nil, List.range_zero, State.mapStripe_nil] at hmed
  obtain ⟨hst, hmapped⟩ := a.stripe_setStripe b.stripe { a.stripe b.stripe with st := 0, mapped := 0 }
  rw [← State.stripe_of_med hmed] at hst hmapped
  exact answers_of_exists ⟨t, hexec, (congrArg Media.builders hmed).trans ha, hst, hmapped⟩

theorem builderStripeVerified_maps {builder tile j : Nat} {b : Builder} {s : State} (hb : s.med.builders = [b])
    (hid : b.id = builder) (hslots : b.slots = [(tile, j)]) (hclosing : b.closing = true) (hmoves : s.med.moves = [])
    (hwritten : (List.range 64).all (fun n => b.written.contains n) = true)
    (hwrite : (s.stripe b.stripe).members.any (fun j => s.noWrite (memberPart b.stripe j)) = false) :
    Answers (.builderStripeVerified builder []) s fun t =>
      t.med.builders = [] ∧ (t.stripe b.stripe).st = 2 ∧ (t.stripe b.stripe).mapped = 1 ∧
        ∃ e, e ∈ t.med.jpend ∧ e.type = 1 ∧ e.tile = tile := by
  have hleaves (k : Nat) (hk : k < b.slots.length) (n : Nat) (hn : n < 64) : k * 64 + n ∈ b.written := by
    obtain rfl : k = 0 := by simpa [hslots] using hk
    simpa using List.all_eq_true.mp hwritten n (List.mem_range.mpr hn)
  obtain ⟨a, t, ha, hamoves, hexec, hmed⟩ := exec_builderStripeVerified_clean hb hid hclosing hleaves hwrite
  obtain ⟨hbuilders, hst, hmapped, hentry⟩ := State.mapStripe_one (s := a) hslots (hamoves.trans hmoves)
  rw [hslots, List.length_singleton, List.range_one] at hmed
  rw [← hmed] at hbuilders hentry
  rw [← State.stripe_of_med hmed] at hst hmapped
  exact answers_of_exists ⟨t, hexec, hbuilders.trans ha, hst, hmapped, hentry⟩

end Sys2Proof.Machine
end

section
/-! SUPPORT. Channel pauses (R141), and the statement of this family on the journal, builders and pauses. -/

namespace Sys2Proof.Machine

@[simp] theorem State.chan_setChan (s : State) (c : Nat) (x : Chan) : (s.setChan c x).chan c = x := SMap.get_put_same ..

/-- The pause bit of a channel is none of the fields below the media block's. -/
theorem State.rd_wr_chctl (s : State) (v c : Nat) {f : FldDesc} (h : f.key 0 < D.MED_CHCTL_pause.key 0) :
    (s.wr D.MED_CHCTL_pause v c).rd f = s.rd f := by
  refine State.rd_wr_ne _ _ _ _ _ _ fun e => ?_
  have hkey : D.MED_CHCTL_pause.key 0 ≤ D.MED_CHCTL_pause.key c := by
    simp only [FldDesc.key]
    omega
  omega

theorem channelPauseRequest_wants {ch : Fin 32} {s : State} (hgone : (s.chan ch).gone = false)
    (hpaused : (s.chan ch).paused = false) (hflush : s.isFlushing = false) : Answers (.channelPauseRequest ch) s fun t =>
      (t.chan ch).want = true ∧ t.rd D.MED_CHCTL_pause ch = 1 ∧ s.Only [.regs, .med] t := by
  let u := s.wr D.MED_CHCTL_pause 1 ch
  let t := u.setChan ch { s.chan ch with want := true, activation := false }
  have hu : u.isFlushing = false := by
    rw [State.isFlushing, State.phase, s.rd_wr_chctl 1 ch (by decide)]
    exact hflush
  have hexec : execChannelPauseRequest ch s = .next t := by
    have hchan : u.chan ch = s.chan ch := rfl
    simp only [execChannelPauseRequest, State.pauseRequest, hflush, hchan, hgone, hpaused, hu, Bool.false_eq_true, or_self,
      if_false, t, u]
  refine answers_of_exec hexec rfl ⟨?_, ?_, ((State.Only.refl s _).wr _ _ _).med _⟩
  · rw [State.chan_setChan]
  · exact s.rd_wr_same D.MED_CHCTL_pause 1 ch

theorem channelPauseEnter_pauses {ch : Fin 32} {s : State} (hwant : (s.chan ch).want = true)
    (hpaused : (s.chan ch).paused = false) (hflush : s.isFlushing = false) (htokens : s.med.tokens = [])
    (hrows : (List.range 64).all (fun r => decide (s.rowUnavail (ch / 16 * 64 + r) = [])) = true)
    (hrom : s.phase ≠ stRomRecovery) : Answers (.channelPauseEnter ch) s fun t => (t.chan ch).paused = true ∧
      s.Logged E.MED_CH_PAUSE ch (b2n (s.chan ch).activation) 0 t ∧ s.Only [.regs, .evq, .med] t := by
  let u := s.setChan ch { s.chan ch with want := false, paused := true }
  have hfree : ((List.range 64).map (fun r => ch.val / 16 * 64 + r)).any
      (fun r => SMap.has s.med.tokens r || decide (s.rowUnavail r ≠ [])) = false := by
    refine List.any_eq_false.mpr fun row hrow => ?_
    obtain ⟨r, hr, rfl⟩ := List.mem_map.mp hrow
    simpa [htokens] using List.all_eq_true.mp hrows r hr
  have hexec : execChannelPauseEnter ch s = .next (u.log E.MED_CH_PAUSE ch (b2n (s.chan ch).activation) 0) := by
    simp only [execChannelPauseEnter, State.pauseEnter, hwant, hpaused, hflush, hfree, Bool.true_eq_false, Bool.false_eq_true,
      or_self, if_false, u]
  obtain ⟨hlog, honly⟩ := u.log_logged E.MED_CH_PAUSE ch (b2n (s.chan ch).activation) 0 hrom
  have hframe : s.Only [.regs, .evq, .med] _ := ((State.Only.refl s _).med _).trans (honly.mono (by simp))
  refine answers_of_exec hexec (hframe .tcnt (by decide)) ⟨?_, hlog, hframe⟩
  rw [State.chan, State.log_med]
  exact congrArg Chan.paused (s.chan_setChan ch _)

theorem channelPauseEnd_resumes {ch : Fin 32} {s : State} (hpaused : (s.chan ch).paused = true)
    (hactivation : (s.chan ch).activation = false) (hrom : s.phase ≠ stRomRecovery) : Answers (.channelPauseEnd ch) s fun t =>
      (t.chan ch).paused = false ∧ (t.chan ch).want = false ∧ s.Logged E.MED_CH_RESUME ch 0 0 t ∧
        s.Only [.regs, .evq, .med] t := by
  let u := (s.wr D.MED_CHCTL_pause 0 ch).setChan ch { s.chan ch with want := false, activation := false, paused := false }
  have hphase : u.phase = s.phase := s.rd_wr_chctl 0 ch (by decide)
  have hnow : u.now = s.now := s.rd_wr_chctl 0 ch (by decide)
  have hexec : execChannelPauseEnd ch s = .next (u.log E.MED_CH_RESUME ch 0 0) := by
    have hchan : (s.wr D.MED_CHCTL_pause 0 ch).chan ch = s.chan ch := rfl
    simp [execChannelPauseEnd, State.pauseEnd, hchan, hpaused, hactivation, b2n, u]
  obtain ⟨hlog, honly⟩ := u.log_logged E.MED_CH_RESUME ch 0 0 (hphase ▸ hrom)
  have hframe : s.Only [.regs, .evq, .med] _ := (((State.Only.refl s _).wr _ _ _).med _).trans (honly.mono (by simp))
  have hchan : (u.log E.MED_CH_RESUME ch 0 0).chan ch = u.chan ch := by rw [State.chan, State.log_med]; rfl
  refine answers_of_exec hexec (hframe .tcnt (by decide)) ⟨?_, ?_, ?_, hframe⟩
  · rw [hchan]
    exact congrArg Chan.paused (State.chan_setChan ..)
  · rw [hchan]
    exact congrArg Chan.want (State.chan_setChan ..)
  · rw [State.Logged, ← hnow]
    exact hlog

/-- Settles O8: each command's condition decides which branch of it runs, and the lemma on that branch says what it leaves. -/
theorem journalBuildersAndPauses : Obligations.JournalBuildersAndPauses := by
  unfold Obligations.JournalBuildersAndPauses
  refine ⟨?written, ?startsCheckpoint, ?full, ?checkpoint, ?checkpointDone, ?line, ?spill, ?age, ?frees, ?maps, ?fails,
    ?pauseRequest, ?pauseEnter, ?pauseEnd⟩
  case written =>
    exact fun _ _ hj htype hcount hindex hseq hrels hfull hdue =>
      journalWrite_applies hj htype hcount hindex hseq hrels hfull hdue
  case startsCheckpoint =>
    exact fun _ _ hj htype hrels hfull hckpt hdue hcap => journalWrite_starts_checkpoint hj htype hrels hfull hckpt hdue hcap
  case full => exact fun _ hj hfull hrom => journalWrite_full hj hfull hrom
  case checkpoint => exact fun _ hckpt => checkpoint_answers hckpt
  case checkpointDone => exact fun _ _ _ hckpt hseq => checkpointDone_answers hckpt hseq
  case line =>
    exact fun _ pick _ _ _ hfind hdirty hpoison hin hkey hdue hb hslots hclosing =>
      builderLine_joins pick hfind hdirty hpoison hin hkey hdue hb hslots hclosing
  case spill =>
    exact fun _ _ _ _ _ hb hid hheld hfull hspilled hrom => builderSpill_spills hb hid hheld hfull hspilled hrom
  case age => exact fun _ _ _ hb hid => builderAgeExpire_closes hb hid
  case frees =>
    exact fun _ _ _ hb hid hslots hclosing hwrite => builderStripeVerified_frees hb hid hslots hclosing hwrite
  case maps =>
    exact fun _ _ _ _ _ hb hid hslots hclosing hmoves hwritten hwrite =>
      builderStripeVerified_maps hb hid hslots hclosing hmoves hwritten hwrite
  case fails =>
    exact fun _ fails _ _ hb hid hslots hclosing hwrite => builderStripeVerified_ends fails hb hid hslots hclosing hwrite
  case pauseRequest => exact fun _ _ hgone hpaused hflush => channelPauseRequest_wants hgone hpaused hflush
  case pauseEnter =>
    exact fun _ _ hwant hpaused hflush htokens hrows hrom =>
      channelPauseEnter_pauses hwant hpaused hflush htokens hrows hrom
  case pauseEnd => exact fun _ _ hpaused hactivation hrom => channelPauseEnd_resumes hpaused hactivation hrom

end Sys2Proof.Machine
end

section
/-! SUPPORT. The conservator's share suspended (R170, R472), and the statement of this family on its log, moves and excisions. -/

namespace Sys2Proof.Machine

/-- Tile 5 lies on physical tile 100, which is due for refresh with no reads counted, in an INUSE stripe with FREE members, and the
throttle level is 4. -/
def refreshPastShare : State :=
  { State.reset.wr D.THM_STAT_level 4 with
    med := { Media.init with
      cat := [(5, ⟨.mapped, false, false, 0, 100, 0⟩)]
      tiles := [(100, { TileRec.init 100 with st := 1, refresh := true })]
      stripes := [(100, { StripeRec.init 100 with st := 2, mapped := 1 })] } }

theorem exec_tileMove (tile : Fin 536870912) (pick : Fin 33554432) (lost : List (Fin 64)) (fail : Bool) (s : State) :
    exec (.tileMove tile pick lost fail) s = execTileMove tile pick lost fail s := rfl

/-- A tile that neither moves, nor is forced out, due for refresh or to be moved anew, stays. -/
theorem tileMove_rests {tile : Fin 536870912} {s : State} (pick : Fin 33554432) (lost : List (Fin 64)) (fail : Bool)
    (hmoves : SMap.find s.med.moves tile = none) (hforced : (s.tile (s.catEnt tile).phys).forced = false)
    (hdue : s.refreshDue (s.catEnt tile).phys = false) (hagain : s.med.again.contains tile.val = false) :
    exec (.tileMove tile pick lost fail) s = .next s := by
  simp only [exec_tileMove, execTileMove, hmoves, hforced, hdue, hagain, Bool.false_eq_true, or_self, if_false]

theorem refreshPastShare_rests : SMap.find refreshPastShare.med.moves (5 : Fin 536870912) = none ∧
    (refreshPastShare.tile (refreshPastShare.catEnt (5 : Fin 536870912)).phys).forced = false ∧
    refreshPastShare.refreshDue (refreshPastShare.catEnt (5 : Fin 536870912)).phys = false ∧
    refreshPastShare.med.again.contains (5 : Fin 536870912).val = false := by decide +kernel

/-- Refutes O9: its clause on the start of a move asks that the tile be marked for refresh, but from throttle level 4 on the
conservator's background share is suspended, and a refresh that is not urgent waits (R170, R472): no move starts. -/
theorem not_conservatorMovesAndExcises : ¬ Obligations.ConservatorMovesAndExcises := by
  unfold Obligations.ConservatorMovesAndExcises
  rintro ⟨-, -, -, -, -, hstarts, -⟩
  obtain ⟨hmoves, hforced, hdue, hagain⟩ := refreshPastShare_rests
  obtain ⟨t, hexec, hmove, -⟩ := hstarts 5 0 [] false (2 ^ 24 + 100) refreshPastShare hmoves (.inr (by decide +kernel))
    (by decide +kernel) (by decide +kernel) (by decide +kernel) (by decide +kernel)
  obtain rfl : refreshPastShare = t := Host.Outcome.next.inj ((tileMove_rests 0 [] false hmoves hforced hdue hagain).symm.trans hexec)
  rw [hmoves] at hmove
  cases hmove

end Sys2Proof.Machine
end

section
/-! SUPPORT. The conservator's records (R149), and tiles taken and moves started (R153, R156): what they leave of the registers,
of the moves in progress and of reclaim. -/

namespace Sys2Proof.Machine

theorem find_keep_keys {α : Type} (p : Nat → Bool) (m : SMap α) (k : Nat) :
    SMap.find (SMap.keep (fun k _ => p k) m) k = if p k then SMap.find m k else none := by
  induction m with
  | nil => simp [SMap.keep]
  | cons e m ih =>
    obtain ⟨j, v⟩ := e
    rw [SMap.keep] at ih ⊢
    by_cases hj : j = k
    · subst hj
      cases hp : p j <;> simp [SMap.find, hp, ih]
    · cases hp : p j <;> simp [SMap.find, hp, ih, hj]

theorem length_ins_le {α : Type} (m : SMap α) (k : Nat) (v : α) : (SMap.ins m k v).length ≤ m.length + 1 := by
  induction m with
  | nil => simp [SMap.ins]
  | cons e m ih =>
    simp only [SMap.ins]
    split
    · simp
    · split
      · simp
      · simpa using ih

/-! Records on media (R149). -/

/-- The tiles', stripes' and sentinels' records alone differ. -/
def State.Recorded (s t : State) : Prop :=
  ∃ tiles stripes sentinels, t = { s with med := { s.med with tiles := tiles, stripes := stripes, sentinels := sentinels } }

theorem State.Recorded.refl (s : State) : s.Recorded s := ⟨_, _, _, rfl⟩

theorem State.Recorded.trans {s t u : State} (h : s.Recorded t) (g : t.Recorded u) : s.Recorded u := by
  obtain ⟨_, _, _, rfl⟩ := h
  obtain ⟨tiles, stripes, sentinels, rfl⟩ := g
  exact ⟨tiles, stripes, sentinels, rfl⟩

theorem State.recorded_foldl {α : Type} {f : State → α → State} (h : ∀ (a : State) x, a.Recorded (f a x)) (l : List α)
    (s : State) : s.Recorded (l.foldl f s) := by
  induction l generalizing s with
  | nil => exact .refl s
  | cons x l ih => exact (h s x).trans (ih _)

theorem State.recorded_setTile (s : State) (p : Nat) (t : TileRec) : s.Recorded (s.setTile p t) := ⟨_, _, _, rfl⟩

theorem State.recorded_setStripe (s : State) (n : Nat) (r : StripeRec) : s.Recorded (s.setStripe n r) := ⟨_, _, _, rfl⟩

theorem State.recorded_applyLog (s : State) (e : LogEnt) : s.Recorded (s.applyLog e) := by
  unfold State.applyLog
  dsimp only
  split
  · split
    · exact .refl s
    · exact s.recorded_setTile _ _
  split
  · exact s.recorded_setStripe _ _
  split
  · exact (s.recorded_setStripe _ _).trans (State.recorded_setTile _ _ _)
  split
  · exact s.recorded_setStripe _ _
  split
  · exact ⟨_, _, _, rfl⟩
  split
  · refine (s.recorded_setStripe _ _).trans (State.recorded_foldl (fun a j => ?_) _ _)
    split
    · exact .refl a
    · exact a.recorded_setTile _ _
  · exact .refl s

/-- A record written at once changes the log and the records it speaks of, and nothing else. -/
theorem State.clogNow_eq (s : State) (type a b c : Nat) : ∃ tiles stripes sentinels clog, s.clogNow type a b c =
    { s with med := { s.med with
        tiles := tiles, stripes := stripes, sentinels := sentinels, clog := clog, cpend := [], cnext := s.med.cnext + 1 } } := by
  obtain ⟨tiles, stripes, sentinels, h⟩ := State.recorded_foldl State.recorded_applyLog (s.clogAdd type a b c).med.cpend
    ({ s.clogAdd type a b c with med := { (s.clogAdd type a b c).med with
      clog := SMap.keep (fun k _ => decide ((s.clogAdd type a b c).med.cnext ≤ k + clogEntries))
        ((s.clogAdd type a b c).med.cpend.foldl (fun (m : SMap LogEnt) (e : LogEnt) => SMap.ins m e.seq e)
          (s.clogAdd type a b c).med.clog)
      cpend := [] } })
  exact ⟨tiles, stripes, sentinels, _, h⟩

/-- The state with one record on media that waits for no other, before it takes effect. -/
def State.clogPut (s : State) (e : LogEnt) : State :=
  { s with med := { s.med with
      clog := SMap.keep (fun k _ => decide (s.med.cnext + 1 ≤ k + clogEntries)) (SMap.ins s.med.clog e.seq e)
      cpend := [], cnext := s.med.cnext + 1 } }

theorem State.clogNow_alone {s : State} (h : s.med.cpend = []) (type a b c : Nat) :
    s.clogNow type a b c = (s.clogPut ⟨s.med.cnext, type, a, b, c⟩).applyLog ⟨s.med.cnext, type, a, b, c⟩ := by
  simp [State.clogNow, State.clogAdd, State.logApply, State.clogPut, h]

theorem State.find_clogPut {s : State} {e : LogEnt} (h : e.seq = s.med.cnext) :
    SMap.find (s.clogPut e).med.clog s.med.cnext = some e := by
  refine (find_keep_keys (fun k => decide (s.med.cnext + 1 ≤ k + clogEntries)) _ _).trans ?_
  rw [if_pos (by simp [clogEntries]), ← h, SMap.find_ins_same]

/-! Moves that begin. -/

/-- The registers that taking a tile keeps: the spare state (R155), beside those of accounting. -/
def takeKeys : List Nat := D.CON_STAT_spare.key 0 :: bookKeys

/-- At most `n` moves have begun, none has ended, and reclaim and the registers that no tile taken keeps are as they were. -/
structure State.StartsMoves (s : State) (n : Nat) (t : State) : Prop where
  regs : s.RegsBut takeKeys t
  moves : t.med.moves.length ≤ s.med.moves.length + n
  reclaim : t.med.reclaim = s.med.reclaim

theorem State.StartsMoves.rd {s t : State} {n : Nat} (h : s.StartsMoves n t) (f : FldDesc) (i : Nat) (hk : f.key i ∉ takeKeys) :
    t.rd f i = s.rd f i := by
  rw [State.rd, State.rd, SMap.get_eq_find, SMap.get_eq_find, h.regs _ hk]

theorem State.StartsMoves.trans {s t u : State} {n m : Nat} (h : s.StartsMoves n t) (g : t.StartsMoves m u) :
    s.StartsMoves (n + m) u where
  regs k hk := (g.regs k hk).trans (h.regs k hk)
  moves := by
    have := h.moves
    have := g.moves
    omega
  reclaim := g.reclaim.trans h.reclaim

theorem State.StartsMoves.mono {s t : State} {n m : Nat} (h : s.StartsMoves n t) (hle : n ≤ m) : s.StartsMoves m t :=
  ⟨h.regs, h.moves.trans (Nat.add_le_add_left hle _), h.reclaim⟩

/-- Registers, moves and reclaim the same: no move has begun. -/
theorem State.startsMoves_zero {s t : State} (hr : t.regs = s.regs) (hm : t.med.moves = s.med.moves)
    (hc : t.med.reclaim = s.med.reclaim) : s.StartsMoves 0 t :=
  ⟨fun _ _ => by rw [hr], by rw [hm]; exact Nat.le_refl _, hc⟩

theorem State.StartsMoves.refl (s : State) : s.StartsMoves 0 s := State.startsMoves_zero rfl rfl rfl

theorem State.startsMoves_foldl {α : Type} {f : State → α → State} (h : ∀ (a : State) x, a.StartsMoves 0 (f a x)) (l : List α)
    (s : State) : s.StartsMoves 0 (l.foldl f s) := by
  induction l generalizing s with
  | nil => exact .refl s
  | cons x l ih => exact (h s x).trans (ih _)

theorem State.startsMoves_setTile (s : State) (p : Nat) (t : TileRec) : s.StartsMoves 0 (s.setTile p t) :=
  State.startsMoves_zero rfl rfl rfl

theorem State.startsMoves_setStripe (s : State) (n : Nat) (r : StripeRec) : s.StartsMoves 0 (s.setStripe n r) :=
  State.startsMoves_zero rfl rfl rfl

theorem State.startsMoves_clogNow (s : State) (type a b c : Nat) : s.StartsMoves 0 (s.clogNow type a b c) := by
  obtain ⟨_, _, _, _, h⟩ := s.clogNow_eq type a b c
  rw [h]
  exact State.startsMoves_zero rfl rfl rfl

theorem State.startsMoves_spareCheck (s : State) : s.StartsMoves 0 s.spareCheck where
  regs := by
    have hwr (v : Nat) : s.RegsBut takeKeys (s.wr D.CON_STAT_spare v) := fun k hk =>
      s.regsBut_wr _ v 0 k (by simp only [takeKeys, List.mem_cons, not_or] at hk; simpa using hk.1)
    have hlog (v code aux arg : Nat) : s.RegsBut takeKeys ((s.wr D.CON_STAT_spare v).log code 0 aux arg) := fun k hk =>
      ((State.near_log ..).regs k (fun hmem => hk (List.mem_cons_of_mem _ hmem))).trans (hwr v k hk)
    unfold State.spareCheck
    extract_lets h old new s1
    split
    · exact hwr new
    · split
      · exact hlog new _ _ _
      · exact hlog new _ _ _
  moves := by rw [State.spareCheck_med]; exact Nat.le_refl _
  reclaim := by rw [State.spareCheck_med]

theorem State.startsMoves_takeTile (s : State) (p : Nat) : s.StartsMoves 0 (s.takeTile p) := by
  unfold State.takeTile
  extract_lets n r
  refine State.StartsMoves.trans (n := 0) (m := 0) ?_ (State.startsMoves_spareCheck _)
  exact State.startsMoves_zero rfl rfl rfl

theorem State.startsMoves_setCode (s : State) (n : Nat) (light : Bool) : s.StartsMoves 0 (s.setCode n light) :=
  (s.startsMoves_setStripe _ _).trans (State.startsMoves_clogNow ..)

theorem State.Imaged.startsMoves {s t : State} (h : s.Imaged t) : s.StartsMoves 0 t := by
  obtain ⟨_, _, _, _, rfl⟩ := h
  exact State.startsMoves_zero rfl rfl rfl

theorem State.startsMoves_blank (s : State) (n : Nat) : s.StartsMoves 0 (s.blank n) :=
  State.Imaged.startsMoves
    (State.imaged_foldl (fun a _ => State.imaged_foldl (fun a _ => a.imaged_putImage _ _ _) _ a) _ s)

theorem State.startsMoves_readyStripe {s t : State} {n : Nat} {light : Bool} (h : s.readyStripe n light = some t) :
    s.StartsMoves 0 t := by
  unfold State.readyStripe at h
  dsimp only at h
  split at h
  · cases h
  · split at h
    · cases h
      exact s.startsMoves_setCode _ _
    · split at h
      · cases h
        split
        · exact .refl s
        · exact (s.startsMoves_blank n).trans (State.startsMoves_setCode _ _ _)
      · cases h

/-- Taking a tile begins no move. -/
theorem State.startsMoves_allocTile {s t : State} {light : Bool} {pick q : Nat} (h : s.allocTile light pick = some (q, t)) :
    s.StartsMoves 0 t := by
  unfold State.allocTile at h
  split at h
  · cases h
    exact s.startsMoves_takeTile _
  · split at h
    · obtain ⟨p, -, hp⟩ := Option.map_eq_some_iff.mp h
      cases hp
      exact s.startsMoves_takeTile _
    · obtain ⟨a, ha, hpa⟩ := Option.bind_eq_some_iff.mp h
      obtain ⟨p, -, hp⟩ := Option.map_eq_some_iff.mp hpa
      cases hp
      exact (State.startsMoves_readyStripe ha).trans (a.startsMoves_takeTile _)

theorem State.startsMoves_moveTo (s : State) (t src q : Nat) (forced : Bool) : s.StartsMoves 1 (s.moveTo t src q forced) :=
  ⟨fun _ _ => rfl, length_ins_le .., rfl⟩

theorem State.startsMoves_moveStart (s : State) (t pick : Nat) : s.StartsMoves 1 (s.moveStart t pick) := by
  unfold State.moveStart
  dsimp only
  split
  · exact (State.StartsMoves.refl s).mono (by decide)
  · split
    next h => exact (State.startsMoves_allocTile h).trans (State.startsMoves_moveTo ..)
    · exact (State.StartsMoves.refl s).mono (by decide)

/-! Reclaim (R154). -/

theorem exec_reclaim (pick : Fin 33554432) (s : State) : exec (.reclaim pick) s = execReclaim pick s := rfl

theorem reclaim_stops {s : State} (pick : Fin 33554432) (hopen : 524288 < s.openStripes) :
    Answers (.reclaim pick) s fun t => t = { s with med := { s.med with reclaim := false } } := by
  have hrun : (decide (s.openStripes < 262144) || s.med.reclaim && decide (s.openStripes ≤ 524288)) = false := by
    simp [show ¬ s.openStripes < 262144 by omega, show ¬ s.openStripes ≤ 524288 by omega]
  have hexec : exec (.reclaim pick) s = .next { s with med := { s.med with reclaim := false } } := by
    simp only [exec_reclaim, execReclaim, hrun, true_or, if_true]
  exact answers_of_exec hexec rfl rfl

theorem reclaim_runs {s : State} (pick : Fin 33554432) (hopen : s.openStripes < 262144) :
    Answers (.reclaim pick) s fun t => t.med.reclaim = true := by
  refine answers_of_exists ?_
  dsimp only
  rw [exec_reclaim]
  unfold execReclaim
  extract_lets n run m s1 l
  have hrun : s1.med.reclaim = true := by simp [s1, run, n, hopen]
  split
  · exact ⟨s1, rfl, hrun⟩
  · split
    · exact ⟨s1, rfl, hrun⟩
    · split
      · exact ⟨_, rfl, (s1.startsMoves_moveStart _ _).reclaim.trans hrun⟩
      · exact ⟨s1, rfl, hrun⟩

end Sys2Proof.Machine
end

section
/-! SUPPORT. Wear passes (R163, R164, R177). -/

namespace Sys2Proof.Machine

/-! What a pass reports (R177). -/

/-- The state that shows the wear a pass has found: each die's, the mean and the highest. -/
def State.wearReported (s : State) : State :=
  let pct (n : Nat) : Nat := min 255 (100 * n / 640000000)
  let ds := (s.med.tiles.map (fun e => dieKey e.1)).eraseDups
  ((ds.foldl (fun (a : State) d => a.wr D.CON_DIE_wear (pct (s.dieMean d)) d) s).wr D.CON_HEALTH_wear (pct s.wearMean)).wr
    D.CON_HEALTH_maxwear ((ds.map (fun d => pct (s.dieMean d))).foldl max 0)

theorem State.only_wearReported (s : State) : s.Only [.regs] s.wearReported := by
  have hfold (v : Nat → Nat) (l : List Nat) (a : State) (h : s.Only [.regs] a) :
      s.Only [.regs] (l.foldl (fun (a : State) d => a.wr D.CON_DIE_wear (v d) d) a) := by
    induction l generalizing a with
    | nil => exact h
    | cons d l ih => exact ih _ (h.wr _ _ _)
  exact ((hfold _ _ s (.refl s _)).wr _ _ _).wr _ _ _

/-- The dies' registers lie above the pass's own parameters and controls, whatever number a tile names. -/
theorem State.rd_wearReported (s : State) {f : FldDesc} (hdie : f.key 0 < D.CON_DIE_wear.key 0)
    (hmean : D.CON_HEALTH_wear.key 0 ≠ f.key 0) (hmax : D.CON_HEALTH_maxwear.key 0 ≠ f.key 0) :
    s.wearReported.rd f = s.rd f := by
  refine (State.rd_wr_ne _ _ _ _ _ _ hmax).trans ((State.rd_wr_ne _ _ _ _ _ _ hmean).trans
    (foldl_keeps (g := fun a : State => a.rd f) (fun a d => State.rd_wr_ne _ _ _ _ _ _ fun e => ?_) _ _))
  have hkey : D.CON_DIE_wear.key 0 ≤ D.CON_DIE_wear.key d := by
    simp only [FldDesc.key]
    omega
  omega

theorem State.wearReported_wear (s : State) : s.wearReported.rd D.CON_HEALTH_wear = min 255 (100 * s.wearMean / 640000000) := by
  refine (State.rd_wr_ne _ _ _ _ _ _ (by decide)).trans ((State.rd_wr_same _ _ _ _).trans (Nat.mod_eq_of_lt ?_))
  exact (min_le_left _ _).trans_lt (by decide)

/-! The three loops of R164. -/

theorem State.startsMoves_takeFor (s : State) (p : Nat) (light : Bool) : s.StartsMoves 0 (s.takeFor p light) := by
  unfold State.takeFor
  split
  · exact (s.startsMoves_setCode _ _).trans (State.startsMoves_takeTile _ _)
  · exact s.startsMoves_takeTile p

/-- The first loop counts the moves it starts, and starts none past the limit. -/
theorem State.startsMoves_wearHot (m : Nat) (l : List Nat) (s : State) (moves : Nat) : ∃ n,
    s.StartsMoves n (s.wearHot m l moves).2 ∧ (s.wearHot m l moves).1 = moves + n ∧
      moves + n ≤ max moves (s.rd D.CON_WEAR_maxmoves) := by
  have hnone : ∃ n, s.StartsMoves n s ∧ moves = moves + n ∧ moves + n ≤ max moves (s.rd D.CON_WEAR_maxmoves) :=
    ⟨0, .refl s, rfl, le_max_left _ _⟩
  induction l generalizing s moves with
  | nil => exact hnone
  | cons p l ih =>
    have hskip := ih s moves hnone
    unfold State.wearHot
    split
    · exact hnone
    next hgo =>
      split
      · exact hskip
      · extract_lets light q
        split
        next q t _ _ =>
          split
          · exact hskip
          · extract_lets s1 w
            have h1 : s.StartsMoves 1 (s1.setTile p { s1.tile p with worn := true }) :=
              ((s.startsMoves_takeFor _ _).trans (State.startsMoves_moveTo ..)).trans (State.startsMoves_setTile _ _ _)
            have hmax := h1.rd D.CON_WEAR_maxmoves 0 (by decide)
            obtain ⟨n, hn, hcount, hle⟩ := ih _ (moves + 1) ⟨0, .refl _, rfl, le_max_left _ _⟩
            exact ⟨1 + n, h1.trans hn, by rw [hcount]; omega, by omega⟩
        · exact hskip

theorem State.startsMoves_wearCold (lists : List (List Nat)) (l : List Nat) (s : State) (moves : Nat) :
    s.StartsMoves (s.rd D.CON_WEAR_maxmoves - moves) (s.wearCold lists l moves) := by
  have hnone : s.StartsMoves (s.rd D.CON_WEAR_maxmoves - moves) s := (State.StartsMoves.refl s).mono (Nat.zero_le _)
  induction l generalizing s moves with
  | nil => exact hnone
  | cons w l ih =>
    unfold State.wearCold
    split
    · exact hnone
    next hgo =>
      extract_lets fit
      split
      next c t _ =>
        have h1 := (s.startsMoves_takeFor w (s.stripe (stripeOf c)).light).trans (State.startsMoves_moveTo _ t c w (s.tile c).forced)
        have hmax := h1.rd D.CON_WEAR_maxmoves 0 (by decide)
        exact (h1.trans (ih _ (moves + 1) ((State.StartsMoves.refl _).mono (Nat.zero_le _)))).mono (by omega)
      · exact ih s moves hnone

theorem State.startsMoves_wearParity (s : State) (m : Nat) : s.StartsMoves 0 (s.wearParity m) := by
  refine State.startsMoves_foldl (fun a e => ?_) _ _
  extract_lets n r
  split
  · split
    · exact State.startsMoves_zero rfl rfl rfl
    · exact .refl a
  · exact .refl a

/-- The loops of a pass that has found the mean `m`; a tile worn no more loses its mark. -/
def State.wearLeveled (s : State) (m : Nat) : State :=
  let mapped := sortDesc (fun p => (s.tile p).wcount) ((s.med.tiles.filter (fun e => decide (e.2.st = 1))).map Prod.fst)
  let x := s.wearHot m mapped 0
  let worn := (sortDesc (fun p => (x.2.tile p).wcount) ((x.2.med.tiles.filter (fun e =>
    decide (e.2.st = 0) && e.2.worn)).map Prod.fst)).reverse
  let s2 := (x.2.wearCold ((List.range 4).map x.2.coldList) worn x.1).wearParity m
  let lim := m + s2.rd D.CON_WEAR_hotdelta / 2
  (s2.med.tiles.filter (fun e => e.2.worn && decide (e.2.wcount ≤ lim))).foldl
    (fun (a : State) (e : Nat × TileRec) => a.setTile e.1 { e.2 with worn := false }) s2

theorem State.startsMoves_wearLeveled (s : State) (m : Nat) : s.StartsMoves (s.rd D.CON_WEAR_maxmoves) (s.wearLeveled m) := by
  unfold State.wearLeveled
  extract_lets mapped x worn s2 lim
  obtain ⟨n, hhot, hcount, hle⟩ := State.startsMoves_wearHot m mapped s 0
  have hcold := State.startsMoves_wearCold ((List.range 4).map x.2.coldList) worn x.2 x.1
  have hmax : x.2.rd D.CON_WEAR_maxmoves = s.rd D.CON_WEAR_maxmoves := hhot.rd _ 0 (by decide)
  have hx : x.1 = 0 + n := hcount
  refine (((hhot.trans hcold).trans (State.startsMoves_wearParity _ m)).trans
    (State.startsMoves_foldl (fun a e => a.startsMoves_setTile _ _) _ _)).mono ?_
  omega

/-! The command. -/

theorem exec_wearPass (s : State) : exec .wearPass s = .next (if s.wearReported.bit D.CON_CTL_wear = false ∨
    s.wearReported.isFlushing ∨ s.wearReported.shareStopped then s.wearReported else s.wearReported.wearLeveled s.wearMean) := by
  rw [apply_ite Host.Outcome.next]
  rfl

theorem wearPass_off {s : State} (hoff : s.bit D.CON_CTL_wear = false) : Answers .wearPass s fun t =>
    t.rd D.CON_HEALTH_wear = min 255 (100 * s.wearMean / 640000000) ∧ s.Only [.regs] t := by
  have hoff' : s.wearReported.bit D.CON_CTL_wear = false := by
    rw [State.bit, s.rd_wearReported (by decide) (by decide) (by decide)]
    exact hoff
  refine answers_of_exec (t := s.wearReported) ?_ (s.only_wearReported .tcnt (by decide)) ⟨s.wearReported_wear, s.only_wearReported⟩
  rw [exec_wearPass, if_pos (.inl hoff')]

theorem wearPass_levels (s : State) : Answers .wearPass s fun t =>
    t.rd D.CON_HEALTH_wear = min 255 (100 * s.wearMean / 640000000) ∧
      t.med.moves.length ≤ s.med.moves.length + s.rd D.CON_WEAR_maxmoves := by
  have hwear := s.wearReported_wear
  have hmed : s.wearReported.med = s.med := s.only_wearReported .med (by decide)
  have hlevel := s.wearReported.startsMoves_wearLeveled s.wearMean
  rw [s.rd_wearReported (by decide) (by decide) (by decide)] at hlevel
  have hleveled := hlevel.rd D.CON_HEALTH_wear 0 (by decide)
  have hmoves := hlevel.moves
  rw [hmed] at hmoves
  have hexec := exec_wearPass s
  generalize s.wearReported.wearLeveled s.wearMean = u at hexec hleveled hmoves
  generalize s.wearReported = a at hexec hwear hmed hleveled
  refine answers_of_exists ⟨_, hexec, ?_⟩
  split
  · exact ⟨hwear, (congrArg (fun m : Media => m.moves.length) hmed).trans_le (Nat.le_add_right _ _)⟩
  · exact ⟨hleveled.trans hwear, hmoves⟩

end Sys2Proof.Machine
end

section
/-! SUPPORT. Drift learning, sentinels and refresh (R165 to R168, R170). -/

namespace Sys2Proof.Machine

/-! The drift table (Table 5.7). -/

theorem key_dtabField (b i : Nat) : (dtabField b).key i = (0xb2000 + i * 8) * 64 + 16 * (b % 4) := by
  have hb : b % 4 < 4 := Nat.mod_lt _ (by decide)
  unfold dtabField
  split
  next h => simp [FldDesc.key, D.CON_DTAB_bin0, h]
  split
  next h => simp [FldDesc.key, D.CON_DTAB_bin1, h]
  split
  next h => simp [FldDesc.key, D.CON_DTAB_bin2, h]
  next h0 h1 h2 =>
    have h3 : b % 4 = 3 := by omega
    simp [FldDesc.key, D.CON_DTAB_bin3, h3]

theorem cap_dtabField (b : Nat) : (dtabField b).cap = 2 ^ 16 := by
  unfold dtabField
  (repeat' split) <;> rfl

theorem State.dtab_setDtab_same (s : State) (d b v : Nat) : (s.setDtab d b v).dtab d b = v % 2 ^ 16 := by
  rw [State.dtab, State.setDtab, State.rd_wr_same, cap_dtabField]

/-- An entry of the table is one die's and one bin's. -/
theorem State.dtab_setDtab_ne (s : State) {d b e c : Nat} (v : Nat) (hb : b < 16) (hc : c < 16) (h : d ≠ e ∨ b ≠ c) :
    (s.setDtab d b v).dtab e c = s.dtab e c := by
  refine State.rd_wr_ne _ _ _ _ _ _ ?_
  rw [key_dtabField, key_dtabField]
  omega

theorem bookKeys_apart : ∀ k ∈ bookKeys, k < 0xb2000 * 64 ∨ 0xb4000 * 64 ≤ k := by decide

theorem State.Near.dtab {s t : State} (h : s.Near t) {d b : Nat} (hd : d < 256) (hb : b < 16) : t.dtab d b = s.dtab d b := by
  refine h.rd _ _ fun hmem => ?_
  have hkey := bookKeys_apart _ hmem
  rw [key_dtabField] at hkey
  omega

theorem State.dtab_of_regs {s t : State} (h : t.regs = s.regs) (d b : Nat) : t.dtab d b = s.dtab d b :=
  State.rd_of_regs h _ _

/-! What a pass teaches (R167). -/

/-- The entries of every die but `d` are as they were. -/
def State.DtabBut (s : State) (d : Nat) (t : State) : Prop := ∀ e b, e ≠ d → e < 256 → b < 16 → t.dtab e b = s.dtab e b

theorem State.DtabBut.trans {s t u : State} {d : Nat} (h : s.DtabBut d t) (g : t.DtabBut d u) : s.DtabBut d u :=
  fun e b hne he hb => (g e b hne he hb).trans (h e b hne he hb)

theorem State.dtabBut_of_regs {s t : State} (h : t.regs = s.regs) (d : Nat) : s.DtabBut d t :=
  fun e b _ _ _ => State.dtab_of_regs h e b

theorem State.dtabBut_foldl {α : Type} {f : State → α → State} {d : Nat} {l : List α}
    (h : ∀ (a : State), ∀ x ∈ l, a.DtabBut d (f a x)) (s : State) : s.DtabBut d (l.foldl f s) := by
  induction l generalizing s with
  | nil => exact State.dtabBut_of_regs rfl d
  | cons x l ih => exact (h s x (by simp)).trans (ih (fun a y hy => h a y (by simp [hy])) _)

theorem State.dtabBut_setDtab (s : State) (d : Nat) {k : Nat} (hk : k < 16) (v : Nat) : s.DtabBut d (s.setDtab d k v) :=
  fun _ _ hne _ hb => s.dtab_setDtab_ne v hk hb (.inl hne.symm)

theorem State.dtabBut_learn (s : State) (d : Nat) {k : Nat} (hk : k < 16) (e : Nat × Nat × Nat) :
    s.DtabBut d (s.learn d k e) := by
  have hlog (v code arg : Nat) : s.DtabBut d ((s.setDtab d k v).log code d k arg) :=
    (s.dtabBut_setDtab d hk v).trans fun _ _ _ he hb => (State.near_log ..).dtab he hb
  unfold State.learn
  extract_lets v lim r seen put
  (repeat' split)
  case isTrue.isTrue | isFalse.isTrue.isTrue => exact hlog _ _ _
  all_goals exact s.dtabBut_setDtab d hk _

/-- An entry's reference raised to that of the entry before it. -/
def State.raiseRef (s : State) (d i : Nat) : State :=
  if vrefOf (s.dtab d (i + 1)) < vrefOf (s.dtab d i) then
    s.setDtab d (i + 1) (withVref (s.dtab d (i + 1)) (vrefOf (s.dtab d i)))
  else s

theorem State.raiseRefs_eq (s : State) (d : Nat) : s.raiseRefs d = (List.range 15).foldl (fun a i => a.raiseRef d i) s := rfl

theorem vrefOf_withVref (v w : Nat) : vrefOf (withVref v (vrefOf w) % 2 ^ 16) = vrefOf w := by
  simp only [vrefOf, withVref]
  omega

theorem State.dtabBut_raiseRef (s : State) (d : Nat) {i : Nat} (hi : i < 15) : s.DtabBut d (s.raiseRef d i) := by
  unfold State.raiseRef
  split
  · exact s.dtabBut_setDtab d (by omega) _
  · exact State.dtabBut_of_regs rfl d

theorem State.raiseRef_below (s : State) (d : Nat) {i b : Nat} (hi : i < 15) (hb : b ≤ i) :
    (s.raiseRef d i).dtab d b = s.dtab d b := by
  unfold State.raiseRef
  split
  · exact s.dtab_setDtab_ne _ (by omega) (by omega) (.inr (by omega))
  · rfl

theorem State.raiseRef_rises (s : State) (d : Nat) {i : Nat} (hi : i < 15) :
    vrefOf ((s.raiseRef d i).dtab d i) ≤ vrefOf ((s.raiseRef d i).dtab d (i + 1)) := by
  rw [s.raiseRef_below d hi (Nat.le_refl i)]
  unfold State.raiseRef
  split
  · rw [State.dtab_setDtab_same, vrefOf_withVref]
  · omega

/-- The references of a die that drift has raised rise with the age bin. -/
theorem State.raiseRefs_rise (s : State) (d : Nat) {n : Nat} (hn : n ≤ 15) : ∀ i < n,
    vrefOf (((List.range n).foldl (fun a i => a.raiseRef d i) s).dtab d i) ≤
      vrefOf (((List.range n).foldl (fun a i => a.raiseRef d i) s).dtab d (i + 1)) := by
  induction n with
  | zero => exact fun i hi => absurd hi (Nat.not_lt_zero i)
  | succ n ih =>
    intro i hi
    rw [List.range_succ, List.foldl_append, List.foldl_cons, List.foldl_nil]
    rcases Nat.lt_succ_iff_lt_or_eq.mp hi with hlt | rfl
    · rw [State.raiseRef_below _ d hn (by omega), State.raiseRef_below _ d hn (by omega)]
      exact ih (by omega) i hlt
    · exact State.raiseRef_rises _ d hn

/-! The pass. -/

theorem State.countRead_regs (s : State) (p : Nat) : (s.countRead p).regs = s.regs := rfl

theorem State.countReads_regs (s : State) (p k : Nat) : (s.countReads p k).regs = s.regs := by
  rw [State.countReads]
  induction k with
  | zero => rfl
  | succ k ih => exact ih

/-- A die that has had its pass (R168). -/
def State.driftDone (s : State) (d : Nat) : State :=
  { s.setDie d { s.die d with skews := 0 } with med := { s.med with
      dies := (s.setDie d { s.die d with skews := 0 }).med.dies, driftDue := s.med.driftDue.filter (fun x => x ≠ d) } }

theorem State.driftDone_regs (s : State) (d : Nat) : (s.driftDone d).regs = s.regs := rfl

theorem State.driftDone_skews (s : State) (d : Nat) : ((s.driftDone d).die d).skews = 0 :=
  congrArg DieCnt.skews (SMap.get_put_same ..)

/-- The bins whose slots are of their age have been taught by three reads of each sentinel leaf (R167). -/
def State.driftLearned (s : State) (d : Nat) (errs : List (Nat × Nat × Nat)) : State :=
  ((List.range 16).filter (fun k => decide (ageBin (s.now - SMap.get 0 s.med.sentinels (d * 16 + k)) = k))).foldl
    (fun (a : State) k =>
      ((a.sentinelTiles d).foldl (fun (x : State) p => x.countReads p 3) a).learn d k (errs[k]?.getD (0, 0, 0))) s

theorem State.dtabBut_driftLearned (s : State) (d : Nat) (errs : List (Nat × Nat × Nat)) :
    s.DtabBut d (s.driftLearned d errs) := by
  refine State.dtabBut_foldl (fun a k hk => ?_) s
  have hk16 : k < 16 := List.mem_range.mp (List.mem_filter.mp hk).1
  have hcount : a.DtabBut d ((a.sentinelTiles d).foldl (fun (x : State) p => x.countReads p 3) a) :=
    State.dtabBut_of_regs (foldl_keeps (g := State.regs) (fun x p => x.countReads_regs p 3) _ _) d
  exact hcount.trans (State.dtabBut_learn _ d hk16 _)

theorem State.dtabBut_raiseRefs (s : State) (d : Nat) : s.DtabBut d (s.raiseRefs d) :=
  State.dtabBut_foldl (fun a _ hi => a.dtabBut_raiseRef d (List.mem_range.mp hi)) s

theorem driftPass_answers {die : Fin 256} {s : State} (errs : List (Nat × Nat × Nat)) (hretired : (s.die die).retired = false)
    (hpresent : (s.die die).present = true) (hdrift : s.bit D.CON_CTL_drift = true) (hflush : s.isFlushing = false)
    (hshare : s.shareStopped = false) : Answers (.driftPass die errs) s fun t => (t.die die).skews = 0 ∧
      (∀ i, i < 15 → vrefOf (t.dtab die i) ≤ vrefOf (t.dtab die (i + 1))) ∧
        ∀ d b, d ≠ die.val → d < 256 → b < 16 → t.dtab d b = s.dtab d b := by
  have hexec : exec (.driftPass die errs) s = .next (((s.driftLearned die errs).raiseRefs die).driftDone die) := by
    change execDriftPass die errs s = _
    exact if_neg (by simp [hretired, hpresent, hdrift, hflush, hshare])
  have hbut := (s.dtabBut_driftLearned die errs).trans (State.dtabBut_raiseRefs _ die)
  have hrise := State.raiseRefs_rise (s.driftLearned die errs) die (Nat.le_refl 15)
  rw [← State.raiseRefs_eq] at hrise
  generalize (s.driftLearned die errs).raiseRefs die = u at hexec hbut hrise
  refine answers_of_exists ⟨_, hexec, u.driftDone_skews die, fun i hi => ?_, hbut.trans (State.dtabBut_of_regs rfl _)⟩
  have hdone (b : Nat) : ({ u.driftDone die with tcnt := s.tcnt } : State).dtab die b = u.dtab die b := State.dtab_of_regs rfl _ _
  rw [hdone, hdone]
  exact hrise i hi

/-! Sentinels (R165). -/

theorem exec_sentinelRewrite (die : Fin 256) (slot : Fin 16) (s : State) :
    exec (.sentinelRewrite die slot) s = execSentinelRewrite die slot s := rfl

theorem State.applyLog_sentinel (s : State) {e : LogEnt} (h : e.type = 0x0A) : s.applyLog e =
    { s with med := { s.med with sentinels := SMap.ins s.med.sentinels (e.a * 16 + e.b) e.c } } := by
  simp [State.applyLog, h]

/-- A SENTINEL record takes effect at once where no other waits. -/
theorem State.clogNow_sentinel {s : State} (h : s.med.cpend = []) (d slot time : Nat) : ∃ m, s.clogNow 0x0A d slot time =
    { s with med := m } ∧ SMap.find m.sentinels (d * 16 + slot) = some time ∧
      SMap.find m.clog s.med.cnext = some ⟨s.med.cnext, 0x0A, d, slot, time⟩ := by
  rw [State.clogNow_alone h, State.applyLog_sentinel _ rfl]
  exact ⟨_, rfl, SMap.find_ins_same .., State.find_clogPut rfl⟩

theorem sentinelRewrite_answers {die : Fin 256} {s : State} (slot : Fin 16) (hretired : (s.die die).retired = false)
    (hpresent : (s.die die).present = true) (hflush : s.isFlushing = false) (hcpend : s.med.cpend = []) :
    Answers (.sentinelRewrite die slot) s fun t => SMap.find t.med.sentinels (die.val * 16 + slot) = some s.now ∧
      SMap.find t.med.clog s.med.cnext = some ⟨s.med.cnext, 0x0A, die, slot, s.now⟩ ∧ s.Only [.med] t := by
  refine answers_of_exists ?_
  rw [exec_sentinelRewrite]
  unfold execSentinelRewrite
  extract_lets d s1
  rw [if_neg (by simp [hretired, hpresent, hflush, d])]
  have himaged : s.Imaged s1 := State.imaged_foldl (fun a p => a.imaged_putImage _ _ _) _ _
  generalize s1 = u at himaged
  obtain ⟨img, ltime, tiles, n, rfl⟩ := himaged
  obtain ⟨m, hm, hsentinel, hclog⟩ := State.clogNow_sentinel (s := { s with tcnt := n, med := { s.med with
    img := img, ltime := ltime, tiles := tiles } }) hcpend d slot s.now
  exact ⟨_, congrArg Host.Outcome.next hm, hsentinel, hclog, (State.Only.refl s _).med m⟩

/-! Refresh in place (R170). -/

theorem exec_tileRefresh (phys : Fin 536870912) (pick : Fin 33554432) (s : State) :
    exec (.tileRefresh phys pick) s = execTileRefresh phys pick s := rfl

/-- A leaf written with the image it holds changes no image. -/
theorem State.image_putImage_self (s : State) (p n q m : Nat) : (s.putImage p n (s.image p n)).image q m = s.image q m := by
  have himg : (s.putImage p n (s.image p n)).med.img = SMap.put 0 s.med.img (p * 64 + n) (s.image p n) := rfl
  rw [State.image, himg]
  by_cases h : p * 64 + n = q * 64 + m
  · rw [h, SMap.get_put_same, State.image, State.image, h]
  · exact SMap.get_put_ne _ _ _ _ h

theorem State.refreshInPlace_eq (s : State) (p : Nat) : ∃ u, s.Imaged u ∧ (∀ q m, u.image q m = s.image q m) ∧
    s.refreshInPlace p = u.setTile p { u.tile p with rcount := 0, refresh := false } :=
  ⟨_, State.imaged_foldl (fun a _ => a.imaged_putImage _ _ _) _ _,
    fun q m => foldl_keeps (g := fun a : State => a.image q m) (fun a n => a.image_putImage_self p n q m) _ _, rfl⟩

theorem tileRefresh_answers {phys : Fin 536870912} {s : State} (pick : Fin 33554432) (hdue : s.refreshDue phys = true)
    (hflush : s.isFlushing = false) (hlogical : s.logicalOf phys = none) (hupdates : s.med.updates = [])
    (havail : s.unavail (partKey phys) = false) (hwrite : s.noWrite (partKey phys) = false)
    (hgone : (s.stripe (stripeOf phys)).isGone (memberOf phys) = false) (hst : (s.tile phys).st ≠ 2) :
    Answers (.tileRefresh phys pick) s fun t => (t.tile phys).refresh = false ∧ (t.tile phys).rcount = 0 ∧
      (∀ p n, p < 2 ^ 29 → n < 64 → t.image p n = s.image p n) ∧ s.Only [.med] t := by
  have hexec : exec (.tileRefresh phys pick) s = .next (s.refreshInPlace phys) := by
    simp [exec_tileRefresh, execTileRefresh, hdue, hflush, hlogical, hupdates, havail, hwrite, hgone, hst]
  obtain ⟨u, ⟨_, _, _, _, rfl⟩, himage, hu⟩ := s.refreshInPlace_eq phys
  refine answers_of_exists ⟨_, hexec.trans (congrArg Host.Outcome.next hu), ?_⟩
  exact ⟨congrArg TileRec.refresh (SMap.get_put_same ..), congrArg TileRec.rcount (SMap.get_put_same ..),
    fun p n _ _ => himage p n, (State.Only.refl s _).med _⟩

end Sys2Proof.Machine
end

section
/-! SUPPORT. The patrol scrub (R171): the position it keeps, what it leaves of a sound leaf position, and its command. -/

namespace Sys2Proof.Machine

/-! Retirement, lost lines and recovered leaves do not move the scrub on. -/

section
variable (s : State)

@[simp] theorem State.setTile_scrubLeaf (p : Nat) (t : TileRec) : (s.setTile p t).med.scrubLeaf = s.med.scrubLeaf := rfl
@[simp] theorem State.setStripe_scrubLeaf (n : Nat) (r : StripeRec) : (s.setStripe n r).med.scrubLeaf = s.med.scrubLeaf := rfl
@[simp] theorem State.setPart_scrubLeaf (k : Nat) (p : Part) : (s.setPart k p).med.scrubLeaf = s.med.scrubLeaf := rfl
@[simp] theorem State.setDie_scrubLeaf (d : Nat) (x : DieCnt) : (s.setDie d x).med.scrubLeaf = s.med.scrubLeaf := rfl
@[simp] theorem State.addSat_scrubLeaf (f : FldDesc) (n i : Nat) : (s.addSat f n i).med.scrubLeaf = s.med.scrubLeaf := rfl
@[simp] theorem State.dieGone_scrubLeaf (d : Nat) : (s.dieGone d).med.scrubLeaf = s.med.scrubLeaf := rfl
@[simp] theorem State.setRebuilds_scrubLeaf (l : List Rebuild) : (s.setRebuilds l).med.scrubLeaf = s.med.scrubLeaf := rfl
@[simp] theorem State.countRead_scrubLeaf (p : Nat) : (s.countRead p).med.scrubLeaf = s.med.scrubLeaf := rfl
@[simp] theorem State.putImage_scrubLeaf (p n : Nat) (i : Image) : (s.putImage p n i).med.scrubLeaf = s.med.scrubLeaf := rfl
@[simp] theorem State.journal_scrubLeaf (type tile arg0 arg1 : Nat) :
    (s.journal type tile arg0 arg1).med.scrubLeaf = s.med.scrubLeaf := rfl
@[simp] theorem State.setLost_scrubLeaf (l : List LostEnt) : (s.setLost l).med.scrubLeaf = s.med.scrubLeaf := rfl

@[simp] theorem State.scrubLeaf_ite (c : Prop) [Decidable c] (t : State) :
    (if c then s else t).med.scrubLeaf = if c then s.med.scrubLeaf else t.med.scrubLeaf :=
  apply_ite (fun a : State => a.med.scrubLeaf) c s t
@[simp] theorem State.scrubLeaf_foldl {α : Type} {f : State → α → State} (h : ∀ a x, (f a x).med.scrubLeaf = a.med.scrubLeaf)
    (l : List α) : (l.foldl f s).med.scrubLeaf = s.med.scrubLeaf := foldl_keeps (g := fun a : State => a.med.scrubLeaf) h l s

@[simp] theorem State.clogNow_scrubLeaf (type a b c : Nat) : (s.clogNow type a b c).med.scrubLeaf = s.med.scrubLeaf := by
  obtain ⟨_, _, _, _, h⟩ := s.clogNow_eq type a b c
  rw [h]
@[simp] theorem State.queueExcise_scrubLeaf (p : Nat) : (s.queueExcise p).med.scrubLeaf = s.med.scrubLeaf := by
  simp [State.queueExcise]
@[simp] theorem State.queueRebuild_scrubLeaf (k : Nat) : (s.queueRebuild k).med.scrubLeaf = s.med.scrubLeaf := by
  simp [State.queueRebuild]
@[simp] theorem State.retireDie_scrubLeaf (d cause : Nat) : (s.retireDie d cause).med.scrubLeaf = s.med.scrubLeaf := by
  simp [State.retireDie]
@[simp] theorem State.retirePart_scrubLeaf (k : Nat) : (s.retirePart k).med.scrubLeaf = s.med.scrubLeaf := by
  simp [State.retirePart]
@[simp] theorem State.retireTile_scrubLeaf (p cause : Nat) : (s.retireTile p cause).med.scrubLeaf = s.med.scrubLeaf := by
  simp [State.retireTile]
@[simp] theorem State.recovered_scrubLeaf (p n : Nat) (img : Image) (quiet : Bool) :
    (s.recovered p n img quiet).med.scrubLeaf = s.med.scrubLeaf := by
  simp [State.recovered]
@[simp] theorem State.listOverflowed_scrubLeaf : s.listOverflowed.med.scrubLeaf = s.med.scrubLeaf :=
  s.scrubLeaf_foldl (fun a t => by simp) _
@[simp] theorem State.enterWprot_scrubLeaf : s.enterWprot.med.scrubLeaf = s.med.scrubLeaf := by
  simp [State.enterWprot]
@[simp] theorem State.loseLine_scrubLeaf (ll : Nat) : (s.loseLine ll).med.scrubLeaf = s.med.scrubLeaf := by
  simp [State.loseLine]
@[simp] theorem State.loseLeaf_scrubLeaf (tile leaf : Nat) : (s.loseLeaf tile leaf).med.scrubLeaf = s.med.scrubLeaf := by
  simp [State.loseLeaf]
end

/-! A position read (R171). -/

/-- What is counted of the tiles, and the tally's counters alone differ. -/
def State.Tiled (s t : State) : Prop := ∃ tiles n, t = { s with med := { s.med with tiles := tiles }, tcnt := n }

theorem State.Tiled.refl (s : State) : s.Tiled s := ⟨_, _, rfl⟩

theorem State.Tiled.trans {s t u : State} (h : s.Tiled t) (g : t.Tiled u) : s.Tiled u := by
  obtain ⟨_, _, rfl⟩ := h
  obtain ⟨tiles, n, rfl⟩ := g
  exact ⟨tiles, n, rfl⟩

theorem State.tiled_foldl {α : Type} {f : State → α → State} (h : ∀ (a : State) x, a.Tiled (f a x)) (l : List α)
    (s : State) : s.Tiled (l.foldl f s) := by
  induction l generalizing s with
  | nil => exact .refl s
  | cons x l ih => exact (h s x).trans (ih _)

theorem State.tiled_setTile (s : State) (p : Nat) (t : TileRec) : s.Tiled (s.setTile p t) := ⟨_, _, rfl⟩

theorem State.tiled_countRead (s : State) (p : Nat) : s.Tiled (s.countRead p) := ⟨_, _, rfl⟩

/-- The members of a stripe are read, and those that read with many corrected bits or have been kept long are due for refresh;
`errs` are the wrong bits by member (R170, R171). -/
def State.scrubRead (s : State) (st : Nat) (errs : List (Nat × Image)) : State :=
  let r := s.stripe st
  let ms := r.members
  let err (j : Nat) : Image := ((errs.find? (fun e => decide (e.1 = j))).map Prod.snd).getD 0
  let s1 := ms.foldl (fun (a : State) j => a.countRead (tileOfMember st j)) s
  let bad := ms.filter (fun j => !decodes r.light (err j))
  let s2 := (ms.filter (fun j => !bad.contains j)).foldl (fun (a : State) j =>
    if a.rd D.CON_SCRUB_cthresh * codeT r.light < corrected r.light (err j) * 100 then
      a.setTile (tileOfMember st j) { a.tile (tileOfMember st j) with refresh := true }
    else a) s1
  ms.foldl (fun (a : State) j =>
    let p := tileOfMember st j
    if (a.tile p).st = 1 ∧ a.rd D.CON_SCRUB_retain * 31557600000000000 < a.tileAge (a.tile p).told then
      a.setTile p { a.tile p with refresh := true } else a) s2

theorem State.tiled_scrubRead (s : State) (st : Nat) (errs : List (Nat × Image)) : s.Tiled (s.scrubRead st errs) := by
  refine ((State.tiled_foldl (fun a j => a.tiled_countRead _) _ s).trans
    (State.tiled_foldl (fun a j => ?_) _ _)).trans (State.tiled_foldl (fun a j => ?_) _ _)
  · split
    · exact a.tiled_setTile _ _
    · exact .refl a
  · extract_lets p
    split
    · exact a.tiled_setTile _ _
    · exact .refl a

theorem State.scrubAt_scrubLeaf (s : State) (st n : Nat) (errs : List (Nat × Image)) :
    (s.scrubAt st n errs).med.scrubLeaf = s.med.scrubLeaf := by
  have h3 : (s.scrubRead st errs).med.scrubLeaf = s.med.scrubLeaf := by
    obtain ⟨_, _, h⟩ := s.tiled_scrubRead st errs
    rw [h]
  unfold State.scrubAt
  extract_lets r ms err s1 bad s2 s3 ok s4
  change s3.med.scrubLeaf = s.med.scrubLeaf at h3
  clear_value s3 s2 bad
  split
  · exact (State.recovered_scrubLeaf ..).trans h3
  · refine (State.scrubLeaf_foldl _ (fun a j => ?_) _).trans h3
    split
    · simp
    · rfl
  · split
    · exact h3
    · rw [State.log_med, ← h3]
      simp only [s4]
      split <;> rfl

theorem popBelow_zero (n : Nat) : popBelow 0 n = 0 := by
  unfold popBelow
  exact foldl_eq_self fun k _ => by simp

theorem toNat_zero_image : (0 : Image).toNat = 0 := BitVec.toNat_zero

/-- A read with no wrong bit has none in any codeword, and decodes (R103). -/
theorem eq_zero_of_mem_codewordErrors {light : Bool} {e : Nat} (h : e ∈ codewordErrors light 0) : e = 0 := by
  have hbytes (o n : Nat) : imgBytes 0 o n = 0 := by rw [imgBytes, toNat_zero_image, Nat.zero_div, Nat.zero_mod]
  unfold codewordErrors at h
  split at h
  · obtain ⟨n, -, rfl⟩ := List.mem_map.mp h
    simp only [hbytes, popBelow_zero]
  · rw [List.mem_singleton.mp h, toNat_zero_image, popBelow_zero]

theorem decodes_zero (light : Bool) : decodes light 0 = true :=
  List.all_eq_true.mpr fun e he => by simp [eq_zero_of_mem_codewordErrors he]

theorem corrected_zero (light : Bool) : corrected light 0 = 0 :=
  foldl_eq_self fun e he => by simp [eq_zero_of_mem_codewordErrors he]

theorem State.imageNow_of_no_updates {s : State} (h : s.med.updates = []) (p n : Nat) : s.imageNow p n = s.image p n := by
  rw [State.imageNow, h]
  rfl

/-- A position that reads without a wrong bit and whose parity holds is left as it is, but for what is counted of its tiles. -/
theorem State.tiled_scrubAt {s : State} {st n : Nat} (hupdates : s.med.updates = [])
    (hparity : (s.stripe st).members.foldl (fun (i : Image) j => i ^^^ s.image (tileOfMember st j) n) 0 = 0) :
    s.Tiled (s.scrubAt st n []) := by
  unfold State.scrubAt
  extract_lets r ms err s1 bad s2 s3
  have hbad : bad = [] := List.filter_eq_nil_iff.mpr fun j _ => by
    rw [show decodes r.light (err j) = true from decodes_zero r.light]
    decide
  have h3 : s.Tiled s3 := s.tiled_scrubRead st []
  clear_value s3
  rw [hbad]
  dsimp only
  obtain ⟨tiles, m, rfl⟩ := h3
  have hnow (j : Nat) : ({ s with tcnt := m, med := { s.med with tiles := tiles } } : State).imageNow (tileOfMember st j) n =
      s.image (tileOfMember st j) n := State.imageNow_of_no_updates hupdates _ _
  simp only [hnow]
  rw [if_pos hparity]
  exact ⟨tiles, m, rfl⟩

/-! The position moves on. -/

theorem State.scrubNext_leaf {s : State} (h : s.med.scrubLeaf < 63) :
    s.scrubNext = { s with med := { s.med with scrubLeaf := s.med.scrubLeaf + 1 } } := if_pos h

theorem State.scrubNext_stripe {s : State} (h : s.med.scrubLeaf = 63) (hnext : s.rd D.CON_SCRUBPOS_stripe + 1 < stripeCount) :
    s.scrubNext = (({ s with med := { s.med with scrubLeaf := 0 } } : State).wr D.CON_SCRUBPOS_stripe
      (s.rd D.CON_SCRUBPOS_stripe + 1)).wr D.CON_SCRUBPOS_pct (100 * (s.rd D.CON_SCRUBPOS_stripe + 1) / stripeCount) := by
  rw [State.scrubNext, if_neg (by omega)]
  exact if_neg (by omega)

/-! The command. -/

/-- The state in which a pass that goes on takes its next position; one that cannot keep its pace is logged. -/
def State.scrubBegun (s : State) (late : Bool) : State :=
  if late then (s.wr D.CON_STAT_scrubbing 1).log E.CON_SCRUB_LATE 0 (s.rd D.CON_SCRUBPOS_pct) (s.rd D.CON_SCRUBPOS_stripe)
  else s.wr D.CON_STAT_scrubbing 1

theorem State.scrubBegun_med (s : State) (late : Bool) : (s.scrubBegun late).med = s.med := by
  unfold State.scrubBegun
  split
  · exact State.log_med ..
  · rfl

theorem State.scrubBegun_stripe (s : State) (late : Bool) :
    (s.scrubBegun late).rd D.CON_SCRUBPOS_stripe = s.rd D.CON_SCRUBPOS_stripe := by
  have hwr : (s.wr D.CON_STAT_scrubbing 1).rd D.CON_SCRUBPOS_stripe = s.rd D.CON_SCRUBPOS_stripe :=
    State.rd_wr_ne _ _ _ _ _ _ (by decide)
  unfold State.scrubBegun
  split
  · exact ((State.near_log ..).rd D.CON_SCRUBPOS_stripe 0 (by decide)).trans hwr
  · exact hwr

theorem State.unavail_of_med {s t : State} (h : t.med = s.med) (k : Nat) : t.unavail k = s.unavail k := by
  simp only [State.unavail, State.lostPart, State.rebuilt, State.chan, State.die, State.part, h]

theorem State.updating_of_med {s t : State} (h : t.med = s.med) (st n : Nat) : t.updating st n = s.updating st n := by
  rw [State.updating, State.updating, h]

/-- CLOSED and sentinel stripes are passed over; a stripe under excision, being built, with an open update at the position or an
unavailable member waits; the rest is checked. -/
theorem exec_scrubPosition {s : State} (errs : List (Nat × Image)) (late : Bool) (hon : s.bit D.CON_CTL_scrub = true)
    (hflush : s.isFlushing = false) (hshare : s.shareStopped = false) : exec (.scrubPosition errs late) s =
      let st := s.rd D.CON_SCRUBPOS_stripe
      let u := s.scrubBegun late
      if (s.stripe st).st = 4 ∨ isSentinel st then .next ({ u with med := { s.med with scrubLeaf := 63 } } : State).scrubNext
      else if (s.stripe st).exposed.isSome ∨ (s.stripe st).st = 3 ∨ s.updating st s.med.scrubLeaf ∨
          (s.stripe st).members.any (fun j => s.unavail (partOfRow (rowOf st) j)) then .next u
      else .next (u.scrubAt st s.med.scrubLeaf errs).scrubNext := by
  have hmed := s.scrubBegun_med late
  have hexec : exec (.scrubPosition errs late) s = 
      let st := s.rd D.CON_SCRUBPOS_stripe
      let u := s.scrubBegun late
      if (u.stripe st).st = 4 ∨ isSentinel st then .next ({ u with med := { u.med with scrubLeaf := 63 } } : State).scrubNext
      else if (u.stripe st).exposed.isSome ∨ (u.stripe st).st = 3 ∨ u.updating st s.med.scrubLeaf ∨
          (u.stripe st).members.any (fun j => u.unavail (partOfRow (rowOf st) j)) then .next u
      else .next (u.scrubAt st s.med.scrubLeaf errs).scrubNext := by
    change execScrubPosition errs late s = _
    exact if_neg (by simp [hon, hflush, hshare])
  simp only [hexec, State.stripe_of_med hmed, State.unavail_of_med hmed, State.updating_of_med hmed, hmed]

section
variable {s : State} (hon : s.bit D.CON_CTL_scrub = true) (hflush : s.isFlushing = false) (hshare : s.shareStopped = false)
include hon hflush hshare

theorem scrubPosition_passes (errs : List (Nat × Image)) (late : Bool)
    (hpass : (s.stripe (s.rd D.CON_SCRUBPOS_stripe)).st = 4 ∨ isSentinel (s.rd D.CON_SCRUBPOS_stripe) = true)
    (hnext : s.rd D.CON_SCRUBPOS_stripe + 1 < stripeCount) : ∃ t, exec (.scrubPosition errs late) s = .next t ∧
      t.rd D.CON_SCRUBPOS_stripe = s.rd D.CON_SCRUBPOS_stripe + 1 ∧ t.med = { s.med with scrubLeaf := 0 } ∧
        t.evq = (s.scrubBegun late).evq ∧ (s.scrubBegun late).Only [.regs, .med] t := by
  have hpos := s.scrubBegun_stripe late
  have hexec : exec (.scrubPosition errs late) s =
      .next ({ s.scrubBegun late with med := { s.med with scrubLeaf := 63 } } : State).scrubNext := by
    rw [exec_scrubPosition errs late hon hflush hshare]
    exact if_pos hpass
  generalize s.scrubBegun late = u at hpos hexec
  have hpos' : ({ u with med := { s.med with scrubLeaf := 63 } } : State).rd D.CON_SCRUBPOS_stripe =
      s.rd D.CON_SCRUBPOS_stripe := hpos
  rw [State.scrubNext_stripe rfl (hpos'.symm ▸ hnext), hpos'] at hexec
  refine ⟨_, hexec, ?_, rfl, rfl, (((State.Only.refl u _).med _).wr _ _ _).wr _ _ _⟩
  rw [State.rd_wr_ne _ _ _ _ _ _ (by decide), State.rd_wr_same]
  exact Nat.mod_eq_of_lt hnext

theorem scrubPosition_passes_inTime (errs : List (Nat × Image))
    (hpass : (s.stripe (s.rd D.CON_SCRUBPOS_stripe)).st = 4 ∨ isSentinel (s.rd D.CON_SCRUBPOS_stripe) = true)
    (hnext : s.rd D.CON_SCRUBPOS_stripe + 1 < stripeCount) : Answers (.scrubPosition errs false) s fun t =>
      t.rd D.CON_SCRUBPOS_stripe = s.rd D.CON_SCRUBPOS_stripe + 1 ∧ t.med = { s.med with scrubLeaf := 0 } ∧
        s.Only [.regs, .med] t := by
  obtain ⟨t, hexec, hpos, hmed, -, honly⟩ := scrubPosition_passes hon hflush hshare errs false hpass hnext
  have hframe : s.Only [.regs, .med] t := ((State.Only.refl s _).wr D.CON_STAT_scrubbing 1 0).trans honly
  exact answers_of_exec hexec (hframe .tcnt (by decide)) ⟨hpos, hmed, hframe⟩

theorem scrubPosition_passes_late (errs : List (Nat × Image))
    (hpass : (s.stripe (s.rd D.CON_SCRUBPOS_stripe)).st = 4 ∨ isSentinel (s.rd D.CON_SCRUBPOS_stripe) = true)
    (hnext : s.rd D.CON_SCRUBPOS_stripe + 1 < stripeCount) (hrom : s.phase ≠ stRomRecovery) :
    Answers (.scrubPosition errs true) s fun t =>
      t.rd D.CON_SCRUBPOS_stripe = s.rd D.CON_SCRUBPOS_stripe + 1 ∧ t.med = { s.med with scrubLeaf := 0 } ∧
        s.Logged E.CON_SCRUB_LATE 0 (s.rd D.CON_SCRUBPOS_pct) (s.rd D.CON_SCRUBPOS_stripe) t ∧ s.Only [.regs, .evq, .med] t := by
  obtain ⟨t, hexec, hpos, hmed, hevq, honly⟩ := scrubPosition_passes hon hflush hshare errs true hpass hnext
  have hrom' : (s.wr D.CON_STAT_scrubbing 1).phase ≠ stRomRecovery := by
    rwa [State.phase, State.rd_wr_ne _ _ _ _ _ _ (by decide)]
  have hnow : (s.wr D.CON_STAT_scrubbing 1).now = s.now := State.rd_wr_ne _ _ _ _ _ _ (by decide)
  obtain ⟨hlog, hlogOnly⟩ := (s.wr D.CON_STAT_scrubbing 1).log_logged E.CON_SCRUB_LATE 0 (s.rd D.CON_SCRUBPOS_pct)
    (s.rd D.CON_SCRUBPOS_stripe) hrom'
  have hbegun : s.Only [.regs, .evq, .med] (s.scrubBegun true) :=
    ((State.Only.refl s _).wr D.CON_STAT_scrubbing 1 0).trans (hlogOnly.mono (by simp))
  have hframe := hbegun.trans (honly.mono (by simp))
  rw [State.Logged, hnow] at hlog
  exact answers_of_exec hexec (hframe .tcnt (by decide)) ⟨hpos, hmed, hevq.trans hlog, hframe⟩

theorem scrubPosition_waits (errs : List (Nat × Image)) (hst : (s.stripe (s.rd D.CON_SCRUBPOS_stripe)).st = 3)
    (hsentinel : isSentinel (s.rd D.CON_SCRUBPOS_stripe) = false) : Answers (.scrubPosition errs false) s fun t =>
      t = s.wr D.CON_STAT_scrubbing 1 := by
  have hexec : exec (.scrubPosition errs false) s = .next (s.scrubBegun false) := by
    rw [exec_scrubPosition errs false hon hflush hshare]
    simp [hst, hsentinel]
  exact answers_of_exec hexec rfl rfl

/-- A stripe that is neither passed over nor waits is checked at the position. -/
theorem exec_scrubPosition_checks (errs : List (Nat × Image)) (late : Bool)
    (hopen : (s.stripe (s.rd D.CON_SCRUBPOS_stripe)).st ≠ 4) (hbuilt : (s.stripe (s.rd D.CON_SCRUBPOS_stripe)).st ≠ 3)
    (hsentinel : isSentinel (s.rd D.CON_SCRUBPOS_stripe) = false)
    (hexposed : (s.stripe (s.rd D.CON_SCRUBPOS_stripe)).exposed = none) (hupdates : s.med.updates = [])
    (hup : (s.stripe (s.rd D.CON_SCRUBPOS_stripe)).members.all
      (fun j => !s.unavail (partOfRow (rowOf (s.rd D.CON_SCRUBPOS_stripe)) j)) = true) (hleaf : s.med.scrubLeaf < 63) :
    exec (.scrubPosition errs late) s =
      let u := (s.scrubBegun late).scrubAt (s.rd D.CON_SCRUBPOS_stripe) s.med.scrubLeaf errs
      .next { u with med := { u.med with scrubLeaf := s.med.scrubLeaf + 1 } } := by
  have hleafAt := ((s.scrubBegun late).scrubAt_scrubLeaf (s.rd D.CON_SCRUBPOS_stripe) s.med.scrubLeaf errs).trans
    (congrArg Media.scrubLeaf (s.scrubBegun_med late))
  have hnone : (s.stripe (s.rd D.CON_SCRUBPOS_stripe)).members.any
      (fun j => s.unavail (partOfRow (rowOf (s.rd D.CON_SCRUBPOS_stripe)) j)) = false := by
    rw [← Bool.not_eq_true, List.any_eq_true]
    rintro ⟨j, hj, hlost⟩
    simpa [hlost] using List.all_eq_true.mp hup j hj
  rw [exec_scrubPosition errs late hon hflush hshare]
  simp only [hopen, hbuilt, hsentinel, hexposed, hnone, State.updating, hupdates, List.any_nil, Option.isSome_none,
    Bool.false_eq_true, or_self, if_false]
  rw [State.scrubNext_leaf (hleafAt.trans_lt hleaf), hleafAt]

theorem scrubPosition_checks (errs : List (Nat × Image)) (late : Bool)
    (hopen : (s.stripe (s.rd D.CON_SCRUBPOS_stripe)).st ≠ 4) (hbuilt : (s.stripe (s.rd D.CON_SCRUBPOS_stripe)).st ≠ 3)
    (hsentinel : isSentinel (s.rd D.CON_SCRUBPOS_stripe) = false)
    (hexposed : (s.stripe (s.rd D.CON_SCRUBPOS_stripe)).exposed = none) (hupdates : s.med.updates = [])
    (hup : (s.stripe (s.rd D.CON_SCRUBPOS_stripe)).members.all
      (fun j => !s.unavail (partOfRow (rowOf (s.rd D.CON_SCRUBPOS_stripe)) j)) = true) (hleaf : s.med.scrubLeaf < 63) :
    Answers (.scrubPosition errs late) s fun t => t.med.scrubLeaf = s.med.scrubLeaf + 1 :=
  answers_of_exists ⟨_, exec_scrubPosition_checks hon hflush hshare errs late hopen hbuilt hsentinel hexposed hupdates hup hleaf, rfl⟩

theorem scrubPosition_sound (hopen : (s.stripe (s.rd D.CON_SCRUBPOS_stripe)).st ≠ 4)
    (hbuilt : (s.stripe (s.rd D.CON_SCRUBPOS_stripe)).st ≠ 3)
    (hsentinel : isSentinel (s.rd D.CON_SCRUBPOS_stripe) = false)
    (hexposed : (s.stripe (s.rd D.CON_SCRUBPOS_stripe)).exposed = none) (hupdates : s.med.updates = [])
    (hup : (s.stripe (s.rd D.CON_SCRUBPOS_stripe)).members.all
      (fun j => !s.unavail (partOfRow (rowOf (s.rd D.CON_SCRUBPOS_stripe)) j)) = true)
    (hparity : (s.stripe (s.rd D.CON_SCRUBPOS_stripe)).members.foldl (fun (i : Image) j =>
      i ^^^ s.image (tileOfMember (s.rd D.CON_SCRUBPOS_stripe) j) s.med.scrubLeaf) 0 = 0) (hleaf : s.med.scrubLeaf < 63) :
    Answers (.scrubPosition [] false) s fun t => t.med.scrubLeaf = s.med.scrubLeaf + 1 ∧ t.med.img = s.med.img ∧
      t.rd D.CON_STAT_scrubbing = 1 ∧ s.Only [.regs, .med] t := by
  have hexec := exec_scrubPosition_checks hon hflush hshare [] false hopen hbuilt hsentinel hexposed hupdates hup hleaf
  obtain ⟨tiles, n, hat⟩ := State.tiled_scrubAt (s := s.scrubBegun false) (st := s.rd D.CON_SCRUBPOS_stripe)
    (n := s.med.scrubLeaf) hupdates hparity
  rw [hat] at hexec
  exact answers_of_exists ⟨_, hexec, rfl, rfl, s.rd_wr_same D.CON_STAT_scrubbing 1 0,
    ((State.Only.refl s _).wr D.CON_STAT_scrubbing 1 0).med _⟩
end

theorem scrubPosition_stopped {s : State} (errs : List (Nat × Image)) (late : Bool) (hlevel : 4 ≤ s.rd D.THM_STAT_level) :
    Answers (.scrubPosition errs late) s fun t => t = s := by
  have hexec : exec (.scrubPosition errs late) s = .next s := by
    change execScrubPosition errs late s = _
    exact if_pos (by simp [State.shareStopped, hlevel])
  exact answers_of_exec hexec rfl rfl

theorem scrubRestart_answers (s : State) : Answers .scrubRestart s fun t => t.rd D.CON_SCRUBPOS_stripe = 0 ∧
    t.rd D.CON_SCRUBPOS_pct = 0 ∧ t.rd D.CON_STAT_scrubbing = 1 ∧ t.med = { s.med with scrubLeaf := 0 } ∧
      s.Only [.regs, .med] t := by
  have hexec : exec .scrubRestart s = .next s.scrubRestart := rfl
  refine answers_of_exec hexec rfl ⟨?_, ?_, State.rd_wr_same .., rfl,
    ((((State.Only.refl s _).med _).wr _ _ _).wr _ _ _).wr _ _ _⟩
  · rw [State.scrubRestart, State.rd_wr_ne _ _ _ _ _ _ (by decide), State.rd_wr_ne _ _ _ _ _ _ (by decide), State.rd_wr_same,
      Nat.zero_mod]
  · rw [State.scrubRestart, State.rd_wr_ne _ _ _ _ _ _ (by decide), State.rd_wr_same, Nat.zero_mod]

end Sys2Proof.Machine
end

section
/-! SUPPORT. Rebuild (R175), the temperature history (R177), and the statement of this family on what the conservator maintains. -/

namespace Sys2Proof.Machine

/-! A rebuild's parity and its next stripe (R175). -/

theorem State.clogNow_exciseBegin {s : State} (h : s.med.cpend = []) (st j np : Nat) : ∃ clog, s.clogNow 0x02 st j np =
    ({ s with med := { s.med with clog := clog, cpend := [], cnext := s.med.cnext + 1 } } : State).setStripe st
      { s.stripe st with exposed := some (j, np) } := by
  rw [State.clogNow_alone h]
  exact ⟨_, rfl⟩

/-- The parity of a CLEAN stripe is not rewritten: EXCISE_BEGIN may be logged, and the stripe's record takes the new position. -/
theorem State.rebuildParity_clean {s : State} {r : Rebuild} {st : Nat} (hst : (s.stripe st).st = 1) (hcpend : s.med.cpend = [])
    (np : Nat) : ∃ m, s.rebuildParity r st np = { s with med := m } ∧ m.rebuilds = s.med.rebuilds ∧ m.rowGone = s.med.rowGone := by
  unfold State.rebuildParity
  extract_lets s1 s2
  have h1 : (s1.stripe st).st = 1 ∧ ∃ m, s1 = { s with med := m } ∧ m.rebuilds = s.med.rebuilds ∧ m.rowGone = s.med.rowGone := by
    simp only [s1]
    split
    · obtain ⟨clog, h⟩ := State.clogNow_exciseBegin hcpend st r.member np
      rw [h]
      exact ⟨(State.stripe_setStripe _ _ _).1.trans hst, _, rfl, rfl, rfl⟩
    · exact ⟨hst, s.med, rfl, rfl, rfl⟩
  obtain ⟨hst1, m1, h1, hrebuilds, hgone⟩ := h1
  have h2 : s2 = { s with med := m1 } := (if_pos hst1).trans h1
  rw [h2]
  exact ⟨_, rfl, hrebuilds, hgone⟩

/-- The rebuild of a row moves on to its next stripe. -/
theorem State.rebuildNext_within {s : State} {r : Rebuild} (hrebuilds : s.med.rebuilds = [r])
    (hstate : s.rd D.CON_REBUILD_state = 1) (hindex : r.index + 1 < 2 ^ 18) :
    SMap.get 0 (s.rebuildNext r).med.rowGone (r.row * 16 + r.member) = r.index + 1 ∧
      (s.rebuildNext r).med.rebuilds = [{ r with index := r.index + 1 }] ∧
        (s.rebuildNext r).rd D.CON_REBUILD_index = r.index + 1 ∧ (s.rebuildNext r).rd D.CON_REBUILD_state = 1 := by
  unfold State.rebuildNext
  extract_lets i s1 put s2
  have hput : put s1 = s1.setRebuilds [{ r with index := r.index + 1 }] := by
    simp [put, s1, State.markRow, hrebuilds, i]
  have hs2 : SMap.get 0 s2.med.rowGone (r.row * 16 + r.member) = r.index + 1 ∧
      s2.med.rebuilds = [{ r with index := r.index + 1 }] ∧ s2.rd D.CON_REBUILD_index = r.index + 1 ∧
        s2.rd D.CON_REBUILD_state = 1 := by
    have hstate1 : s1.rd D.CON_REBUILD_state = 1 := hstate
    have hrow : SMap.get 0 s1.med.rowGone (r.row * 16 + r.member) = i := by
      simp only [s1, State.markRow, SMap.get_put_same]
    simp only [s2, hput]
    refine ⟨hrow, rfl, (State.rd_wr_same ..).trans (Nat.mod_eq_of_lt hindex), ?_⟩
    rw [State.rd_wr_ne _ _ _ _ _ _ (by decide)]
    simp only [State.setRebuilds, hstate1, List.cons_ne_nil, if_false]
    exact State.rd_wr_same ..
  clear_value s2
  rw [if_neg (show i ≠ 2 ^ 18 from Nat.ne_of_lt hindex)]
  split
  · obtain ⟨_, _, _, _, h⟩ := s2.clogNow_eq 0x08 r.row r.member i
    rw [h]
    exact hs2
  · exact hs2

/-! The command. -/

theorem exec_rebuildStripe (pick : Fin 33554432) (s : State) : exec (.rebuildStripe pick) s = execRebuildStripe pick s := rfl

theorem State.tooNarrow_wr (s : State) (f : FldDesc) (v st : Nat) (h : f.key 0 ≠ D.CON_RETIRE_minwidth.key 0) :
    (s.wr f v).tooNarrow st = s.tooNarrow st := by
  rw [State.tooNarrow, State.tooNarrow, State.rd_wr_ne _ _ _ _ _ _ h]
  rfl

/-- With every other member up, a CLEAN stripe with no mapped tile on the lost member loses it at once. -/
theorem exec_rebuildStripe_clean {r : Rebuild} {np : Nat} {s : State} (pick : Fin 33554432) (hrebuilds : s.med.rebuilds = [r])
    (hothers : (s.rowUnavail r.row).filter (fun j => decide (j ≠ r.member)) = [])
    (hst : (s.stripe (r.row * 2 ^ 18 + r.index)).st = 1)
    (hgone : (s.stripe (r.row * 2 ^ 18 + r.index)).isGone r.member = false) (hupdates : s.med.updates = [])
    (hlogical : s.logicalOf (tileOfMember (r.row * 2 ^ 18 + r.index) r.member) = none)
    (hnp : s.newPpos (r.row * 2 ^ 18 + r.index) r.member = some np) (hwide : s.tooNarrow (r.row * 2 ^ 18 + r.index) = false)
    (hindex : r.index + 1 < 2 ^ 18) : exec (.rebuildStripe pick) s =
      .next (((s.wr D.CON_REBUILD_state 1).rebuildParity r (r.row * 2 ^ 18 + r.index) np).rebuildNext r) := by
  have hnow : s.rebuildNow = some r := by simp [State.rebuildNow, hrebuilds]
  have hsentinel : isSentinel (r.row * 2 ^ 18 + r.index) = false := by
    simp only [isSentinel, decide_eq_false_iff_not]
    omega
  have hstripe : (s.wr D.CON_REBUILD_state 1).stripe (r.row * 2 ^ 18 + r.index) = s.stripe (r.row * 2 ^ 18 + r.index) := rfl
  have hlogical' : (s.wr D.CON_REBUILD_state 1).logicalOf (tileOfMember (r.row * 2 ^ 18 + r.index) r.member) = none := hlogical
  have hnp' : (s.wr D.CON_REBUILD_state 1).newPpos (r.row * 2 ^ 18 + r.index) r.member = some np := hnp
  have hwide' : (s.wr D.CON_REBUILD_state 1).tooNarrow (r.row * 2 ^ 18 + r.index) = false :=
    (s.tooNarrow_wr _ _ _ (by decide)).trans hwide
  have hlose : (s.wr D.CON_REBUILD_state 1).loseOthers (r.row * 2 ^ 18 + r.index) [] = ([], s.wr D.CON_REBUILD_state 1) := rfl
  simp only [exec_rebuildStripe, execRebuildStripe, hnow, hothers, List.any_nil, hsentinel, hstripe, hst, hgone, State.wr_med,
    hupdates, hlose, hlogical', Option.filter_none, State.rebuildLoss, hwide', hnp', Bool.false_eq_true, if_false, or_self,
    OfNat.one_ne_ofNat]

theorem rebuildStripe_answers {r : Rebuild} {np : Nat} {s : State} (pick : Fin 33554432) (hrebuilds : s.med.rebuilds = [r])
    (hothers : (s.rowUnavail r.row).filter (fun j => decide (j ≠ r.member)) = [])
    (hst : (s.stripe (r.row * 2 ^ 18 + r.index)).st = 1)
    (hgone : (s.stripe (r.row * 2 ^ 18 + r.index)).isGone r.member = false) (hupdates : s.med.updates = [])
    (hlogical : s.logicalOf (tileOfMember (r.row * 2 ^ 18 + r.index) r.member) = none)
    (hnp : s.newPpos (r.row * 2 ^ 18 + r.index) r.member = some np) (hwide : s.tooNarrow (r.row * 2 ^ 18 + r.index) = false)
    (hcpend : s.med.cpend = []) (hindex : r.index + 1 < 2 ^ 18) : Answers (.rebuildStripe pick) s fun t =>
      SMap.get 0 t.med.rowGone (r.row * 16 + r.member) = r.index + 1 ∧
        t.med.rebuilds = [{ r with index := r.index + 1 }] ∧ t.rd D.CON_REBUILD_index = r.index + 1 ∧
          t.rd D.CON_REBUILD_state = 1 := by
  have hexec := exec_rebuildStripe_clean pick hrebuilds hothers hst hgone hupdates hlogical hnp hwide hindex
  obtain ⟨m, hm, hmr, -⟩ := State.rebuildParity_clean (s := s.wr D.CON_REBUILD_state 1) (r := r) hst hcpend np
  rw [hm] at hexec
  exact answers_of_exists ⟨_, hexec, State.rebuildNext_within (s := { s.wr D.CON_REBUILD_state 1 with med := m })
    (hmr.trans hrebuilds) (s.rd_wr_same D.CON_REBUILD_state 1 0) hindex⟩

/-- A second member away for a pause stalls the rebuild. -/
theorem rebuildStripe_stalls {r : Rebuild} {j : Nat} {s : State} (pick : Fin 33554432) (hnow : s.rebuildNow = some r)
    (haway : j ∈ s.rowUnavail r.row) (hj : j ≠ r.member) (hkept : s.lostPart (partOfRow r.row j) = false) :
    Answers (.rebuildStripe pick) s fun t => t.rd D.CON_REBUILD_state = 2 ∧
      s.RegsBut [D.CON_REBUILD_state.key 0] t ∧ s.Only [.regs] t := by
  have hany : ((s.rowUnavail r.row).filter (fun j => decide (j ≠ r.member))).any
      (fun j => !s.lostPart (partOfRow r.row j)) = true :=
    List.any_eq_true.mpr ⟨j, List.mem_filter.mpr ⟨haway, by simp [hj]⟩, by simp [hkept]⟩
  have hexec : exec (.rebuildStripe pick) s = .next (s.wr D.CON_REBUILD_state 2) := by
    simp only [exec_rebuildStripe, execRebuildStripe, hnow, hany, if_true]
  exact answers_of_exec hexec rfl ⟨s.rd_wr_same D.CON_REBUILD_state 2 0, s.regsBut_wr _ _ 0, s.only_wr _ _ _⟩

/-! Temperature history (R177). -/

/-- Whether a die counts in a bin: it is present, its channel in service, and its temperature in the bin. -/
def State.inBin (s : State) (k d : Nat) : Bool :=
  (s.die d).present && !(s.chan (d / 8)).gone && decide (tempBin (s.rd D.CON_DIE_temp d) = k)

/-- One die adds to its bin. -/
def State.binDie (s : State) (d : Nat) : State :=
  if (s.die d).present ∧ (s.chan (d / 8)).gone = false then
    s.addSat D.CON_THIST_dies 1 (tempBin (s.rd D.CON_DIE_temp d)) else s

theorem exec_tempHistogram (s : State) : exec .tempHistogram s = .next ((List.range 256).foldl State.binDie s) := rfl

theorem State.only_binDie (s : State) (d : Nat) : s.Only [.regs] (s.binDie d) := by
  unfold State.binDie
  split
  · exact s.only_wr _ _ _
  · exact .refl s _

/-- Counting a die leaves the temperatures, and with them the bins of the dies to come. -/
theorem State.inBin_binDie (s : State) (d k e : Nat) : (s.binDie d).inBin k e = s.inBin k e := by
  have hmed : (s.binDie d).med = s.med := s.only_binDie d .med (by decide)
  have htemp : (s.binDie d).rd D.CON_DIE_temp e = s.rd D.CON_DIE_temp e := by
    unfold State.binDie
    split
    · refine State.rd_wr_ne _ _ _ _ _ _ ?_
      simp only [FldDesc.key, D.CON_THIST_dies, D.CON_DIE_temp]
      omega
    · rfl
  simp only [State.inBin, State.die, State.chan, hmed, htemp]

theorem State.rd_binDie {s : State} {k : Nat} (d : Nat) (hcap : s.rd D.CON_THIST_dies k + 1 < D.CON_THIST_dies.cap) :
    (s.binDie d).rd D.CON_THIST_dies k = s.rd D.CON_THIST_dies k + if s.inBin k d then 1 else 0 := by
  unfold State.binDie State.inBin
  by_cases hup : (s.die d).present = true ∧ (s.chan (d / 8)).gone = false
  · rw [if_pos hup]
    by_cases hk : tempBin (s.rd D.CON_DIE_temp d) = k
    · rw [hk, State.addSat, State.rd_wr_same, min_eq_right (by omega), Nat.mod_eq_of_lt hcap]
      simp [hup.1, hup.2]
    · rw [State.addSat, State.rd_wr_ne]
      · simp [hk]
      · simp only [FldDesc.key, D.CON_THIST_dies]
        omega
  · rw [if_neg hup]
    rw [if_neg (by simp only [Bool.and_eq_true, Bool.not_eq_true', not_and]; tauto), Nat.add_zero]

theorem State.rd_foldl_binDie (k : Nat) (l : List Nat) (s : State)
    (hcap : s.rd D.CON_THIST_dies k + l.length < D.CON_THIST_dies.cap) :
    (l.foldl State.binDie s).rd D.CON_THIST_dies k = s.rd D.CON_THIST_dies k + (l.filter (s.inBin k)).length := by
  induction l generalizing s with
  | nil => rfl
  | cons d l ih =>
    rw [List.length_cons] at hcap
    have hd := State.rd_binDie (k := k) (s := s) d (by omega)
    have hbins : (s.binDie d).inBin k = s.inBin k := funext (s.inBin_binDie d k)
    have hl := ih (s.binDie d) (by rw [hd]; split <;> omega)
    rw [List.foldl_cons, hl, hd, hbins, List.filter_cons]
    split
    · rw [List.length_cons]
      omega
    · rfl

theorem tempHistogram_answers {k : Nat} {s : State} (hcap : s.rd D.CON_THIST_dies k + 256 < D.CON_THIST_dies.cap) :
    Answers .tempHistogram s fun t => t.rd D.CON_THIST_dies k = s.rd D.CON_THIST_dies k + ((List.range 256).filter
      (fun d => (s.die d).present && !(s.chan (d / 8)).gone && decide (tempBin (s.rd D.CON_DIE_temp d) = k))).length ∧
        s.Only [.regs] t := by
  have hfold (l : List Nat) (a : State) (h : s.Only [.regs] a) : s.Only [.regs] (l.foldl State.binDie a) := by
    induction l generalizing a with
    | nil => exact h
    | cons d l ih => exact ih _ (h.trans (a.only_binDie d))
  have honly := hfold (List.range 256) s (.refl s _)
  exact answers_of_exec (exec_tempHistogram s) (honly .tcnt (by decide))
    ⟨State.rd_foldl_binDie k (List.range 256) s (by rwa [List.length_range]), honly⟩

theorem State.only_led (s : State) (l : Ledger) : s.Only [.led] { s with led := l } := by
  intro p hp
  cases p
  case led => simp at hp
  all_goals rfl

theorem histogramSave_answers {s : State} (hrom : s.phase ≠ stRomRecovery) (hflush : s.phase ≠ stFlushing)
    (hreset : s.phase ≠ stResetting) : Answers .histogramSave s fun t => t.led.queue = s.led.queue ++
      [⟨3, some (pageOfWords ((List.range 32).map (fun k => s.rd D.CON_THIST_dies k))), .hist, false, false, false⟩] ∧
        s.Only [.led] t :=
  answers_of_exec (congrArg Host.Outcome.next (State.pageWrite_accepted hflush hreset hrom 3 _ .hist)) rfl ⟨rfl, s.only_led _⟩

/-! The statement. -/

/-- Settles O10: each command's condition decides which branch of it runs, and the lemma on that branch says what it leaves. -/
theorem conservatorMaintains : Obligations.ConservatorMaintains := by
  unfold Obligations.ConservatorMaintains
  refine ⟨?wearOff, ?wear, ?drift, ?sentinel, ?refresh, ?scrubSound, ?scrubPasses, ?scrubLate, ?scrubWaits, ?scrubChecks,
    ?scrubRestart, ?scrubStopped, ?reclaimStops, ?reclaimRuns, ?rebuild, ?rebuildStalls, ?histogram, ?histogramSave⟩
  case wearOff => exact fun _ hoff => wearPass_off hoff
  case wear => exact fun s _ _ => wearPass_levels s
  case drift =>
    exact fun _ errs _ hretired hpresent hdrift hflush hshare => driftPass_answers errs hretired hpresent hdrift hflush hshare
  case sentinel =>
    exact fun _ slot _ hretired hpresent hflush hcpend => sentinelRewrite_answers slot hretired hpresent hflush hcpend
  case refresh =>
    exact fun _ pick _ hdue hflush hlogical hupdates havail hwrite hgone hst =>
      tileRefresh_answers pick hdue hflush hlogical hupdates havail hwrite hgone hst
  case scrubSound =>
    exact fun _ hon hflush hshare hopen hbuilt hsentinel hexposed hupdates hup hparity hleaf =>
      scrubPosition_sound hon hflush hshare hopen hbuilt hsentinel hexposed hupdates hup hparity hleaf
  case scrubPasses =>
    exact fun errs _ hon hflush hshare hpass hnext => scrubPosition_passes_inTime hon hflush hshare errs hpass hnext
  case scrubLate =>
    exact fun errs _ hon hflush hshare hpass hnext hrom => scrubPosition_passes_late hon hflush hshare errs hpass hnext hrom
  case scrubWaits =>
    exact fun errs _ hon hflush hshare hst hsentinel => scrubPosition_waits hon hflush hshare errs hst hsentinel
  case scrubChecks =>
    exact fun errs late _ hon hflush hshare hopen hbuilt hsentinel hexposed hupdates hup hleaf =>
      scrubPosition_checks hon hflush hshare errs late hopen hbuilt hsentinel hexposed hupdates hup hleaf
  case scrubRestart => exact scrubRestart_answers
  case scrubStopped => exact fun errs late _ hlevel => scrubPosition_stopped errs late hlevel
  case reclaimStops => exact fun pick _ hopen => reclaim_stops pick hopen
  case reclaimRuns => exact fun pick _ hopen _ => reclaim_runs pick hopen
  case rebuild =>
    exact fun pick _ _ _ hrebuilds hothers hst hgone hupdates hlogical hnp hwide hcpend hindex =>
      rebuildStripe_answers pick hrebuilds hothers hst hgone hupdates hlogical hnp hwide hcpend hindex
  case rebuildStalls => exact fun pick _ _ _ hnow haway hj hkept => rebuildStripe_stalls pick hnow haway hj hkept
  case histogram => exact fun _ _ _ hcap => tempHistogram_answers hcap
  case histogramSave => exact fun _ hrom hflush hreset => histogramSave_answers hrom hflush hreset

end Sys2Proof.Machine
end

section
/-! SUPPORT. The count window of ways (R195) in a state that lists a way's counts twice. -/

namespace Sys2Proof.Machine

/-- The map of way counts, which this state does not hold in canonical form, lists way 0 of slice 0 twice: first with three
corrected errors, which is what the way reads as, and then as being disabled. -/
def wayListedTwice : State :=
  { State.reset with coh := { State.reset.coh with ways := [(0, ⟨3, 0, false⟩), (0, { WayCnt.init with disabling := true })] } }

theorem wayListedTwice_disabling : (wayListedTwice.wayCnt 0 0).disabling = false := by decide +kernel

/-- The window drops the first entry, which only counts, and the way reads as the second, which is kept. -/
theorem wayCountWindow_wayListedTwice : ∃ t, exec .wayCountWindow wayListedTwice = .next t ∧ (t.wayCnt 0 0).disabling = true :=
  ⟨_, rfl, by decide +kernel⟩

/-- Refutes O13: its clause on the count window is of every state, and does not ask that the map of way counts be in canonical
form (`SMap.wf`). The window keeps the entries of the ways being disabled and drops the others, so that where a way is listed twice,
the second time as being disabled, an entry that was hidden comes to be read. -/
theorem not_vitrineCommandsRun : ¬ Obligations.VitrineCommandsRun := by
  unfold Obligations.VitrineCommandsRun
  rintro ⟨-, -, -, -, -, -, hwindow, -⟩
  obtain ⟨t, hexec, -, -, hkept, -⟩ := hwindow 0 0 wayListedTwice
  obtain ⟨t', hexec', hdisabling⟩ := wayCountWindow_wayListedTwice
  obtain rfl : t' = t := Host.Outcome.next.inj (hexec'.symm.trans hexec)
  exact absurd (hdisabling.symm.trans (hkept.trans wayListedTwice_disabling)) (by decide)

end Sys2Proof.Machine
end

section
/-! SUPPORT. Fences, control words, traps, pauses, limits and the delivery of faults (R225 to R228, R249 to R257, R263), and the
statement of this family on them. -/

namespace Sys2Proof.SMap

/-- A map rewritten value by value reads as its values rewritten, where the default stays the default. -/
theorem get_mapVal {α : Type} (f : Nat → α → α) (d : α) (m : SMap α) (k : Nat) (hd : f k d = d) :
    get d (mapVal f m) k = f k (get d m k) := by
  induction m with
  | nil => exact hd.symm
  | cons e m ih =>
    obtain ⟨j, v⟩ := e
    by_cases hj : j = k
    · simp [mapVal, get, hj]
    · simpa [mapVal, get, hj] using ih

end Sys2Proof.SMap

namespace Sys2Proof.Machine

/-! What an instruction leaves, the tally's counters set aside (R514). -/

theorem State.CurOnly.masked {s t : State} (h : s.CurOnly t) : s.CurOnly { t with tcnt := s.tcnt } :=
  ⟨h.1, (h.2.mono (List.subset_cons_self ..)).uncounted⟩

theorem State.CurOnly.trans {s t u : State} (h : s.CurOnly t) (g : t.CurOnly u) : s.CurOnly u :=
  ⟨h.1.trans g.1, h.2.trans g.2⟩

/-- What retiring leaves of the instruction's context. -/
theorem State.ctx_retire (s : State) (c : Nat) (x : Ctx) (next major ea : Nat) :
    (s.retire c x next major ea).ctx c = { x with pc := next, instret := x.instret + 1 } :=
  (((State.tWing_tal _ _ 1 1).trans (State.sample_tal ..)).ctx c).trans (s.setCtx_same c _)

/-- A retired instruction runs its context on; nothing but the curator, the tally and the events differs. -/
theorem State.retire_counted (s : State) (c : Nat) {x : Ctx} (next major ea : Nat) (hx : x.st = .running) :
    s.RunsOn c next x.reg { s.retire c x next major ea with tcnt := s.tcnt } ∧
      s.CurOnly { s.retire c x next major ea with tcnt := s.tcnt } := by
  obtain ⟨hruns, honly⟩ := s.retire_runsOn c x next major ea hx
  exact ⟨hruns, honly.masked⟩

theorem Ctx.st_setReg (x : Ctx) (d : BitVec 5) (v : Word) : (x.setReg d v).st = x.st := by
  unfold Ctx.setReg
  split <;> rfl

/-- A precise fault stops its context and nothing else but the tally and the events. -/
theorem State.faultNow_faults (s : State) (c code addr major ea : Nat) :
    s.Faults c code addr { s.faultNow c code addr major ea with tcnt := s.tcnt } := by
  have htal : (s.stop c code addr 0).TalOnly (s.faultNow c code addr major ea) := State.sample_tal ..
  have hctx := (htal.ctx c).trans (s.setCtx_same c _)
  exact ⟨congrArg Ctx.st hctx, congrArg Ctx.fault hctx, fun k hk => (htal.ctx k).trans (s.setCtx_ne _ hk),
    (State.CurOnly.trans (s.setCtx_cur c _) htal.curOnly).masked⟩

/-- An instruction of a ready context that only faults. -/
theorem answers_fault {i : Instr} {s : State} {c code addr major : Nat} {run : Ctx → State} (h : s.Ready c)
    (hexec : exec i s = .next (s.attempt c run)) (hrun : run (s.ctx c) = s.faultNow c code addr major 0) :
    Answers i s fun t => s.Faults c code addr t :=
  answers_of_exists ⟨_, by rw [hexec, State.attempt_ready _ _ _ h, hrun], s.faultNow_faults c code addr major 0⟩

/-! Fences (R225 to R228, R250, R263). -/

section
variable {s : State} {c : Nat} (h : s.Ready c)
include h

theorem State.fenced_of_drained (hsb : (s.ctx c).sb = []) (run : Ctx → State) : s.fenced c run = run (s.ctx c) := by
  rw [State.fenced, State.attempt_ready _ _ _ h, if_pos hsb]

theorem State.fenced_waits (hsb : (s.ctx c).sb ≠ []) (run : Ctx → State) : s.fenced c run = s := by
  rw [State.fenced, State.attempt_ready _ _ _ h, if_neg hsb]
end

theorem exec_fence (c : Fin 256) (s : State) :
    exec (.fence c) s = .next (s.fenced c fun x => s.retire c x (x.pc + 4) 0x30 0) := rfl

theorem fence_answers {c : Fin 256} {s : State} (h : s.Ready c) (hsb : (s.ctx c).sb = []) :
    Answers (.fence c) s fun t => s.RunsOn c ((s.ctx c).pc + 4) (s.ctx c).reg t ∧ s.CurOnly t :=
  answers_of_exists ⟨_, by rw [exec_fence, State.fenced_of_drained h hsb],
    s.retire_counted c _ _ _ (State.running_of_canIssue h.1)⟩

theorem fence_waits {c : Fin 256} {s : State} (h : s.Ready c) (hsb : (s.ctx c).sb ≠ []) :
    Answers (.fence c) s fun t => t = s :=
  answers_of_exec (by rw [exec_fence, State.fenced_waits h hsb]) rfl rfl

/-- The core's instruction copies of the lines that a context has written end (R181, R227). -/
def State.dropWritten (s : State) (c : Nat) : State :=
  { s with coh := { s.coh with l1i := SMap.mapVal (fun i l =>
      if i / 128 = coreOf c then l.filter (fun e => !(s.ctx c).wrote.contains e.1) else l) s.coh.l1i } }

theorem exec_fenceI {c : Fin 256} {s : State} (h : s.Ready c) (hsb : (s.ctx c).sb = []) : exec (.fenceI c) s =
    .next ((s.dropWritten c).retire c { s.ctx c with wrote := [] } ((s.ctx c).pc + 4) 0x30 0) :=
  congrArg Host.Outcome.next (State.fenced_of_drained h hsb _)

/-- No instruction set of the core holds a line that the context has written. -/
theorem State.l1i_dropWritten {s : State} {c k : Nat} (hk : k / 128 = coreOf c) {e : Nat × Line}
    (he : e ∈ SMap.get [] (s.dropWritten c).coh.l1i k) : e.1 ∉ (s.ctx c).wrote := by
  rw [State.dropWritten, SMap.get_mapVal _ _ _ _ (by simp), if_pos hk] at he
  simpa using (List.mem_filter.mp he).2

theorem fenceI_answers {c : Fin 256} {s : State} (h : s.Ready c) (hsb : (s.ctx c).sb = []) :
    Answers (.fenceI c) s fun t => s.RunsOn c ((s.ctx c).pc + 4) (s.ctx c).reg t ∧
      s.Only [.regs, .evq, .coh, .cur, .tal, .tcnt, .free] t ∧ (t.ctx c).wrote = [] ∧
      ∀ k, k / 128 = coreOf c → ∀ e ∈ SMap.get [] t.coh.l1i k, e.1 ∉ (s.ctx c).wrote := by
  obtain ⟨hruns, honly⟩ := (s.dropWritten c).retire_counted c (x := { s.ctx c with wrote := [] }) ((s.ctx c).pc + 4) 0x30 0
    (State.running_of_canIssue h.1)
  have hcoh := honly.2 .coh (by decide)
  refine answers_of_exists ⟨_, exec_fenceI h hsb, hruns, ?_, ?_, fun k hk e he => ?_⟩
  · exact ((s.only_coh _).mono (by simp)).trans (honly.2.mono (by simp))
  · exact congrArg Ctx.wrote (State.ctx_retire ..)
  · exact State.l1i_dropWritten hk (by rwa [← hcoh])

/-- A global fence that ends writes its status and goes on. -/
theorem State.fenceEnd_runsOn {s : State} {c : Nat} (hst : (s.ctx c).st = .running) (d : BitVec 5) (lost : Bool) :
    s.RunsOn c ((s.ctx c).pc + 4) ((s.ctx c).regsWith d (if lost || s.unperformed c then 1 else 0)) (s.fenceEnd c d lost) := by
  unfold State.fenceEnd
  extract_lets src x inc s1
  have hctx (k : Nat) : s1.ctx k = s.ctx k := by
    simp only [s1]
    split <;> rfl
  obtain ⟨⟨hrun, hpc, hreg, hother⟩, -⟩ := s1.retire_runsOn c (x.setReg d (flag inc)) (x.pc + 4) 0x30 0
    ((x.st_setReg d _).trans hst)
  exact ⟨hrun, hpc, fun r => (hreg r).trans (x.reg_setReg ..), fun k hk => (hother k hk).trans (hctx k)⟩

theorem exec_fenceG (c : Fin 256) (d : BitVec 5) (s : State) : exec (.fenceG c d) s = execFenceG c d s := rfl

/-- With nothing on its way from the context a global fence ends at its first attempt. -/
theorem fenceG_answers {c : Fin 256} (d : BitVec 5) {s : State} (h : s.Ready c) (hsb : (s.ctx c).sb = [])
    (hout : s.outOf c = []) (hg : (s.ctx c).gfence = none) : Answers (.fenceG c d) s fun t =>
      s.RunsOn c ((s.ctx c).pc + 4) ((s.ctx c).regsWith d (if s.unperformed c then 1 else 0)) t := by
  refine answers_of_exists ⟨s.fenceEnd c d false, ?_, State.fenceEnd_runsOn (State.running_of_canIssue h.1) d false⟩
  simp only [exec_fenceG, execFenceG, hg, State.attempt_ready _ _ _ h, State.fenceGo, hsb, hout, ne_eq, not_true_eq_false,
    Bool.false_eq_true, if_false, if_true]

theorem exec_psync (c : Fin 256) (d : BitVec 5) (s : State) : exec (.psync c d) s =
    .next (s.psynced c fun x => s.setAndGo c x d (BitVec.ofNat 64 x.lost) 0x38) := rfl

theorem psync_answers {c : Fin 256} (d : BitVec 5) {s : State} (h : s.Ready c) (hsb : (s.ctx c).sb = [])
    (hrefuse : s.refusing c = false) :
    Answers (.psync c d) s fun t => s.Sets c d (BitVec.ofNat 64 (s.ctx c).lost) t := by
  refine answers_of_exists ⟨_, ?_, (s.setAndGo_sets c d _ 0x38 h.1).masked⟩
  rw [exec_psync, State.psynced, State.fenced_of_drained h hsb, if_neg (by simp [hrefuse])]

/-! Control words (R251, R252). -/

theorem exec_cwrd (c : Fin 256) (d : BitVec 5) (cw : BitVec 6) (s : State) : exec (.cwrd c d cw) s = execCwrd c d cw s := rfl
theorem exec_cwwr (c : Fin 256) (d : BitVec 5) (cw : BitVec 6) (s : State) : exec (.cwwr c d cw) s = execCwwr c d cw s := rfl

theorem cwrd_answers {c : Fin 256} (d : BitVec 5) {cw : BitVec 6} {r : Nat} {w : Option Nat} {s : State} (h : s.Ready c)
    (hfloor : cwFloors cw.toNat = some (r, w)) (hr : r ≤ (s.ctx c).priv.code) :
    Answers (.cwrd c d cw) s fun t => s.Sets c d (BitVec.ofNat 64 (s.cwValue c cw.toNat)) t := by
  refine answers_of_exists ⟨_, ?_, (s.setAndGo_sets c d _ 0x31 h.1).masked⟩
  simp only [exec_cwrd, execCwrd, State.attempt_ready _ _ _ h, hfloor, hr, if_true]

theorem cwrd_faults {c : Fin 256} (d : BitVec 5) {cw : BitVec 6} {r : Nat} {w : Option Nat} {s : State} (h : s.Ready c)
    (hfloor : cwFloors cw.toNat = some (r, w)) (hr : (s.ctx c).priv.code < r) :
    Answers (.cwrd c d cw) s fun t => s.Faults c fltCwAccess cw.toNat t :=
  answers_fault (major := 0x31) h (exec_cwrd c d cw s) (by simp only [hfloor, Nat.not_le.mpr hr, if_false])

/-- A context with control word `k` written: DEADLINE, or a scratch word. -/
def Ctx.setCw (x : Ctx) (k : Nat) (v : Word) : Ctx :=
  if k = 5 then { x with deadline := v.toNat } else { x with scr := SMap.put 0 x.scr k v }

theorem Ctx.deadline_setCw (x : Ctx) (k : Nat) (v : Word) :
    (x.setCw k v).deadline = if k = 5 then v.toNat else x.deadline := by
  unfold Ctx.setCw
  split <;> rfl

theorem Ctx.scr_setCw (x : Ctx) (k : Nat) (v : Word) :
    (x.setCw k v).scr = if k = 5 then x.scr else SMap.put 0 x.scr k v := by
  unfold Ctx.setCw
  split <;> rfl

theorem Ctx.reg_setCw (x : Ctx) (k : Nat) (v : Word) : (x.setCw k v).reg = x.reg := by
  unfold Ctx.setCw
  split <;> rfl

theorem Ctx.st_setCw (x : Ctx) (k : Nat) (v : Word) : (x.setCw k v).st = x.st := by
  unfold Ctx.setCw
  split <;> rfl

theorem exec_cwwr_of_floor {c : Fin 256} (d : BitVec 5) {cw : BitVec 6} {r w : Nat} {s : State} (h : s.Ready c)
    (hfloor : cwFloors cw.toNat = some (r, some w)) (hw : w ≤ (s.ctx c).priv.code) : exec (.cwwr c d cw) s =
      .next (s.retire c ((s.ctx c).setCw cw.toNat ((s.ctx c).reg d)) ((s.ctx c).pc + 4) 0x32 0) := by
  simp only [exec_cwwr, execCwwr, State.attempt_ready _ _ _ h, hfloor, hw, if_true]
  rfl

theorem cwwr_answers {c : Fin 256} (d : BitVec 5) {cw : BitVec 6} {r w : Nat} {s : State} (h : s.Ready c)
    (hfloor : cwFloors cw.toNat = some (r, some w)) (hw : w ≤ (s.ctx c).priv.code) :
    Answers (.cwwr c d cw) s fun t => s.RunsOn c ((s.ctx c).pc + 4) (s.ctx c).reg t ∧ s.CurOnly t ∧
      (if cw = 5 then (t.ctx c).deadline = ((s.ctx c).reg d).toNat ∧ (t.ctx c).scr = (s.ctx c).scr
       else SMap.get 0 (t.ctx c).scr cw.toNat = (s.ctx c).reg d ∧ (t.ctx c).deadline = (s.ctx c).deadline) := by
  obtain ⟨hruns, honly⟩ := s.retire_counted c (x := (s.ctx c).setCw cw.toNat ((s.ctx c).reg d)) ((s.ctx c).pc + 4) 0x32 0
    ((Ctx.st_setCw ..).trans (State.running_of_canIssue h.1))
  rw [Ctx.reg_setCw] at hruns
  have hctx := s.ctx_retire c ((s.ctx c).setCw cw.toNat ((s.ctx c).reg d)) ((s.ctx c).pc + 4) 0x32 0
  have hdeadline := (congrArg Ctx.deadline hctx).trans (Ctx.deadline_setCw (s.ctx c) cw.toNat ((s.ctx c).reg d))
  have hscr := (congrArg Ctx.scr hctx).trans (Ctx.scr_setCw (s.ctx c) cw.toNat ((s.ctx c).reg d))
  refine answers_of_exists ⟨_, exec_cwwr_of_floor d h hfloor hw, hruns, honly, ?_⟩
  by_cases h5 : cw = 5
  · subst h5
    rw [if_pos rfl]
    exact ⟨hdeadline.trans (if_pos rfl), hscr.trans (if_pos rfl)⟩
  · have hk : cw.toNat ≠ 5 := fun hk => h5 (BitVec.eq_of_toNat_eq hk)
    rw [if_neg h5]
    exact ⟨(congrArg (SMap.get 0 · cw.toNat) (hscr.trans (if_neg hk))).trans (SMap.get_put_same ..),
      hdeadline.trans (if_neg hk)⟩

theorem cwwr_faults {c : Fin 256} (d : BitVec 5) {cw : BitVec 6} {r w : Nat} {s : State} (h : s.Ready c)
    (hfloor : cwFloors cw.toNat = some (r, some w)) (hw : (s.ctx c).priv.code < w) :
    Answers (.cwwr c d cw) s fun t => s.Faults c fltCwAccess cw.toNat t :=
  answers_fault (major := 0x32) h (exec_cwwr c d cw s) (by simp only [hfloor, Nat.not_le.mpr hw, if_false])

/-! Traps, undefined words, pauses and limits (R242, R249, R252, R253). -/

theorem trap_answers {c : Fin 256} (imm : BitVec 16) {s : State} (h : s.Ready c) :
    Answers (.trap c imm) s fun t => s.Faults c fltTrap imm.toNat t :=
  answers_fault (run := fun _ => s.faultNow c fltTrap imm.toNat 0x33 0) h rfl rfl

theorem exec_illegalInstruction (c : Fin 256) (w : BitVec 32) (s : State) :
    exec (.illegalInstruction c w) s = execIllegalInstruction c w s := rfl

theorem illegalInstruction_answers {c : Fin 256} {w : BitVec 32} {s : State} (h : s.Ready c) (hw : legalWord w = false) :
    Answers (.illegalInstruction c w) s fun t => s.Faults c fltIllegal 0 t :=
  answers_fault (run := fun _ => s.faultNow c fltIllegal 0 (w.toNat / 2 ^ 26) 0) h
    (by rw [exec_illegalInstruction, execIllegalInstruction, if_neg (by simp [hw])]) rfl

theorem exec_pause (c : Fin 256) (imm : BitVec 16) (s : State) : exec (.pause c imm) s =
    .next (s.attempt c fun x => s.retire c { x with hold := .pause (imm.toNat + 1) } (x.pc + 4) 0x34 0) := rfl

theorem pause_answers {c : Fin 256} (imm : BitVec 16) {s : State} (h : s.Ready c) :
    Answers (.pause c imm) s fun t => s.RunsOn c ((s.ctx c).pc + 4) (s.ctx c).reg t ∧ s.CurOnly t ∧
      (t.ctx c).hold = .pause (imm.toNat + 1) := by
  obtain ⟨hruns, honly⟩ := s.retire_counted c (x := { s.ctx c with hold := .pause (imm.toNat + 1) }) ((s.ctx c).pc + 4)
    0x34 0 (State.running_of_canIssue h.1)
  exact answers_of_exists ⟨_, by rw [exec_pause, State.attempt_ready _ _ _ h], hruns, honly,
    congrArg Ctx.hold (State.ctx_retire ..)⟩

theorem State.only_setCtx (s : State) (c : Nat) (x : Ctx) : s.Only [.cur] (s.setCtx c x) := by
  intro p hp
  cases p
  case cur => simp at hp
  all_goals rfl

theorem State.atBoundary_of_none {s : State} {c : Nat} (h : s.boundary c = none) : s.atBoundary c = s := by
  simp only [State.atBoundary, h, ite_self]

/-- What holds a context is no pending boundary fault. -/
theorem State.boundary_setCtx_hold (s : State) (c : Nat) (hd : Hold) :
    (s.setCtx c { s.ctx c with hold := hd }).boundary c = s.boundary c := by
  simp only [State.boundary, State.setCtx_same]
  rfl

theorem exec_pauseEnd (c : Fin 256) (s : State) : exec (.pauseEnd c) s = execPauseEnd c s := rfl

theorem pauseEnd_answers {c : Fin 256} {n : Nat} {s : State} (hhold : (s.ctx c).hold = .pause n) (hb : s.boundary c = none) :
    Answers (.pauseEnd c) s fun t => t.ctx c = { s.ctx c with hold := .none } ∧ (∀ k, k ≠ c.val → t.ctx k = s.ctx k) ∧
      s.Only [.cur] t := by
  refine answers_of_exec (t := s.setCtx c { s.ctx c with hold := .none }) ?_ rfl
    ⟨s.setCtx_same c _, fun k hk => s.setCtx_ne _ hk, s.only_setCtx c _⟩
  simp only [exec_pauseEnd, execPauseEnd, hhold]
  rw [State.atBoundary_of_none ((s.boundary_setCtx_hold c .none).trans hb)]

theorem exec_deadlineReached (c : Fin 256) (s : State) : exec (.deadlineReached c) s = execDeadlineReached c s := rfl

/-- A context between two instructions stops with LIMIT once its deadline is known to have passed. -/
theorem State.atBoundary_limit {s : State} {c : Nat} (hb : (s.ctx c).between = true) (habort : (s.ctx c).pendAbort = false)
    (hdiscard : (s.ctx c).pendDiscard = none) (hlimit : (s.ctx c).pendLimit = true) :
    s.atBoundary c = s.stop c fltLimit (s.ctx c).deadline 0 := by
  simp only [State.atBoundary, State.boundary, hb, habort, hdiscard, hlimit, Bool.false_eq_true, true_or, if_false, if_true]

theorem deadlineReached_answers {c : Fin 256} {s : State} (hst : (s.ctx c).st = .running) (hhold : (s.ctx c).hold = .none)
    (hg : (s.ctx c).gfence = none) (habort : (s.ctx c).pendAbort = false) (hdiscard : (s.ctx c).pendDiscard = none)
    (hset : (s.ctx c).deadline ≠ 0) (hpast : (s.ctx c).deadline ≤ s.now) :
    Answers (.deadlineReached c) s fun t => (t.ctx c).st = .stopped ∧
      (t.ctx c).fault = some ⟨fltLimit, (s.ctx c).deadline, (s.ctx c).pc, 0, (s.ctx c).priv⟩ ∧ s.Only [.cur] t := by
  let a := s.setCtx c { s.ctx c with hold := .none, pendLimit := true }
  have ha : a.ctx c = { s.ctx c with hold := .none, pendLimit := true } := s.setCtx_same c _
  have hstop : a.atBoundary c = a.stop c fltLimit (a.ctx c).deadline 0 :=
    State.atBoundary_limit (by rw [ha]; simp [Ctx.between, hst, hg]) (by rw [ha]; exact habort) (by rw [ha]; exact hdiscard)
      (by rw [ha])
  have hctx : (a.stop c fltLimit (a.ctx c).deadline 0).ctx c = _ := a.setCtx_same c _
  refine answers_of_exec (t := a.stop c fltLimit (a.ctx c).deadline 0) ?_ rfl
    ⟨congrArg Ctx.st hctx, (congrArg Ctx.fault hctx).trans (by rw [ha]), (s.only_setCtx c _).trans (a.only_setCtx c _)⟩
  have hgo : ¬((s.ctx c).st ≠ .running ∨ (s.ctx c).deadline = 0 ∨ s.now < (s.ctx c).deadline) := by
    simp [hst, hset, Nat.not_lt.mpr hpast]
  simp only [exec_deadlineReached, execDeadlineReached, if_neg hgo, hhold]
  exact congrArg _ hstop

/-! Fault delivery (R254, R257, R325). -/

theorem State.queue_of_queues {s t : State} (h : t.queues = s.queues) (n : Nat) : t.queue n = s.queue n := by
  rw [State.queue, State.queue, h]

theorem State.queues_sendMsix (s : State) (p v : Nat) : (s.sendMsix p v).queues = s.queues := by
  unfold State.sendMsix
  dsimp only
  (repeat' split) <;> rfl

theorem State.queues_qSend (s : State) (n : Nat) : (s.qSend n).queues = s.queues := by
  unfold State.qSend
  split
  · exact State.queues_sendMsix ..
  · rfl

theorem State.queues_foldl {α : Type} {f : State → α → State} (h : ∀ a x, (f a x).queues = a.queues) (l : List α)
    (s : State) : (l.foldl f s).queues = s.queues := by
  induction l generalizing s with
  | nil => rfl
  | cons x l ih => exact (ih _).trans (h s x)

theorem State.queues_qUnhold (s : State) (n : Nat) : (s.qUnhold n).queues = s.queues :=
  State.queues_foldl (fun a p => by dsimp only; split <;> rfl) _ s

/-- A whole entry closes its queue's packet: what was held comes before it, and all of it is visible (R320). -/
theorem State.queue_qAppend (s : State) (n : Nat) (e : QEntry) :
    (s.qAppend n e false).queue n = ⟨(s.queue n).vis ++ (s.queue n).held ++ [e], [], false, false⟩ := by
  simp only [State.qAppend, Bool.false_eq_true, if_false]
  rw [State.queue_of_queues ((State.queues_qSend ..).trans (State.queues_qUnhold ..)), State.queue_setQueue_same]

theorem State.queues_toIdle (s : State) (c : Nat) : (s.toIdle c).queues = s.queues := by
  unfold State.toIdle State.hallFree
  dsimp only
  (repeat' split) <;> rfl

theorem State.ctx_hallFree (s : State) (id c : Nat) : (s.hallFree id).ctx c = s.ctx c := by
  unfold State.hallFree
  (repeat' split) <;> rfl

/-- A context at the end of its call is as at power-on, but for the lines it has written (R235). -/
theorem State.ctx_toIdle (s : State) (c : Nat) : (s.toIdle c).ctx c = { Ctx.init with wrote := (s.ctx c).wrote } :=
  (State.ctx_hallFree ..).trans (s.setCtx_same c _)

/-- A record goes to a completion queue with room, and the context is IDLE. -/
theorem State.postCall_of_room {s : State} {c : Nat} (hgood : s.cqGood (s.ctx c).cq = true)
    (hroom : s.qFull (s.ctx c).cq = false) :
    s.postCall c = (s.qAppend (s.ctx c).cq ⟨s.callRecord c, false⟩ false).toIdle c := by
  simp only [State.postCall, hgood, hroom, Bool.true_eq_false, Bool.false_eq_true, if_false]

theorem exec_faultDelivery (c : Fin 256) (giveUp : Bool) (s : State) :
    exec (.faultDelivery c giveUp) s = execFaultDelivery c giveUp s := rfl

/-- The fault of a stopped context with nothing buffered and no job is posted. -/
theorem execFaultDelivery_posts {c : Fin 256} (giveUp : Bool) {f : FaultRec} {s : State} (hst : (s.ctx c).st = .stopped)
    (hf : (s.ctx c).fault = some f) (hpriv : f.priv ≠ .warden) (hsb : (s.ctx c).sb = []) (hjobs : (s.ctx c).jobs = [])
    (hdone : (s.ctx c).donePend = false) : execFaultDelivery c giveUp s = .next (s.postCall c) := by
  simp only [execFaultDelivery, hst, hdone, hjobs, State.sbDropStuck_empty hsb, ite_self, hsb, hf, hpriv, ne_eq,
    not_true_eq_false, Bool.false_eq_true, or_self, if_false]

theorem faultDelivery_answers {c : Fin 256} (giveUp : Bool) {f : FaultRec} {s : State} (hst : (s.ctx c).st = .stopped)
    (hf : (s.ctx c).fault = some f) (hpriv : f.priv ≠ .warden) (hsb : (s.ctx c).sb = []) (hjobs : (s.ctx c).jobs = [])
    (hdone : (s.ctx c).donePend = false) (hgood : s.cqGood (s.ctx c).cq = true) (hroom : s.qFull (s.ctx c).cq = false) :
    Answers (.faultDelivery c giveUp) s fun t => (t.queue (s.ctx c).cq).vis = (s.queue (s.ctx c).cq).vis ++
      (s.queue (s.ctx c).cq).held ++ [⟨s.callRecord c, false⟩] ∧ (t.ctx c).st = .idle := by
  refine answers_of_exists ⟨s.postCall c, (exec_faultDelivery ..).trans
    (execFaultDelivery_posts giveUp hst hf hpriv hsb hjobs hdone), ?_, ?_⟩
  · change ((s.postCall c).queue (s.ctx c).cq).vis = _
    rw [State.postCall_of_room hgood hroom, State.queue_of_queues (State.queues_toIdle ..), State.queue_qAppend]
  · change ((s.postCall c).ctx c).st = _
    rw [State.postCall_of_room hgood hroom, State.ctx_toIdle]
    rfl

/-! The statement. -/

/-- Settles O22: each command's conditions decide which branch of it runs, and the lemma on that branch says what it leaves. -/
theorem fencesControlWordsAndFaults : Obligations.FencesControlWordsAndFaults := by
  unfold Obligations.FencesControlWordsAndFaults
  refine ⟨?fence, ?fenceWaits, ?fenceI, ?fenceG, ?psync, ?cwrdTime, ?cwrd, ?cwrdFaults, ?cwwr, ?cwwrFaults, ?trap, ?pause,
    ?pauseEnd, ?deadline, ?illegal, ?faultDelivery⟩
  case fence => exact fun _ _ => fence_answers
  case fenceWaits => exact fun _ _ => fence_waits
  case fenceI => exact fun _ _ => fenceI_answers
  case fenceG => exact fun _ d _ => fenceG_answers d
  case psync => exact fun _ d _ => psync_answers d
  case cwrdTime => exact fun _ d _ h => cwrd_answers d (cw := 1) h (show cwFloors 1 = some (0, none) from rfl) (Nat.zero_le _)
  case cwrd => exact fun _ d _ _ _ _ => cwrd_answers d
  case cwrdFaults => exact fun _ d _ _ _ _ => cwrd_faults d
  case cwwr => exact fun _ d _ _ _ _ => cwwr_answers d
  case cwwrFaults => exact fun _ d _ _ _ _ => cwwr_faults d
  case trap => exact fun _ imm _ => trap_answers imm
  case pause => exact fun _ imm _ => pause_answers imm
  case pauseEnd => exact fun _ _ _ hhold _ => pauseEnd_answers hhold
  case deadline => exact fun _ _ => deadlineReached_answers
  case illegal => exact fun _ _ _ => illegalInstruction_answers
  case faultDelivery => exact fun _ giveUp _ _ => faultDelivery_answers giveUp

end Sys2Proof.Machine
end

section
/-! SUPPORT. A snoop of a request that names another line than the one it stands under (R202, R204). -/

namespace Sys2Proof.Machine

/-- What a command answers holds of the state it runs to. -/
theorem Answers.of_exec {i : Instr} {s t : State} {P : State → Prop} (h : Answers i s P) (ht : exec i s = .next t) :
    P { t with tcnt := s.tcnt } := by
  obtain ⟨u, hu, hp⟩ := h
  obtain rfl : u = t := Host.Outcome.next.inj (hu.symm.trans ht)
  exact hp

theorem exec_snoop (ga : BitVec 50) (stop : Fin 12) (fl : Flips) (s : State) :
    exec (.snoop ga stop fl) s = execSnoop ga stop fl s := rfl

/-- A wing's stop that has no copy of the line that the request names answers, and nothing else. -/
theorem execSnoop_of_no_copy {ga : BitVec 50} {stop : Fin 12} {x : Txn} {s : State} (fl : Flips)
    (htxn : s.txn (ga.toNat / 64) = some x) (hphase : x.phase = .snoop) (hnew : x.answered.getLsbD stop = false)
    (hwing : stop.val < 8) (hwbq : s.coh.wbq = []) (hnone : s.wfind stop x.req.gl = none) :
    execSnoop ga stop fl s =
      .next (s.setTxn (ga.toNat / 64) { x with answered := x.answered ||| BitVec.ofNat 12 (2 ^ stop.val) }) := by
  simp only [execSnoop, htxn, hphase, hnew, hwing, State.snoopWing, hwbq, hnone, List.any_nil, ne_eq, not_true_eq_false,
    Bool.false_eq_true, or_self, if_false, if_true]

/-- A WRITE of line 2 that waits for its snoop. -/
def writeSnooped : Txn := { Txn.start (Req.plain .write 2 .dev) false true with phase := .snoop }

/-- A device that keeps the write of line 2 in progress under line 1, while wing 2 holds line 1 MODIFIED and line 2 not at
all. -/
def snoopMisplaced : State := (State.reset.setTxn 1 writeSnooped).wset 2 1 ⟨.modified, 9, false⟩

theorem snoopMisplaced_txn : snoopMisplaced.txn 1 = some writeSnooped := SMap.find_ins_same ..
theorem snoopMisplaced_wfind_one : snoopMisplaced.wfind 2 1 = some ⟨.modified, 9, false⟩ := SMap.find_ins_same ..
theorem snoopMisplaced_wfind_two : snoopMisplaced.wfind 2 2 = none := SMap.find_ins_ne _ _ (by simp [wlKey])

/-- Refutes O12: its clause on a MODIFIED copy at a wing's stop, unlike the one on the end of a snoop, does not ask that the
request in progress under the line name that line; the snoop goes by the line the request names, and finds no copy. -/
theorem not_homeSliceProtocol : ¬ Obligations.HomeSliceProtocol := by
  unfold Obligations.HomeSliceProtocol
  rintro ⟨-, -, hmodified, -⟩
  have hexec := (exec_snoop 64 2 Flips.none snoopMisplaced).trans
    (execSnoop_of_no_copy Flips.none snoopMisplaced_txn rfl rfl (by decide) rfl snoopMisplaced_wfind_two)
  obtain ⟨hgiven, -⟩ := (hmodified 64 2 writeSnooped ⟨.modified, 9, false⟩ snoopMisplaced snoopMisplaced_txn rfl rfl
    (by decide) rfl (by decide) snoopMisplaced_wfind_one rfl rfl rfl).of_exec hexec
  have hleft := (SMap.find_ins_same snoopMisplaced.coh.txns 1
    { writeSnooped with answered := writeSnooped.answered ||| BitVec.ofNat 12 (2 ^ 2) }).symm.trans hgiven
  exact absurd (congrArg (Option.map Txn.found) hleft) (by decide)

end Sys2Proof.Machine
end

section
/-! SUPPORT. Line messages that leave on an ACTIVE fabric port (R337, R339): they join the port's flits, so that more
differs than what has left the device. -/

namespace Sys2Proof.Machine

/-! Words that leave take room in the replay buffer of their port. -/

theorem State.fport_setFport (s : State) (p : Nat) (x : FPort) : (s.setFport p x).fport p = x := SMap.get_put_same ..

theorem State.sendFlits_fab_ne {s : State} {p n : Nat} (hn : 0 < n) (hroom : (s.fport p).replay.length < 256) :
    (s.sendFlits p n).fab ≠ s.fab := by
  intro h
  have hsame : (s.sendFlits p n).fport p = s.fport p := by rw [State.fport, State.fport, h]
  have hlen := congrArg (fun x : FPort => x.replay.length) hsame
  simp only [State.sendFlits, State.fport_setFport, List.length_append, List.length_map, List.length_range] at hlen
  omega

theorem State.sendWords_fab_ne {s : State} {p w : Nat} (hw : 0 < w) (hroom : (s.fport p).replay.length < 256) :
    (s.sendWords p w).fab ≠ s.fab := by
  unfold State.sendWords
  exact State.sendFlits_fab_ne (s := s.tAgent (p / 4) 0x01 1) (by split <;> omega) hroom

/-- A route rests on registers and link records. -/
theorem State.routePort_of_parts {s t : State} (hr : t.regs = s.regs) (hf : t.fab = s.fab) (seat route : Nat) :
    t.routePort seat route = s.routePort seat route := by
  have hrd (f : FldDesc) (i : Nat) : t.rd f i = s.rd f i := State.rd_of_regs hr f i
  have hdistance (uid : Nat) : t.distanceTo uid = s.distanceTo uid := by
    simp only [State.distanceTo, State.neighbours, hrd, hf]
  have hroutes (uid : Nat) : t.routesTo uid = s.routesTo uid := by rw [State.routesTo, State.routesTo, hdistance]
  rw [State.routePort, State.routePort, hrd, hroutes]

theorem State.sendTo_fab_ne {s : State} {seat route p w : Nat} (hroute : s.routePort seat route = some p) (hw : 0 < w)
    (hroom : (s.fport p).replay.length < 256) : (s.sendTo seat route w).fab ≠ s.fab := by
  simp only [State.sendTo, hroute]
  exact State.sendWords_fab_ne hw hroom

theorem fabWords_pos (kind : FKind) (reply : Bool) : 0 < fabWords kind reply := by
  unfold fabWords
  (repeat' split) <;> decide

/-- A reply toward a seat takes room at the port it leaves on. -/
theorem State.emit_fabReply_fab_ne {s : State} {seat p : Nat} (hroute : s.routePort seat 1 = some p)
    (hroom : (s.fport p).replay.length < 256) (tag : Nat) (gen : Bool) (kind : FKind) (d : Line) (poison flag : Bool) :
    (s.emit (.fabReply seat tag gen kind d poison flag)).fab ≠ s.fab :=
  State.sendTo_fab_ne (s := { s with out := .fabReply seat tag gen kind d poison flag :: s.out })
    ((State.routePort_of_parts (s := s) rfl rfl ..).trans hroute) (fabWords_pos kind true) hroom

/-- An attempt toward a seat takes room at the port it leaves on. -/
theorem State.emit_fabReq_fab_ne {s : State} {seat route p : Nat} (hroute : s.routePort seat route = some p)
    (hroom : (s.fport p).replay.length < 256) (tag : Nat) (gen : Bool) (kind : FKind) (gl : Nat) (d : Line) (m : LineMask)
    (poison : Bool) : (s.emit (.fabReq seat tag gen kind gl d m poison route)).fab ≠ s.fab :=
  State.sendTo_fab_ne (s := { s with out := .fabReq seat tag gen kind gl d m poison route :: s.out })
    ((State.routePort_of_parts (s := s) rfl rfl ..).trans hroute) (fabWords_pos kind false) hroom

/-! A device with one neighbour, whose link records are not known. -/

theorem distancesFrom_nil (uid : Nat) : distancesFrom [] uid = [(uid, 0)] := List.foldl_fixed ..

/-- A device whose fabric port 0 is ACTIVE, with the device in seat 1 at its other end. -/
def seatOneLinked : State := ((State.reset.wr D.FAB_PSTAT_state 4).wr D.FAB_PNBR_uid 5).wr D.FAB_MEMUID_uid 5 1

theorem seatOneLinked_routePort (route : Nat) : seatOneLinked.routePort 1 route = some 0 := by
  have hseat : seatOneLinked.rd D.FAB_MEMUID_uid 1 = 5 := by decide
  have hlink : seatOneLinked.neighbours = [(0, 5)] := by decide
  have hrecs : seatOneLinked.fab.recs = [] := rfl
  simp [State.routePort, State.routesTo, State.distanceTo, hseat, hlink, hrecs, distancesFrom_nil, SMap.find]

/-- A request already performed gets its stored reply again (R212). -/
theorem State.fabArrive_again {s : State} {seat tag : Nat} {e : Dedup} (kind : FKind) (gl : Nat) (run : State → State)
    (hfind : SMap.find s.coh.dedup (tagKey seat tag) = some e) (hdone : e.done = true) :
    s.fabArrive seat tag e.gen kind gl run =
      (s.tHeard seat).emit (.fabReply seat tag e.gen e.kind e.data e.poison e.flag) := by
  have hheard : SMap.find (s.tHeard seat).coh.dedup (tagKey seat tag) = some e := hfind
  simp only [State.fabArrive, hheard, hdone, if_true]

/-- The stored reply of an FREAD that returned a line of bytes 9 (R212). -/
def keptReply : Dedup := ⟨false, true, .fread, 1, 9, false, false⟩

/-- A device so linked that has performed an FREAD of seat 1 under tag 0. -/
def freadPerformed : State :=
  { seatOneLinked with coh := { seatOneLinked.coh with dedup := [(tagKey 1 0, keptReply)] } }

theorem freadPerformed_dedup : SMap.find freadPerformed.coh.dedup (tagKey 1 0) = some keptReply := by
  simp [freadPerformed, SMap.find]

theorem exec_fread (seat : Fin 64) (tag : Fin 4096) (gen : Bool) (ga : BitVec 50) (fl : Flips) (s : State) :
    exec (.fread seat tag gen ga fl) s = execFread seat tag gen ga fl s := rfl

/-- The reply sent again takes room in the replay buffer of port 0. -/
theorem fread_freadPerformed : ∃ t, exec (.fread 1 0 false 64 Flips.none) freadPerformed = .next t ∧
    t.fab ≠ freadPerformed.fab := by
  refine ⟨_, (exec_fread ..).trans (congrArg Host.Outcome.next (State.fabArrive_again _ _ _ freadPerformed_dedup rfl)), ?_⟩
  have hroute : (freadPerformed.tHeard 1).routePort 1 1 = some 0 :=
    (State.routePort_of_parts (s := seatOneLinked) rfl rfl ..).trans (seatOneLinked_routePort 1)
  exact fun h => State.emit_fabReply_fab_ne hroute (by decide) _ _ _ _ _ _ h

/-- Refutes O35: its clause on a request that was performed already lets nothing change but what has left the device, where the
stored reply joins the flits of the port it leaves on (R337). -/
theorem not_homeAnswersTheFabric : ¬ Obligations.HomeAnswersTheFabric := by
  unfold Obligations.HomeAnswersTheFabric
  rintro ⟨-, -, -, -, -, -, -, -, hagain, -⟩
  obtain ⟨t, hexec, hfab⟩ := fread_freadPerformed
  obtain ⟨-, honly⟩ := (hagain 1 0 false 64 Flips.none keptReply freadPerformed freadPerformed_dedup rfl rfl).of_exec hexec
  exact hfab (honly .fab (by decide))

/-- The first attempt of an FREAD of line 2^38, the first of seat 1. -/
def firstAttempt : FReq := ⟨.fread, 1, 0, false, 2 ^ 38, .dev, 0, 0, false, none, 1, false⟩

/-- A device so linked that waits for the answer to the attempt. -/
def freadAsked : State :=
  { seatOneLinked with coh := { seatOneLinked.coh with freqs := [(tagKey 1 0, firstAttempt)] } }

theorem freadAsked_freqs : SMap.find freadAsked.coh.freqs (tagKey 1 0) = some firstAttempt := by
  simp [freadAsked, SMap.find]

theorem State.routePort_setFreq (s : State) (r : FReq) (seat route : Nat) :
    (s.setFreq r).routePort seat route = s.routePort seat route := State.routePort_of_parts rfl rfl ..

theorem freadAsked_routePort : freadAsked.routePort 1 2 = some 0 :=
  (State.routePort_of_parts (s := seatOneLinked) rfl rfl ..).trans (seatOneLinked_routePort 2)

theorem exec_fabricAttemptTimeout (seat : Fin 64) (tag : Fin 4096) (s : State) :
    exec (.fabricAttemptTimeout seat tag) s = execFabricAttemptTimeout seat tag s := rfl

/-- An attempt that is not the third is followed by the next (R213). -/
theorem execFabricAttemptTimeout_again {seat : Fin 64} {tag : Fin 4096} {r : FReq} {s : State}
    (hfind : SMap.find s.coh.freqs (tagKey seat tag) = some r) (hattempt : r.attempt < 3) :
    execFabricAttemptTimeout seat tag s = .next ((s.setFreq { r with attempt := r.attempt + 1, ended := false }).emit
      (.fabReq r.seat r.tag r.gen r.kind r.gl r.data r.mask r.poison (r.attempt + 1))) := by
  simp only [execFabricAttemptTimeout, hfind, hattempt, if_true]

/-- The second attempt takes room in the replay buffer of port 0. -/
theorem fabricAttemptTimeout_freadAsked : ∃ t, exec (.fabricAttemptTimeout 1 0) freadAsked = .next t ∧
    t.fab ≠ freadAsked.fab := by
  refine ⟨_, (exec_fabricAttemptTimeout ..).trans (execFabricAttemptTimeout_again freadAsked_freqs (by decide)), ?_⟩
  have hroute : (freadAsked.setFreq { firstAttempt with attempt := 2 }).routePort 1 2 = some 0 :=
    (State.routePort_setFreq ..).trans freadAsked_routePort
  exact fun h => State.emit_fabReq_fab_ne hroute (by decide) _ _ _ _ _ _ _ h

/-- Refutes O36: its clause on an attempt that times out lets nothing change but the caches and what has left the device, where
the next attempt joins the flits of the port it leaves on (R337). Its clauses on INV and on an entry that lingers ask the
same of the messages they send. -/
theorem not_borrowerOfTheFabric : ¬ Obligations.BorrowerOfTheFabric := by
  unfold Obligations.BorrowerOfTheFabric
  rintro ⟨-, -, -, -, -, -, -, -, -, -, -, -, -, -, -, -, -, hattempt, -⟩
  obtain ⟨t, hexec, hfab⟩ := fabricAttemptTimeout_freadAsked
  obtain ⟨-, -, honly⟩ := (hattempt 1 0 firstAttempt freadAsked freadAsked_freqs rfl rfl (by decide)).of_exec hexec
  exact hfab (honly .fab (by decide))

end Sys2Proof.Machine
end

section
/-! SUPPORT. The integer instructions (Table 8.2, R234, R243, R244): the values of the operations, and the four statements of this
family on them. -/

namespace Sys2Proof.Machine

/-! What a register instruction answers. -/

/-- A register instruction of a ready context writes its value, whatever the tally has counted. -/
theorem alu_answers {i : Instr} {s : State} {c major : Nat} {d : BitVec 5} {f : Ctx → Word} {v : Word} (h : s.Ready c)
    (hexec : exec i s = .next (s.alu c major d f)) (hv : f (s.ctx c) = v) : Answers i s fun t => s.Sets c d v t :=
  answers_of_exists ⟨_, hexec, hv ▸ (s.alu_sets c major d f h).masked⟩

/-! Comparisons. -/

theorem flag_slt (a b : Word) : flag (a.slt b) = if a.toInt < b.toInt then 1 else 0 := by
  simp only [flag, BitVec.slt_iff_toInt_lt]

theorem flag_ult (a b : Word) : flag (a.ult b) = if a.toNat < b.toNat then 1 else 0 := by
  simp only [flag, BitVec.ult_iff_lt, BitVec.lt_def]

theorem ite_sle_eq_min (a b : Word) : (if a.sle b then a else b) = BitVec.ofInt 64 (min a.toInt b.toInt) := by
  simp only [BitVec.sle_iff_toInt_le, min_def]
  split <;> rw [BitVec.ofInt_toInt]

theorem ite_sle_eq_max (a b : Word) : (if a.sle b then b else a) = BitVec.ofInt 64 (max a.toInt b.toInt) := by
  simp only [BitVec.sle_iff_toInt_le, max_def]
  split <;> rw [BitVec.ofInt_toInt]

theorem ite_ule_eq_min (a b : Word) : (if a.ule b then a else b) = BitVec.ofNat 64 (min a.toNat b.toNat) := by
  simp only [BitVec.ule_iff_le, BitVec.le_def, min_def]
  split <;> simp

theorem ite_ule_eq_max (a b : Word) : (if a.ule b then b else a) = BitVec.ofNat 64 (max a.toNat b.toNat) := by
  simp only [BitVec.ule_iff_le, BitVec.le_def, max_def]
  split <;> simp

/-- Settles O14: each instruction is a register instruction, whose value is the one its row of Table 8.2 gives. -/
theorem registerInstructionsSet : Obligations.RegisterInstructionsSet := by
  unfold Obligations.RegisterInstructionsSet
  refine ⟨?add, ?sub, ?and, ?or, ?xor, ?sll, ?srl, ?sra, ?slt, ?sltu, ?min, ?max, ?minu, ?maxu, ?mul⟩
  case slt => exact fun _ _ _ _ _ h => alu_answers h rfl (flag_slt ..)
  case sltu => exact fun _ _ _ _ _ h => alu_answers h rfl (flag_ult ..)
  case min => exact fun _ _ _ _ _ h => alu_answers h rfl (ite_sle_eq_min ..)
  case max => exact fun _ _ _ _ _ h => alu_answers h rfl (ite_sle_eq_max ..)
  case minu => exact fun _ _ _ _ _ h => alu_answers h rfl (ite_ule_eq_min ..)
  case maxu => exact fun _ _ _ _ _ h => alu_answers h rfl (ite_ule_eq_max ..)
  case mul => exact fun _ _ _ _ _ h => alu_answers h rfl (BitVec.mul_def ..)
  all_goals exact fun _ _ _ _ _ h => alu_answers h rfl rfl

/-! High products, divisions and remainders (R244). -/

/-- The high half of a 128-bit word of an integer. -/
theorem high_ofInt (z : Int) : ((BitVec.ofInt 128 z) >>> 64).setWidth 64 = BitVec.ofInt 64 (z / 2 ^ 64) := by
  refine BitVec.eq_of_toNat_eq ?_
  simp only [BitVec.toNat_setWidth, BitVec.toNat_ushiftRight, BitVec.toNat_ofInt, Nat.shiftRight_eq_div_pow]
  omega

theorem mulHigh_eq (a b : Word) : mulHigh a b = BitVec.ofInt 64 (a.toInt * b.toInt / 2 ^ 64) := by
  rw [← high_ofInt, BitVec.ofInt_mul]
  rfl

theorem mulHighU_eq (a b : Word) : mulHighU a b = BitVec.ofNat 64 (a.toNat * b.toNat / 2 ^ 64) := by
  have h := high_ofInt (a.toNat * b.toNat)
  rw [BitVec.ofInt_mul, BitVec.ofInt_natCast, BitVec.ofInt_natCast, BitVec.ofNat_toNat, BitVec.ofNat_toNat] at h
  rw [← BitVec.ofInt_natCast]
  exact_mod_cast h

theorem sdiv_eq_ofInt (a b : Word) : a.sdiv b = BitVec.ofInt 64 (a.toInt.tdiv b.toInt) :=
  BitVec.eq_of_toInt_eq ((BitVec.toInt_sdiv a b).trans (BitVec.toInt_ofInt _).symm)

theorem srem_eq_ofInt (a b : Word) : a.srem b = BitVec.ofInt 64 (a.toInt.tmod b.toInt) := by
  rw [← BitVec.toInt_srem, BitVec.ofInt_toInt]

theorem divSigned_eq (a b : Word) : divSigned a b =
    if b = 0 then (if a = 0 then 0 else if a.toInt < 0 then 0x8000000000000000 else 0x7FFFFFFFFFFFFFFF)
    else if a = 0x8000000000000000 ∧ b = 0xFFFFFFFFFFFFFFFF then 0x7FFFFFFFFFFFFFFF
    else BitVec.ofInt 64 (a.toInt.tdiv b.toInt) := by
  rw [divSigned, sdiv_eq_ofInt]
  simp only [BitVec.msb_eq_toInt, decide_eq_true_eq]
  rfl

theorem divUnsigned_eq (a b : Word) : divUnsigned a b =
    if b = 0 then (if a = 0 then 0 else 0xFFFFFFFFFFFFFFFF) else BitVec.ofNat 64 (a.toNat / b.toNat) := by
  rw [divUnsigned, BitVec.udiv_def]
  rfl

/-- The remainder of the most negative value by -1 is zero, so that the limit of R244 is no exception. -/
theorem remSigned_eq (a b : Word) :
    remSigned a b = if b = 0 then 0 else BitVec.ofInt 64 (a.toInt.tmod b.toInt) := by
  by_cases hlimit : a = minWord ∧ b = BitVec.allOnes 64
  · obtain ⟨rfl, rfl⟩ := hlimit
    decide
  · rw [remSigned, if_neg hlimit, srem_eq_ofInt]

theorem remUnsigned_eq (a b : Word) :
    remUnsigned a b = if b = 0 then 0 else BitVec.ofNat 64 (a.toNat % b.toNat) := by
  rw [remUnsigned, BitVec.umod_def]

/-- Settles O15: each instruction is a register instruction, and its value is the one of Table 8.2 and of R244 at the limits. -/
theorem productsAndDivisions : Obligations.ProductsAndDivisions := by
  unfold Obligations.ProductsAndDivisions
  refine ⟨?mulh, ?mulhu, ?div, ?divu, ?rem, ?remu⟩
  case mulh => exact fun _ _ _ _ _ h => alu_answers h rfl (mulHigh_eq ..)
  case mulhu => exact fun _ _ _ _ _ h => alu_answers h rfl (mulHighU_eq ..)
  case div => exact fun _ _ _ _ _ h => alu_answers h rfl (divSigned_eq ..)
  case divu => exact fun _ _ _ _ _ h => alu_answers h rfl (divUnsigned_eq ..)
  case rem => exact fun _ _ _ _ _ h => alu_answers h rfl (remSigned_eq ..)
  case remu => exact fun _ _ _ _ _ h => alu_answers h rfl (remUnsigned_eq ..)

/-! Counts of bits. -/

/-- A search of the numbers below `n` in rising order ends at the first that passes, or at `n`. -/
theorem find_range_spec (n : Nat) (p : Nat → Bool) :
    let m := ((List.range n).find? p).getD n
    m ≤ n ∧ (∀ k, k < m → p k = false) ∧ (m < n → p m = true) := by
  cases h : (List.range n).find? p with
  | none =>
    rw [List.find?_range_eq_none] at h
    simpa using h
  | some m =>
    rw [List.find?_range_eq_some] at h
    obtain ⟨hm, hn, hbelow⟩ := h
    simp only [List.mem_range] at hn
    exact ⟨hn.le, fun k hk => by simpa using hbelow k hk, fun _ => hm⟩

/-- The number of 1 bits below `n` is the length of their list. -/
theorem popBelow_eq (a : Word) (n : Nat) :
    popBelow a.toNat n = ((List.range n).filter (fun k => a.getLsbD k)).length := by
  induction n with
  | zero => rfl
  | succ n ih =>
    have hbit : a.toNat / 2 ^ n % 2 = ([n].filter (fun k => a.getLsbD k)).length := by
      rw [← Nat.toNat_testBit, List.filter_singleton]
      change (a.getLsbD n).toNat = _
      cases a.getLsbD n <;> rfl
    rw [popBelow, List.range_succ, List.foldl_append, ← popBelow, ih, List.filter_append, List.length_append, ← hbit]
    rfl

/-! Bytes. -/

/-- Bit i of the low `n` bytes reversed. -/
theorem getLsbD_byteSwap_range (a : Word) (n : Nat) {i : Nat} (hi : i < 64) :
    ((List.range n).foldl (fun (r : Word) k => (r <<< 8) ||| ((a >>> (8 * k)) &&& 0xFF#64)) 0).getLsbD i =
      (decide (i / 8 < n) && a.getLsbD (8 * (n - 1 - i / 8) + i % 8)) := by
  have byte (j : Nat) : (0xFF#64).getLsbD j = decide (j < 8) := by
    rw [BitVec.getLsbD_ofNat, show 0xFF = 2 ^ 8 - 1 from rfl, Nat.testBit_two_pow_sub_one]
    by_cases h : j < 8 <;> simp [h]
    omega
  induction n generalizing i with
  | zero => simp
  | succ n ih =>
    rw [List.range_succ, List.foldl_append, List.foldl_cons, List.foldl_nil]
    simp only [BitVec.getLsbD_or, BitVec.getLsbD_shiftLeft, BitVec.getLsbD_and, BitVec.getLsbD_ushiftRight, byte, hi,
      decide_true, Bool.true_and, ih (show i - 8 < 64 by omega)]
    by_cases h8 : i < 8
    · have : i / 8 = 0 := by omega
      have : i % 8 = i := by omega
      simp [*]
    · have h1 : (i - 8) / 8 = i / 8 - 1 := by omega
      have h2 : (i - 8) % 8 = i % 8 := by omega
      have h3 : i / 8 - 1 < n ↔ i / 8 < n + 1 := by omega
      have h4 : n - 1 - (i / 8 - 1) = n - i / 8 := by omega
      simp [h8, h1, h2, h3, h4]

theorem byteSwap_eq (a : Word) : byteSwap a =
    a.extractLsb' 0 8 ++ a.extractLsb' 8 8 ++ a.extractLsb' 16 8 ++ a.extractLsb' 24 8 ++ a.extractLsb' 32 8 ++
      a.extractLsb' 40 8 ++ a.extractLsb' 48 8 ++ a.extractLsb' 56 8 := by
  refine BitVec.eq_of_getLsbD_eq fun i hi => ?_
  rw [byteSwap, getLsbD_byteSwap_range a 8 hi]
  simp only [BitVec.getLsbD_append, BitVec.getLsbD_extractLsb']
  split_ifs
  all_goals
    congr 2
    · exact propext (by omega)
    · omega

theorem setWidth_setWidth_eq_mod (a : Word) : (a.setWidth 32).setWidth 64 = BitVec.ofNat 64 (a.toNat % 2 ^ 32) :=
  BitVec.eq_of_toNat_eq (by simp)

/-! The statements on one register and on an immediate. -/

/-- A count of the bits before the first 1 in an order of the 64 positions is what a register instruction may write. -/
theorem count_answers {i : Instr} {s : State} {c major : Nat} {d : BitVec 5} {f : Ctx → Word} {p : Nat → Bool} (h : s.Ready c)
    (hexec : exec i s = .next (s.alu c major d f))
    (hf : f (s.ctx c) = BitVec.ofNat 64 (((List.range 64).find? p).getD 64)) : Answers i s fun t => ∃ n, n ≤ 64 ∧
      s.Sets c d (BitVec.ofNat 64 n) t ∧ (∀ k, k < n → p k = false) ∧ (n < 64 → p n = true) := by
  obtain ⟨hle, hbelow, hat⟩ := find_range_spec 64 p
  obtain ⟨t, ht, hsets⟩ := alu_answers h hexec hf
  exact ⟨t, ht, _, hle, hsets, hbelow, hat⟩

/-- Settles O16: each instruction is a register instruction, whose value is the one its row of Table 8.2 gives; a count is
where the search for a 1 bit ends. -/
theorem oneRegisterInstructionsSet : Obligations.OneRegisterInstructionsSet := by
  unfold Obligations.OneRegisterInstructionsSet
  refine ⟨?clz, ?ctz, ?popc, ?sextb, ?sexth, ?sextw, ?zextw, ?bswap⟩
  case clz => exact fun _ _ _ _ h => count_answers h rfl rfl
  case ctz => exact fun _ _ _ _ h => count_answers h rfl rfl
  case popc => exact fun _ _ _ _ h => alu_answers h rfl (congrArg _ (popBelow_eq ..))
  case sextb => exact fun _ _ _ _ h => alu_answers h rfl (congrArg _ (BitVec.setWidth_eq_extractLsb' (by decide)))
  case sexth => exact fun _ _ _ _ h => alu_answers h rfl (congrArg _ (BitVec.setWidth_eq_extractLsb' (by decide)))
  case sextw => exact fun _ _ _ _ h => alu_answers h rfl (congrArg _ (BitVec.setWidth_eq_extractLsb' (by decide)))
  case zextw => exact fun _ _ _ _ h => alu_answers h rfl (setWidth_setWidth_eq_mod _)
  case bswap => exact fun _ _ _ _ h => alu_answers h rfl (byteSwap_eq _)

theorem toInt_sext (imm : BitVec 16) : (sext imm).toInt = imm.toInt := BitVec.toInt_signExtend_of_le (by decide)

/-- Settles O17: each instruction is a register instruction, whose value is the one its row of Table 8.2 gives. -/
theorem immediateInstructionsSet : Obligations.ImmediateInstructionsSet := by
  unfold Obligations.ImmediateInstructionsSet
  refine ⟨?addi, ?andi, ?ori, ?xori, ?slti, ?sltiu, ?lui, ?slli, ?srli, ?srai, ?shori⟩
  case slti => exact fun _ _ _ imm _ h => alu_answers h rfl ((flag_slt ..).trans (by rw [toInt_sext]))
  case sltiu => exact fun _ _ _ _ _ h => alu_answers h rfl (flag_ult ..)
  case lui => exact fun _ _ _ _ h => alu_answers h rfl rfl
  all_goals exact fun _ _ _ _ _ h => alu_answers h rfl rfl

end Sys2Proof.Machine
end

section
/-! SUPPORT. Branches, jumps and library calls (Tables 8.5 and 9.11, R242, R248, R290), and the statement of this family on them. -/

namespace Sys2Proof.Machine

section
variable {i : Instr} {s : State} {c : Nat} (h : s.Ready c)
include h

/-- An instruction of a ready context that retires with its registers as they were. -/
theorem retire_answers {run : Ctx → State} {next major : Nat} {x : Ctx} (hexec : exec i s = .next (s.attempt c run))
    (hrun : run (s.ctx c) = s.retire c x next major 0) (hst : x.st = .running) :
    Answers i s fun t => s.RunsOn c next x.reg t ∧ s.CurOnly t :=
  answers_of_exists ⟨_, by rw [hexec, State.attempt_ready _ _ _ h, hrun], s.retire_counted c next major 0 hst⟩

/-- A branch goes to its target where its condition holds, and to the next word where not. -/
theorem branch_answers {major : Nat} {d a : BitVec 5} {imm : BitVec 16} {f : Word → Word → Bool} {p : Prop} [Decidable p]
    (hexec : exec i s = .next (s.branch c major d a imm f)) (hp : f ((s.ctx c).reg d) ((s.ctx c).reg a) = true ↔ p) :
    Answers i s fun t => s.RunsOn c (if p then (BitVec.ofNat 64 (s.ctx c).pc + imm.signExtend 64 * 4).toNat
      else (s.ctx c).pc + 4) (s.ctx c).reg t ∧ s.CurOnly t := by
  refine retire_answers h (major := major) (x := s.ctx c) hexec ?_ (State.running_of_canIssue h.1)
  simp only [hp]
  rfl

/-- A jump writes the address of the next word to `d` and goes to its target. -/
theorem jump_answers {run : Ctx → State} {target major : Nat} {d : BitVec 5} (hexec : exec i s = .next (s.attempt c run))
    (hrun : run (s.ctx c) = s.retire c ((s.ctx c).setReg d (BitVec.ofNat 64 ((s.ctx c).pc + 4))) target major 0) :
    Answers i s fun t => s.RunsOn c target ((s.ctx c).regsWith d (BitVec.ofNat 64 ((s.ctx c).pc + 4))) t ∧ s.CurOnly t := by
  have hreg : ((s.ctx c).setReg d (BitVec.ofNat 64 ((s.ctx c).pc + 4))).reg =
      (s.ctx c).regsWith d (BitVec.ofNat 64 ((s.ctx c).pc + 4)) := funext fun r => Ctx.reg_setReg ..
  rw [← hreg]
  exact retire_answers h hexec hrun ((Ctx.st_setReg ..).trans (State.running_of_canIssue h.1))

/-- A library call or a return retires with the registers as they were, and with the program, privilege and links it names. -/
theorem link_answers {run : Ctx → State} {next major q : Nat} {p : Priv} {ls : List Link}
    (hexec : exec i s = .next (s.fenced c run)) (hsb : (s.ctx c).sb = [])
    (hrun : run (s.ctx c) = s.retire c { s.ctx c with links := ls, prog := q, priv := p } next major 0) :
    Answers i s fun t => s.RunsOn c next (s.ctx c).reg t ∧ s.CurOnly t ∧ (t.ctx c).priv = p ∧ (t.ctx c).prog = q ∧
      (t.ctx c).links = ls := by
  obtain ⟨hruns, honly⟩ := s.retire_counted c (x := { s.ctx c with links := ls, prog := q, priv := p }) next major 0
    (State.running_of_canIssue h.1)
  have hctx := s.ctx_retire c { s.ctx c with links := ls, prog := q, priv := p } next major 0
  exact answers_of_exists ⟨_, by rw [hexec, State.fenced_of_drained h hsb, hrun], hruns, honly, congrArg Ctx.priv hctx,
    congrArg Ctx.prog hctx, congrArg Ctx.links hctx⟩
end

theorem exec_jalr (c : Fin 256) (d a : BitVec 5) (imm : BitVec 16) (s : State) : exec (.jalr c d a imm) s =
    .next (s.attempt c fun x => if x.ea a imm % 4 ≠ 0 then s.faultNow c fltAlign (x.ea a imm) 0x27 0
      else s.retire c (x.setReg d (BitVec.ofNat 64 (x.pc + 4))) (x.ea a imm) 0x27 0) := rfl

theorem exec_scall (c : Fin 256) (imm : BitVec 16) (s : State) : exec (.scall c imm) s = execScall c imm s := rfl
theorem exec_sret (c : Fin 256) (s : State) : exec (.sret c) s = execSret c s := rfl

/-- A library call of a good import, with room for its link, continues at the code it names. -/
theorem scall_answers {c : Fin 256} {imm : BitVec 16} {p e : Program} {q off : Nat} {s : State} (h : s.Ready c)
    (hsb : (s.ctx c).sb = []) (hp : s.prog (s.ctx c).prog = some p) (himport : p.imports[imm.toNat]? = some (q, off))
    (hroom : (s.ctx c).links.length < 4) (he : s.prog q = some e) :
    Answers (.scall c imm) s fun t => s.RunsOn c (e.code + off) (s.ctx c).reg t ∧ s.CurOnly t ∧ (t.ctx c).priv = e.priv ∧
      (t.ctx c).prog = q ∧ (t.ctx c).links = ⟨(s.ctx c).pc + 4, (s.ctx c).prog, (s.ctx c).priv⟩ :: (s.ctx c).links :=
  link_answers (major := 0x3E) h (exec_scall c imm s) hsb (by simp only [hp, himport, he, Nat.not_le.mpr hroom, if_false])

theorem sret_answers {c : Fin 256} {l : Link} {r : List Link} {s : State} (h : s.Ready c) (hsb : (s.ctx c).sb = [])
    (hlinks : (s.ctx c).links = l :: r) :
    Answers (.sret c) s fun t => s.RunsOn c l.pc (s.ctx c).reg t ∧ s.CurOnly t ∧ (t.ctx c).priv = l.priv ∧
      (t.ctx c).prog = l.prog ∧ (t.ctx c).links = r :=
  link_answers (major := 0x3D) h (exec_sret c s) hsb (by simp only [hlinks])

theorem sret_faults {c : Fin 256} {s : State} (h : s.Ready c) (hsb : (s.ctx c).sb = []) (hlinks : (s.ctx c).links = []) :
    Answers (.sret c) s fun t => s.Faults c fltCallDepth 0 t :=
  answers_fault (major := 0x3D) h (exec_sret c s) (by simp only [hsb, hlinks, if_true])

/-- Settles O21: a branch's condition decides its next pc, a jump's target whether it faults, and the link stack what a library
call and a return leave. -/
theorem branchesJumpsAndLibraryCalls : Obligations.BranchesJumpsAndLibraryCalls := by
  unfold Obligations.BranchesJumpsAndLibraryCalls
  refine ⟨?beq, ?bne, ?blt, ?bge, ?bltu, ?bgeu, ?jal, ?jalr, ?jalrFaults, ?scall, ?sret, ?sretFaults⟩
  case beq => exact fun _ _ _ _ _ h => branch_answers h rfl decide_eq_true_iff
  case bne => exact fun _ _ _ _ _ h => branch_answers h rfl decide_eq_true_iff
  case blt => exact fun _ _ _ _ _ h => branch_answers h rfl BitVec.slt_iff_toInt_lt
  case bge => exact fun _ _ _ _ _ h => branch_answers h rfl BitVec.sle_iff_toInt_le
  case bltu => exact fun _ _ _ _ _ h => branch_answers h rfl BitVec.ult_iff_lt
  case bgeu => exact fun _ _ _ _ _ h => branch_answers h rfl BitVec.ule_iff_le
  case jal => exact fun _ _ _ _ h => jump_answers h rfl rfl
  case jalr => exact fun _ _ _ _ _ h htarget => jump_answers h (exec_jalr ..) (if_neg (not_not.mpr htarget))
  case jalrFaults => exact fun _ _ _ _ _ h htarget => answers_fault h (exec_jalr ..) (if_pos htarget)
  case scall => exact fun _ _ _ _ _ _ _ => scall_answers
  case sret => exact fun _ _ _ _ => sret_answers
  case sretFaults => exact fun _ _ => sret_faults

end Sys2Proof.Machine
end

section
/-! SUPPORT. A wing's L2 set whose recency leaves out a line that the wing holds (R179, R180): touching that line evicts another
line, which gives its charge back (R68, R70). The statements of this family on loads, on stores and on atomics say of every state
what the rules give only where the L2 recency lists the lines of its set. -/

namespace Sys2Proof.Machine

/-! A store that leaves the buffer (R193, R201). -/

theorem State.checkWingWrite_noInj {s : State} (h : s.NoInj) (w gl : Nat) (l : WLine) (mask : LineMask) (sub : Nat) :
    s.checkWingWrite w gl l mask sub = (some l, s) := by
  unfold State.checkWingWrite
  split
  · rfl
  · simp [State.injectLine_noInj h, Flips.none]

theorem State.wingOwns_of_wfind {s : State} {c gl : Nat} {l : WLine} (h : s.wfind (wingOf c) gl = some l) (hst : l.st ≠ .shared) :
    s.wingOwns c gl = some l := by
  simp only [State.wingOwns, h, hst, if_false]

/-- With nothing injected the oldest store, to a local line that its wing owns, is written there and leaves (R201). -/
theorem exec_storeBufferLeave_of_owned {c : Fin 256} {e : SbEnt} {r : List SbEnt} {l : WLine} {s : State} (loan : Bool)
    (hn : s.NoInj) (hsb : (s.ctx c).sb = e :: r) (hlocal : s.isLocal e.gl = true) (hz : e.zline = false)
    (hl : s.wfind (wingOf c) e.gl = some l) (hst : l.st ≠ .shared) : exec (.storeBufferLeave c loan Flips.none) s =
      .next ((s.wingWrite c e.gl l e.data e.mask false).sbPop c e.gl) := by
  change execStoreBufferLeave c loan Flips.none s = _
  simp only [execStoreBufferLeave, hsb, State.checkStruct_noInj hn, hlocal, hz, State.wingOwns_of_wfind hl hst,
    State.checkWingWrite_noInj hn, Bool.false_eq_true, if_false, if_true, Option.getD_some, Option.isNone_some]

/-! The state. -/

/-- A program of 1,024 words at the start of the hall. -/
def hallProgram : Program :=
  { priv := .guest, guestExports := false, page := 0, pages := 1, code := 0, size := 4096, entries := [0], imports := [],
    exports := [], lib := 0, version := 0, draining := false }

/-- An open device of seat 0 whose context 0 runs. Wing 0 holds lines 0 and 1024, of which only the second, behind seven others,
stands in the recency of their L2 set; it is OWNED and charged, and the next to leave. The dirty count exceeds the budget, the
governor's mode is still NORMAL, and a stripe builder is open. -/
def crowdedL2 : State :=
  { (State.reset.wr D.GBL_STAT_state stOpen).wr D.GBL_STAT_seated 1 with
    cur := { Cur.init with progs := [(0, hallProgram)], ctxs := [(0, { Ctx.init with st := .running })] }
    coh := { Coh.init with
      wl := [(0, ⟨.modified, 0, false⟩), (1024, ⟨.owned, 0, false⟩)]
      l2 := [(0, (List.range 8).map fun k => 1024 * (8 - k))]
      chg := [(1024, 128)] }
    med := { Media.init with builders := [⟨0, 0, 0, [], [], [], [], 0, false⟩] } }

/-- The same device with a store to line 0 buffered. -/
def crowdedL2Storing : State := crowdedL2.setCtx 0 { crowdedL2.ctx 0 with sb := [⟨0, 0x88, 0xFF, 0, false, false⟩] }

theorem crowdedL2_ready : crowdedL2.Ready 0 := by decide +kernel
theorem crowdedL2_loadsNow : crowdedL2.LoadsNow 0 ((crowdedL2.ctx 0).ea 0 0) 1 Flips.none := by decide +kernel
theorem crowdedL2_atomNow : crowdedL2.AtomNow 0 true 0 ⟨.modified, 0, false⟩ := by decide +kernel

/-- Once its builder is closing, the device's media records are not as they were. -/
theorem med_ne_of_closing {t : State} (h : t.med.builders.map Builder.closing = [true]) : t.med ≠ crowdedL2.med := by
  intro hmed
  rw [hmed] at h
  exact absurd h (by decide)

theorem crowdedL2Storing_noInj : crowdedL2Storing.NoInj := by decide +kernel
theorem crowdedL2Storing_isLocal : crowdedL2Storing.isLocal 0 = true := by decide +kernel
theorem crowdedL2Storing_wfind : crowdedL2Storing.wfind 0 0 = some ⟨.modified, 0, false⟩ := by decide +kernel
theorem crowdedL2Storing_sb : (crowdedL2Storing.ctx 0).sb = [⟨0, 0x88, 0xFF, 0, false, false⟩] :=
  congrArg Ctx.sb (crowdedL2.setCtx_same 0 _)

/-! Each command touches line 0, which drives line 1024 out; its charge is given back, and the governor goes from NORMAL to HOLD and
closes the builder (R138). -/

theorem lb_crowdedL2 : ∃ t, exec (.lb 0 1 0 0 Flips.none) crowdedL2 = .next t ∧
    t.med.builders.map Builder.closing = [true] := ⟨_, rfl, by decide +kernel⟩

theorem storeBufferLeave_crowdedL2Storing : ∃ t, exec (.storeBufferLeave 0 false Flips.none) crowdedL2Storing = .next t ∧
    t.med.builders.map Builder.closing = [true] :=
  ⟨_, exec_storeBufferLeave_of_owned false crowdedL2Storing_noInj crowdedL2Storing_sb crowdedL2Storing_isLocal rfl
    crowdedL2Storing_wfind (by decide), by decide +kernel⟩

theorem aswap_crowdedL2 : ∃ t, exec (.aswap 0 true 1 0 0 Flips.none) crowdedL2 = .next t ∧
    t.med.builders.map Builder.closing = [true] := ⟨_, rfl, by decide +kernel⟩

/-- Refutes O18: its clauses on loads whose units are at hand are of every state, and do not ask that the recency of the L2 set list
the line that the wing holds. Where it leaves the line out and is full, the load evicts another line, and the release of that line's
charge closes stripe builders, where the clause lets no media record change. -/
theorem not_loadsReturn : ¬ Obligations.LoadsReturn := by
  unfold Obligations.LoadsReturn
  rintro ⟨hlb, -⟩
  obtain ⟨t, hexec, hclosing⟩ := lb_crowdedL2
  obtain ⟨-, honly⟩ := (hlb 0 1 0 0 Flips.none crowdedL2 crowdedL2_ready crowdedL2_loadsNow).of_exec hexec
  exact med_ne_of_closing hclosing (honly .med (by decide))

/-- Refutes O19: its clause on a store that leaves the buffer into a line its wing owns lets only the caches and the curator change,
and does not ask that the recency of the L2 set list that line. Where it leaves the line out and is full, the store evicts another
line, whose charge is released. -/
theorem not_storesAreBuffered : ¬ Obligations.StoresAreBuffered := by
  unfold Obligations.StoresAreBuffered
  rintro ⟨-, -, -, -, -, -, hleave, -⟩
  obtain ⟨t, hexec, hclosing⟩ := storeBufferLeave_crowdedL2Storing
  obtain ⟨-, -, honly⟩ := (hleave 0 false ⟨0, 0x88, 0xFF, 0, false, false⟩ [] ⟨.modified, 0, false⟩ crowdedL2Storing
    crowdedL2Storing_noInj crowdedL2Storing_sb crowdedL2Storing_isLocal rfl crowdedL2Storing_wfind (by decide)).of_exec hexec
  exact med_ne_of_closing hclosing (honly .med (by decide))

/-- Refutes O20: as in O18, its clauses on near atomics are of every state, and do not ask that the recency of the L2 set list the
line that the wing owns. Where it leaves the line out and is full, the atomic evicts another line, and the release of its charge
closes stripe builders. -/
theorem not_atomicsExchange : ¬ Obligations.AtomicsExchange := by
  unfold Obligations.AtomicsExchange
  rintro ⟨haswap, -⟩
  obtain ⟨t, hexec, hclosing⟩ := aswap_crowdedL2
  obtain ⟨⟨-, honly⟩, -⟩ := (haswap 0 true 1 0 0 ⟨.modified, 0, false⟩ crowdedL2 crowdedL2_atomNow).of_exec hexec
  exact med_ne_of_closing hclosing (honly .med (by decide))

end Sys2Proof.Machine
end

section
/-! SUPPORT. A job whose status word goes to another device: the request that carries it across the fabric is counted (R514). -/

namespace Sys2Proof.Machine

/-- A started mover job of length 0 whose descriptor lies at address 2^44, on the device in seat 1. -/
def farJob : Job := ⟨2 ^ 44, .mover, 0, true, [], 0, false, none⟩

/-- A device in seat 0, linked to the device in seat 1, that runs the job in context 0 while its tally counts event 272. -/
def jobFarCounted : State :=
  ((((seatOneLinked.wr D.GBL_STAT_seated 1).wr D.FAB_MEMST_state 1 1).wr D.TAL_CFG_event 1 272).wr D.TAL_CFG_mode 1 272).setCtx 0
    { Ctx.init with jobs := [farJob] }

theorem farJob_length : wordAt farJob.words 3 = 0 := by decide +kernel

theorem moverPlan_farJob :
    jobFarCounted.moverPlan farJob (jobExt [] []) [] = some (.stop jobBadDesc 0, jobFarCounted) := by
  simp only [State.moverPlan, farJob_length, true_or, or_true, if_true]

theorem job_farJob : jobFarCounted.job 0 (2 ^ 44) = some farJob := by
  have hctx : jobFarCounted.ctx 0 = { Ctx.init with jobs := [farJob] } := State.setCtx_same ..
  rw [State.job, hctx]
  rfl

/-- The counters that count after the job's end. -/
def farJobCounters : Nat :=
  ((jobFarCounted.jobEnd 0 (2 ^ 44) jobBadDesc 0).map (fun z => z.tcnt.count.length)).getD 0

theorem farJobCounters_eq : Nat.beq farJobCounters 1 = true := by decide +kernel

/-- The job ends, and the request that carries its status word is counted. -/
theorem jobEnd_farJob : ∃ z, jobFarCounted.jobEnd 0 (2 ^ 44) jobBadDesc 0 = some z ∧ z.tcnt ≠ jobFarCounted.tcnt := by
  have hone := Nat.eq_of_beq_eq_true farJobCounters_eq
  cases hend : jobFarCounted.jobEnd 0 (2 ^ 44) jobBadDesc 0 with
  | none =>
    rw [farJobCounters, hend] at hone
    exact absurd hone (by decide)
  | some z =>
    refine ⟨z, rfl, fun htcnt => ?_⟩
    rw [farJobCounters, hend, Option.map_some, Option.getD_some, htcnt] at hone
    exact absurd hone (by decide)

/-- Refutes O26: its clause on a mover job whose checks end it lets no counter of the tally advance and yet asks for the state of the
job's end, where the status word of a descriptor on another device is counted as it leaves (R514). -/
theorem not_jobsRun : ¬ Obligations.JobsRun := by
  unfold Obligations.JobsRun
  rintro ⟨-, -, -, -, -, -, -, -, -, hstop, -⟩
  obtain ⟨z, hend, hcounted⟩ := jobEnd_farJob
  obtain ⟨t, -, heq, -⟩ := hstop 0 (2 ^ 44) [] [] [] farJob jobBadDesc 0 jobFarCounted z jobFarCounted job_farJob rfl
    (by decide) rfl rfl moverPlan_farJob hend
  exact hcounted (congrArg State.tcnt heq).symm

end Sys2Proof.Machine
end

section
/-! SUPPORT. What the service instructions share (R236, R260 to R262), and the end of a call by DONE (R294). -/

-- One proof after the other: those that wait for one another hold a thread each in the compile of the whole text.
set_option Elab.async false

namespace Sys2Proof.Machine

/-! Frames, whatever the tally has counted (R514). -/

theorem State.CurOnly.counted {s t : State} (h : s.CurOnly t) (n : TallyCnt) : s.CurOnly { t with tcnt := n } := by
  refine ⟨h.1, fun p hp => ?_⟩
  cases p
  case tcnt => exact absurd (by decide) hp
  all_goals exact h.2 _ hp

theorem State.Sets.counted {s t : State} {c : Nat} {d : BitVec 5} {v : Word} (h : s.Sets c d v t) (n : TallyCnt) :
    s.Sets c d v { t with tcnt := n } :=
  ⟨h.1, h.2.counted n⟩

/-- An instruction of a running context writes its register and goes on. -/
theorem State.setAndGo_sets_of_running {s : State} {c : Nat} (hst : (s.ctx c).st = .running) (d : BitVec 5) (v : Word)
    (major : Nat) : s.Sets c d v (s.setAndGo c (s.ctx c) d v major) := by
  obtain ⟨⟨hrun, hpc, hreg, hother⟩, honly⟩ :=
    s.retire_runsOn c ((s.ctx c).setReg d v) ((s.ctx c).pc + 4) major 0 ((Ctx.st_setReg ..).trans hst)
  exact ⟨⟨hrun, hpc, fun r => (hreg r).trans (Ctx.reg_setReg ..), hother⟩, honly⟩

theorem State.CurOnly.queues {s t : State} (h : s.CurOnly t) : t.queues = s.queues := h.2 .queues (by decide)

/-! The registers outside the tally's block. -/

theorem State.CurOnly.rd {s t : State} (h : s.CurOnly t) (f : FldDesc) (i : Nat)
    (hk : f.key i < 0x50000 * 64 ∨ 0x60000 * 64 ≤ f.key i) : t.rd f i = s.rd f i := by
  simp only [State.rd, SMap.get_eq_find, h.1 _ hk]

/-- A field of an atrium queue. -/
theorem State.CurOnly.rd_atq {s t : State} (h : s.CurOnly t) (f : FldDesc) (n : Nat) (hoff : 0x100000 ≤ f.off := by decide) :
    t.rd f n = s.rd f n :=
  h.rd f n (.inr (by unfold FldDesc.key; omega))

theorem State.CurOnly.now {s t : State} (h : s.CurOnly t) : t.now = s.now := h.rd D.GBL_VTIME_ns 0 (by decide)

theorem State.CurOnly.qOn {s t : State} (h : s.CurOnly t) (n : Nat) : t.qOn n = s.qOn n := by
  rw [State.qOn, State.qOn, State.bit, State.bit, h.rd_atq D.ATQ_CFG_enable n]

theorem State.CurOnly.cqGood {s t : State} (h : s.CurOnly t) (n : Nat) : t.cqGood n = s.cqGood n := by
  rw [State.cqGood, State.cqGood, h.qOn, State.qType, State.qType, h.rd_atq D.ATQ_CFG_type n]

theorem State.CurOnly.qFull {s t : State} (h : s.CurOnly t) (n : Nat) : t.qFull n = s.qFull n := by
  rw [State.qFull, State.qFull, State.qCap, State.qCap, h.rd_atq D.ATQ_CFG_order n, State.queue_of_queues h.queues]

/-! The words of a completion record (Table 9.10). -/

/-- The number that words make, the lowest first. -/
def wordsNat : List Nat → Nat
  | [] => 0
  | w :: ws => w % 2 ^ 64 + 2 ^ 64 * wordsNat ws

theorem foldl_zipIdx_words (ws : List Nat) (n a : Nat) :
    (ws.zipIdx n).foldl (fun a e => a + (e.1 % 2 ^ 64) * 2 ^ (64 * e.2)) a = a + 2 ^ (64 * n) * wordsNat ws := by
  induction ws generalizing n a with
  | nil => rfl
  | cons w ws ih =>
    rw [List.zipIdx_cons, List.foldl_cons, ih, wordsNat, Nat.mul_add 64 n 1, Nat.pow_add]
    ring

theorem wordsNat_word (ws : List Nat) (k : Nat) : wordsNat ws / 2 ^ (64 * k) % 2 ^ 64 = ws.getD k 0 % 2 ^ 64 := by
  induction k generalizing ws with
  | zero => cases ws <;> simp [wordsNat]
  | succ k ih =>
    cases ws with
    | nil => simp [wordsNat]
    | cons w ws =>
      have hdrop : (w % 2 ^ 64 + 2 ^ 64 * wordsNat ws) / 2 ^ 64 = wordsNat ws := by omega
      rw [wordsNat, Nat.mul_add 64 k 1, Nat.add_comm (64 * k), Nat.pow_add, ← Nat.div_div_eq_div_mul, Nat.mul_one, hdrop, ih,
        List.getD_cons_succ]

/-- A word of a line is below 2^64, and what lies above it does not count. -/
theorem wordAt_ofNat (v : Nat) {k : Nat} (hk : k < 8) : wordAt (BitVec.ofNat 512 v) k = v / 2 ^ (64 * k) % 2 ^ 64 := by
  have hsplit : 512 = 64 * k + (64 + 64 * (7 - k)) := by omega
  have height : 8 * (8 * k) = 64 * k := by omega
  rw [wordAt, bytesAt, BitVec.toNat_ofNat, height, hsplit, Nat.pow_add, Nat.pow_add, Nat.mod_mul_right_div_self,
    Nat.mod_mul_right_mod]

/-- A line made of words reads as them. -/
theorem wordAt_lineOfWords (ws : List Nat) {k : Nat} (hk : k < 8) : wordAt (lineOfWords ws) k = ws.getD k 0 % 2 ^ 64 := by
  rw [lineOfWords, wordAt_ofNat _ hk, foldl_zipIdx_words, ← wordsNat_word]
  simp

/-- The record of a call that ends without a fault. -/
theorem State.callRecord_done {s : State} {c : Nat} (hfault : (s.ctx c).fault = none) :
    wordAt (s.callRecord c) 0 / 2 ^ 56 = 2 ∧ wordAt (s.callRecord c) 0 % 2 ^ 32 = (s.ctx c).tag % 2 ^ 32 ∧
      wordAt (s.callRecord c) 1 = ((s.ctx c).reg 10).toNat ∧ wordAt (s.callRecord c) 2 = ((s.ctx c).reg 11).toNat := by
  simp only [State.callRecord, hfault, recordLine]
  rw [wordAt_lineOfWords _ (by decide), wordAt_lineOfWords _ (by decide), wordAt_lineOfWords _ (by decide)]
  simp only [List.getD_cons_zero, List.getD_cons_succ]
  exact ⟨by omega, by omega, Nat.mod_eq_of_lt (BitVec.isLt _), Nat.mod_eq_of_lt (BitVec.isLt _)⟩

/-! DONE (R294). -/

/-- A call whose completion queue has room is posted, and its context is IDLE. -/
theorem State.postCall_posts {s : State} {c : Nat} (hgood : s.cqGood (s.ctx c).cq = true)
    (hroom : s.qFull (s.ctx c).cq = false) : ((s.postCall c).ctx c).st = .idle ∧
      ((s.postCall c).queue (s.ctx c).cq).vis = (s.queue (s.ctx c).cq).vis ++ (s.queue (s.ctx c).cq).held ++
        [⟨s.callRecord c, false⟩] := by
  rw [State.postCall_of_room hgood hroom, State.ctx_toIdle, State.queue_of_queues (State.queues_toIdle ..),
    State.queue_qAppend]
  exact ⟨rfl, rfl⟩

theorem exec_done (c : Fin 256) (s : State) : exec (.done c) s = execDone c s := rfl

/-- DONE retires and posts the call. -/
theorem execDone_posts {c : Fin 256} {s : State} (h : s.Served c) (hrefuse : s.refusing c = false)
    (hlinks : (s.ctx c).links = []) (hjobs : (s.ctx c).jobs = []) :
    execDone c s = .next ((s.retire c (s.ctx c) ((s.ctx c).pc + 4) 0x3D 0).postCall c) := by
  simp only [execDone, State.psynced, State.fenced_of_drained h.1 h.2, hrefuse, hlinks, hjobs, Bool.false_eq_true, ne_eq,
    not_true_eq_false, if_false]

/-- Settles O41: DONE retires, which leaves the queues and the context's results as they are, and posts the record. -/
theorem doneEndsCalls : Obligations.DoneEndsCalls := by
  unfold Obligations.DoneEndsCalls
  intro c s h hrefuse hlinks hjobs hfault hgood hroom
  let a := s.retire c (s.ctx c) ((s.ctx c).pc + 4) 0x3D 0
  have hctx : a.ctx c = { s.ctx c with pc := (s.ctx c).pc + 4, instret := (s.ctx c).instret + 1 } := State.ctx_retire ..
  have honly : s.CurOnly a := (s.retire_runsOn c _ _ 0x3D 0 (State.running_of_canIssue h.1.1)).2
  have hcq : (a.ctx c).cq = (s.ctx c).cq := by rw [hctx]
  have hpost := State.postCall_posts (s := a) (c := c) (by rw [hcq, honly.cqGood, hgood]) (by rw [hcq, honly.qFull, hroom])
  obtain ⟨htype, htag, hr0, hr1⟩ := State.callRecord_done (s := a) (c := c) (by rw [hctx]; exact hfault)
  rw [hcq, State.queue_of_queues honly.queues] at hpost
  exact answers_of_exists ⟨_, (exec_done ..).trans (execDone_posts h hrefuse hlinks hjobs), hpost.1, a.callRecord c, hpost.2,
    htype, htag.trans (by rw [hctx]), hr0.trans (by rw [hctx]; rfl), hr1.trans (by rw [hctx]; rfl)⟩

end Sys2Proof.Machine
end

section
/-! SUPPORT. What taking an entry of a queue leaves (R323, R324), and calls from their dispatch to their record (R287 to R295). -/

set_option Elab.async false

namespace Sys2Proof.Machine

/-! Armed injections that the check of an entry meets (R415). -/

theorem State.aside_foldl_snd {α β : Type} {f : β × State → α → β × State} (h : ∀ a x, (f a x).2.aside = a.2.aside)
    (l : List α) (a : β × State) : (l.foldl f a).2.aside = a.2.aside := by
  induction l generalizing a with
  | nil => rfl
  | cons x l ih => exact (ih _).trans (h a x)

@[simp] theorem State.injPositions_aside (s : State) (k unit : Nat) : (s.injPositions k unit).2.aside = s.aside := by
  unfold State.injPositions
  dsimp only
  split <;> simp

@[simp] theorem State.inject_aside (s : State) (point : Nat) (hit : Nat → Bool) (unit : Nat) :
    (s.inject point hit unit).2.aside = s.aside :=
  State.aside_foldl_snd (fun a k => by simp) _ _

theorem State.qInject_aside (s : State) (n : Nat) : (s.qInject n).2.aside = s.aside :=
  State.aside_foldl_snd (fun a w => by simp) _ _

theorem State.inject_noInj {s : State} (h : s.NoInj) (point : Nat) (hit : Nat → Bool) (unit : Nat) :
    s.inject point hit unit = (⟨0, false⟩, s) := by
  rw [State.inject, State.injSlots_noInj h, List.foldl_nil]

theorem State.qInject_noInj {s : State} (h : s.NoInj) (n : Nat) : s.qInject n = ((0, false), s) := by
  have hstep (w : Nat) : s.inject 0x0F (hitInst n w) 72 = (⟨0, false⟩, s) := State.inject_noInj h ..
  exact foldl_eq_self fun w _ => by simp only [hstep, popBelow_zero]; rfl

/-! Taking the oldest entry (R323, R324). -/

/-- The oldest entry has left a queue whose others are `r`, and its corrected words are counted. -/
def State.qLeft (s : State) (n corr : Nat) (r : List QEntry) : State :=
  ((s.qInject n).2.setQueue n { s.queue n with vis := r }).addSat D.ATQ_ERR_corr (corr + (s.qInject n).1.1) n

theorem State.qTake_entry {s : State} {n : Nat} {e : QEntry} {r : List QEntry} (hon : s.qOn n = true)
    (hvis : (s.queue n).vis = e :: r) (hbad : e.bad = false) (hinj : (s.qInject n).1.2 = false) (corr : Nat) :
    s.qTake n corr false = (.entry e.data, s.qLeft n corr r) := by
  simp [State.qTake, hon, hvis, hbad, hinj, State.qLeft]

theorem State.qTake_bad {s : State} {n : Nat} {e : QEntry} {r : List QEntry} (hon : s.qOn n = true)
    (hvis : (s.queue n).vis = e :: r) {unc : Bool} (hbad : unc = true ∨ e.bad = true) (corr : Nat) :
    s.qTake n corr unc = (.bad, ((s.qLeft n corr r).addSat D.ATQ_ERR_uncorr 1 n).log E.CUR_Q_UNCORR n 0 0) := by
  have h : unc = true ∨ e.bad = true ∨ (s.qInject n).1.2 = true := by tauto
  simp only [State.qTake, hon, hvis, h, if_true, Bool.true_eq_false, if_false, State.qLeft]

theorem State.qTake_empty {s : State} {n : Nat} (h : s.qOn n = false ∨ (s.queue n).vis = []) (corr : Nat) (unc : Bool) :
    s.qTake n corr unc = (.empty, s) := by
  unfold State.qTake
  dsimp only
  split
  · rfl
  · next hon => rw [h.resolve_left hon]

theorem State.cur_qLeft (s : State) (n corr : Nat) (r : List QEntry) : (s.qLeft n corr r).cur = s.cur := by
  obtain ⟨-, -, -, hcur, -⟩ := State.parts_of_aside (s.qInject_aside n)
  unfold State.qLeft
  generalize s.qInject n = i at *
  exact hcur

theorem State.queue_qLeft (s : State) (n corr : Nat) (r : List QEntry) :
    (s.qLeft n corr r).queue n = { s.queue n with vis := r } := by
  unfold State.qLeft
  generalize s.qInject n = i
  exact State.queue_setQueue_same ..

/-- An entry that cannot be corrected leaves its queue all the same, and no context differs. -/
theorem State.qTake_bad_frame {s : State} {n : Nat} {e : QEntry} {r : List QEntry} (hon : s.qOn n = true)
    (hvis : (s.queue n).vis = e :: r) {unc : Bool} (hbad : unc = true ∨ e.bad = true) (corr : Nat) :
    (s.qTake n corr unc).2.cur = s.cur ∧ (s.qTake n corr unc).2.queue n = { s.queue n with vis := r } := by
  have hcur := s.cur_qLeft n corr r
  have hqueue := s.queue_qLeft n corr r
  rw [State.qTake_bad hon hvis hbad]
  generalize s.qLeft n corr r = a at *
  obtain ⟨-, -, hqueues, hlog, -⟩ :=
    State.parts_of_aside (State.log_aside (a.addSat D.ATQ_ERR_uncorr 1 n) E.CUR_Q_UNCORR n 0 0 false)
  exact ⟨hlog.trans hcur, (State.queue_of_queues hqueues n).trans hqueue⟩

/-! Dispatch (R291 to R293). -/

/-- A context and a call queue are chosen, and the device dispatches. -/
abbrev State.Dispatches (s : State) (n c : Nat) : Prop :=
  s.nextCall = some n ∧ (List.range 256).find? s.canCall = some c ∧ s.isOpen = true ∧ s.rtlWait = false

/-- The queue has been served, and the rotation goes on behind it. -/
def State.rotated (s : State) (n : Nat) : State := { s with cur := { s.cur with rot := (n + 1) % 4096 } }

theorem State.queue_rotated (s : State) (n k : Nat) : (s.rotated n).queue k = s.queue k := rfl
theorem State.ctxs_rotated (s : State) (n : Nat) : (s.rotated n).cur.ctxs = s.cur.ctxs := rfl
theorem State.now_rotated (s : State) (n : Nat) : (s.rotated n).now = s.now := rfl
theorem State.cqGood_rotated (s : State) (n k : Nat) : (s.rotated n).cqGood k = s.cqGood k := rfl

theorem exec_callDispatch (corr : Fin 9) (unc : Bool) (s : State) :
    exec (.callDispatch corr unc) s = execCallDispatch corr unc s := rfl

/-- The program that an entry calls, where the call is good (R292). -/
def State.callee (s : State) (w0 : Nat) : Option Program :=
  match s.prog (w0 / 2 ^ 46 % 1024) with
  | some p => if w0 / 2 ^ 56 = 1 ∧ w0 % 2 ^ 26 = 0 ∧ w0 / 2 ^ 46 % 1024 ≠ 0 ∧ p.draining = false ∧
      w0 / 2 ^ 38 % 256 < p.entries.length then some p else none
  | none => none

theorem State.callee_of_bad (s : State) {w0 : Nat} (hbad : w0 / 2 ^ 56 ≠ 1) : s.callee w0 = none := by
  unfold State.callee
  split
  · exact if_neg fun h => hbad h.1
  · rfl

/-- The completion queue that an entry names. -/
def callCq (e : QEntry) : Nat := wordAt e.data 0 / 2 ^ 26 % 4096

/-- What a dispatch of an entry does, once its queue and its context are chosen. -/
def State.dispatched (s : State) (n c : Nat) (e : QEntry) (corr : Nat) (unc : Bool) : Result :=
  let w0 := wordAt e.data 0
  let s1 := (s.qTake n corr unc).2.rotated n
  if (s.callee w0).isNone ∧ s.cqGood (callCq e) ∧ s.qFull (callCq e) then .next s
  else match (s.qTake n corr unc).1 with
    | .entry d => match s.callee w0 with
      | some p => .next (s1.invoke c (w0 / 2 ^ 46 % 1024) (w0 / 2 ^ 38 % 256) (callCq e) p d)
      | none =>
        if s1.cqGood (callCq e) then .next (s1.qAppend (callCq e)
          ⟨recordLine 3 fltCallBad 0 (w0 / 2 ^ 46 % 1024) (wordAt d 1 / 2 ^ 32) w0 0 0 s1.now 0 0, false⟩ false)
        else .next (s1.log E.CUR_CQ_BAD 0 0 0)
    | _ => .next s1

section
variable {s : State} {n c : Nat} {e : QEntry} {r : List QEntry} (h : s.Dispatches n c) (hvis : (s.queue n).vis = e :: r)
include h hvis

theorem execCallDispatch_eq (corr : Fin 9) (unc : Bool) : execCallDispatch corr unc s = s.dispatched n c e corr unc := by
  obtain ⟨hcall, hctx, hopen, hwait⟩ := h
  unfold execCallDispatch
  rw [hcall, hctx]
  dsimp only
  rw [if_neg (by simp [hopen, hwait]), hvis]
  rfl

/-- An entry that cannot be corrected is dropped, and the rotation goes on (R324). -/
theorem execCallDispatch_bad (corr : Fin 9) {unc : Bool} (hon : s.qOn n = true) (hbad : unc = true ∨ e.bad = true)
    (hroom : s.qFull (callCq e) = false) : execCallDispatch corr unc s = .next ((s.qTake n corr unc).2.rotated n) := by
  have htaken : (s.qTake n corr unc).1 = .bad := by rw [State.qTake_bad hon hvis hbad]
  simp only [execCallDispatch_eq h hvis, State.dispatched, hroom, Bool.false_eq_true, and_false, if_false, htaken]

variable (corr : Fin 9) (hon : s.qOn n = true) (hbad : e.bad = false) (hinj : (s.qInject n).1.2 = false)
include hon hbad hinj

/-- A good call invokes its program. -/
theorem execCallDispatch_invokes {p : Program} (hp : s.callee (wordAt e.data 0) = some p) : execCallDispatch corr false s =
    .next (((s.qLeft n corr r).rotated n).invoke c (wordAt e.data 0 / 2 ^ 46 % 1024) (wordAt e.data 0 / 2 ^ 38 % 256)
      (callCq e) p e.data) := by
  simp only [execCallDispatch_eq h hvis, State.dispatched, hp, Option.isNone_some, Bool.false_eq_true, false_and, if_false,
    State.qTake_entry hon hvis hbad hinj]

/-- A bad call is answered with CALL_BAD in its completion queue (R292). -/
theorem execCallDispatch_refuses (hp : s.callee (wordAt e.data 0) = none) (hroom : s.qFull (callCq e) = false)
    (hgood : ((s.qLeft n corr r).rotated n).cqGood (callCq e) = true) : execCallDispatch corr false s =
      .next (((s.qLeft n corr r).rotated n).qAppend (callCq e) ⟨recordLine 3 fltCallBad 0 (wordAt e.data 0 / 2 ^ 46 % 1024)
        (wordAt e.data 1 / 2 ^ 32) (wordAt e.data 0) 0 0 ((s.qLeft n corr r).rotated n).now 0 0, false⟩ false) := by
  simp only [execCallDispatch_eq h hvis, State.dispatched, hp, hroom, Bool.false_eq_true, and_false, if_false,
    State.qTake_entry hon hvis hbad hinj, hgood, if_true]
end

/-! The context of an invocation (R293). -/

theorem get_foldl_put_range (f : Nat → Word) {n k : Nat} (hk : k < n) :
    SMap.get 0 ((List.range n).foldl (fun a k => SMap.put 0 a (10 + k) (f k)) []) (10 + k) = f k := by
  induction n with
  | zero => omega
  | succ n ih =>
    rw [List.range_succ, List.foldl_append, List.foldl_cons, List.foldl_nil]
    by_cases hn : n = k
    · rw [hn, SMap.get_put_same]
    · rw [SMap.get_put_ne _ _ _ _ (by omega), ih (by omega)]

theorem State.reg_invoke (s : State) (c prog entry cq : Nat) (p : Program) (d : Line) {k : Nat} (hk : k < 6) :
    ((s.invoke c prog entry cq p d).ctx c).reg (BitVec.ofNat 5 (10 + k)) = BitVec.ofNat 64 (wordAt d (2 + k)) := by
  have hnat : (BitVec.ofNat 5 (10 + k)).toNat = 10 + k := by
    rw [BitVec.toNat_ofNat]
    exact Nat.mod_eq_of_lt (by omega)
  have hne : BitVec.ofNat 5 (10 + k) ≠ 0 := fun h0 => by
    have := hnat.symm.trans (congrArg BitVec.toNat h0)
    simp at this
  rw [Ctx.reg, if_neg hne, hnat, State.invoke, State.setCtx_same]
  exact get_foldl_put_range (fun k => BitVec.ofNat 64 (wordAt d (2 + k))) hk

/-! What an entry appended to one queue leaves (R320). -/

theorem State.queue_qAppend_ne (s : State) {n k : Nat} (e : QEntry) (h : n ≠ k) : (s.qAppend n e false).queue k = s.queue k := by
  simp only [State.qAppend, Bool.false_eq_true, if_false]
  rw [State.queue_of_queues ((State.queues_qSend ..).trans (State.queues_qUnhold ..)), State.queue_setQueue_ne _ _ h]

theorem State.cur_sendMsix (s : State) (p v : Nat) : (s.sendMsix p v).cur = s.cur := by
  unfold State.sendMsix
  dsimp only
  (repeat' split) <;> rfl

theorem State.cur_qSend (s : State) (n : Nat) : (s.qSend n).cur = s.cur := by
  unfold State.qSend
  split
  · exact State.cur_sendMsix ..
  · rfl

theorem State.cur_foldl {α : Type} {f : State → α → State} (h : ∀ a x, (f a x).cur = a.cur) (l : List α) (s : State) :
    (l.foldl f s).cur = s.cur := by
  induction l generalizing s with
  | nil => rfl
  | cons x l ih => exact (ih _).trans (h s x)

theorem State.cur_qAppend (s : State) (n : Nat) (e : QEntry) : (s.qAppend n e false).cur = s.cur := by
  simp only [State.qAppend, Bool.false_eq_true, if_false]
  have hunhold (a : State) : (a.qUnhold n).cur = a.cur := State.cur_foldl (fun a p => by dsimp only; split <;> rfl) _ a
  exact (State.cur_qSend ..).trans (hunhold _)

/-! The registers once an entry has been taken with no injection armed. -/

/-- The counter of corrected words stands at bit 48 of its register, and no other field does. -/
theorem State.rd_qLeft {s : State} (h : s.NoInj) (n corr : Nat) (r : List QEntry) (f : FldDesc) (i : Nat)
    (hne : f.lo ≠ 48 := by decide) (hlt : f.lo < 64 := by decide) : (s.qLeft n corr r).rd f i = s.rd f i := by
  rw [State.qLeft, State.qInject_noInj h]
  refine State.rd_wr_ne _ _ _ _ _ _ ?_
  simp only [FldDesc.key, D.ATQ_ERR_corr]
  omega

theorem State.now_qLeft {s : State} (h : s.NoInj) (n corr : Nat) (r : List QEntry) : (s.qLeft n corr r).now = s.now :=
  s.rd_qLeft h n corr r D.GBL_VTIME_ns 0

theorem State.cqGood_qLeft {s : State} (h : s.NoInj) (n corr : Nat) (r : List QEntry) (q : Nat) :
    (s.qLeft n corr r).cqGood q = s.cqGood q := by
  rw [State.cqGood, State.cqGood, State.qOn, State.qOn, State.bit, State.bit, State.qType, State.qType,
    s.rd_qLeft h n corr r D.ATQ_CFG_enable, s.rd_qLeft h n corr r D.ATQ_CFG_type]

theorem State.queue_qLeft_ne {s : State} (n corr : Nat) (r : List QEntry) {k : Nat} (hk : n ≠ k) :
    (s.qLeft n corr r).queue k = s.queue k := by
  obtain ⟨-, -, hqueues, -, -⟩ := State.parts_of_aside (s.qInject_aside n)
  unfold State.qLeft
  generalize s.qInject n = i at *
  exact (State.queue_setQueue_ne _ _ hk).trans (State.queue_of_queues hqueues k)

/-! Dispatch, command by command. -/

theorem callDispatch_invokes {corr : Fin 9} {n c : Nat} {e : QEntry} {r : List QEntry} {p : Program} {s : State}
    (h : s.Dispatches n c) (hon : s.qOn n = true) (hvis : (s.queue n).vis = e :: r) (hbad : e.bad = false)
    (hinj : (s.qInject n).1.2 = false) (hp : s.callee (wordAt e.data 0) = some p) :
    Answers (.callDispatch corr false) s fun t => (t.queue n).vis = r ∧ (t.ctx c).st = .running ∧
      (t.ctx c).prog = wordAt e.data 0 / 2 ^ 46 % 1024 ∧ (t.ctx c).priv = p.priv ∧
      (t.ctx c).pc = p.code + (p.entries[wordAt e.data 0 / 2 ^ 38 % 256]?).getD 0 ∧
      (t.ctx c).tag = wordAt e.data 1 / 2 ^ 32 ∧ (t.ctx c).cq = callCq e ∧
      ∀ k, k < 6 → (t.ctx c).reg (BitVec.ofNat 5 (10 + k)) = BitVec.ofNat 64 (wordAt e.data (2 + k)) := by
  refine answers_of_exists ⟨_, (exec_callDispatch ..).trans (execCallDispatch_invokes h hvis corr hon hbad hinj hp), ?_⟩
  have hqueue := (State.queue_rotated _ n n).trans (s.queue_qLeft n corr r)
  generalize (s.qLeft n corr r).rotated n = u at *
  have hctx := State.setCtx_same u c
  refine ⟨congrArg AQueue.vis hqueue, congrArg Ctx.st (hctx _), congrArg Ctx.prog (hctx _), congrArg Ctx.priv (hctx _),
    congrArg Ctx.pc (hctx _), congrArg Ctx.tag (hctx _), congrArg Ctx.cq (hctx _), fun k hk => State.reg_invoke u _ _ _ _ _ _ hk⟩

theorem callDispatch_drops {corr : Fin 9} {unc : Bool} {n c : Nat} {e : QEntry} {r : List QEntry} {s : State}
    (h : s.Dispatches n c) (hon : s.qOn n = true) (hvis : (s.queue n).vis = e :: r) (hbad : unc = true ∨ e.bad = true)
    (hroom : s.qFull (callCq e) = false) : Answers (.callDispatch corr unc) s fun t =>
      (t.queue n).vis = r ∧ t.cur.ctxs = s.cur.ctxs ∧ t.cur.rot = (n + 1) % 4096 := by
  obtain ⟨hcur, hqueue⟩ := State.qTake_bad_frame hon hvis hbad corr
  refine answers_of_exists ⟨_, (exec_callDispatch ..).trans (execCallDispatch_bad h hvis corr hon hbad hroom), ?_⟩
  generalize (s.qTake n corr unc).2 = u at *
  exact ⟨congrArg AQueue.vis hqueue, (u.ctxs_rotated n).trans (congrArg Cur.ctxs hcur), rfl⟩

theorem callDispatch_refuses {corr : Fin 9} {n c : Nat} {e : QEntry} {r : List QEntry} {s : State} (h : s.Dispatches n c)
    (hon : s.qOn n = true) (htype : s.qType n = qCall) (hvis : (s.queue n).vis = e :: r) (hbad : e.bad = false)
    (hinj : s.NoInj) (hcall : wordAt e.data 0 / 2 ^ 56 ≠ 1) (hgood : s.cqGood (callCq e) = true)
    (hroom : s.qFull (callCq e) = false) : Answers (.callDispatch corr false) s fun t =>
      (t.queue n).vis = r ∧ t.cur.ctxs = s.cur.ctxs ∧ (t.queue (callCq e)).vis = (s.queue (callCq e)).vis ++
        (s.queue (callCq e)).held ++ [⟨recordLine 3 fltCallBad 0 (wordAt e.data 0 / 2 ^ 46 % 1024) (wordAt e.data 1 / 2 ^ 32)
          (wordAt e.data 0) 0 0 s.now 0 0, false⟩] := by
  have hne : callCq e ≠ n := fun heq => by
    rw [heq, State.cqGood, htype] at hgood
    simp [qCall, qCompl] at hgood
  have hgood' : ((s.qLeft n corr r).rotated n).cqGood (callCq e) = true :=
    (State.cqGood_rotated ..).trans ((State.cqGood_qLeft hinj n corr r _).trans hgood)
  refine answers_of_exists ⟨_, (exec_callDispatch ..).trans (execCallDispatch_refuses h hvis corr hon hbad
    (by rw [State.qInject_noInj hinj]) (s.callee_of_bad hcall) hroom hgood'), ?_⟩
  have hnow : ((s.qLeft n corr r).rotated n).now = s.now :=
    (State.now_rotated ..).trans (State.now_qLeft hinj n corr r)
  have hqueue : ((s.qLeft n corr r).rotated n).queue n = { s.queue n with vis := r } :=
    (State.queue_rotated ..).trans (s.queue_qLeft n corr r)
  have hother : ((s.qLeft n corr r).rotated n).queue (callCq e) = s.queue (callCq e) :=
    (State.queue_rotated ..).trans (State.queue_qLeft_ne n corr r hne.symm)
  have hcur : ((s.qLeft n corr r).rotated n).cur.ctxs = s.cur.ctxs :=
    (State.ctxs_rotated ..).trans (congrArg Cur.ctxs (s.cur_qLeft n corr r))
  rw [hnow]
  generalize (s.qLeft n corr r).rotated n = u at *
  generalize recordLine 3 fltCallBad 0 _ _ _ 0 0 s.now 0 0 = d
  have happended := u.queue_qAppend (callCq e) ⟨d, false⟩
  have hleft := (u.queue_qAppend_ne ⟨d, false⟩ hne).trans hqueue
  have hctxs := (congrArg Cur.ctxs (u.cur_qAppend (callCq e) ⟨d, false⟩)).trans hcur
  rw [hother] at happended
  generalize u.qAppend (callCq e) ⟨d, false⟩ false = t at *
  exact ⟨congrArg AQueue.vis hleft, hctxs, congrArg AQueue.vis happended⟩

/-! The record of a call that has waited for room (R294). -/

theorem exec_completionQueueRoom (c : Fin 256) (s : State) :
    exec (.completionQueueRoom c) s = execCompletionQueueRoom c s := rfl

theorem completionQueueRoom_posts {c : Fin 256} {s : State} (hdone : (s.ctx c).donePend = true)
    (hgood : s.cqGood (s.ctx c).cq = true) (hroom : s.qFull (s.ctx c).cq = false) :
    Answers (.completionQueueRoom c) s fun t => (t.queue (s.ctx c).cq).vis = (s.queue (s.ctx c).cq).vis ++
      (s.queue (s.ctx c).cq).held ++ [⟨s.callRecord c, false⟩] ∧ (t.ctx c).st = .idle := by
  have hexec : exec (.completionQueueRoom c) s = .next (s.postCall c) := by
    simp only [exec_completionQueueRoom, execCompletionQueueRoom, hdone, hroom, or_true, and_self, if_true]
  obtain ⟨hidle, hqueue⟩ := State.postCall_posts hgood hroom
  exact answers_of_exists ⟨_, hexec, hqueue, hidle⟩

/-! Loads, unloads and aborts (R287, R289, R295): the writes of their registers. -/

/-- The rows of CUR_LOADCTL, CUR_UNLOAD and CUR_ABORT. -/
def loadctlRow : RegRow := ⟨"CUR_LOADCTL", 0xf0014, 0x0, 1, 32, [D.CUR_LOADCTL_go]⟩
def unloadRow : RegRow := ⟨"CUR_UNLOAD", 0xf001c, 0x0, 1, 32, [D.CUR_UNLOAD_id]⟩
def abortRow : RegRow := ⟨"CUR_ABORT", 0xf002c, 0x0, 1, 32, [D.CUR_ABORT_key, D.CUR_ABORT_ctx]⟩

theorem regHit_loadctl : regHit 0xF0014 4 = .reg loadctlRow 0 0 32 := by decide +kernel
theorem regHit_unload : regHit 0xF001C 4 = .reg unloadRow 0 0 32 := by decide +kernel
theorem regHit_abort : regHit 0xF002C 4 = .reg abortRow 0 0 32 := by decide +kernel

theorem State.blockUp_of_phase {s : State} (h : s.phase ≠ stRomRecovery) (off : Nat) : s.blockUp off = true := by
  simp [State.blockUp, h]

section
variable {s : State} (hrom : s.phase ≠ stRomRecovery) (src : Nat)
include hrom

/-- A 1 written to CUR_LOADCTL starts a load. -/
theorem State.regWrite_loadctl : s.regWrite src 0xF0014 4 1 = s.loadGo := by
  have hw : loadctlRow.fields.foldl (s.fieldWrite src 0 0 32 1) (s, false) = (s, false) := rfl
  rw [State.regWrite_of_reg regHit_loadctl (State.blockUp_of_phase hrom _) (by decide) (by decide) hw rfl]
  rfl

/-- The number written to CUR_UNLOAD is the program's. -/
theorem State.regWrite_unload {id : Nat} (hid : id < 1024) : s.regWrite src 0xF001C 4 id = s.unload id := by
  have hw : unloadRow.fields.foldl (s.fieldWrite src 0 0 32 id) (s, false) = (s, false) := rfl
  have hact : s.act s src unloadRow 0 0 32 id true = s.unload (D.CUR_UNLOAD_id.given 0 32 id) := rfl
  have hgiven : D.CUR_UNLOAD_id.given 0 32 id = (0 % 2 ^ 0 + id % 2 ^ 32 * 2 ^ 0 + 0) / 2 ^ 0 % 2 ^ 10 := rfl
  rw [State.regWrite_of_reg regHit_unload (State.blockUp_of_phase hrom _) (by decide) (by decide) hw rfl]
  exact hact.trans (congrArg s.unload (by omega))

/-- The key and a context written to CUR_ABORT abort its call. -/
theorem State.regWrite_abort {c : Nat} (hc : c < 256) : s.regWrite src 0xF002C 4 (0xAB000000 + c) = s.callAbort c := by
  have hw (v : Nat) : abortRow.fields.foldl (s.fieldWrite src 0 0 32 v) (s, false) =
    (s, (false || (decide (D.CUR_ABORT_key.enum.isEmpty = false) &&
      decide (D.CUR_ABORT_key.enum.contains (D.CUR_ABORT_key.spliced 0 0 32 v) = false))) || false) := rfl
  have hkey : D.CUR_ABORT_key.spliced 0 0 32 (0xAB000000 + c) = 0xAB := by
    have h : D.CUR_ABORT_key.spliced 0 0 32 (0xAB000000 + c) =
      (0 % 2 ^ 0 + (0xAB000000 + c) % 2 ^ 32 * 2 ^ 0 + 0) / 2 ^ 24 % 2 ^ 8 := rfl
    omega
  have hctx : D.CUR_ABORT_ctx.given 0 32 (0xAB000000 + c) = c := by
    have h : D.CUR_ABORT_ctx.given 0 32 (0xAB000000 + c) =
      (0 % 2 ^ 0 + (0xAB000000 + c) % 2 ^ 32 * 2 ^ 0 + 0) / 2 ^ 0 % 2 ^ 8 := rfl
    omega
  have hgiven : D.CUR_ABORT_key.given 0 32 (0xAB000000 + c) = 0xAB := by
    simp only [FldDesc.given, hkey]
    decide
  have hact (v : Nat) : s.act s src abortRow 0 0 32 v true = if D.CUR_ABORT_key.given 0 32 v = 0xAB then
    s.callAbort (D.CUR_ABORT_ctx.given 0 32 v) else s := rfl
  rw [State.regWrite_of_reg regHit_abort (State.blockUp_of_phase hrom _) (by decide) (by decide) (hw _) rfl, hkey,
    if_neg (by decide), hact, if_pos hgiven, hctx]
end

/-! Loads, unloads and aborts, command by command. -/

section
variable {port : Fin 4} {s : State} (hquiet : s.portQuiet port = true) (hrom : s.phase ≠ stRomRecovery)
include hquiet hrom

theorem programLoad_begins (hload : s.cur.load = none) : Answers (.programLoad port) s fun t =>
    t.cur.load = some ⟨s.rd D.CUR_LOADSRC_addr * 64, s.rd D.CUR_LOADLEN_bytes⟩ ∧ t.rd D.CUR_STAT_loadbusy = 1 := by
  have hgo : s.loadGo = ({ s with cur := { s.cur with
      load := some ⟨s.rd D.CUR_LOADSRC_addr * 64, s.rd D.CUR_LOADLEN_bytes⟩ } } : State).wr D.CUR_STAT_loadbusy 1 := by
    simp [State.loadGo, hload]
  refine answers_of_exec (t := s.loadGo) ?_ (by rw [hgo]; rfl) ?_
  · change execProgramLoad port s = _
    rw [execProgramLoad, State.portWrite_of_portQuiet _ _ _ _ hquiet, State.regWrite_loadctl hrom]
  · rw [hgo]
    exact ⟨rfl, State.rd_wr_same ..⟩

/-- An unloaded GUEST program drains while a call of it runs, and is gone otherwise. -/
theorem programUnload_drains {id : Fin 1024} {p : Program} (hp : s.prog id = some p) (hguest : p.priv = .guest) :
    Answers (.programUnload port id) s fun t => (s.progRuns id = true ∧ t.prog id = some { p with draining := true }) ∨
      (s.progRuns id = false ∧ t.prog id = none) := by
  let a : State := { s with cur := { s.cur with progs := SMap.ins s.cur.progs id { p with draining := true } } }
  have ha : a.prog id = some { p with draining := true } := SMap.find_ins_same ..
  have hunload : s.unload id = a.hallFree id := by
    rw [State.unload, hp]
    exact if_pos hguest
  have hexec : exec (.programUnload port id) s = .next (a.hallFree id) := by
    change execProgramUnload port id s = _
    rw [execProgramUnload, State.portWrite_of_portQuiet _ _ _ _ hquiet, State.regWrite_unload hrom _ id.isLt, hunload]
  have hruns : a.progRuns id = s.progRuns id := rfl
  cases hr : s.progRuns id with
  | true =>
    have hfree : a.hallFree id = a := by simp [State.hallFree, ha, hruns, hr]
    exact answers_of_exec (t := a) (hexec.trans (congrArg _ hfree)) rfl (.inl ⟨rfl, ha⟩)
  | false =>
    have hfree : a.hallFree id = { a with cur := { a.cur with progs := SMap.del a.cur.progs id } } := by
      simp [State.hallFree, ha, hruns, hr]
    exact answers_of_exec (hexec.trans (congrArg _ hfree)) rfl (.inr ⟨rfl, SMap.find_del_same ..⟩)

/-- An aborted call stops at once where its context stands between two instructions, and at its next boundary otherwise. -/
theorem callAbort_aborts {c : Fin 256} (hst : (s.ctx c).st = .running) (hdone : (s.ctx c).donePend = false)
    (hpriv : (s.ctx c).priv ≠ .warden) : Answers (.callAbort port c) s fun t =>
      (t.ctx c).pendAbort = true ∨ (t.ctx c).st = .stopped := by
  let a := s.setCtx c { (s.ctx c).cancelJobs with pendAbort := true }
  have ha : a.ctx c = { (s.ctx c).cancelJobs with pendAbort := true } := s.setCtx_same ..
  have hexec : exec (.callAbort port c) s = .next (a.atBoundary c) := by
    change execCallAbort port c s = _
    rw [execCallAbort, State.portWrite_of_portQuiet _ _ _ _ hquiet, State.regWrite_abort hrom _ c.isLt]
    simp only [State.callAbort, State.abort, hst, hdone, hpriv, ne_eq, not_true_eq_false, Bool.false_eq_true, or_self, if_false]
    rfl
  have hbound : a.boundary c = some (fltAborted, 0, 0) := by
    rw [State.boundary, ha]
    rfl
  cases hb : (a.ctx c).between with
  | true =>
    have hstop : a.atBoundary c = a.stop c fltAborted 0 0 := by simp [State.atBoundary, hb, hbound]
    exact answers_of_exec (hexec.trans (congrArg _ hstop)) rfl (.inr (congrArg Ctx.st (a.setCtx_same c _)))
  | false =>
    have hstay : a.atBoundary c = a := by simp [State.atBoundary, hb]
    exact answers_of_exec (hexec.trans (congrArg _ hstay)) rfl (.inl (congrArg Ctx.pendAbort ha))
end

/-- The end of a load shows its status. -/
theorem State.loadDone_shows (s : State) (status id src : Nat) : (s.loadDone status id src).cur.load = none ∧
    (s.loadDone status id src).rd D.CUR_STAT_loadbusy = 0 ∧
    (s.loadDone status id src).rd D.CUR_LOADRES_status = status % D.CUR_LOADRES_status.cap := by
  let a : State := { s with cur := { s.cur with load := none } }
  let b := ((a.wr D.CUR_STAT_loadbusy 0).wr D.CUR_LOADRES_status status).wr D.CUR_LOADRES_id id
  have hlog : b.Near (s.loadDone status id src) := b.near_log E.CUR_LOAD_DONE id status src false
  refine ⟨congrArg Cur.load hlog.cur, ?_, ?_⟩
  · rw [hlog.rd D.CUR_STAT_loadbusy 0 (by decide), State.rd_wr_ne _ _ _ _ _ _ (by decide), State.rd_wr_ne _ _ _ _ _ _ (by decide),
      State.rd_wr_same]
    rfl
  · rw [hlog.rd D.CUR_LOADRES_status 0 (by decide), State.rd_wr_ne _ _ _ _ _ _ (by decide), State.rd_wr_same]

theorem programLoadDone_ends {ext : List (Nat × Line × Bool)} {l : LoadOp} {ls : List (Nat × Line × Bool)} {u s : State}
    (hload : s.cur.load = some l) (hrange : rangeOk l.src l.len = true)
    (hread : s.devReadAll ext (linesOf l.src l.len) = some (ls, u)) (hclean : ls.any (fun e => e.2.2) = false) :
    Answers (.programLoadDone ext) s fun t => t.cur.load = none ∧ t.rd D.CUR_STAT_loadbusy = 0 ∧
      t.rd D.CUR_LOADRES_status = (u.loadImage (bytesFrom ls l.src l.len)).1 % D.CUR_LOADRES_status.cap := by
  have hexec : exec (.programLoadDone ext) s = .next ((u.loadImage (bytesFrom ls l.src l.len)).2.2.loadDone
      (u.loadImage (bytesFrom ls l.src l.len)).1 (u.loadImage (bytesFrom ls l.src l.len)).2.1 l.src) := by
    change execProgramLoadDone ext s = _
    simp only [execProgramLoadDone, hload, hrange, hread, hclean, Bool.true_eq_false, Bool.false_eq_true, if_false]
  exact answers_of_exists ⟨_, hexec, State.loadDone_shows ..⟩

/-- Settles O34: each command's conditions decide which branch of it runs, and the lemma on that branch says what it leaves. -/
theorem callsRun : Obligations.CallsRun := by
  unfold Obligations.CallsRun
  refine ⟨?invokes, ?drops, ?refuses, ?room, ?load, ?loadDone, ?unload, ?abort⟩
  case invokes =>
    intro corr n c e r p s hcall hctx hopen hwait hon hvis hbad hinj hp htype hres hprog hdrain hentry
    refine callDispatch_invokes ⟨hcall, hctx, hopen, hwait⟩ hon hvis hbad hinj ?_
    unfold State.callee
    rw [hp]
    exact if_pos ⟨htype, hres, hprog, hdrain, hentry⟩
  case drops =>
    exact fun corr unc n c e r s hcall hctx hopen hwait hon hvis hbad hroom =>
      callDispatch_drops ⟨hcall, hctx, hopen, hwait⟩ hon hvis hbad hroom
  case refuses =>
    exact fun corr n c e r s hcall hctx hopen hwait hon htype hvis hbad hinj hbadCall hgood hroom =>
      callDispatch_refuses ⟨hcall, hctx, hopen, hwait⟩ hon htype hvis hbad hinj hbadCall hgood hroom
  case room => exact fun _ _ => completionQueueRoom_posts
  case load => exact fun _ _ => programLoad_begins
  case loadDone => exact fun _ _ _ _ _ hload hrange hread hclean _ => programLoadDone_ends hload hrange hread hclean
  case unload => exact fun _ _ _ _ hquiet hrom hp hguest => programUnload_drains hquiet hrom hp hguest
  case abort => exact fun _ _ _ hquiet hrom hst hdone hpriv => callAbort_aborts hquiet hrom hst hdone hpriv

end Sys2Proof.Machine
end

section
/-! SUPPORT. What the read of a line for an instruction leaves as it was (R186, R194, R260): the curator, the time, and the registers
of the atrium queues and of the host ports. -/

set_option Elab.async false

namespace Sys2Proof.Machine

/-- The register fields that no read of a line touches. -/
def keptRegs (m : SMap Nat) : Nat → Option Nat :=
  fun k => if k = D.GBL_VTIME_ns.key 0 ∨ 0x100000 * 64 ≤ k then SMap.find m k else none

/-- The parts that no read of a line touches. -/
def State.readKept (s : State) : Cur × (Nat → Option Nat) := (s.cur, keptRegs s.regs)

/-! As with the guarded parts, the proofs are not bare rfl, so that simp rewrites with them. -/

@[simp] theorem State.readKept_mk (regs evq rgr ports queues regions rops coh med cur slots keyOps drbg gov led stgE aon boot fab
    fw tal tcnt out free pending) : (State.mk regs evq rgr ports queues regions rops coh med cur slots keyOps drbg gov led stgE
      aon boot fab fw tal tcnt out free pending).readKept = (cur, keptRegs regs) := (rfl)
@[simp] theorem State.readKept_fold (s : State) : (s.cur, keptRegs s.regs) = s.readKept := (rfl)
@[simp] theorem State.readKept_ite (c : Prop) [Decidable c] (s t : State) :
    (if c then s else t).readKept = if c then s.readKept else t.readKept := apply_ite _ _ _ _
@[simp] theorem State.readKept_foldl {α : Type} {f : State → α → State} (h : ∀ a x, (f a x).readKept = a.readKept) (l : List α)
    (s : State) : (l.foldl f s).readKept = s.readKept := by
  induction l generalizing s with
  | nil => rfl
  | cons x l ih => exact (ih _).trans (h s x)

theorem State.readKept_foldl_snd_snd {α β γ : Type} {f : β × γ × State → α → β × γ × State} {l : List α}
    (h : ∀ a, ∀ x ∈ l, (f a x).2.2.readKept = a.2.2.readKept) (a : β × γ × State) :
    (l.foldl f a).2.2.readKept = a.2.2.readKept := by
  induction l generalizing a with
  | nil => rfl
  | cons x l ih => exact (ih (fun b y hy => h b y (by simp [hy])) _).trans (h a x (by simp))

theorem State.readKept_getD {o : Option State} {s t : State} (h : ∀ u, o = some u → u.readKept = t.readKept)
    (hs : s.readKept = t.readKept) : (o.getD s).readKept = t.readKept := by
  cases o with
  | none => exact hs
  | some u => exact h u rfl

/-! What it says of the state. -/

section
variable {s t : State} (h : t.readKept = s.readKept)
include h

theorem State.cur_of_readKept : t.cur = s.cur := congrArg Prod.fst h
theorem State.ctx_of_readKept (c : Nat) : t.ctx c = s.ctx c := by rw [State.ctx, State.ctx, State.cur_of_readKept h]
theorem State.rd_of_readKept (f : FldDesc) (i : Nat) (hk : f.key i = D.GBL_VTIME_ns.key 0 ∨ 0x100000 * 64 ≤ f.key i) :
    t.rd f i = s.rd f i := by
  have hf := congrFun (congrArg Prod.snd h) (f.key i)
  simp only [State.readKept, keptRegs, hk, if_true] at hf
  simp only [State.rd, SMap.get_eq_find, hf]
theorem State.now_of_readKept : t.now = s.now := State.rd_of_readKept h _ _ (.inl rfl)
end

/-! Registers, events, accounts. -/

theorem State.wr_readKept (s : State) (f : FldDesc) (v i : Nat)
    (hk : f.key i ≠ D.GBL_VTIME_ns.key 0 ∧ f.key i < 0x100000 * 64 := by decide) : (s.wr f v i).readKept = s.readKept := by
  have hregs : keptRegs (s.wr f v i).regs = keptRegs s.regs := by
    funext k
    by_cases h : k = D.GBL_VTIME_ns.key 0 ∨ 0x100000 * 64 ≤ k
    · simp only [keptRegs, h, if_true]
      refine SMap.find_put_ne _ _ _ fun e => ?_
      subst e
      omega
    · simp only [keptRegs, h, if_false]
  exact congrArg (Prod.mk s.cur) hregs

theorem State.Near.readKept {s t : State} (h : s.Near t) : t.readKept = s.readKept := by
  have hregs : keptRegs t.regs = keptRegs s.regs := by
    funext k
    by_cases hk : k = D.GBL_VTIME_ns.key 0 ∨ 0x100000 * 64 ≤ k
    · simp only [keptRegs, hk, if_true]
      refine h.regs k fun hb => ?_
      simp only [bookKeys, List.mem_cons, List.not_mem_nil, or_false] at hb
      rcases hb with rfl | rfl | rfl | rfl | rfl | rfl <;> revert hk <;> decide
    · simp only [keptRegs, hk, if_false]
  rw [State.readKept, State.readKept, h.cur, hregs]

section
variable (s : State)

@[simp] theorem State.tally_readKept (first k code v : Nat) : (s.tally first k code v).readKept = s.readKept := (rfl)
@[simp] theorem State.setFport_readKept (p : Nat) (x : FPort) : (s.setFport p x).readKept = s.readKept := (rfl)
@[simp] theorem State.log_readKept (code inst aux arg : Nat) (inj : Bool) :
    (s.log code inst aux arg inj).readKept = s.readKept := (s.near_log ..).readKept
@[simp] theorem State.release_readKept (gl : Nat) : (s.release gl).readKept = s.readKept := (s.near_release gl).readKept
@[simp] theorem State.releaseClean_readKept (gl : Nat) : (s.releaseClean gl).readKept = s.readKept :=
  (s.near_releaseClean gl).readKept
@[simp] theorem State.journal_readKept (type tile arg0 arg1 : Nat) :
    (s.journal type tile arg0 arg1).readKept = s.readKept := (s.near_journal ..).readKept
@[simp] theorem State.clogNow_readKept (type a b c : Nat) : (s.clogNow type a b c).readKept = s.readKept :=
  (s.near_clogNow ..).readKept
@[simp] theorem State.setLost_readKept (l : List LostEnt) : (s.setLost l).readKept = s.readKept := (s.near_setLost l).readKept
@[simp] theorem State.listOverflowed_readKept : s.listOverflowed.readKept = s.readKept := s.near_listOverflowed.readKept
end

/-! What leaves for the fabric (R337, R339). -/

section
variable (s : State)

@[simp] theorem State.sendWords_readKept (p w : Nat) : (s.sendWords p w).readKept = s.readKept := by
  simp [State.sendWords, State.sendFlits, State.tAgent]
@[simp] theorem State.sendTo_readKept (seat route w : Nat) : (s.sendTo seat route w).readKept = s.readKept := by
  unfold State.sendTo
  split <;> simp
@[simp] theorem State.emit_fabReq_readKept (seat tag : Nat) (gen : Bool) (kind : FKind) (gl : Nat) (d : Line) (m : LineMask)
    (p : Bool) (route : Nat) : (s.emit (.fabReq seat tag gen kind gl d m p route)).readKept = s.readKept :=
  (State.sendTo_readKept ..).trans (State.readKept_mk ..)
@[simp] theorem State.fabSend_readKept (kind : FKind) (seat gl : Nat) (src : Src) (data : Line) (mask : LineMask) (poison : Bool)
    (atom : Option Atom) : (s.fabSend kind seat gl src data mask poison atom).readKept = s.readKept := by
  unfold State.fabSend
  split <;> simp
@[simp] theorem State.deliver_readKept (gl : Nat) : (s.deliver gl).readKept = s.readKept := by
  unfold State.deliver
  split <;> simp [State.setOut]
end

/-! Armed injections that the read of an array meets (R415, R419). -/

section
variable (s : State)

@[simp] theorem State.pick_readKept (n : Nat) (l : List Nat) : (s.pick n l).2.readKept = s.readKept := by
  induction n generalizing s l with
  | zero => rfl
  | succ m ih =>
    unfold State.pick
    split <;> simp [ih, State.fresh]
@[simp] theorem State.injByteFlips_readKept (k : Nat) : (s.injByteFlips k).2.readKept = s.readKept := by
  unfold State.injByteFlips
  split <;> simp [State.fresh]

/-- A slot fires: it is one of eight. -/
theorem State.injFired_readKept {k : Nat} (hk : k < 8) : (s.injFired k).readKept = s.readKept := by
  have hslot (f : FldDesc) (hf : f.off + 7 * f.stride < 0x100000 ∧ 0x31 ≤ f.off ∧ f.lo < 64) (a : State) (v : Nat) :
      (a.wr f v k).readKept = a.readKept := by
    obtain ⟨hhi, hlo, hbit⟩ := hf
    have hmul : k * f.stride ≤ 7 * f.stride := Nat.mul_le_mul_right _ (by omega)
    refine a.wr_readKept f v k ?_
    have hv : D.GBL_VTIME_ns.key 0 = 3072 := rfl
    rw [hv]
    unfold FldDesc.key
    omega
  have hfired : (((s.addWrap D.INJ_FIRED_count 1).addSat D.INJ_PTCTL_fired 1 k).log E.INJ_FIRED k (s.rd D.INJ_PT_point k)
      (s.rd D.INJ_PT_target k)).readKept = s.readKept :=
    (State.log_readKept ..).trans ((hslot _ (by decide) _ _).trans (s.wr_readKept ..))
  unfold State.injFired
  extract_lets s1
  split
  · exact hfired
  · exact (State.wr_readKept ..).trans ((hslot _ (by decide) _ _).trans hfired)

@[simp] theorem State.injectLine_readKept (point : Nat) (hit : Nat → Bool) (fl : Flips) :
    (s.injectLine point hit fl).2.2.readKept = s.readKept :=
  State.readKept_foldl_snd_snd (fun a k hk => by
    have hk8 : k < 8 := List.mem_range.mp (List.mem_of_mem_filter hk)
    exact (State.injFired_readKept _ hk8).trans (State.injByteFlips_readKept ..)) _
end

/-! Wings (R179, R180, R188). -/

section
variable (s : State)

@[simp] theorem State.wdrop_readKept (w gl : Nat) : (s.wdrop w gl).readKept = s.readKept := (rfl)
@[simp] theorem State.wset_readKept (w gl : Nat) (l : WLine) : (s.wset w gl l).readKept = s.readKept := (rfl)
@[simp] theorem State.setWay_readKept (gl w : Nat) (v : VLine) : (s.setWay gl w v).readKept = s.readKept := (rfl)
@[simp] theorem State.dropWay_readKept (gl w : Nat) : (s.dropWay gl w).readKept = s.readKept := (rfl)
@[simp] theorem State.touch_readKept (gl w : Nat) : (s.touch gl w).readKept = s.readKept := (rfl)
@[simp] theorem State.wlose_readKept (w gl : Nat) (l : WLine) : (s.wlose w gl l).readKept = s.readKept := by simp [State.wlose]
@[simp] theorem State.wtake_readKept (w gl : Nat) (l : WLine) : (s.wtake w gl l).2.readKept = s.readKept := by
  simp only [State.wtake, State.checkWing, State.checkWingFlips]
  (repeat' split) <;> simp [State.tWing]
@[simp] theorem State.wbPush_readKept (w gl : Nat) (l : WLine) : (s.wbPush w gl l).readKept = s.readKept := by
  unfold State.wbPush State.vmod
  dsimp only
  (repeat' split) <;> simp
@[simp] theorem State.wevict_readKept (w gl : Nat) : (s.wevict w gl).readKept = s.readKept := by
  unfold State.wevict
  split <;> simp
@[simp] theorem State.endLoan_readKept (gl : Nat) : (s.endLoan gl).readKept = s.readKept := by
  unfold State.endLoan
  dsimp only
  split <;> simp [State.setOut]
end

/-! Ways of the vitrine, and lines that are lost (R172, R193 to R195). -/

theorem sliceOf_lt (gl : Nat) : sliceOf gl < 16 := by
  unfold sliceOf
  generalize List.range 11 = l
  suffices h : ∀ a < 2 ^ 4, l.foldl (fun a k => a ^^^ (gl / 2 ^ (4 * k) % 16)) a < 2 ^ 4 from h 0 (by decide)
  induction l with
  | nil => exact fun _ ha => ha
  | cons k l ih => exact fun a ha => ih _ (Nat.xor_lt_two_pow ha (Nat.mod_lt _ (by decide)))

section
variable (s : State)

@[simp] theorem State.wayThreshold_readKept (sl w : Nat) : (s.wayThreshold sl w).readKept = s.readKept := by
  simp [State.wayThreshold, State.setWayCnt]

/-- A field of a slice's error counts. -/
theorem State.addSat_serr_readKept (f : FldDesc) (n gl : Nat) (hf : f.off = 0xc0100 ∧ f.stride = 0x10 ∧ f.lo < 64) :
    (s.addSat f n (sliceOf gl)).readKept = s.readKept := by
  obtain ⟨hoff, hstride, hlo⟩ := hf
  have hsl := sliceOf_lt gl
  refine s.wr_readKept f _ _ ?_
  have hv : D.GBL_VTIME_ns.key 0 = 3072 := rfl
  rw [hv, FldDesc.key, hoff, hstride]
  omega

@[simp] theorem State.addSat_serrCorr_readKept (n gl : Nat) :
    (s.addSat D.VIT_SERR_corr n (sliceOf gl)).readKept = s.readKept := s.addSat_serr_readKept _ _ _ (by decide)
@[simp] theorem State.addSat_serrUncorr_readKept (n gl : Nat) :
    (s.addSat D.VIT_SERR_uncorr n (sliceOf gl)).readKept = s.readKept := s.addSat_serr_readKept _ _ _ (by decide)
@[simp] theorem State.checkFlips_readKept (gl w : Nat) (v : VLine) (fl : Flips) (inj : Bool) :
    (s.checkFlips gl w v fl inj).2.readKept = s.readKept := by
  unfold State.checkFlips
  (repeat' split) <;> simp [State.setWayCnt]
@[simp] theorem State.checkWay_readKept (gl w : Nat) (v : VLine) (fl : Flips) : (s.checkWay gl w v fl).2.readKept = s.readKept := by
  unfold State.checkWay
  split <;> simp
@[simp] theorem State.takeWay_readKept (w : Nat) (v : VLine) : (s.takeWay w v).2.2.readKept = s.readKept := by
  unfold State.takeWay
  dsimp only
  split <;> simp
@[simp] theorem State.enterWprot_readKept : s.enterWprot.readKept = s.readKept := by
  have hw : (s.wr D.CON_STAT_spare 2).readKept = s.readKept := s.wr_readKept ..
  simp [State.enterWprot, hw]
@[simp] theorem State.loseLine_readKept (ll : Nat) : (s.loseLine ll).readKept = s.readKept := by simp [State.loseLine]
@[simp] theorem State.losePoisoned_readKept (gl : Nat) : (s.losePoisoned gl).readKept = s.readKept := by
  simp [State.losePoisoned, State.unpoisonHome]
@[simp] theorem State.toEvb_readKept (gl : Nat) (kind : EvKind) (data : Line) (mask : LineMask) (poison : Bool) :
    (s.toEvb gl kind data mask poison).readKept = s.readKept := (rfl)
@[simp] theorem State.fillWay_readKept (gl w : Nat) (d : Line) (dirty poison : Bool) (lent : Lent) :
    (s.fillWay gl w d dirty poison lent).readKept = s.readKept := (rfl)
end

theorem State.evictWay_readKept {s t : State} {w : Nat} {v : VLine} (h : s.evictWay w v = some t) :
    t.readKept = s.readKept := by
  revert h
  unfold State.evictWay
  (repeat' split) <;> rintro ⟨⟩ <;> simp

theorem State.allocWay_readKept {s : State} {gl : Nat} {loan : Bool} {x : Nat × State} (h : s.allocWay gl loan = some x) :
    x.2.readKept = s.readKept := by
  revert h
  unfold State.allocWay
  split
  · rintro ⟨⟩
  · split
    · rintro ⟨⟩
      rfl
    · intro h
      obtain ⟨t, ht, rfl⟩ := Option.map_eq_some_iff.mp h
      exact State.evictWay_readKept ht

/-! Lines read for an instruction (R186, R260). -/

theorem State.fillRead_readKept {s t : State} {gl : Nat} {d : Line} {p : Bool} (h : s.fillRead gl d p = some t) :
    t.readKept = s.readKept := by
  revert h
  unfold State.fillRead
  (repeat' split)
  · rintro ⟨⟩
    rfl
  · rintro ⟨⟩
    simp
  · rintro ⟨⟩
    rfl
  · intro h
    obtain ⟨x, hx, rfl⟩ := Option.map_eq_some_iff.mp h
    simp [State.allocWay_readKept hx]

theorem State.readLocal_readKept (s : State) (gl : Nat) : (s.readLocal gl).2.readKept = s.readKept := by
  have hfill (a : State) (x : Line × Bool) : ((a.fillRead gl x.1 x.2).getD a).readKept = a.readKept :=
    State.readKept_getD (fun _ h => State.fillRead_readKept h) rfl
  have hcheck (w : Nat) (v : VLine) := s.checkWay_readKept gl w v Flips.none
  unfold State.readLocal
  dsimp only
  grind only [State.touch_readKept]

theorem State.devRead_readKept {s : State} {ext : Ext} {gl : Nat} {x : (Line × Bool) × State}
    (h : s.devRead ext gl = some x) : x.2.readKept = s.readKept := by
  have hcheck (w : Nat) (v : VLine) := s.checkWay_readKept gl w v Flips.none
  simp only [State.devRead, Option.map] at h
  grind only [State.touch_readKept, State.readLocal_readKept]

theorem State.devReadAll_readKept {s : State} {ext : Ext} {gls : List Nat} {x : List (Nat × Line × Bool) × State}
    (h : s.devReadAll ext gls = some x) : x.2.readKept = s.readKept := by
  suffices hall : ∀ (l : List Nat) (o : Option (List (Nat × Line × Bool) × State)),
      (∀ p, o = some p → p.2.readKept = s.readKept) →
      ∀ x, l.foldl (fun a gl => a.bind (fun p => (p.2.devRead ext gl).map (fun x => (p.1 ++ [(gl, x.1)], x.2)))) o = some x →
        x.2.readKept = s.readKept from hall gls (some ([], s)) (by rintro _ ⟨⟩; rfl) x h
  intro l
  induction l with
  | nil => exact fun o ho => ho
  | cons g l ih =>
    refine fun o ho => ih _ fun q hq => ?_
    obtain ⟨p, hp, hq⟩ := Option.bind_eq_some_iff.mp hq
    obtain ⟨y, hy, rfl⟩ := Option.map_eq_some_iff.mp hq
    exact (State.devRead_readKept hy).trans (ho p hp)

/-! A service instruction once its fence is done (R237, R260 to R262). -/

section
variable {s u : State} {c addr : Nat} {ext : Ext} {l : Line} (h : s.Names c addr ext l u)
include h

/-- The named line reads, and the instruction runs on it. -/
theorem State.withLine_of_names (major : Nat) (run : State → Line → State) : s.withLine c major addr ext run = run u l := by
  obtain ⟨-, hfault, hread⟩ := h
  simp only [State.withLine, hfault, hread]

theorem State.readKept_of_names : u.readKept = s.readKept := State.devRead_readKept h.2.2

theorem State.ctx_of_names (k : Nat) : u.ctx k = s.ctx k := State.ctx_of_readKept (State.readKept_of_names h) k

/-- Its status goes to the register named for it. -/
theorem State.setAndGo_of_names (d : BitVec 5) (v : Word) (major : Nat) : u.Sets c d v (u.setAndGo c (s.ctx c) d v major) := by
  have hctx := State.ctx_of_names h c
  have hst : (u.ctx c).st = .running := by rw [hctx, State.running_of_canIssue h.1.1.1]
  have hsets := State.setAndGo_sets_of_running hst d v major
  rwa [hctx] at hsets
end

theorem State.floor_of_priv {s : State} {c : Nat} {low : Priv} (h : s.Served c) (hpriv : low.code ≤ (s.ctx c).priv.code)
    (major : Nat) (run : Ctx → State) : s.floor c low major run = run (s.ctx c) := by
  rw [State.floor, State.fenced_of_drained h.1 h.2, if_neg (by omega)]

theorem State.setAndGo_of_served {s : State} {c : Nat} (h : s.Served c) (d : BitVec 5) (v : Word) (major : Nat) :
    s.Sets c d v (s.setAndGo c (s.ctx c) d v major) :=
  s.setAndGo_sets c d v major h.1.1

/-- An instruction whose whole effect is a register written answers so. -/
theorem answers_sets {i : Instr} {s u t : State} {c : Nat} {d : BitVec 5} {v : Word} (hexec : exec i s = .next t)
    (h : u.Sets c d v t) : Answers i s fun t => u.Sets c d v t :=
  answers_of_exists ⟨t, hexec, h.counted s.tcnt⟩

/-- A line that is accepted leaves the state after it. -/
theorem State.devWrite_of_accepts {s : State} {c gl : Nat} {d : Line} (h : s.Accepts c gl d) :
    ∃ v, s.devWrite c gl d fullMask (.job c 0) = some (v, s.afterWrite c gl d) := by
  obtain ⟨x, hx⟩ := Option.isSome_iff_exists.mp h.1
  exact ⟨x.1, hx.trans (by rw [State.afterWrite, hx]; rfl)⟩

/-- A context that an operation begins to hold (R262). -/
theorem State.setCtx_held {s a : State} (h : a.cur.ctxs = s.cur.ctxs) (c major : Nat) (d : BitVec 5) :
    s.Held c major d (a.setCtx c { a.ctx c with hold := .op major d }) := by
  have hctx (k : Nat) : a.ctx k = s.ctx k := by rw [State.ctx, State.ctx, h]
  refine ⟨?_, ?_, fun k hk => (a.setCtx_ne _ hk).trans (hctx k)⟩
  · rw [State.setCtx_same]
  · rw [State.setCtx_same, hctx]

end Sys2Proof.Machine
end

section
/-! SUPPORT. The accession instructions (R262, R273 to R275). -/

set_option Elab.async false

namespace Sys2Proof.Machine

theorem State.cur_pageWrite (s : State) (page : Nat) (data : Option Page) (owner : PgOwner) (flush : Bool) :
    (s.pageWrite page data owner flush).cur = s.cur := by
  obtain ⟨q, hq⟩ := s.pageWrite_led page data owner flush
  rw [hq]

/-- An accession operation is noted and holds its context. -/
def State.accHeld (s : State) (c : Nat) (d : BitVec 5) (n : Nat) (a : Acc) : State :=
  let s1 : State := { s with cur := { s.cur with accOps := s.cur.accOps ++ [(c, d.toNat, n, a)] } }
  s1.setCtx c { s1.ctx c with hold := .op 0x3B d }

/-- The table is as it was until the operation's commit (R262, R273). -/
theorem State.accHeld_holds {s b : State} (h : b.cur = s.cur) (c : Nat) (d : BitVec 5) (n : Nat) (a : Acc) :
    s.Held c 0x3B d (b.accHeld c d n a) ∧ (b.accHeld c d n a).cur.accs = s.cur.accs ∧
      (b.accHeld c d n a).cur.accOps = s.cur.accOps ++ [(c, d.toNat, n, a)] := by
  refine ⟨State.setCtx_held (congrArg Cur.ctxs h) c 0x3B d, ?_, ?_⟩
  · change b.cur.accs = _
    rw [h]
  · change b.cur.accOps ++ _ = _
    rw [h]

theorem State.accBegin_holds (s : State) (c : Nat) (d : BitVec 5) (n : Nat) (a : Acc) :
    s.Held c 0x3B d (s.accBegin c d n a) ∧ (s.accBegin c d n a).cur.accs = s.cur.accs ∧
      (s.accBegin c d n a).cur.accOps = s.cur.accOps ++ [(c, d.toNat, n, a)] :=
  State.accHeld_holds (State.cur_pageWrite (s.setLed { s.led with accSeq := s.led.accSeq + 1 })
    (1280 + (s.led.accSeq + 1) % 1024) none (.acc c) false) c d n a

/-- A command that begins an accession operation. -/
theorem answers_accBegin {i : Instr} {s u : State} {c n : Nat} {d : BitVec 5} {a : Acc}
    (hexec : exec i s = .next (u.accBegin c d n a)) : Answers i s fun t => u.Held c 0x3B d t ∧ t.cur.accs = u.cur.accs ∧
      t.cur.accOps = u.cur.accOps ++ [(c, d.toNat, n, a)] :=
  answers_of_exists ⟨_, hexec, u.accBegin_holds c d n a⟩

theorem exec_acinfo (c : Fin 256) (d a b : BitVec 5) (s : State) : exec (.acinfo c d a b) s = execAcinfo c d a b s := rfl
theorem exec_acdelete (c : Fin 256) (d a : BitVec 5) (s : State) : exec (.acdelete c d a) s = execAcdelete c d a s := rfl

/-! ACCREATE (R274). -/

/-- What ACCREATE does with the descriptor it has read. -/
def State.accCreate (c : Nat) (d : BitVec 5) (x : Ctx) (s : State) (l : Line) : State :=
  if s.accBadRange (wordAt l 0) (wordAt l 1) (wordAt l 2) then s.setAndGo c x d 1 0x3B
  else match s.hmacKey (wordAt l 3 % 64), s.accFree with
    | none, _ => s.setAndGo c x d 3 0x3B
    | some _, none => s.setAndGo c x d 2 0x3B
    | some kp, some n => s.accBegin c d n { Acc.init with
        st := .open, region := s.regionNo (s.glOf (wordAt l 0 / 64)), provkey := wordAt l 3 % 64, base := wordAt l 0 / 16384
        limit := wordAt l 1, maxsegs := wordAt l 2, created := s.now
        link := genesis kp n s.now (wordAt l 0) (wordAt l 1) }

theorem exec_accreate (c : Fin 256) (d a : BitVec 5) (ext : Ext) (s : State) :
    exec (.accreate c d a ext) s = execAccreate c d a ext s := rfl

theorem execAccreate_eq (c : Fin 256) (d a : BitVec 5) (ext : Ext) (s : State) : execAccreate c d a ext s =
    .next (s.fenced c (fun x => s.withLine c 0x3B (x.reg a).toNat ext (State.accCreate c d x))) := rfl

section
variable {c : Fin 256} {d a : BitVec 5} {ext : Ext} {l : Line} {s u : State}
  (h : s.Names c ((s.ctx c).reg a).toNat ext l u)
include h

theorem accreate_runs : exec (.accreate c d a ext) s = .next (State.accCreate c d (s.ctx c) u l) := by
  rw [exec_accreate, execAccreate_eq, State.fenced_of_drained h.1.1 h.1.2, State.withLine_of_names h]

theorem accreate_creates {kp : Bytes} {n : Nat} (hrange : u.accBadRange (wordAt l 0) (wordAt l 1) (wordAt l 2) = false)
    (hkey : u.hmacKey (wordAt l 3 % 64) = some kp) (hfree : u.accFree = some n) :
    ∃ e : Acc, exec (.accreate c d a ext) s = .next (u.accBegin c d n e) ∧ e.st = .open ∧ e.base = wordAt l 0 / 16384 ∧
      e.limit = wordAt l 1 ∧ e.maxsegs = wordAt l 2 ∧ e.provkey = wordAt l 3 % 64 ∧ e.created = u.now ∧ e.sealed = 0 ∧
      e.segments = 0 := by
  rw [accreate_runs h, State.accCreate, hrange, hkey, hfree]
  exact ⟨_, rfl, rfl, rfl, rfl, rfl, rfl, rfl, rfl, rfl⟩

theorem accreate_badRange (hrange : u.accBadRange (wordAt l 0) (wordAt l 1) (wordAt l 2) = true) :
    exec (.accreate c d a ext) s = .next (u.setAndGo c (s.ctx c) d 1 0x3B) := by
  rw [accreate_runs h, State.accCreate, if_pos hrange]
end

/-! ACINFO (R275). -/

section
variable {c : Fin 256} {d a b : BitVec 5} {s : State} (h : s.Served c) (halign : ((s.ctx c).reg b).toNat % 64 = 0)
  (haddr : addrFault [(((s.ctx c).reg b).toNat, 64), (((s.ctx c).reg b).toNat + 64, 64)] = none)
include h halign haddr

theorem acinfo_copies {l0 l1 : Line} (hnum : ((s.ctx c).reg a).toNat < 65536)
    (hl0 : lineOfWords ((List.range 8).map (s.acc ((s.ctx c).reg a).toNat).word) = l0)
    (hl1 : lineOfWords ((List.range 8).map fun w => (s.acc ((s.ctx c).reg a).toNat).word (8 + w)) = l1)
    (hfirst : s.Accepts c (((s.ctx c).reg b).toNat / 64) l0)
    (hsecond : (s.afterWrite c (((s.ctx c).reg b).toNat / 64) l0).Accepts c (((s.ctx c).reg b).toNat / 64 + 1) l1) :
    Answers (.acinfo c d a b) s fun t => ((s.afterWrite c (((s.ctx c).reg b).toNat / 64) l0).afterWrite c
      (((s.ctx c).reg b).toNat / 64 + 1) l1).Sets c d 0 t := by
  obtain ⟨v0, h0⟩ := State.devWrite_of_accepts hfirst
  obtain ⟨v1, h1⟩ := State.devWrite_of_accepts hsecond
  refine answers_sets ?_ (State.setAndGo_sets_of_running hsecond.2.1 d 0 0x3B)
  simp only [exec_acinfo, execAcinfo, State.fenced_of_drained h.1 h.2, halign, haddr, ne_eq, not_true_eq_false, if_false,
    if_neg (Nat.not_le.mpr hnum), hl0, hl1, h0, h1]

theorem acinfo_noEntry (hnum : 65536 ≤ ((s.ctx c).reg a).toNat) : Answers (.acinfo c d a b) s fun t => s.Sets c d 5 t := by
  refine answers_sets ?_ (State.setAndGo_of_served h d 5 0x3B)
  simp only [exec_acinfo, execAcinfo, State.fenced_of_drained h.1 h.2, halign, haddr, ne_eq, not_true_eq_false, if_false, hnum,
    if_true]
end

/-! ACDELETE (R275). -/

section
variable {c : Fin 256} {d a : BitVec 5} {s : State} (h : s.Served c)
include h

theorem acdelete_noEntry (hfree : 65536 ≤ ((s.ctx c).reg a).toNat ∨ (s.acc ((s.ctx c).reg a).toNat).st = .free) :
    Answers (.acdelete c d a) s fun t => s.Sets c d 5 t := by
  refine answers_sets ?_ (State.setAndGo_of_served h d 5 0x3B)
  simp only [exec_acdelete, execAcdelete, State.fenced_of_drained h.1 h.2, hfree, if_true]

variable (hnum : ((s.ctx c).reg a).toNat < 65536) (hopen : (s.acc ((s.ctx c).reg a).toNat).st = .open)
  (hno : s.cur.accOps.any (fun o => decide (o.2.2.1 = ((s.ctx c).reg a).toNat)) = false)
include hnum hopen hno

theorem acdelete_deletes (hempty : (s.acc ((s.ctx c).reg a).toNat).segments = 0) :
    exec (.acdelete c d a) s = .next (s.accBegin c d ((s.ctx c).reg a).toNat Acc.init) := by
  simp only [exec_acdelete, execAcdelete, State.fenced_of_drained h.1 h.2, hopen, hno, hempty, Nat.not_le.mpr hnum,
    reduceCtorEq, or_self, Nat.lt_irrefl, Bool.false_eq_true, if_false]

theorem acdelete_sealed (hsome : 0 < (s.acc ((s.ctx c).reg a).toNat).segments) :
    Answers (.acdelete c d a) s fun t => s.Sets c d 4 t := by
  refine answers_sets ?_ (State.setAndGo_of_served h d 4 0x3B)
  simp only [exec_acdelete, execAcdelete, State.fenced_of_drained h.1 h.2, hopen, hno, hsome, Nat.not_le.mpr hnum,
    reduceCtorEq, or_self, true_or, Bool.false_eq_true, if_false, if_true]
end

/-- Settles O24: each command's conditions decide which branch of it runs, and the lemma on that branch says what it leaves. -/
theorem accessionInstructionsRun : Obligations.AccessionInstructionsRun := by
  unfold Obligations.AccessionInstructionsRun
  refine ⟨?create, ?badRange, ?info, ?infoNone, ?deleteNone, ?delete, ?deleteSealed⟩
  case create =>
    intro c d a ext l kp n u s h hrange hkey hfree
    obtain ⟨e, hbegin, hentry⟩ := accreate_creates h hrange hkey hfree (d := d)
    obtain ⟨t, hexec, hheld, haccs, hops⟩ := answers_accBegin hbegin
    exact ⟨t, hexec, hheld, haccs, e, hops, hentry⟩
  case badRange => exact fun c d a ext l u s h hrange => answers_sets (accreate_badRange h hrange) (State.setAndGo_of_names h d 1 _)
  case info =>
    exact fun c d a b s h halign haddr hnum hfirst hsecond => acinfo_copies h halign haddr hnum rfl rfl hfirst hsecond
  case infoNone => exact fun c d a b s h halign haddr hnum => acinfo_noEntry h halign haddr hnum
  case deleteNone => exact fun c d a s h hfree => acdelete_noEntry h hfree
  case delete =>
    exact fun c d a s h hnum hopen hempty hno => answers_accBegin (acdelete_deletes h hnum hopen hno hempty)
  case deleteSealed => exact fun c d a s h hnum hsome hopen hno => acdelete_sealed h hnum hopen hno hsome

end Sys2Proof.Machine
end

section
/-! SUPPORT. The administrative instructions: key slots, regions and management registers (R45 to R54, R262, R282 to R284,
R373 to R377). -/

set_option Elab.async false

namespace Sys2Proof.Machine

/-! The privilege floor (R237). -/

/-- A GUEST may not run an instruction of the stewards. -/
theorem answers_guestFaults {i : Instr} {s : State} {c major : Nat} {run : Ctx → State} (h : s.Served c)
    (hguest : (s.ctx c).priv = .guest) (hexec : exec i s = .next (s.floor c .steward major run)) :
    Answers i s fun t => s.Faults c fltPriv 0 t := by
  have hfault : s.floor c .steward major run = s.faultNow c fltPriv 0 major 0 := by
    rw [State.floor, State.fenced_of_drained h.1 h.2, hguest, if_pos (by decide)]
  exact answers_of_exists ⟨_, hexec.trans (congrArg _ hfault), s.faultNow_faults c fltPriv 0 major 0⟩

/-! Key slots (R283, R373 to R377). -/

/-- A key operation is noted and holds its context; the slots are as they were until its commit. -/
theorem State.keyBegin_holds (s : State) (c : Nat) (d : BitVec 5) (slot : Nat) (new : Option KeySlot) :
    s.Held c 0x3C d (s.keyBegin c d slot new) ∧ (s.keyBegin c d slot new).slots = s.slots ∧
      (s.keyBegin c d slot new).keyOps = s.keyOps ++ [⟨c, d.toNat, slot, new⟩] := by
  obtain ⟨q, hq⟩ := s.pageWrite_led (8 + slot) none (.key slot) false
  unfold State.keyBegin
  rw [hq]
  exact ⟨State.setCtx_held rfl c 0x3C d, rfl, rfl⟩

/-- A command that begins the only key operation. -/
theorem answers_keyBegin {i : Instr} {s u : State} {c slot : Nat} {d : BitVec 5} {new : Option KeySlot} (hnone : u.keyOps = [])
    (hexec : exec i s = .next (u.keyBegin c d slot new)) : Answers i s fun t => u.Held c 0x3C d t ∧ t.slots = u.slots ∧
      t.keyOps = [⟨c, d.toNat, slot, new⟩] := by
  obtain ⟨hheld, hslots, hops⟩ := u.keyBegin_holds c d slot new
  exact answers_of_exists ⟨_, hexec, hheld, hslots, by rw [hnone] at hops; exact hops⟩

theorem exec_keyset (c : Fin 256) (d a b : BitVec 5) (ext : Ext) (s : State) :
    exec (.keyset c d a b ext) s = execKeyset c d a b ext s := rfl
theorem exec_keyclr (c : Fin 256) (d a : BitVec 5) (s : State) : exec (.keyclr c d a) s = execKeyclr c d a s := rfl

/-- A key that comes with its descriptor (R283). -/
theorem State.keyFrom_given {s : State} {slot : Nat} {l : Line} {ty : KeyType} (hsource : wordAt l 0 / 2 ^ 56 = 0)
    (htype : keyTypeOf (wordAt l 0 / 2 ^ 48 % 256) = some ty) (hfree : s.slotInUse slot = false) :
    s.keyFrom slot l = .inr (⟨ty, 0, BitVec.ofNat 256 (bytesAt l 16 ty.size)⟩, s) := by
  simp only [State.keyFrom, htype, hsource, hfree, Bool.false_eq_true, if_false, Nat.not_lt_zero, Nat.zero_ne_one, false_and,
    or_self, if_true]

/-- A descriptor with an undefined source or type is refused (R283). -/
theorem State.keyFrom_bad {s : State} {slot : Nat} {l : Line}
    (hbad : 2 < wordAt l 0 / 2 ^ 56 ∨ keyTypeOf (wordAt l 0 / 2 ^ 48 % 256) = none) : s.keyFrom slot l = .inl 1 := by
  unfold State.keyFrom
  dsimp only
  split
  · rfl
  · next ty hty =>
    rw [if_pos (.inl (hbad.resolve_right fun hnone => Option.some_ne_none ty (hty.symm.trans hnone)))]

section
variable {c : Fin 256} {d a b : BitVec 5} {ext : Ext} {l : Line} {s u : State}
  (h : s.Names c ((s.ctx c).reg b).toNat ext l u) (hpriv : 1 ≤ (s.ctx c).priv.code) (hnone : u.keyOps = [])
include h hpriv hnone

theorem keyset_begins {k : KeySlot} (hkey : u.keyFrom (((s.ctx c).reg a).toNat % 64) l = .inr (k, u)) :
    exec (.keyset c d a b ext) s = .next (u.keyBegin c d (((s.ctx c).reg a).toNat % 64) (some k)) := by
  simp only [exec_keyset, execKeyset, State.floor_of_priv h.1 (low := .steward) hpriv, State.withLine_of_names h, hnone, hkey,
    ne_eq, not_true_eq_false, if_false]

theorem keyset_refused {st : Nat} (hkey : u.keyFrom (((s.ctx c).reg a).toNat % 64) l = .inl st) :
    exec (.keyset c d a b ext) s = .next (u.setAndGo c (s.ctx c) d (BitVec.ofNat 64 st) 0x3C) := by
  simp only [exec_keyset, execKeyset, State.floor_of_priv h.1 (low := .steward) hpriv, State.withLine_of_names h, hnone, hkey,
    ne_eq, not_true_eq_false, if_false]
end

section
variable {c : Fin 256} {d a : BitVec 5} {s : State} (h : s.Served c) (hpriv : 1 ≤ (s.ctx c).priv.code) (hnone : s.keyOps = [])
include h hpriv hnone

theorem keyclr_begins (hfree : s.slotInUse (((s.ctx c).reg a).toNat % 64) = false) :
    exec (.keyclr c d a) s = .next (s.keyBegin c d (((s.ctx c).reg a).toNat % 64) none) := by
  simp only [exec_keyclr, execKeyclr, State.floor_of_priv h (low := .steward) hpriv, hnone, hfree, ne_eq, not_true_eq_false,
    Bool.false_eq_true, if_false]

theorem keyclr_inUse (huse : s.slotInUse (((s.ctx c).reg a).toNat % 64) = true) :
    exec (.keyclr c d a) s = .next (s.setAndGo c (s.ctx c) d 2 0x3C) := by
  simp only [exec_keyclr, execKeyclr, State.floor_of_priv h (low := .steward) hpriv, hnone, huse, ne_eq, not_true_eq_false,
    if_false, if_true]
end

/-! Regions (R45 to R54, R282). -/

/-- A region operation is noted and holds its context; the table is as it was until its commit. -/
theorem State.rgnBegin_holds (s : State) (c : Nat) (d : BitVec 5) (kind : RgnKind) (n : Nat) (new : Region) (adjusted : Bool) :
    s.Held c 0x3C d (s.rgnBegin c d kind n new adjusted) ∧ (s.rgnBegin c d kind n new adjusted).regions = s.regions ∧
      (s.rgnBegin c d kind n new adjusted).rops.map RgnOp.new = s.rops.map RgnOp.new ++ [new] := by
  let o : RgnOp := ⟨kind, n, some c, s.region n, new, adjusted, false, 0, [], false, false, false⟩
  obtain ⟨q, hq⟩ := ({ s with rops := s.rops ++ [o] } : State).pageWrite_led (256 + n / 8) none (.region n) false
  have heq : s.rgnBegin c d kind n new adjusted =
      ({ s with rops := s.rops ++ [o], led := q } : State).setCtx c { s.ctx c with hold := .op 0x3C d } := by
    unfold State.rgnBegin
    dsimp only
    rw [hq]
    rfl
  rw [heq]
  exact ⟨State.setCtx_held rfl c 0x3C d, rfl, List.map_append⟩

/-- A command that begins a region operation. -/
theorem answers_rgnBegin {i : Instr} {s u : State} {c n : Nat} {d : BitVec 5} {kind : RgnKind} {new : Region} {adjusted : Bool}
    (hexec : exec i s = .next (u.rgnBegin c d kind n new adjusted)) : Answers i s fun t => u.Held c 0x3C d t ∧
      t.regions = u.regions ∧ t.rops.map RgnOp.new = u.rops.map RgnOp.new ++ [new] :=
  answers_of_exists ⟨_, hexec, u.rgnBegin_holds c d kind n new adjusted⟩

/-- A refused region operation writes its status, and none is noted. -/
theorem answers_rgnRefuse {i : Instr} {s u : State} {c code : Nat} {d : BitVec 5} (hst : (u.ctx c).st = .running)
    (hexec : exec i s = .next (u.rgnRefuse c d code)) :
    Answers i s fun t => u.Sets c d (BitVec.ofNat 64 code) t ∧ t.rops = u.rops := by
  have hsets := (State.setAndGo_sets_of_running hst d (BitVec.ofNat 64 code) 0x3C).counted s.tcnt
  exact answers_of_exists ⟨_, hexec, hsets, hsets.2.2 .rops (by decide)⟩

theorem exec_rgncreate (c : Fin 256) (d a : BitVec 5) (ext : Ext) (s : State) :
    exec (.rgncreate c d a ext) s = execRgncreate c d a ext s := rfl
theorem exec_rgnchange (c : Fin 256) (d a : BitVec 5) (ext : Ext) (s : State) :
    exec (.rgnchange c d a ext) s = execRgnchange c d a ext s := rfl
theorem exec_rgndelete (c : Fin 256) (d a : BitVec 5) (s : State) : exec (.rgndelete c d a) s = execRgndelete c d a s := rfl

section
variable {c : Fin 256} {d a : BitVec 5} {ext : Ext} {l : Line} {s u : State} (h : s.Names c ((s.ctx c).reg a).toNat ext l u)
  (hpriv : 1 ≤ (s.ctx c).priv.code)
include h hpriv

theorem rgncreate_runs : exec (.rgncreate c d a ext) s = .next (u.rgnCreate c d l) := by
  simp only [exec_rgncreate, execRgncreate, State.floor_of_priv h.1 (low := .steward) hpriv, State.withLine_of_names h]

theorem rgnchange_runs : exec (.rgnchange c d a ext) s = .next (u.rgnChange c d l) := by
  simp only [exec_rgnchange, execRgnchange, State.floor_of_priv h.1 (low := .steward) hpriv, State.withLine_of_names h]
end

section
variable {c : Nat} {d : BitVec 5} {l : Line} {u : State} (hop : u.rgnOp (bitsOf (wordAt l 0) 61 50) = none)
  (hbusy : u.keyBusy (fixKeyslot (attrOfWord (wordAt l 2)).keyslot) = false)
include hop hbusy

/-- A create that its checks pass (R45). -/
theorem State.rgnCreate_begins (hnum : bitsOf (wordAt l 0) 61 50 ≠ 0)
    (hfree : (u.region (bitsOf (wordAt l 0) 61 50)).st = .free) (hsize : bitsOf (wordAt l 1) 18 0 ≠ 0)
    (hfit : bitsOf (wordAt l 0) 42 24 + bitsOf (wordAt l 1) 18 0 ≤ 458752)
    (hclear : u.rgnOverlaps (bitsOf (wordAt l 0) 42 24) (bitsOf (wordAt l 1) 18 0) = false)
    (hkey : u.rgnNoKeyAt (fixKeyslot (attrOfWord (wordAt l 2)).keyslot) = false) : ∃ adjusted, u.rgnCreate c d l =
      u.rgnBegin c d .create (bitsOf (wordAt l 0) 61 50) ⟨.live, bitsOf (wordAt l 0) 42 24, bitsOf (wordAt l 1) 18 0, 0,
        (attrOfWord (wordAt l 2)).resolve (bitsOf (wordAt l 0) 61 50), 0⟩ adjusted := by
  refine ⟨decide ((attrOfWord (wordAt l 2)).resolve (bitsOf (wordAt l 0) 61 50) ≠ attrOfWord (wordAt l 2)), ?_⟩
  simp only [State.rgnCreate, hop, hbusy, hnum, hfree, hsize, Nat.not_lt.mpr hfit, hclear, hkey, Option.isSome_none,
    Bool.false_eq_true, ne_eq, not_true_eq_false, or_self, if_false]

theorem State.rgnCreate_inUse
    (hused : bitsOf (wordAt l 0) 61 50 = 0 ∨ (u.region (bitsOf (wordAt l 0) 61 50)).st ≠ .free) :
    u.rgnCreate c d l = u.rgnRefuse c d rgnInUse := by
  simp only [State.rgnCreate, hop, hbusy, hused, Option.isSome_none, Bool.false_eq_true, or_self, if_false, if_true]

/-- A change that its checks pass (R47, R48). -/
theorem State.rgnChange_begins (hlive : (u.region (bitsOf (wordAt l 0) 61 50)).st = .live)
    (hkey : u.rgnNoKeyAt (fixKeyslot (attrOfWord (wordAt l 2)).keyslot) = false)
    (hlight : ((attrOfWord (wordAt l 2)).resolve (bitsOf (wordAt l 0) 61 50)).light =
      (u.region (bitsOf (wordAt l 0) 61 50)).attr.light)
    (happend : ((attrOfWord (wordAt l 2)).resolve (bitsOf (wordAt l 0) 61 50)).append =
      (u.region (bitsOf (wordAt l 0) 61 50)).attr.append)
    (hslot : ((attrOfWord (wordAt l 2)).resolve (bitsOf (wordAt l 0) 61 50)).keyslot =
      (u.region (bitsOf (wordAt l 0) 61 50)).attr.keyslot)
    (hseal : (u.region (bitsOf (wordAt l 0) 61 50)).attr.sealable = false) : ∃ adjusted, u.rgnChange c d l =
      u.rgnBegin c d .change (bitsOf (wordAt l 0) 61 50) { u.region (bitsOf (wordAt l 0) 61 50) with
        attr := (attrOfWord (wordAt l 2)).resolve (bitsOf (wordAt l 0) 61 50)
        gen := ((u.region (bitsOf (wordAt l 0) 61 50)).gen + 1) % 2 ^ 32 } adjusted := by
  refine ⟨decide ((attrOfWord (wordAt l 2)).resolve (bitsOf (wordAt l 0) 61 50) ≠ attrOfWord (wordAt l 2)), ?_⟩
  simp only [State.rgnChange, hop, hbusy, hlive, hkey, hlight, happend, hslot, hseal, Option.isSome_none, Bool.false_eq_true,
    ne_eq, not_true_eq_false, or_self, false_and, if_false]

theorem State.rgnChange_noRegion (hgone : (u.region (bitsOf (wordAt l 0) 61 50)).st ≠ .live) :
    u.rgnChange c d l = u.rgnRefuse c d rgnNoRegion := by
  simp only [State.rgnChange, hop, hbusy, hgone, Option.isSome_none, Bool.false_eq_true, or_self, if_false, ne_eq,
    not_false_eq_true, if_true]
end

section
variable {c : Fin 256} {d a : BitVec 5} {s : State} (h : s.Served c) (hpriv : 1 ≤ (s.ctx c).priv.code)
include h hpriv

theorem rgndelete_begins (hnum : ((s.ctx c).reg a).toNat < 4096) (hzero : ((s.ctx c).reg a).toNat ≠ 0)
    (hop : s.rgnOp ((s.ctx c).reg a).toNat = none) (hlive : (s.region ((s.ctx c).reg a).toNat).st = .live)
    (hseal : s.rgnSealedIn ((s.ctx c).reg a).toNat = false) : exec (.rgndelete c d a) s =
      .next (s.rgnBegin c d .delete ((s.ctx c).reg a).toNat { s.region ((s.ctx c).reg a).toNat with st := .deleting } false) := by
  simp only [exec_rgndelete, execRgndelete, State.floor_of_priv h (low := .steward) hpriv, State.rgnDelete, Nat.mod_eq_of_lt hnum,
    Nat.not_le.mpr hnum, hop, hzero, hlive, hseal, Option.isSome_none, Bool.false_eq_true, ne_eq, not_true_eq_false, if_false]

theorem rgndelete_noRegion (hnum : 4096 ≤ ((s.ctx c).reg a).toNat) :
    exec (.rgndelete c d a) s = .next (s.rgnRefuse c d rgnNoRegion) := by
  simp only [exec_rgndelete, execRgndelete, State.floor_of_priv h (low := .steward) hpriv, State.rgnDelete, hnum, if_true]
end

/-! Management registers (R284). -/

theorem exec_admrd (c : Fin 256) (d a : BitVec 5) (s : State) : exec (.admrd c d a) s = execAdmrd c d a s := rfl
theorem exec_admwr (c : Fin 256) (a b : BitVec 5) (libOk : Bool) (s : State) :
    exec (.admwr c a b libOk) s = execAdmwr c a b libOk s := rfl

theorem regFind_scratch : regFind 0x40 = some (scratchRow, 0) := by decide +kernel

section
variable {c : Fin 256} {d a b : BitVec 5} {s : State} (h : s.Served c)
include h

theorem admrd_reads {r : RegRow} {k : Nat} (hpriv : 1 ≤ (s.ctx c).priv.code) (hoff : ((s.ctx c).reg a).toNat < hstBase)
    (hfind : regFind ((s.ctx c).reg a).toNat = some (r, k)) (hup : s.blockUp ((s.ctx c).reg a).toNat = true) :
    Answers (.admrd c d a) s fun t => s.Sets c d (BitVec.ofNat 64 (s.regWord 4 r k)) t := by
  refine answers_sets ?_ (State.setAndGo_of_served h d _ 0x3C)
  simp only [exec_admrd, execAdmrd, State.floor_of_priv h (low := .steward) hpriv, Nat.not_le.mpr hoff, hfind, hup, if_false,
    if_true]

/-- A write of GBL_SCRATCH takes effect once the instruction has retired. -/
theorem admwr_scratch (libOk : Bool) (hpriv : 1 ≤ (s.ctx c).priv.code) (hoff : ((s.ctx c).reg a).toNat = 0x40)
    (hlock : s.bit D.GBL_CTL_scrlock = false) : Answers (.admwr c a b libOk) s fun t => (t.ctx c).pc = (s.ctx c).pc + 4 ∧
      (t.ctx c).st = .running ∧ t.rd D.GBL_SCRATCH_value = ((s.ctx c).reg b).toNat := by
  let s1 := s.retire c (s.ctx c) ((s.ctx c).pc + 4) 0x3C 0
  have hst := State.running_of_canIssue h.1.1
  have hlock1 : s1.bit D.GBL_CTL_scrlock = false := by
    rw [State.bit, (s.retire_runsOn c _ _ 0x3C 0 hst).2.rd _ _ (by decide)]
    exact hlock
  have hv : ((s.ctx c).reg b).toNat % 2 ^ 64 = ((s.ctx c).reg b).toNat := Nat.mod_eq_of_lt (BitVec.isLt _)
  have hwrite : s1.regWrite 4 0x40 8 (((s.ctx c).reg b).toNat % 2 ^ 64) libOk =
      s1.wr D.GBL_SCRATCH_value ((s.ctx c).reg b).toNat := by
    rw [hv, State.regWrite_scratch_unlocked 4 libOk (BitVec.isLt _) hlock1]
  have hblock : ¬(([3, 6, 7, 8]).contains (0x40 / 0x10000) = true ∧ (s.ctx c).priv ≠ .warden) := fun hg =>
    absurd hg.1 (by decide)
  have hbar : ¬hstBase ≤ 0x40 := by decide
  have hexec : exec (.admwr c a b libOk) s = .next (s1.wr D.GBL_SCRATCH_value ((s.ctx c).reg b).toNat) := by
    rw [← hwrite, exec_admwr, execAdmwr, State.floor_of_priv h (low := .steward) hpriv]
    simp only [hoff, if_neg hblock, if_neg hbar, regFind_scratch]
    rfl
  have hctx : s1.ctx c = { s.ctx c with pc := (s.ctx c).pc + 4, instret := (s.ctx c).instret + 1 } := State.ctx_retire ..
  refine answers_of_exists ⟨_, hexec, congrArg Ctx.pc hctx, (congrArg Ctx.st hctx).trans hst, ?_⟩
  exact (State.rd_wr_same ..).trans hv

/-- Below WARDEN the guarded blocks may not be written (R284). -/
theorem admwr_guarded (libOk : Bool) (hpriv : (s.ctx c).priv = .steward) (hblock : ((s.ctx c).reg a).toNat / 0x10000 = 6) :
    Answers (.admwr c a b libOk) s fun t => s.Faults c fltPriv 0 t := by
  refine answers_of_exists ⟨_, ?_, s.faultNow_faults c fltPriv 0 0x3C 0⟩
  have hfloor : Priv.steward.code ≤ (s.ctx c).priv.code := by rw [hpriv]
  rw [exec_admwr, execAdmwr, State.floor_of_priv h hfloor]
  simp only [hblock, hpriv]
  rfl
end

/-- Settles O25: each command's conditions decide which branch of it runs, and the lemma on that branch says what it leaves. -/
theorem administrativeInstructionsRun : Obligations.AdministrativeInstructionsRun := by
  unfold Obligations.AdministrativeInstructionsRun
  refine ⟨?keyset, ?keysetBad, ?keysetGuest, ?keyclr, ?keyclrInUse, ?create, ?createInUse, ?changeNone, ?change, ?delete,
    ?deleteNone, ?admrd, ?admwr, ?admwrGuarded⟩
  case keyset =>
    exact fun c d a b ext l ty u s h hpriv hnone hsource htype hfree =>
      answers_keyBegin hnone (keyset_begins h hpriv hnone (State.keyFrom_given hsource htype hfree))
  case keysetBad =>
    exact fun c d a b ext l u s h hpriv hnone hbad =>
      answers_sets (keyset_refused h hpriv hnone (State.keyFrom_bad hbad)) (State.setAndGo_of_names h d _ 0x3C)
  case keysetGuest => exact fun c d a b ext s h hguest => answers_guestFaults h hguest (exec_keyset ..)
  case keyclr => exact fun c d a s h hpriv hnone hfree => answers_keyBegin hnone (keyclr_begins h hpriv hnone hfree)
  case keyclrInUse =>
    exact fun c d a s h hpriv hnone huse => answers_sets (keyclr_inUse h hpriv hnone huse) (State.setAndGo_of_served h d 2 _)
  case create =>
    intro c d a ext l u s h hpriv hop hbusy hnum hfree hsize hfit hclear hkey
    obtain ⟨adjusted, hbegin⟩ := State.rgnCreate_begins (c := c) (d := d) hop hbusy hnum hfree hsize hfit hclear hkey
    exact answers_rgnBegin ((rgncreate_runs h hpriv).trans (congrArg _ hbegin))
  case createInUse =>
    intro c d a ext l u s h hpriv hop hbusy hused
    exact answers_rgnRefuse (by rw [State.ctx_of_names h, State.running_of_canIssue h.1.1.1])
      ((rgncreate_runs h hpriv).trans (congrArg _ (State.rgnCreate_inUse hop hbusy hused)))
  case changeNone =>
    intro c d a ext l u s h hpriv hop hbusy hgone
    exact answers_rgnRefuse (by rw [State.ctx_of_names h, State.running_of_canIssue h.1.1.1])
      ((rgnchange_runs h hpriv).trans (congrArg _ (State.rgnChange_noRegion hop hbusy hgone)))
  case change =>
    intro c d a ext l u s h hpriv hop hbusy hlive hkey hlight happend hslot hseal
    obtain ⟨adjusted, hbegin⟩ := State.rgnChange_begins (c := c) (d := d) hop hbusy hlive hkey hlight happend hslot hseal
    exact answers_rgnBegin ((rgnchange_runs h hpriv).trans (congrArg _ hbegin))
  case delete =>
    exact fun c d a s h hpriv hnum hzero hop hlive hseal =>
      answers_rgnBegin (rgndelete_begins h hpriv hnum hzero hop hlive hseal)
  case deleteNone =>
    exact fun c d a s h hpriv hnum => answers_sets (rgndelete_noRegion h hpriv hnum) (State.setAndGo_of_served h d _ 0x3C)
  case admrd => exact fun c d a r k s h => admrd_reads h
  case admwr => exact fun c a b libOk s h => admwr_scratch h libOk
  case admwrGuarded => exact fun c a b libOk s h => admwr_guarded h libOk

end Sys2Proof.Machine
end

section
/-! SUPPORT. The queue instructions (R281), and that a line written for a context leaves the atrium queues as they were. -/

set_option Elab.async false

namespace Sys2Proof.Machine

/-! Lines written in one step (R193, R261). -/

section
variable (s : State)

@[simp] theorem State.touch_aside (gl w : Nat) : (s.touch gl w).aside = s.aside := (rfl)
@[simp] theorem State.filterDel_aside (gl : Nat) : (s.filterDel gl).aside = s.aside := (rfl)
@[simp] theorem State.breachEnd_aside (gl : Nat) (mask : LineMask) (poison : Bool) :
    (s.breachEnd gl mask poison).aside = s.aside := by simp [State.breachEnd]
@[simp] theorem State.checkWrite_aside (gl : Nat) (mask : LineMask) (fl : Flips) : (s.checkWrite gl mask fl).aside = s.aside := by
  unfold State.checkWrite
  split <;> simp
@[simp] theorem State.dropWings_aside (gl : Nat) : (s.dropWings gl).aside = s.aside := by simp [State.dropWings]
@[simp] theorem State.loanCollect_aside (gl : Nat) (drop : Bool) : (s.loanCollect gl drop).aside = s.aside :=
  State.aside_foldl (fun a w => by
    split
    · rfl
    · dsimp only
      (repeat' split) <;> simp) _ _
@[simp] theorem State.loanWrite_aside (gl w : Nat) (d : Line) (mask : LineMask) (p : Bool) :
    (s.loanWrite gl w d mask p).aside = s.aside := by simp [State.loanWrite]
end

theorem State.collect_aside {s t : State} {gl : Nat} (h : s.collect gl = some t) : t.aside = s.aside := by
  unfold State.collect at h
  split at h
  · obtain rfl := Option.some.inj h
    simp
  · exact (State.homeStore_aside h).trans (by simp)

theorem State.writeHome_aside {s t : State} {gl : Nat} {d : Line} {mask : LineMask} {poison zero : Bool}
    (h : s.writeHome gl d mask poison zero = some t) : t.aside = s.aside := by
  obtain ⟨a, ha, ht⟩ := Option.bind_eq_some_iff.mp h
  exact (State.homeStore_aside ht).trans (by simp [State.collect_aside ha])

theorem State.intoHeld_aside {s t : State} {c gl : Nat} {d : Line} {mask : LineMask} {p : Bool}
    (h : s.intoHeld c gl d mask p = some t) : t.aside = s.aside := by
  unfold State.intoHeld at h
  split at h
  · obtain ⟨-, h⟩ := Option.ite_none_right_eq_some.mp h
    rw [← Option.some.inj h, State.loanWrite_aside, State.loanCollect_aside]
  · split at h
    · obtain ⟨-, h⟩ := Option.ite_none_right_eq_some.mp h
      rw [← Option.some.inj h, State.setOut_aside]
    · cases h

theorem State.queues_of_aside {s t : State} (h : t.aside = s.aside) : t.queues = s.queues := (State.parts_of_aside h).2.2.1

/-- A discarded write is logged, and counted where its line is sealed. -/
theorem State.queues_logDiscard (s : State) (gl : Nat) (mask : LineMask) (src : Src) (atomic : Bool) :
    (s.logDiscard gl mask src atomic).queues = s.queues := by
  have hlog (a : State) (code inst aux arg : Nat) : (a.log code inst aux arg).queues = a.queues :=
    State.queues_of_aside (a.log_aside ..)
  unfold State.logDiscard
  dsimp only
  (repeat' split) <;> simp only [hlog, State.setAcc]

theorem State.queues_devWrite {s : State} {c gl : Nat} {d : Line} {mask : LineMask} {src : Src} {zero : Bool} {x : Verdict × State}
    (h : s.devWrite c gl d mask src zero = some x) : x.2.queues = s.queues := by
  have hnow : (s.writeNow gl d mask src zero).2.queues = s.queues := by
    unfold State.writeNow
    split
    · split
      · exact State.queues_of_aside (State.writeHome_aside ‹_›)
      · rfl
    · exact State.queues_logDiscard ..
    all_goals rfl
  unfold State.devWrite at h
  extract_lets s1 at h
  have hcheck : s1.aside = s.aside := s.checkWrite_aside ..
  clear_value s1
  split at h
  · split at h
    · cases h
    · split at h
      · cases h
      · cases h
        exact hnow
  · split at h
    · cases h
      exact State.queues_of_aside (s.log_aside ..)
    · split at h
      · next t ht =>
        cases h
        exact State.queues_of_aside ((State.intoHeld_aside ht).trans hcheck)
      · split at h
        · cases h
        · cases h
          exact State.queues_of_aside ((State.fabSend_aside ..).trans hcheck)

theorem State.queues_afterWrite {s : State} {c gl : Nat} {d : Line} (h : s.Accepts c gl d) :
    (s.afterWrite c gl d).queues = s.queues := by
  obtain ⟨v, hv⟩ := State.devWrite_of_accepts h
  exact State.queues_devWrite hv

/-! Taking an entry (R281). -/

theorem exec_qget (c : Fin 256) (d a b : BitVec 5) (corr : Fin 9) (unc : Bool) (s : State) :
    exec (.qget c d a b corr unc) s = .next (s.qTakeInto c d a b corr unc false) := rfl
theorem exec_qgetw (c : Fin 256) (d a b : BitVec 5) (corr : Fin 9) (unc : Bool) (s : State) :
    exec (.qgetw c d a b corr unc) s = .next (s.qTakeInto c d a b corr unc true) := rfl
theorem exec_qput (c : Fin 256) (d a b : BitVec 5) (ext : Ext) (s : State) :
    exec (.qput c d a b ext) s = execQput c d a b ext s := rfl

section
variable {c : Nat} {d a b : BitVec 5} {s : State} (h : s.Served c)
include h

/-- A queue that is not open to the program (R281). -/
theorem State.qTakeInto_closed (hopen : s.qOpenTo (s.ctx c) ((s.ctx c).reg a).toNat = false) (corr : Nat) (unc wait : Bool) :
    s.qTakeInto c d a b corr unc wait = s.faultNow c fltQAccess ((s.ctx c).reg a).toNat 0x3A 0 := by
  simp only [State.qTakeInto, State.fenced_of_drained h.1 h.2, hopen, if_true]

variable (hopen : s.qOpenTo (s.ctx c) ((s.ctx c).reg a).toNat = true) (hline : lineFault ((s.ctx c).reg b).toNat = none)
include hopen hline

theorem State.qTakeInto_empty (hnone : s.qOn ((s.ctx c).reg a).toNat = false ∨ (s.queue ((s.ctx c).reg a).toNat).vis = [])
    (corr : Nat) (unc wait : Bool) :
    s.qTakeInto c d a b corr unc wait = if wait then s else s.setAndGo c (s.ctx c) d 1 0x3A := by
  simp only [State.qTakeInto, State.fenced_of_drained h.1 h.2, hopen, hline, State.qTake_empty hnone, Bool.true_eq_false, if_false]

variable {e : QEntry} {r : List QEntry} (hon : s.qOn ((s.ctx c).reg a).toNat = true)
  (hvis : (s.queue ((s.ctx c).reg a).toNat).vis = e :: r)
include hon hvis

/-- An entry that cannot be corrected leaves its queue with status 2. -/
theorem State.qTakeInto_bad {unc : Bool} (hbad : unc = true ∨ e.bad = true) (corr : Nat) (wait : Bool) :
    (s.qTake ((s.ctx c).reg a).toNat corr unc).2.Sets c d 2 (s.qTakeInto c d a b corr unc wait) ∧
      ((s.qTakeInto c d a b corr unc wait).queue ((s.ctx c).reg a).toNat).vis = r := by
  obtain ⟨hcur, hqueue⟩ := State.qTake_bad_frame hon hvis hbad corr
  have htaken : (s.qTake ((s.ctx c).reg a).toNat corr unc).1 = .bad := by rw [State.qTake_bad hon hvis hbad]
  have hrun : s.qTakeInto c d a b corr unc wait =
      (s.qTake ((s.ctx c).reg a).toNat corr unc).2.setAndGo c (s.ctx c) d 2 0x3A := by
    simp only [State.qTakeInto, State.fenced_of_drained h.1 h.2, hopen, hline, htaken, Bool.true_eq_false, if_false]
  rw [hrun]
  generalize (s.qTake ((s.ctx c).reg a).toNat corr unc).2 = u at *
  have hctx : u.ctx c = s.ctx c := by rw [State.ctx, State.ctx, hcur]
  have hsets := State.setAndGo_sets_of_running (s := u) (c := c) (by rw [hctx, State.running_of_canIssue h.1.1]) d 2 0x3A
  rw [hctx] at hsets
  exact ⟨hsets, by rw [State.queue_of_queues hsets.2.queues, hqueue]⟩

/-- The oldest entry goes into the line, once that is accepted. -/
theorem State.qTakeInto_entry (hinj : s.NoInj) (hbad : e.bad = false) (corr : Nat) (wait : Bool)
    (haccept : (s.qTake ((s.ctx c).reg a).toNat corr false).2.Accepts c (((s.ctx c).reg b).toNat / 64) e.data) :
    ((s.qTake ((s.ctx c).reg a).toNat corr false).2.afterWrite c (((s.ctx c).reg b).toNat / 64) e.data).Sets c d 0
        (s.qTakeInto c d a b corr false wait) ∧
      ((s.qTakeInto c d a b corr false wait).queue ((s.ctx c).reg a).toNat).vis = r := by
  have htake := State.qTake_entry hon hvis hbad (by rw [State.qInject_noInj hinj]) corr
  have hqueue := s.queue_qLeft ((s.ctx c).reg a).toNat corr r
  rw [htake] at haccept ⊢
  obtain ⟨v, hv⟩ := State.devWrite_of_accepts haccept
  have hrun : s.qTakeInto c d a b corr false wait =
      ((s.qLeft ((s.ctx c).reg a).toNat corr r).afterWrite c (((s.ctx c).reg b).toNat / 64) e.data).setAndGo c
        (((s.qLeft ((s.ctx c).reg a).toNat corr r).afterWrite c (((s.ctx c).reg b).toNat / 64) e.data).ctx c) d 0 0x3A := by
    simp only [State.qTakeInto, State.fenced_of_drained h.1 h.2, hopen, hline, htake, hv, Bool.true_eq_false, if_false]
  rw [hrun]
  have hafter := State.queues_afterWrite haccept
  have hsets := State.setAndGo_sets_of_running haccept.2.1 d 0 0x3A
  refine ⟨hsets, ?_⟩
  rw [State.queue_of_queues (hsets.2.queues.trans hafter), hqueue]
end

/-- An instruction that takes an entry answers what its run leaves, whatever the tally has counted. -/
theorem answers_taken {i : Instr} {s u t : State} {c n : Nat} {d : BitVec 5} {v : Word} {r : List QEntry}
    (hexec : exec i s = .next t) (h : u.Sets c d v t ∧ (t.queue n).vis = r) :
    Answers i s fun t => u.Sets c d v t ∧ (t.queue n).vis = r :=
  answers_of_exists ⟨t, hexec, h.1.counted s.tcnt, h.2⟩

/-! Appending an entry (R281). -/

/-- Whether a queue is open to a program does not change with the read of a line. -/
theorem State.qOpenTo_of_readKept {s u : State} (h : u.readKept = s.readKept) (x : Ctx) (n : Nat) :
    u.qOpenTo x n = s.qOpenTo x n := by
  have hrd (f : FldDesc) (hf : 0x100000 ≤ f.off) : u.rd f n = s.rd f n :=
    State.rd_of_readKept h f n (.inr (by unfold FldDesc.key; omega))
  rw [State.qOpenTo, State.qOpenTo, State.qType, State.qType, hrd D.ATQ_CFG_type (by decide), hrd D.ATQ_CFG_priv (by decide)]

section
variable {c : Fin 256} {d a b : BitVec 5} {ext : Ext} {l : Line} {s u : State}
  (h : s.Names c ((s.ctx c).reg b).toNat ext l u) (hopen : u.qOpenTo (s.ctx c) ((s.ctx c).reg a).toNat = true)
include h hopen

theorem qput_full (hfull : u.qOn ((s.ctx c).reg a).toNat = false ∨ u.qFull ((s.ctx c).reg a).toNat = true) :
    Answers (.qput c d a b ext) s fun t => u.Sets c d 1 t := by
  refine answers_sets ?_ (State.setAndGo_of_names h d 1 0x3A)
  have hopen' := (State.qOpenTo_of_readKept (State.readKept_of_names h) _ _).symm.trans hopen
  simp only [exec_qput, execQput, State.fenced_of_drained h.1.1 h.1.2, hopen', State.withLine_of_names h, hfull, Bool.true_eq_false,
    if_false, if_true]

theorem qput_appends (hon : u.qOn ((s.ctx c).reg a).toNat = true) (hroom : u.qFull ((s.ctx c).reg a).toNat = false) :
    Answers (.qput c d a b ext) s fun t => u.RunsOn c ((s.ctx c).pc + 4) ((s.ctx c).regsWith d 0) t ∧
      (t.queue ((s.ctx c).reg a).toNat).vis = (u.queue ((s.ctx c).reg a).toNat).vis ++
        (u.queue ((s.ctx c).reg a).toNat).held ++ [⟨l, false⟩] ∧
      ∀ k, k ≠ ((s.ctx c).reg a).toNat → t.queue k = u.queue k := by
  have hopen' := (State.qOpenTo_of_readKept (State.readKept_of_names h) _ _).symm.trans hopen
  have hctx := State.ctx_of_names h
  have hexec : exec (.qput c d a b ext) s = .next ((u.qAppend ((s.ctx c).reg a).toNat ⟨l, false⟩ false).setAndGo c
      ((u.qAppend ((s.ctx c).reg a).toNat ⟨l, false⟩ false).ctx c) d 0 0x3A) := by
    simp only [exec_qput, execQput, State.fenced_of_drained h.1.1 h.1.2, hopen', State.withLine_of_names h, hon, hroom,
      Bool.true_eq_false, Bool.false_eq_true, or_self, if_false]
  generalize ((s.ctx c).reg a).toNat = n at *
  have hsame := u.queue_qAppend n ⟨l, false⟩
  have hother (k : Nat) (hk : k ≠ n) := u.queue_qAppend_ne ⟨l, false⟩ hk.symm
  have hcur := u.cur_qAppend n ⟨l, false⟩
  generalize u.qAppend n ⟨l, false⟩ false = w at *
  have hw (k : Nat) : w.ctx k = s.ctx k := by rw [← hctx, State.ctx, State.ctx, hcur]
  obtain ⟨⟨hrun, hpc, hreg, hrest⟩, honly⟩ := State.setAndGo_sets_of_running (s := w) (c := c)
    (by rw [hw, State.running_of_canIssue h.1.1.1]) d 0 0x3A
  have hqueue (k : Nat) := State.queue_of_queues honly.queues k
  refine answers_of_exists ⟨_, hexec, ⟨hrun, hpc.trans (by rw [hw]), fun r => (hreg r).trans (by rw [hw]), fun k hk => ?_⟩, ?_,
    fun k hk => ?_⟩
  · exact (hrest k hk).trans ((hw k).trans (hctx k).symm)
  · exact congrArg AQueue.vis ((hqueue n).trans hsame)
  · exact (hqueue k).trans (hother k hk)
end

/-- Settles O23: each command's conditions decide which branch of it runs, and the lemma on that branch says what it leaves. -/
theorem queueInstructionsRun : Obligations.QueueInstructionsRun := by
  unfold Obligations.QueueInstructionsRun
  refine ⟨?get, ?getw, ?getBad, ?getwBad, ?getNone, ?getwWaits, ?closed, ?put, ?putFull⟩
  case get =>
    exact fun c d a b corr e r s h hinj hopen hline hon hvis hbad haccept =>
      answers_taken (exec_qget ..) (State.qTakeInto_entry h hopen hline hon hvis hinj hbad corr false haccept)
  case getw =>
    exact fun c d a b corr e r s h hinj hopen hline hon hvis hbad haccept =>
      answers_taken (exec_qgetw ..) (State.qTakeInto_entry h hopen hline hon hvis hinj hbad corr true haccept)
  case getBad =>
    exact fun c d a b corr unc e r s h hopen hline hon hvis hbad =>
      answers_taken (exec_qget ..) (State.qTakeInto_bad h hopen hline hon hvis hbad corr false)
  case getwBad =>
    exact fun c d a b corr unc e r s h hopen hline hon hvis hbad =>
      answers_taken (exec_qgetw ..) (State.qTakeInto_bad h hopen hline hon hvis hbad corr true)
  case getNone =>
    exact fun c d a b corr unc s h hopen hline hnone => answers_sets ((exec_qget ..).trans
      (congrArg _ (State.qTakeInto_empty h hopen hline hnone corr unc false))) (State.setAndGo_of_served h d 1 0x3A)
  case getwWaits =>
    exact fun c d a b corr unc s h hopen hline hnone => answers_of_exec ((exec_qgetw c d a b corr unc s).trans
      (congrArg _ (State.qTakeInto_empty h hopen hline hnone corr unc true))) rfl rfl
  case closed =>
    exact fun c d a b corr unc s h hopen => answers_of_exists ⟨_, (exec_qget ..).trans
      (congrArg _ (State.qTakeInto_closed h hopen corr unc false)), s.faultNow_faults c fltQAccess _ 0x3A 0⟩
  case put => exact fun c d a b ext l u s h hopen hon hroom => qput_appends h hopen hon hroom
  case putFull => exact fun c d a b ext l u s h hopen hfull => qput_full h hopen hfull

end Sys2Proof.Machine
end

section
/-! SUPPORT. The steps of a seal (R277 to R280, R386, R399). -/

set_option Elab.async false

namespace Sys2Proof.Machine

theorem exec_sealPathSwitched (acc : Fin 65536) (s : State) : exec (.sealPathSwitched acc) s = execSealPathSwitched acc s := rfl
theorem exec_sealStripesOnMedia (acc : Fin 65536) (s : State) :
    exec (.sealStripesOnMedia acc) s = execSealStripesOnMedia acc s := rfl
theorem exec_sealHashDone (acc : Fin 65536) (dup : Fin 3) (s : State) :
    exec (.sealHashDone acc dup) s = execSealHashDone acc dup s := rfl
theorem exec_sealCommit (acc : Fin 65536) (s : State) : exec (.sealCommit acc) s = execSealCommit acc s := rfl
theorem exec_sealRecordWritten (acc : Fin 65536) (s : State) :
    exec (.sealRecordWritten acc) s = execSealRecordWritten acc s := rfl

/-- Caches that hold nothing have nothing to hand to the stripe builders. -/
theorem State.allToBuilders_of_empty {s : State} (hwl : s.coh.wl = []) (hvit : s.coh.vit = []) (p : Nat → Bool) :
    s.allToBuilders p = s := by
  simp [State.allToBuilders, hwl, hvit]

/-- The builders that hold a line of an accession's pending segment close (Table 9.6, step 3). -/
def State.segmentClosing (s : State) (n : Nat) : State :=
  { s with med := { s.med with builders := s.med.builders.map (fun b =>
    if b.slots.any (fun q => s.inSegment n (s.glOf (q.1 * 256)) || s.inSegment n (s.glOf (q.1 * 256 + 255)))
      then { b with closing := true } else b) } }

theorem State.mem_setSeal {s : State} {x y : Seal} (hy : y ∈ (s.setSeal x).cur.seals) (hacc : y.acc = x.acc) : y = x := by
  obtain ⟨z, -, rfl⟩ := List.mem_map.mp hy
  by_cases hz : z.acc = x.acc
  · rw [if_pos hz]
  · rw [if_neg hz] at hacc
    exact absurd hacc hz

section
variable {acc : Fin 65536} {x : Seal} {s : State} (hseal : s.sealOf acc = some x)
include hseal

/-! Steps 2 and 3 (R277). -/

theorem sealPathSwitched_steps (hrun : s.isFlushing = false) (hstep : x.step = 2)
    (heab : (List.range 4).all (fun k => (s.port k).eab = []) = true) (hloans : s.coh.loans = []) (hgrants : s.coh.grants = [])
    (htxns : s.coh.txns = []) (hwbq : s.coh.wbq = []) (hwl : s.coh.wl = []) (hvit : s.coh.vit = []) :
    exec (.sealPathSwitched acc) s = .next (s.setSeal { x with step := 3 }) := by
  have hbuffered : (List.range 4).any (fun k => (s.port k).eab.any (fun e => s.inSegment acc (lineOf e.ga))) = false := by
    refine List.any_eq_false.mpr fun k hk => ?_
    have hempty : (s.port k).eab = [] := by simpa using List.all_eq_true.mp heab k hk
    simp [hempty]
  have hlent : s.lentWhere (s.inSegment acc) = false := by simp [State.lentWhere, hloans, hgrants]
  have hmove : (s.setSeal { x with step := 3 }).allToBuilders (s.inSegment acc) = s.setSeal { x with step := 3 } :=
    State.allToBuilders_of_empty (s := s.setSeal _) hwl hvit _
  simp only [exec_sealPathSwitched, execSealPathSwitched, hseal, hrun, hstep, hbuffered, hlent, htxns, hwbq, hmove, List.any_nil,
    ne_eq, not_true, Bool.false_eq_true, or_self, if_false]

theorem sealStripesOnMedia_steps (hrun : s.isFlushing = false) (hstep : x.step = 3)
    (hnone : s.coh.chg.any (fun e => s.inSegment acc e.1) = false) :
    exec (.sealStripesOnMedia acc) s = .next (s.setSeal { x with step := 4 }) := by
  simp only [exec_sealStripesOnMedia, execSealStripesOnMedia, hseal, hrun, hstep, hnone, ne_eq, not_true, Bool.false_eq_true,
    or_self, if_false]

/-- While a line of the segment is charged, its builders close. -/
theorem sealStripesOnMedia_closes (hrun : s.isFlushing = false) (hstep : x.step = 3) (hwl : s.coh.wl = []) (hvit : s.coh.vit = [])
    (hsome : s.coh.chg.any (fun e => s.inSegment acc e.1) = true) :
    Answers (.sealStripesOnMedia acc) s fun t => t.med.builders.length = s.med.builders.length ∧ s.Only [.med] t := by
  refine answers_of_exec (t := s.segmentClosing acc) ?_ rfl ⟨List.length_map _, (State.Only.refl s _).med _⟩
  simp only [exec_sealStripesOnMedia, execSealStripesOnMedia, hseal, hrun, hstep, hsome, State.allToBuilders_of_empty hwl hvit,
    ne_eq, not_true, Bool.false_eq_true, or_self, if_false, if_true, State.segmentClosing]
end

/-! Steps 4 and 5: the hash (R386, R399). -/

/-- With no injection armed and no difference found, the comparison leaves everything as it was. -/
theorem State.dupCheck_clean {s : State} (h : s.NoInj) (e : Nat) : s.dupCheck e 0 = (false, s) := by
  simp only [State.dupCheck, State.inject_noInj h, Bool.false_eq_true, if_false, if_true]

/-- A hash over a segment that reads without poison, with the key at hand. -/
theorem State.sealHashed_step {s u : State} {x : Seal} {kp : Bytes} {ls : List (Nat × Line × Bool)}
    (hread : s.devReadAll [] (s.segLines x.acc) = some (ls, u)) (hgood : ls.all (fun e => !e.2.2) = true)
    (hkey : s.hmacKey (s.acc x.acc).provkey = some kp) :
    (s.sealHashed x).cur.accs = s.cur.accs ∧ ∀ y ∈ (s.sealHashed x).cur.seals, y.acc = x.acc → y.step = 6 ∧ y.time = s.now ∧
      y.digest = BitVec.ofNat 256 (ofLe (sha256 (ls.flatMap (fun e => leBytes e.2.1.toNat 64)))) := by
  have hkept : u.readKept = s.readKept := State.devReadAll_readKept hread
  have hcur : u.cur = s.cur := State.cur_of_readKept hkept
  have hnow : u.now = s.now := State.now_of_readKept hkept
  obtain ⟨-, hslots⟩ := State.tables_of_guarded (State.devReadAll_guarded hread)
  have hkey' : u.hmacKey (u.acc x.acc).provkey = some kp := by
    rw [State.acc, hcur, State.hmacKey, hslots]
    exact hkey
  have hclean : (ls.map Prod.snd).any Prod.snd = false := by
    rw [List.any_map, List.any_eq_false]
    intro e he
    simpa using List.all_eq_true.mp hgood e he
  simp only [State.sealHashed, hread, hclean, hkey', Bool.false_eq_true, if_false, State.cur_pageWrite, List.flatMap_map]
  refine ⟨congrArg (·.accs) hcur, fun y hy hacc => ?_⟩
  rw [State.mem_setSeal hy hacc]
  exact ⟨rfl, hnow, rfl⟩

/-- The bit of an engine that is subtracted is clear. -/
theorem testBit_sub_of_testBit {n e : Nat} (h : n.testBit e = true) : (n - 2 ^ e).testBit e = false := by
  rw [Nat.testBit_eq_decide_div_mod_eq, decide_eq_true_iff] at h
  have hdiv : (n - 2 ^ e) / 2 ^ e = n / 2 ^ e - 1 := by simpa using Nat.sub_mul_div n (2 ^ e) 1
  rw [Nat.testBit_eq_decide_div_mod_eq, hdiv, decide_eq_false_iff_not]
  omega

/-- A difference found by the comparison is counted and logged (R386). -/
def State.dupCounted (s : State) : State := (s.addSat D.CIP_DUP_mismatch 1).log E.CIP_DUP_MISMATCH 0 0 0 false

theorem State.dupCounted_cur (s : State) : s.dupCounted.cur = s.cur := (State.near_log (s.addSat D.CIP_DUP_mismatch 1) ..).cur
theorem State.dupCounted_engines (s : State) : s.dupCounted.rd D.CIP_STAT_engines = s.rd D.CIP_STAT_engines :=
  ((State.near_log (s.addSat D.CIP_DUP_mismatch 1) ..).rd _ _ (by decide)).trans (State.rd_wr_ne _ _ _ _ _ _ (by decide))

/-- An engine leaves service, and its work starts again elsewhere (R386). -/
def State.engineOut (s : State) (e : Nat) : State :=
  (((s.wr D.CIP_STAT_engines (s.rd D.CIP_STAT_engines - 2 ^ e)).wr D.CIP_ALARM_engout 1).log E.CIP_ENGINE_OUT 0 0 0).addSat
    D.CIP_DUP_restarts 1

theorem State.engineOut_cur (s : State) (e : Nat) : (s.engineOut e).cur = s.cur :=
  (State.near_log ((s.wr D.CIP_STAT_engines _).wr D.CIP_ALARM_engout 1) ..).cur

theorem State.engineOn_engineOut {s : State} {e : Nat} (h : s.engineOn e = true) : (s.engineOut e).engineOn e = false := by
  have hset : (s.engineOut e).rd D.CIP_STAT_engines = (s.rd D.CIP_STAT_engines - 2 ^ e) % 2 ^ 4 :=
    (State.rd_wr_ne _ _ _ _ _ _ (by decide)).trans (((State.near_log ..).rd _ _ (by decide)).trans
      ((State.rd_wr_ne _ _ _ _ _ _ (by decide)).trans (State.rd_wr_same ..)))
  rw [State.engineOn, hset, Nat.testBit_mod_two_pow, testBit_sub_of_testBit h, Bool.and_false]

/-- A difference on the recomputed result too takes the engine out of service, and nothing of the curator changes. -/
theorem State.dupCheck_engineOut {s : State} {e : Nat} (h : s.NoInj) (hon : s.engineOn e = true) :
    (s.dupCheck e 2).1 = true ∧ (s.dupCheck e 2).2.cur = s.cur ∧ (s.dupCheck e 2).2.engineOn e = false := by
  have hon' : s.dupCounted.engineOn e = true := by rw [State.engineOn, State.dupCounted_engines]; exact hon
  have hcur : (s.dupCounted.engineOut e).cur = s.cur := (State.engineOut_cur ..).trans s.dupCounted_cur
  have hoff := State.engineOn_engineOut hon'
  have hcheck : s.dupCheck e 2 = (true, if s.dupCounted.rd D.CIP_STAT_engines - 2 ^ e = 0
      then (s.dupCounted.engineOut e).wr D.CIP_ALARM_noengine 1 else s.dupCounted.engineOut e) := by
    simp only [State.dupCheck, State.inject_noInj h, State.quarantined, Bool.false_and, Bool.false_eq_true, if_false, or_false,
      OfNat.ofNat_ne_zero, OfNat.ofNat_ne_one]
    rw [State.engineOn, State.dupCounted] at hon'
    rw [if_pos hon']
    rfl
  rw [hcheck]
  split
  · exact ⟨rfl, hcur, (congrArg (Nat.testBit · e) (State.rd_wr_ne _ _ _ _ _ _ (by decide))).trans hoff⟩
  · exact ⟨rfl, hcur, hoff⟩

section
variable {acc : Fin 65536} {x : Seal} {s : State} (hseal : s.sealOf acc = some x)
include hseal

section
variable (hrun : s.isFlushing = false) (hstep : x.step = 4) (hfree : (s.segLines x.acc).all s.lineFree = true)
  (hon : s.engineOn (s.sealEngine x) = true)
include hrun hstep hfree hon

theorem sealHashDone_compares (dup : Fin 3) :
    exec (.sealHashDone acc dup) s = .next (if (s.dupCheck (s.sealEngine x) dup).1 then
      match x.ctx with
      | none => (s.dupCheck (s.sealEngine x) dup).2
      | some c => match (s.dupCheck (s.sealEngine x) dup).2.job c x.desc with
        | some j => (s.dupCheck (s.sealEngine x) dup).2.setJob c
            { j with engine := ((List.range 4).find? (s.dupCheck (s.sealEngine x) dup).2.engineOn).getD 0 }
        | none => (s.dupCheck (s.sealEngine x) dup).2
      else (s.dupCheck (s.sealEngine x) dup).2.sealHashed x) := by
  have hlines : (s.segLines x.acc).any (fun gl => !s.lineFree gl) = false := by
    rw [List.any_eq_false]
    intro gl hgl
    simpa using List.all_eq_true.mp hfree gl hgl
  simp only [exec_sealHashDone, execSealHashDone, hseal, hrun, hstep, hlines, hon, ne_eq, not_true, Bool.false_eq_true,
    Bool.true_eq_false, or_self, if_false]
  split <;> rfl
end

/-! Steps 6 and 7 (R277, R280). -/

theorem sealCommit_steps (hstep : x.step = 6) (hwritten : s.sealWritten acc = true) :
    exec (.sealCommit acc) s = .next (s.setSeal { x with step := 7 }) := by
  simp only [exec_sealCommit, execSealCommit, hseal, hstep, hwritten, and_self, if_true]

/-- The entry takes the segment, and no seal of it is left. -/
theorem sealRecordWritten_ends (hrun : s.isFlushing = false) (hstep : x.step = 7) (hctx : x.ctx = none)
    (hsome : (s.sealFinish x).isSome = true) :
    Answers (.sealRecordWritten acc) s fun t => (t.acc x.acc).st = .open ∧ (t.acc x.acc).sealed = (s.acc x.acc).pending ∧
      (t.acc x.acc).segments = (s.acc x.acc).segments + 1 ∧ (t.acc x.acc).link = x.link ∧ t.sealOf x.acc = none := by
  obtain ⟨t, hfinish⟩ := Option.isSome_iff_exists.mp hsome
  refine answers_of_exists ⟨t, ?_, ?_⟩
  · simp only [exec_sealRecordWritten, execSealRecordWritten, hseal, hstep, hrun, hfinish, and_self, if_true, Option.getD_some]
  · simp only [State.sealFinish, hctx] at hfinish
    obtain ⟨b, -, hb⟩ := Option.bind_eq_some_iff.mp hfinish
    obtain rfl := Option.some.inj hb
    have hentry (q : List Seal) (a : Acc) :
        State.acc { b.setAcc x.acc a with cur := { (b.setAcc x.acc a).cur with seals := q } } x.acc = a :=
      SMap.get_put_same ..
    refine ⟨congrArg Acc.st (hentry ..), congrArg Acc.sealed (hentry ..), congrArg Acc.segments (hentry ..),
      congrArg Acc.link (hentry ..), ?_⟩
    exact List.find?_eq_none.mpr fun y hy => by simpa using (List.mem_filter.mp hy).2
end

/-- Settles O27: each step's conditions decide which branch of its command runs; the reads of the hash leave the curator, and an
engine out of service loses its bit. -/
theorem sealsRun : Obligations.SealsRun := by
  unfold Obligations.SealsRun
  refine ⟨?path, ?stripes, ?closes, ?hash, ?engineOut, ?commit, ?record⟩
  case path =>
    exact fun acc x s hseal hrun hstep heab hloans hgrants htxns hwbq hwl hvit =>
      answers_of_exec (sealPathSwitched_steps hseal hrun hstep heab hloans hgrants htxns hwbq hwl hvit) rfl rfl
  case stripes =>
    exact fun acc x s hseal hrun hstep hnone => answers_of_exec (sealStripesOnMedia_steps hseal hrun hstep hnone) rfl rfl
  case closes =>
    exact fun acc x s hseal hrun hstep hwl hvit hsome => sealStripesOnMedia_closes hseal hrun hstep hwl hvit hsome
  case hash =>
    intro acc x s kp ls u hseal hrun hstep hinj hfree hon hread hgood hkey
    have hexec := sealHashDone_compares hseal hrun hstep hfree hon 0
    rw [show ((0 : Fin 3) : Nat) = 0 from rfl, State.dupCheck_clean hinj, if_neg Bool.false_ne_true] at hexec
    exact answers_of_exists ⟨_, hexec, State.sealHashed_step hread hgood hkey⟩
  case engineOut =>
    intro acc x s hseal hrun hstep hctx hinj hfree hon
    obtain ⟨hout, hcur, hoff⟩ := State.dupCheck_engineOut hinj hon
    have hexec := sealHashDone_compares hseal hrun hstep hfree hon 2
    rw [show ((2 : Fin 3) : Nat) = 2 from rfl, hout, hctx] at hexec
    exact answers_of_exists ⟨_, hexec, hcur, hoff⟩
  case commit =>
    exact fun acc x s hseal _ hstep hwritten => answers_of_exec (sealCommit_steps hseal hstep hwritten) rfl rfl
  case record => exact fun acc x s hseal hrun hstep hctx hsome => sealRecordWritten_ends hseal hrun hstep hctx hsome

end Sys2Proof.Machine
end

section
/-! SUPPORT. The host ports' events: what the reset of a port leaves (R306, R326), and the statement of this family on GPF,
PERST#, the configuration and link training (R97, R303, R304). -/

set_option Elab.async false

namespace Sys2Proof.Machine

/-! The reset of a port (R306). -/

theorem State.ports_foldl {α : Type} {f : State → α → State} (h : ∀ a x, (f a x).ports = a.ports) (l : List α) (s : State) :
    (l.foldl f s).ports = s.ports := by
  induction l generalizing s with
  | nil => rfl
  | cons x l ih => exact (ih _).trans (h s x)

/-- A port as its reset leaves it: its PERST#, its configuration, its early acknowledged writes and its event logs stay. -/
def Port.afterReset (q : Port) : Port :=
  { Port.init with perst := q.perst, loaded := q.loaded, eab := q.eab, logs := q.logs }

/-- The link registers of a port once it is down. -/
def State.linkCleared (s : State) (p : Nat) : State :=
  (((List.range 8).foldl (fun a n => a.wrP D.HST_GBASE_base p 0 n) s).wrP D.HST_STAT_mode p 0 |>.wrP D.HST_STAT_width p 0).wrP
    D.HST_STAT_speed p 0

/-- The link's loss, counted and logged. -/
def State.linkLost (s : State) (p : Nat) : State := (s.addSatP D.HST_ERR_linkdown p 1).log E.GBL_LINK_DOWN 0 0 0

/-- The firmware session of a port that is reset ends with status ABORTED (R502). -/
def State.sessionLost (s : State) (p : Nat) : State :=
  if s.bit D.FWU_XFER_open ∧ s.rd D.FWU_XFER_port = p then
    ((s.wr D.FWU_XFER_open 0).wr D.FWU_STAT_state 0).wr D.FWU_RESULT_status 0x08
  else s

theorem State.portReset_eq (s : State) (p : Nat) : s.portReset p =
    ((((((s.port p).packets.foldl State.dropPacket s).unportWrites p).setPort p (s.port p).afterReset).linkCleared p).linkLost
      p).sessionLost p := rfl

theorem State.ports_sessionLost (s : State) (p : Nat) : (s.sessionLost p).ports = s.ports := by
  unfold State.sessionLost
  split <;> rfl

theorem State.ports_linkCleared (s : State) (p : Nat) : (s.linkCleared p).ports = s.ports :=
  State.ports_foldl (f := fun a n => a.wrP D.HST_GBASE_base p 0 n) (fun _ _ => rfl) _ s

theorem State.ports_linkLost (s : State) (p : Nat) : (s.linkLost p).ports = s.ports := (State.near_log ..).ports

/-- Of the host ports, the reset changes its own alone. -/
theorem State.ports_portReset (s : State) (p : Nat) : (s.portReset p).ports = (s.setPort p (s.port p).afterReset).ports := by
  have hpackets : ((s.port p).packets.foldl State.dropPacket s).ports = s.ports :=
    State.ports_foldl (f := State.dropPacket) (fun _ _ => rfl) _ s
  rw [State.portReset_eq, State.ports_sessionLost, State.ports_linkLost, State.ports_linkCleared]
  exact congrArg (SMap.put Port.init · p (s.port p).afterReset) hpackets

theorem State.port_of_ports {s t : State} (h : t.ports = s.ports) (q : Nat) : t.port q = s.port q := by
  rw [State.port, State.port, h]

theorem State.port_portReset_same (s : State) (p : Nat) : (s.portReset p).port p = (s.port p).afterReset :=
  (State.port_of_ports (s.ports_portReset p) p).trans (s.port_setPort_same p _)

theorem State.port_portReset_ne (s : State) {p q : Nat} (h : q ≠ p) : (s.portReset p).port q = s.port q :=
  (State.port_of_ports (s.ports_portReset p) q).trans (s.port_setPort_ne _ h.symm)

/-! The mode of a port's link. -/

/-- The fields of the HST blocks stand above the window. -/
theorem FldDesc.key_ne_mode {f : FldDesc} {i : Nat} (h : f.key i < 0x2000000 * 64) (p : Nat) :
    f.key i ≠ D.HST_STAT_mode.keyP p 0 := by
  simp only [FldDesc.keyP, D.HST_STAT_mode]
  omega

theorem State.portMode_wr (s : State) {f : FldDesc} {i : Nat} (v p : Nat) (h : f.key i < 0x2000000 * 64 := by decide) :
    (s.wr f v i).portMode p = s.portMode p := s.rdP_wr_ne _ _ _ _ _ _ (f.key_ne_mode h p)

/-- Another field of the port's HST block. -/
theorem State.portMode_wrP (s : State) {f : FldDesc} (p v : Nat) (h : f.key 0 ≠ D.HST_STAT_mode.key 0 := by decide) :
    (s.wrP f p v).portMode p = s.portMode p :=
  s.rdP_wrP_ne _ _ _ _ _ _ _ (by simp only [FldDesc.keyP, FldDesc.key] at *; omega)

theorem State.portMode_log (s : State) (code inst aux arg : Nat) (inj : Bool) (p : Nat) :
    (s.log code inst aux arg inj).portMode p = s.portMode p := State.portMode_of_book (s.near_log code inst aux arg inj).regs p

theorem State.portMode_sessionLost (s : State) (p : Nat) : (s.sessionLost p).portMode p = s.portMode p := by
  unfold State.sessionLost
  split
  · rw [State.portMode_wr, State.portMode_wr, State.portMode_wr]
  · rfl

theorem State.portMode_linkCleared (s : State) (p : Nat) : (s.linkCleared p).portMode p = 0 := by
  rw [State.linkCleared, State.portMode_wrP, State.portMode_wrP]
  exact State.rdP_wrP_same ..

/-- A port that is reset is down. -/
theorem State.portMode_portReset (s : State) (p : Nat) : (s.portReset p).portMode p = 0 := by
  rw [State.portReset_eq, State.portMode_sessionLost, State.linkLost, State.portMode_log, State.addSatP, State.portMode_wrP,
    State.portMode_linkCleared]

/-- What R306 says of a port that is reset, and of the others. -/
def State.PortDown (s : State) (p : Nat) (t : State) : Prop :=
  t.portMode p = 0 ∧ (t.port p).decs = [] ∧ (t.port p).reads = [] ∧ (t.port p).logs = (s.port p).logs ∧
    ∀ q, q ≠ p → t.port q = s.port q

theorem State.portDown_portReset (s : State) (p : Nat) : s.PortDown p (s.portReset p) := by
  rw [State.PortDown, State.port_portReset_same]
  exact ⟨s.portMode_portReset p, rfl, rfl, rfl, fun q hq => s.port_portReset_ne hq⟩

theorem answers_portDown {i : Instr} {s u : State} {p : Nat} (hexec : exec i s = .next u) (h : s.PortDown p u) :
    Answers i s (s.PortDown p) := answers_of_exists ⟨u, hexec, h⟩

/-! The events. -/

theorem exec_hotReset (port : Fin 4) (s : State) : exec (.hotReset port) s = .next (s.portReset port) := rfl
theorem exec_portLinkDown (port : Fin 4) (s : State) :
    exec (.portLinkDown port) s = .next (if s.portMode port = 0 then s else s.portReset port) := rfl
theorem exec_perstAssert (port : Fin 4) (s : State) : exec (.perstAssert port) s = execPerstAssert port s := rfl
theorem exec_portConfigLoaded (port : Fin 4) (s : State) : exec (.portConfigLoaded port) s =
    .next (if (s.port port).perst then s else s.setPort port { s.port port with loaded := true }) := rfl
theorem exec_hostLinkTrained (port : Fin 4) (speed width : Fin 6) (cxl : Bool) (s : State) :
    exec (.hostLinkTrained port speed width cxl) s = execHostLinkTrained port speed width cxl s := rfl

/-- PERST# that is asserted resets its port, which then waits for its configuration. -/
theorem perstAssert_resets {port : Fin 4} {s : State} (h : (s.port port).perst = false) :
    Answers (.perstAssert port) s fun t => (t.port port).perst = true ∧ (t.port port).loaded = false ∧
      (t.port port).decs = [] ∧ (t.port port).latch = none ∧ ∀ q, q ≠ port.val → t.port q = s.port q := by
  have hexec : exec (.perstAssert port) s = .next ((s.portReset port).setPort port
      { (s.portReset port).port port with perst := true, loaded := false }) := by
    simp only [exec_perstAssert, execPerstAssert, h, Bool.false_eq_true, if_false]
  have hsame := s.port_portReset_same port
  have hother {q : Nat} (hq : q ≠ port.val) := s.port_portReset_ne hq
  generalize s.portReset port = u at *
  rw [hsame] at hexec
  have hport := u.port_setPort_same port { (s.port port).afterReset with perst := true, loaded := false }
  exact answers_of_exists ⟨_, hexec, congrArg Port.perst hport, congrArg Port.loaded hport, congrArg Port.decs hport,
    congrArg Port.latch hport, fun q hq => (u.port_setPort_ne _ hq.symm).trans (hother hq)⟩

/-- The speed and width at which a link settles. -/
def State.linkSettled (s : State) (p speed width : Nat) : State :=
  (s.wrP D.HST_STAT_speed p speed).wrP D.HST_STAT_width p width

/-- HST_STAT once a link has settled and its mode is set. -/
theorem State.linkSettled_shows (s : State) (p : Nat) (speed width : Fin 6) {mode : Nat} (hm : mode < 3) :
    ((s.linkSettled p speed width).wrP D.HST_STAT_mode p mode).portMode p = mode ∧
      ((s.linkSettled p speed width).wrP D.HST_STAT_mode p mode).rdP D.HST_STAT_speed p = speed.val ∧
      ((s.linkSettled p speed width).wrP D.HST_STAT_mode p mode).rdP D.HST_STAT_width p = width.val ∧
      s.Only [.regs] ((s.linkSettled p speed width).wrP D.HST_STAT_mode p mode) := by
  have hne {f g : FldDesc} (h : f.key 0 ≠ g.key 0) : f.keyP p 0 ≠ g.keyP p 0 := by
    simp only [FldDesc.keyP, FldDesc.key] at *
    omega
  have hmode : mode % D.HST_STAT_mode.cap = mode := Nat.mod_eq_of_lt (lt_trans hm (by decide))
  have hspeed : speed.val % D.HST_STAT_speed.cap = speed.val := Nat.mod_eq_of_lt (lt_trans speed.isLt (by decide))
  have hwidth : width.val % D.HST_STAT_width.cap = width.val := Nat.mod_eq_of_lt (lt_trans width.isLt (by decide))
  refine ⟨?_, ?_, ?_, s.only_regs _⟩
  · rw [State.portMode, State.rdP_wrP_same, hmode]
  · rw [State.rdP_wrP_ne _ _ _ _ _ _ _ _ (hne (by decide)), State.linkSettled, State.rdP_wrP_ne _ _ _ _ _ _ _ _ (hne (by decide)),
      State.rdP_wrP_same, hspeed]
  · rw [State.rdP_wrP_ne _ _ _ _ _ _ _ _ (hne (by decide)), State.linkSettled, State.rdP_wrP_same, hwidth]

/-- A port that can train comes up at the speed and width found; without CXL it is a PCIe endpoint, which is logged (R303). -/
theorem hostLinkTrained_settles {port : Fin 4} {speed width : Fin 6} (cxl : Bool) {s : State} (htrain : s.canTrain port = true)
    (hspeed : speed.val ≠ 0) (hwidth : width.val ≠ 0) (hlanes : 2 ^ (width.val - 1) ≤ lanesOf s.aon.hpMode port)
    (hdown : s.portMode port = 0) (hrom : s.phase ≠ stRomRecovery) :
    Answers (.hostLinkTrained port speed width cxl) s fun t => t.portMode port = (if cxl ∧ 3 ≤ speed.val then 2 else 1) ∧
      t.rdP D.HST_STAT_speed port = speed.val ∧ t.rdP D.HST_STAT_width port = width.val ∧ s.Only [.regs, .evq] t := by
  have hgo : ¬ (s.canTrain port = false ∨ speed.val = 0 ∨ width.val = 0 ∨ lanesOf s.aon.hpMode port < 2 ^ (width.val - 1) ∨
      s.portMode port ≠ 0) := by
    simp [htrain, hspeed, hwidth, hlanes, hdown]
  have hexec : exec (.hostLinkTrained port speed width cxl) s = if cxl ∧ 3 ≤ speed.val then
      .next ((s.linkSettled port speed width).wrP D.HST_STAT_mode port 2)
      else .next (((s.linkSettled port speed width).wrP D.HST_STAT_mode port 1).log E.GBL_PORT_NOCXL 0 0 0) :=
    (exec_hostLinkTrained ..).trans (if_neg hgo)
  by_cases hcxl : cxl = true ∧ 3 ≤ speed.val
  · obtain ⟨hm, hs, hw, honly⟩ := s.linkSettled_shows port speed width (mode := 2) (by decide)
    exact answers_of_exec (hexec.trans (if_pos hcxl)) rfl ⟨hm.trans (if_pos hcxl).symm, hs, hw, honly.mono (by simp)⟩
  · obtain ⟨hm, hs, hw, honly⟩ := s.linkSettled_shows port speed width (mode := 1) (by decide)
    let u := (s.linkSettled port speed width).wrP D.HST_STAT_mode port 1
    have hphase : u.phase = s.phase := by
      have hne (f : FldDesc) (h : 0x2000000 ≤ f.off) : f.keyP port 0 ≠ D.GBL_STAT_state.key 0 := by
        simp only [FldDesc.keyP, FldDesc.key, D.GBL_STAT_state]
        omega
      rw [State.phase, State.rd_wrP_ne _ _ _ _ _ _ _ (hne _ (by decide)), State.linkSettled,
        State.rd_wrP_ne _ _ _ _ _ _ _ (hne _ (by decide)), State.rd_wrP_ne _ _ _ _ _ _ _ (hne _ (by decide)), State.phase]
    have hlog := (u.log_logged E.GBL_PORT_NOCXL 0 0 0 (hphase ▸ hrom)).2
    have hregs : (u.log E.GBL_PORT_NOCXL 0 0 0).regs = u.regs := hlog .regs (by decide)
    exact answers_of_exec (hexec.trans (if_neg hcxl)) (hlog .tcnt (by decide))
      ⟨(State.rdP_of_regs hregs _ _ _).trans (hm.trans (if_neg hcxl).symm), (State.rdP_of_regs hregs _ _ _).trans hs,
        (State.rdP_of_regs hregs _ _ _).trans hw, (honly.mono (by simp)).trans (hlog.mono (by simp))⟩

/-- A GPF phase is answered on its port. -/
theorem State.setPort_emit_gpf (s : State) (p : Fin 4) (x : Port) (k : Nat) :
    ((s.setPort p x).emit (.gpf p k)).out = .gpf p k :: s.out ∧ s.Only [.ports, .out] ((s.setPort p x).emit (.gpf p k)) :=
  ⟨rfl, (s.setPort_out_frame p x _).2⟩

/-- Settles O29: the events that set a field of their port are each one update; the others are the reset of a port, and a
link that settles. -/
theorem hostPortEvents : Obligations.HostPortEvents := by
  unfold Obligations.HostPortEvents
  refine ⟨?gpf1, ?gpf2, ?perstDeassert, ?loaded, ?trained, ?perstAssert, ?hotReset, ?linkDown⟩
  case gpf1 => exact fun port s => answers_of_exec rfl rfl (s.setPort_emit_gpf port _ 1)
  case gpf2 => exact fun port s => answers_of_exec rfl rfl (s.setPort_emit_gpf port _ 2)
  case perstDeassert =>
    exact fun port s => answers_of_exec rfl rfl ⟨congrArg Port.perst (s.port_setPort_same port { s.port port with perst := false }),
      fun q hq => s.port_setPort_ne _ hq.symm, s.only_ports _⟩
  case loaded =>
    intro port s h
    have hexec : exec (.portConfigLoaded port) s = .next (s.setPort port { s.port port with loaded := true }) := by
      rw [exec_portConfigLoaded, h, if_neg Bool.false_ne_true]
    exact answers_of_exec hexec rfl ⟨congrArg Port.loaded (s.port_setPort_same port { s.port port with loaded := true }),
      fun q hq => s.port_setPort_ne _ hq.symm, s.only_ports _⟩
  case trained =>
    exact fun port speed width cxl s htrain hs hw hlanes hdown hrom => hostLinkTrained_settles cxl htrain hs hw hlanes hdown hrom
  case perstAssert => exact fun port s h => perstAssert_resets h
  case hotReset => exact fun port s => answers_portDown (exec_hotReset port s) (s.portDown_portReset port)
  case linkDown =>
    exact fun port s h => answers_portDown ((exec_portLinkDown port s).trans (congrArg _ (if_neg h))) (s.portDown_portReset port)

end Sys2Proof.Machine
end

section
/-! SUPPORT. A completion record whose queue is not an enabled COMPL queue (R325), and the statement of this family on it. -/

set_option Elab.async false

namespace Sys2Proof.Machine

theorem State.evq_toIdle (s : State) (c : Nat) : (s.toIdle c).evq = s.evq := by
  unfold State.toIdle State.hallFree
  dsimp only
  (repeat' split) <;> rfl

/-- A record that no COMPL queue takes is discarded: CUR_CQ_BAD is logged, no queue changes and the context is IDLE. -/
theorem State.postCall_discards {s : State} {c : Nat} (hbad : s.cqGood (s.ctx c).cq = false) (hrom : s.phase ≠ stRomRecovery) :
    (s.postCall c).queues = s.queues ∧ ((s.postCall c).ctx c).st = .idle ∧ s.Logged E.CUR_CQ_BAD 0 0 0 (s.postCall c) := by
  obtain ⟨hlogged, honly⟩ := s.log_logged E.CUR_CQ_BAD 0 0 0 hrom
  have hpost : s.postCall c = (s.log E.CUR_CQ_BAD 0 0 0).toIdle c := by simp only [State.postCall, hbad, if_true]
  rw [hpost, State.queues_toIdle, State.ctx_toIdle, State.Logged, State.evq_toIdle]
  exact ⟨honly .queues (by decide), rfl, hlogged⟩

/-- At the end of DONE, after the instruction has retired. -/
theorem done_discards {c : Fin 256} {s : State} (hbad : s.cqGood (s.ctx c).cq = false) (h : s.Served c)
    (hrefuse : s.refusing c = false) (hlinks : (s.ctx c).links = []) (hjobs : (s.ctx c).jobs = [])
    (hrom : s.phase ≠ stRomRecovery) : Answers (.done c) s fun t => t.queues = s.queues ∧ (t.ctx c).st = .idle ∧
      ⟨E.CUR_CQ_BAD, 0, 0, 0, s.now, false⟩ ∈ t.evq := by
  let a := s.retire c (s.ctx c) ((s.ctx c).pc + 4) 0x3D 0
  have hctx : a.ctx c = { s.ctx c with pc := (s.ctx c).pc + 4, instret := (s.ctx c).instret + 1 } := State.ctx_retire ..
  have honly : s.CurOnly a := (s.retire_runsOn c _ _ 0x3D 0 (State.running_of_canIssue h.1.1)).2
  have hphase : a.phase = s.phase := honly.rd D.GBL_STAT_state 0 (by decide)
  obtain ⟨hqueues, hidle, hlogged⟩ := State.postCall_discards (s := a) (c := c) (by rw [hctx, honly.cqGood, hbad]) (hphase ▸ hrom)
  refine answers_of_exists ⟨_, (exec_done ..).trans (execDone_posts h hrefuse hlinks hjobs), hqueues.trans honly.queues, hidle, ?_⟩
  change _ ∈ (a.postCall c).evq
  rw [hlogged, honly.now]
  exact List.mem_append_right _ (List.mem_singleton_self _)

/-- When a waiting record is tried again. -/
theorem completionQueueRoom_discards {c : Fin 256} {s : State} (hbad : s.cqGood (s.ctx c).cq = false)
    (hdone : (s.ctx c).donePend = true) (hrom : s.phase ≠ stRomRecovery) :
    Answers (.completionQueueRoom c) s fun t => t.queues = s.queues ∧ (t.ctx c).st = .idle ∧ s.Logged E.CUR_CQ_BAD 0 0 0 t := by
  have hexec : exec (.completionQueueRoom c) s = .next (s.postCall c) := by
    simp only [exec_completionQueueRoom, execCompletionQueueRoom, hdone, hbad, true_or, and_self, if_true]
  exact answers_of_exists ⟨_, hexec, State.postCall_discards hbad hrom⟩

/-- Settles O46: each command comes to post the record, which is discarded. -/
theorem completionQueueNotNamed : Obligations.CompletionQueueNotNamed := by
  unfold Obligations.CompletionQueueNotNamed
  refine ⟨?done, ?room, ?fault⟩
  case done => exact fun c s hbad h hrefuse hlinks hjobs hrom => done_discards hbad h hrefuse hlinks hjobs hrom
  case room => exact fun c s hbad hdone hrom => completionQueueRoom_discards hbad hdone hrom
  case fault =>
    exact fun c f s hbad hst hdone hjobs hsb hf hpriv hrom => answers_of_exists ⟨_, (exec_faultDelivery ..).trans
      (execFaultDelivery_posts false hst hf hpriv hsb hjobs hdone), State.postCall_discards hbad hrom⟩

end Sys2Proof.Machine
end

section
/-! SUPPORT. Two mailbox commands: the breach list before a start has restored it (R10, R95), and a register write whose reply
the tally counts (R312, R514). -/

set_option Elab.async false

namespace Sys2Proof.Machine

/-- A device that starts, before step 10, with port 0 up and a breach range kept from before. -/
def breachKept : State :=
  (({ State.reset with gov := { State.reset.gov with breach := [⟨0, 0, 0, 0, 1⟩] } } : State).wrP D.HST_STAT_mode 0 2).setPort 0
    { Port.init with perst := false, loaded := true }

theorem mboxUp_breachKept : breachKept.mboxUp (0 : Fin 4) = true := by decide +kernel
theorem phase_breachKept : breachKept.phase ≠ stRomRecovery := by decide +kernel
theorem breach_breachKept : breachKept.gov.breach = [⟨0, 0, 0, 0, 1⟩] := rfl

theorem exec_svapelGetBreachList (port : Fin 4) (index : BitVec 16) (s : State) :
    exec (.svapelGetBreachList port index) s = execSvapelGetBreachList port index s := rfl

/-- Before step 10 the command answers PWR_PGBRK alone. -/
theorem svapelGetBreachList_unrestored {port : Fin 4} {s : State} (hup : s.mboxUp port = true) (hrom : s.phase ≠ stRomRecovery)
    (hstep : s.restoredTo < 10) (index : BitVec 16) : exec (.svapelGetBreachList port index) s =
      .next (s.reply port mbOk [s.rd D.PWR_PGBRK_coarse * 2 ^ 12 + s.rd D.PWR_PGBRK_count]) := by
  have hshown : s.breachShown = [] := by rw [State.breachShown, if_pos hstep]
  rw [exec_svapelGetBreachList, execSvapelGetBreachList, State.mailbox_of_up _ _ hup hrom]
  simp [hshown]

/-- Refutes O30: its clause on Get Breach List asks for every range that the device keeps, where a start shows none before its
step 10 has restored them. -/
theorem not_mailboxReportsAnswer : ¬ Obligations.MailboxReportsAnswer := by
  unfold Obligations.MailboxReportsAnswer
  rintro ⟨-, -, -, -, -, -, -, -, -, -, -, -, hlist, -⟩
  obtain ⟨t, ht, ⟨ws, hout, hlen⟩, -⟩ := hlist 0 0 breachKept mboxUp_breachKept phase_breachKept
  rw [svapelGetBreachList_unrestored (port := 0) mboxUp_breachKept phase_breachKept (by decide +kernel)] at ht
  obtain rfl := Host.Outcome.next.inj ht
  obtain rfl : ws = [] := by
    rw [State.reply_eq] at hout
    have hwords := (Out.mbox.inj (List.cons.inj hout).1).2.2
    exact (List.cons.inj hwords).2.symm
  rw [breach_breachKept] at hlen
  exact absurd hlen (by decide)

/-! A register write through the mailbox. -/

/-- Port 0 is up, and the warden's first counter counts completed mailbox commands (event 1). -/
def mailboxCounted : State := (sUp.wr D.TAL_CFG_event 1 288).wr D.TAL_CFG_mode 1 288

theorem mboxUp_mailboxCounted : mailboxCounted.mboxUp (0 : Fin 4) = true := by decide +kernel
theorem portQuiet_mailboxCounted : mailboxCounted.portQuiet (0 : Fin 4) = true := by decide +kernel
theorem phase_mailboxCounted : mailboxCounted.phase ≠ stRomRecovery := by decide +kernel
theorem scrlock_mailboxCounted : mailboxCounted.bit D.GBL_CTL_scrlock = false := by decide +kernel

/-- The reply to a write of GBL_SCRATCH there is counted. -/
theorem reply_mailboxCounted : ((mailboxCounted.wr D.GBL_SCRATCH_value 9).emit (.mbox (0 : Fin 4) mbOk [])).tcnt ≠ mailboxCounted.tcnt := by
  decide +kernel

/-- Refutes O31: its clause on a register write lets no counter of the tally advance and yet asks for the state that sends the
reply, where the tally counts the mailbox command that is completed (R514). -/
theorem not_mailboxChangesAnswer : ¬ Obligations.MailboxChangesAnswer := by
  unfold Obligations.MailboxChangesAnswer
  rintro ⟨-, -, -, -, -, -, -, -, -, -, -, -, hwrite, -⟩
  have hexec := (exec_registerWrite_of_portQuiet (port := 0) 0x40 8 9 true portQuiet_mailboxCounted).trans
    (congrArg _ (State.regWrite_scratch_unlocked (0 : Fin 4) true (v := 9) (by decide) scrlock_mailboxCounted))
  obtain ⟨t, -, heq⟩ := hwrite 0 0x40 8 9 true _ mailboxCounted mboxUp_mailboxCounted phase_mailboxCounted
    portQuiet_mailboxCounted hexec
  exact reply_mailboxCounted (congrArg State.tcnt heq).symm

end Sys2Proof.Machine
end

section
/-! SUPPORT. The windows of the atrium: what a push gathers and appends, what a pop answers, vectors unmasked (R319 to R323,
R327), and the statement of this family on them. -/

set_option Elab.async false

namespace Sys2Proof.Machine

/-! What a command answers of the queues. -/

theorem Answers.imp {i : Instr} {s : State} {P Q : State → Prop} (h : Answers i s P) (hpq : ∀ t, P t → Q t) : Answers i s Q := by
  obtain ⟨t, hexec, hp⟩ := h
  exact ⟨t, hexec, hpq _ hp⟩

/-- One queue changes, and no other. -/
theorem answers_queue {i : Instr} {s u : State} {n : Nat} {q : AQueue} (hexec : exec i s = .next u) (hsame : u.queue n = q)
    (hother : ∀ k, k ≠ n → u.queue k = s.queue k) :
    Answers i s fun t => t.queue n = q ∧ ∀ k, k ≠ n → t.queue k = s.queue k := answers_of_exists ⟨u, hexec, hsame, hother⟩

/-! Pushes (R319, R320). -/

theorem exec_push (port : Fin 4) (queue : Fin 4096) (off : Fin 64) (size : Nat) (data : Line) (s : State) :
    exec (.push port queue off size data) s = execPush port queue off size data s := rfl
theorem exec_pushmore (port : Fin 4) (queue : Fin 4096) (off : Fin 64) (size : Nat) (data : Line) (s : State) :
    exec (.pushmore port queue off size data) s = execPushmore port queue off size data s := rfl

theorem exec_push_of_portQuiet {port : Fin 4} {s : State} (h : s.portQuiet port = true) (queue : Fin 4096) (off : Fin 64)
    (size : Nat) (data : Line) :
    exec (.push port queue off size data) s = .next (s.windowPush port queue false off size data) := by
  rw [exec_push, execPush, if_pos (State.regUp_of_portQuiet h), State.tlpIn_of_portQuiet h]

theorem exec_pushmore_of_portQuiet {port : Fin 4} {s : State} (h : s.portQuiet port = true) (queue : Fin 4096) (off : Fin 64)
    (size : Nat) (data : Line) :
    exec (.pushmore port queue off size data) s = .next (s.windowPush port queue true off size data) := by
  rw [exec_pushmore, execPushmore, if_pos (State.regUp_of_portQuiet h), State.tlpIn_of_portQuiet h]

/-- Bytes before the doorbell gather at their port, for the queue and the window they are written to. -/
theorem State.windowPush_gathers {s : State} {p n off size : Nat} {more : Bool} (hacc : windowAccess off size = true)
    (hrom : s.phase ≠ stRomRecovery) (hoff : off + size < 64) (d : Line) :
    SMap.get 0 ((s.windowPush p n more off size d).port p).gather (n * 2 + b2n more) =
      merge (SMap.get 0 (s.port p).gather (n * 2 + b2n more)) d (maskOf off size) ∧
    (s.windowPush p n more off size d).queues = s.queues := by
  have h : s.windowPush p n more off size d = s.setPort p { s.port p with
      gather := SMap.put 0 (s.port p).gather (n * 2 + b2n more)
        (merge (SMap.get 0 (s.port p).gather (n * 2 + b2n more)) d (maskOf off size)) } := by
    simp only [State.windowPush, hacc, Bool.true_eq_false, hrom, hoff.ne, if_false]
  rw [h, State.port_setPort_same]
  exact ⟨SMap.get_put_same .., rfl⟩

/-- The doorbell is rung with nothing gathered before: the port gathers anew. -/
def State.rung (s : State) (p n : Nat) (more : Bool) : State :=
  s.setPort p { s.port p with gather := SMap.put 0 (s.port p).gather (n * 2 + b2n more) 0 }

/-- A whole entry pushed at once to a queue with room is appended. -/
theorem State.queues_windowPush_whole {s : State} {p n : Nat} {more : Bool} (hrom : s.phase ≠ stRomRecovery)
    (hon : s.qOn n = true) (hroom : s.qFull n = false) (htype : s.qType n ≠ qCompl) (hgather : (s.port p).gather = [])
    (d : Line) : (s.windowPush p n more 0 64 d).queues =
      ((s.rung p n more).qAppend n ⟨merge 0 d fullMask, false⟩ more).queues := by
  have hacc : windowAccess 0 64 = true := by decide
  have hmask : maskOf 0 64 = fullMask := by decide
  have hpush (e : Line) : (s.rung p n more).qPush n e more (decide ((s.rung p n more).qType n ≠ qCompl)) =
      (s.rung p n more).qAppend n ⟨e, false⟩ more := by
    have hon' : (s.rung p n more).qOn n = true := hon
    have hroom' : (s.rung p n more).qFull n = false := hroom
    have htype' : decide ((s.rung p n more).qType n ≠ qCompl) = true := decide_eq_true htype
    simp only [State.qPush, hon', hroom', htype', Bool.true_eq_false, Bool.false_eq_true, or_self, if_false]
  unfold State.windowPush
  rw [if_neg (by simp [hacc]), if_neg hrom]
  dsimp only
  rw [if_pos rfl, hgather, SMap.get_nil, hmask, ← hgather, ← State.rung, hpush]
  split <;> rfl

/-- An entry held in the open packet, no credit threshold being set (R320). -/
theorem State.qAppend_more {s : State} {n : Nat} (hcut : (s.queue n).cut = false) (hct : s.rd D.ATQ_CFG_ct n = 0)
    (e : QEntry) : s.qAppend n e true = s.setQueue n ⟨(s.queue n).vis, (s.queue n).held ++ [e], true, false⟩ := by
  simp only [State.qAppend, hcut, hct, ne_eq, not_true_eq_false, false_and, decide_false, Bool.or_self, Bool.false_eq_true,
    if_true, if_false]

/-! What leaves the device while an entry is taken. -/

theorem State.out_foldl_snd {α β : Type} {f : β × State → α → β × State} (h : ∀ a x, (f a x).2.out = a.2.out) (l : List α)
    (a : β × State) : (l.foldl f a).2.out = a.2.out := by
  induction l generalizing a with
  | nil => rfl
  | cons x l ih => exact (ih _).trans (h a x)

theorem State.out_pick (s : State) (n : Nat) (l : List Nat) : (s.pick n l).2.out = s.out := by
  induction n generalizing s l with
  | zero => rfl
  | succ n ih =>
    rw [State.pick]
    split
    · rfl
    · exact ih ..

theorem State.out_injPositions (s : State) (k unit : Nat) : (s.injPositions k unit).2.out = s.out := by
  unfold State.injPositions
  dsimp only
  split
  · rfl
  · exact s.out_pick ..

theorem State.out_log (s : State) (code inst aux arg : Nat) (inj : Bool) : (s.log code inst aux arg inj).out = s.out :=
  (s.near_log code inst aux arg inj).only .out (by decide)

theorem State.out_injFired (s : State) (k : Nat) : (s.injFired k).out = s.out := by
  unfold State.injFired
  dsimp only
  split <;> exact State.out_log ..

theorem State.out_inject (s : State) (point : Nat) (hit : Nat → Bool) (unit : Nat) : (s.inject point hit unit).2.out = s.out :=
  State.out_foldl_snd (fun a k => ((a.2.injPositions k unit).2.out_injFired k).trans (a.2.out_injPositions k unit)) _ _

theorem State.out_qInject (s : State) (n : Nat) : (s.qInject n).2.out = s.out :=
  State.out_foldl_snd (fun a w => by exact State.out_inject ..) _ _

theorem State.out_qLeft (s : State) (n corr : Nat) (r : List QEntry) : (s.qLeft n corr r).out = s.out := by
  have h := s.out_qInject n
  unfold State.qLeft
  generalize s.qInject n = x at *
  exact h

/-! Pops (R318, R323). -/

theorem exec_pop (port : Fin 4) (queue : Fin 4096) (off : Fin 64) (size : Nat) (corr : Fin 9) (unc : Bool) (s : State) :
    exec (.pop port queue off size corr unc) s = execPop port queue off size corr unc s := rfl

theorem exec_pop_of_portQuiet {port : Fin 4} {s : State} (h : s.portQuiet port = true) (queue : Fin 4096) (off : Fin 64)
    (size : Nat) (corr : Fin 9) (unc : Bool) :
    exec (.pop port queue off size corr unc) s = .next (s.windowPop port queue off size corr unc) := by
  rw [exec_pop, execPop, if_pos (State.regUp_of_portQuiet h), State.tlpIn_of_portQuiet h]

/-- What a pop answers leaves the device. -/
theorem State.emit_pop (s : State) (p q : Nat) (d : Line) (bad : Bool) :
    s.emit (.pop p q d bad) = { s with out := .pop p q d bad :: s.out } := rfl

section
variable {s : State} {p n off size : Nat} (hacc : windowAccess off size = true) (hrom : s.phase ≠ stRomRecovery)
include hacc hrom

/-- Behind byte 0 the window shows the bytes of the entry taken last. -/
theorem State.windowPop_rest (htype : s.qType n ≠ qCall) (hoff : off ≠ 0) (corr : Nat) (unc : Bool) :
    s.windowPop p n off size corr unc = s.emit (.pop p n (merge 0 ((s.port p).pop.getD 0) (maskOf off size)) false) := by
  simp only [State.windowPop, hacc, hrom, htype, hoff, Bool.true_eq_false, or_self, if_false]
end

section
variable {s : State} {p n size : Nat} (hacc : windowAccess 0 size = true) (hrom : s.phase ≠ stRomRecovery)
include hacc hrom

/-- At byte 0 the oldest visible entry is taken. -/
theorem State.windowPop_of_empty (htype : s.qType n ≠ qCall) {corr : Nat} {unc : Bool} {a : State}
    (htake : s.qTake n corr unc = (.empty, a)) : s.windowPop p n 0 size corr unc =
      (a.setPort p { a.port p with pop := none }).emit (.pop p n 0 false) := by
  simp only [State.windowPop, hacc, hrom, htype, Bool.true_eq_false, or_self, if_false, if_true, htake]

theorem State.windowPop_of_bad (htype : s.qType n ≠ qCall) {corr : Nat} {unc : Bool} {a : State}
    (htake : s.qTake n corr unc = (.bad, a)) : s.windowPop p n 0 size corr unc =
      (a.setPort p { a.port p with pop := none }).emit (.pop p n 0 true) := by
  simp only [State.windowPop, hacc, hrom, htype, Bool.true_eq_false, or_self, if_false, if_true, htake]

theorem State.windowPop_of_entry (htype : s.qType n ≠ qCall) {corr : Nat} {unc : Bool} {a : State} {d : Line}
    (htake : s.qTake n corr unc = (.entry d, a)) : s.windowPop p n 0 size corr unc =
      (a.setPort p { a.port p with pop := some d }).emit (.pop p n (merge 0 d (maskOf 0 size)) false) := by
  simp only [State.windowPop, hacc, hrom, htype, Bool.true_eq_false, or_self, if_false, if_true, htake]

/-- A queue that is disabled or shows nothing, or whose entries are calls, answers with zero bytes. -/
theorem State.windowPop_empty (h : s.qOn n = false ∨ (s.queue n).vis = []) (corr : Nat) (unc : Bool) :
    (s.windowPop p n 0 size corr unc).out = .pop p n 0 false :: s.out ∧
      (s.windowPop p n 0 size corr unc).queues = s.queues := by
  by_cases htype : s.qType n = qCall
  · have hnone : s.windowPop p n 0 size corr unc = s.emit (.pop p n 0 false) := by
      simp only [State.windowPop, hacc, htype, Bool.true_eq_false, or_true, if_false, if_true]
    rw [hnone]
    exact ⟨rfl, rfl⟩
  · rw [State.windowPop_of_empty hacc hrom htype (State.qTake_empty h corr unc)]
    exact ⟨rfl, rfl⟩

variable {e : QEntry} {r : List QEntry} (htype : s.qType n ≠ qCall) (hon : s.qOn n = true) (hvis : (s.queue n).vis = e :: r)
include htype hon hvis

/-- An entry that cannot be corrected leaves its queue, and the answer is an error. -/
theorem State.windowPop_bad {unc : Bool} (hbad : unc = true ∨ e.bad = true) (corr : Nat) :
    (s.windowPop p n 0 size corr unc).out.head? = some (.pop p n 0 true) ∧
      ((s.windowPop p n 0 size corr unc).queue n).vis = r ∧ ((s.windowPop p n 0 size corr unc).port p).pop = none := by
  have hqueue := (State.qTake_bad_frame hon hvis hbad corr).2
  have htaken : (s.qTake n corr unc).1 = .bad := by rw [State.qTake_bad hon hvis hbad]
  have htake : s.qTake n corr unc = (.bad, (s.qTake n corr unc).2) := Prod.ext htaken rfl
  rw [State.windowPop_of_bad hacc hrom htype htake]
  generalize (s.qTake n corr unc).2 = a at *
  exact ⟨rfl, congrArg AQueue.vis hqueue, congrArg Port.pop (a.port_setPort_same p { a.port p with pop := none })⟩

/-- A good entry leaves its queue, its bytes are answered, and the port keeps them for the rest of the window. -/
theorem State.windowPop_entry (hbad : e.bad = false) (hinj : (s.qInject n).1.2 = false) (corr : Nat) :
    (s.windowPop p n 0 size corr false).out = .pop p n (merge 0 e.data (maskOf 0 size)) false :: s.out ∧
      (s.windowPop p n 0 size corr false).queue n = { s.queue n with vis := r } ∧
      ((s.windowPop p n 0 size corr false).port p).pop = some e.data := by
  have hout : (s.qLeft n corr r).out = s.out := s.out_qLeft n corr r
  have hqueue := s.queue_qLeft n corr r
  rw [State.windowPop_of_entry hacc hrom htype (State.qTake_entry hon hvis hbad hinj corr)]
  generalize s.qLeft n corr r = a at *
  exact ⟨congrArg _ hout, hqueue, congrArg Port.pop (a.port_setPort_same p { a.port p with pop := some e.data })⟩
end

/-! Vectors unmasked (R327). -/

theorem exec_msixUnmask (port : Fin 4) (vector : Fin 2048) (s : State) :
    exec (.msixUnmask port vector) s = execMsixUnmask port vector s := rfl

/-- The mask and the pending bit of a vector are clear. -/
def State.unmasked (s : State) (p v : Nat) : State :=
  s.setPort p { s.port p with msix := SMap.put MsixVec.init (s.port p).msix v ⟨false, false⟩ }

theorem State.msix_unmasked (s : State) (p v : Nat) :
    SMap.get MsixVec.init ((s.unmasked p v).port p).msix v = ⟨false, false⟩ := by
  rw [State.unmasked, State.port_setPort_same]
  exact SMap.get_put_same MsixVec.init (s.port p).msix v ⟨false, false⟩

/-- A vector that is not masked leaves at once on a link that is up. -/
theorem State.sendMsix_unmasked {s : State} {p : Nat} (hup : s.portMode p ≠ 0) (v : Nat) :
    (s.unmasked p v).sendMsix p v = { s.unmasked p v with out := .msix p v :: s.out } := by
  have hup' : (s.unmasked p v).portMode p ≠ 0 := hup
  simp only [State.sendMsix, hup', State.msix_unmasked, Bool.false_eq_true, if_false]
  rfl

theorem execMsixUnmask_eq (port : Fin 4) (vector : Fin 2048) (s : State) : execMsixUnmask port vector s =
    .next (if (SMap.get MsixVec.init (s.port port).msix vector).pending then
      (s.unmasked port vector).sendMsix port vector else s.unmasked port vector) := rfl

/-- Settles O32: a push at byte 63 appends, and gathers before it; a pop takes the oldest entry, or shows what was taken; a vector
unmasked is sent where it was pending. -/
theorem atriumWindowsRun : Obligations.AtriumWindowsRun := by
  unfold Obligations.AtriumWindowsRun
  refine ⟨?push, ?pushmore, ?gather, ?gatherMore, ?rest, ?bad, ?entry, ?empty, ?unmask, ?pending⟩
  case push =>
    intro port queue data s hq hrom hon hroom htype hgather
    have hexec : exec (.push port queue 0 64 data) s = .next (s.windowPush port queue false 0 64 data) :=
      exec_push_of_portQuiet hq queue 0 64 data
    have hqueue := State.queue_of_queues (State.queues_windowPush_whole (more := false) hrom hon hroom htype hgather data)
    refine (answers_queue hexec ((hqueue queue).trans (State.queue_qAppend ..))
      fun n hn => (hqueue n).trans (State.queue_qAppend_ne _ _ hn.symm)).imp fun t ⟨hsame, hother⟩ => ?_
    rw [hsame]
    exact ⟨rfl, rfl, rfl, hother⟩
  case pushmore =>
    intro port queue data s hq hrom hon hroom htype hgather hcut hct
    have hexec : exec (.pushmore port queue 0 64 data) s = .next (s.windowPush port queue true 0 64 data) :=
      exec_pushmore_of_portQuiet hq queue 0 64 data
    have hqueue (n : Nat) : (s.windowPush port queue true 0 64 data).queue n = ((s.rung port queue true).setQueue queue
        ⟨(s.queue queue).vis, (s.queue queue).held ++ [⟨merge 0 data fullMask, false⟩], true, false⟩).queue n :=
      (State.queue_of_queues (State.queues_windowPush_whole (more := true) hrom hon hroom htype hgather data) n).trans
        (congrArg (State.queue · n) (State.qAppend_more (s := s.rung port queue true) hcut hct _))
    refine (answers_queue hexec ((hqueue queue).trans (State.queue_setQueue_same ..))
      fun n hn => (hqueue n).trans (State.queue_setQueue_ne _ _ hn.symm)).imp fun t ⟨hsame, hother⟩ => ?_
    rw [hsame]
    exact ⟨rfl, rfl, rfl, hother⟩
  case gather =>
    exact fun port queue off size data s hq hacc hoff hrom => answers_of_exists ⟨_, exec_push_of_portQuiet hq queue off size data,
      State.windowPush_gathers hacc hrom hoff data⟩
  case gatherMore =>
    exact fun port queue off size data s hq hacc hoff hrom => answers_of_exists ⟨_,
      exec_pushmore_of_portQuiet hq queue off size data, State.windowPush_gathers hacc hrom hoff data⟩
  case rest =>
    exact fun port queue off size corr unc s hq hacc hrom htype hoff => answers_of_exec
      ((exec_pop_of_portQuiet hq ..).trans (congrArg _ (State.windowPop_rest hacc hrom htype hoff corr unc))) rfl
      ⟨rfl, s.only_out _⟩
  case bad =>
    exact fun port queue size corr unc e r s hq hacc hrom htype hon hvis hbad => answers_of_exists ⟨_,
      exec_pop_of_portQuiet hq queue 0 size corr unc, State.windowPop_bad hacc hrom htype hon hvis hbad corr⟩
  case entry =>
    intro port queue size corr e r s hq hacc hrom htype hon hvis hbad hinj
    have hexec : exec (.pop port queue 0 size corr false) s = .next (s.windowPop port queue 0 size corr false) :=
      exec_pop_of_portQuiet hq queue 0 size corr false
    have hpop := State.windowPop_entry (p := port) hacc hrom htype hon hvis hbad hinj corr
    generalize s.windowPop port queue 0 size corr false = u at *
    obtain ⟨hout, hqueue, hlast⟩ := hpop
    have hvis : (u.queue queue).vis = r := congrArg AQueue.vis hqueue
    have hheld : (u.queue queue).held = (s.queue queue).held := by rw [hqueue]
    exact answers_of_exists ⟨u, hexec, hout, hvis, hheld, hlast⟩
  case empty =>
    exact fun port queue size corr unc s hq hacc hrom h => answers_of_exists ⟨_, exec_pop_of_portQuiet hq queue 0 size corr unc,
      State.windowPop_empty hacc hrom h corr unc⟩
  case unmask =>
    intro port vector s hclear
    have hexec : exec (.msixUnmask port vector) s = .next (s.unmasked port vector) := by
      rw [exec_msixUnmask, execMsixUnmask_eq, hclear, if_neg Bool.false_ne_true]
    exact answers_of_exec hexec rfl ⟨s.msix_unmasked port vector, rfl, s.only_ports _⟩
  case pending =>
    intro port vector s hpend hup
    have hexec : exec (.msixUnmask port vector) s =
        .next { s.unmasked port vector with out := .msix port vector :: s.out } := by
      rw [exec_msixUnmask, execMsixUnmask_eq, hpend, if_pos rfl, State.sendMsix_unmasked hup]
    exact answers_of_exec hexec rfl ⟨s.msix_unmasked port vector, rfl, (s.setPort_out_frame port _ _).2⟩

end Sys2Proof.Machine
end

section
/-! SUPPORT. Writes of a queue page (R317, R320, R326, R327): the register they meet, what ATQ_CFG leaves in its fields, and the
statement of this family on enabling, disabling, resetting, closing and arming a queue. -/

set_option Elab.async false

namespace Sys2Proof.Machine

/-! The registers of a queue page. -/

/-- The fields of ATQ_CFG that a write sets; its enable starts an action and nothing else. -/
def atqCfgSet : List FldDesc :=
  [D.ATQ_CFG_priv, D.ATQ_CFG_type, D.ATQ_CFG_order, D.ATQ_CFG_port, D.ATQ_CFG_vector, D.ATQ_CFG_ct]

/-- The rows of ATQ_CFG and ATQ_CTL. -/
def atqCfgRow : RegRow := ⟨"ATQ_CFG", 0x1000c0, 0x100, 4096, 64, D.ATQ_CFG_enable :: atqCfgSet⟩
def atqCtlRow : RegRow := ⟨"ATQ_CTL", 0x1000d8, 0x100, 4096, 32, [D.ATQ_CTL_reset, D.ATQ_CTL_close, D.ATQ_CTL_arm]⟩

theorem regBlock_atqOff (q : Fin 4096) {d : Nat} (hd : d < 0x100) : regBlock (atqOff q d) = regsAtq := by
  have hq := q.isLt
  have hlo : ¬ atqOff q d < 0x100000 := by unfold atqOff; omega
  have hhi : atqOff q d < 0x200000 := by unfold atqOff; omega
  rw [regBlock, if_neg hlo, if_pos hhi]

/-- A register that has a copy in each queue page is met at its own offset there. -/
theorem RegRow.copy_atqOff {r : RegRow} (hstride : r.stride = 0x100) (hcount : r.count = 4096) (q : Fin 4096) {d : Nat}
    (hr : r.off = 0x100000 + d) : r.copy (atqOff q d) = some q.val := by
  have hq := q.isLt
  have hoff : atqOff q d - r.off = 256 * q := by unfold atqOff; omega
  have hlo : ¬ atqOff q d < r.off := by unfold atqOff; omega
  unfold RegRow.copy
  rw [if_neg hlo, hstride, hcount, if_neg (by decide), hoff]
  dsimp only
  rw [if_pos (by omega)]
  congr 1
  omega

/-- Another register of the page is not met there. -/
theorem RegRow.copy_atqOff_ne {r : RegRow} (hstride : r.stride = 0x100) (q : Fin 4096) {d : Nat} (hd : d < 0x100)
    (hlo : 0x100000 ≤ r.off) (hhi : r.off < 0x100100) (hr : r.off ≠ 0x100000 + d) : r.copy (atqOff q d) = none := by
  unfold RegRow.copy
  rw [hstride, if_neg (by decide : ¬ (0x100 : Nat) = 0)]
  dsimp only
  split
  · rfl
  · rw [if_neg]
    unfold atqOff at *
    omega

theorem regFind_atqCfg (q : Fin 4096) : regFind (atqOff q 0xC0) = some (atqCfgRow, q.val) := by
  have hcopy := atqCfgRow.copy_atqOff rfl rfl q (d := 0xC0) rfl
  rw [regFind, regBlock_atqOff q (by decide)]
  change List.findSome? _ (atqCfgRow :: _) = _
  rw [List.findSome?_cons, hcopy]
  rfl

theorem regFind_atqCtl (q : Fin 4096) : regFind (atqOff q 0xD8) = some (atqCtlRow, q.val) := by
  have hnot (r : RegRow) (h : r ∈ regsAtq.take 3) : r.copy (atqOff q 0xD8) = none := by
    simp only [regsAtq, List.take_succ_cons, List.take_zero, List.mem_cons, List.not_mem_nil, or_false] at h
    rcases h with rfl | rfl | rfl <;> exact RegRow.copy_atqOff_ne rfl q (by decide) (by decide) (by decide) (by decide)
  have hsome := atqCtlRow.copy_atqOff rfl rfl q (d := 0xD8) rfl
  rw [regFind, regBlock_atqOff q (by decide)]
  change List.findSome? _ (regsAtq.take 3 ++ [atqCtlRow]) = _
  rw [List.findSome?_append, List.findSome?_eq_none_iff.mpr fun r h => by rw [hnot r h]; rfl, Option.none_or,
    List.findSome?_cons, hsome]
  rfl

theorem regHit_atqCfg (q : Fin 4096) : regHit (atqOff q 0xC0) 8 = .reg atqCfgRow q 0 64 := by
  have hal : ¬ (([4, 8] : List Nat).contains 8 = false ∨ atqOff q 0xC0 % 8 ≠ 0) := by
    have hmod : atqOff q 0xC0 % 8 = 0 := by unfold atqOff; omega
    simp [hmod]
  rw [regHit, if_neg hal, regFind_atqCfg]
  rfl

theorem regHit_atqCtl (q : Fin 4096) : regHit (atqOff q 0xD8) 4 = .reg atqCtlRow q 0 32 := by
  have hal : ¬ (([4, 8] : List Nat).contains 4 = false ∨ atqOff q 0xD8 % 4 ≠ 0) := by
    have hmod : atqOff q 0xD8 % 4 = 0 := by unfold atqOff; omega
    simp [hmod]
  rw [regHit, if_neg hal, regFind_atqCtl]
  rfl

/-! What a write leaves in the fields of a register. -/

theorem State.RegsBut.refl (s : State) (ks : List Nat) : s.RegsBut ks s := fun _ _ => rfl

theorem State.RegsBut.trans {s t u : State} {ks ls : List Nat} (h : s.RegsBut ks t) (g : t.RegsBut ls u) :
    s.RegsBut (ks ++ ls) u := fun k hk =>
  (g k fun hl => hk (List.mem_append_right _ hl)).trans (h k fun hl => hk (List.mem_append_left _ hl))

theorem State.RegsBut.rd {s t : State} {ks : List Nat} (h : s.RegsBut ks t) (f : FldDesc) (i : Nat) (hk : f.key i ∉ ks) :
    t.rd f i = s.rd f i := by
  simp only [State.rd, SMap.get_eq_find, h _ hk]

/-- The write of one field outside the HST blocks changes that field alone. -/
theorem State.fieldWrite_frame (s : State) (src i lo n v : Nat) {f : FldDesc} (hwin : f.off < hstBase) (a : State × Bool) :
    a.1.Only [.regs] (s.fieldWrite src i lo n v a f).1 ∧ a.1.RegsBut [f.key i] (s.fieldWrite src i lo n v a f).1 := by
  have hself : a.1.Only [.regs] a.1 ∧ a.1.RegsBut [f.key i] a.1 := ⟨State.Only.refl _ _, State.RegsBut.refl _ _⟩
  have hset (w : Nat) : a.1.Only [.regs] (a.1.setFld src f i w) ∧ a.1.RegsBut [f.key i] (a.1.setFld src f i w) := by
    rw [State.setFld, if_neg (Nat.not_le.mpr hwin)]
    exact ⟨a.1.only_wr _ _ _, a.1.regsBut_wr _ _ _⟩
  unfold State.fieldWrite
  split
  · exact hself
  · dsimp only
    split
    case h_1 | h_2 | h_3 =>
      split
      · exact hself
      · exact hset _
    case h_4 | h_5 => exact hself

theorem State.fieldsWrite_frame (s : State) (src i lo n v : Nat) {l : List FldDesc} (hwin : ∀ f ∈ l, f.off < hstBase)
    (a : State × Bool) : a.1.Only [.regs] (l.foldl (s.fieldWrite src i lo n v) a).1 ∧
      a.1.RegsBut (l.map (·.key i)) (l.foldl (s.fieldWrite src i lo n v) a).1 := by
  induction l generalizing a with
  | nil => exact ⟨State.Only.refl _ _, State.RegsBut.refl _ _⟩
  | cons f l ih =>
    obtain ⟨honly, hbut⟩ := s.fieldWrite_frame src i lo n v (hwin f (by simp)) a
    obtain ⟨honly', hbut'⟩ := ih (fun g hg => hwin g (by simp [hg])) (s.fieldWrite src i lo n v a f)
    exact ⟨honly.trans honly', hbut.trans hbut'⟩

/-- A field that takes a write holds a value in its limits (R11). -/
theorem State.rd_fieldWrite_le {s : State} {src i lo n v : Nat} {f : FldDesc} (hwin : f.off < hstBase)
    (htouch : f.touched lo n = true) (htaken : s.taken src f i lo n v = true) (hacc : f.acc = .rw) (hacts : actsOnly f = false)
    (henum : f.enum = []) (hmn : f.mn ≤ f.mx) (a : State × Bool) : (s.fieldWrite src i lo n v a f).1.rd f i ≤ f.mx := by
  have hw : (s.fieldWrite src i lo n v a f).1 = a.1.wr f (f.effective i (f.spliced (s.stored src f i) lo n v)) i := by
    simp only [State.fieldWrite, htouch, htaken, hacc, hacts, Bool.true_eq_false, Bool.false_eq_true, or_self, if_false,
      State.setFld, if_neg (Nat.not_le.mpr hwin)]
  rw [hw, State.rd_wr_same]
  refine (Nat.mod_le _ _).trans ?_
  rw [FldDesc.effective, henum]
  exact max_le hmn (min_le_left _ _)

/-! ATQ_CFG (R317). -/

/-- The registers of the clamp count (R13). -/
def clampKeys : List Nat := [D.GBL_CLAMPCNT_count.key 0, D.GBL_CLAMPLAST_src.key 0, D.GBL_CLAMPLAST_offset.key 0]

/-- What a write of a queue's configuration may change of the registers. -/
def atqCfgKeys (q : Nat) : List Nat := atqCfgSet.map (·.key q) ++ clampKeys

theorem key_notMem_clampKeys {f : FldDesc} (hoff : 0x100000 ≤ f.off) (i : Nat) : f.key i ∉ clampKeys := by
  simp only [clampKeys, FldDesc.key, D.GBL_CLAMPCNT_count, D.GBL_CLAMPLAST_src, D.GBL_CLAMPLAST_offset, List.mem_cons,
    List.not_mem_nil, or_false, not_or]
  generalize i * f.stride = d
  omega

/-- A field of a queue page that stands at another bit than those that ATQ_CFG sets. -/
theorem key_notMem_atqCfgKeys {f : FldDesc} (hoff : 0x100000 ≤ f.off) (hlo : f.lo < 64)
    (hne : ∀ g ∈ atqCfgSet, f.lo ≠ g.lo) (i q : Nat) : f.key i ∉ atqCfgKeys q := by
  rw [atqCfgKeys, List.mem_append, not_or]
  refine ⟨fun hmem => ?_, key_notMem_clampKeys hoff i⟩
  obtain ⟨g, hg, hkey⟩ := List.mem_map.mp hmem
  have hglo : ∀ g ∈ atqCfgSet, g.lo < 64 := by decide
  have hfg := hne g hg
  have hg64 := hglo g hg
  simp only [FldDesc.key] at hkey
  omega

/-- Another queue's configuration. -/
theorem key_notMem_atqCfgKeys_of_ne {f : FldDesc} (hf : f ∈ atqCfgSet) {i q : Nat} (hiq : i ≠ q) : f.key i ∉ atqCfgKeys q := by
  have hset : ∀ g ∈ atqCfgSet, g.off = 0x1000c0 ∧ g.stride = 0x100 ∧ g.lo < 64 := by decide
  obtain ⟨hfoff, hfstride, hflo⟩ := hset f hf
  rw [atqCfgKeys, List.mem_append, not_or]
  refine ⟨fun hmem => ?_, key_notMem_clampKeys (by omega) i⟩
  obtain ⟨g, hg, hkey⟩ := List.mem_map.mp hmem
  obtain ⟨hgoff, hgstride, hglo⟩ := hset g hg
  simp only [FldDesc.key, hfoff, hfstride, hgoff, hgstride] at hkey
  omega

theorem State.clampCount_regsBut (s : State) (src off : Nat) : s.RegsBut clampKeys (s.clampCount src off) :=
  ((s.regsBut_wr _ _ 0).trans (State.regsBut_wr _ _ _ 0)).trans (State.regsBut_wr _ _ _ 0)

/-- The fields that a write of ATQ_CFG sets; those of a queue that is not enabled are all taken, its order within its limits. -/
theorem State.atqCfg_written (s : State) (src v : Nat) (q : Nat) : ∃ a c,
    atqCfgRow.fields.foldl (s.fieldWrite src q 0 64 v) (s, false) = (a, c) ∧ s.Only [.regs] a ∧
      s.RegsBut (atqCfgSet.map (·.key q)) a ∧ (s.qOn q = false → a.rd D.ATQ_CFG_order q ≤ 16) := by
  have henable : s.fieldWrite src q 0 64 v (s, false) D.ATQ_CFG_enable = (s, false) := by
    have hacts : actsOnly D.ATQ_CFG_enable = true := by decide
    have hacc : D.ATQ_CFG_enable.acc = .rw := rfl
    simp only [State.fieldWrite, hacc, hacts, if_true, ite_self]
  have hfold : atqCfgRow.fields.foldl (s.fieldWrite src q 0 64 v) (s, false) =
      atqCfgSet.foldl (s.fieldWrite src q 0 64 v) (s, false) := by
    rw [show atqCfgRow.fields = D.ATQ_CFG_enable :: atqCfgSet from rfl, List.foldl_cons, henable]
  obtain ⟨honly, hbut⟩ := s.fieldsWrite_frame src q 0 64 v (l := atqCfgSet) (by decide) (s, false)
  refine ⟨_, _, hfold, honly, hbut, fun hoff => ?_⟩
  have htaken : s.taken src D.ATQ_CFG_order q 0 64 v = true := by
    have h : s.taken src D.ATQ_CFG_order q 0 64 v = (!s.bit D.ATQ_CFG_enable q ||
      ([D.ATQ_CFG_port.lo, D.ATQ_CFG_vector.lo, D.ATQ_CFG_ct.lo]).contains D.ATQ_CFG_order.lo ||
      (decide (63 < 0 + 64) && decide (D.ATQ_CFG_enable.given 0 64 v = 0))) := rfl
    rw [h, show s.bit D.ATQ_CFG_enable q = false from hoff]
    rfl
  let b := [D.ATQ_CFG_priv, D.ATQ_CFG_type].foldl (s.fieldWrite src q 0 64 v) (s, false)
  have hle := State.rd_fieldWrite_le (by decide) (by decide) htaken rfl (by decide) rfl (by decide) b
  have hrest := (s.fieldsWrite_frame src q 0 64 v (l := [D.ATQ_CFG_port, D.ATQ_CFG_vector, D.ATQ_CFG_ct]) (by decide)
    (s.fieldWrite src q 0 64 v b D.ATQ_CFG_order)).2
  refine (hrest.rd D.ATQ_CFG_order q ?_).trans_le hle
  simp only [List.map_cons, List.map_nil, FldDesc.key, D.ATQ_CFG_order, D.ATQ_CFG_port, D.ATQ_CFG_vector, D.ATQ_CFG_ct,
    List.mem_cons, List.not_mem_nil, or_false, not_or]
  omega

/-- A write of ATQ_CFG sets the fields, enables or disables as its bit 63 says, and saves the configuration. -/
theorem State.regWrite_atqCfg {s : State} (hrom : s.phase ≠ stRomRecovery) (src v : Nat) (q : Fin 4096) : ∃ a,
    s.Only [.regs] a ∧ s.RegsBut (atqCfgKeys q) a ∧ (s.qOn q = false → a.rd D.ATQ_CFG_order q ≤ 16) ∧
      s.regWrite src (atqOff q 0xC0) 8 v = (if D.ATQ_CFG_enable.given 0 64 v = 1 then a.qEnable q
        else if a.qOn q then a.qDisable q else a).atqSave q := by
  obtain ⟨a, c, hw, honly, hbut, hord⟩ := s.atqCfg_written src v q
  have hreg := State.regWrite_of_reg (libOk := true) (regHit_atqCfg q) (State.blockUp_of_phase hrom _) (by decide) (by decide) hw rfl
  have hact (b : State) : s.act b src atqCfgRow q 0 64 v true = (if D.ATQ_CFG_enable.given 0 64 v = 1 then b.qEnable q
      else if b.qOn q then b.qDisable q else b).atqSave q := rfl
  cases c
  case false =>
    exact ⟨a, honly, hbut.trans (State.RegsBut.refl a clampKeys), hord, hreg.trans (hact a)⟩
  case true =>
    have hclamp := a.clampCount_regsBut src (atqOff q 0xC0)
    refine ⟨_, honly.trans (a.clampCount_frame src (atqOff q 0xC0)).1, hbut.trans hclamp, fun hoff => ?_, hreg.trans (hact _)⟩
    exact (hclamp.rd D.ATQ_CFG_order q (key_notMem_clampKeys (by decide) q)).trans_le (hord hoff)

/-! What enabling and disabling leave (R317). -/

theorem State.pageWrite_regs_queues (s : State) (page : Nat) (data : Option Page) (owner : PgOwner) (flush : Bool) :
    (s.pageWrite page data owner flush).regs = s.regs ∧ (s.pageWrite page data owner flush).queues = s.queues := by
  obtain ⟨q, hq⟩ := s.pageWrite_led page data owner flush
  rw [hq]
  exact ⟨rfl, rfl⟩

theorem State.regs_atqSave (s : State) (n : Nat) : (s.atqSave n).regs = s.regs := (s.pageWrite_regs_queues ..).1
theorem State.queues_atqSave (s : State) (n : Nat) : (s.atqSave n).queues = s.queues := (s.pageWrite_regs_queues ..).2

theorem State.qOn_of_regs {s t : State} (h : t.regs = s.regs) (n : Nat) : t.qOn n = s.qOn n := by
  rw [State.qOn, State.qOn, State.bit, State.bit, State.rd_of_regs h]

section
variable {s a : State} {q : Nat} (h : s.RegsBut (atqCfgKeys q) a)
include h

/-- The write of a queue's configuration enables and disables none by itself. -/
theorem State.qOn_of_atqCfg (n : Nat) : a.qOn n = s.qOn n := by
  rw [State.qOn, State.qOn, State.bit, State.bit,
    h.rd D.ATQ_CFG_enable n (key_notMem_atqCfgKeys (by decide) (by decide) (by decide) n q)]

/-- The pool that the other queues take stays. -/
theorem State.poolUsed_of_atqCfg (hoff : s.qOn q = false) : a.poolUsed = s.poolUsed := by
  have hon : a.qOn = s.qOn := funext (State.qOn_of_atqCfg h)
  rw [State.poolUsed, State.poolUsed, hon]
  refine congrArg List.sum (List.map_congr_left fun n hn => ?_)
  have hnq : n ≠ q := fun e => by simp [e, hoff] at hn
  rw [State.qCap, State.qCap, h.rd D.ATQ_CFG_order n (key_notMem_atqCfgKeys_of_ne (by decide) hnq)]
end

/-- Enabling allocates the capacity, which is 65,536 entries at most, where the pool has room for it. -/
theorem State.qEnable_allocates {a : State} {n : Nat} (hoff : a.qOn n = false) (hord : a.rd D.ATQ_CFG_order n ≤ 16)
    (hpool : a.poolUsed + 65536 ≤ 16777216) :
    a.qEnable n = (a.wr D.ATQ_CFG_enable 1 n).wr D.ATQ_STAT_nospace 0 n := by
  have hcap : a.qCap n ≤ 65536 := Nat.pow_le_pow_right (by decide) hord
  rw [State.qEnable, hoff, if_neg Bool.false_ne_true, if_pos (by omega)]

/-- The content of a queue is discarded, and no other queue changes (R317, R326). -/
theorem State.queue_qEmpty (s : State) (n : Nat) : (s.qEmpty n).queue n = AQueue.init ∧
    ∀ k, k ≠ n → (s.qEmpty n).queue k = s.queue k := by
  have hqueue (k : Nat) : (s.qEmpty n).queue k = (s.setQueue n AQueue.init).queue k :=
    State.queue_of_queues (State.queues_qUnhold ..) k
  exact ⟨(hqueue n).trans (State.queue_setQueue_same ..), fun k hk => (hqueue k).trans (State.queue_setQueue_ne _ _ hk.symm)⟩

/-- The entries of the open packet become visible, and no other queue changes (R320). -/
theorem State.queue_qClose {s : State} {n : Nat} (hopen : (s.queue n).packet = true) :
    (s.qClose n).queue n = ⟨(s.queue n).vis ++ (s.queue n).held, [], false, false⟩ ∧
      ∀ k, k ≠ n → (s.qClose n).queue k = s.queue k := by
  have hqueue (k : Nat) : (s.qClose n).queue k =
      (s.setQueue n ⟨(s.queue n).vis ++ (s.queue n).held, [], false, false⟩).queue k := by
    rw [State.qClose, if_pos hopen]
    exact State.queue_of_queues ((State.queues_qSend ..).trans (State.queues_qUnhold ..)) k
  exact ⟨(hqueue n).trans (State.queue_setQueue_same ..), fun k hk => (hqueue k).trans (State.queue_setQueue_ne _ _ hk.symm)⟩

/-- A COMPL or DATA queue that shows nothing is left armed (R327). -/
theorem State.qArm_arms {s : State} {n : Nat} (htype : s.qType n ≠ qCall) (hvis : (s.queue n).vis = []) :
    s.qArm n = s.wr D.ATQ_STAT_armed 1 n := by
  have hvis' : ((s.wr D.ATQ_STAT_armed 1 n).queue n).vis = [] := hvis
  rw [State.qArm, if_neg htype, State.qSend, if_neg fun h => h.2.1 hvis']

/-! ATQ_CTL (R320, R326, R327). -/

/-- A write of ATQ_CTL resets, closes and arms, as its bits say. -/
theorem State.regWrite_atqCtl {s : State} (hrom : s.phase ≠ stRomRecovery) (src v : Nat) (q : Fin 4096) :
    s.regWrite src (atqOff q 0xD8) 4 v = s.actAtq 0x1000d8 q 0 32 fun f => f.given 0 32 v := by
  have hw : atqCtlRow.fields.foldl (s.fieldWrite src q 0 32 v) (s, false) = (s, false) := rfl
  have hact : s.act s src atqCtlRow q 0 32 v true = s.actAtq 0x1000d8 q 0 32 fun f => f.given 0 32 v := rfl
  rw [State.regWrite_of_reg (regHit_atqCtl q) (State.blockUp_of_phase hrom _) (by decide) (by decide) hw rfl,
    if_neg Bool.false_ne_true, hact]

/-! The commands. -/

section
variable {port : Fin 4} {s : State} (hq : s.portQuiet port = true)
include hq

theorem exec_atqEnable_of_portQuiet (queue : Fin 4096) (cfg : BitVec 63) : exec (.atqEnable port queue cfg) s =
    .next (s.regWrite port (atqOff queue 0xC0) 8 (2 ^ 63 + cfg.toNat)) :=
  congrArg _ (State.portWrite_of_portQuiet _ _ _ _ hq)
theorem exec_atqDisable_of_portQuiet (queue : Fin 4096) (cfg : BitVec 63) : exec (.atqDisable port queue cfg) s =
    .next (s.regWrite port (atqOff queue 0xC0) 8 cfg.toNat) :=
  congrArg _ (State.portWrite_of_portQuiet _ _ _ _ hq)
theorem exec_atqReset_of_portQuiet (queue : Fin 4096) :
    exec (.atqReset port queue) s = .next (s.regWrite port (atqOff queue 0xD8) 4 4) :=
  congrArg _ (State.portWrite_of_portQuiet _ _ _ _ hq)
theorem exec_atqClose_of_portQuiet (queue : Fin 4096) :
    exec (.atqClose port queue) s = .next (s.regWrite port (atqOff queue 0xD8) 4 2) :=
  congrArg _ (State.portWrite_of_portQuiet _ _ _ _ hq)
theorem exec_atqArm_of_portQuiet (queue : Fin 4096) :
    exec (.atqArm port queue) s = .next (s.regWrite port (atqOff queue 0xD8) 4 1) :=
  congrArg _ (State.portWrite_of_portQuiet _ _ _ _ hq)

variable (hrom : s.phase ≠ stRomRecovery)
include hrom

theorem atqEnable_allocates (queue : Fin 4096) (cfg : BitVec 63) (hoff : s.qOn queue = false)
    (hpool : s.poolUsed + 65536 ≤ 16777216) : Answers (.atqEnable port queue cfg) s fun t =>
      t.qOn queue = true ∧ t.rd D.ATQ_STAT_nospace queue = 0 ∧ t.queues = s.queues := by
  have hgiven : D.ATQ_CFG_enable.given 0 64 (2 ^ 63 + cfg.toNat) = 1 := by
    have h : D.ATQ_CFG_enable.given 0 64 (2 ^ 63 + cfg.toNat) =
      (0 % 2 ^ 0 + (2 ^ 63 + cfg.toNat) % 2 ^ 64 * 2 ^ 0 + 0) / 2 ^ 63 % 2 ^ 1 := rfl
    have hcfg := cfg.isLt
    omega
  obtain ⟨a, honly, hbut, hord, hwrite⟩ := State.regWrite_atqCfg hrom port (2 ^ 63 + cfg.toNat) queue
  rw [if_pos hgiven, State.qEnable_allocates ((State.qOn_of_atqCfg hbut queue).trans hoff) (hord hoff)
    ((State.poolUsed_of_atqCfg hbut hoff).symm ▸ hpool)] at hwrite
  generalize hb : (a.wr D.ATQ_CFG_enable 1 queue).wr D.ATQ_STAT_nospace 0 queue = b at hwrite
  have hon : b.qOn queue = true := by
    have hne : D.ATQ_STAT_nospace.key queue ≠ D.ATQ_CFG_enable.key queue := by
      simp only [FldDesc.key, D.ATQ_STAT_nospace, D.ATQ_CFG_enable]
      omega
    rw [← hb, State.qOn, State.bit, State.rd_wr_ne _ _ _ _ _ _ hne, State.rd_wr_same]
    decide
  have hspace : b.rd D.ATQ_STAT_nospace queue = 0 := by rw [← hb, State.rd_wr_same, Nat.zero_mod]
  have hqueues : b.queues = s.queues := by
    rw [← hb]
    exact honly .queues (by decide)
  refine answers_of_exists ⟨_, (exec_atqEnable_of_portQuiet hq queue cfg).trans (congrArg _ hwrite), ?_, ?_, ?_⟩
  · exact (State.qOn_of_regs (b.regs_atqSave queue) queue).trans hon
  · exact (State.rd_of_regs (b.regs_atqSave queue) _ _).trans hspace
  · exact (b.queues_atqSave queue).trans hqueues

theorem atqDisable_discards (queue : Fin 4096) (cfg : BitVec 63) (hon : s.qOn queue = true) :
    Answers (.atqDisable port queue cfg) s fun t => t.qOn queue = false ∧ t.queue queue = AQueue.init ∧
      ∀ n, n ≠ queue.val → t.queue n = s.queue n := by
  have hgiven : D.ATQ_CFG_enable.given 0 64 cfg.toNat ≠ 1 := by
    have h : D.ATQ_CFG_enable.given 0 64 cfg.toNat = (0 % 2 ^ 0 + cfg.toNat % 2 ^ 64 * 2 ^ 0 + 0) / 2 ^ 63 % 2 ^ 1 := rfl
    have hcfg := cfg.isLt
    omega
  obtain ⟨a, honly, hbut, -, hwrite⟩ := State.regWrite_atqCfg hrom port cfg.toNat queue
  rw [if_neg hgiven, if_pos ((State.qOn_of_atqCfg hbut queue).trans hon), State.qDisable] at hwrite
  obtain ⟨hsame, hother⟩ := a.queue_qEmpty queue
  generalize a.qEmpty queue = b at hwrite hsame hother
  have hqueue (n : Nat) : (((b.wr D.ATQ_CFG_enable 0 queue).atqSave queue).queue n) = b.queue n :=
    State.queue_of_queues (State.queues_atqSave (b.wr D.ATQ_CFG_enable 0 queue) queue) n
  refine answers_of_exists ⟨_, (exec_atqDisable_of_portQuiet hq queue cfg).trans (congrArg _ hwrite), ?_,
    (hqueue queue).trans hsame, fun n hn => (hqueue n).trans ((hother n hn).trans (State.queue_of_queues (honly .queues (by decide)) n))⟩
  refine (State.qOn_of_regs (State.regs_atqSave (b.wr D.ATQ_CFG_enable 0 queue) queue) queue).trans ?_
  rw [State.qOn, State.bit, State.rd_wr_same]
  decide

theorem atqReset_discards (queue : Fin 4096) : Answers (.atqReset port queue) s fun t =>
    t.queue queue = AQueue.init ∧ ∀ n, n ≠ queue.val → t.queue n = s.queue n := by
  have hact : s.regWrite port (atqOff queue 0xD8) 4 4 = s.qEmpty queue := State.regWrite_atqCtl hrom port 4 queue
  obtain ⟨hsame, hother⟩ := s.queue_qEmpty queue
  exact answers_queue ((exec_atqReset_of_portQuiet hq queue).trans (congrArg _ hact)) hsame hother

theorem atqClose_closes (queue : Fin 4096) (hopen : (s.queue queue).packet = true) : Answers (.atqClose port queue) s fun t =>
    t.queue queue = ⟨(s.queue queue).vis ++ (s.queue queue).held, [], false, false⟩ ∧
      ∀ n, n ≠ queue.val → t.queue n = s.queue n := by
  have hact : s.regWrite port (atqOff queue 0xD8) 4 2 = s.qClose queue := State.regWrite_atqCtl hrom port 2 queue
  obtain ⟨hsame, hother⟩ := State.queue_qClose hopen
  exact answers_queue ((exec_atqClose_of_portQuiet hq queue).trans (congrArg _ hact)) hsame hother

theorem atqArm_arms (queue : Fin 4096) (htype : s.qType queue ≠ qCall) (hvis : (s.queue queue).vis = []) :
    Answers (.atqArm port queue) s fun t => t.rd D.ATQ_STAT_armed queue = 1 ∧ s.Only [.regs] t := by
  have hact : s.regWrite port (atqOff queue 0xD8) 4 1 = s.qArm queue := State.regWrite_atqCtl hrom port 1 queue
  rw [State.qArm_arms htype hvis] at hact
  exact answers_of_exec ((exec_atqArm_of_portQuiet hq queue).trans (congrArg _ hact)) rfl
    ⟨State.rd_wr_same s D.ATQ_STAT_armed 1 queue, s.only_wr _ _ _⟩
end

/-- Settles O33: each command is one write of a register of the queue's page, which starts what its bits say. -/
theorem atriumControlRuns : Obligations.AtriumControlRuns := by
  unfold Obligations.AtriumControlRuns
  refine ⟨?enable, ?disable, ?reset, ?close, ?arm⟩
  case enable => exact fun port queue cfg s hq hrom hoff hpool => atqEnable_allocates hq hrom queue cfg hoff hpool
  case disable => exact fun port queue cfg s hq hrom hon => atqDisable_discards hq hrom queue cfg hon
  case reset => exact fun port queue s hq hrom => atqReset_discards hq hrom queue
  case close => exact fun port queue s hq hrom hopen => atqClose_closes hq hrom queue hopen
  case arm => exact fun port queue s hq hrom htype hvis => atqArm_arms hq hrom queue htype hvis

end Sys2Proof.Machine
end
